-- ==== Sys2Proof/Word.lean ====
section
/-! DEFINITION. The word types of the module's wires: bytes, 32-bit SPI words, and the timebase tick. -/

namespace Sys2Proof

/-- One byte, the unit of every packet and record (00: little-endian multi-byte fields). -/
abbrev Byte := BitVec 8

/-- One 32-bit word of the host SPI register window (R271). -/
abbrev Word := BitVec 32

/-- An instant or a span on the timebase, in cycles of 204.8 MHz (R12). -/
abbrev Tick := Nat

/-- Timebase cycles in `n` milliseconds (R12: 204 800 cycles each). -/
abbrev Tick.ms (n : Nat) : Tick := 204800 * n

/-- Timebase cycles in `n` microseconds, rounded down (R12: 204.8 cycles each). -/
abbrev Tick.us (n : Nat) : Tick := 1024 * n / 5

/-- Timebase cycles in `n` seconds (R12). -/
abbrev Tick.s (n : Nat) : Tick := 204800000 * n

/-- Timebase cycles of one main-path sample, 31.25 µs (R12). -/
abbrev Tick.sample : Tick := 6400

/-- Timebase cycles of one commit epoch, 10.000 ms (R12). -/
abbrev Tick.epoch : Tick := 2048000

end Sys2Proof
end

