-- ==== Sys2Proof/Syntax/Base.lean ====
section
/-! DEFINITION. The closed vocabularies that commands and state share: senders, modes, life-cycle states,
ordering variants, and the header of a Brixo request. -/

namespace Sys2Proof

/-- The ordering variants of R1. -/
inductive Variant where
  | t3 | td | tdh
  deriving DecidableEq, Repr

/-- The sender identities of R267, in code order 0–7. -/
inductive Sender where
  | internal | hostSpi | ethE0 | ethE1 | lintel | hingePeer | letterbox | spyhole
  deriving DecidableEq, Repr

/-- The SENDER byte of R267. -/
def Sender.code : Sender → Nat
  | .internal => 0 | .hostSpi => 1 | .ethE0 => 2 | .ethE1 => 3
  | .lintel => 4 | .hingePeer => 5 | .letterbox => 6 | .spyhole => 7

/-- The operating modes of R30; `none` is code 0x00 (no mode entered yet). -/
inductive Mode where
  | none | factory | commission | service | watch | holdup | recovery
  deriving DecidableEq, Repr

/-- The MODE code of R30. -/
def Mode.code : Mode → Nat
  | .none => 0 | .factory => 1 | .commission => 2 | .service => 3
  | .watch => 4 | .holdup => 5 | .recovery => 6

/-- The life-cycle states of R34. -/
inductive Lifecycle where
  | blank | factory | field | returned | ended
  deriving DecidableEq, Repr

/-- The life-cycle code of R34. -/
def Lifecycle.code : Lifecycle → Nat
  | .blank => 0 | .factory => 1 | .field => 2 | .returned => 3 | .ended => 4

/-- The header of a Brixo request as it reaches its opcode: the stamped sender (R267), channel and SEQ (R276,
R280), and whether LEN agrees with the opcode's layout and every reserved field is zero (R282, R283). -/
structure Req where
  sender : Sender
  chan : Nat
  seq : Nat
  lenOk : Bool := true
  reservedZero : Bool := true
  deriving DecidableEq, Repr

/-- The five operating domains of R8. -/
inductive Domain where
  | d0 | d1 | d2 | d3 | d4
  deriving DecidableEq, Repr

/-- The task classes of R241, in the order that equal deadlines take (R244). -/
inductive TaskClass where
  | m | l | v | s | p | c | b
  deriving DecidableEq, Repr

/-- Rank of a class among equal deadlines (R244). -/
def TaskClass.rank : TaskClass → Nat
  | .m => 0 | .l => 1 | .v => 2 | .s => 3 | .p => 4 | .c => 5 | .b => 6

/-- A request of Kiln to Shutter through the D1 request registers (R342). -/
inductive ShuReq where
  | close
  | openOrderly (cause : Nat)
  | openNow (cause : Nat)
  | pwm (duty : Nat)
  | limit (mA : Nat) (dc : Bool)
  | reclaim
  | reset (mask : Nat)
  | rcmTest
  deriving DecidableEq, Repr

/-- What one Shutter channel measures in an evaluation cycle (R337): residual current as RMS over 20 ms and means over 50 ms
and 300 ms, 0.1 mA before SHU.RCM_GAIN; the pads KFB1, KFB2, ESTOP_A, ESTOP_B high. -/
structure ChanIn where
  ac : Nat
  dc50 : Int
  dc300 : Int
  kfb1 : Bool
  kfb2 : Bool
  estopA : Bool
  estopB : Bool
  deriving DecidableEq, Repr

/-- The inputs of one Shutter evaluation cycle: both channels; whether channel B received a valid D2 frame; the PWM period it
measured, ns; its oscillator deviation, 0.01 %; VAUX_IN and MOD1, mV; SRESET low. -/
structure CycleIn where
  a : ChanIn
  b : ChanIn
  linkOk : Bool
  pwmNs : Nat
  oscB : Int
  vaux : Nat
  mod1 : Nat
  sreset : Bool
  deriving DecidableEq, Repr

/-- The readings of one step of the residual-current self-test (R347), 0.1 mA before SHU.RCM_GAIN, of channels A and B. -/
structure RcmReading where
  dcA : Int
  acA : Nat
  dcB : Int
  acB : Nat
  excitationOk : Bool
  deriving DecidableEq, Repr

/-- A SLAC message of the vehicle (R318); an attenuation profile carries its mean over the sounds received, dB. -/
inductive SlacMsg where
  | parm | startAttenChar | mnbcSound | attenChar (mean : Nat) | matchReq | setKey | validate
  deriving DecidableEq, Repr

/-- A message of the vehicle under SDP, TLS or a V2G protocol (R320), with the decoded fields the rules use. -/
inductive V2GMsg where
  | sdp
  | tlsDone (v13 : Bool)
  | appProtocol (byPriority : List Nat)
  | sessionSetup (id : Nat) (evccid : List Byte)
  | paymentContract (emaid : List Byte) (chainValid : Bool)
  | authorization
  | chargeParameters (iMax vMax pMax : Nat) (bpt : Bool)
  | cableCheck
  | preCharge (v : Nat)
  | powerDelivery (start : Bool)
  | currentDemand (v : Nat) (i : Int)
  | chargeLoop (target : Int)
  | weldingDetection
  | sessionStop (terminate : Bool)
  | certificateInstallation (body : List Byte)
  | certificateUpdate (body : List Byte)
  deriving DecidableEq, Repr

/-- A frame on the CAN FD port: identifier and data bytes (R328). -/
structure CanFrame where
  id : Nat
  data : List Byte
  deriving DecidableEq, Repr

/-- A fabric packet (R467), with its payload. -/
structure FabricPacket where
  ttl : Nat
  bcast : Bool
  down : Bool
  dst : Nat
  src : Nat
  type : Nat
  prio : Nat
  msgId : Nat
  fragNo : Nat
  fragCount : Nat
  payload : List Byte
  deriving DecidableEq, Repr

/-- The fabric block of a hello or beacon (R464). -/
structure HelloBlock where
  moduleId : Nat
  rootId : Nat
  short : Nat
  depth : Nat
  rootPrio : Nat
  pathCost : Nat
  spare : Nat
  tableId : Nat
  leadAddr : Nat
  leadSpare : Nat
  deriving DecidableEq, Repr

/-- The fields of a token message (R473) beside its OP, with the address of its sender. -/
structure TokenMsg where
  src : Nat
  count : Nat
  xferId : Nat
  tableId : Nat
  leaseMs : Nat
  tokens : List Nat
  deriving DecidableEq, Repr

/-- A mains-carrier frame header as received (R451). -/
structure McHeader where
  src : Nat
  dst : Nat
  seq : Nat
  nseg : Nat
  len : Nat
  retry : Nat
  tmi : Nat
  down : Nat
  prio : Nat
  deriving DecidableEq, Repr

end Sys2Proof
end

