-- ==== Sys2Proof/Machine/Parts/Billing.lean ====
section
/-! DEFINITION. State of civil time, tariffs, demand, profiles, billing periods, statements and prepayment (09). -/

namespace Sys2Proof.Machine

/-- One time-zone entry (R202). -/
structure TzEntry where
  utcFrom : Int
  offset : Int
  dst : Bool
  deriving DecidableEq, Repr

/-- A time-zone table (R202). -/
structure TzTable where
  version : Nat
  entries : List TzEntry
  crc : Nat
  deriving DecidableEq, Repr

/-- A special day of a calendar (R210). -/
structure SpecialDay where
  year : Nat
  month : Nat
  day : Nat
  profile : Nat
  friendly : Bool
  deriving DecidableEq, Repr

/-- A tariff calendar (R210): seasons (month, day, week), week profiles, day profiles of (minute, rate). -/
structure Calendar where
  id : Nat
  version : Nat
  activateAt : Int
  seasons : List (Nat × Nat × Nat)
  weeks : List (List Nat)
  days : List (List (Nat × Nat))
  specials : List SpecialDay
  deriving DecidableEq, Repr

/-- An accepted time setting (R204): effective epoch, new civil ticks at that epoch's start, and whether it steps. -/
structure TimeChange where
  epoch : Nat
  delta : Int
  step : Bool
  deriving DecidableEq, Repr

/-- A clock step as the closings of its intervals see it (R225, R226): its epoch, civil ticks before and after, and whether
it ended TIME_UNSET. A gap is a restart of D2 alone (R39, R216), with TIME_UNSET as it stands. -/
structure StepDue where
  epoch : Nat
  old : Int
  new : Int
  unset : Bool
  gap : Bool
  deriving DecidableEq, Repr

/-- A demand maximum (R214). -/
structure MaxDemand where
  watts : Nat := 0
  rate : Nat := 0
  endCivil : Int := 0
  deriving DecidableEq, Repr

/-- An open profile interval (R215, R217): start totals, epochs covered, and sums for the means. -/
structure Interval where
  fineStart : List Nat := List.replicate 36 0
  epochs : Nat := 0
  flags : Nat := 0
  measN : Nat := 0
  sums : List Nat := List.replicate 8 0
  deriving DecidableEq, Repr

/-- A load-profile record (R216). -/
structure ProfileRec where
  no : Nat
  flags : Nat
  rate : Nat
  cfgGen : Nat
  endCivil : Int
  closeEpoch : Nat
  poweredS : Nat
  skippedN : Nat
  values : List Nat
  deriving DecidableEq, Repr

/-- A fine-profile record (R218), with the full closing epoch. -/
structure FineRec where
  no : Nat
  epoch : Nat
  flags : Nat
  values : List Nat
  deriving DecidableEq, Repr

/-- A billing record (R221). -/
structure BillRec where
  period : Nat
  flags : Nat
  rateAtClose : Nat
  cause : Nat
  startCivil : Int
  endCivil : Int
  closeEpoch : Nat
  totals : List Nat
  rateImp : List Nat
  rateExp : List Nat
  maxImp : MaxDemand
  maxExp : MaxDemand
  credit : Int
  readingNo : Nat
  deriving DecidableEq, Repr

/-- The open-session block of the ledger state (R227, R234). -/
structure OpenSession where
  startEpoch : Nat
  startCivil : Int
  fineImp : Nat
  fineExp : Nat
  authKind : Nat
  authRef : List Byte
  rateMask : Nat
  peakW : Nat
  cost : Int
  costResidue : Int
  flags : Nat
  deriving DecidableEq, Repr

/-- A session statement (R227); the signature comes with its reading. -/
structure Statement where
  no : Nat
  readingNo : Nat
  startEpoch : Nat
  endEpoch : Nat
  startCivil : Int
  endCivil : Int
  authKind : Nat
  endCause : Nat
  flags : Nat
  authRef : List Byte
  energyImp : Nat
  energyExp : Nat
  startImp : Nat
  cost : Int
  peakW : Nat
  rateMask : Nat
  source : Nat
  signature : List Byte
  deriving DecidableEq, Repr

/-- Tariffs, demand, load profiles and prepayment (09). -/
structure Billing where
  /-- signed ticks since 2000-01-01 · R204 (09) · civil time at the start of the present timebase epoch -/
  civil : Int := 0
  /-- 1 bit · R19 (01) · TIME_UNSET: civil time not set since the last RTC loss -/
  timeUnset : Bool := true
  /-- signed ticks · R204 (09) · difference still to absorb by a slew -/
  slewLeft : Int := 0
  /-- record · R204 (09) · accepted setting that takes effect at the next epoch -/
  change : Option TimeChange := none
  /-- R202 layout · R202 (09) · time-zone table -/
  tz : Option TzTable := none
  /-- R210 layout · R210 (09) · active calendar -/
  active : Option Calendar := none
  /-- R210 layout · R210 (09) · passive calendar waiting for ACTIVATE_AT -/
  passive : Option Calendar := none
  /-- 1–8 · R205 (09) · rate in force -/
  rate : Nat := 1
  /-- 8 × u128, q · R209 (09) · import rate totals T1–T8 -/
  rateImp : List Nat := List.replicate 8 0
  /-- 8 × u128, q · R209 (09) · export rate totals T1–T8 -/
  rateExp : List Nat := List.replicate 8 0
  /-- 64 bits · R180 (08) · last epoch attributed by Kiln, THROUGH[4] -/
  through : Nat := 0
  /-- epoch and signed s · R222 (09) · boundary that attribution has reached and that waits to be processed -/
  boundary : Option (Nat × Int) := none
  /-- signed s · R206 (09) · next whole civil minute whose boundary has not been processed -/
  nextT : Int := 60
  /-- 36 × u128, q · R209 (09) · group 0 fine totals at the point that attribution has reached -/
  fineAt : List Nat := List.replicate 36 0
  /-- records, oldest first · R225, R226 (09) · clock steps whose closings wait for attribution to reach their epoch -/
  stepDue : List StepDue := []
  /-- epoch and profile (1 load, 2 fine) · R215 (09) · configuration changes that wait for attribution -/
  cfgDue : List (Nat × Nat) := []
  /-- q, 15 × 2 · R213 (09) · energies of the last subperiods, newest first, import and export -/
  subperiods : List (Nat × Nat) := []
  /-- q · R213 (09) · energy of the running subperiod, import and export -/
  subNow : Nat × Nat := (0, 0)
  /-- 16 bits · R213 (09) · flags of the running demand subperiod (R216 positions) -/
  subFlags : Nat := 0
  /-- W · R238 (09) · last import and export demand -/
  lastDemand : Nat × Nat := (0, 0)
  /-- record · R214 (09) · largest import demand of the period -/
  maxImp : MaxDemand := {}
  /-- record · R214 (09) · largest export demand of the period -/
  maxExp : MaxDemand := {}
  /-- record · R215 (09) · running load-profile interval -/
  load : Interval := {}
  /-- record · R215 (09) · running fine-profile interval -/
  fine : Interval := {}
  /-- 38 400 × 64 bytes, MRAM · R216 (09) · load profile, oldest first -/
  profile : List ProfileRec := []
  /-- 50 400 × 16 bytes, MRAM · R218 (09) · fine profile, oldest first -/
  fineRecs : List FineRec := []
  /-- 32 bits · R186 (08) · REC_NO of the next load-profile record -/
  nextRec : Nat := 1
  /-- 32 bits · R186 (08) · number of the next fine record -/
  nextFine : Nat := 1
  /-- 8 bits · R215 (09) · CFG_GEN -/
  cfgGen : Nat := 0
  /-- signed s · R225 (09) · largest END_CIVIL written -/
  maxEndCivil : Option Int := none
  /-- signed s · R225 (09) · largest interval end of a fine record written -/
  maxEndFine : Option Int := none
  /-- signed s · R220 (09) · M_BILL -/
  mBill : Int := 0
  /-- 32 bits · R221 (09) · PERIOD_NO of the open period -/
  periodNo : Nat := 1
  /-- 16 bits · R221 (09) · flags of the open period -/
  periodFlags : Nat := 0
  /-- 12 × 256 bytes, MRAM · R220 (09) · billing history, oldest first -/
  history : List BillRec := []
  /-- requests and epochs, oldest first · R220 (09) · commanded billing closes that are due -/
  closeDue : List (Option Req × Nat) := []
  /-- record · R227 (09) · open session -/
  session : Option OpenSession := none
  /-- 20 000 × 160 bytes, MRAM · R227 (09) · statements, oldest first -/
  statements : List Statement := []
  /-- 32 bits · R186 (08) · STMT_NO of the next statement -/
  nextStmt : Nat := 1
  /-- i64 · R228 (09) · credit -/
  credit : Int := 0
  /-- integer · R228 (09) · residue R -/
  residue : Nat := 0
  /-- 1 bit · R232 (09) · emergency credit active -/
  emergency : Bool := false
  /-- 1 bit · R231 (09) · friendly time now -/
  friendly : Bool := false
  /-- 1 bit · R233 (09) · exhaustion cause of DISCONNECTED present -/
  causeExhausted : Bool := false
  /-- 1 bit · R233 (09) · command cause of DISCONNECTED present -/
  causeCommand : Bool := false
  /-- 1 bit · R233 (09) · exhaustion stop in progress -/
  stopping : Bool := false
  /-- 1 bit · R233 (09) · stop of a session after BIL_DISCONNECT in progress -/
  cmdStopping : Bool := false
  /-- epochs and amounts · R224 (09) · transfers accepted in epochs not yet attributed -/
  creditLate : List (Nat × Int) := []
  /-- 1 bit · R238 (09) · KM1 feedback mismatch recorded -/
  mismatch : Bool := false
  /-- 64 bits · R230 (09) · H, highest transfer identifier accepted -/
  windowH : Nat := 0
  /-- 256 bits · R230 (09) · identifiers accepted among H − 255 to H -/
  window : List Nat := []
  deriving DecidableEq, Repr

end Sys2Proof.Machine
end

