-- ==== Sys2Proof/Machine/Parts/Metering.lean ====
section
/-! DEFINITION. State of the metering domain D2 before the ledger: inputs and faults (03), the Sieve engine (04),
energy computation (05) and calibration (06). Slots follow R80, current channels are IA, IB, IC, IN, phases L1–L3,
paths follow R129. -/

namespace Sys2Proof.Machine

/-- An open over-range condition of a slot (R64). -/
structure OverRange where
  slot : Nat
  firstEpoch : Nat
  lastEpoch : Nat
  samples : Nat
  quiet : Nat
  logged : Bool
  deriving DecidableEq, Repr

/-- An active metering or MOD fault (R73, R74): cause of R79, slot (255 all), first epoch. -/
structure MetFault where
  cause : Nat
  slot : Nat
  firstEpoch : Nat
  /-- since when the condition is absent; none while it is present -/
  absentSince : Option Tick
  lastEpoch : Nat
  invalid : List Nat
  importQ : List Nat
  deriving DecidableEq, Repr

/-- A running MET_INPUT_SELFTEST (R72). -/
structure SelfTest where
  mask : Nat
  firstEpoch : Nat
  /-- instant of the first switch, in ticks of the epoch count -/
  start : Nat
  endAt : Tick
  req : Option Req
  deriving DecidableEq, Repr

/-- Measurement inputs and sensors (03). -/
structure Inputs where
  /-- 0–8 each · R62 (03) · crossfade weight w × 8 of IA, IB, IC, IN -/
  weight : List Nat := [0, 0, 0, 0]
  /-- 1 bit each · R63 (03) · GAIN_MISMATCH flag per current channel -/
  gainMismatch : List Bool := [false, false, false, false]
  /-- 0–100 each · R63 (03) · consecutive qualifying epochs beyond 0.2 % -/
  gmBad : List Nat := [0, 0, 0, 0]
  /-- 0–100 each · R63 (03) · consecutive epochs within 0.1 % -/
  gmGood : List Nat := [0, 0, 0, 0]
  /-- integers · R63 (03) · Σ xh·xl of the epoch over qualifying samples -/
  gmCross : List Int := [0, 0, 0, 0]
  /-- integers · R63 (03) · Σ xl² of the epoch over qualifying samples -/
  gmLow : List Int := [0, 0, 0, 0]
  /-- counts · R63 (03) · qualifying samples of the epoch -/
  gmCount : List Nat := [0, 0, 0, 0]
  /-- Q30 each · R147 (06) · newest ratio of R63 per current channel -/
  gmRatio : List Nat := [0, 0, 0, 0]
  /-- records · R64 (03) · open over-range conditions -/
  overRange : List OverRange := []
  /-- mask of slots · R78 (03) · OVR_SEEN bits, cleared by reading -/
  ovrSeen : Nat := 0
  /-- records · R73 (03) · active metering and MOD faults -/
  faults : List MetFault := []
  /-- mask of slots and instant, in ticks of the epoch count · R88 (04) · input switches whose settling-invalid samples have
  not all left the paths -/
  switches : List (Nat × Nat) := []
  /-- epoch and w × 8 of the current channels · R78 (03) · weights of the last 400 kSPS sample of the last epochs -/
  weightEnds : List (Nat × List Nat) := []
  /-- records · R75 (03) · faults of an earlier run whose closing entries follow at the next D2 start -/
  closings : List MetFault := []
  /-- counts · R70 (03) · consecutive bad or missing status frames -/
  badFrames : Nat := 0
  /-- counts · R70 (03) · frames since the metering die exceeded 135 °C -/
  hotFrames : Nat := 0
  /-- counts per path · R70 (03) · run of identical bits on each of the 14 streams -/
  run : List Nat := [0, 0, 0, 0, 0, 0, 0, 0, 0, 0, 0, 0, 0, 0]
  /-- 1 bit · R68 (03) · PE_OK -/
  peOk : Bool := false
  /-- 0–3 · R68 (03) · consecutive failing 10 ms windows -/
  peFail : Nat := 0
  /-- 0–10 · R68 (03) · consecutive passing 10 ms windows -/
  pePass : Nat := 0
  /-- 16 bits, kΩ · R78 (03) · PE_S impedance less the chain -/
  peZ : Nat := 65535
  /-- 16 bits, 0.1 V · R78 (03) · neutral-to-PE voltage -/
  peNpe : Nat := 0
  /-- ticks · R396 (16) · neutral-to-PE voltage above SAG.EARTH_LOAD_V since -/
  npeSince : Option Tick := none
  /-- signed, 0.1 mT · R78 (03) · HALL at the end of the epoch -/
  hall : Int := 0
  /-- 0.1 mT · R78 (03) · HALL_PEAK, cleared by reading -/
  hallPeak : Nat := 0
  /-- ticks · R69 (03) · open MAG_FIELD condition since -/
  magSince : Option Tick := none
  /-- ticks · R69 (03) · field at or above MET.MAG_LIMIT since -/
  magHigh : Option Tick := none
  /-- ticks · R69 (03) · field below 80 % of MET.MAG_LIMIT since -/
  magLow : Option Tick := none
  /-- signed, 0.01 °C · R78 (03) · metering-die temperature -/
  dieTemp : Int := 0
  /-- sum · R135 (06) · sum of the die temperature over the frames of the epoch -/
  tempSum : Int := 0
  /-- count · R135 (06) · frames of the epoch in tempSum -/
  tempN : Nat := 0
  /-- 0.1 mT · R69 (03) · largest magnitude since the field reached MET.MAG_LIMIT -/
  magPeak : Nat := 0
  /-- mask of slots · R78 (03) · STARTUP_TEST, passed bits -/
  startupTest : Nat := 0
  /-- record · R72 (03) · running self-test -/
  selfTest : Option SelfTest := none
  /-- ticks · R73 (03) · the 1.0 s bound within which Shutter opens KM -/
  stopBy : Option Tick := none
  deriving DecidableEq, Repr

/-- A coefficient set of R89. -/
structure SieveSet where
  id : Nat
  version : Nat
  n1 : Nat
  n1m : Nat
  n2 : Nat
  ns : Nat
  n3 : Nat
  shift1 : Nat
  shift2 : Nat
  shift3 : Nat
  shiftS : Nat
  h1 : List Int
  h1m : List Int
  h2 : List Int
  h3 : List Int
  hs : List Int
  crc : Nat
  deriving DecidableEq, Repr

/-- One first-stage sample of a current channel in the look-ahead window of R62. -/
structure Look where
  xl : Int
  xh : Int
  overload : Bool
  deriving DecidableEq, Repr

/-- One row of main-path codes that is ready to leave the path: ten slots, with the over-range and settling marks. -/
structure MainRow where
  codes : List Int
  ovr : Nat
  sat : Nat
  deriving DecidableEq, Repr

/-- The Sieve engine (04). -/
structure Sieve where
  /-- R89 layout, flash · R91 (04) · active coefficient set in flash; none before one is stored -/
  flashSet : Option SieveSet := none
  /-- R89 layout · R91 (04) · set in force -/
  inForce : Option SieveSet := none
  /-- 1 bit · R96 (04) · SET_SOURCE: ROM fallback in use -/
  romFallback : Bool := false
  /-- 1 bit · R92 (04) · halted -/
  halted : Bool := false
  /-- 64 bits · R92 (04) · accepted halt, first epoch halted -/
  haltAt : Option Nat := none
  /-- 64 bits · R92 (04) · accepted resumption, first epoch running -/
  resumeAt : Option Nat := none
  /-- 64 bits · R92 (04) · first halted epoch of the last halt -/
  haltFirst : Nat := 0
  /-- 64 bits · R92 (04) · first running epoch after the last halt -/
  haltEnd : Nat := 0
  /-- mask of slots · R96 (04) · SAT_MASK, cleared by reading -/
  satMask : Nat := 0
  /-- 64 bits · R96 (04) · SAT_EPOCH -/
  satEpoch : Nat := 0
  /-- slot, first epoch, last epoch · R83 (04) · open SIEVE_SATURATION conditions -/
  satOpen : List (Nat × Nat × Nat) := []
  /-- 64 bits · R15 (01) · epoch of the first sample after Sieve started -/
  first : Nat := 0
  /-- 1 bit · R91 (04) · the set in flash failed its check at D2 start and has not been loaded again -/
  refused : Bool := false
  /-- 64 bits · R92, R93 (04) · first epoch of a halt that a reset or an outage ended, not yet recorded -/
  haltOpen : Option Nat := none
  /-- ±1 per bit, newest first · R82 (04) · stage 1 delay line of each of the 14 paths -/
  bits : List (List Bool) := List.replicate 14 []
  /-- 13 samples, newest first · R62 (03) · look-ahead of each slot (xl only on voltage and MOD slots) -/
  look : List (List Look) := List.replicate 10 []
  /-- u, z, previous x · R87 (04) · integrator states of IA, IB, IC, IN -/
  integ : List (Int × Int × Int) := List.replicate 4 (0, 0, 0)
  /-- 32 bits, newest first · R82 (04) · blended 400 kSPS samples per slot, for stage 2 and settling -/
  line400 : List (List Int) := List.replicate 10 []
  /-- 32 bits, newest first · R82 (04) · stage 2 outputs per slot -/
  line80 : List (List Int) := List.replicate 10 []
  /-- count · R82 (04) · 400 kSPS samples since Sieve started -/
  n400 : Nat := 0
  /-- count · R82 (04) · stage 2 samples since Sieve started -/
  n80 : Nat := 0
  /-- count · R80 (04) · main-path rows formed since Sieve started -/
  nMain : Nat := 0
  /-- rows, oldest first · R84 (04) · main-path rows about to leave the path -/
  rows : List MainRow := []
  /-- 24 bits per slot · R82 (04) · newest settling-path codes -/
  settle : List Int := List.replicate 10 0
  /-- 24 bits per slot · R82 (04) · newest wide-path codes -/
  wide : List Int := List.replicate 10 0
  /-- 1/256 sample · R86 (04) · quadrature delay D; 0 before the first D2 start -/
  quadD : Nat := 0
  /-- two integers · R86 (04) · period P as a fraction, in 1/256 sample; none before two crossings were found -/
  period : Option (Nat × Nat) := none
  /-- 1 bit · R96 (04) · D is held for want of two crossings -/
  quadHeld : Bool := false
  /-- slot · R86, R96 (04) · reference voltage, none when no voltage qualifies -/
  quadRef : Option Nat := none
  /-- phase, epoch of the nearest sample and absolute 1/256 sample, newest first · R86 (04), R111 (05) · rising crossings
  of the voltages in the last epochs -/
  crossings : List (Nat × Nat × Nat) := []
  /-- sample since Sieve start and two masks of slots · R64 (03), R83 (04) · over-range and saturation marks of samples
  still inside the path -/
  marks : List (Nat × Nat × Nat) := []
  deriving DecidableEq, Repr

/-- What D2 keeps of one main-path sample of the epoch (R100–R107, R111). -/
structure Sample where
  /-- ten unaligned codes -/
  codes : List Int
  /-- quadrature voltage codes v′ per phase -/
  vq : List Int
  /-- prod = cv·ci per phase -/
  prod : List Int
  /-- cv′·ci per phase -/
  prodQ : List Int
  /-- pc(n)·W_x per phase, q -/
  e : List Int
  /-- qc(n) per phase, q -/
  qc : List Int
  /-- e_raw and e_veh, q -/
  eRaw : Int
  eVeh : Int
  /-- residual r of R119, 0.01 mA -/
  resid : Int
  /-- slots invalid under R73 -/
  invalid : Nat
  /-- slots settling-invalid under R88 -/
  settling : Nat
  /-- slots over-range under R64 -/
  ovr : Nat
  /-- slots with a saturated stage under R83 -/
  sat : Nat
  /-- event detection was disarmed at the sample (R158, R168) -/
  disarmed : Bool
  deriving DecidableEq, Repr

/-- The parameters of an epoch that a later computation for it uses (R103, R242). -/
structure EpochParams where
  rule : Nat
  phases : Nat
  iScale : List Nat
  fNom : Nat
  dcR : Nat
  mod0Fs : Nat
  mod1Fs : Nat
  iStart : Nat
  dcStart : Nat
  /-- MOD channels in use -/
  mods : Nat
  /-- MET.SENSOR_TYPE -/
  sensor : Nat
  /-- MET.REVERSE_P, MET.REVERSE_TIME -/
  reverseP : Nat
  reverseTime : Nat
  /-- MET.NEUTRAL_CHECK, _LIMIT, _FRAC, _TIME -/
  neutralOn : Nat
  neutralLimit : Nat
  neutralFrac : Nat
  neutralTime : Nat
  deriving DecidableEq, Repr

/-- Masks of slots over some samples: invalid (R73), settling-invalid (R88), over-range (R64), saturated (R83); and whether
event detection was disarmed at one of them (R168). -/
structure Marks where
  invalid : Nat := 0
  settling : Nat := 0
  ovr : Nat := 0
  sat : Nat := 0
  disarmed : Bool := false
  deriving DecidableEq, Repr

/-- The record of one epoch in the 512-epoch ring of R13 (R111, R128), with the gates and parameters of that epoch. -/
structure SumsRec where
  epoch : Nat
  xIdx : Option Nat
  xFrac : Int
  ref : Option Nat
  /-- marks of the samples before the crossing, and of the others -/
  pre : Marks
  post : Marks
  /-- per phase: SVV, SII, SVI, SVQI, PSVV, PSII, PSVI, PSVQI -/
  phase : List (List Int)
  /-- Σi² IN, pre-crossing, Σr², pre-crossing -/
  neutral : List Int
  /-- ΣC0, ΣC1, ΣC0·C1, ΣC0² -/
  dc : List Int
  gate : Nat
  n : Nat
  /-- bidirectional discharge at the end of the epoch (R120) -/
  discharge : Bool
  /-- the epoch ran on another set than 0x0001 (R156) -/
  otherSet : Bool
  /-- EV_STATE at the end of the epoch (R162, R168) -/
  ev : Nat
  par : EpochParams
  deriving DecidableEq, Repr

/-- Measured quantities of one phase (R113, R127). -/
structure PhaseMeas where
  vrms : Nat
  irms : Nat
  p : Int
  q : Int
  s : Nat
  pf : Int
  flags : Nat
  deriving DecidableEq, Repr

/-- Result group 2 (R127). -/
structure Meas where
  epoch : Nat
  freq : Nat
  phases : List PhaseMeas
  inRms : Nat
  rRms : Nat
  pTot : Int
  qTot : Int
  sTot : Nat
  pfTot : Int
  flags : Nat
  dcV : Int
  dcI : Int
  dcP : Int
  dcPVeh : Int
  deriving DecidableEq, Repr

/-- A set of Kiln increments for registers 8–31 handed to D2 (R174). -/
structure KilnInc where
  epoch : Nat
  inc : List Nat
  bal : List Int
  deriving DecidableEq, Repr

/-- Admitted group 0 increments of one epoch, with the split at an armed boundary (R207) and the fine totals latched at
its end (R227), and what a signed reading of that epoch states (R190). -/
structure EpochInc where
  epoch : Nat
  inc : List Nat
  split : Option Nat
  before : List Nat
  fineEnd : List Nat
  /-- INVALID and WEDGE_ACTIVE in the bit positions of R216 -/
  flags : Nat
  /-- civil ticks at the start and the end of the epoch (R206) -/
  civil0 : Int
  civil1 : Int
  /-- MODE and TIME_UNSET at the end of the epoch -/
  mode : Nat
  unset : Bool
  deriving DecidableEq, Repr

/-- A change of NEUTRAL_MISMATCH (condition 0) or of REVERSE_FLOW on phase L1–L3 (1–3) that a window brought about (R119,
R120): whether it begins, and the residual or the power of the window. -/
structure CondChange where
  cond : Nat
  begins : Bool
  value : Int
  deriving DecidableEq, Repr

/-- Energy and quantity computation (05). -/
structure Energy where
  /-- 512 records, oldest first · R207 (09) · increments and split results of the last epochs -/
  incs : List EpochInc := []
  /-- 64 bits · R15 (01) · epoch whose samples are being accumulated -/
  epoch : Nat := 0
  /-- up to 320 samples · R100 (05) · samples of that epoch that have left the main path -/
  samples : List Sample := []
  /-- 48 bits per phase, oldest first · R100 (05) · delay line: sample at which the half is due, epoch of the product,
  prod and the product of R142 per phase -/
  delay : List (Nat × Nat × List Int × List Int) := []
  /-- newest first · R86 (04) · main-path codes of the voltage and current slots, for v′ and alignment -/
  history : List (List Int) := []
  /-- Cv′ and Ci of the previous sample · R131 (06) · quadrature codes of the previous sample -/
  lastVq : List Int := [0, 0, 0]
  /-- epoch and mask · R106 (05) · creep gates of the last epochs, newest first -/
  gates : List (Nat × Nat) := []
  /-- q, 12 values · R174 (08) · admitted increments of registers 0–7 and 32–35 not yet in a durable entry -/
  incHw : List Nat := List.replicate 12 0
  /-- 16 bits · R173 (08) · N_SAMPLES since the previous durable entry -/
  nSamples : Nat := 0
  /-- bits 5, 6, 8 · R173 (08) · invalid, settling-invalid and flush flags since the previous durable entry -/
  incFlags : Nat := 0
  /-- 542 records, oldest first · R13, R112 (01, 05) · ring of epoch sums: 512 epochs, and the 30 before them that their
  windows reach into -/
  ring : List SumsRec := []
  /-- q, 128 bits each · R109 (05) · fine totals F of the 36 registers -/
  fine : List Nat := List.replicate 36 0
  /-- q, 128 bits each · R109 (05) · delta baselines B -/
  base : List Nat := List.replicate 36 0
  /-- q signed · R115 (05) · reactive balances reached by Kiln: L1–L3, then the total of R103 -/
  bal : List Int := [0, 0, 0, 0]
  /-- records · R174 (08) · Kiln increment sets completed and not yet taken -/
  kilnSets : List KilnInc := []
  /-- 64 bits · R174 (08) · last epoch whose Kiln increments are durable or taken -/
  kEpoch : Nat := 0
  /-- 64 bits · R115 (05) · last epoch Kiln has computed increments for -/
  kDone : Nat := 0
  /-- 512 records, oldest first · R208 (09) · Kiln increments of the last epochs computed -/
  kilnLog : List KilnInc := []
  /-- 512 records, oldest first · R217, R227 (09) · epoch and Vrms L1–L3, Irms IA–IN, frequency, P total of its window -/
  measLog : List (Nat × List Nat) := []
  /-- record · R127 (05) · group 2 results held for the next publication -/
  meas : Option Meas := none
  /-- 1 bit · R119 (05) · NEUTRAL_MISMATCH active -/
  neutral : Bool := false
  /-- records · R119, R120 (05) · changes of NEUTRAL_MISMATCH (condition 0) and of REVERSE_FLOW on a phase (1–3) not yet
  recorded -/
  changes : List CondChange := []
  /-- count · R119 (05) · consecutive windows that call for a change of NEUTRAL_MISMATCH -/
  neutralRun : Nat := 0
  /-- counts per phase · R120 (05) · consecutive windows that call for a change of REVERSE_FLOW -/
  reverseRun : List Nat := [0, 0, 0]
  /-- mask of phases · R120 (05) · REVERSE_FLOW active -/
  reverse : Nat := 0
  /-- 8 pairs · R207 (09) · armed boundary samples: epoch and sample index -/
  armed : List (Nat × Nat) := []
  deriving DecidableEq, Repr

/-- A temperature-compensation table of R134. -/
structure TempTable where
  version : Nat
  tFirst : Int
  gainD : List (List Int)
  timeD : List (List Int)
  crc : Nat
  deriving DecidableEq, Repr

/-- A calibration record of R133. -/
structure CalRecord where
  count : Nat
  epoch : Nat
  civil : Int
  tCal : Int
  setId : Nat
  setCrc : Nat
  gain : List Nat
  ofs : List Int
  time : List Int
  tcEnable : Bool
  table : Option TempTable
  valid : Bool
  deriving DecidableEq, Repr

/-- A running or finished MET_CAL_MEASURE span (R147). -/
structure CalSpan where
  mask : Nat
  nEpochs : Nat
  first : Nat
  done : Nat
  sums : List Int
  count : Nat
  cross : List Int
  low : List Int
  tempSum : Int
  mixed : Bool
  req : Option Req
  deriving DecidableEq, Repr

/-- One calibration pulse output (R141). -/
structure CfOut where
  /-- q · R141 (06) · accumulator -/
  acc : Nat := 0
  /-- ticks · R141 (06) · instants of the rising edges still to come -/
  edges : List Tick := []
  /-- ticks · R141 (06) · instant of the last rising edge formed -/
  lastEdge : Option Tick := none
  /-- ticks · R141 (06) · instant of the last rising edge driven -/
  prev : Option Tick := none
  /-- ticks · R141 (06) · end of the running pulse; the output is high while it is set -/
  high : Option Tick := none
  deriving DecidableEq, Repr

/-- A pending adjustment (R136, R137): its targets, the first epoch it may apply in, whether it applies from the first
sample of that epoch instead of at a crossing, and whether it moves without the step limit. -/
structure TcPending where
  target : List Int
  first : Nat
  now : Bool
  free : Bool
  deriving DecidableEq, Repr

/-- Calibration, temperature compensation and test outputs (06). -/
structure Cal where
  /-- R133 layout, flash · R133 (06) · copy A of the calibration record -/
  copyA : Option CalRecord := none
  /-- R133 layout, flash · R133 (06) · copy B of the calibration record -/
  copyB : Option CalRecord := none
  /-- R133 layout · R133 (06) · record in force -/
  inForce : Option CalRecord := none
  /-- R134 layout · R134 (06) · temperature table in force -/
  table : Option TempTable := none
  /-- 32 bytes · R143 (06) · LR_HASH as computed at the last start -/
  lrHash : List Byte := []
  /-- signed, 0.1 ppm · R135 (06) · applied gain adjustments dg -/
  dg : List Int := List.replicate 14 0
  /-- signed, 1/16 cycle · R135 (06) · applied time adjustments dt -/
  dt : List Int := [0, 0, 0]
  /-- records, oldest first · R136 (06) · pending targets of dg -/
  pendingG : List TcPending := []
  /-- records, oldest first · R136 (06) · pending targets of dt -/
  pendingT : List TcPending := []
  /-- epochs · R136 (06) · epochs of the previous application of dg and of dt -/
  applied : Nat × Nat := (0, 0)
  /-- 1 bit · R137 (06) · the next target applies at once, without the step limit -/
  atOnce : Bool := false
  /-- 1 bit · R135 (06) · TC_CLAMPED -/
  clamped : Bool := false
  /-- record · R147 (06) · running measurement span -/
  span : Option CalSpan := none
  /-- signed, 0.01 °C · R138 (06) · mean die temperature of the last completed span since D2 start -/
  lastSpanTemp : Option Int := none
  /-- 32 bits · R139 (06) · SEAL_REFUSED -/
  sealRefused : Nat := 0
  /-- record · R141 (06) · CF_P output -/
  cfP : CfOut := {}
  /-- record · R141 (06) · CF_Q output -/
  cfQ : CfOut := {}
  /-- 1 bit · R148 (06) · CF_OVERRATE, cleared by reading -/
  overrate : Bool := false
  deriving DecidableEq, Repr

end Sys2Proof.Machine
end

