-- ==== Sys2Proof/Machine/Parts/Ledger.lean ====
section
/-! DEFINITION. State of the ledger (08): journal, checkpoints, reset ring, metrological event log, signed
readings, waveform capture, the copies of the ledger state (09), and the commit in progress. Records are held by field; their
byte layouts stand in Mram. `valid` stands for a record whose CRC passes (R171). -/

namespace Sys2Proof.Machine

/-- The packed STATE of R173. -/
structure PackedState where
  km : Nat := 0
  cp : Nat := 0
  cpDuty : Nat := 0
  shuFaults : Nat := 0
  out : Nat := 0
  outFault : Nat := 0
  hold : Nat := 0
  tamper : Nat := 0
  claim : Nat := 0
  deriving DecidableEq, Repr

/-- A journal entry of R173. -/
structure JournalEntry where
  epoch : Nat
  kind : Nat
  gate : Nat
  nSamples : Nat
  flags : Nat
  kSpan : Nat
  incHw : List Nat
  kEpoch : Nat
  incKiln : List Nat
  bal : List Int
  state : PackedState
  valid : Bool
  deriving DecidableEq, Repr

/-- A totals checkpoint of R177. -/
structure Checkpoint where
  epoch : Nat
  seq : Nat
  lastRst : Nat
  kEpoch : Nat
  fine : List Nat
  base : List Nat
  bal : List Int
  nextEvent : Nat
  nextReading : Nat
  nextPq : Nat
  valid : Bool
  deriving DecidableEq, Repr

/-- A reset entry of R183. -/
structure ResetEntry where
  seq : Nat
  epoch : Nat
  kEpoch : Nat
  mask : Nat
  sender : Nat
  chan : Nat
  hseq : Nat
  delta : List Nat
  valid : Bool
  deriving DecidableEq, Repr

/-- A superblock of R172. -/
structure Superblock where
  gen : Nat
  powerCycles : Nat
  runFirst : Nat
  valid : Bool
  deriving DecidableEq, Repr

/-- A copy of the ledger state (R234): the group 4 values of its THROUGH, without the series that have regions of their own. -/
structure LsCopy where
  seq : Nat
  civil : Int
  bil : Billing
  valid : Bool
  deriving DecidableEq, Repr

/-- A metrological event log entry of R188. -/
structure Event where
  index : Nat
  code : Nat
  flags : Nat
  sender : Nat
  epoch : Nat
  civil : Int
  data : List Byte
  deriving DecidableEq, Repr

/-- A signed reading of R191; the signature is absent until it is made. `to` is the request that waits for it. -/
structure Reading where
  no : Nat
  kind : Nat
  alg : Nat
  flags : Nat
  civil : Int
  frac : Nat
  epoch : Nat
  keyGen : Nat
  keySlot : Nat
  mode : Nat
  lrHash4 : List Byte
  calCount : Nat
  reg : List Nat
  digest : List Byte
  signature : Option (List Byte)
  dest : Option Req
  statement : Option Nat
  deriving DecidableEq, Repr

/-- The waveform capture buffer of R194. -/
structure Capture where
  first : Nat
  last : Nat
  mask : Nat
  rows : List (List Int)
  deriving DecidableEq, Repr

/-- What D2 captures at the timebase end of an epoch (R16 step 1). -/
structure Captured where
  epoch : Nat
  state : PackedState
  mode : Mode
  d3Gap : Bool
  role : Nat
  wedge : Nat
  wedgeRegs : List Nat
  civilS : Int
  civilF : Nat
  timeUnset : Bool
  /-- civil ticks at the start and the end of the epoch -/
  civil0 : Int
  civil1 : Int
  /-- mean die temperature of the epoch, 0.01 °C (R135) -/
  temp : Int
  /-- bidirectional discharge (R120) -/
  discharge : Bool
  deriving DecidableEq, Repr

/-- A read-and-reset that waits for the next snapshot (R182). -/
structure DelayedReset where
  req : Req
  mask : Nat
  deriving DecidableEq, Repr

/-- A timebase fault under way (R39): the epoch it began in, the samples that were not yet durable, and the pending halves
of the delay line. -/
structure LostTime where
  epoch : Nat
  samples : Nat
  halves : Nat
  deriving DecidableEq, Repr

/-- The ledger (08). -/
structure Ledger where
  /-- R172 layout, MRAM · R172 (08) · superblock copies A and B -/
  superA : Option Superblock := none
  /-- R172 layout, MRAM · R172 (08) · superblock copy B -/
  superB : Option Superblock := none
  /-- R177 layout, MRAM · R177 (08) · totals checkpoint A -/
  ckptA : Option Checkpoint := none
  /-- R177 layout, MRAM · R177 (08) · totals checkpoint B -/
  ckptB : Option Checkpoint := none
  /-- R234 layout, MRAM · R234 (09) · ledger-state copy A -/
  lsA : Option LsCopy := none
  /-- R234 layout, MRAM · R234 (09) · ledger-state copy B -/
  lsB : Option LsCopy := none
  /-- 2 048 × 512 bytes, MRAM · R173 (08) · journal ring, oldest first -/
  journal : List JournalEntry := []
  /-- 0–2 047 · R171 (08) · slot of the journal ring that the next entry takes -/
  journalNext : Nat := 0
  /-- 256 × 336 bytes, MRAM · R183 (08) · reset ring, oldest first -/
  resets : List ResetEntry := []
  /-- 64 bits · R186 (08) · RST_SEQ of the next reset -/
  nextRst : Nat := 1
  /-- count · R182 (08) · reset entries written in the present snapshot's epoch -/
  rstInEpoch : Nat := 0
  /-- count · R177 (08) · reset entries since the previous checkpoint -/
  rstSinceCkpt : Nat := 0
  /-- requests · R182 (08) · read-and-resets that wait for the next snapshot -/
  delayed : List DelayedReset := []
  /-- 4 096 × 64 bytes, MRAM · R188 (08) · metrological event log, oldest first -/
  events : List Event := []
  /-- records · R174 (08) · event entries raised in D2 or Shutter, durable with the journal write of their epoch, which gives
  them their INDEX -/
  eventsWait : List Event := []
  /-- 32 bits · R186 (08) · NEXT_EVENT_INDEX -/
  nextEvent : Nat := 0
  /-- 256 × 192 bytes, MRAM · R190 (08) · signed reading store and readings still to sign, oldest first -/
  readings : List Reading := []
  /-- 32 bits · R186 (08) · NEXT_READING_NO -/
  nextReading : Nat := 1
  /-- 64 bits · R20 (01) · epoch of the newest completed signature, THROUGH[7] -/
  signedEpoch : Nat := 0
  /-- minutes · R190 (08) · multiple of LED.SIGN_PERIOD of the last periodic reading formed -/
  lastPeriodic : Option Int := none
  /-- 1 bit · R191 (08) · UNCLEAN_CLOSE recorded since the previous reading -/
  uncleanSince : Bool := false
  /-- 64 bits · R200 (08) · LAST_CLOSE_EPOCH -/
  lastClose : Nat := 0
  /-- 1 bit · R200 (08) · LAST_CLOSE_CLEAN -/
  closeClean : Bool := true
  /-- 32 bits · R200 (08) · JOURNAL_RETRIES since D2 start -/
  retries : Nat := 0
  /-- count · R175 (08) · consecutive epochs without a durable entry -/
  notDurable : Nat := 0
  /-- records · R16 (01) · state captured at timebase epoch ends and not yet journalled -/
  captured : List Captured := []
  /-- record · R16 (01) · entry formed at the latch and being written, with the captured state of its epoch -/
  writing : Option (JournalEntry × Captured) := none
  /-- 1 bit · R175 (08) · the next durable entry is MERGED -/
  merged : Bool := false
  /-- record · R194 (08) · waveform capture buffer -/
  capture : Option Capture := none
  /-- requests with mask and epochs, oldest first · R289 (11) · accepted captures waiting for semaphore 0 -/
  captureWait : List (Option Req × Nat × Nat) := []
  /-- 40 epochs × 320 rows · R194 (08), R163 (07) · D2 ring of complete epochs of main-path samples, oldest first -/
  waveRing : List (Nat × List Sample) := []
  /-- 1 bit · R19 (01) · the next published snapshot is the first after replay -/
  replayStart : Bool := true
  /-- 1 bit · R19 (01) · the next published snapshot is the first after taking the ACTIVE role -/
  hingeSwitched : Bool := false
  /-- record · R39 (02) · timebase fault since which D2 has not started again -/
  lostTime : Option LostTime := none
  /-- record · R118 (05), R184 (08) · group 2 as Kiln completed it through the final epoch, journalled with the last KIND 4 entry -/
  finalMeas : Option Meas := none
  /-- 1 bit · R21 (01) · a Kiln group missed its deadline for the epoch being committed -/
  overload : Bool := false
  deriving DecidableEq, Repr

end Sys2Proof.Machine
end

