-- ==== Sys2Proof/Machine/Parts/Hinge.lean ====
section
/-! DEFINITION. State of Hinge redundancy (21). -/

namespace Sys2Proof.Machine

/-- Hinge roles, in the codes of R495. -/
inductive Role where
  | none | active | standby
  deriving DecidableEq, Repr

/-- The ROLE code of R18 and R495. -/
def Role.code : Role → Nat
  | .none => 0 | .active => 1 | .standby => 2

/-- An EPOCH message of the ACTIVE unit (R484): the journal entry with its STATE, the records written in that epoch, and the end of
the epoch: on the sender's timebase as it leaves, on the receiver's own as the link's transit correction gives it there. The
SessionID of the open session goes with it, since the new unit accepts a SessionSetup with it (R488, log entry 47). -/
structure HingeMsg where
  entry : JournalEntry
  endsAt : Tick
  events : List Event
  resets : List ResetEntry
  readings : List Reading
  profile : List ProfileRec
  fineRecs : List FineRec
  statements : List Statement
  /-- the group 4 values of a ledger-state copy -/
  ledger : Option Billing
  sessionId : Nat
  deriving DecidableEq, Repr

/-- What the EPOCH messages of the ACTIVE unit have carried (R484): the numbers of the next records to send, and the readings and
statements sent before they were signed. -/
structure HingeMarks where
  events : Nat := 0
  resets : Nat := 0
  readings : Nat := 0
  recs : Nat := 0
  fine : Nat := 0
  statements : Nat := 0
  ledger : Nat := 0
  unsignedReadings : List Nat := []
  unsignedStatements : List Nat := []
  deriving DecidableEq, Repr

/-- Hinge (21). -/
structure Hinge where
  /-- enum · R495 (21) · ROLE -/
  role : Role := .none
  /-- 31 bits, MRAM · R481 (21) · takeover count -/
  count : Nat := 0
  /-- 1 bit, MRAM · R489 (21) · last role was ACTIVE -/
  wasActive : Bool := false
  /-- 32 bits · R495 (21) · peer's claim as last heard, 0 when none -/
  peerClaim : Nat := 0
  /-- 64 bits · R495 (21) · peer MODULE_ID -/
  peerId : Nat := 0
  /-- ticks · R482 (21) · last heartbeat heard -/
  linkHeard : Option Tick := none
  /-- ticks · R482 (21) · last PEER_CLAIM frame heard -/
  lineHeard : Option Tick := none
  /-- claims heard in the last 3 ms with their instants · R483 (21) -/
  claims : List (Nat × Tick) := []
  /-- 1 bit · R483 (21) · the stages drive -/
  driving : Bool := false
  /-- 1 bit · R482 (21) · this unit starts the PEER_CLAIM frames -/
  starts : Bool := false
  /-- 1 bit · R485 (21) · YIELD asserted -/
  yielding : Bool := false
  /-- ticks · R486 (21) · YIELD asserted since -/
  yieldSince : Tick := 0
  /-- 0–2 · R485 (21) · consecutive frames with the peer's YIELD -/
  yieldSeen : Nat := 0
  /-- 1 bit · R484 (21) · SYNCED -/
  synced : Bool := false
  /-- 1 bit · R495 (21) · PEER_LOST -/
  peerLost : Bool := false
  /-- 1 bit · R485 (21) · ISOLATED -/
  isolated : Bool := false
  /-- 1 bit · R483 (21) · UNIT_CONFLICT -/
  conflict : Bool := false
  /-- 1 bit · R489 (21) · resynchronisation runs -/
  resync : Bool := false
  /-- 1 bit · R490 (21) · PATH_FAULT -/
  pathFault : Bool := false
  /-- 1 bit · R490 (21) · SWITCH_SHORT -/
  switchShort : Bool := false
  /-- 1 bit · R490 (21) · METER_DIFF -/
  meterDiffFlag : Bool := false
  /-- 64 bits · R495 (21) · REPL_EPOCH -/
  replEpoch : Nat := 0
  /-- 64 bits · R484 (21) · ACTIVE unit's newest epoch known -/
  peerEpoch : Nat := 0
  /-- 64 bits · R495 (21) · PROOF_EPOCH -/
  proofEpoch : Nat := 0
  /-- signed 32 bits, 0.001 % · R495 (21) · METER_DIFF value -/
  meterDiff : Int := 0
  /-- q, 36 values · R484 (21) · OWN, increments since the end of the last replicated epoch -/
  own : List Nat := List.replicate 36 0
  /-- sample number · R484 (21) · own main-path sample that maps to the end of the last replicated epoch -/
  ownFrom : Nat := 0
  /-- STATE fields: coils, OUT mask, CP duty · R486 (21) · driven values of the last replicated epoch -/
  replCoils : Nat × Nat × Nat := (0, 0, 0)
  /-- 64 bits · R484 (21) · messages sent to the standby, newest epoch -/
  sentEpoch : Nat := 0
  /-- 0 none, 2 switch, 3 force · R485 (21) · takeover requested by the host -/
  asked : Nat := 0
  /-- 1 bit · R490 (21) · HNG_PROOF_RUN accepted and the test not yet run -/
  proofAsked : Bool := false
  /-- day number, local · R490 (21) · day of the last daily proof test -/
  proofDay : Option Int := none
  /-- 1 bit · R485 (21) · YIELD of the peer's last heartbeat -/
  linkYield : Bool := false
  /-- 64 bits · R484 (21) · own epoch that the standby has acknowledged -/
  acked : Nat := 0
  /-- leave instant and EPOCH message · R484 (21) · last message sent to the standby -/
  outMsg : Option (Tick × HingeMsg) := none
  /-- record · R484 (21) · what the messages sent have carried -/
  marks : HingeMarks := {}
  deriving DecidableEq, Repr

/-- The regions of MRAM that a full comparison copies (R489): totals at the newest replicated epoch, the baselines, the rings and
stores of the ledger, and the group 4 values. -/
structure HingeImage where
  fine : List Nat
  base : List Nat
  kEpoch : Nat
  led : Ledger
  bil : Billing
  deriving DecidableEq, Repr

end Sys2Proof.Machine
end

