-- ==== Sys2Proof/Syntax.lean ====
section
/-! DEFINITION. The commands of the module: one constructor for each row of the table of operations and events, with the
values it brings from outside (log entry 5). Commands with operands stand first, then those without, then 18 with operands: compiled
code can build only the first 245 with operands, the kernel all. -/

namespace Sys2Proof

/-- A command of the module. -/
inductive Instr where
  /-- R35. Mains arrives at AC_L/AC_N and the flyback starts while D1–D4 are held in reset. -/
  | mainsApplied (elapsed : Nat)
  /-- R35. D1 leaves reset: Shutter holds CP at steady positive level, contactors open, configuration copies are
  checked and the weld test and RCM self-test run. -/
  | d1Start (okA : Bool) (okB : Bool) (equal : Bool)
  /-- R178. D2 leaves reset: the metering die is configured and self-tested, the Sieve set is loaded, the journal
  is replayed and the first snapshot is published. -/
  | d2Start (codes : List Int) (setOk : Bool) (lost : Nat)
  /-- R281. D3 leaves reset: Sagger rebuilds its root, boot code reads the activation record, D3_RESTARTED is set,
  and display recovery runs if a dirty record exists. -/
  | d3LeavesReset (cells : Nat) (rootOk : Bool) (corrected : Nat) (attempts : Nat) (worst : Nat) (hashOk : Bool) (badHelpers : Nat) (badSlots : Nat) (badCounts : Nat)
  /-- R37. The 20 ms draw ends; C_meas is computed from the voltage drop and the low-capacitance action of R38 is
  applied. -/
  | holdupCapMeasured (drop : Nat)
  /-- R32. Firmware selects the first mode under R32 and R34 and reports SYS_MODE_CHANGED. -/
  | firstModeEntered (versionsOk : Bool)
  /-- R53. Returns mode, life-cycle, reset cause and the reclaim time left. -/
  | sysModeGet (r : Req)
  /-- R32. Requests a mode transition that takes effect at the next epoch boundary. -/
  | sysModeRequest (r : Req) (target : Nat)
  /-- R54. Requests a reset of D3 alone or a module restart; the module replies first. -/
  | sysReset (r : Req) (scope : Nat)
  /-- R55. Returns the measured capacitance and the hold-up budget. -/
  | sysHoldupInfo (r : Req)
  /-- R33. An enabled wake source moves the module from WATCH to SERVICE within 50 ms. -/
  | watchWake (src : Nat)
  /-- R44. Mains-fail detection at t_f enters HOLDUP: coils are de-energised, PWM stops, outputs switch off and the
  budget is computed. -/
  | mainsFailDetection (bulk : Nat)
  /-- R39. HRST held low for 10 µs or more resets D3 with cause 2. -/
  | hrstLow (us : Nat)
  /-- R70. The per-sample status frame from the metering die arrives and the continuous checks are applied. -/
  | statusFrame (ok : Bool) (supplyGood : Bool) (hall : Int) (peZ : Nat) (peNpe : Nat) (dieTemp : Int)
  /-- R62. Each first-stage sample is corrected for gain and offset, blended by the crossfade and integrated on
  Rogowski channels. -/
  | sample400k (bits : List Nat)
  /-- R175. The journal entry write and its read-back complete, with one retry if the first write fails. -/
  | journalAppendComplete (firstOk : Bool) (retryOk : Bool)
  /-- R74. The fault condition has been absent for 1.0 s; a closing entry with UNMEASURED_BOUND is recorded. -/
  | meteringFaultEnd (cause : Nat) (slot : Nat) (codes : List Int)
  /-- R64. 100 epochs pass without a flagged sample and a closing over-range entry is written. -/
  | overrangeClose (k : Nat)
  /-- R63. The gain ratio has deviated by more than 0.2 % for 100 qualifying epochs, or has recovered for 100; the
  flag is set or cleared. -/
  | gainMismatch (c : Nat)
  /-- R83. 100 epochs pass without saturation and a closing entry is written. -/
  | sieveSaturationClose (k : Nat)
  /-- R78. Returns per-channel status, Hall, earth and die-temperature data. -/
  | metInputStatus (r : Req)
  /-- R72. Starts the reference and ramp test on the masked channels. -/
  | metInputSelftest (r : Req) (mask : Nat)
  /-- R79. The 100 ms self-test ends and its reply is sent. -/
  | selftestEnd (codes : List Int)
  /-- R96. Returns the Sieve set, saturation mask and quadrature delay. -/
  | metSieveStatus (r : Req)
  /-- R92. Requests a halt or resumption of Sieve in FACTORY with the contactors open. -/
  | metSieveHalt (r : Req) (action : Nat)
  /-- R90. Checks a coefficient set and writes it to flash while Sieve is halted. -/
  | metSieveSetLoad (r : Req) (data : List Byte)
  /-- R125. Returns all cumulative energy registers. -/
  | metEnergyRead (r : Req)
  /-- R181. Reads the selected delta registers and optionally resets them through a durable reset entry. -/
  | metDeltaRead (r : Req) (mask : Nat) (rst : Nat)
  /-- R127. Returns RMS, power, power factor and frequency per phase. -/
  | metMeasRead (r : Req)
  /-- R128. Returns the stored epoch-sum record of an epoch still held in the ring. -/
  | metSumsRead (r : Req) (epoch : Nat)
  /-- R120. P_win stays below −MET.REVERSE_P, or recovers, for MET.REVERSE_TIME without discharge; the state is
  recorded. -/
  | reverseFlow (x : Nat)
  /-- R141. 12.000 ms after the accumulator crosses its threshold, a CF_P or CF_Q pulse rises. -/
  | cfPulseEdge (q : Bool)
  /-- R141. The pulse width elapses and the CF output falls. -/
  | cfPulseEnd (q : Bool)
  /-- R147. Starts a measurement span of mean offsets and gain ratios. -/
  | metCalMeasure (r : Req) (mask : Nat) (n : Nat)
  /-- R133. Writes the calibration record into the older flash copy. -/
  | metCalCommit (r : Req)
  /-- R134. Loads a temperature-compensation table. -/
  | metTempTableLoad (r : Req) (data : List Byte)
  /-- R148. Returns die temperature and the applied compensation. -/
  | metTempStatus (r : Req)
  /-- R148. Returns the legally relevant identification. -/
  | metLrId (r : Req)
  /-- R284. A shadowed parameter takes effect at the first sample of its effective epoch. -/
  | paramEffective (id : Nat)
  /-- R168. Returns the summary of a held harmonic window. -/
  | metPqSummary (r : Req) (last : Nat)
  /-- R169. Returns harmonic magnitudes and phases for one channel. -/
  | metPqHarmRead (r : Req) (last : Nat) (channel : Nat)
  /-- R169. Returns supraharmonic bands for one channel. -/
  | metPqShRead (r : Req) (last : Nat) (channel : Nat)
  /-- R170. Returns records from the power-quality event ring. -/
  | metPqEventRead (r : Req) (first : Nat) (count : Nat)
  /-- R198. Returns the snapshot header, STATE and group 0 registers. -/
  | ledSnapshotRead (r : Req)
  /-- R193. Returns the records of a stored series. -/
  | ledSeriesRead (r : Req) (series : Nat) (start : Nat) (max : Nat)
  /-- R194. Requests a copy of recent main-path samples into the capture buffer. -/
  | ledWaveCapture (r : Req) (mask : Nat) (n : Nat)
  /-- R190. Forms a KIND 1 reading with the host's challenge and queues it for signing. -/
  | ledSignReading (r : Req) (challenge : List Byte)
  /-- R200. Returns ledger status. -/
  | ledStatus (r : Req)
  /-- R204. Sets civil time by slew or step, effective from the next epoch, and records TIME_ADJUST. -/
  | bilTimeSet (r : Req) (newS : Int) (newF : Nat) (how : Nat)
  /-- R238. Returns civil time, offset and slew state. -/
  | bilTimeGet (r : Req)
  /-- R202. Loads the time-zone table. -/
  | bilTzLoad (r : Req) (object : List Byte)
  /-- R212. Loads a passive tariff calendar. -/
  | bilCalendarLoad (r : Req) (object : List Byte)
  /-- R238. Returns the rate registers and demand. -/
  | bilTariffRead (r : Req)
  /-- R220. Commands a billing close at the first sample of the next epoch. -/
  | bilBillingClose (r : Req)
  /-- R238. Returns a stored billing record. -/
  | bilBillingRead (r : Req) (period : Nat)
  /-- R230. Verifies a signed credit transfer and applies it durably. -/
  | bilCreditTransfer (r : Req) (object : List Byte)
  /-- R238. Returns credit, floor and disconnect state. -/
  | bilCreditStatus (r : Req)
  /-- R232. Activates emergency credit. -/
  | bilEmergencyActivate (r : Req)
  /-- R233. Enters or ends the command cause of DISCONNECTED. -/
  | bilDisconnect (r : Req) (action : Nat)
  /-- R233. KFB1 disagrees with the prepayment state for more than 200 ms and the mismatch is recorded. -/
  | km1FeedbackMismatch (duration : Nat)
  /-- R240. In the last 1.0 ms of each epoch the cells' speed monitors are measured and SPEED_LOW is judged. -/
  | speedMonitor (rates : List Nat) (coreMv : Nat) (tjMax : Int) (load : Nat)
  /-- R241. A periodic task for epoch X is released to its home cell at t_X + 1.5 ms. -/
  | kilnTaskRelease (cls : TaskClass) (epoch : Nat) (part : Nat) (cell : Nat)
  /-- R244. A cell takes the earliest-deadline task, runs it to completion and hands the result to D2. -/
  | kilnTaskRun (cell : Nat)
  /-- R246. A cell with an empty queue makes its round of steal attempts, or sleeps to the next 100 µs tick. -/
  | kilnSteal (cell : Nat)
  /-- R241. A class M, L or V deadline passes without a result; the snapshot carries forward old values and sets
  OVERLOAD. -/
  | kilnDeadlineMiss (cls : TaskClass) (epoch : Nat)
  /-- R250. A cell holding a task makes no handshake for 1.0 ms and is declared failed. -/
  | cellHandshakeTimeout (cell : Nat)
  /-- R250. A cell's local memory reports an uncorrectable error and the cell is declared failed. -/
  | cellMemoryError (cell : Nat)
  /-- R251. Every SYS.KILN_XCHECK_PERIOD epochs, a class M task is run again on another cell and the results are
  compared. -/
  | crossCheck (runner : Nat) (checker : Nat) (third : Nat) (agrees : Bool) (withThird : Nat)
  /-- R254. A read of a semaphore register acquires it, or reports HELD or OWNED. -/
  | semaphoreRead (n : Nat) (reader : Nat)
  /-- R253. A write of 1 to RELEASE frees a semaphore held by the writer. -/
  | semaphoreRelease (n : Nat) (writer : Nat) (value : Nat)
  /-- R255. The host has held a semaphore longer than SYS.SEM_HOST_HOLD_MAX and the module releases it. -/
  | semHostTimeout (n : Nat)
  /-- R260. A Wedge register write is accepted according to mode and takes effect at the next epoch. -/
  | wedgeRegisterWrite (n : Nat) (value : Nat) (writer : Sender)
  /-- R264. Returns cell health, rates and load. -/
  | kilnStatus (r : Req)
  /-- R266. Returns the Wedge register values. -/
  | wedgeStatus (r : Req)
  /-- R278. A word is appended to the host-to-module queue; the final word of a packet makes it visible. -/
  | h2mDataWrite (c : Nat) (word : Nat)
  /-- R278. The module takes a visible packet, checks it, writes its ACK and begins execution or refuses it. -/
  | hatchPacketTake (c : Nat)
  /-- R273. Reading H2M_ACK removes the oldest ACK entry. -/
  | h2mAckRead (c : Nat)
  /-- R273. Writing FLUSH discards a partly written packet. -/
  | h2mFlush (c : Nat)
  /-- R273. Writing 1 clears OVERFLOW. -/
  | h2mOverflowClear (c : Nat)
  /-- R273. Reading M2H_DATA removes one word, or sets UNDERFLOW on an empty queue. -/
  | m2hDataRead (c : Nat)
  /-- R274. The host acknowledges the packet it has just read. -/
  | m2hAckWrite (c : Nat) (value : Nat)
  /-- R273. Writing 1 clears UNDERFLOW. -/
  | m2hUnderflowClear (c : Nat)
  /-- R272. W1C write to IRQ_STATUS clears the selected event bits and updates HIRQ. -/
  | irqStatusClear (value : Nat)
  /-- R271. A write to a register without behaviour of its own, such as IRQ_MASK or DSEL. -/
  | registerWrite (addr : Nat) (value : Nat)
  /-- R287. When a module-to-host queue has room, the next reply or notification enters it in priority order. -/
  | hatchQueuePlacement (c : Nat)
  /-- R286. Returns a parameter's value, class and epochs. -/
  | paramGet (r : Req) (id : Nat)
  /-- R285. Checks and stores a parameter value durably with its effective epoch. -/
  | paramSet (r : Req) (id : Nat) (size : Nat) (value : List Byte)
  /-- R294. Returns drop counts and pending commands. -/
  | hatchStatus (r : Req)
  /-- R290. A UDP datagram carrying a Brixo packet arrives on an enabled Ethernet port. -/
  | brixoEthDatagram (port : Nat) (peer : Nat) (data : List Byte) (last : Bool)
  /-- R297. Sets ENABLE and PRIO of a host DMA channel. -/
  | dctrlWrite (c : Nat) (value : Nat)
  /-- R303. The ABORT bit aborts a channel: ABORTED write-backs are made and the channel goes idle within 2 µs. -/
  | dmaChannelAbort (c : Nat)
  /-- R298. A write to descriptor window words 1–11 goes to staging, or is ignored with WRITE_OWNED. -/
  | descriptorStagingWrite (c : Nat) (word : Nat) (value : Nat)
  /-- R298. A write to word 0 commits staging and word 0 to the selected descriptor. -/
  | descriptorCommit (c : Nat) (value : Nat)
  /-- R297. W1C write to DSTAT clears WRITE_OWNED, ERROR or DONE_EVT. -/
  | dstatClear (c : Nat) (value : Nat)
  /-- R300. A channel takes an owned descriptor, checks it as a whole and prefetches the next. -/
  | dmaDescriptorStart (c : Nat) (words : List Nat)
  /-- R304. Arbitration grants one burst to the channel of highest effective priority. -/
  | dmaBurst (memError : Bool)
  /-- R306. After read-back of the last element, the descriptor is written back and HEAD advances. -/
  | dmaWriteBack (c : Nat) (faulty : Bool)
  /-- R311. Returns every channel's status. -/
  | dmaStatus (r : Req)
  /-- R308. Aborts a host DMA channel unless its ring semaphore is held. -/
  | dmaAbort (r : Req) (c : Nat)
  /-- R314. Three consistent plateau classifications produce a new reported pilot state, on which Kiln and Shutter
  act. -/
  | cpStateChange (hi : Int) (lo : Int)
  /-- R317. Three consistent PP readings produce a new cable state. -/
  | ppStateChange (ohm : Nat)
  /-- R319. A SLAC message is received and answered in the EVSE role. -/
  | slacMessage (m : SlacMsg)
  /-- R320. An SDP, TLS or V2G protocol message from the vehicle is received and answered. -/
  | v2gMessage (m : V2GMsg)
  /-- R335. Returns the vehicle interface state. -/
  | vehStatus (r : Req)
  /-- R327. Accepts or refuses an authorisation, opening a session on acceptance. -/
  | vehAuthorise (r : Req) (reqId : Nat) (decision : Nat) (bpt : Nat)
  /-- R324. Sets the host limits and schedule. -/
  | vehLimitsSet (r : Req) (iMax : Nat) (pMax : Nat) (n : Nat) (entries : List (Nat × Nat))
  /-- R336. Asks the vehicle to stop, or begins a forced orderly stop. -/
  | vehStop (r : Req) (reason : Nat)
  /-- R316. Makes the point available or unavailable. -/
  | vehAvailability (r : Req) (state : Nat)
  /-- R321. Loads certificate chains or root sets. -/
  | vehCertLoad (r : Req) (what : Nat) (certs : List (List Byte))
  /-- R325. Returns a relayed certificate answer to the vehicle. -/
  | vehRelayAnswer (r : Req) (relayId : Nat) (body : List Byte)
  /-- R328. A CAN FD frame from a power module or the insulation monitor is received. -/
  | canFrameReceived (f : CanFrame)
  /-- R328. No valid frame for 50 ms; the module is declared lost and the limit redistributed. -/
  | powerModuleLost (n : Nat)
  /-- R338. Each 250 µs cycle, each channel evaluates every trip condition and exchanges state with the other. -/
  | shutterEvaluationCycle (cyc : CycleIn)
  /-- R343. Kiln's request starts the orderly stop. -/
  | openOrderly (cause : Nat)
  /-- R342. Kiln's request de-energises both coils in the next cycle without a latch. -/
  | openNow (cause : Nat)
  /-- R342. Kiln's duty request is clamped and applied at the next rising edge. -/
  | pwm (duty : Nat)
  /-- R348. Kiln's I_perm request is clamped and accepted. -/
  | limit (mA : Nat) (dc : Bool)
  /-- R355. Kiln's latch-clear request is judged under the edge rules. -/
  | reset (mask : Nat)
  /-- R339. Coil current stays below 20 mA for 5 ms during pull-in and KM_FEEDBACK is latched. -/
  | openCoil (chan : Nat)
  /-- R344. An emergency-stop pad stays high for 4 ms and ESTOP is latched as an immediate trip. -/
  | estopLineOpen (lineB : Bool) (chan : Nat)
  /-- R344. One line open and the other closed for SHU.ESTOP_DISCREP latches ESTOP_DISCREP. -/
  | estopDiscrep (chan : Nat)
  /-- R344. Every 100 ms each channel pulses its line and checks for a short between the lines. -/
  | estopTestPulse (shorted : Bool) (chan : Nat)
  /-- R347. A timed self-test step ends and is judged; the test advances, passes or fails. -/
  | rcmSelftestStepEnd (m : RcmReading)
  /-- R353. VAUX_IN below 10.0 V for 10 ms with a coil energised latches COIL_SUPPLY. -/
  | coilSupplyLow (chan : Nat)
  /-- R356. SRESET is released after a low period; between 50 ms and 5 s this is an edge that clears latches. -/
  | sresetRelease (lowMs : Nat)
  /-- R367. Returns Shutter status. -/
  | shuStatus (r : Req)
  /-- R355. Requests that latches be cleared. -/
  | shuReset (r : Req) (mask : Nat)
  /-- R360. Opens a configuration session after a password check. -/
  | shuConfigOpen (r : Req) (len : Nat) (password : List Byte)
  /-- R359. Closes the configuration session. -/
  | shuConfigClose (r : Req)
  /-- R360. Sets the Shutter password digest. -/
  | shuPasswordSet (r : Req) (len : Nat) (password : List Byte)
  /-- R347. Host-requested residual-current self-test. -/
  | shuRcmTest (r : Req)
  /-- R368. Returns change-log entries. -/
  | shuLogRead (r : Req) (first : Nat) (count : Nat)
  /-- R383. Returns load-switch status. -/
  | lswStatus (r : Req)
  /-- R382. Switches, pulses or reloads the retries of the selected channels. -/
  | lswControl (r : Req) (mask : Nat) (action : Nat) (ms : Nat)
  /-- R374. A channel's Tj reaches 175 °C; it switches off and latches. -/
  | lswThermalOff (n : Nat) (tj : Int)
  /-- R374. The current limit has been active for LSW.ILIM_TIME; the channel switches off and latches. -/
  | lswIlimTimeout (n : Nat)
  /-- R375. The latch releases after cooling and the delay; the channel restarts or becomes EXHAUSTED. -/
  | lswLatchRelease (n : Nat) (tj : Int)
  /-- R376. A channel runs without a latch for LSW.RETRY_REFILL and its retries are reloaded. -/
  | lswRetryRefill (n : Nat)
  /-- R371. A pulse's timer ends and the demand goes off. -/
  | lswPulseEnd (n : Nat)
  /-- R381. Current below LSW.OPENLOAD_MA for 100 ms while on flags an open load. -/
  | lswOpenLoad (n : Nat) (cur : Nat)
  /-- R383. An off channel's output above half VAUX_IN drives the fault level. -/
  | lswOffStateShort (n : Nat)
  /-- R370. VAUX_IN falls below 10.0 V and every channel turns off. -/
  | vauxUndervoltage (mV : Nat)
  /-- R370. VAUX_IN returns to 11.0 V and demanded channels resume. -/
  | vauxRecovery (mV : Nat)
  /-- R370. VAUX_IN below 4.0 V for 10 ms resets every latch and retry counter. -/
  | vauxPowerCycle (mV : Nat)
  /-- R378. VAUX_IN rises above 36 V and LOAD_DUMP is flagged. -/
  | loadDump (mV : Nat)
  /-- R409. Returns life-cycle, root and slot status. -/
  | sagStatus (r : Req)
  /-- R409. Returns one slot's header and state. -/
  | sagSlotInfo (r : Req) (slot : Nat)
  /-- R394. Generates a key into a slot with atomic replacement. -/
  | sagKeyGenerate (r : Req) (slot : Nat) (type : Nat) (attr : Nat) (usesMax : Nat)
  /-- R393. Writes a clear key into a slot. -/
  | sagKeyWrite (r : Req) (slot : Nat) (type : Nat) (attr : Nat) (usesMax : Nat) (key : List Byte)
  /-- R393. Imports a wrapped key. -/
  | sagKeyImport (r : Req) (slot : Nat) (type : Nat) (attr : Nat) (usesMax : Nat) (unwrapSlot : Nat) (wrapped : List Byte)
  /-- R393. Derives a symmetric key by HKDF. -/
  | sagKeyDerive (r : Req) (src : Nat) (slot : Nat) (type : Nat) (attr : Nat) (usesMax : Nat) (info : List Byte)
  /-- R408. Erases a slot. -/
  | sagKeyErase (r : Req) (slot : Nat)
  /-- R395. Returns a kept public key and its certificate. -/
  | sagPubkeyExport (r : Req) (slot : Nat) (which : Nat) (gen : Nat)
  /-- R395. Attaches a certificate to a slot's current generation. -/
  | sagCertAttach (r : Req) (slot : Nat) (cert : List Byte)
  /-- R400. Requests a life-cycle transition. -/
  | sagLifecycleSet (r : Req) (target : Nat) (unlock : List Byte)
  /-- R398. Acknowledges a tamper source to lift its block. -/
  | sagTamperAck (r : Req) (mask : Nat)
  /-- R402. Issues a one-use unlock challenge. -/
  | sagUnlockChallenge (r : Req)
  /-- R397. Every 100 ms D0 samples the TAMP inputs and updates their state after 2 consistent samples. -/
  | tampSample (levels : Nat)
  /-- R399. A mesh or potting breach zeroises Sagger and sets the life-cycle to END. -/
  | meshBreach (potting : Bool)
  /-- R412. The reader polls, selects and halts cards, forms the set present and forwards a single authorising
  card. -/
  | pollCycle (inField : List (List Byte))
  /-- R412. In WATCH, a field pulse every 300 ms detects a card as a wake source. -/
  | lowPowerDetectPulse (change : Nat)
  /-- R427. Returns reader and Letterbox status. -/
  | conStatus (r : Req)
  /-- R410. Measures antenna current and phase. -/
  | conTune (r : Req) (iAnt : Nat) (phase : Int)
  /-- R415. Loads the local card list. -/
  | conListLoad (r : Req) (object : List Byte)
  /-- R427. Reads a Letterbox page from the wired side. -/
  | conLbRead (r : Req) (page : Nat) (available : Bool)
  /-- R427. Writes a host-area page from the wired side. -/
  | conLbWrite (r : Req) (page : Nat) (data : List Byte) (available : Bool)
  /-- R419. Sets or clears the passwords, or leaves LOCKED. -/
  | conLbConfig (r : Req) (action : Nat) (readPw : Nat) (writePw : Nat) (available : Bool)
  /-- R416. Field command: the tag answers an ISO/IEC 15693 inventory. -/
  | inventory (maskLen : Nat) (mask : Nat)
  /-- R416. Field command STAY QUIET. -/
  | stayQuiet (dest : Nat)
  /-- R416. Field command SELECT. -/
  | select (dest : Nat)
  /-- R416. Field command RESET TO READY. -/
  | resetToReady (dest : Nat)
  /-- R416. Field command GET SYSTEM INFORMATION, plain or extended. -/
  | getSystemInformation (dest : Nat)
  /-- R417. Field read of one block, subject to page access. -/
  | readSingleBlock (dest : Nat) (block : Nat)
  /-- R417. Field read of several blocks, subject to page access. -/
  | readMultipleBlocks (dest : Nat) (block : Nat) (n : Nat)
  /-- R422. Field write of one block, committed to the older slot, or a password presentation. -/
  | writeSingleBlock (dest : Nat) (block : Nat) (data : List Byte) (fate : Nat)
  /-- R422. Field write of several blocks within one page, committed atomically. -/
  | writeMultipleBlocks (dest : Nat) (block : Nat) (data : List Byte) (fate : Nat)
  /-- R416. LOCK BLOCK, AFI, DSFID and security commands are answered with error 0x0F. -/
  | lbUnsupportedCommand (dest : Nat)
  /-- R421. Pages 0–5 are rewritten with the current summary and reading. -/
  | letterboxSummaryWrite (n : Nat)
  /-- R445. Returns display status. -/
  | dispStatus (r : Req)
  /-- R432. Writes data into the staging buffer. -/
  | dispImageWrite (r : Req) (offset : Nat) (len : Nat) (data : List Byte)
  /-- R433. Requests a display update, which starts, waits or is refused. -/
  | dispUpdate (r : Req) (mode : Nat) (x : Nat) (y : Nat) (w : Nat) (h : Nat) (crc : Nat)
  /-- R444. Queues a recovery to the current image. -/
  | dispClean (r : Req)
  /-- R449. A supply zero crossing is timestamped and a mains-carrier burst may be sent. -/
  | supplyZeroCrossing (rising : Bool) (preamble : Bool)
  /-- R451. A TYPE 1 frame is received, segments are collected and the fabric packet is passed on. -/
  | mcDataFrame (h : McHeader) (segs : List (Nat × List Byte)) (snr : Nat) (zcPol : Bool) (centre : Nat)
  /-- R452. A TYPE 2 acknowledgement arrives and the next round or a downgrade follows. -/
  | mcAckFrame (src : Nat) (dst : Nat) (seq : Nat) (bitmap : Nat) (snr : Nat) (zcPol : Bool) (centre : Nat)
  /-- R453. A TYPE 3 sounding frame arrives; the receiver computes and returns a tone map. -/
  | toneMapRequest (h : McHeader) (snrs : List Nat) (zcPol : Bool) (centre : Nat)
  /-- R453. A TYPE 4 tone map arrives and is adopted with DOWN reset to 0. -/
  | toneMapReply (h : McHeader) (tmi : Nat) (map : Nat) (snr : Nat) (zcPol : Bool) (centre : Nat)
  /-- R456. A TYPE 5 beacon is received and the neighbour table updated. -/
  | beacon (h : HelloBlock) (zcPol : Bool) (centre : Nat)
  /-- R453. MC.TM_REFRESH elapses and a tone-map request is sent. -/
  | toneMapRefreshDue (short : Nat)
  /-- R460. Returns modem status. -/
  | mcStatus (r : Req)
  /-- R460. Returns neighbour table entries. -/
  | mcNeighbourRead (r : Req) (first : Nat) (count : Nat)
  /-- R460. Requests a tone-map refresh with a neighbour. -/
  | mcTonemapRefresh (r : Req) (short : Nat)
  /-- R465. A hello or beacon fabric block updates root, parent and conflict detection. -/
  | helloReceived (link : Nat) (h : HelloBlock)
  /-- R461. A link counts as down after 3 hello intervals without a valid frame. -/
  | linkDown (link : Nat) (id : Nat)
  /-- R468. A fabric packet is delivered, routed or discarded. -/
  | fabricPacketReceived (link : Nat) (id : Nat) (q : Nat) (acked : Nat) (full : Bool) (p : FabricPacket)
  /-- R472. A home token has been out of its own offer for 8 s and becomes lendable. -/
  | tokenLendable (token : Nat)
  /-- R474. The home receives a REQUEST, marks tokens IN_TRANSIT and sends GRANT. -/
  | tokenRequest (m : TokenMsg)
  /-- R474. The borrower receives a GRANT, records pending tokens and sends ACCEPT. -/
  | tokenGrant (m : TokenMsg)
  /-- R474. The home receives an ACCEPT, marks tokens LENT and sends COMMIT, or ABORT if late. -/
  | tokenAccept (m : TokenMsg)
  /-- R474. The borrower receives a COMMIT and adds the tokens to its held set. -/
  | tokenCommit (m : TokenMsg)
  /-- R474. The borrower receives an ABORT and drops the pending tokens. -/
  | tokenAbort (m : TokenMsg)
  /-- R475. The home receives a RENEW, restarts its reissue clock and answers RENEWED. -/
  | tokenRenew (m : TokenMsg)
  /-- R475. The borrower receives RENEWED and the new lease takes effect. -/
  | tokenRenewed (m : TokenMsg)
  /-- R475. The home receives a RETURN and the tokens rejoin its pool. -/
  | tokenReturn (m : TokenMsg)
  /-- R475. The borrower receives a RECALL and removes the tokens from its held set at once. -/
  | tokenRecall (m : TokenMsg)
  /-- R474. The home receives no ACCEPT within 2 s and returns the tokens to its pool. -/
  | tokenAcceptTimeout (xfer : Nat) (peer : Nat)
  /-- R474. The borrower resends ACCEPT each second without COMMIT, and abandons after 6 s. -/
  | tokenCommitWait (xfer : Nat) (home : Nat)
  /-- R475. The remaining lease falls to half and RENEW is sent once a second. -/
  | leaseHalf (xfer : Nat) (home : Nat)
  /-- R475. The remaining lease falls to 8 s and the tokens leave the held set. -/
  | leaseRelease (xfer : Nat) (home : Nat)
  /-- R475. The lease ends and the borrower forgets the tokens. -/
  | leaseExpiry (xfer : Nat) (home : Nat)
  /-- R475. 8 s after a RECALL, the borrower sends RETURN. -/
  | recallReturnTimer (xfer : Nat) (home : Nat)
  /-- R474. The home's reissue clock ends and the lent tokens return to its pool. -/
  | reissueClockExpiry (xfer : Nat) (peer : Nat)
  /-- R479. Returns fabric status. -/
  | linStatus (r : Req)
  /-- R479. Returns token holdings. -/
  | linTokenStatus (r : Req)
  /-- R479. Sends a Brixo packet to a remote address. -/
  | linForward (r : Req) (dst : Nat) (packet : List Byte)
  /-- R482. A PEER_CLAIM frame is arbitrated and judged; output stages drive or release under the higher claim. -/
  | peerClaimFrame (present : Bool) (claim : Nat) (yields : Bool) (ok : Bool)
  /-- R484. A heartbeat on the Hinge link carries role, claim, SYNCED and YIELD. -/
  | hingeHeartbeat (peerId : Nat) (role : Nat) (claim : Nat) (syncs : Bool) (yields : Bool)
  /-- R495. Returns Hinge status. -/
  | hngStatus (r : Req)
  /-- R485. Requests a planned takeover. -/
  | hngSwitch (r : Req)
  /-- R494. The host asserts that the peer is dead and the standby takes over. -/
  | hngForce (r : Req) (driven : Bool)
  /-- R490. Runs the proof test on demand. -/
  | hngProofRun (r : Req)
  /-- R512. Returns the activation record and staging state. -/
  | updStatus (r : Req)
  /-- R500. Begins staging a bundle from its manifest. -/
  | updStageBegin (r : Req) (manifest : List Byte)
  /-- R500. Writes a chunk of the bundle. -/
  | updStageWrite (r : Req) (offset : Nat) (len : Nat) (data : List Byte)
  /-- R501. Starts verification of the staged bundle. -/
  | updVerify (r : Req)
  /-- R504. Commits activation of the verified bundle. -/
  | updActivate (r : Req) (peerHolds : Bool)
  /-- R504. 10 ms after the reply, the module restarts on the new slot and the trial begins. -/
  | activationRestart (peer : Nat)
  /-- R504. Confirms the trial. -/
  | updConfirm (r : Req)
  /-- R515. A conversion ends and its result word is delivered; VREF and sensor faults are judged. -/
  | adcConversionComplete (ch : Nat) (conv : Bool) (code : Nat) (ovr : Bool) (under : Bool)
  /-- R516. An urgent instant aborts a normal conversion and starts its own acquisition. -/
  | urgentAdcRequest (kind : Nat) (busy : Nat) (conv : Bool)
  /-- R517. A filtered GPIO0 edge starts the ADC_TRIG sequence, or counts as missed. -/
  | adcTrigEdge (rising : Bool) (busy : Nat) (conv : Bool)
  /-- R521. Every epoch, the crystal is measured against the timebase and the offset updated. -/
  | rtcDiscipline (ppb : Int)
  /-- R525. A rule's channel stays above HIGH or below LOW for TIME and the rule becomes active or ends. -/
  | watchRule (k : Nat)
  /-- R530. Returns the newest results of the masked channels. -/
  | auxRead (r : Req) (mask : Nat)
  /-- R530. Requests N averaged conversions of one channel. -/
  | auxConvert (r : Req) (ch : Nat) (n : Nat)
  /-- R530. Returns entries from the ADC_TRIG FIFO. -/
  | auxTrigRead (r : Req) (most : Nat)
  /-- R530. Returns Nightlatch status. -/
  | nlStatus (r : Req)
  /-- R526. Lowers WAKE_OUT. -/
  | nlWakeAck (r : Req)
  /-- R541. Returns recorder status. -/
  | diagStatus (r : Req)
  /-- R541. Returns records by AGE position. -/
  | diagRead (r : Req) (first : Nat) (most : Nat)
  /-- R536. Freezes or releases the ring. -/
  | diagFreeze (r : Req) (action : Nat)
  /-- R537. Empties the ring and writes RECORDER_CLEARED. -/
  | diagClear (r : Req)
  /-- R557. A byte arrives on the RS-485 line and is added to the current frame. -/
  | rs485ByteReceived (byte : Nat) (parity : Bool) (framing : Bool)
  /-- R557. Requests transmission of a frame once the line is idle. -/
  | sysRs485Send (r : Req) (len : Nat) (data : List Byte)
  /-- R35. Internal rails become good: D0 changes over from VBAT and D4 leaves reset with every output off. -/
  | railsGood
  /-- R281. Firmware raises READY; the module sends ABORTED_BY_RESET for every pending command and resumes service. -/
  | readyRises
  /-- R37. VHOLD reaches 29.5 V; the charger is disconnected and the 20 ms capacitance draw begins. -/
  | vholdReachesThreshold
  /-- R36. VHOLD has not reached 29.5 V within 4.0 s; the measurement completes with 0 µF, flagged out of range. -/
  | vholdChargeTimeout
  /-- R32. At the first epoch boundary after the measurement completes, the interim COMMISSION moves to SERVICE. -/
  | interimToService
  /-- R31. An accepted mode request takes effect at the first epoch boundary after acceptance. -/
  | modeChangeEffective
  /-- R54. 10 ms after the SYS_RESET reply leaves the queue, the reset of the requested scope begins. -/
  | sysResetBegin
  /-- R32. SYS.WATCH_DELAY of idle time in SERVICE expires and the module enters WATCH. -/
  | watchDelayExpiry
  /-- R45. Once contactors are open and current has stayed low, or t_f + 60 ms is reached, t_d triggers the final
  commit. -/
  | mainsAbsentDecision
  /-- R46. Kiln completes groups 2 and 3; the KIND 4 entry and the KIND 3 reading become durable. -/
  | finalSignedReading
  /-- R440. After the Letterbox step, the remaining frames are run or parked according to N_frames. -/
  | holdupDisplayDecision
  /-- R46. The hold-up sequence ends; cells and D2 stop, and the module restarts with cause 7 if mains is present. -/
  | holdupSequenceEnd
  /-- R39. The firmware watchdog is not served within SYS.WDG_TIMEOUT and D3 resets with cause 3. -/
  | watchdogExpiry
  /-- R39. A Kiln arbitration or SRAM integrity fault, or too few cells, resets D3 with cause 4. -/
  | enginePoolFault
  /-- R39. PLL lock is lost for more than 100 µs; D2 alone restarts and the lost samples are logged. -/
  | timebaseFault
  /-- R39. A Spyhole debug command resets D3 with cause 8, in FACTORY only. -/
  | spyholeReset
  /-- R42. No reclaim arrives within 2.0 s of the D3 reset; Shutter begins its orderly stop. -/
  | reclaimTimerExpiry
  /-- R176. The D2 rail falls to its warning level; a KIND 5 entry covers every sample that has left the main path. -/
  | railWarning
  /-- R100. D2 forms pc, classifies it and accumulates import or export energy, epoch sums and boundary splits. -/
  | mainPathSample
  /-- R16. At the timebase end of an epoch, the D1, D4 and D0 state is captured. -/
  | epochStateCapture
  /-- R16. When the last sample of the epoch leaves the main path, accumulators and sums are latched, the creep
  gate is applied and Kiln results are taken. -/
  | epochLatch
  /-- R175. No entry has been durable for 100 epochs; a metering fault with cause 9 is signalled. -/
  | journalNotDurable
  /-- R73. Once current on the valid channels is below 1 A, or after 1.0 s, Shutter opens KM1 and KM2. -/
  | meteringStopOpen
  /-- R68. Each 10 ms window is judged for earth presence, and PE_OK is updated after 3 failing or 10 passing
  windows. -/
  | peWindowEval
  /-- R69. The field has stayed at or above MET.MAG_LIMIT for MET.MAG_TIME; the event is recorded and the tamper
  response applied. -/
  | magField
  /-- R69. The field has stayed below 80 % of the limit for MET.MAG_TIME and a closing entry is written. -/
  | magFieldEnd
  /-- R92. Sieve stops after the last sample of the epoch in which the halt was accepted. -/
  | sieveStop
  /-- R92. Sieve restarts with cleared filter state at the next epoch boundary after resumption. -/
  | sieveRestart
  /-- R182. A read-and-reset beyond 8 in one epoch is built from the next published snapshot. -/
  | delayedReadAndReset
  /-- R119. The residual current exceeds its threshold for MET.NEUTRAL_TIME, or falls back below 80 % of it; the
  state is recorded. -/
  | neutralMismatch
  /-- R147. The span ends and its results are returned. -/
  | calMeasureSpanEnd
  /-- R157. At the end of each half-period segment, Urms½ is computed and the dip, swell, interruption and RVC
  machines are evaluated. -/
  | urmsHalfSegmentEnd
  /-- R158. Both feedbacks have reported closed for MET.PQ_ARM_DELAY; event detection is armed. -/
  | pqArm
  /-- R194. Once semaphore 0 is free, the samples are copied and the capture reply is sent. -/
  | waveCaptureCopy
  /-- R190. The public-key engine completes the signature of the oldest pending reading, which is then stored and
  replied. -/
  | signatureComplete
  /-- R190. Civil time passes a multiple of LED.SIGN_PERIOD and a KIND 2 reading is formed. -/
  | periodicReadingDue
  /-- R204. An accepted time setting takes effect at the first sample of the next epoch, closing intervals on a
  step. -/
  | timeChangeEffective
  /-- R204. The slew has absorbed the difference and civil time runs at the nominal rate again. -/
  | slewComplete
  /-- R222. Civil time reaches a boundary; demand, profile, tariff, calendar and billing closes are processed in
  fixed order. -/
  | civilBoundary
  /-- R220. A commanded close takes place at the first sample of the epoch after acceptance. -/
  | commandBillingClose
  /-- R240. The pool speed has stayed at or above 205 MOPS for 100 epochs and shedding step 1 is removed. -/
  | speedRestored
  /-- R249. Three consecutive epochs with misses raise the shedding step, or 100 clean epochs lower it. -/
  | shedChanged
  /-- R290. An IP datagram is not reassembled within 2 s and is discarded. -/
  | ipReassemblyTimeout
  /-- R319. TT_EVSE_SLAC_init expires and the module falls back under VEH.CP_MODE. -/
  | slacTimeout
  /-- R325. No decision arrives within VEH.AUTH_TIMEOUT and the identifier is refused. -/
  | authTimeout
  /-- R323. Phase current exceeds the limit for VEH.OVERDRAW_TIME after the 5 s grace; the orderly stop is
  requested. -/
  | overdraw
  /-- R327. The first epoch with both contactors reported open after a closing cause closes the session and writes
  its statement. -/
  | sessionClose
  /-- R328. Every 10 ms, control frames are sent to each power module. -/
  | canFrameSend
  /-- R329. MOD1 reaches V_test and the monitor is valid; insulation is judged. -/
  | cableCheckReady
  /-- R329. Cable check has not finished within 20 s and counts as a fault. -/
  | cableCheckTimeout
  /-- R330. MOD1 lies within 20 V of the target and precharge succeeds. -/
  | prechargeComplete
  /-- R330. VEH.PRECHARGE_TIMEOUT expires and the session ends with END_CAUSE 3. -/
  | prechargeTimeout
  /-- R330. MOD1 falls below 60 V, or 1.0 s passes and DISCHARGE_SLOW is reported. -/
  | dcDischargeEnd
  /-- R338. The two channels disagree for 20 ms and CHANNEL is latched. -/
  | channelDisagreement
  /-- R338. Channel B receives no valid D2 frame in 3 consecutive cycles and CHANNEL is latched. -/
  | channelLinkLoss
  /-- R340. Kiln's close request is executed only if every closing condition holds in both channels. -/
  | close
  /-- R41. Firmware's reclaim request ends the reclaim window. -/
  | reclaim
  /-- R347. Kiln's request starts the residual-current self-test with both coils de-energised. -/
  | rcmTest
  /-- R343. Every current falls below 1 A, or 3.0 s pass; KM1 and KM2 are de-energised and ORDERLY_STOP is
  recorded. -/
  | orderlyStopWaitEnd
  /-- R339. SHU.KM_PULLIN elapses and the coils change to hold PWM. -/
  | kmPullinEnd
  /-- R341. Feedback does not report closed within SHU.KFB_TIME, or reports open while energised, and KM_FEEDBACK
  is latched. -/
  | kfbTimeout
  /-- R347. The last passing self-test becomes older than SHU.RCM_TEST_AGE and a new test starts. -/
  | rcmSelftestAge
  /-- R348. 5 s after a reduction, the lower I_perm comes into force. -/
  | iPermHoldEnd
  /-- R351. 200 ms after a de-energisation, voltages and feedback are checked and WELD may be latched. -/
  | weldTest
  /-- R356. SRESET low for more than 5 s latches SRESET_STUCK. -/
  | sresetStuck
  /-- R355. A pending SHU_RESET finds no clearing SRESET release within 10 s and lapses. -/
  | pendingResetLapse
  /-- R355. Pilot state A held for 1 s clears CP_ERROR and DIODE. -/
  | cpStateAHeld
  /-- R359. 600 s pass without an accepted SHU write and the session closes. -/
  | configSessionIdle
  /-- R360. A password lockout expires on the RTC. -/
  | lockoutEnd
  /-- R378. VAUX_GND lifts more than 1.0 V for 50 µs; all channels turn off. -/
  | vauxGndOpen
  /-- R378. Ground is back for 10 ms and demanded states resume. -/
  | vauxGndRestored
  /-- R401. After the reply, slots are rewrapped or erased and the module restarts 10 ms later. -/
  | lifecycleRestart
  /-- R396. Neutral-to-PE voltage stays above SAG.EARTH_LOAD_V for 10 s and raises tamper source 4. -/
  | earthLoading
  /-- R419. The reader field drops and the AUTH bits are cleared. -/
  | lbFieldDrop
  /-- R423. A request committed to page 14 is executed with sender LETTERBOX and the reply written to page 13. -/
  | lbBrixoRequest
  /-- R432. The staging buffer has been copied to a flash slot and checked. -/
  | imageCopyComplete
  /-- R431. The rail rise sequence completes and the first frame starts. -/
  | dispRailsGood
  /-- R439. A frame boundary updates FRAME_DONE; after the last frame the record becomes clean. -/
  | dispFrameEnd
  /-- R431. 10 ms after the last frame, the rails fall in reverse order. -/
  | dispRailsDown
  /-- R431. A rail leaves ±5 % for 100 µs; the drive stops and the update ends with RESULT 3. -/
  | dispRailFault
  /-- R433. At each epoch boundary, a waiting update is checked against the budget and may start. -/
  | waitingUpdateCheck
  /-- R433. An update that fails the budget for 10 s ends with RESULT 6. -/
  | waitingUpdateTimeout
  /-- R438. Nightlatch refreshes the Transom when content changes or the period elapses. -/
  | transomRefresh
  /-- R452. After idle windows and backoff, a queued frame starts. -/
  | mcFrameBegin
  /-- R452. No acknowledgement arrives in the 3 reserved windows and the frame is resent or failed. -/
  | mcAckWindowExpiry
  /-- R456. MC.BEACON_PERIOD elapses and a beacon is sent. -/
  | beaconTimer
  /-- R464. Every 100 ms, a hello is sent on each link that is up. -/
  | helloTimer
  /-- R466. Every 1 s, a ROUTE packet listing the subtree is sent to the parent. -/
  | routeTimer
  /-- R466. The conflict has been absent for 10 s and the address is used again. -/
  | addressConflictClear
  /-- R472. A post whose held tokens are below WANT sends a REQUEST, at most one per 500 ms. -/
  | borrowTick
  /-- R476. The post-start quarantine ends and all home tokens are taken back. -/
  | quarantineEnd
  /-- R479. No remote reply within 3 s gives NO_REPLY. -/
  | linForwardTimeout
  /-- R482. Unit 0 starts no frame for 3 ms and unit 1 starts frames. -/
  | peerClaimSilence
  /-- R486. On a trigger, the standby raises its claim, drives the last replicated state and continues the ledger. -/
  | hingeTakeover
  /-- R486. No higher claim appears within 200 ms; the yielding unit withdraws YIELD. -/
  | yieldWithdraw
  /-- R485. The ACTIVE unit hears neither path for 1.0 s and becomes ISOLATED. -/
  | hingeIsolated
  /-- R489. At start, 1.0 s later, the unit resumes ACTIVE or STANDBY from its stored claim. -/
  | hingeRoleResume
  /-- R501. Verification and rebuild end with VERIFIED or a failure status. -/
  | verifyComplete
  /-- R504. With UPD.AUTO_CONFIRM, 30 s without fault confirm the trial. -/
  | autoConfirm
  /-- R504. UPD.TRIAL_TIME expires without confirmation and the module rolls back. -/
  | trialTimeout
  /-- R502. 10 s without a CHUNK; the fetcher changes to another offerer. -/
  | chainFetchTimeout
  /-- R519. Every 10 s, I_temp is raised by at most 1 000 mA towards its target. -/
  | iTempRaiseStep
  /-- R523. Both coils have shown de-energised for 500 ms and the idle-current check is armed. -/
  | idleCheckArm
  /-- R523. Every 100 ms block, RMS is formed and the idle-current condition begins or ends. -/
  | idleCurrentBlock
  /-- R526. The 10 ms WAKE_OUT pulse ends. -/
  | wakeOutPulseEnd
  /-- R536. DIAG.FREEZE_MAX elapses, the freeze ends and queued records are written. -/
  | freezeTimeout
  /-- R557. The line is idle for t_end and the frame is queued to the host. -/
  | rs485FrameEnd
  /-- R557. The last stop bit has been sent, the driver is disabled and the reply is sent. -/
  | rs485SendComplete
  /-- R8. The internal rails fall: D0 changes over to VBAT and D1 to D4 lose power. -/
  | railsFall
  /-- R547. VBAT is applied with mains absent and the RTC starts alone on it. -/
  | vbatApplied
  /-- R546. After V12_OUT has been in its 2.4 A limit for 5 ms, it switches off. -/
  | v12OutOverload
  /-- R546. V12_OUT restarts every 1.0 s after an overload switch-off. -/
  | v12OutRestart
  /-- R378. VAUX_IN is reversed: every channel is switched fully on while the coil switches block. -/
  | vauxInReversed
  /-- R404. Writing DBG_ENABLE opens or closes debug from the next D3 start. -/
  | dbgEnableWrite (value : Nat)
  /-- R404. A SPACE 1 transaction halts, steps or accesses cell memory, or answers FAULT outside BLANK and FACTORY. -/
  | spyholeDebugAccess (read : Bool) (addr : Nat) (data : Nat)
  /-- R452. An incomplete received frame is discarded 2 s after its last segment. -/
  | mcIncompleteFrameDiscard (src : Nat) (seq : Nat)
  /-- R456. Refreshes fail or no frame is heard for 3 refresh periods; the neighbour is dropped. -/
  | mcNeighbourLost (id : Nat)
  /-- R461. The go-back-N retransmit timer expires and unacknowledged packets are resent. -/
  | linkRetransmitTimeout (link : Nat) (id : Nat)
  /-- R467. An incomplete message is discarded 2 s after its last fragment. -/
  | fragmentReassemblyTimeout (src : Nat) (msg : Nat)
  /-- R462. A frame is switched between E0, E1 and the internal MAC. -/
  | ethernetFrame (port : Nat) (src : Nat) (dst : Nat)
  /-- R484. The standby applies a replicated epoch to its MRAM and acknowledges it. -/
  | hingeEpochMessage (m : Machine.HingeMsg)
  /-- R489. Resynchronisation of records and differing blocks completes and the unit becomes SYNCED. -/
  | hingeResync (msgs : List Machine.HingeMsg) (image : Option Machine.HingeImage) (blocks : Nat)
  /-- R490. At HNG.PROOF_TIME each day, the pair runs its proof test. -/
  | hingeProofTest (linkOk : Bool) (claimOk : Bool) (diff : Int) (replicaOk : Bool) (crossOk : Bool) (rcmOk : Bool) (shorted : Bool)
  /-- R502. A neighbour receives an offer and may begin fetching. -/
  | chainOffer (src : Nat) (id : Nat)
  /-- R502. The offerer receives a chunk request and sends the chunk. -/
  | chainRequest (src : Nat) (id : Nat) (off : Nat) (len : Nat)
  /-- R502. A received chunk is written into staging. -/
  | chainChunk (src : Nat) (id : Nat) (off : Nat) (data : List Byte)
  /-- R502. A neighbour reports that it holds the bundle. -/
  | chainHave (src : Nat) (id : Nat)
  /-- R535. Every 60 ÷ DIAG.RATE s, a token is added to a bucket below full. -/
  | diagTokenRefill (n : Nat)
  /-- R526. A falling edge of HSPI_CS starts an SPI transaction and lowers WAKE_OUT held high in mode 0. -/
  | hspiCsFalling (wire : List Byte) (clocks : Nat)
  /-- R462. An entry of the 1 024-entry Ethernet address table ages out after 300 s without use. -/
  | addressTableAgeing (mac : Nat)
  /-- R484. The ACTIVE unit receives the standby's acknowledgement of a replicated epoch and advances REPL_EPOCH. -/
  | hingeEpochAck (e : Nat)
  deriving DecidableEq, Repr

end Sys2Proof
end

