-- ==== Sys2Proof/Decode.lean ====
section
/-! DEFINITION. The commands that words of the table's bits spell: none, since no row of the command table gives bits (log
entry 51). The module has no instruction encoding of its own; its packet codings are in Machine/Hatch.lean. -/

namespace Sys2Proof

/-- The command a word of `nbits` bits spells by the command table: no row has bits. -/
def decodeTableWord (nbits w : Nat) : Option Instr :=
  match nbits, w with
  | _, _ => none

end Sys2Proof
end

