-- ==== Sys2Proof/Machine/ParamTable.lean ====
section
/-! DEFINITION. The parameter tables of the chapters, as data: ID, type, class, default, range, seal, mode rule and
variant function of every parameter (R284–R286 and each chapter's parameter rule). -/

namespace Sys2Proof.Machine

/-- Parameter types of R286; `bytes n` is a byte array of n bytes; the TYPE code of i8 is log entry 21. -/
inductive PType where
  | u8 | u16 | u32 | u64 | i8 | i16 | i32 | i64 | bytes (n : Nat)
  deriving DecidableEq, Repr

/-- SIZE of a type in bytes. -/
def PType.size : PType → Nat
  | .u8 => 1 | .u16 => 2 | .u32 => 4 | .u64 => 8 | .i8 => 1 | .i16 => 2 | .i32 => 4 | .i64 => 8 | .bytes n => n

/-- TYPE code of R286. -/
def PType.code : PType → Nat
  | .u8 => 0x01 | .u16 => 0x02 | .u32 => 0x03 | .u64 => 0x04 | .i8 => 0x11 | .i16 => 0x12 | .i32 => 0x13 | .i64 => 0x14
  | .bytes _ => 0x21

/-- Parameter classes of R284. -/
inductive PClass where
  | l | s | q
  deriving DecidableEq, Repr

/-- CLASS code of R286. -/
def PClass.code : PClass → Nat
  | .l => 1 | .s => 2 | .q => 3

/-- The mode restriction a chapter puts on writing its parameters (R285 step 4). -/
inductive PModes where
  /-- no restriction -/
  | any
  /-- FACTORY and COMMISSION only -/
  | setup
  /-- every mode except HOLDUP -/
  | notHoldup
  /-- every mode except HOLDUP and RECOVERY -/
  | shutter
  /-- FACTORY, COMMISSION and SERVICE -/
  | billing
  /-- COMMISSION and SERVICE -/
  | field
  deriving DecidableEq, Repr

/-- The variant function a parameter belongs to (R1, R2). -/
inductive PFunc where
  | all | td | hinge
  deriving DecidableEq, Repr

/-- One row of a parameter table. -/
structure ParamRow where
  id : Nat
  ty : PType
  cls : PClass
  dflt : Int
  lo : Int
  hi : Int
  isSealed : Bool := false
  readOnly : Bool := false
  modes : PModes := .any
  fn : PFunc := .all
  deriving DecidableEq, Repr

/-- `n` rows of one shape at consecutive IDs. -/
def rowsFrom (n : Nat) (r : ParamRow) : List ParamRow :=
  (List.range n).map fun i => { r with id := r.id + i }

/-- System parameters (R51, R292). -/
def paramsSys : List ParamRow :=
  [ { id := 0x0101, ty := .u16, cls := .l, dflt := 60, lo := 10, hi := 3600 },
    { id := 0x0102, ty := .u16, cls := .s, dflt := 0x007F, lo := 0x0001, hi := 0x007F },
    { id := 0x0103, ty := .u16, cls := .s, dflt := 46, lo := 10, hi := 500 },
    { id := 0x0104, ty := .u8, cls := .q, dflt := 0, lo := 0, hi := 1 },
    { id := 0x0105, ty := .u16, cls := .q, dflt := 500, lo := 100, hi := 2000 },
    { id := 0x0106, ty := .u8, cls := .q, dflt := 0, lo := 0, hi := 1, readOnly := true },
    { id := 0x010A, ty := .u8, cls := .s, dflt := 0, lo := 0, hi := 3, modes := .setup },
    { id := 0x010B, ty := .u16, cls := .s, dflt := 41440, lo := 1024, hi := 65535, modes := .setup } ]

/-- Input parameters (R76). -/
def paramsInput : List ParamRow :=
  [ { id := 0x0240, ty := .u8, cls := .s, dflt := 0, lo := 0, hi := 255, isSealed := true } ]
  ++ rowsFrom 4 { id := 0x0241, ty := .u32, cls := .s, dflt := 125000, lo := 1000, hi := 2000000, isSealed := true }
  ++ [ { id := 0x0245, ty := .u8, cls := .s, dflt := 0, lo := 0, hi := 255 },
    { id := 0x0246, ty := .u8, cls := .s, dflt := 0, lo := 0, hi := 3, isSealed := true, fn := .td },
    { id := 0x0247, ty := .u32, cls := .s, dflt := 625000, lo := 1000, hi := 2000000, isSealed := true, fn := .td },
    { id := 0x0248, ty := .u32, cls := .s, dflt := 1000000, lo := 10000, hi := 1500000, isSealed := true, fn := .td },
    { id := 0x0249, ty := .u8, cls := .s, dflt := 0x88, lo := 0, hi := 255, isSealed := true, fn := .td },
    { id := 0x024A, ty := .u16, cls := .s, dflt := 500, lo := 100, hi := 1500, isSealed := true },
    { id := 0x024B, ty := .u16, cls := .s, dflt := 1000, lo := 100, hi := 10000, isSealed := true } ]

/-- Sieve parameters (R94). -/
def paramsSieve : List ParamRow :=
  [ { id := 0x0260, ty := .u8, cls := .q, dflt := 0, lo := 0, hi := 3, readOnly := true },
    { id := 0x0261, ty := .u8, cls := .q, dflt := 19, lo := 16, hi := 23, readOnly := true },
    { id := 0x0262, ty := .u8, cls := .q, dflt := 24, lo := 20, hi := 28, readOnly := true },
    { id := 0x0263, ty := .u8, cls := .q, dflt := 20, lo := 16, hi := 24, readOnly := true },
    { id := 0x0264, ty := .u8, cls := .s, dflt := 5, lo := 3, hi := 5 },
    { id := 0x0265, ty := .u16, cls := .q, dflt := 1, lo := 0, hi := 65535, readOnly := true },
    { id := 0x0266, ty := .u8, cls := .q, dflt := 50, lo := 50, hi := 60, isSealed := true } ]

/-- Energy parameters (R123). -/
def paramsEnergy : List ParamRow :=
  [ { id := 0x0200, ty := .u8, cls := .s, dflt := 0, lo := 0, hi := 2, isSealed := true },
    { id := 0x0201, ty := .u8, cls := .s, dflt := 7, lo := 1, hi := 7, isSealed := true },
    { id := 0x0202, ty := .u32, cls := .s, dflt := 63000, lo := 1000, hi := 1000000, isSealed := true },
    { id := 0x0203, ty := .u32, cls := .s, dflt := 1575, lo := 100, hi := 50000, isSealed := true },
    { id := 0x0204, ty := .u32, cls := .s, dflt := 100, lo := 10, hi := 10000, isSealed := true, fn := .td },
    { id := 0x0205, ty := .u32, cls := .q, dflt := 0, lo := 0, hi := 1000000, modes := .setup, fn := .td },
    { id := 0x0206, ty := .u32, cls := .s, dflt := 50, lo := 10, hi := 10000, isSealed := true },
    { id := 0x0207, ty := .u16, cls := .s, dflt := 10, lo := 1, hi := 600, isSealed := true },
    { id := 0x0208, ty := .u8, cls := .s, dflt := 1, lo := 0, hi := 1, isSealed := true },
    { id := 0x0209, ty := .u32, cls := .s, dflt := 500, lo := 50, hi := 50000, isSealed := true },
    { id := 0x020A, ty := .u8, cls := .s, dflt := 5, lo := 1, hi := 50, isSealed := true },
    { id := 0x020B, ty := .u16, cls := .s, dflt := 5, lo := 1, hi := 600, isSealed := true } ]

/-- Calibration parameters (R145); paths P12 and P13 are MOD0 and MOD1 (R129). -/
def paramsCal : List ParamRow :=
  rowsFrom 12 { id := 0x0280, ty := .u32, cls := .s, dflt := 1073741824, lo := 805306368, hi := 1342177280,
                isSealed := true, modes := .notHoldup }
  ++ rowsFrom 2 { id := 0x028C, ty := .u32, cls := .s, dflt := 1073741824, lo := 805306368, hi := 1342177280,
                  isSealed := true, modes := .notHoldup, fn := .td }
  ++ rowsFrom 12 { id := 0x0290, ty := .i32, cls := .s, dflt := 0, lo := -1048576, hi := 1048576,
                   isSealed := true, modes := .notHoldup }
  ++ rowsFrom 2 { id := 0x029C, ty := .i32, cls := .s, dflt := 0, lo := -1048576, hi := 1048576,
                  isSealed := true, modes := .notHoldup, fn := .td }
  ++ rowsFrom 3 { id := 0x02A0, ty := .i32, cls := .s, dflt := 10240, lo := -102400, hi := 102400,
                  isSealed := true, modes := .notHoldup }
  ++ [ { id := 0x02A3, ty := .u8, cls := .s, dflt := 1, lo := 0, hi := 1, isSealed := true, modes := .notHoldup },
    { id := 0x02A4, ty := .u8, cls := .s, dflt := 0, lo := 0, hi := 7, isSealed := true, modes := .notHoldup },
    { id := 0x02A5, ty := .u8, cls := .s, dflt := 0, lo := 0, hi := 7, isSealed := true, modes := .notHoldup },
    { id := 0x02A6, ty := .u32, cls := .s, dflt := 10000, lo := 100, hi := 100000, isSealed := true,
      modes := .notHoldup },
    { id := 0x02A7, ty := .u32, cls := .s, dflt := 10000, lo := 100, hi := 100000, isSealed := true,
      modes := .notHoldup },
    { id := 0x02A8, ty := .u8, cls := .s, dflt := 10, lo := 1, hi := 100, modes := .notHoldup } ]

/-- Ledger parameters (R196). -/
def paramsLedger : List ParamRow :=
  [ { id := 0x0300, ty := .u8, cls := .q, dflt := 1, lo := 1, hi := 2, modes := .setup },
    { id := 0x0301, ty := .u8, cls := .q, dflt := 0, lo := 0, hi := 63, modes := .setup },
    { id := 0x0302, ty := .u16, cls := .s, dflt := 15, lo := 0, hi := 1440, modes := .setup },
    { id := 0x0303, ty := .u8, cls := .s, dflt := 1, lo := 0, hi := 1, modes := .setup } ]

/-- Shutter parameters (R364). -/
def paramsShutter : List ParamRow :=
  [ { id := 0x0600, ty := .u8, cls := .q, dflt := 3, lo := 1, hi := 3, modes := .shutter },
    { id := 0x0601, ty := .u32, cls := .q, dflt := 32000, lo := 6000, hi := 80000, modes := .shutter },
    { id := 0x0602, ty := .u32, cls := .q, dflt := 500000, lo := 1000, hi := 1000000, modes := .shutter, fn := .td },
    { id := 0x0603, ty := .u8, cls := .q, dflt := 1, lo := 0, hi := 1, modes := .shutter },
    { id := 0x0604, ty := .u16, cls := .q, dflt := 30, lo := 10, hi := 30, modes := .shutter },
    { id := 0x0605, ty := .u16, cls := .q, dflt := 60, lo := 30, hi := 60, modes := .shutter },
    { id := 0x0606, ty := .u32, cls := .q, dflt := 1073741824, lo := 536870912, hi := 2147483648, modes := .shutter },
    { id := 0x0607, ty := .u8, cls := .q, dflt := 1, lo := 1, hi := 20, modes := .shutter },
    { id := 0x0608, ty := .u16, cls := .q, dflt := 1440, lo := 10, hi := 10080, modes := .shutter },
    { id := 0x0609, ty := .u16, cls := .q, dflt := 200, lo := 50, hi := 1000, modes := .shutter },
    { id := 0x060A, ty := .u16, cls := .q, dflt := 50, lo := 10, hi := 100, modes := .shutter },
    { id := 0x060B, ty := .u16, cls := .q, dflt := 500, lo := 100, hi := 2000, modes := .shutter },
    { id := 0x060C, ty := .u8, cls := .q, dflt := 0, lo := 0, hi := 3, modes := .shutter },
    { id := 0x060D, ty := .u16, cls := .q, dflt := 200, lo := 50, hi := 1000, modes := .shutter },
    { id := 0x060E, ty := .u16, cls := .q, dflt := 100, lo := 20, hi := 500, modes := .shutter },
    { id := 0x060F, ty := .u8, cls := .q, dflt := 40, lo := 20, hi := 100, modes := .shutter },
    { id := 0x0610, ty := .u16, cls := .q, dflt := 50, lo := 20, hi := 100, modes := .shutter },
    { id := 0x0611, ty := .u16, cls := .q, dflt := 60, lo := 20, hi := 200, modes := .shutter, fn := .td },
    { id := 0x0612, ty := .u8, cls := .q, dflt := 0, lo := 0, hi := 255, modes := .shutter },
    { id := 0x0613, ty := .u8, cls := .q, dflt := 0, lo := 0, hi := 1, modes := .shutter } ]

/-- Sagger parameters (R407). -/
def paramsSagger : List ParamRow :=
  [ { id := 0x0800, ty := .u16, cls := .s, dflt := 0x0595, lo := 0, hi := 0x0FFF, modes := .setup },
    { id := 0x0801, ty := .u8, cls := .s, dflt := 7, lo := 0, hi := 7, modes := .setup },
    { id := 0x0802, ty := .u8, cls := .s, dflt := 0, lo := 0, hi := 7, modes := .setup },
    { id := 0x0803, ty := .u16, cls := .s, dflt := 30, lo := 10, hi := 100, modes := .setup } ]

/-- Billing parameters (R236); BIL.PROFILE_CHANNELS and BIL.FINE_CHANNELS are byte arrays held as little-endian
numbers. -/
def paramsBilling : List ParamRow :=
  [ { id := 0x0400, ty := .u8, cls := .q, dflt := 0, lo := 0, hi := 1, modes := .billing },
    { id := 0x0401, ty := .u8, cls := .s, dflt := 15, lo := 1, hi := 60, modes := .billing },
    { id := 0x0402, ty := .u8, cls := .s, dflt := 1, lo := 1, hi := 15, modes := .billing },
    { id := 0x0403, ty := .u8, cls := .s, dflt := 15, lo := 1, hi := 60, modes := .billing },
    { id := 0x0404, ty := .bytes 32, cls := .s,
      dflt := 0x0050004B004A00490048004200410040031F031E031703160315031403070306, lo := 0, hi := 2 ^ 256 - 1,
      modes := .billing },
    { id := 0x0405, ty := .bytes 8, cls := .s, dflt := 0x0048004003070306, lo := 0, hi := 2 ^ 64 - 1,
      modes := .billing },
    { id := 0x0406, ty := .u8, cls := .s, dflt := 3, lo := 0, hi := 3, modes := .billing },
    { id := 0x0407, ty := .u8, cls := .s, dflt := 1, lo := 1, hi := 28, modes := .billing },
    { id := 0x0408, ty := .u16, cls := .s, dflt := 0, lo := 0, hi := 1439, modes := .billing },
    { id := 0x0409, ty := .u8, cls := .q, dflt := 0, lo := 0, hi := 2, modes := .billing },
    { id := 0x040A, ty := .u8, cls := .q, dflt := 1, lo := 0, hi := 63, modes := .billing },
    { id := 0x040B, ty := .i64, cls := .s, dflt := 1000000000, lo := 1, hi := 2 ^ 62, modes := .billing },
    { id := 0x040C, ty := .i64, cls := .s, dflt := 5000, lo := 0, hi := 2 ^ 62, modes := .billing },
    { id := 0x040D, ty := .i64, cls := .s, dflt := 0, lo := 0, hi := 2 ^ 62, modes := .billing },
    { id := 0x040E, ty := .u16, cls := .s, dflt := 1320, lo := 0, hi := 1439, modes := .billing },
    { id := 0x040F, ty := .u16, cls := .s, dflt := 360, lo := 0, hi := 1439, modes := .billing },
    { id := 0x0410, ty := .i64, cls := .s, dflt := 20000, lo := 0, hi := 2 ^ 62, modes := .billing } ]
  ++ rowsFrom 16 { id := 0x0411, ty := .u32, cls := .s, dflt := 0, lo := 0, hi := 4294967295, modes := .billing }
  ++ [ { id := 0x0421, ty := .u16, cls := .s, dflt := 5000, lo := 0, hi := 10000, modes := .billing },
    { id := 0x0422, ty := .u8, cls := .q, dflt := 0x1F, lo := 0, hi := 255, modes := .billing } ]

/-- Power-quality parameters (R166). -/
def paramsPq : List ParamRow :=
  [ { id := 0x02C0, ty := .u32, cls := .s, dflt := 230000, lo := 100000, hi := 277000, modes := .field },
    { id := 0x02C1, ty := .u8, cls := .s, dflt := 90, lo := 70, hi := 95, modes := .field },
    { id := 0x02C2, ty := .u8, cls := .s, dflt := 110, lo := 105, hi := 130, modes := .field },
    { id := 0x02C3, ty := .u8, cls := .s, dflt := 5, lo := 1, hi := 10, modes := .field },
    { id := 0x02C4, ty := .u8, cls := .s, dflt := 2, lo := 1, hi := 5, modes := .field },
    { id := 0x02C5, ty := .u8, cls := .s, dflt := 50, lo := 10, hi := 60, modes := .field },
    { id := 0x02C6, ty := .u16, cls := .s, dflt := 1000, lo := 200, hi := 10000, modes := .field },
    { id := 0x02C7, ty := .u8, cls := .s, dflt := 0xFF, lo := 0, hi := 0xFF, modes := .field },
    { id := 0x02C8, ty := .u8, cls := .s, dflt := 1, lo := 0, hi := 1, modes := .field } ]

/-- Kiln parameters (R262). -/
def paramsKiln : List ParamRow :=
  [ { id := 0x0107, ty := .u16, cls := .l, dflt := 100, lo := 10, hi := 1000 },
    { id := 0x0108, ty := .u16, cls := .s, dflt := 100, lo := 10, hi := 6000 },
    { id := 0x0109, ty := .u8, cls := .s, dflt := 4, lo := 0, hi := 4 } ]

/-- RS-485 parameters (R558). -/
def paramsRs485 : List ParamRow :=
  [ { id := 0x010C, ty := .u32, cls := .s, dflt := 0, lo := 0, hi := 921600, modes := .billing },
    { id := 0x010D, ty := .u8, cls := .s, dflt := 0, lo := 0, hi := 6, modes := .billing },
    { id := 0x010E, ty := .u8, cls := .l, dflt := 0, lo := 0, hi := 1, modes := .billing } ]

/-- Vehicle parameters (R333). -/
def paramsVeh : List ParamRow :=
  [ { id := 0x0500, ty := .u32, cls := .s, dflt := 32000, lo := 6000, hi := 80000 },
    { id := 0x0501, ty := .u8, cls := .s, dflt := 0, lo := 0, hi := 2 },
    { id := 0x0502, ty := .u8, cls := .q, dflt := 1, lo := 0, hi := 2 },
    { id := 0x0503, ty := .u8, cls := .s, dflt := 7, lo := 0, hi := 7 },
    { id := 0x0504, ty := .u8, cls := .s, dflt := 1, lo := 0, hi := 2 },
    { id := 0x0505, ty := .u8, cls := .s, dflt := 0, lo := 0, hi := 1 },
    { id := 0x0506, ty := .u32, cls := .s, dflt := 16000, lo := 0, hi := 80000 },
    { id := 0x0507, ty := .u16, cls := .s, dflt := 60, lo := 5, hi := 120 },
    { id := 0x0508, ty := .u8, cls := .s, dflt := 0, lo := 0, hi := 1 },
    { id := 0x0509, ty := .u8, cls := .s, dflt := 40, lo := 20, hi := 60 },
    { id := 0x050A, ty := .u8, cls := .q, dflt := 0, lo := 0, hi := 30 },
    { id := 0x050B, ty := .u16, cls := .s, dflt := 10, lo := 2, hi := 60 },
    { id := 0x050C, ty := .u8, cls := .q, dflt := 2, lo := 0, hi := 63 },
    { id := 0x050D, ty := .u8, cls := .q, dflt := 3, lo := 0, hi := 63 },
    { id := 0x050E, ty := .u32, cls := .s, dflt := 1000000, lo := 50000, hi := 1500000, fn := .td },
    { id := 0x050F, ty := .u32, cls := .s, dflt := 500000, lo := 1000, hi := 1000000, fn := .td },
    { id := 0x0510, ty := .u32, cls := .s, dflt := 350000, lo := 1000, hi := 500000, fn := .td },
    { id := 0x0511, ty := .u8, cls := .q, dflt := 1, lo := 1, hi := 8, fn := .td },
    { id := 0x0512, ty := .u16, cls := .s, dflt := 7000, lo := 1000, hi := 20000, fn := .td } ]

/-- Load-switch parameters (R381). -/
def paramsLsw : List ParamRow :=
  [ { id := 0x0700, ty := .u16, cls := .q, dflt := 0x5555, lo := 0, hi := 0xAAAA, modes := .billing },
    { id := 0x0701, ty := .u32, cls := .s, dflt := 0x33333333, lo := 0, hi := 0xFFFFFFFF, modes := .billing },
    { id := 0x0702, ty := .u16, cls := .s, dflt := 500, lo := 100, hi := 10000, modes := .billing },
    { id := 0x0703, ty := .u16, cls := .s, dflt := 60, lo := 1, hi := 3600, modes := .billing },
    { id := 0x0704, ty := .u8, cls := .s, dflt := 10, lo := 1, hi := 100, modes := .billing },
    { id := 0x0705, ty := .u16, cls := .s, dflt := 20, lo := 0, hi := 500, modes := .billing },
    { id := 0x0706, ty := .u8, cls := .q, dflt := 0, lo := 0, hi := 0x0F, modes := .billing } ]

/-- Contactless parameters (R425). -/
def paramsCon : List ParamRow :=
  [ { id := 0x0900, ty := .u8, cls := .s, dflt := 7, lo := 0, hi := 7, modes := .billing },
    { id := 0x0901, ty := .u16, cls := .s, dflt := 250, lo := 100, hi := 2000, modes := .billing },
    { id := 0x0902, ty := .u16, cls := .q, dflt := 150, lo := 50, hi := 250, modes := .billing },
    { id := 0x0903, ty := .u16, cls := .s, dflt := 15, lo := 0, hi := 1440, modes := .billing },
    { id := 0x0904, ty := .u8, cls := .s, dflt := 5, lo := 3, hi := 15, modes := .billing } ]

/-- Display parameters (R443); DISP.TRANSOM_RECT is four u16 held as one little-endian number. -/
def paramsDisp : List ParamRow :=
  [ { id := 0x0A00, ty := .u16, cls := .q, dflt := 800, lo := 128, hi := 800, modes := .setup },
    { id := 0x0A01, ty := .u16, cls := .q, dflt := 480, lo := 64, hi := 600, modes := .setup },
    { id := 0x0A02, ty := .u8, cls := .q, dflt := 40, lo := 10, hi := 40, modes := .setup },
    { id := 0x0A03, ty := .i16, cls := .q, dflt := -1500, lo := -3000, hi := 0, modes := .setup },
    { id := 0x0A04, ty := .u8, cls := .q, dflt := 0, lo := 0, hi := 6, modes := .setup },
    { id := 0x0A05, ty := .bytes 8, cls := .q, dflt := 0x0030032001B00000, lo := 0, hi := 2 ^ 64 - 1, modes := .setup },
    { id := 0x0A06, ty := .u8, cls := .s, dflt := 1, lo := 1, hi := 60, modes := .setup },
    { id := 0x0A07, ty := .u32, cls := .s, dflt := 100000000, lo := 1000000, hi := 4000000000, modes := .setup } ]

/-- Mains-carrier parameters (R459). -/
def paramsMc : List ParamRow :=
  [ { id := 0x0B00, ty := .u8, cls := .l, dflt := 1, lo := 0, hi := 1, modes := .setup },
    { id := 0x0B01, ty := .u8, cls := .s, dflt := 0, lo := 0, hi := 30, modes := .setup },
    { id := 0x0B02, ty := .u16, cls := .s, dflt := 600, lo := 60, hi := 3600, modes := .setup },
    { id := 0x0B03, ty := .u8, cls := .s, dflt := 4, lo := 0, hi := 20, modes := .setup },
    { id := 0x0B04, ty := .u8, cls := .s, dflt := 3, lo := 1, hi := 3, modes := .setup },
    { id := 0x0B05, ty := .u16, cls := .s, dflt := 60, lo := 10, hi := 3600, modes := .setup } ]

/-- Lintel parameters (R478). -/
def paramsLin : List ParamRow :=
  [ { id := 0x0C00, ty := .u16, cls := .q, dflt := 0, lo := 0, hi := 0x1000, modes := .setup },
    { id := 0x0C01, ty := .u8, cls := .q, dflt := 0x4F, lo := 0, hi := 0x7F, modes := .setup },
    { id := 0x0C02, ty := .u8, cls := .q, dflt := 128, lo := 0, hi := 255, modes := .setup },
    { id := 0x0C03, ty := .u16, cls := .q, dflt := 0, lo := 0, hi := 65535, modes := .setup },
    { id := 0x0C04, ty := .u16, cls := .q, dflt := 0, lo := 0, hi := 65535, modes := .setup },
    { id := 0x0C05, ty := .u16, cls := .q, dflt := 0, lo := 0, hi := 65535, modes := .setup },
    { id := 0x0C06, ty := .u16, cls := .q, dflt := 6, lo := 0, hi := 65535, modes := .setup },
    { id := 0x0C07, ty := .u32, cls := .q, dflt := 0, lo := 0, hi := 4294967295, modes := .setup },
    { id := 0x0C08, ty := .u16, cls := .q, dflt := 30, lo := 20, hi := 300, modes := .setup },
    { id := 0x0C09, ty := .u32, cls := .q, dflt := 0, lo := 0, hi := 4294967295, modes := .setup },
    { id := 0x0C0A, ty := .u8, cls := .q, dflt := 24, lo := 1, hi := 30, modes := .setup },
    { id := 0x0C0B, ty := .u32, cls := .q, dflt := 0, lo := 0, hi := 4294967295, modes := .setup } ]

/-- Hinge parameters (R492). -/
def paramsHng : List ParamRow :=
  [ { id := 0x0D00, ty := .u8, cls := .q, dflt := 0, lo := 0, hi := 1, modes := .setup, fn := .hinge },
    { id := 0x0D01, ty := .u8, cls := .q, dflt := 0, lo := 0, hi := 1, modes := .setup, fn := .hinge },
    { id := 0x0D02, ty := .u16, cls := .s, dflt := 180, lo := 0, hi := 1439, modes := .setup, fn := .hinge },
    { id := 0x0D03, ty := .u8, cls := .s, dflt := 30, lo := 5, hi := 100, modes := .setup, fn := .hinge } ]

/-- Update parameters (R510). -/
def paramsUpd : List ParamRow :=
  [ { id := 0x0E00, ty := .u8, cls := .q, dflt := 0xFF, lo := 0, hi := 0xFF, modes := .setup },
    { id := 0x0E01, ty := .u8, cls := .s, dflt := 1, lo := 0, hi := 1, modes := .setup },
    { id := 0x0E02, ty := .u16, cls := .s, dflt := 300, lo := 60, hi := 3600, modes := .setup },
    { id := 0x0E03, ty := .u8, cls := .s, dflt := 0, lo := 0, hi := 1, modes := .setup } ]

/-- Recorder parameters (R539); DIAG.SNAP_ITEMS is eight bytes held as one little-endian number. -/
def paramsDiag : List ParamRow :=
  [ { id := 0x0F00, ty := .bytes 8, cls := .s, dflt := 0x0A09414033323130, lo := 0, hi := 2 ^ 64 - 1,
      modes := .billing },
    { id := 0x0F01, ty := .u8, cls := .s, dflt := 4, lo := 1, hi := 60, modes := .billing },
    { id := 0x0F02, ty := .u8, cls := .s, dflt := 4, lo := 1, hi := 16, modes := .billing },
    { id := 0x0F03, ty := .u16, cls := .s, dflt := 10, lo := 1, hi := 60, modes := .billing },
    { id := 0x0F04, ty := .u8, cls := .s, dflt := 0, lo := 0, hi := 1, modes := .billing } ]

/-- Auxiliary and Nightlatch parameters (R528); byte arrays are held as little-endian numbers. -/
def paramsAux : List ParamRow :=
  [ { id := 0x1000, ty := .u16, cls := .q, dflt := 0, lo := 0, hi := 0x0AAA, modes := .billing },
    { id := 0x1001, ty := .u16, cls := .s, dflt := 100, lo := 1, hi := 1000, modes := .billing },
    { id := 0x1002, ty := .u8, cls := .s, dflt := 0, lo := 0, hi := 0x3F, modes := .billing },
    { id := 0x1003, ty := .u32, cls := .s, dflt := 10000, lo := 1000, hi := 100000, modes := .billing },
    { id := 0x1004, ty := .u16, cls := .s, dflt := 3435, lo := 2000, hi := 5000, modes := .billing },
    { id := 0x1005, ty := .i8, cls := .s, dflt := 70, lo := 40, hi := 120, modes := .billing },
    { id := 0x1006, ty := .i8, cls := .s, dflt := 90, lo := 45, hi := 125, modes := .billing },
    { id := 0x1007, ty := .u8, cls := .s, dflt := 0, lo := 0, hi := 3, modes := .billing },
    { id := 0x1008, ty := .bytes 8, cls := .s, dflt := 2 ^ 64 - 1, lo := 0, hi := 2 ^ 64 - 1, modes := .billing },
    { id := 0x1009, ty := .u16, cls := .s, dflt := 200, lo := 20, hi := 5000, modes := .billing },
    { id := 0x100A, ty := .u16, cls := .s, dflt := 2000, lo := 500, hi := 60000, modes := .billing },
    { id := 0x100B, ty := .u8, cls := .s, dflt := 0x7B, lo := 0, hi := 0x7F, modes := .billing },
    { id := 0x100C, ty := .u8, cls := .s, dflt := 0, lo := 0, hi := 1, modes := .billing } ]
  ++ rowsFrom 4 { id := 0x100D, ty := .bytes 8, cls := .s, dflt := 0, lo := 0, hi := 2 ^ 64 - 1, modes := .billing }

end Sys2Proof.Machine
end

