-- ==== Sys2Proof/Machine/OpTable.lean ====
section
/-! DEFINITION. Status codes (R282 and the area tables) and the opcode tables of the chapters as data: opcode,
admitted senders (R268), variant function (R2) and request length. -/

namespace Sys2Proof.Machine

/-- Status codes of R282 and of the areas. -/
abbrev stOk : Nat := 0x0000
abbrev stAccepted : Nat := 0x0001
abbrev stBadOpcode : Nat := 0x0101
abbrev stBadLength : Nat := 0x0102
abbrev stBadParam : Nat := 0x0103
abbrev stBadCrc : Nat := 0x0104
abbrev stSender : Nat := 0x0201
abbrev stWrongMode : Nat := 0x0202
abbrev stSealed : Nat := 0x0203
abbrev stPassword : Nat := 0x0204
abbrev stLockedOut : Nat := 0x0205
abbrev stBusy : Nat := 0x0301
abbrev stQueueFull : Nat := 0x0302
abbrev stExhausted : Nat := 0x0303
abbrev stStale : Nat := 0x0401
abbrev stReplayed : Nat := 0x0402
abbrev stIntegrity : Nat := 0x0501
/-- Area 0x01 (R52, R281). -/
abbrev stSessionActive : Nat := 0x1101
abbrev stHoldupUnmeasured : Nat := 0x1102
abbrev stNotCommissioned : Nat := 0x1103
abbrev stOutputsActive : Nat := 0x1104
abbrev stHoldupCapLow : Nat := 0x1105
abbrev stAborted : Nat := 0x1106
/-- Areas 0x02 and 0x03 (R77, R124, R146, R197). -/
abbrev stEpochNotHeld : Nat := 0x1201
abbrev stContactorClosed : Nat := 0x1241
abbrev stCurrentPresent : Nat := 0x1242
abbrev stNoMeasure : Nat := 0x1281
abbrev stCaptureEmpty : Nat := 0x1301
abbrev stSigningUnavailable : Nat := 0x1302
/-- Area 0x04 (R230–R237). -/
abbrev stSignatureInvalid : Nat := 0x1401
abbrev stWrongModule : Nat := 0x1402
abbrev stExpired : Nat := 0x1403
abbrev stCreditLimit : Nat := 0x1404
abbrev stTimeNotSet : Nat := 0x1405
abbrev stCalendarInvalid : Nat := 0x1406
abbrev stNotPrepaid : Nat := 0x1407
abbrev stEmergencyUnavailable : Nat := 0x1408
abbrev stDisconnected : Nat := 0x1409
abbrev stCreditAtFloor : Nat := 0x140A
/-- Area 0x06 (R366). -/
abbrev stFaultLatched : Nat := 0x1601
abbrev stCloseCondition : Nat := 0x1602
abbrev stReclaimRequired : Nat := 0x1603
abbrev stSresetRequired : Nat := 0x1604
abbrev stSresetStuck : Nat := 0x1605
abbrev stConditionPresent : Nat := 0x1606
abbrev stStopInProgress : Nat := 0x1607
abbrev stPasswordInvalid : Nat := 0x1608
abbrev stLockHeld : Nat := 0x1609
abbrev stSessionHeld : Nat := 0x160A
/-- Area 0x08 (R408). -/
abbrev stLcCondition : Nat := 0x1801
abbrev stSlotEmpty : Nat := 0x1802
abbrev stSlotBad : Nat := 0x1803
abbrev stAttributeDenied : Nat := 0x1804
abbrev stRootUnavailable : Nat := 0x1805
abbrev stTamperBlocked : Nat := 0x1806
abbrev stTestFailed : Nat := 0x1807
abbrev stUsesExhausted : Nat := 0x1808
abbrev stImmutable : Nat := 0x1809
abbrev stRootMismatch : Nat := 0x180A
abbrev stConditionActive : Nat := 0x180B

/-- Area 0x02, power quality (R165). -/
abbrev stWindowNotHeld : Nat := 0x12C1
/-- Area 0x01, Kiln and RS-485 (R263, R559). -/
abbrev stKilnDegraded : Nat := 0x1151
abbrev stPortStopped : Nat := 0x1161
/-- Area 0x05 (R334). -/
abbrev stNoVehicle : Nat := 0x1501
abbrev stLimitExceeded : Nat := 0x1502
abbrev stNoRequest : Nat := 0x1503
abbrev stCertInvalid : Nat := 0x1505
abbrev stBptUnavailable : Nat := 0x1506
abbrev stCreditExhausted : Nat := 0x1507
/-- Area 0x07 (R382). -/
abbrev stExclusive : Nat := 0x1701
/-- Area 0x09 (R426). -/
abbrev stPageNotWritable : Nat := 0x1901
abbrev stLbUnavailable : Nat := 0x1902
abbrev stReaderDisabled : Nat := 0x1903
/-- Area 0x0A (R444). -/
abbrev stBudgetShort : Nat := 0x1A01
abbrev stTempRange : Nat := 0x1A02
abbrev stTableInvalid : Nat := 0x1A03
/-- Area 0x0B (R460). -/
abbrev stNoNeighbour : Nat := 0x1B01
abbrev stTxDisabled : Nat := 0x1B02
/-- Area 0x0C (R479). -/
abbrev stNotAddressed : Nat := 0x1C01
abbrev stNoRoute : Nat := 0x1C02
abbrev stNoReply : Nat := 0x1C03
/-- Area 0x0D (R494). -/
abbrev stNotActive : Nat := 0x1D01
abbrev stPeerNotSynced : Nat := 0x1D02
abbrev stPeerPresent : Nat := 0x1D03
abbrev stNodeDriven : Nat := 0x1D04
/-- Area 0x0E (R511). -/
abbrev stBaseMismatch : Nat := 0x1E01
abbrev stBundleSignature : Nat := 0x1E02
abbrev stLrRule : Nat := 0x1E03
abbrev stNotVerified : Nat := 0x1E04
abbrev stVariantMismatch : Nat := 0x1E05
abbrev stTrialRunning : Nat := 0x1E06
abbrev stPeerNotReady : Nat := 0x1E07
abbrev stStageBusy : Nat := 0x1E08
abbrev stNotStaging : Nat := 0x1E09

/-- The sender tables that the opcode rules use (R268). -/
inductive Admit where
  /-- "All senders" -/
  | all
  /-- "All except LETTERBOX" -/
  | noLetterbox
  /-- INTERNAL, HOST_SPI; SPYHOLE in FACTORY -/
  | hostFactory
  /-- INTERNAL, HOST_SPI -/
  | host
  /-- HOST_SPI; SPYHOLE in FACTORY -/
  | hostOnlyFactory
  /-- HOST_SPI only -/
  | hostOnly
  /-- INTERNAL, HOST_SPI, SPYHOLE -/
  | hostSpy
  /-- INTERNAL, HOST_SPI, ETH_E0, ETH_E1, LINTEL -/
  | network
  /-- INTERNAL, HOST_SPI, ETH_E0, ETH_E1 -/
  | hostEth
  /-- HOST_SPI and SPYHOLE -/
  | hostOrSpy
  /-- INTERNAL, HOST_SPI, HINGE_PEER -/
  | hinge
  /-- SPYHOLE only -/
  | spyOnly
  /-- the chapter's own rule decides (BIL.TIME_SOURCES, R393) -/
  | chapter
  /-- notification from the module: no sender at all (R268) -/
  | notification
  deriving DecidableEq, Repr

/-- One row of an opcode table: LEN is `some n` where the layout fixes the request length. -/
structure OpRow where
  code : Nat
  admission : Admit
  len : Option Nat := some 0
  fn : PFunc := .all
  deriving DecidableEq, Repr

/-- System, interface and mode opcodes (R52, R293). -/
def opsSys : List OpRow :=
  [ ⟨0x0110, .noLetterbox, some 4, .all⟩, ⟨0x0111, .hostFactory, none, .all⟩, ⟨0x0112, .noLetterbox, some 0, .all⟩,
    ⟨0x0130, .noLetterbox, some 0, .all⟩, ⟨0x0131, .hostFactory, some 4, .all⟩,
    ⟨0x0132, .hostOnlyFactory, some 4, .all⟩, ⟨0x0133, .noLetterbox, some 0, .all⟩,
    ⟨0x0138, .notification, none, .all⟩, ⟨0x0139, .notification, none, .all⟩ ]

/-- Metrology opcodes (R77, R95, R124, R146). -/
def opsMet : List OpRow :=
  [ ⟨0x0200, .noLetterbox, some 0, .all⟩, ⟨0x0201, .noLetterbox, some 12, .all⟩,
    ⟨0x0202, .noLetterbox, some 0, .all⟩, ⟨0x0203, .hostSpy, some 8, .all⟩,
    ⟨0x0240, .noLetterbox, some 0, .all⟩, ⟨0x0241, .hostFactory, some 4, .all⟩, ⟨0x0242, .notification, none, .all⟩,
    ⟨0x0260, .noLetterbox, some 0, .all⟩, ⟨0x0261, .hostFactory, some 4, .all⟩, ⟨0x0262, .hostFactory, none, .all⟩,
    ⟨0x0280, .hostFactory, some 4, .all⟩, ⟨0x0281, .hostFactory, some 0, .all⟩, ⟨0x0282, .hostFactory, none, .all⟩,
    ⟨0x0283, .noLetterbox, some 0, .all⟩, ⟨0x0284, .all, some 0, .all⟩ ]

/-- Ledger opcodes (R197). -/
def opsLed : List OpRow :=
  [ ⟨0x0300, .noLetterbox, some 0, .all⟩, ⟨0x0301, .noLetterbox, some 12, .all⟩, ⟨0x0302, .hostSpy, some 4, .all⟩,
    ⟨0x0303, .network, some 32, .all⟩, ⟨0x0304, .noLetterbox, some 0, .all⟩, ⟨0x0308, .notification, none, .all⟩ ]

/-- Billing opcodes (R237). -/
def opsBil : List OpRow :=
  [ ⟨0x0400, .chapter, some 12, .all⟩, ⟨0x0401, .noLetterbox, some 0, .all⟩, ⟨0x0402, .host, none, .all⟩,
    ⟨0x0403, .host, none, .all⟩, ⟨0x0404, .noLetterbox, some 0, .all⟩, ⟨0x0405, .host, some 0, .all⟩,
    ⟨0x0406, .noLetterbox, some 4, .all⟩, ⟨0x0407, .network, some 128, .all⟩, ⟨0x0408, .noLetterbox, some 0, .all⟩,
    ⟨0x0409, .host, some 0, .all⟩, ⟨0x040A, .network, some 4, .all⟩, ⟨0x0410, .notification, none, .all⟩,
    ⟨0x0411, .notification, none, .all⟩, ⟨0x0412, .notification, none, .all⟩ ]

/-- Shutter opcodes (R365). -/
def opsShu : List OpRow :=
  [ ⟨0x0600, .noLetterbox, some 0, .all⟩, ⟨0x0601, .hostFactory, some 4, .all⟩, ⟨0x0602, .hostFactory, some 36, .all⟩,
    ⟨0x0603, .hostFactory, some 0, .all⟩, ⟨0x0604, .hostFactory, some 36, .all⟩, ⟨0x0605, .host, some 0, .all⟩,
    ⟨0x0606, .noLetterbox, some 8, .all⟩, ⟨0x0608, .notification, none, .all⟩ ]

/-- Sagger opcodes (R408). -/
def opsSag : List OpRow :=
  [ ⟨0x0800, .all, some 0, .all⟩, ⟨0x0801, .noLetterbox, some 4, .all⟩, ⟨0x0802, .hostFactory, some 16, .all⟩,
    ⟨0x0803, .chapter, none, .all⟩, ⟨0x0804, .hostFactory, none, .all⟩, ⟨0x0805, .host, none, .all⟩,
    ⟨0x0806, .hostFactory, some 4, .all⟩, ⟨0x0807, .all, some 4, .all⟩, ⟨0x0808, .hostFactory, none, .all⟩,
    ⟨0x0809, .hostOrSpy, none, .all⟩, ⟨0x080A, .hostOnly, none, .all⟩, ⟨0x080B, .spyOnly, some 0, .all⟩,
    ⟨0x0810, .notification, none, .all⟩ ]

/-- Power-quality opcodes (R167). -/
def opsPq : List OpRow :=
  [ ⟨0x02C0, .noLetterbox, some 8, .all⟩, ⟨0x02C1, .noLetterbox, some 12, .all⟩, ⟨0x02C2, .noLetterbox, some 12, .all⟩,
    ⟨0x02C3, .noLetterbox, none, .all⟩, ⟨0x02C4, .notification, none, .all⟩ ]

/-- Kiln, Wedge, DMA and RS-485 opcodes (R263, R311, R559). -/
def opsKiln : List OpRow :=
  [ ⟨0x0150, .noLetterbox, some 0, .all⟩, ⟨0x0158, .notification, none, .all⟩, ⟨0x0F40, .noLetterbox, some 0, .all⟩,
    ⟨0x1100, .noLetterbox, some 0, .all⟩, ⟨0x1101, .hostFactory, some 4, .all⟩, ⟨0x1108, .notification, none, .all⟩,
    ⟨0x0160, .host, none, .all⟩, ⟨0x0168, .notification, none, .all⟩ ]

/-- Vehicle opcodes (R334). -/
def opsVeh : List OpRow :=
  [ ⟨0x0500, .noLetterbox, some 0, .all⟩, ⟨0x0501, .host, some 8, .all⟩, ⟨0x0502, .host, none, .all⟩,
    ⟨0x0503, .host, some 4, .all⟩, ⟨0x0504, .host, some 4, .all⟩, ⟨0x0505, .host, none, .all⟩,
    ⟨0x0506, .host, none, .all⟩, ⟨0x0508, .notification, none, .all⟩, ⟨0x0509, .notification, none, .all⟩,
    ⟨0x050A, .notification, none, .all⟩ ]

/-- Load-switch opcodes (R382). -/
def opsLsw : List OpRow :=
  [ ⟨0x0700, .noLetterbox, some 0, .all⟩, ⟨0x0701, .hostFactory, some 4, .all⟩, ⟨0x0708, .notification, none, .all⟩ ]

/-- Contactless opcodes (R426). -/
def opsCon : List OpRow :=
  [ ⟨0x0900, .all, some 0, .all⟩, ⟨0x0901, .host, some 0, .all⟩, ⟨0x0902, .host, none, .all⟩,
    ⟨0x0903, .host, some 4, .all⟩, ⟨0x0904, .host, some 244, .all⟩, ⟨0x0905, .host, some 12, .all⟩,
    ⟨0x0908, .notification, none, .all⟩, ⟨0x0909, .notification, none, .all⟩ ]

/-- Display opcodes (R444). -/
def opsDisp : List OpRow :=
  [ ⟨0x0A00, .noLetterbox, some 0, .all⟩, ⟨0x0A01, .host, none, .all⟩, ⟨0x0A02, .host, some 16, .all⟩,
    ⟨0x0A03, .host, some 0, .all⟩, ⟨0x0A08, .notification, none, .all⟩ ]

/-- Mains-carrier opcodes (R460). -/
def opsMc : List OpRow :=
  [ ⟨0x0B00, .noLetterbox, some 0, .all⟩, ⟨0x0B01, .noLetterbox, some 4, .all⟩, ⟨0x0B02, .host, some 4, .all⟩,
    ⟨0x0B08, .notification, none, .all⟩ ]

/-- Lintel opcodes (R479). -/
def opsLin : List OpRow :=
  [ ⟨0x0C00, .noLetterbox, some 0, .all⟩, ⟨0x0C01, .noLetterbox, some 0, .all⟩, ⟨0x0C02, .host, none, .all⟩,
    ⟨0x0C08, .notification, none, .all⟩ ]

/-- Hinge opcodes (R494). -/
def opsHng : List OpRow :=
  [ ⟨0x0D00, .noLetterbox, some 0, .hinge⟩, ⟨0x0D01, .hinge, some 0, .hinge⟩, ⟨0x0D02, .hostOnly, some 0, .hinge⟩,
    ⟨0x0D03, .host, some 0, .hinge⟩, ⟨0x0D08, .notification, none, .hinge⟩ ]

/-- Update opcodes (R511). -/
def opsUpd : List OpRow :=
  [ ⟨0x0E00, .noLetterbox, some 0, .all⟩, ⟨0x0E01, .hostSpy, some 704, .all⟩, ⟨0x0E02, .hostSpy, none, .all⟩,
    ⟨0x0E03, .hostSpy, some 0, .all⟩, ⟨0x0E04, .hostSpy, some 0, .all⟩, ⟨0x0E05, .host, some 0, .all⟩,
    ⟨0x0E08, .notification, none, .all⟩ ]

/-- Recorder opcodes (R540). -/
def opsDiag : List OpRow :=
  [ ⟨0x0F00, .all, some 0, .all⟩, ⟨0x0F01, .all, some 4, .all⟩, ⟨0x0F02, .all, some 4, .all⟩,
    ⟨0x0F03, .all, some 0, .all⟩, ⟨0x0F08, .notification, none, .all⟩ ]

/-- Auxiliary and Nightlatch opcodes (R529). -/
def opsAux : List OpRow :=
  [ ⟨0x1000, .noLetterbox, some 4, .all⟩, ⟨0x1001, .hostFactory, some 4, .all⟩, ⟨0x1002, .hostFactory, some 4, .all⟩,
    ⟨0x1003, .noLetterbox, some 0, .all⟩, ⟨0x1004, .hostOnly, some 0, .all⟩, ⟨0x1008, .notification, none, .all⟩ ]

end Sys2Proof.Machine
end

