-- ==== Sys2Proof/Config.lean ====
section
/-! DEFINITION. What an implementation fixes and the spec leaves open: cryptographic functions, values only the
silicon knows, and free values. Every constant here is opaque: no proof can use a value of it (log entries 4 and 8). -/

namespace Sys2Proof.Config

/-- SHA-256 (R143, R190, R227, R360, R385). Log entry 8. -/
opaque sha256 : List Byte → List Byte

/-- HMAC-SHA256 of a key and a message (R386). Log entry 8. -/
opaque hmacSha256 : List Byte → List Byte → List Byte

/-- Signature of a message by a private key of a slot type (R191, R390). Log entry 8. -/
opaque sign : Nat → List Byte → List Byte → List Byte

/-- Verification of a signature: algorithm, public key, message, signature (R229, R402, R501). Log entry 8. -/
opaque verify : Nat → List Byte → List Byte → List Byte → Bool

/-- Public key that belongs to a private key of a slot type (R394, R395). Log entry 8. -/
opaque publicOf : Nat → List Byte → List Byte

/-- Unwrapped plaintext of an RFC 5649 object under a wrap key, none when its check fails (R393). Log entry 8. -/
opaque unwrap : List Byte → List Byte → Option (List Byte)

/-- HKDF-SHA256 of source key, salt, info and length (R393). Log entry 8. -/
opaque hkdf : List Byte → List Byte → List Byte → Nat → List Byte

/-- Whether a key of a type passes the test of R394 step 2. Log entry 8. -/
opaque keyTest : Nat → List Byte → Bool

/-- The subject public key of a DER certificate (R395). Log entry 8. -/
opaque certSubject : List Byte → List Byte

/-- Whether a certificate chain or root set passes the checks of VEH_CERT_LOAD, and whether the store has room for it beside what
it holds (R321, R334). Log entry 41. -/
opaque certsValid : Nat → List (List Byte) → Bool
opaque certsFit : List (List (List Byte)) → List (List Byte) → Bool

/-- Current capacity of one power module, mA (R322; the frames of R328 do not carry it). Log entry 41. -/
opaque pmCapacity : Nat

/-- The n-th draw of `len` bytes from the true random source (R360, R393, R402). Log entry 4. -/
opaque random : Nat → Nat → List Byte

/-- K_PUF of the module (R385). Log entry 8. -/
opaque kPuf : List Byte

/-- The Nyhilu return-authority public key in ROM (R402). Log entry 8. -/
opaque returnAuthorityKey : List Byte

/-- The filters of the ROM coefficient set 0x0001 (R82, R91), whose taps the spec does not list: H1, H1M, H2, H3, HS as
stored halves. Log entry 9. -/
opaque romFilter : Nat → List Int

/-- SET_VERSION of the ROM coefficient set (R89). Log entry 9. -/
opaque romSetVersion : Nat

/-- CRC of the ROM coefficient set (R89). Log entry 9. -/
opaque romSetCrc : Nat

/-- LR_VERSION: major, minor, patch (R143). Log entry 10. -/
opaque lrVersion : Nat × Nat × Nat

/-- The parts of the firmware set delivered with the module, PART_ID 1 to 7 (R496). Log entry 10. -/
opaque deliveredPart : Nat → List Byte

/-- The Nyhilu firmware key in ROM (R498). Log entry 8. -/
opaque firmwareKey : List Byte

/-- The metrology firmware image over which LR_HASH is computed (R143). Log entry 10. -/
opaque metrologyImage : List Byte

/-- The coefficients of the 64-phase, 16-tap interpolator of R151 in 2^-30, by phase and tap; the spec does not list them. Log
entry 39. -/
opaque interpTap : Nat → Nat → Int

/-- The twiddle factors of Kiln's transforms: cosine and sine of k/m of a turn in 2^-30 (R151, R152, R156). Log entry 39. -/
opaque twiddle : Nat → Nat → Int × Int

/-- The 8 × 16 ROM font of R438: character code and row, eight pixels with the leftmost as bit 7. Log entry 45. -/
opaque glyph : Nat → Nat → Nat

/-- The value shown for an NTC code whose resistance lies beyond the curve of R518. Log entry 48. -/
opaque noTemp : Nat → Int

/-- The main-die temperature of a code of channel 12, 0.01 °C: the spec gives its range alone (R514). Log entry 48. -/
opaque dieTempOf : Nat → Int

/-- The peak of the supply at AC_L/AC_N as the module knows it in an epoch, 0.1 V (R48): no command carries it. Log entry 66. -/
opaque supplyPeak : Nat → Nat

/-- A free byte, one for each index (log entry 4). -/
opaque freeByte : Nat → Byte

/-- A free number, one for each index (log entry 4). -/
opaque freeNat : Nat → Nat

/-- A free choice, one for each index (log entry 4). -/
opaque freeBool : Nat → Bool

end Sys2Proof.Config
end

