-- ==== Sys2Proof/Machine/Arith.lean ====
section
/-! DEFINITION. Integer arithmetic the rules name: rounding divisions and shifts, saturation, the exact
integer square root, serial comparison, and two's-complement narrowing. -/

namespace Sys2Proof.Machine

/-- Division to nearest, ties away from zero (R113), for a positive divisor. -/
def divRound (a : Int) (b : Nat) : Int :=
  if a ≥ 0 then (2 * a + b) / (2 * b) else -((2 * (-a) + b) / (2 * b))

/-- Division to nearest, ties away from zero, of naturals. -/
def divRoundN (a b : Nat) : Nat := (2 * a + b) / (2 * b)

/-- Division rounded up (R178 ceil). -/
def divCeil (a b : Nat) : Nat := (a + b - 1) / b

/-- Arithmetic right shift, floor (the ">>" of R87, R130, R131). -/
def shrFloor (x : Int) (n : Nat) : Int := x / (2 ^ n : Int)

/-- Arithmetic right shift with rounding to nearest, ties away from zero (R82). -/
def shrRound (x : Int) (n : Nat) : Int := divRound x (2 ^ n)

/-- Saturation to a signed width of `w` bits (R82). -/
def satS (w : Nat) (x : Int) : Int := max (-(2 ^ (w - 1) : Int)) (min (2 ^ (w - 1) - 1 : Int) x)

/-- Clamp to a closed range. -/
def clampI (lo hi x : Int) : Int := max lo (min hi x)

/-- Clamp of naturals to a closed range. -/
def clampN (lo hi x : Nat) : Nat := max lo (min hi x)

/-- The largest value of a 64-bit counter. -/
abbrev max64 : Nat := 2 ^ 64 - 1

/-- A counter that holds at its maximum (R186 saturate). -/
def satInc (top n : Nat) : Nat := if n < top then n + 1 else top

/-- One bit of the digit-by-digit square root: `fuel` bits remain. -/
def isqrtGo : Nat → Nat → Nat → Nat
  | 0, _, r => r
  | k + 1, x, r => if (r + 2 ^ k) * (r + 2 ^ k) ≤ x then isqrtGo k x (r + 2 ^ k) else isqrtGo k x r

/-- The exact integer square root, rounded down (R113), for arguments below 2^256. -/
def isqrt (x : Nat) : Nat := isqrtGo 128 x 0

/-- `a` newer than `b` by the serial arithmetic of R187 on `n`-bit counters. -/
def serialNewer (n a b : Nat) : Bool :=
  let d := (a + 2 ^ n - b % 2 ^ n) % 2 ^ n
  decide (1 ≤ d) && decide (d < 2 ^ (n - 1))

/-- The unsigned reading of a two's-complement value on `n` bytes (00: little-endian fields). -/
def toU (n : Nat) (v : Int) : Nat := (v % (256 ^ n : Int)).toNat

/-- The signed reading of an `n`-byte value. -/
def toI (n v : Nat) : Int := if 2 * (v % 256 ^ n) < 256 ^ n then (v % 256 ^ n : Nat) else (v % 256 ^ n : Nat) - (256 ^ n : Int)

/-- Bit `i` of a natural number. -/
def bitN (x i : Nat) : Bool := x / 2 ^ i % 2 == 1

/-- A natural number with bit `i` set or cleared. -/
def setBitN (x i : Nat) (b : Bool) : Nat :=
  if bitN x i then (if b then x else x - 2 ^ i) else (if b then x + 2 ^ i else x)

/-- A flag as a number. -/
def b2n (b : Bool) : Nat := if b then 1 else 0

/-- Flags packed with the first as bit 0. -/
def packBits : List Bool → Nat
  | [] => 0
  | b :: bs => b2n b + 2 * packBits bs

/-- The first `n` bits of a mask, bit 0 first. -/
def bitsOf (n x : Nat) : List Bool := (List.range n).map (bitN x)

/-- The indices below `n` that a mask selects, ascending. -/
def maskIdx (n x : Nat) : List Nat := (List.range n).filter (bitN x)

/-- A list with one entry rewritten by a function. -/
def modAt {α : Type} (l : List α) (i : Nat) (f : α → α) : List α :=
  l.mapIdx fun j a => if j = i then f a else a

/-- The number of list entries that satisfy a test. -/
def countWhere {α : Type} (p : α → Bool) (l : List α) : Nat := (l.filter p).length

/-- The largest of a list of naturals, 0 for the empty list. -/
def maxOf (l : List Nat) : Nat := l.foldl max 0

/-- The least of a value and the members of a list. -/
def minOf (x : Nat) (l : List Nat) : Nat := l.foldl min x

/-- The sum of a list of integers. -/
def sumI (l : List Int) : Int := l.foldl (· + ·) 0

/-- The sum of a list of naturals. -/
def sumN (l : List Nat) : Nat := l.foldl (· + ·) 0

/-- The last `n` entries of a list (a ring that keeps its newest `n` records, oldest first). -/
def keepLast {α : Type} (n : Nat) (l : List α) : List α := l.drop (l.length - n)

/-- A ring of at most `n` records with one more appended. -/
def pushRing {α : Type} (n : Nat) (l : List α) (a : α) : List α := keepLast n (l ++ [a])

end Sys2Proof.Machine
end

