-- ==== Sys2Proof/Machine/Bytes.lean ====
section
/-! DEFINITION. Byte strings: little-endian fields (00), CRC-32C (R276) and the packing of queue words. -/

namespace Sys2Proof.Machine

/-- `n` bytes of a natural number, least significant first (00: little-endian). -/
def le : Nat → Nat → List Byte
  | 0, _ => []
  | n + 1, v => BitVec.ofNat 8 v :: le n (v / 256)

/-- `n` bytes of a signed number, two's complement, least significant first. -/
def leI (n : Nat) (v : Int) : List Byte := le n (toU n v)

/-- `n` bytes of zero (reserved fields). -/
def zeros (n : Nat) : List Byte := List.replicate n 0

/-- The number that little-endian bytes spell. -/
def ofLe : List Byte → Nat
  | [] => 0
  | b :: bs => b.toNat + 256 * ofLe bs

/-- A byte string cut or padded with zeros to exactly `n` bytes. -/
def padTo (n : Nat) (l : List Byte) : List Byte := (l ++ zeros n).take n

/-- The `n`-byte little-endian field at an offset of a byte string (0 beyond its end). -/
def fieldAt (l : List Byte) (off n : Nat) : Nat := ofLe (padTo n (l.drop off))

/-- Eight shift steps of the reflected CRC-32C register (polynomial 0x82F6_3B78). -/
def crcBits : Nat → BitVec 32 → BitVec 32
  | 0, c => c
  | k + 1, c => crcBits k (if c.getLsbD 0 then (c >>> 1) ^^^ 0x82F63B78#32 else c >>> 1)

/-- CRC-32C register over a byte string. -/
def crcGo : List Byte → BitVec 32 → BitVec 32
  | [], c => c
  | b :: bs, c => crcGo bs (crcBits 8 (c ^^^ b.zeroExtend 32))

/-- CRC-32C (Castagnoli, reflected, initial value and final XOR 0xFFFF_FFFF; R276). -/
def crc32c (l : List Byte) : Nat := (crcGo l 0xFFFFFFFF#32 ^^^ 0xFFFFFFFF#32).toNat

/-- A record with its CRC-32C appended (R171: every record carries its own CRC). -/
def withCrc (l : List Byte) : List Byte := l ++ le 4 (crc32c l)

/-- The 32-bit words of a byte string, the last padded with zeros (R276). -/
def toWords : Nat → List Byte → List Nat
  | 0, _ => []
  | _, [] => []
  | k + 1, l => fieldAt l 0 4 :: toWords k (l.drop 4)

/-- The bytes of a list of 32-bit words, each little-endian. -/
def ofWords (ws : List Nat) : List Byte := (ws.map (le 4)).flatten

end Sys2Proof.Machine
end

