-- ==== Sys2Proof/Machine/Parts/AuxNight.lean ====
section
/-! DEFINITION. State of the auxiliary ADC and Nightlatch (23). -/

namespace Sys2Proof.Machine

/-- What a conversion is for (R516). -/
inductive AdcUse where
  | schedule
  | cpHigh | cpLow
  | trig (pos : Nat) (cycle : Nat) (epoch : Nat)
  | capacitance
  | convert
  deriving DecidableEq, Repr

/-- A conversion (R516): channel, use, and whether it is a rerun. -/
structure Conversion where
  ch : Nat
  use : AdcUse
  rerun : Bool
  deriving DecidableEq, Repr

/-- A pending AUX_CONVERT (R530). -/
structure ConvertReq where
  req : Req
  ch : Nat
  n : Nat
  done : Nat
  sum : Nat
  flags : Nat
  deriving DecidableEq, Repr

/-- An ADC_TRIG FIFO entry (R530). -/
structure TrigEntry where
  epoch : Nat
  cycle : Nat
  ch : Nat
  result : Nat
  deriving DecidableEq, Repr

/-- A watch rule's timers (R525). -/
structure RuleState where
  active : Bool := false
  since : Option Tick := none
  deriving DecidableEq, Repr

/-- The temperatures of one source in an epoch, 0.01 °C, and the mean of the epoch before (R435). -/
structure TempMean where
  epoch : Nat := 0
  sum : Int := 0
  n : Nat := 0
  before : Int := 0
  deriving DecidableEq, Repr

/-- The auxiliary ADC (23). -/
structure AuxAdc where
  /-- epoch, sum, count, and the mean before it, for the main die and AN0–AN5 · R435 (18) · temperatures of the epoch -/
  means : List TempMean := List.replicate 7 {}
  /-- 24 × 16 bits · R515 (23) · newest result word per channel -/
  results : List Nat := List.replicate 24 0
  /-- signed · R530 (23) · newest VALUE per channel -/
  values : List Int := List.replicate 24 0
  /-- 1 bit · R514 (23) · VREF_FAULT -/
  vrefFault : Bool := false
  /-- 0–3 · R514 (23) · consecutive readings of channel 6 against the present judgement -/
  vrefRun : Nat := 0
  /-- mask of AN channels · R518 (23) · SENSOR_FAULT -/
  sensorFault : Nat := 0
  /-- record · R516 (23) · conversion running -/
  running : Option Conversion := none
  /-- records · R516 (23) · aborted conversion to rerun first -/
  aborted : Option Conversion := none
  /-- records · R516 (23) · urgent requests waiting, in order of service -/
  urgent : List Conversion := []
  /-- up to 4 · R529 (23) · AUX_CONVERT requests pending, oldest first -/
  converts : List ConvertReq := []
  /-- position and instant · R517 (23) · ADC_TRIG sequence running: next position -/
  trig : Option Nat := none
  /-- 64 entries · R517 (23) · ADC_TRIG FIFO, oldest first -/
  fifo : List TrigEntry := []
  /-- 16 bits · R530 (23) · TRIG_MISSED -/
  missed : Nat := 0
  /-- epoch and 0.01 °C, 100 epochs per AN channel, newest first · R519 (23) · temperatures for the mean -/
  temps : List (List (Nat × Int)) := [[], [], [], [], [], []]
  /-- mA · R519 (23) · I_temp in force, none while no channel has a role -/
  iTemp : Option Nat := none
  /-- ticks · R519 (23) · last raise of I_temp -/
  iTempAt : Tick := 0
  deriving DecidableEq, Repr

/-- Nightlatch (23). -/
structure Nightlatch where
  /-- signed ticks · R12 (01), R521 (23) · RTC at the instant rtcAt -/
  rtc : Int := 0
  /-- ticks · R521 (23) · instant at which the RTC was last set from civil time; the model's own, log entry 3 -/
  rtcAt : Tick := 0
  /-- 1 bit · R39 (02) · RTC has kept time since it was set -/
  rtcValid : Bool := false
  /-- ppb, 1 000 epochs, newest first · R521 (23) · crystal offsets measured -/
  offsets : List Int := []
  /-- signed ppb · R530 (23) · RTC_PPB -/
  ppb : Int := 0
  /-- signed s · R522 (23) · RTC value at t_f, in the outage store -/
  outageRtc : Option Int := none
  /-- 16 entries · R522 (23) · TAMP changes with RTC times: input, new state, time -/
  outageTamp : List (Nat × Bool × Int) := []
  /-- 1 bit · R522 (23) · more TAMP changes than the store holds -/
  outageOverflow : Bool := false
  /-- signed s · R530 (23) · OUTAGE_START -/
  outageStart : Int := 0
  /-- signed s · R530 (23) · OUTAGE_END -/
  outageEnd : Int := 0
  /-- 1 bit · R530 (23) · RTC lost at the last start -/
  rtcLost : Bool := false
  /-- 1 bit · R530 (23) · outage store overflowed, as handed over -/
  overflowed : Bool := false
  /-- 1 bit · R523 (23) · idle-current check armed -/
  armed : Bool := false
  /-- ticks · R523 (23) · both coils de-energised since -/
  openSince : Option Tick := none
  /-- 4 × mA · R530 (23) · IDLE_RMS of the last block -/
  idleRms : List Nat := [0, 0, 0, 0]
  /-- 4 × code², and a count up to 100 · R523 (23) · squares of the aligned block in progress -/
  acc : List Nat := [0, 0, 0, 0]
  accN : Nat := 0
  /-- blocks · R523 (23) · consecutive blocks at or above NL.IDLE_I, per channel -/
  above : List Nat := [0, 0, 0, 0]
  /-- blocks · R523 (23) · consecutive blocks with every channel below 80 % -/
  below : Nat := 0
  /-- 1 bit · R523 (23) · idle-current condition -/
  idle : Bool := false
  /-- four rules · R525 (23) · watch rules -/
  rules : List RuleState := List.replicate 4 {}
  /-- mask of R51 · R33 (02) · sources seen in WATCH whose wake is due within 50 ms -/
  wakeDue : Nat := 0
  /-- 1 bit · R526 (23) · WAKE_OUT high -/
  wakeOut : Bool := false
  /-- ticks · R526 (23) · end of the 10 ms pulse -/
  wakePulse : Option Tick := none
  /-- bit number · R530 (23) · WAKE_SRC, none when there was no wake -/
  wakeSrc : Option Nat := none
  /-- 1 bit · R520 (23) · VBAT_LOW -/
  vbatLow : Bool := false
  deriving DecidableEq, Repr

end Sys2Proof.Machine
end

