-- ==== Sys2Proof/Machine/Parts/Carrier.lean ====
section
/-! DEFINITION. State of the mains-carrier modem (19). -/

namespace Sys2Proof.Machine

/-- A neighbour table entry (R453–R456, R460). -/
structure McNeighbour where
  moduleId : Nat
  short : Nat
  /-- code of R455 reported, 3 unknown, and REVERSED -/
  phase : Nat
  reversed : Bool
  /-- classifications of the last frames, newest first -/
  phases : List (Nat × Bool)
  /-- modulations of the 30 data carriers towards it, none without a map -/
  map : Option (List Nat)
  tmi : Nat
  down : Nat
  snr : Nat
  segSent : Nat
  segLost : Nat
  heardEpoch : Nat
  heardAt : Tick
  refreshed : Tick
  refreshFails : Nat
  /-- TMI of the map last returned to it -/
  givenTmi : Nat
  /-- MC_TONEMAP_REFRESH awaits its new map -/
  wanted : Bool
  deriving DecidableEq, Repr

/-- A frame to send (R451, R452). -/
structure McFrame where
  type : Nat
  dst : Nat
  seq : Nat
  prio : Nat
  payload : List Byte
  retry : Nat
  /-- segments still to send in the next round -/
  todo : List Nat
  /-- consecutive rounds without an acknowledgement -/
  silent : Nat
  /-- a downgrade happened during the exchange, so a TYPE 3 request follows it -/
  downgraded : Bool
  deriving DecidableEq, Repr

/-- An incomplete received frame (R452). -/
structure McPartial where
  src : Nat
  seq : Nat
  nseg : Nat
  len : Nat
  prio : Nat
  segs : List (Nat × List Byte)
  last : Tick
  deriving DecidableEq, Repr

/-- The mains-carrier modem (19). -/
structure Carrier where
  /-- ticks · R449 (19) · instant of the last supply zero crossing -/
  lastZc : Option Tick := none
  /-- ticks · R455 (19) · own last rising crossing -/
  lastRising : Option Tick := none
  /-- 16 × ticks, newest first · R449 (19) · half-periods -/
  halves : List Nat := []
  /-- 0–2 · R452 (19) · own windows without a preamble heard in a row -/
  quiet : Nat := 0
  /-- windows · R452 (19) · backoff windows still to wait -/
  backoff : Option Nat := none
  /-- 2–6 · R452 (19) · k of the backoff -/
  k : Nat := 2
  /-- windows · R452 (19) · reserved windows of the receiver still to pass -/
  reserved : Nat := 0
  /-- frames · R452 (19) · queue, oldest first; PRIO 0 is served first -/
  queue : List McFrame := []
  /-- record · R452 (19) · frame whose exchange runs -/
  current : Option McFrame := none
  /-- symbols · R449 (19) · symbols the current round still needs -/
  symbols : Nat := 0
  /-- 1 bit · R452 (19) · a round has ended and its acknowledgement is awaited -/
  awaiting : Bool := false
  /-- frame · R452 (19) · acknowledgement to send: destination, SEQ, bitmap, SNR -/
  ackDue : Option (Nat × Nat × Nat × Nat) := none
  /-- symbols and windows · R452 (19) · symbols of that acknowledgement still to send, reserved windows left for it -/
  ackLeft : Nat × Nat := (0, 0)
  /-- 64 entries · R456 (19) · neighbour table -/
  neighbours : List McNeighbour := []
  /-- records · R452 (19) · incomplete received frames -/
  rx : List McPartial := []
  /-- source and SEQ, newest first · R452 (19) · frames passed upward, so that each passes once -/
  passed : List (Nat × Nat) := []
  /-- 16 bits · R451 (19) · SEQ of the next frame that carries no fabric packet -/
  nextSeq : Nat := 0
  /-- 32 bits · R460 (19) · FRAMES_TX -/
  framesTx : Nat := 0
  /-- 32 bits · R460 (19) · FRAMES_RX -/
  framesRx : Nat := 0
  /-- 32 bits · R460 (19) · FRAMES_FAILED -/
  framesFailed : Nat := 0
  /-- 32 bits · R460 (19) · SEG_RETX -/
  segRetx : Nat := 0
  /-- 32 bits · R460 (19) · DOWNGRADES -/
  downgrades : Nat := 0
  /-- ticks · R456 (19) · next beacon -/
  beaconAt : Tick := 0
  /-- 1 bit · R449 (19) · a burst was sent in the window last opened -/
  burstNow : Bool := false
  deriving DecidableEq, Repr

end Sys2Proof.Machine
end

