-- ==== Sys2Proof/Machine/Parts/Contactless.lean ====
section
/-! DEFINITION. State of the card reader and the Letterbox (17). -/

namespace Sys2Proof.Machine

/-- A card of the set present (R412, R414). -/
structure Card where
  ident : List Byte
  missed : Nat
  forwarded : Bool
  deriving DecidableEq, Repr

/-- The local list (R415). -/
structure CardList where
  version : Nat
  entries : List (List Byte)
  deriving DecidableEq, Repr

/-- One physical slot of a Letterbox page (R417). -/
structure LbSlot where
  gen : Nat := 0
  data : List Byte := []
  valid : Bool := false
  deriving DecidableEq, Repr

/-- The tag configuration (R419): state 0 OPEN, 1 SECURED, 2 LOCKED, the passwords and the attempts left. -/
structure LbConfig where
  state : Nat := 0
  readPw : Nat := 0
  writePw : Nat := 0
  attempts : Nat := 5
  deriving DecidableEq, Repr

/-- What the tag answers to a field command (R416): nothing, an error code, or data bytes. -/
inductive RfAnswer where
  | none
  | error (code : Nat)
  | ok (data : List Byte)
  deriving DecidableEq, Repr

/-- The card reader and the Letterbox (17). -/
structure Contactless where
  /-- up to 8 cards · R412 (17) · set of cards present -/
  cards : List Card := []
  /-- 1 bit · R412 (17) · TOO_MANY -/
  tooMany : Bool := false
  /-- 1 bit · R427 (17) · selection blocked -/
  blocked : Bool := false
  /-- list, flash · R415 (17) · local list; none loaded -/
  list : Option CardList := none
  /-- mA · R410 (17) · antenna current as measured -/
  iAnt : Nat := 0
  /-- signed 0.1° · R410 (17) · antenna phase as measured -/
  phase : Int := 0
  /-- 15 pages × 2 slots, tag store · R417 (17) · page slots -/
  pages : List (LbSlot × LbSlot) := List.replicate 15 ({}, {})
  /-- tag store · R419 (17) · tag configuration -/
  config : LbConfig := {}
  /-- 2 bits · R418 (17) · AUTH of the present field session -/
  auth : Nat := 0
  /-- 1 bit · R427 (17) · a field is present at the Letterbox -/
  field : Bool := false
  /-- 0–2 · R416 (17) · tag state in the field: 0 ready, 1 quiet, 2 selected -/
  rf : Nat := 0
  /-- 64 bits · R427 (17) · LB_UID; log entry 2 -/
  uid : Nat := 0
  /-- answer · R416 (17) · answer to the last field command -/
  answer : RfAnswer := .none
  /-- 16 bits · R423 (17) · GEN[14] baseline, above which a committed request is new -/
  baseline : Nat := 0
  /-- 64 bits · R418 (17) · SUMMARY_EPOCH -/
  summaryEpoch : Nat := 0
  /-- ticks · R412 (17) · earliest next poll cycle or detection pulse -/
  pollAt : Tick := 0
  /-- 1 bit · R421 (17) · a session close or a billing close calls for a summary -/
  summaryDue : Bool := false
  /-- minutes · R421 (17) · multiple of CON.LB_SUMMARY_PERIOD of the newest summary -/
  summaryMin : Option Int := none
  /-- 1 bit · R420 (17) · UNCLEAN_CLOSE recorded since the previous summary -/
  summaryUnclean : Bool := false
  deriving DecidableEq, Repr

end Sys2Proof.Machine
end

