-- ==== Sys2Proof/Machine/Parts/Core.lean ====
section
/-! DEFINITION. State of the whole module: identity, clock, supplies, reset domains, operating mode, hold-up and
the reclaim window (spec files 00, 01, 02, 25). In every file of this folder a field's comment gives its width,
its rule and, between brackets, S where the spec states the reset value; an unmarked value is log entry 1. -/

namespace Sys2Proof.Machine

/-- What is fixed at manufacture. -/
structure Ident where
  /-- enum · R1 (00) · ordering variant; log entry 2 -/
  variant : Variant := .tdh
  /-- 64 bits · R172 (08) · MODULE_ID; log entry 2 -/
  moduleId : Nat := 0
  deriving DecidableEq, Repr

/-- The timebase. -/
structure Clock where
  /-- unbounded · R12 (01) · timebase cycles since the first power-up; the model's own, log entry 3 -/
  now : Tick := 0
  /-- 64 bits · R15 (01) · EPOCH the timebase is in -/
  epoch : Nat := 0
  /-- ticks · R15 (01) · instant the present timebase epoch began; the model's own, log entry 3 -/
  epochStart : Tick := 0
  /-- 1 bit · R35 (02) · TCXO running and PLL locked -/
  pllLocked : Bool := false
  /-- unbounded · (model) · counter that indexes the free values of Config; the model's own, log entry 4 -/
  free : Nat := 0
  deriving DecidableEq, Repr

/-- Supplies and the pads of the power system. -/
structure Power where
  /-- 1 bit · R35 (02) · mains present at AC_L/AC_N -/
  mains : Bool := false
  /-- 1 bit · R35 (02) · internal rails good -/
  rails : Bool := false
  /-- 1 bit · R39 (02), R547 (25) · VBAT applied -/
  vbat : Bool := false
  /-- 1 bit · R39 (02) · VBAT has been present since the rails fell -/
  vbatThrough : Bool := false
  /-- 1 bit · R8 (01) · D0 runs from the rails, else from VBAT -/
  d0OnRails : Bool := false
  /-- mV · R37 (02) · VHOLD as last measured -/
  vhold : Nat := 0
  /-- 1 bit · R35 (02) · VHOLD charger connected -/
  charging : Bool := false
  /-- ticks · R36 (02) · instant the VHOLD charging began -/
  chargeStart : Tick := 0
  /-- ticks · R37 (02) · instant the 20 ms capacitance draw began -/
  drawStart : Option Tick := none
  /-- 1 bit · R44 (02) · V12_OUT on -/
  v12Out : Bool := false
  /-- ticks · R546 (25) · V12_OUT off after an overload since -/
  v12Tripped : Option Tick := none
  /-- 1 bit · R44 (02) · V3V3_OUT on -/
  v3v3Out : Bool := false
  /-- 0.1 V peak · R48 (02) · present supply peak, for the predicted V_B -/
  supplyPeak : Nat := 0
  deriving DecidableEq, Repr

/-- Which domains are out of reset, and the reset bookkeeping. -/
structure Domains where
  /-- 1 bit · R8 (01) · D0 runs -/
  d0 : Bool := false
  /-- 1 bit · R35 (02) · D1 out of reset -/
  d1 : Bool := false
  /-- 1 bit · R35 (02) · D2 out of reset -/
  d2 : Bool := false
  /-- 1 bit · R35 (02) · D3 out of reset -/
  d3 : Bool := false
  /-- 1 bit · R35 (02) · D4 out of reset -/
  d4 : Bool := false
  /-- 1 bit · R272 (11) · firmware has raised READY -/
  ready : Bool := false
  /-- 8 bits · R39 (02) · cause code of the last reset -/
  cause : Nat := 0
  /-- 8 bits · R49 (02) · cause code of the last module start, whatever has reset D3 since -/
  startCause : Nat := 0
  /-- 1 bit · R39 (02) · D2 alone restarts after a timebase fault -/
  d2Alone : Bool := false
  /-- 1 bit · R19 (01) · some part of the present epoch ran without a Kiln cell (D3_GAP) -/
  d3Gap : Bool := true
  /-- 1 bit · R281 (11) · D3 has been reset since the module last started, so pending commands are aborted -/
  abortDue : Bool := false
  /-- 1 bit · R49 (02), R180 (08) · Kiln's part of a module start is still to do -/
  kilnDue : Bool := true
  /-- ticks · R547 (25) · end of the low pulse on HRST, until which D3 stays in reset -/
  hrstUntil : Tick := 0
  deriving DecidableEq, Repr

/-- Operating mode (R30–R33) and the records of R32 that choose it. -/
structure ModeState where
  /-- 8-bit code · R30 (02) · mode in force -/
  mode : Mode := .none
  /-- 64 bits · R53 (02) · MODE_SINCE, epoch at which the mode was entered -/
  since : Nat := 0
  /-- 8-bit code, MRAM · R32 (02) · previous mode -/
  prev : Mode := .none
  /-- 1 bit · R36 (02) · the mode is the interim COMMISSION -/
  interim : Bool := false
  /-- code and 64 bits · R31 (02) · accepted mode request and its effective epoch -/
  request : Option (Mode × Nat) := none
  /-- 1 bit, MRAM · R32 (02) · RECOVERY pending -/
  recoveryPending : Bool := false
  /-- 64 bits · R31, R32 (02) · exit from RECOVERY accepted: epoch at whose start the module restarts -/
  exitDue : Option Nat := none
  /-- 1 bit · R32 (02) · a valid firmware image exists; log entry 2 -/
  validImage : Bool := true
  /-- 32 bits, MRAM · R186 (08) · POWER_CYCLES -/
  powerCycles : Nat := 0
  /-- ticks · R32 (02) · instant since which the module has been idle in SERVICE -/
  idleSince : Tick := 0
  /-- ticks · R35 (02) · t0 of the present start -/
  startAt : Tick := 0
  /-- scope and request · R54 (02) · SYS_RESET accepted and its reply sent or about to be sent -/
  resetScope : Option (Nat × Req) := none
  deriving DecidableEq, Repr

/-- The steps of the hold-up sequence (R46). -/
inductive HoldupStage where
  | idle | waitAbsent | finalCommit | signedReading | letterbox | display | ended
  deriving DecidableEq, Repr

/-- Hold-up capacitance, budget and sequence (R37–R48). -/
structure Holdup where
  /-- 32 bits, µF · R37 (02) · C_meas of the newest measurement, 0 if none -/
  cMeas : Nat := 0
  /-- 1 bit · R37 (02) · C_meas is flagged out of range -/
  outOfRange : Bool := false
  /-- 64 bits · R55 (02) · C_MEAS_EPOCH -/
  cMeasEpoch : Nat := 0
  /-- 1 bit · R36 (02) · the measurement of this start has completed -/
  measured : Bool := false
  /-- 1 bit · R38 (02) · SERVICE is refused with HOLDUP_CAP_LOW -/
  refuseService : Bool := false
  /-- enum · R46 (02) · step of the hold-up sequence -/
  stage : HoldupStage := .idle
  /-- ticks · R43 (02) · t_f of the present or last HOLDUP -/
  tf : Tick := 0
  /-- ticks · R45 (02) · t_d of the present or last HOLDUP -/
  td : Option Tick := none
  /-- 1 bit · R47 (02) · D3 was in reset at t_f or has been reset during HOLDUP -/
  d3Lost : Bool := false
  /-- 16 bits · R48 (02) · LAST_FRAMES, N_frames computed at the last t_f -/
  frames : Nat := 0
  /-- sample number · R184 (08) · main-path sample at t_d, the last one of the final commit -/
  tdSample : Nat := 0
  /-- 64 bits · R55 (02) · LAST_TD_EPOCH -/
  tdEpoch : Nat := 0
  /-- 16 bits · R55 (02) · LAST_TD_MS -/
  tdMs : Nat := 0
  deriving DecidableEq, Repr

/-- The reclaim window after a D3 reset (R40–R42). -/
structure Reclaim where
  /-- ticks · R40 (02) · end of the 2.0 s window -/
  deadline : Option Tick := none
  /-- 1 bit · R41 (02) · firmware has not yet reclaimed control -/
  required : Bool := false
  /-- 64 bits each · R42 (02) · epochs of the steps of the reclaim stop taken so far -/
  steps : List Nat := []
  deriving DecidableEq, Repr

end Sys2Proof.Machine
end

