-- ==== Sys2Proof/Machine/Parts/Diag.lean ====
section
/-! DEFINITION. State of the diagnostic event recorder (24) and of the RS-485 port (25). -/

namespace Sys2Proof.Machine

/-- A diagnostic record (R532). -/
structure DiagRec where
  code : Nat
  flags : Nat
  opSeconds : Nat
  powerCycles : Nat
  subject : Nat
  suppressed : Nat
  items : List Nat
  values : List Int
  deriving DecidableEq, Repr

/-- The token bucket of one code (R535). -/
structure Bucket where
  /-- 0–16 · R535 (24) · tokens; DIAG.BURST at D3 start -/
  tokens : Nat := 4
  /-- ticks · R535 (24) · instant the next token is timed from -/
  since : Option Tick := none
  /-- count · R535 (24) · tokens added since that instant -/
  given : Nat := 0
  /-- 16 bits · R535 (24) · pending suppression count -/
  pending : Nat := 0
  /-- 16 bits · R535 (24) · SUPP[n] -/
  supp : Nat := 0
  deriving DecidableEq, Repr

/-- The diagnostic event recorder (24). -/
structure Diag where
  /-- 1 024 × 64 bytes, MRAM · R534 (24) · ring, oldest first -/
  ring : List DiagRec := []
  /-- 18 buckets · R535 (24) · rate limiting per code, in the order of R531 -/
  buckets : List Bucket := List.replicate 18 {}
  /-- sender and ticks · R536 (24) · freeze holder and the instant the freeze began -/
  freeze : Option (Sender × Tick) := none
  /-- 32 records · R536 (24) · records queued during a freeze -/
  queue : List DiagRec := []
  /-- 16 bits · R536 (24) · FROZEN_LOST -/
  lost : Nat := 0
  /-- index and subject · R531 (24) · triggers during a D3 reset, recorded once D3 runs -/
  unseen : List (Nat × Nat) := []
  deriving DecidableEq, Repr

/-- The RS-485 port (25). -/
structure Rs485 where
  /-- bytes · R557 (25) · frame being received, up to 256 bytes -/
  rx : List Byte := []
  /-- 3 bits · R559 (25) · FLAGS of the frame being received -/
  flags : Nat := 0
  /-- ticks · R557 (25) · instant of the last byte, none while the line has been idle for t_end -/
  last : Option Tick := none
  /-- request and bytes · R557 (25) · send in progress -/
  send : Option (Req × List Byte) := none
  /-- 1 bit · R557 (25) · driver enabled -/
  driver : Bool := false
  /-- ticks · R557 (25) · instant at which the driver was enabled -/
  driverAt : Tick := 0
  deriving DecidableEq, Repr

end Sys2Proof.Machine
end

