-- ==== Sys2Proof/Machine/Parts/Display.lean ====
section
/-! DEFINITION. State of the window display drive and the Transom (18). -/

namespace Sys2Proof.Machine

/-- A waveform table (R434): bands, frame counts per band and mode, and the frame words of each band and mode. -/
structure WaveTable where
  id : Nat
  version : Nat
  polarity : Nat
  bandLo : List Int
  bandHi : Int
  nFrames : List (List Nat)
  extFrames : List (List Nat)
  wave : List (List (List Nat))
  deriving DecidableEq, Repr

/-- A rectangle in pixels (R439). -/
structure Rect where
  x : Nat := 0
  y : Nat := 0
  w : Nat := 0
  h : Nat := 0
  deriving DecidableEq, Repr

/-- The dirty record (R439). -/
structure Dirty where
  state : Nat := 0
  mode : Nat := 0
  band : Nat := 0
  frameDone : Nat := 0
  nTotal : Nat := 0
  oldSlot : Nat := 0xFF
  newSlot : Nat := 0xFF
  gen : Nat := 0
  oldCrc : Nat := 0
  newCrc : Nat := 0
  rect : Rect := {}
  startEpoch : Nat := 0
  deriving DecidableEq, Repr

/-- What the drive runs (R433, R438, R441). -/
inductive DriveKind where
  | update | transom | clean | redraw
  deriving DecidableEq, Repr

/-- An accepted update (R433): generation, mode, rectangle, frame count, and the flash slot its image was copied to; and
the instant of its first failed budget check, and the epoch of the last one. -/
structure DispReq where
  gen : Nat
  mode : Nat
  rect : Rect
  frames : Nat
  slot : Option Nat
  crc : Nat
  failedAt : Option Tick
  checked : Nat
  deriving DecidableEq, Repr

/-- A drive in progress: what it is, its request, the table and the band it keeps (R435, R442), whether the rails rise, and the
step of the recovery it is, 0 for none. -/
structure Drive where
  kind : DriveKind
  req : DispReq
  band : Nat
  table : WaveTable
  rising : Bool
  step : Nat
  deriving DecidableEq, Repr

/-- The display drive and the Transom (18). -/
structure Display where
  /-- 120 000 bytes · R432 (18) · present state of the panel's pixels, packed as the staging buffer; white where unlisted -/
  panel : List Byte := []
  /-- 120 000 bytes, shared SRAM · R432 (18) · staging buffer -/
  staging : List Byte := []
  /-- 3 × 128 KiB, flash · R432 (18) · image slots; none where erased -/
  slots : List (Option (List Byte)) := [none, none, none]
  /-- slot · R432 (18) · slot of the image shown; none before one -/
  shown : Option Nat := none
  /-- record, MRAM · R439 (18) · dirty record -/
  dirty : Dirty := {}
  /-- record · R433 (18) · drive in progress -/
  drive : Option Drive := none
  /-- record · R433 (18) · update that waits -/
  waiting : Option DispReq := none
  /-- record · R432 (18) · accepted update whose image copy runs -/
  copying : Option DispReq := none
  /-- 0–4 · R441 (18) · recovery still to run: 4 clean on command, 3 clean, 2 redraw, 1 Transom, 0 none -/
  recovery : Nat := 0
  /-- 1 bit · R440 (18) · paused in HOLDUP -/
  paused : Bool := false
  /-- 1 bit · R431 (18) · rails up or rising -/
  railsUp : Bool := false
  /-- ticks · R431 (18) · end of the last frame, after which the rails fall -/
  railsDown : Option Tick := none
  /-- ticks · R429 (18) · start of the rails' rise or of the frame in progress -/
  frameAt : Tick := 0
  /-- 16 bits · R445 (18) · GEN, last generation accepted -/
  gen : Nat := 0
  /-- 16 bits · R445 (18) · SHOWN_GEN -/
  shownGen : Nat := 0
  /-- table, flash · R434 (18) · waveform table held; none before one -/
  table : Option WaveTable := none
  /-- 130 × 2 × 32 bits, MRAM · R437 (18) · stress counters P and N per tile -/
  stress : List (Nat × Nat) := List.replicate 130 (0, 0)
  /-- text · R438 (18) · rows 0 to 2 as last rendered -/
  transom : List (List Byte) := []
  /-- 64 bits · R445 (18) · TRANSOM_EPOCH -/
  transomEpoch : Nat := 0
  /-- ticks · R438 (18) · instant of the last Transom refresh -/
  transomAt : Option Tick := none
  /-- text · R438 (18) · rows that the refresh in progress draws -/
  drawing : List (List Byte) := []
  deriving DecidableEq, Repr

end Sys2Proof.Machine
end

