-- ==== Sys2Proof/Machine/Parts/Dma.lean ====
section
/-! DEFINITION. State of the DMA engine (12): the byte memory of its address view and its eight channels. -/

namespace Sys2Proof.Machine

/-- A byte memory: address and byte pairs in canonical form. -/
abbrev Memory := List Host.Cell

/-- A running descriptor (R301): its ring index, its twelve words, elements moved, and the last address written with the
bytes written there. -/
structure Running where
  index : Nat
  words : List Nat
  moved : Nat
  lastAddr : Nat
  lastBytes : List Byte
  deriving DecidableEq, Repr

/-- One DMA channel (R297). Channels 4–7 hold their ring in shared SRAM; the model keeps it here in the same form. -/
structure DmaChan where
  /-- 1 bit · R297 (12) · ENABLE -/
  enable : Bool := false
  /-- 0–3 · R297, R304 (12) · PRIO; fixed on channels 4–7 -/
  prio : Nat := 0
  /-- 4 bits · R297 (12) · DSEL -/
  dsel : Nat := 0
  /-- 8 bits · R297 (12) · LAST_STATUS -/
  lastStatus : Nat := 0
  /-- 1 bit · R297 (12) · WRITE_OWNED -/
  writeOwned : Bool := false
  /-- 1 bit · R297 (12) · ERROR -/
  error : Bool := false
  /-- 1 bit · R297 (12) · DONE_EVT -/
  doneEvt : Bool := false
  /-- 12 words · R301 (12) · shadow copy of the next descriptor -/
  shadow : Option (List Nat) := none
  /-- record · R301 (12) · descriptor running -/
  run : Option Running := none
  /-- 4 bits · R297 (12) · HEAD -/
  head : Nat := 0
  /-- 16 × 12 words · R295 (12) · descriptor ring -/
  ring : List (List Nat) := List.replicate 16 (List.replicate 12 0)
  /-- 11 words · R298 (12) · staging copy of window words 1–11 -/
  staging : List Nat := List.replicate 11 0
  /-- count · R304 (12) · AGE -/
  age : Nat := 0
  /-- ticks · R305 (12) · end of a Wedge stall -/
  stallEnd : Tick := 0
  deriving DecidableEq, Repr

/-- The DMA engine (12). -/
structure Dma where
  /-- bytes by address · R296 (12) · shared SRAM, capture buffer, MRAM and flash in the engine's address view, in
  canonical form: addresses strictly rising and no entry of the value an unlisted address reads as; log entry 20 -/
  mem : Memory := []
  /-- eight channels · R295 (12) · channel registers and rings; PRIO 3, 2, 1, 2 on channels 4–7 -/
  chans : List DmaChan :=
    List.replicate 4 ({} : DmaChan) ++ [{ prio := 3 }, { prio := 2 }, { prio := 1 }, { prio := 2 }]
  deriving DecidableEq, Repr

end Sys2Proof.Machine
end

