-- ==== Sys2Proof/Machine/Parts/Hatch.lean ====
section
/-! DEFINITION. State of the Hatch mailboxes, the Brixo packet layer and the parameter store (11). -/

namespace Sys2Proof.Machine

/-- A packet in a module-to-host queue: its words still to be read, its length in words, SEQ, and whether it is a
reply (then of which sender and SEQ). -/
structure OutPacket where
  words : List Nat
  total : Nat
  seq : Nat
  reply : Bool
  bulk : Bool
  deriving DecidableEq, Repr

/-- A reply waiting for its queue (R287), or sent on its path when the sender is not on a Hatch queue: `again` is REPEAT,
`keep` marks the one reply of an accepted request, `peer` is the source address and port of an Ethernet sender. -/
structure Reply where
  sender : Sender
  chan : Nat
  seq : Nat
  opcode : Nat
  payload : List Byte
  again : Bool
  keep : Bool
  peer : Nat
  deriving DecidableEq, Repr

/-- A notification in the 64-entry store (R287). -/
structure Note where
  cls : Nat
  chan : Nat
  opcode : Nat
  payload : List Byte
  deriving DecidableEq, Repr

/-- One Hatch channel (R273). -/
structure HatchChan where
  /-- 32-bit words · R278 (11) · words of a packet written in part -/
  part : List Nat := []
  /-- words · R278 (11) · words of an oversized inline packet still to be discarded -/
  skip : Nat := 0
  /-- packets of words · R278 (11) · packets visible to the module, oldest first -/
  inbox : List (List Nat) := []
  /-- 8 entries · R273 (11) · H2M ACK FIFO, oldest first -/
  acks : List Nat := []
  /-- 1 bit · R273 (11) · H2M_STAT.OVERFLOW -/
  overflow : Bool := false
  /-- packets · R273 (11) · module-to-host queue, oldest first -/
  outbox : List OutPacket := []
  /-- packet · R273 (11) · packet read in full and not yet acknowledged (AWAIT_ACK) -/
  await : Option OutPacket := none
  /-- 1 bit · R273 (11) · M2H_STAT.UNDERFLOW -/
  underflow : Bool := false
  /-- 4 096 bytes · R271 (11) · host-to-module bulk slot -/
  bulkIn : List Byte := []
  /-- 4 096 bytes · R271 (11) · module-to-host bulk slot -/
  bulkOut : List Byte := []
  /-- 8 bits · R280 (11) · SEQ of the channel's next notification -/
  noteSeq : Nat := 0
  deriving DecidableEq, Repr

/-- What the module keeps of an accepted SEQ (R280). -/
inductive Stored where
  | waiting
  | inline (opcode : Nat) (payload : List Byte)
  | gone
  deriving DecidableEq, Repr

/-- Sequence state of one pair of sender and channel (R280): the highest SEQ and the last 16 accepted, newest first. -/
structure SeqState where
  sender : Sender
  chan : Nat
  high : Nat
  recent : List (Nat × Stored)
  deriving DecidableEq, Repr

/-- A command pending from its ACK 0 until the host's ACK of its reply (R279). -/
structure Pending where
  sender : Sender
  chan : Nat
  seq : Nat
  opcode : Nat
  payload : List Byte
  deriving DecidableEq, Repr

/-- The Hatch mailboxes (11). -/
structure Hatch where
  /-- eight channels · R273 (11) · queues, FIFOs and bulk slots -/
  chans : List HatchChan := List.replicate 8 {}
  /-- 32 bits · R272 (11) · IRQ_MASK -/
  irqMask : Nat := 0x000700FF
  /-- bit 18 · R272 (11) · IRQ_STATUS.H2M_OVERFLOW -/
  irqOverflow : Bool := false
  /-- bit 17 · R272 (11) · IRQ_STATUS.D3_RESTARTED -/
  d3Restarted : Bool := true
  /-- bit 16 · R272 (11) · IRQ_STATUS.NOTIFY_DROPPED -/
  notifyDropped : Bool := false
  /-- records · R280 (11) · sequence state per sender and channel; survives a D3 reset -/
  seqs : List SeqState := []
  /-- records · R279 (11) · pending commands in order of acceptance; survives a D3 reset -/
  pending : List Pending := []
  /-- records · R287 (11) · replies waiting, in order of acceptance -/
  replies : List Reply := []
  /-- 64 entries · R287 (11) · notification store, oldest first -/
  notes : List Note := []
  /-- 0–64 · R294 (11) · STORE_PEAK since D3 start -/
  peak : Nat := 0
  /-- 4 × 32 bits · R294 (11) · DROPPED per class since D3 start -/
  dropped : List Nat := [0, 0, 0, 0]
  /-- 32 bits · R294 (11) · MALFORMED since D3 start -/
  malformed : Nat := 0
  /-- 32 bits · R271 (11) · word read by the host from a register with a read effect, for the last such read -/
  readWord : Nat := 0
  /-- datagrams · R290 (11) · replies sent over Ethernet, Lintel, Letterbox and Spyhole, newest last -/
  sent : List Reply := []
  /-- records · R290 (11) · source address and port of the newest datagrams, by sender, channel and SEQ -/
  peers : List (Sender × Nat × Nat × Nat) := []
  /-- bytes · R269 (11) · bytes that the target drove in the last SPI transaction -/
  spiOut : List Byte := []
  /-- bytes · R290 (11) · IP fragments of a datagram being reassembled -/
  ipParts : List Byte := []
  /-- ticks · R290 (11) · instant the reassembly began -/
  ipSince : Option Tick := none
  deriving DecidableEq, Repr

/-- What the module stores of one parameter (R284): the value in force and its epoch, the value before it, which D2
still applies to samples of earlier epochs, with its epoch, a pending value, and the sender of the last write. -/
structure ParamCell where
  value : Int
  since : Nat
  prev : Int
  prevSince : Nat
  sender : Nat
  pending : Option (Int × Nat)
  written : Bool
  deriving DecidableEq, Repr

/-- The parameter store (R284–R286): one cell for each parameter ever written; the others hold their default. -/
structure ParamStore where
  /-- cells by ID · R284 (11) · configuration store; a parameter without a cell has its default -/
  cells : List (Nat × ParamCell) := []
  deriving DecidableEq, Repr

end Sys2Proof.Machine
end

