-- ==== Sys2Proof/Machine/Parts/Vehicle.lean ====
section
/-! DEFINITION. State of the vehicle interface (13): pilot and proximity measurement, SLAC and protocol state,
authorisation, limits, and the DC power stage. -/

namespace Sys2Proof.Machine

/-- An authorisation request forwarded to the host (R325): REQ_ID, kind, identifier and the end of VEH.AUTH_TIMEOUT. -/
structure AuthReq where
  id : Nat
  kind : Nat
  ident : List Byte
  deadline : Tick
  deriving DecidableEq, Repr

/-- What the module answers to the last vehicle message (R320). -/
inductive V2GAnswer where
  | none | ok | ongoing | failed
  | protocol (code : Nat)
  | newSession | oldSession
  | acLimit (mA : Nat)
  | dcLimits (mV mA w : Nat) (bpt : Bool)
  | isolation (judgement : Nat)
  | present (mV : Nat)
  deriving DecidableEq, Repr

/-- One DC power module (R328). -/
structure PowerModule where
  /-- 1 bit · R328 (13) · online -/
  online : Bool := false
  /-- ticks · R328 (13) · instant of the last valid frame -/
  seen : Tick := 0
  /-- 8 bits · R328 (13) · ALIVE of the last frame, none before one -/
  alive : Option Nat := none
  /-- mV · R328 (13) · V_OUT -/
  vOut : Nat := 0
  /-- mA · R328 (13) · I_OUT -/
  iOut : Int := 0
  /-- 8 bits · R328 (13) · ALIVE of the next control frame -/
  txAlive : Nat := 0
  deriving DecidableEq, Repr

/-- The vehicle interface (13). -/
structure Vehicle where
  /-- signed mV · R335 (13) · CP_HI, last valid high plateau or steady level -/
  cpHi : Int := 0
  /-- signed mV · R335 (13) · CP_LO, 0 without PWM -/
  cpLo : Int := 0
  /-- 0–6 · R315 (13) · pilot state Kiln last acted on -/
  cpSeen : Nat := 0
  /-- 1 bit · R315, R336 (13) · a vehicle is plugged: event 1 reported, event 2 not yet -/
  plugged : Bool := false
  /-- Ω · R335 (13) · PP_OHM -/
  ppOhm : Nat := 0xFFFF
  /-- 0–3 · R317 (13) · PP_STATE: 0 no cable, 1 valid, 2 latch pressed, 3 invalid -/
  ppState : Nat := 0
  /-- mA · R317 (13) · cable rating in socket coding -/
  ppRating : Nat := 0
  /-- ticks · R318 (13) · start of the 5 % or nominal PWM, from which TT_EVSE_SLAC_init runs -/
  slacStart : Option Tick := none
  /-- 1 bit · R335 (13) · SLAC matched -/
  slacMatched : Bool := false
  /-- 1 bit · R319 (13) · fallback taken since plug-in -/
  fallback : Bool := false
  /-- dB · R319 (13) · mean attenuation last reported -/
  atten : Option Nat := none
  /-- count · R318 (13) · network keys formed, one for each SLAC -/
  nmk : Nat := 0
  /-- message · R318 (13) · last SLAC message answered -/
  slacAnswered : Option SlacMsg := none
  /-- 0–3 · R335 (13) · PROTOCOL -/
  protocol : Nat := 0
  /-- 1 bit · R335 (13) · TLS -/
  tls : Bool := false
  /-- 1 bit · R321 (13) · its version is TLS 1.3 -/
  tls13 : Bool := false
  /-- 1 bit · R320 (13) · a TCP connection of the vehicle is open -/
  tcp : Bool := false
  /-- 64 bits · R332 (13) · SessionID of the open session -/
  sessionId : Nat := 0
  /-- answer · R320 (13) · last answer sent to the vehicle -/
  answer : V2GAnswer := .none
  /-- 8 bits · R335 (13) · AUTH_KIND -/
  authKind : Nat := 0
  /-- 1 bit · R326 (13) · the authorisation carried BPT_ALLOWED -/
  bptAllowed : Bool := false
  /-- 1 bit · R335 (13) · BPT offered -/
  bptOffered : Bool := false
  /-- 1 bit · R326 (13) · discharge active -/
  discharge : Bool := false
  /-- 1 bit · R320, R330 (13) · PowerDelivery Start received, not yet Stop -/
  delivery : Bool := false
  /-- 1 bit · R325 (13) · the last identifier was refused; the vehicle is told FAILED -/
  authFailed : Bool := false
  /-- 1 bit · R325 (13) · a free-vend session has been opened since plug-in; log entry 41 -/
  vended : Bool := false
  /-- 1 bit · R322 (13) · the vehicle charges with a DC service -/
  dcService : Bool := false
  /-- record · R325 (13) · request pending -/
  req : Option AuthReq := none
  /-- kind and identifier · R325 (13) · further identifiers kept, at most one for each kind, in arrival order -/
  kept : List (Nat × List Byte) := []
  /-- 32 bits · R336 (13) · REQ_ID of the next request -/
  nextReq : Nat := 1
  /-- mA · R324 (13) · host AC limit in force, none when absent -/
  hostI : Option Nat := none
  /-- W · R324 (13) · host DC limit in force, none when absent -/
  hostP : Option Nat := none
  /-- 24 entries of (s, W) · R324 (13) · host schedule -/
  schedule : List (Nat × Nat) := []
  /-- 64 bits · R336 (13) · epoch of the schedule's acceptance -/
  scheduleFrom : Nat := 0
  /-- entries of (s, W) · R324 (13) · schedule as last sent to the vehicle, each entry cut to the limits -/
  scheduleSent : List (Nat × Nat) := []
  /-- mA · R322 (13) · vehicle's stated current maximum, none in basic charging -/
  evI : Option Nat := none
  /-- mV · R322 (13) · vehicle's stated voltage maximum -/
  evV : Option Nat := none
  /-- W · R322 (13) · vehicle's stated power maximum -/
  evP : Option Nat := none
  /-- mA · R335 (13) · I_LIM -/
  iLim : Nat := 0
  /-- 1–8 · R335 (13) · LIMIT_SRC -/
  limitSrc : Nat := 1
  /-- ticks · R323 (13) · instant I_LIM last fell -/
  lastFall : Option Tick := none
  /-- ticks · R323 (13) · a phase has exceeded the overdraw bound since -/
  overSince : Option Tick := none
  /-- 1 bit · R316 (13) · VEH_AVAILABILITY sets the point unavailable -/
  unavailable : Bool := false
  /-- 1 bit · R335 (13) · energy transfer runs -/
  transfer : Bool := false
  /-- 1 bit · R315 (13) · session paused -/
  paused : Bool := false
  /-- 1 bit · R335 (13) · stopping -/
  stopping : Bool := false
  /-- 1 bit · R336 (13) · event 6 reported for the stop that runs -/
  stopTold : Bool := false
  /-- 1 bit · R336 (13) · the vehicle is asked to stop through its protocol (REASON 1) -/
  askStop : Bool := false
  /-- 1 bit · R335 (13) · missing diode seen -/
  diodeSeen : Bool := false
  /-- 0–6 · R327 (13) · END_CAUSE of the first closing cause since the session opened -/
  endCause : Option Nat := none
  /-- 64 bits · R327 (13) · epoch of that cause; the session closes at the first epoch end from then on with KM1 and KM2 open -/
  endAt : Nat := 0
  /-- 32 bits · R336 (13) · RELAY_ID awaiting its answer -/
  relay : Option Nat := none
  /-- 32 bits · R336 (13) · RELAY_ID of the next relay -/
  nextRelay : Nat := 1
  /-- bytes · R325 (13) · body of the last relayed answer returned to the vehicle -/
  relayBody : List Byte := []
  /-- 4 lists of DER, flash · R321 (13) · SECC chains and root sets, WHAT 1 to 4 -/
  certs : List (List (List Byte)) := [[], [], [], []]
  /-- 8 modules · R328 (13) · power modules -/
  pm : List PowerModule := List.replicate 8 {}
  /-- Ω · R335 (13) · R_ISO, last monitor value -/
  rIso : Nat := 0
  /-- 0–2 · R328 (13) · insulation monitor STATE -/
  monitor : Nat := 0
  /-- 0–5 · R335 (13) · DC_PHASE -/
  dcPhase : Nat := 0
  /-- 0–4 · R328 (13) · MODE sent to the power modules -/
  pmMode : Nat := 0
  /-- mV · R328 (13) · V_SET -/
  pmV : Nat := 0
  /-- mA in total · R328 (13) · current limit to divide -/
  pmI : Nat := 0
  /-- mA in total · R328 (13) · discharge limit to divide -/
  pmNeg : Nat := 0
  /-- mV · R335 (13) · DC_V_TARGET -/
  vTarget : Nat := 0
  /-- signed mA · R335 (13) · DC_I_TARGET -/
  iTarget : Int := 0
  /-- 0–3 · R329 (13) · cable-check judgement: 0 none, 1 valid, 2 warning, 3 fault -/
  isolation : Nat := 0
  /-- ticks · R329, R330 (13) · end of the 20 s cable check, of precharge or of the 1.0 s discharge -/
  dcEnd : Option Tick := none
  /-- frames · R328 (13) · frames of the last transmission on CAN FD -/
  canSent : List CanFrame := []
  deriving DecidableEq, Repr

end Sys2Proof.Machine
end

