-- ==== Sys2Proof/Machine/Parts/Kiln.lean ====
section
/-! DEFINITION. State of the Kiln engine pool (10): cells, ready queues, shedding, semaphores and Wedge registers. -/

namespace Sys2Proof.Machine

/-- A task of R241: class, epoch, part (phase of a class M task, kind of another), deadline, and whether it was stolen. -/
structure Task where
  cls : TaskClass
  epoch : Nat
  part : Nat
  deadline : Tick
  home : Nat
  stolen : Bool
  deriving DecidableEq, Repr

/-- One cell (R239). -/
structure Cell where
  /-- 1 bit · R250 (10) · healthy -/
  healthy : Bool := true
  /-- 16 bits, MOPS · R240 (10) · RATE as last measured -/
  rate : Nat := 320
  /-- tasks · R244 (10) · ready queue, in order of arrival -/
  ready : List Task := []
  /-- 64 KiB · R239 (10) · local memory: the bytes that differ from 0, in rising order of address -/
  mem : List Host.Cell := []
  /-- count · R247 (10) · 100 µs tick of the timebase of the last steal attempts, and how many fell in it -/
  tries : Nat × Nat := (0, 0)
  deriving DecidableEq, Repr

/-- One semaphore (R253). -/
structure Sem where
  /-- 8 bits · R253 (10) · OWNER, none when free -/
  owner : Option Nat := none
  /-- ticks · R255 (10) · instant of acquisition -/
  since : Tick := 0
  deriving DecidableEq, Repr

/-- The Kiln engine pool (10). -/
structure Kiln where
  /-- 16 cells · R239 (10) · the pool -/
  cells : List Cell := List.replicate 16 {}
  /-- 0–4 · R249 (10) · shedding step reached by misses -/
  step : Nat := 0
  /-- 1 bit · R240 (10) · SPEED_LOW holds step 1 -/
  speedLow : Bool := false
  /-- 0–100 · R240 (10) · consecutive epochs at or above 205 MOPS -/
  speedGood : Nat := 0
  /-- 1 bit · R249 (10) · a class M, L or V deadline was missed in the present epoch -/
  missNow : Bool := false
  /-- count · R249 (10) · consecutive epochs with misses -/
  missRun : Nat := 0
  /-- count · R249 (10) · consecutive epochs without a miss -/
  cleanRun : Nat := 0
  /-- 64 bits · R264 (10) · LAST_MISS_EPOCH -/
  lastMiss : Nat := 0
  /-- 64 bits · R264 (10) · LAST_FAIL_EPOCH -/
  lastFail : Nat := 0
  /-- 16 bits, mV · R264 (10) · CORE_MV -/
  coreMv : Nat := 900
  /-- signed 16 bits, 0.01 °C · R264 (10) · TJ_MAX -/
  tjMax : Int := 2500
  /-- 16 bits, MOPS · R264 (10) · LOAD -/
  load : Nat := 0
  /-- classes and epochs · R243 (10) · results D2 has accepted (class, epoch, part), newest first -/
  accepted : List (TaskClass × Nat × Nat) := []
  /-- 64 bits · R20 (01) · last epoch of the group 6 results of Kiln -/
  vDone : Nat := 0
  /-- record · R20 (01), R241 (10) · the vehicle block as the newest class V result left it: group 6 -/
  veh : Vehicle := {}
  /-- class, part and cell · R245 (10) · home cells that firmware has assigned -/
  homes : List (TaskClass × Nat × Nat) := []
  /-- 0–2 · R251 (10) · phase of the next cross-check -/
  xPhase : Nat := 0
  /-- 64 bits · R251 (10) · epoch of the last cross-check -/
  xLast : Nat := 0
  /-- 32 semaphores · R253 (10) · owners -/
  sems : List Sem := List.replicate 32 {}
  /-- 32 bits · R253 (10) · word returned by the last semaphore read -/
  semRead : Nat := 0
  /-- 7 × 32 bits · R258 (10) · Wedge register values in force -/
  wedge : List Nat := [0, 0, 0, 0, 0, 0, 0]
  /-- register and value · R260 (10) · accepted Wedge writes that take effect at the next epoch -/
  wedgeNext : List (Nat × Nat) := []
  deriving DecidableEq, Repr

end Sys2Proof.Machine
end

