-- ==== Sys2Proof/Machine/Parts/Lintel.lean ====
section
/-! DEFINITION. State of the Lintel fabric and site power sharing (20). Links are coded as PARENT_LINK: 0–3 L0–L3, 4 E0, 5
E1, 6 mains carrier. -/

namespace Sys2Proof.Machine

/-- A fabric neighbour on a link, as its last hello reports it (R464–R466). -/
structure Neighbour where
  link : Nat
  hello : HelloBlock
  heard : Tick
  /-- it is a child: it sends ROUTE packets here -/
  child : Bool
  /-- address ranges in its subtree, when it is a child -/
  routes : List (Nat × Nat)
  /-- next Lintel sequence towards it -/
  txSeq : Nat
  /-- highest Lintel sequence delivered from it, none before the first -/
  rxSeq : Option Nat
  /-- packets sent to it and not yet acknowledged, oldest first: the go-back-N window holds the first 64, and those of a channel
  use its 8 credits -/
  unacked : List (Nat × FabricPacket)
  /-- packets that wait for a credit of their virtual channel, UP or DOWN, oldest first -/
  held : List FabricPacket
  /-- retransmission of the window is due -/
  retxAt : Tick
  deriving DecidableEq, Repr

/-- Where one home token of the post is (R472, R474): in its own offer, out of it since an instant, out of it for 8 s and
lendable, in transit, or lent. -/
inductive TokenPlace where
  | offer
  | out (since : Tick)
  | lendable
  | inTransit
  | lent
  deriving DecidableEq, Repr

/-- A transfer this post granted as home (R474). -/
structure Lending where
  xferId : Nat
  peer : Nat
  tokens : List Nat
  /-- ACCEPT received, tokens LENT -/
  lent : Bool
  recalled : Bool
  /-- end of the 2 s wait for ACCEPT, or of the reissue clock -/
  deadline : Tick
  deriving DecidableEq, Repr

/-- A transfer this post received as borrower (R474, R475). -/
structure Borrowing where
  xferId : Nat
  home : Nat
  tokens : List Nat
  leaseMs : Nat
  /-- COMMIT received -/
  committed : Bool
  /-- tokens still in the held set -/
  inUse : Bool
  /-- end of the lease in force -/
  leaseEnd : Tick
  /-- instant of sending of the newest unanswered RENEW -/
  renewSent : Option Tick
  /-- instant of the first ACCEPT, and how often it was sent again -/
  acceptSent : Tick
  resends : Nat
  /-- instant a recalled transfer is returned -/
  returnAt : Option Tick
  deriving DecidableEq, Repr

/-- One incomplete fragmented message (R467). -/
structure Fragments where
  src : Nat
  msgId : Nat
  count : Nat
  parts : List (Nat × List Byte)
  last : Tick
  deriving DecidableEq, Repr

/-- A packet sent on a link: the instant it leaves, the link, the MODULE_ID of the neighbour, its Lintel sequence and the packet. -/
structure FabricTx where
  leaves : Tick
  link : Nat
  dest : Nat
  seq : Nat
  pkt : FabricPacket
  deriving DecidableEq, Repr

/-- A LIN_FORWARD that awaits its remote reply (R479). -/
structure Forward where
  req : Req
  dst : Nat
  chan : Nat
  seq : Nat
  deadline : Tick
  deriving DecidableEq, Repr

/-- The Lintel fabric and site power sharing (20). -/
structure Lintel where
  /-- records · R464 (20) · neighbours by link -/
  neighbours : List Neighbour := []
  /-- 64 bits · R465 (20) · ROOT_ID followed -/
  rootId : Nat := 0
  /-- 8 bits · R464 (20) · ROOT_PRIO of that root -/
  rootPrio : Nat := 128
  /-- 8 bits · R465 (20) · DEPTH -/
  depth : Nat := 0
  /-- 16 bits · R464 (20) · PATH_COST -/
  pathCost : Nat := 0
  /-- link and MODULE_ID · R465 (20) · parent; none at the root -/
  parent : Option (Nat × Nat) := none
  /-- 1 bit · R465 (20) · DEPTH_LIMIT -/
  depthLimit : Bool := false
  /-- 1 bit · R466 (20) · ADDRESS_CONFLICT -/
  conflict : Bool := false
  /-- ticks · R466 (20) · conflict last seen -/
  conflictAt : Tick := 0
  /-- 1 bit · R466 (20) · own address withdrawn -/
  withdrawn : Bool := false
  /-- link, receiver (0 where none is known) and block · R464 (20) · the hellos last sent -/
  helloSent : List (Nat × Nat × HelloBlock) := []
  /-- ticks · R464 (20) · next hello on L0–L3 and Ethernet -/
  helloAt : Tick := 0
  /-- ticks · R466 (20) · next periodic ROUTE packet -/
  routeAt : Tick := 0
  /-- packets · R468 (20) · packets sent, newest last, up to 64 -/
  sent : List FabricTx := []
  /-- 16 bits · R467 (20) · MSG_ID of the next fragmented message -/
  nextMsg : Nat := 0
  /-- records · R467 (20) · messages in reassembly -/
  frags : List Fragments := []
  /-- MAC, port and ticks · R462 (20) · Ethernet address table, 1 024 entries -/
  macTable : List (Nat × Nat × Tick) := []
  /-- port · R462 (20) · ports the last Ethernet frame was forwarded to: 0 E0, 1 E1, 2 internal -/
  ethOut : List Nat := []
  /-- 32 bits · R479 (20) · TTL_DISCARD -/
  ttlDiscard : Nat := 0
  /-- 32 bits · R479 (20) · ROUTE_DISCARD -/
  routeDiscard : Nat := 0
  /-- 32 bits · R479 (20) · NO_ROUTE -/
  noRoute : Nat := 0
  /-- 32 bits · R479 (20) · RX_DROPPED -/
  rxDropped : Nat := 0
  /-- 32 bits · R479 (20) · LINK_RETX -/
  linkRetx : Nat := 0
  /-- records, oldest first · R479 (20) · LIN_FORWARDs awaiting their remote replies -/
  forwards : List Forward := []
  /-- channel, SEQ and address, newest last, up to 64 · R479 (20) · fabric senders of requests, to which replies return -/
  origins : List (Nat × Nat × Nat) := []
  /-- 1 bit · R478 (20) · SHARE_CONFIG_INVALID -/
  shareInvalid : Bool := false
  /-- ticks · R476 (20) · end of the quarantine -/
  quarantine : Option Tick := none
  /-- per home token · R474 (20) · where each home token is -/
  home : List (Nat × TokenPlace) := []
  /-- records · R474 (20) · transfers granted -/
  lendings : List Lending := []
  /-- records · R475 (20) · transfers received -/
  borrowings : List Borrowing := []
  /-- 32 bits · R473 (20) · XFER_ID of the next grant -/
  nextXfer : Nat := 1
  /-- address and ticks · R472 (20) · outstanding REQUESTs -/
  asked : List (Nat × Tick) := []
  /-- ticks · R472 (20) · last REQUEST sent -/
  askedAt : Option Tick := none
  /-- parameters in force since the last start · R478 (20) · SITE_LIMIT, HOME_FIRST, HOME_COUNT, FLOOR, TABLE_ID, LEASE -/
  plan : Nat × Nat × Nat × Nat × Nat × Nat := (0, 0, 0, 6, 0, 30)
  deriving DecidableEq, Repr

end Sys2Proof.Machine
end

