-- ==== Sys2Proof/Machine/Parts/Lsw.lean ====
section
/-! DEFINITION. State of the load-switch die (15). -/

namespace Sys2Proof.Machine

/-- One load-switch channel (R369–R376). -/
structure LswChan where
  /-- 1 bit · R371 (15) · demanded on -/
  demand : Bool := false
  /-- 1 bit · R383 (15) · conducting -/
  on : Bool := false
  /-- ticks · R376 (15) · conducting since -/
  onSince : Tick := 0
  /-- ticks · R374 (15) · latch held since -/
  latch : Option Tick := none
  /-- 0–5 · R383 (15) · CAUSE -/
  cause : Nat := 0
  /-- 0–15 · R375 (15) · retry counter; LSW.RETRY_MAX by default -/
  retries : Nat := 3
  /-- 1 bit · R375 (15) · EXHAUSTED -/
  exhausted : Bool := false
  /-- ticks · R371 (15) · end of the running pulse -/
  pulseEnd : Option Tick := none
  /-- ticks · R374 (15) · current limit active since -/
  ilim : Option Tick := none
  /-- 1 bit · R381 (15) · open load flagged -/
  openLoad : Bool := false
  /-- 1 bit · R383 (15) · off-state short -/
  offShort : Bool := false
  /-- mA · R373 (15) · current as last sampled -/
  i : Nat := 0
  /-- °C · R383 (15) · TJ -/
  tj : Int := 25
  deriving DecidableEq, Repr

/-- The load-switch die (15). -/
structure Lsw where
  /-- eight channels · R369 (15) · OUT0–OUT7 -/
  chans : List LswChan := List.replicate 8 {}
  /-- 1 bit · R370 (15) · VAUX_IN below 10.0 V; holds until 11.0 V -/
  under : Bool := false
  /-- 1 bit · R378 (15) · VAUX_GND open -/
  gndOpen : Bool := false
  /-- 1 bit · R383 (15) · LOAD_DUMP -/
  loadDump : Bool := false
  /-- 1 bit · R378 (15) · VAUX_IN reversed -/
  reversed : Bool := false
  /-- mV · R383 (15) · VAUX -/
  vaux : Nat := 0
  /-- 1 bit · R371 (15) · switched off at t_f until the restart -/
  heldOff : Bool := false
  deriving DecidableEq, Repr

end Sys2Proof.Machine
end

