-- ==== Sys2Proof/Machine/Parts/Pq.lean ====
section
/-! DEFINITION. State of power quality (07): Urms½ segments, arming, the event machines, the event ring, harmonic windows
and supraharmonic blocks. -/

namespace Sys2Proof.Machine

/-- An event record of R170. -/
structure PqEvent where
  index : Nat
  type : Nat
  phases : Nat
  flags : Nat
  startEpoch : Nat
  startIdx : Nat
  endEpoch : Nat
  endIdx : Nat
  startCivil : Int
  duration : Nat
  extreme : Nat
  deltaSs : Nat
  deriving DecidableEq, Repr

/-- An open dip, swell or interruption (R159): its record, the end threshold in force at its start, 0.01 mV, and its start as
an absolute sample number. -/
structure PqOpen where
  event : PqEvent
  thrEnd : Nat
  startAbs : Nat
  deriving DecidableEq, Repr

/-- A running rapid voltage change (R160): its record, U_pre per phase, largest departure and its phase. -/
structure PqRvc where
  event : PqEvent
  pre : List (Option Nat)
  dmax : Nat
  phase : Nat
  startAbs : Nat
  deriving DecidableEq, Repr

/-- One half-period segment (R157): Σv² per phase in code², samples, phases with an invalid or settling-invalid sample,
and its first sample as an absolute number. -/
structure PqSeg where
  sum : List Nat := [0, 0, 0]
  n : Nat := 0
  bad : Nat := 0
  first : Nat := 0
  deriving DecidableEq, Repr

/-- A harmonic window or fixed block that waits for its analysis (R150): positions in 1/256 main sample from the start of
epoch 0; NW 0 for a fixed block. -/
structure PqDue where
  firstEpoch : Nat
  lastEpoch : Nat
  startPos : Nat
  endPos : Nat
  nw : Nat
  ref : Option Nat
  deriving DecidableEq, Repr

/-- Results of one channel in a window (R152). -/
structure PqChan where
  fund : Nat
  fundPh : Int
  thd40 : Nat
  thd127 : Nat
  trms : Nat
  mag : List Nat
  ph : List Int
  ih : List Nat
  deriving DecidableEq, Repr

/-- Results of one harmonic window (R152, R154, R168). -/
structure PqWindow where
  due : PqDue
  freq : Nat
  flags : Nat
  invalid : Nat
  chans : List PqChan
  u2 : Nat
  u0 : Nat
  i2 : Nat
  i0 : Nat
  triplen : Nat
  deriving DecidableEq, Repr

/-- Results of one supraharmonic block (R156). -/
structure PqSh where
  slot : Nat
  firstEpoch : Nat
  lastEpoch : Nat
  shift : Nat
  flags : Nat
  b200 : List Nat
  b2k : List Nat
  deriving DecidableEq, Repr

/-- A supraharmonic block recorded and not yet analysed (R155). -/
structure PqBlock where
  slot : Nat
  firstEpoch : Nat
  shift : Nat
  tx : Bool
  samples : List Int
  deriving DecidableEq, Repr

/-- Power quality (07). -/
structure Pq where
  /-- 1 bit · R158 (07) · event detection armed -/
  armed : Bool := false
  /-- ticks · R158 (07) · both feedbacks have reported closed since -/
  closedSince : Option Tick := none
  /-- sample · R158, R168 (07) · first sample of the present state of arming -/
  since : Nat := 0
  /-- Σv², count · R157 (07) · running half-period segment -/
  seg : PqSeg := {}
  /-- Σv², count, oldest first · R157 (07) · ended segments whose Urms½ is due -/
  segDone : List PqSeg := []
  /-- sample · R157 (07) · sample nearest the last crossing plus P/2, none once passed -/
  nextHalf : Option Nat := none
  /-- Σv², count · R157 (07) · previous half-period segment, none before one is complete -/
  prevSeg : Option PqSeg := none
  /-- mV, 120 per phase, newest first · R160 (07) · last Urms½ values since arming -/
  urms : List (List Nat) := [[], [], []]
  /-- samples, newest first · R160 (07) · first sample of the Urms½ window of each of those values -/
  urmsAt : List Nat := []
  /-- mV per phase · R160 (07) · last steady mean since arming -/
  steadyMean : List (Option Nat) := [none, none, none]
  /-- record · R159 (07) · open dip -/
  dip : Option PqOpen := none
  /-- record · R159 (07) · open swell -/
  swell : Option PqOpen := none
  /-- record · R159, R161 (07) · open interruption -/
  intr : Option PqOpen := none
  /-- record · R160 (07) · running rapid voltage change -/
  rvc : Option PqRvc := none
  /-- 512 × 48 bytes, MRAM · R163 (07) · event ring, oldest first -/
  events : List PqEvent := []
  /-- epoch and record, oldest first · R163, R174 (07, 08) · event records that become durable with the journal entry of their
  epoch -/
  wait : List (Nat × PqEvent) := []
  /-- 32 bits · R168 (07) · INDEX of the next event record -/
  nextIndex : Nat := 0
  /-- 1/256 sample and epoch · R150 (07) · start of the running synchronous window, none before one begins -/
  winStart : Option (Nat × Nat) := none
  /-- 0–12 · R150 (07) · rising crossings counted in the running window -/
  winCount : Nat := 0
  /-- slot · R150 (07) · reference of the running window -/
  winRef : Option Nat := none
  /-- records, oldest first · R150 (07) · complete windows not yet analysed -/
  due : List PqDue := []
  /-- 8 records, newest first · R167 (07) · results of the last windows -/
  windows : List PqWindow := []
  /-- 32 bits · R163 (07) · MISSED_WINDOWS since D2 start -/
  missed : Nat := 0
  /-- slot · R155 (07) · slot of the running supraharmonic block -/
  shSlot : Nat := 0
  /-- 24-bit codes, newest first · R155 (07) · wide-path samples of the running block, up to 80 000 -/
  shSamples : List Int := []
  /-- 64 bits · R155 (07) · first epoch of the running block, none before one begins -/
  shFirst : Option Nat := none
  /-- 1 bit · R168 (07) · MC_TX of the running block -/
  shTx : Bool := false
  /-- records · R163 (07) · blocks not yet analysed, oldest first -/
  shDue : List PqBlock := []
  /-- one list per slot 0–7, newest first · R162 (07) · supraharmonic results of each slot not older than the published one -/
  sh : List (List PqSh) := List.replicate 8 []
  /-- 64 bits · R162 (07) · last epoch of the newest complete window, THROUGH[5] -/
  through : Nat := 0
  deriving DecidableEq, Repr

end Sys2Proof.Machine
end

