-- ==== Sys2Proof/Machine/Parts/Sagger.lean ====
section
/-! DEFINITION. State of Sagger (16): life-cycle, root, key slots, kept public keys, tamper sources, Spyhole debug. -/

namespace Sys2Proof.Machine

/-- The keyed record of one slot (R388), with the key it wraps and whether its CMAC passes. -/
structure Slot where
  slot : Nat
  type : Nat
  root : Nat
  attr : Nat
  gen : Nat
  usesMax : Nat
  usesLeft : Nat
  created : Nat
  key : List Byte
  cmacOk : Bool
  deriving DecidableEq, Repr

/-- A kept public key and its certificate (R395). -/
structure PubKey where
  slot : Nat
  type : Nat
  gen : Nat
  pub : List Byte
  cert : List Byte
  deriving DecidableEq, Repr

/-- Sagger (16). -/
structure Sagger where
  /-- 8-bit code, flash and fuse · R34 (02), R400 (16) · life-cycle state; log entry 2 -/
  lifecycle : Lifecycle := .blank
  /-- code · R401 (16) · transition target written with PENDING -/
  lcPending : Option Lifecycle := none
  /-- code · R386 (16) · root in force -/
  root : Nat := 0
  /-- 16 bits · R409 (16) · PUF_CORRECTED at the last start -/
  pufCorrected : Nat := 0
  /-- 1 bit each, flash · R385 (16) · helper copies hold valid data; none before enrolment -/
  helperA : Bool := false
  /-- 1 bit, flash · R385 (16) · helper copy B holds valid data -/
  helperB : Bool := false
  /-- 64 × 192 bytes, flash and RAM · R388 (16) · occupied slots -/
  slots : List Slot := []
  /-- records, flash · R395 (16) · kept public keys and certificates, newest first -/
  pubs : List PubKey := []
  /-- mask of slots · R391 (16) · slots recorded BAD in this D3 start -/
  badLogged : Nat := 0
  /-- mask of sources · R396 (16) · TAMPER_ACTIVE -/
  tamperActive : Nat := 0
  /-- mask of sources · R409 (16) · TAMPER_SEEN, cleared by reading -/
  tamperSeen : Nat := 0
  /-- mask of sources · R398 (16) · sources that block VEH_AUTHORISE -/
  blocking : Nat := 0
  /-- ticks per source · R406 (16) · instant each active source began -/
  since : List Tick := [0, 0, 0, 0, 0, 0, 0, 0]
  /-- mask · R397 (16) · TAMP0–TAMP2 active -/
  tamp : Nat := 0
  /-- mask · R397 (16) · raw TAMP inputs at the previous sample -/
  tampPrev : Nat := 0
  /-- 1 bit · R173 (08) · mesh breach latched in D0 -/
  mesh : Bool := false
  /-- 1 bit · R173 (08) · potting breach latched in D0 -/
  potting : Bool := false
  /-- 1 bit · R409 (16) · zeroise erase pending -/
  erasePending : Bool := false
  /-- 1 bit · R404 (16) · DBG_ENABLE as last written -/
  dbgEnable : Bool := false
  /-- 1 bit · R404 (16) · debug open since the last D3 start -/
  debugOpen : Bool := false
  /-- 32 bytes · R402 (16) · unlock challenge issued and not yet used -/
  challenge : Option (List Byte) := none
  /-- count · R402 (16) · challenges issued; the model's own index of the free value, log entry 4 -/
  challengeNo : Nat := 0
  /-- 3 bits · R403 (16) · ACK of the last SPACE 1 transaction -/
  spyAck : Nat := 0
  /-- 32 bits · R403 (16) · data bits of the last SPACE 1 read -/
  spyData : Nat := 0
  /-- bytes each · R402 (16) · challenges already used, for the refusal REPLAYED -/
  usedChallenges : List (List Byte) := []
  deriving DecidableEq, Repr

end Sys2Proof.Machine
end

