-- ==== Sys2Proof/Machine/Parts/Shutter.lean ====
section
/-! DEFINITION. State of the Shutter safety island (14): contactor drive, pilot output, latches, orderly stop,
residual-current self-test, limits, configuration session, password and change log. -/

namespace Sys2Proof.Machine

/-- Why an orderly stop runs (R362 ORDERLY_STOP causes). -/
inductive StopKind where
  | kiln | metering | reclaim
  deriving DecidableEq, Repr

/-- An orderly stop in progress (R343). -/
structure OrderlyStop where
  kind : StopKind
  start : Tick
  hadCoil : Bool
  bound : Tick
  /-- I_perm for AC and for DC when the stop began (R343) -/
  perm : Nat × Nat
  /-- the reclaim window has ended without a reclaim while this stop ran (R42) -/
  missed : Bool := false
  deriving DecidableEq, Repr

/-- A running residual-current self-test (R347). -/
structure RcmTest where
  step : Nat
  cause : Nat
  dc : Nat
  dest : Option Req
  deriving DecidableEq, Repr

/-- A SHU_RESET held pending for an SRESET release (R355). -/
structure PendingReset where
  mask : Nat
  deadline : Tick
  sender : Nat
  deriving DecidableEq, Repr

/-- An entry of the Shutter change log (R361). -/
structure ChangeEntry where
  index : Nat
  kind : Nat
  sender : Nat
  param : Nat
  epoch : Nat
  civil : Int
  old : List Byte
  new : List Byte
  deriving DecidableEq, Repr

/-- The two output conditions of the pilot (R342, R312). -/
inductive CpDrive where
  | steady | pwm | stateF
  deriving DecidableEq, Repr

/-- The Shutter safety island (14). -/
structure Shutter where
  /-- ticks · R338 (14) · instant of the last evaluation cycle; the model's own, log entry 3 -/
  cycleAt : Tick := 0
  /-- 1 bit each · R337 (14) · channel A drives KM1_H, KM2_H -/
  driveA1 : Bool := false
  /-- 1 bit · R337 (14) · channel A drives KM2_H -/
  driveA2 : Bool := false
  /-- 1 bit · R337 (14) · channel B drives KM1_L -/
  driveB1 : Bool := false
  /-- 1 bit · R337 (14) · channel B drives KM2_L -/
  driveB2 : Bool := false
  /-- ticks · R339 (14) · end of the pull-in in progress -/
  pullInEnd : Option Tick := none
  /-- 1 bit · R341 (14) · KFB1 reports closed -/
  kfb1 : Bool := false
  /-- 1 bit · R341 (14) · KFB2 reports closed -/
  kfb2 : Bool := false
  /-- ticks · R341 (14) · instant by which each enabled feedback must report closed -/
  kfbBy : Option Tick := none
  /-- enum · R342 (14) · what CP is driven to -/
  cpDrive : CpDrive := .steady
  /-- 0.1 % · R173 (08) · duty in force -/
  duty : Nat := 0
  /-- 0–6 · R314 (13) · reported pilot state, 0 unknown, 1–6 states A–F -/
  cpState : Nat := 0
  /-- 1 bit · R349 (14) · the vehicle's diode is missing -/
  diodeMissing : Bool := false
  /-- ticks · R355 (14) · pilot state A since -/
  stateASince : Option Tick := none
  /-- 16 bits · R354 (14) · SHU_FAULTS latches -/
  latches : Nat := 0
  /-- records · R355 (14) · pending reset -/
  pendingReset : Option PendingReset := none
  /-- ticks · R355 (14) · last SRESET release that was an edge -/
  lastRelease : Option Tick := none
  /-- ticks · R356 (14) · SRESET low since -/
  sresetLow : Option Tick := none
  /-- requests, in order of arrival · R342 (14) · requests of Kiln not yet taken -/
  requests : List ShuReq := []
  /-- ticks · R342 (14) · cycle in which the last request was taken -/
  tookAt : Option Tick := none
  /-- record · R343 (14) · orderly stop in progress -/
  stop : Option OrderlyStop := none
  /-- mA · R348 (14) · last accepted AC limit, none before any LIMIT request -/
  limitAc : Option Nat := none
  /-- mA · R348 (14) · last accepted DC limit -/
  limitDc : Option Nat := none
  /-- 1 bit · R567 (14) · the last accepted LIMIT named a DC limit -/
  limitIsDc : Bool := false
  /-- mA and ticks · R348 (14) · previous value that stays in force for 5 s after a reduction -/
  permHold : Option (Nat × Tick) := none
  /-- 40 codes per current channel and MOD0, newest first · R348 (14) · settling-path samples -/
  settleWin : List (List Int) := List.replicate 5 []
  /-- 1 bit · R344 (14) · ESTOP_A line open -/
  estopA : Bool := false
  /-- 1 bit · R344 (14) · ESTOP_B line open -/
  estopB : Bool := false
  /-- ticks · R344 (14) · one line open and the other closed since -/
  discrepSince : Option Tick := none
  /-- 0.1 mA · R367 (14) · residual AC as last measured -/
  rcmAc : Nat := 0
  /-- 0.1 mA · R367 (14) · residual DC as last measured -/
  rcmDc : Int := 0
  /-- record · R347 (14) · running self-test -/
  rcmTest : Option RcmTest := none
  /-- cause · R347 (14) · a self-test that waits until both coils are de-energised -/
  rcmWant : Option Nat := none
  /-- request and status · R342 (14) · last refusal, as Kiln reads it -/
  refusal : Option (ShuReq × Nat) := none
  /-- ticks · R347 (14) · instant of the last passing self-test, none when none is valid -/
  rcmPass : Option Tick := none
  /-- 64 bits · R367 (14) · RCM_TEST_EPOCH -/
  rcmPassEpoch : Nat := 0
  /-- ticks · R351 (14) · instant of the weld test that is due -/
  weldAt : Option Tick := none
  /-- mV · R351 (14) · newest Urms½ of VS_L1–VS_L3 -/
  urmsHalf : List Nat := [0, 0, 0]
  /-- mV · R351 (14) · MOD1 voltage -/
  mod1 : Nat := 0
  /-- 1 bit · R351 (14) · the last session was a DC session -/
  wasDc : Bool := false
  /-- mV · R340 (14) · VAUX_IN as last measured -/
  vaux : Nat := 0
  /-- ticks · R353 (14) · VAUX_IN below 10.0 V with a coil energised since -/
  supplyLow : Option Tick := none
  /-- 1 bit · R357 (14) · the two channels agree -/
  agree : Bool := true
  /-- ticks · R355 (14) · the channels have agreed since -/
  agreeSince : Tick := 0
  /-- ticks · R338 (14) · the channels have disagreed since -/
  splitSince : Option Tick := none
  /-- 0–3 · R338 (14) · consecutive cycles without a valid D2 frame at channel B -/
  linkBad : Nat := 0
  /-- signed, 0.01 % · R367 (14) · OSC_B -/
  oscB : Int := 0
  /-- 64 bits · R367 (14) · LAST_TRIP_EPOCH -/
  lastTrip : Nat := 0
  /-- record · R359 (14) · configuration session: sender and instant of the last accepted write -/
  session : Option (Sender × Tick) := none
  /-- salt and SHA-256 · R360 (14) · password digest; none while no password is set -/
  password : Option (List Byte × List Byte) := none
  /-- 8 bits · R360 (14) · consecutive wrong passwords -/
  fails : Nat := 0
  /-- 8 bits · R360 (14) · lockouts since the last successful open -/
  lockouts : Nat := 0
  /-- ticks · R360 (14) · end of the lockout in force -/
  lockoutEnd : Option Tick := none
  /-- 512 entries, MRAM · R361 (14) · change log, oldest first -/
  changeLog : List ChangeEntry := []
  /-- 32 bits · R186 (08) · INDEX of the next change-log entry -/
  nextChange : Nat := 0
  /-- 1 bit each · R358 (14) · configuration copies A and B valid; log entry 2 -/
  copyA : Bool := true
  /-- 1 bit · R358 (14) · configuration copy B valid; log entry 2 -/
  copyB : Bool := true
  /-- 1 bit · R358 (14) · both copies hold the same configuration; log entry 2 -/
  copiesEqual : Bool := true
  deriving DecidableEq, Repr

end Sys2Proof.Machine
end

