-- ==== Sys2Proof/Machine/Parts/Snapshot.lean ====
section
/-! DEFINITION. The published snapshot (R16–R22) and the group results on their way into it. -/

namespace Sys2Proof.Machine

/-- Kiln's result groups as they stand for an epoch each (R20 groups 2–6). -/
structure Groups where
  /-- group 2: THROUGH[2] and its values -/
  meas : Option Meas := none
  /-- group 3: THROUGH[3] -/
  through3 : Nat := 0
  /-- group 4: THROUGH[4] and the ledger values -/
  through4 : Nat := 0
  bil : Billing := {}
  /-- group 5: THROUGH[5] -/
  through5 : Nat := 0
  /-- group 6: THROUGH[6], session state and limits -/
  through6 : Nat := 0
  veh : Vehicle := {}
  deriving DecidableEq, Repr

/-- What the commit logic captures of mode, D1, D4, D0 and the engine pool at the timebase end of an epoch, from which status
replies are built (R16, R17, R264). -/
structure Held where
  /-- instant of the capture -/
  instant : Tick := 0
  lifecycle : Lifecycle := .blank
  dom : Domains := {}
  mode : ModeState := {}
  recl : Reclaim := {}
  inp : Inputs := {}
  sie : Sieve := {}
  cal : Cal := {}
  shu : Shutter := {}
  lsw : Lsw := {}
  hng : Hinge := {}
  kiln : Kiln := {}
  /-- current tokens held (R470) and notifications stored (R294), for the recorder (R533) -/
  tokens : Nat := 0
  store : Nat := 0
  deriving DecidableEq, Repr

/-- The snapshot all replies take their values from (R17, R18). -/
structure Snapshot where
  /-- 1 bit · R35 (02) · a snapshot of this run has been published -/
  published : Bool := false
  /-- 64 bits · R18 (01) · EPOCH -/
  epoch : Nat := 0
  /-- signed s · R18 (01) · CIVIL_S -/
  civilS : Int := 0
  /-- 16 bits · R18 (01) · CIVIL_F -/
  civilF : Nat := 0
  /-- 8 bits · R18 (01) · MODE -/
  mode : Mode := .none
  /-- 8 bits · R18 (01) · ROLE -/
  role : Nat := 0
  /-- 32 bits · R19 (01) · SNAP_FLAGS -/
  flags : Nat := 0xA8
  /-- 8 × 64 bits · R18 (01) · THROUGH[0..7] -/
  through : List Nat := [0, 0, 0, 0, 0, 0, 0, 0]
  /-- 32 bits · R18 (01) · WEDGE_SET -/
  wedgeSet : Nat := 0
  /-- 7 × 32 bits · R266 (10) · Wedge register values in force during EPOCH -/
  wedgeRegs : List Nat := [0, 0, 0, 0, 0, 0, 0]
  /-- 16 bytes · R173 (08) · STATE -/
  state : PackedState := {}
  /-- 36 × u128, q · R108 (05) · fine totals at EPOCH (group 0) and THROUGH[3] (group 3) -/
  fine : List Nat := List.replicate 36 0
  /-- signed, 0.01 °C · R148 (06) · mean die temperature of EPOCH -/
  temp : Int := 0
  /-- records · R20 (01) · values of the Kiln groups -/
  groups : Groups := {}
  /-- 8 bits · R125 (05) · MET.TOTAL_RULE in force at EPOCH -/
  totalRule : Nat := 0
  /-- 8 bits · R125 (05) · MET.PHASE_ENABLE at EPOCH -/
  phases : Nat := 7
  /-- records · R16 (01) · mode and state of D1, D4 and D0 at the end of EPOCH -/
  held : Held := {}
  /-- epochs and records · R16 (01) · captured states of ended epochs not yet published -/
  captures : List (Nat × Held) := []
  /-- records · R20 (01) · group results taken at the latch of the epoch being committed; not yet published -/
  taken : Groups := {}
  deriving DecidableEq, Repr

end Sys2Proof.Machine
end

