-- ==== Sys2Proof/Machine/Parts/Update.lean ====
section
/-! DEFINITION. State of firmware update (22): slots, staging, activation record and chains. -/

namespace Sys2Proof.Machine

/-- A firmware set in an image slot (R496): part versions and part bytes, PART_ID 1 to 7, and its manifest. -/
structure ImageSet where
  versions : List Nat
  parts : List (List Byte)
  manifest : List Byte
  deriving DecidableEq, Repr

/-- The activation record (R503). -/
structure ActRecord where
  gen : Nat := 0
  state : Nat := 0
  runSlot : Nat := 0
  prevSlot : Nat := 0
  pairState : Nat := 0
  manifestHash : List Byte := []
  trialEpoch : Nat := 0
  lrFloor : Nat × Nat × Nat := (0, 0, 0)
  actCount : Nat := 0
  deriving DecidableEq, Repr

/-- A staged bundle (R500): bundle identifier, manifest, total length, received bytes by offset, source. -/
structure Staging where
  bundleId : Nat
  manifest : List Byte
  total : Nat
  bytes : List (Option Byte)
  source : Nat
  /-- neighbour the chain fetches from, and the instant of its last CHUNK -/
  fetch : Option (Nat × Tick)
  /-- other offerers heard -/
  offerers : List Nat
  deriving DecidableEq, Repr

/-- Firmware update (22). -/
structure Update where
  /-- 2 × 10 MiB, flash · R497 (22) · image slots A and B -/
  slots : List (Option ImageSet) := [none, none]
  /-- 64 bytes, MRAM · R503 (22) · activation record in force -/
  record : ActRecord := {}
  /-- 64 bytes, MRAM · R503 (22) · the other copy of the record, the one before it -/
  otherRecord : ActRecord := {}
  /-- record, flash and MRAM · R500 (22) · staged bundle -/
  staging : Option Staging := none
  /-- 0–3 · R512 (22) · STAGE_STATE -/
  stage : Nat := 0
  /-- status · R512 (22) · FAIL_STATUS -/
  failStatus : Nat := 0
  /-- request · R501 (22) · UPD_VERIFY whose result is awaited -/
  verifying : Bool := false
  /-- ticks · R504 (22) · restart due after an accepted activation -/
  restartAt : Option Tick := none
  /-- ticks · R504 (22) · the trial has run without fault since -/
  trialSince : Option Tick := none
  /-- 1–5 · R509 (22) · cause of a rollback in progress -/
  rollCause : Nat := 0
  /-- 32 bits · R509 (22) · BUNDLE_ID of the last activation -/
  bundleId : Nat := 0
  /-- 1 bit · R504 (22) · UPD_CONFIRM has arrived in the trial -/
  confirmed : Bool := false
  /-- op, neighbour, offset, data length · R502 (22) · last chain message sent -/
  chainSent : Option (Nat × Nat × Nat × Nat) := none
  /-- neighbours · R502 (22) · neighbours that reported HAVE -/
  haves : List Nat := []
  /-- 1 bit · R507 (22) · an accepted pair activation waits until this unit has handed over its role -/
  pairWait : Bool := false
  /-- 1 bit · R507 (22) · the second unit of the pair has failed: this unit rolls back once it has handed the role back -/
  pairBack : Bool := false
  /-- leave instant and bundle · R507 (22) · bundle passed to the standby over the Hinge link -/
  pairPass : Option (Tick × List Byte) := none
  deriving DecidableEq, Repr

end Sys2Proof.Machine
end

