-- ==== Sys2Proof/Machine/State.lean ====
section
/-! DEFINITION. The state of the module: one field for each block the spec describes, the published snapshot, and
the queue of commands that wait. Faults and refusals are closed types; no command of this model stops. -/

namespace Sys2Proof.Machine

/-- No command of the model stops the module with a fault: what the spec calls a fault is a latch, a status or an
event in the state. The type is empty. -/
inductive Fault where
  deriving DecidableEq, Repr

/-- Why a command has no meaning. Safe: the model stops where the module goes on. -/
inductive Refusal where
  /-- raised only by an arm of exec whose command has no meaning yet; safe -/
  | notModelled (mnemonic : String)
  deriving DecidableEq, Repr

/-- The state of the module. -/
structure State where
  /-- identity fixed at manufacture (00, 08) -/
  ident : Ident := {}
  /-- timebase (01) -/
  clk : Clock := {}
  /-- supplies (02, 25) -/
  pwr : Power := {}
  /-- reset domains (01, 02) -/
  dom : Domains := {}
  /-- operating mode (02) -/
  mode : ModeState := {}
  /-- hold-up (02) -/
  hold : Holdup := {}
  /-- reclaim window (02) -/
  recl : Reclaim := {}
  /-- measurement inputs (03) -/
  inp : Inputs := {}
  /-- Sieve (04) -/
  sie : Sieve := {}
  /-- energy computation (05) -/
  met : Energy := {}
  /-- calibration (06) -/
  cal : Cal := {}
  /-- ledger (08) -/
  led : Ledger := {}
  /-- billing (09) -/
  bil : Billing := {}
  /-- Hatch mailboxes and Brixo (11) -/
  hatch : Hatch := {}
  /-- parameter store (11) -/
  par : ParamStore := {}
  /-- Shutter (14) -/
  shu : Shutter := {}
  /-- Sagger (16) -/
  sag : Sagger := {}
  /-- published snapshot (01) -/
  snap : Snapshot := {}
  /-- power quality (07) -/
  pq : Pq := {}
  /-- Kiln engine pool (10) -/
  kiln : Kiln := {}
  /-- DMA engine (12) -/
  dma : Dma := {}
  /-- vehicle interface (13) -/
  veh : Vehicle := {}
  /-- load switches (15) -/
  lsw : Lsw := {}
  /-- card reader and Letterbox (17) -/
  con : Contactless := {}
  /-- window display (18) -/
  disp : Display := {}
  /-- mains carrier (19) -/
  mc : Carrier := {}
  /-- Lintel fabric and tokens (20) -/
  lin : Lintel := {}
  /-- Hinge redundancy (21) -/
  hng : Hinge := {}
  /-- firmware update (22) -/
  upd : Update := {}
  /-- auxiliary ADC (23) -/
  adc : AuxAdc := {}
  /-- Nightlatch (23) -/
  nl : Nightlatch := {}
  /-- diagnostic event recorder (24) -/
  diag : Diag := {}
  /-- RS-485 port (25) -/
  rs : Rs485 := {}
  /-- commands that wait, first in first out; the model's own -/
  pending : List Instr := []
  deriving DecidableEq, Repr

/-- The module as it comes from manufacture, before its first power-up: every domain in reset, nothing published and
no command waiting. Values the spec does not state are those of log entries 1 and 2. -/
def State.reset : State := {}

end Sys2Proof.Machine
end

