-- ==== Sys2Proof/Machine/Tag.lean ====
section
/-! DEFINITION. The Letterbox page store (17): slots, the current slot of a page, and one page written to the older slot. -/

namespace Sys2Proof.Machine

/-- The current slot of a page: valid, and the newer GEN where both are (R417); none reads as zeros with GEN 0. -/
def currentSlot (p : LbSlot × LbSlot) : LbSlot :=
  match p.1.valid, p.2.valid with
  | true, true => if serialNewer 16 p.2.gen p.1.gen then p.2 else p.1
  | true, false => p.1
  | false, true => p.2
  | false, false => {}

/-- The second slot is the current one. -/
def secondCurrent (p : LbSlot × LbSlot) : Bool := p.2.valid && (!p.1.valid || serialNewer 16 p.2.gen p.1.gen)

def pageOf (s : State) (p : Nat) : LbSlot := currentSlot ((s.con.pages[p]?).getD ({}, {}))

def pageGen (s : State) (p : Nat) : Nat := (pageOf s p).gen

/-- The 240 bytes of a page. -/
def pageData (s : State) (p : Nat) : List Byte := padTo 240 (pageOf s p).data

/-- The older slot of a page replaced. -/
def olderSet (p : LbSlot × LbSlot) (x : LbSlot) : LbSlot × LbSlot := if secondCurrent p then (x, p.2) else (p.1, x)

/-- A page written whole: the older slot with GEN one higher (R422 steps 3 and 4). -/
def pageWrite (p : Nat) (data : List Byte) (s : State) : State :=
  let x : LbSlot := { gen := (pageGen s p + 1) % 65536, data := padTo 240 data, valid := true }
  { s with con := { s.con with pages := modAt s.con.pages p fun q => olderSet q x } }

/-- A write that stopped in step 3 or 4: the older slot fails its check, the page keeps its content (R422). -/
def pageTorn (p : Nat) (s : State) : State :=
  { s with con := { s.con with pages := modAt s.con.pages p fun q => olderSet q {} } }

/-- A session close or a billing close calls for a summary (R421). -/
def wantSummary (s : State) : State := { s with con := { s.con with summaryDue := true } }

/-- A whole inline packet of the module (R276, R423). -/
def inlinePacket (c flags op q : Nat) (payload : List Byte) : List Byte :=
  let head := le 1 (16 + flags) ++ le 1 c ++ le 2 op ++ le 2 payload.length ++ le 1 q ++ le 1 0
  head ++ payload ++ le 4 (crc32c (head ++ payload))

end Sys2Proof.Machine
end

