-- ==== Sys2Proof/Machine/Ops.lean ====
section
/-! DEFINITION. The shared operations of the commands: time, parameters, the metrological event log, notifications, the
event recorder, and the conditions that many chapters use. -/

namespace Sys2Proof.Machine

abbrev Out := Host.Outcome State Fault Refusal

/-- The effect `f` where the command's own condition holds, no effect otherwise (log entry 6). -/
def whenever (c : Bool) (s : State) (f : State → State) : Out := .next (if c then f s else s)

/-! Time. -/

/-- The timebase moved forward to an instant a command stands for (log entry 3). -/
def advanceTo (t : Tick) (s : State) : State := { s with clk := { s.clk with now := max s.clk.now t } }

/-- Ticks of civil time per second and the split of civil ticks into CIVIL_S and CIVIL_F (00 conventions, R12:
65 536 fractions of 3 125 ticks make a second). -/
def civilSec (t : Int) : Int := t / 204800000
def civilFrac (t : Int) : Nat := ((t % 204800000) / 3125).toNat

/-- Civil ticks at the end of the present timebase epoch (R18, R204: a slew runs at 1.001 or 0.999). -/
def slewStep (b : Billing) : Int := clampI (-2048) 2048 b.slewLeft
def civilEnd (s : State) : Int := s.bil.civil + 2048000 + slewStep s.bil

/-- The RTC now, in ticks (R521). -/
def rtcNow (s : State) : Int := s.nl.rtc + ((s.clk.now : Int) - s.nl.rtcAt)

/-- A new free value: the state with the counter advanced, and the index used (log entry 4). -/
def takeFree (s : State) : Nat × State := (s.clk.free, { s with clk := { s.clk with free := s.clk.free + 1 } })

/-! The running firmware set (R496, R503). -/

/-- The set of the running slot; none while it is the delivered one (log entry 10). -/
def runSet (s : State) : Option ImageSet := (s.upd.slots[s.upd.record.runSlot]?).getD none

/-- The metrology firmware image and LR_VERSION (R143). -/
def metImage (s : State) : List Byte :=
  match runSet s with | some x => (x.parts[1]?).getD [] | none => Config.metrologyImage

def versionOf (v : Nat) : Nat × Nat × Nat := (v % 256, v / 256 % 256, v / 65536 % 256)

def lrVersionOf (s : State) : Nat × Nat × Nat :=
  match runSet s with | some x => versionOf ((x.versions[1]?).getD 0) | none => Config.lrVersion

/-! Conditions. -/

/-- A coil is energised only while both channels drive it (R338). -/
def coil1 (s : State) : Bool := s.shu.driveA1 && s.shu.driveB1
def coil2 (s : State) : Bool := s.shu.driveA2 && s.shu.driveB2
def coilOn (s : State) : Bool := coil1 s || coil2 s

/-- KM1 and KM2 open: no coil energised and no feedback reporting closed (log entry 13). -/
def kmOpen (s : State) : Bool := !coilOn s && !s.shu.kfb1 && !s.shu.kfb2

/-- The module as the published snapshot shows it to status replies: the mode and group 1 at the end of EPOCH, groups 4 and 6
through their epochs (R17, R20); before the first snapshot, as it stands (log entry 17). -/
def asOf (s : State) : State :=
  if !s.snap.published then s
  else
    let h := s.snap.held
    { s with
      clk := { s.clk with now := h.instant }, dom := h.dom, mode := h.mode, recl := h.recl, inp := h.inp
      sie := h.sie, cal := h.cal, shu := h.shu
      lsw := h.lsw, hng := h.hng, kiln := h.kiln, sag := { s.sag with lifecycle := h.lifecycle }, veh := s.snap.groups.veh
      bil := s.snap.groups.bil }

/-- The epoch that status replies show: the published one, before the first snapshot the one in progress (R17). -/
def shownEpoch (s : State) : Nat := if s.snap.published then s.snap.epoch else s.clk.epoch

/-- A session is open (R327). -/
def sessionOpen (s : State) : Bool := s.bil.session.isSome

def inFactory (s : State) : Bool := s.sag.lifecycle == .factory
def setupMode (s : State) : Bool := s.mode.mode == .factory || s.mode.mode == .commission
def inHoldup (s : State) : Bool := s.mode.mode == .holdup

/-- The metrology seal is set whenever the life-cycle is other than FACTORY (R139). -/
def sealSet (s : State) : Bool := !inFactory s

/-- Firmware serves requests: D3 out of reset with READY raised (R271, R272). -/
def serving (s : State) : Bool := s.dom.d3 && s.dom.ready

/-- The variant enables a function (R1). -/
def enabled (v : Variant) : PFunc → Bool
  | .all => true
  | .td => v != .t3
  | .hinge => v == .tdh

/-! Parameters. -/

/-- Every parameter of every chapter. -/
def allParams : List ParamRow :=
  paramsSys ++ paramsInput ++ paramsSieve ++ paramsEnergy ++ paramsCal ++ paramsLedger ++ paramsBilling
    ++ paramsShutter ++ paramsSagger ++ paramsPq ++ paramsKiln ++ paramsRs485 ++ paramsVeh ++ paramsLsw ++ paramsCon
    ++ paramsDisp ++ paramsMc ++ paramsLin ++ paramsHng ++ paramsUpd ++ paramsDiag ++ paramsAux

def paramRow (id : Nat) : Option ParamRow := allParams.find? (·.id == id)

def paramCell (s : State) (id : Nat) : Option ParamCell := (s.par.cells.find? (·.1 == id)).map (·.2)

/-- The value in force of a parameter, its default where it was never written (R286). -/
def paramI (s : State) (id : Nat) : Int :=
  match paramCell s id with
  | some c => c.value
  | none => ((paramRow id).map (·.dflt)).getD 0

def param (s : State) (id : Nat) : Nat := (paramI s id).toNat

/-- One cell of the store replaced; the store stays in rising order of ID. -/
def setCells (l : List (Nat × ParamCell)) (id : Nat) (c : ParamCell) : List (Nat × ParamCell) :=
  l.filter (·.1 < id) ++ (id, c) :: l.filter (id < ·.1)

def setCell (s : State) (id : Nat) (c : ParamCell) : State := { s with par := { cells := setCells s.par.cells id c } }

/-- A value put in force by the module itself from an epoch (read-only parameters, R94; a calibration record, R284). -/
def forceParamAt (s : State) (id : Nat) (v : Int) (e : Nat) : State :=
  setCell s id { value := v, since := e, prev := paramI s id, pending := none, written := true, sender := 0
                 prevSince := ((paramCell s id).map (·.since)).getD 0 }

/-- A value put in force at once by the module itself (SYS.COMMISSIONED, R94 mirrors). -/
def forceParam (s : State) (id : Nat) (v : Int) : State := forceParamAt s id v s.clk.epoch

/-- The value in force at an epoch that D2 is still computing (R103, R284). -/
def paramIE (s : State) (id e : Nat) : Int :=
  match paramCell s id with
  | none => paramI s id
  | some c => match c.pending with
    | some (v, pe) => if pe ≤ e then v else if c.since ≤ e then c.value else c.prev
    | none => if c.since ≤ e then c.value else c.prev

def paramE (s : State) (id e : Nat) : Nat := (paramIE s id e).toNat

/-! Hinge (R481–R485). -/

def setHng (f : Hinge → Hinge) (s : State) : State := { s with hng := f s.hng }

/-- Hinge is in use on this unit. -/
def hingeOn (s : State) : Bool := enabled s.ident.variant .hinge && param s 0x0D00 == 1

/-- This unit is the STANDBY of a Hinge pair (R484). -/
def isStandby (s : State) : Bool := s.hng.role == .standby

/-- The output stages of this unit drive (R483). -/
def stagesDrive (s : State) : Bool := !hingeOn s || s.hng.driving

/-- Hinge hands over: an ACTIVE unit in SYNCED operation asserts YIELD (R485, R489). -/
def yieldRole (s : State) : State :=
  if hingeOn s && s.hng.role == .active && s.hng.synced && !s.hng.yielding then
    setHng (fun h => { h with yielding := true, yieldSince := s.clk.now }) s
  else s

/-! Metrological event log (R188). -/

def mkEvent (s : State) (code flags sender : Nat) (data : List Byte) : Event :=
  { index := s.led.nextEvent, code := code, flags := flags + (if inHoldup s then 2 else 0), sender := sender,
    epoch := s.clk.epoch, civil := civilSec (civilEnd s), data := data }

/-- Bytes of an event log entry (R188). -/
def Event.bytes (e : Event) : List Byte :=
  withCrc (le 4 e.index ++ le 2 e.code ++ le 1 e.flags ++ le 1 e.sender ++ le 8 e.epoch ++ leI 8 e.civil
    ++ padTo 36 e.data)

/-! Notifications (R287, R288). -/

/-- The home channel of an opcode's area (R275). -/
def homeChan (code : Nat) : Nat :=
  match code / 256 with
  | 0x01 => 0 | 0x02 => 1 | 0x03 => 2 | 0x04 => 2 | 0x05 => 3 | 0x06 => 4 | 0x07 => 4 | 0x08 => 0 | 0x09 => 3
  | 0x0A => 0 | 0x0B => 5 | 0x0C => 5 | 0x0D => 5 | 0x0E => 6 | 0x0F => 7 | _ => 0


/-- The 12-byte header of a reply or notification payload (R277): STATUS, reserved, EPOCH. -/
def header (s : State) (st : Nat) : List Byte := le 2 st ++ zeros 2 ++ le 8 s.snap.epoch

/-- The store without its oldest entry of a class. -/
def dropOldest (c : Nat) : List Note → List Note
  | [] => []
  | n :: ns => if n.cls = c then ns else n :: dropOldest c ns

/-- The drop counted under its class, with NOTIFY_DROPPED set (R287). -/
def countDrop (h : Hatch) (c : Nat) : Hatch :=
  { h with notifyDropped := true, dropped := modAt h.dropped c (satInc 0xFFFFFFFF) }

/-- A notification enters the 64-entry store, or one entry of the lowest class is dropped (R287); the class of the
dropped one is given back. -/
def storeNote (h : Hatch) (n : Note) : Hatch × Option Nat :=
  if h.notes.length < 64 then
    ({ h with notes := h.notes ++ [n], peak := max h.peak (h.notes.length + 1) }, none)
  else
    let low := maxOf (h.notes.map (·.cls))
    if low < n.cls then (countDrop h n.cls, some n.cls)
    else (countDrop { h with notes := dropOldest low h.notes ++ [n] } low, some low)

/-- Queue a notification for HOST_SPI; while no firmware runs it is lost, uncounted (R281, R288). -/
def queueNote (st cls code : Nat) (body : List Byte) (s : State) : State × Option Nat :=
  if serving s then
    let (h, d) := storeNote s.hatch { cls := cls, chan := homeChan code, opcode := code, payload := header s st ++ body }
    ({ s with hatch := h }, d)
  else (s, none)

/-! Tokens held (R470, R476, R478). -/

def siteLimit (s : State) : Nat := s.lin.plan.1
def homeFirst (s : State) : Nat := s.lin.plan.2.1
def homeCount (s : State) : Nat := s.lin.plan.2.2.1
def floorTokens (s : State) : Nat := s.lin.plan.2.2.2.1
def tableId (s : State) : Nat := s.lin.plan.2.2.2.2.1
def leaseS (s : State) : Nat := s.lin.plan.2.2.2.2.2

/-- A home token in the post's own pool. -/
def inPool : TokenPlace → Bool
  | .offer | .out _ | .lendable => true
  | .inTransit | .lent => false

/-- Borrowed tokens whose lease is committed and still in use (R470). -/
def borrowedInUse (s : State) : Nat :=
  sumN ((s.lin.borrowings.filter fun b => b.committed && b.inUse).map (·.tokens.length))

def tokensHeld (s : State) : Nat :=
  if s.lin.shareInvalid then 0
  else if s.lin.quarantine.isSome then floorTokens s
  else countWhere (fun h => inPool h.2) s.lin.home + borrowedInUse s

/-- I_site of R470, absent while sharing is off. -/
def iSite (s : State) : Option Nat := if siteLimit s = 0 then none else some (1000 * tokensHeld s)

/-! Diagnostic event recorder (R531–R536). -/

/-- The codes of R531 in the order n. -/
def diagCodes : List Nat :=
  [0x0180, 0x0181, 0x0182, 0x0183, 0x0184, 0x0185, 0x0186, 0x0187, 0x0188, 0x0380, 0x0780, 0x0B80, 0x0C80, 0x1080,
   0x1081, 0x1082, 0x1180, 0x0F80]

/-- RATE of a cell as reported: 0 for a failed cell (R264). -/
def rateOf (c : Cell) : Nat := if c.healthy then c.rate else 0

/-- The shedding step that the number of healthy cells forces (R252). -/
def healthyN (s : State) : Nat := countWhere (·.healthy) s.kiln.cells
def forcedStep (s : State) : Nat := if healthyN s ≤ 11 then 4 else if healthyN s = 12 then 1 else 0

/-- SHED_LEVEL: the step by misses up to SYS.KILN_SHED_MAX, step 1 under SPEED_LOW, and the step of R252. -/
def shedLevel (s : State) : Nat :=
  max (max s.kiln.step (if s.kiln.speedLow then 1 else 0)) (forcedStep s)

def phaseMeas (s : State) (p : Nat) : Option PhaseMeas := s.snap.groups.meas.bind (·.phases[p]?)

/-- The value of an item of R533, none for a number that ends the list: ADC items from the newest result, the others from the
published snapshot, or as they stand while there is none. -/
def diagItem (live : State) (i : Nat) : Option Int :=
  let s := asOf live
  if i ≤ 0x17 then live.adc.values[i]?
  else if i ≤ 0x1F then (s.lsw.chans[i - 0x18]?).map (·.tj)
  else if i ≤ 0x2F then (s.kiln.cells[i - 0x20]?).map fun c => (rateOf c : Int)
  else match i with
    | 0x30 => some s.kiln.coreMv
    | 0x31 => some s.kiln.tjMax
    | 0x32 => some s.kiln.load
    | 0x33 => some (shedLevel s)
    | 0x40 => some s.snap.mode.code
    | 0x41 => some s.snap.flags
    | 0x42 => some s.snap.state.shuFaults
    | 0x43 => some s.snap.state.cpDuty
    | 0x44 => some s.veh.iLim
    | 0x45 => some (if s.snap.published then s.snap.held.tokens else tokensHeld s)
    | 0x46 => some (if s.snap.published then s.snap.held.store else s.hatch.notes.length)
    | 0x50 | 0x51 | 0x52 => some (((phaseMeas s (i - 0x50)).map (·.irms)).getD 0 / 1000 : Nat)
    | 0x53 | 0x54 | 0x55 => some (((phaseMeas s (i - 0x53)).map (·.vrms)).getD 0 / 10000 : Nat)
    | _ => none

/-- The items of a list up to the first number that ends it (R533). -/
def diagItems (s : State) : List Nat → List (Nat × Int)
  | [] => []
  | i :: is => match diagItem s i with
    | some v => (i, v) :: diagItems s is
    | none => []

/-- Bytes of DIAG.SNAP_ITEMS in list order. -/
def paramBytes (s : State) (id n : Nat) : List Nat := (List.range n).map fun k => param s id / 256 ^ k % 256

def clipI32 (v : Int) : Int := clampI (-(2 ^ 31)) (2 ^ 31 - 1) v

def diagRecord (s : State) (code subject suppressed : Nat) : DiagRec :=
  let its := diagItems s (paramBytes s 0x0F00 8)
  { code := code
    flags := b2n (bitN s.snap.flags 2) + (if its.any (fun x => clipI32 x.2 != x.2) then 4 else 0)
    opSeconds := s.clk.epoch / 100, powerCycles := s.mode.powerCycles, subject := subject, suppressed := suppressed
    items := its.map (·.1), values := its.map fun x => clipI32 x.2 }

/-- Bytes of a diagnostic record (R532). -/
def diagBytes (d : DiagRec) : List Byte :=
  withCrc (le 2 d.code ++ le 1 d.flags ++ le 1 d.items.length ++ le 4 d.opSeconds ++ le 4 d.powerCycles
    ++ le 1 d.subject ++ zeros 1 ++ le 2 d.suppressed
    ++ (d.items.map (BitVec.ofNat 8) ++ List.replicate 8 0xFF#8).take 8
    ++ padTo 32 (d.values.flatMap (leI 4)) ++ zeros 4)

/-- The bucket with the tokens due at an instant (R535): the k-th falls k × 60 ÷ DIAG.RATE s after `since`. -/
def refill (s : State) (b : Bucket) : Bucket :=
  match b.since with
  | none => b
  | some t =>
    let due := (s.clk.now - t) * param s 0x0F01 / Tick.s 60
    let n := min (param s 0x0F02) (b.tokens + (due - b.given))
    if n = param s 0x0F02 then { b with tokens := n, since := none, given := 0 }
    else { b with tokens := n, given := max due b.given }

/-- One token taken from a bucket, which starts its clock when it first falls below full (R535). -/
def takeToken (s : State) (b : Bucket) : Bucket :=
  match b.since with
  | none => { b with tokens := b.tokens - 1, since := some s.clk.now, given := 0, pending := 0 }
  | some _ => { b with tokens := b.tokens - 1, pending := 0 }

def setBucket (n : Nat) (b : Bucket) (s : State) : State :=
  { s with diag := { s.diag with buckets := s.diag.buckets.set n b } }

/-- A record written durably, and DIAG_EVENT where DIAG.NOTIFY asks for it (R534, R540). -/
def diagPut (d : DiagRec) (s : State) : State × Option Nat :=
  let s := { s with diag := { s.diag with ring := pushRing 1024 s.diag.ring d } }
  if param s 0x0F04 = 1 then queueNote 0 3 0x0F08 (diagBytes d) s else (s, none)

/-- One trigger of code n of R531 (R534–R536): the class of a notification it drops is given back. -/
def diagOnce (n subject : Nat) (s : State) : State × Option Nat :=
  if inHoldup s then (s, none)
  else if !s.dom.d3 then ({ s with diag := { s.diag with unseen := s.diag.unseen ++ [(n, subject)] } }, none)
  else
    let b := refill s ((s.diag.buckets[n]?).getD {})
    if b.tokens = 0 then
      (setBucket n { b with pending := satInc 0xFFFF b.pending, supp := satInc 0xFFFF b.supp } s, none)
    else
      let d := diagRecord s ((diagCodes[n]?).getD 0) subject b.pending
      let s := setBucket n (takeToken s b) s
      if s.diag.freeze.isSome then
        if s.diag.queue.length < 32 then ({ s with diag := { s.diag with queue := s.diag.queue ++ [d] } }, none)
        else ({ s with diag := { s.diag with lost := satInc 0xFFFF s.diag.lost } }, none)
      else diagPut d s

/-- A dropped notification triggers NOTIFY_DROPPED (R531), whose own DIAG_EVENT may drop another; its bucket of at most
16 tokens ends the chain. -/
def dropTrigger : Nat → State × Option Nat → State
  | _, (s, none) => s
  | 0, (s, some _) => s
  | k + 1, (s, some c) => dropTrigger k (diagOnce 7 c s)

/-- A trigger of code n of R531. -/
def diagTrigger (n subject : Nat) (s : State) : State := dropTrigger 18 (diagOnce n subject s)

def diagWrite (d : DiagRec) (s : State) : State := dropTrigger 18 (diagPut d s)

/-- A notification with its drop, if any, recorded (R287, R531). -/
def notifySt (st cls code : Nat) (body : List Byte) (s : State) : State := dropTrigger 18 (queueNote st cls code body s)

def notify (cls code : Nat) (body : List Byte) (s : State) : State := notifySt 0 cls code body s

/-- The end of a freeze by its holder, its time-out or DIAG_CLEAR: queued records are written with DEFERRED (R536). -/
def endFreeze (s : State) : State :=
  let q := s.diag.queue
  q.foldl (fun t d => diagWrite { d with flags := d.flags ||| 2 } t)
    { s with diag := { s.diag with freeze := none, queue := [] } }

/-- The end of a freeze by a D3 reset or t_f: its queue is lost and counted (R536). -/
def loseFreeze (s : State) : State :=
  { s with diag := { s.diag with
      freeze := none, queue := [], lost := min 0xFFFF (s.diag.lost + s.diag.queue.length) } }

/-- LED_EVENT for a new durable entry, where LED.EVENT_NOTIFY asks for it (R196, R197). -/
def ledEvent (e : Event) (s : State) : State :=
  if param s 0x0303 = 1 then notify 2 0x0308 e.bytes s else s

/-- An entry enters the log durably: it takes the next INDEX, and the entry 4 096 lower goes (R188; log entry 77). -/
def storeEvent (e : Event) (s : State) : State :=
  let e := { e with index := s.led.nextEvent }
  ledEvent e { s with led := { s.led with
    events := pushRing 4096 s.led.events e, nextEvent := satInc 0xFFFFFFFF s.led.nextEvent } }

/-- An entry raised by Kiln: durable at once (R188). -/
def logNowF (code flags sender : Nat) (data : List Byte) (s : State) : State :=
  storeEvent (mkEvent s code flags sender data) s

def logNow (code : Nat) (data : List Byte) (s : State) : State := logNowF code 0 0xFF data s

/-- An entry raised in D2 or Shutter: durable with the journal write of its epoch (R174, R188). -/
def raiseF (code flags sender : Nat) (data : List Byte) (s : State) : State :=
  { s with led := { s.led with eventsWait := s.led.eventsWait ++ [mkEvent s code flags sender data] } }

def raise (code : Nat) (data : List Byte) (s : State) : State := raiseF code 0 0xFF data s

/-- A fault in a trial: its 30 s without fault start again (R504). -/
def trialFault (s : State) : State := { s with upd := { s.upd with trialSince := s.upd.trialSince.map fun _ => s.clk.now } }

/-- The modes in which the idle-current check is armed (R523). -/
def idleMode (s : State) : Bool := s.mode.mode != .factory && !inHoldup s

def idleArmed (s : State) : Bool := s.nl.armed && idleMode s

/-! Hinge (21). -/

/-- The delay that Wedge register 5 adds to each packet of a link L0–L3, or of the Hinge link as number 4 (R258). -/
def wedgeLink (s : State) (link : Nat) : Tick :=
  let w := (s.kiln.wedge[5]?).getD 0
  if link < 5 && bitN w link && !inHoldup s then Tick.us (w / 65536) else 0

/-- This unit's claim number, asserted or not (R481). -/
def unitClaim (s : State) : Nat := 2 * s.hng.count + param s 0x0D01

/-- HNG_EVENT (R495). -/
def hngEvent (event cause : Nat) (s : State) : State :=
  notify 2 0x0D08 (le 1 event ++ le 1 cause ++ zeros 2 ++ le 4 (unitClaim s)) s

/-- SYNCED changes, with its event (R495); a switch asked of a pair that is SYNCED ends with it. -/
def setSynced (v : Bool) (s : State) : State :=
  if s.hng.synced == v then s
  else hngEvent (if v then 4 else 5) 0 (setHng (fun h => { h with synced := v, asked := if v || h.asked = 3 then h.asked else 0 }) s)

end Sys2Proof.Machine
end

