-- ==== Sys2Proof/Machine/Routing.lean ====
section
/-! DEFINITION. Packets of the Lintel fabric on their way out (20): addresses, the packet bytes of R467, the routing of R468, and the
send queue of the mains carrier (19). -/

namespace Sys2Proof.Machine

def setLin (f : Lintel → Lintel) (s : State) : State := { s with lin := f s.lin }
def setMc (f : Carrier → Carrier) (s : State) : State := { s with mc := f s.mc }

/-- Own fabric address, 0 while unassigned or withdrawn (R466). -/
def ownAddr (s : State) : Nat := if s.lin.withdrawn then 0 else param s 0x0C00

/-- SHORT of the own hello (R464). -/
def ownShort (s : State) : Nat := if ownAddr s = 0 then 0xFFFE else ownAddr s

def linkOn (s : State) (l : Nat) : Bool := decide (l < 7) && bitN (param s 0x0C01) l

/-- The fabric runs while D3 serves, and not in HOLDUP (R44, R476). -/
def fabricRuns (s : State) : Bool := serving s && !inHoldup s

/-- Shedding step 4 pauses bulk TYPE 4 and 5 (R249, R477). -/
def bulkPaused (s : State) : Bool := decide (4 ≤ shedLevel s)

/-- LIN_EVENT (R479). -/
def linEvent (event link peer : Nat) (s : State) : State :=
  notify 2 0x0C08 (le 1 event ++ le 1 link ++ le 2 peer ++ le 2 (tokensHeld s) ++ zeros 2) s

/-! Packets (R467). A packet without FRAG has FRAG_COUNT 0. -/

/-- The bytes a packet's CRC covers. -/
def fabricBody (p : FabricPacket) : List Byte :=
  le 1 (16 + (if p.fragCount = 0 then 0 else 4) + 2 * b2n p.bcast + b2n p.down) ++ le 1 p.ttl ++ le 2 p.dst ++ le 2 p.src
    ++ le 1 p.type ++ le 1 p.prio ++ le 2 p.payload.length ++ le 2 p.msgId ++ le 1 p.fragNo ++ le 1 p.fragCount ++ zeros 2
    ++ p.payload

def fabricBytes (p : FabricPacket) : List Byte := withCrc (fabricBody p)

/-- A packet read from its bytes: VER 1, LEN within the bytes, CRC right. -/
def parsePacket (b : List Byte) : Option FabricPacket :=
  let f := fieldAt b 0 1
  let n := fieldAt b 8 2
  let frag := bitN f 2
  if f / 16 = 1 ∧ n ≤ 1004 ∧ 20 + n ≤ b.length ∧ fieldAt b (16 + n) 4 = crc32c (b.take (16 + n)) then
    some { ttl := fieldAt b 1 1, bcast := bitN f 1, down := bitN f 0, dst := fieldAt b 2 2, src := fieldAt b 4 2
           type := fieldAt b 6 1, prio := fieldAt b 7 1, msgId := if frag then fieldAt b 10 2 else 0
           fragNo := if frag then fieldAt b 12 1 else 0, fragCount := if frag then fieldAt b 13 1 else 0
           payload := (b.drop 16).take n }
  else none

/-! The mains-carrier queue (R452). -/

/-- A frame enters the queue of the modem; NSEG covers its payload in 32-byte segments (R451). -/
def mcQueue (type dst seq prio : Nat) (payload : List Byte) (s : State) : State :=
  setMc (fun m => { m with queue := m.queue ++
    [⟨type, dst, seq, prio, payload, 0, List.range (divCeil payload.length 32), 0, false⟩] }) s

/-- A frame that carries no fabric packet takes the modem's own SEQ. -/
def mcOwnFrame (type dst prio : Nat) (payload : List Byte) (s : State) : State :=
  let q := s.mc.nextSeq
  mcQueue type dst q prio payload (setMc (fun m => { m with nextSeq := (q + 1) % 65536 }) s)

/-! Neighbours and routing (R461, R465, R466, R468). -/

def Neighbour.is (n : Neighbour) (link id : Nat) : Bool := n.link == link && n.hello.moduleId == id

def neighbour (s : State) (link id : Nat) : Option Neighbour := s.lin.neighbours.find? (·.is link id)

def setNeighbour (link id : Nat) (f : Neighbour → Neighbour) (s : State) : State :=
  setLin (fun l => { l with neighbours := l.neighbours.map fun n => if n.is link id then f n else n }) s

def parentN (s : State) : Option Neighbour := s.lin.parent.bind fun p => neighbour s p.1 p.2

/-- The retransmission time of a link (R461). -/
def retxTime (link : Nat) : Tick := if link < 4 then Tick.us 200 else Tick.ms 2

/-- A packet leaves for a neighbour with the next sequence of that direction, and is kept until it is acknowledged (R461). -/
def emit (n : Neighbour) (p : FabricPacket) (s : State) : State :=
  let id := n.hello.moduleId
  let q := n.txSeq
  let leaves := s.clk.now + wedgeLink s n.link
  let s := setLin (fun l => { l with sent := pushRing 64 l.sent ⟨leaves, n.link, id, q, p⟩ }) s
  let s := setNeighbour n.link id (fun x => { x with
    txSeq := (q + 1) % 65536, unacked := x.unacked ++ [(q, p)]
    retxAt := if x.unacked.isEmpty then leaves + retxTime n.link else x.retxAt }) s
  if n.link = 6 then mcQueue 1 n.hello.short q p.prio (fabricBytes p) s else s

/-- A virtual channel of a link has a credit: of the 8 packets it lets travel, UP or DOWN, fewer are unacknowledged (R469; log
entry 84). -/
def hasCredit (n : Neighbour) (down : Bool) : Bool := decide (countWhere (fun x => x.2.down == down) n.unacked < 8)

/-- The packet that leaves next: of those with a credit, PRIO 0 before 1 before 2, the oldest first (R469). -/
def nextHeld (n : Neighbour) : Option FabricPacket :=
  [0, 1, 2].findSome? fun k => n.held.find? fun p => min 2 p.prio == k && hasCredit n p.down

/-- Held packets leave while their channels have credits: up to `k` of them. -/
def pumpLink : Nat → Nat → Nat → State → State
  | 0, _, _, s => s
  | k + 1, link, id, s =>
    match neighbour s link id with
    | none => s
    | some n => match nextHeld n with
      | none => s
      | some p => pumpLink k link id (emit n p (setNeighbour link id (fun x => { x with held := x.held.erase p }) s))

/-- A packet for a neighbour takes its place in the virtual channel of its direction (R469). -/
def transmit (n : Neighbour) (p : FabricPacket) (s : State) : State :=
  pumpLink 1 n.link n.hello.moduleId
    (setNeighbour n.link n.hello.moduleId (fun x => { x with held := x.held ++ [p] }) s)

/-- Acknowledged packets give their credits back, and held ones leave. -/
def acknowledge (link id : Nat) (keep : Nat × FabricPacket → Bool) (s : State) : State :=
  pumpLink 16 link id (setNeighbour link id (fun x => { x with
    unacked := x.unacked.filter keep, retxAt := s.clk.now + retxTime link }) s)

/-- The child whose subtree holds an address; the newest ROUTE stands first. -/
def childOf (s : State) (dst : Nat) : Option Neighbour :=
  s.lin.neighbours.find? fun n => n.child && n.routes.any fun r => decide (r.1 ≤ dst) && decide (dst ≤ r.2)

def toParent (p : FabricPacket) (s : State) : State :=
  match parentN s with
  | some n => transmit n p s
  | none => setLin (fun l => { l with noRoute := satInc 0xFFFFFFFF l.noRoute }) s

/-- One node's routing of a packet not addressed to it (R468), from a neighbour or from its own endpoint. -/
def routePacket (came : Option (Nat × Nat)) (p : FabricPacket) (s : State) : State :=
  if p.ttl = 0 then setLin (fun l => { l with ttlDiscard := satInc 0xFFFFFFFF l.ttlDiscard }) s
  else
    let p := { p with ttl := p.ttl - 1 }
    if p.bcast then
      if !p.down && s.lin.parent.isSome then toParent p s
      else
        let kids := s.lin.neighbours.filter fun n => n.child && came != some (n.link, n.hello.moduleId)
        kids.foldl (fun t n => transmit n { p with down := true } t) s
    else match childOf s p.dst with
      | some n => transmit n { p with down := true } s
      | none =>
        if p.down then setLin (fun l => { l with routeDiscard := satInc 0xFFFFFFFF l.routeDiscard }) s
        else toParent p s

/-- The parts of a message in fragments of 1 004 bytes (R467). -/
def fragmentsOf : Nat → List Byte → List (List Byte)
  | 0, _ => []
  | k + 1, b => if b.length ≤ 1004 then [b] else b.take 1004 :: fragmentsOf k (b.drop 1004)

/-- A message of the own endpoint: TTL 128; nothing leaves a node without an address (R466, R467). -/
def fabricSend (type prio dst : Nat) (payload : List Byte) (s : State) : State :=
  if ownAddr s = 0 || !fabricRuns s then s
  else
    let p : FabricPacket := ⟨128, false, false, dst, ownAddr s, type, prio, 0, 0, 0, payload⟩
    if payload.length ≤ 1004 then routePacket none p s
    else
      let parts := fragmentsOf 5 payload
      let m := s.lin.nextMsg
      let s := setLin (fun l => { l with nextMsg := (m + 1) % 65536 }) s
      parts.zipIdx.foldl (fun t x => routePacket none
        { p with msgId := m, fragNo := x.2, fragCount := parts.length, payload := x.1 } t) s

/-! Token messages (R473). -/

def tokenBytes (op count xfer table lease : Nat) (tokens : List Nat) : List Byte :=
  le 1 op ++ le 1 count ++ zeros 2 ++ le 4 xfer ++ le 4 table ++ le 4 lease ++ tokens.flatMap (le 2)

def sendToken (op dst count xfer lease : Nat) (tokens : List Nat) (s : State) : State :=
  fabricSend 2 0 dst (tokenBytes op count xfer (tableId s) lease tokens) s

end Sys2Proof.Machine
end

