-- ==== Sys2Proof/Machine/Brixo.lean ====
section
/-! DEFINITION. Brixo requests and replies (11): the checks of R283, stored replies, and the path each reply takes. -/

namespace Sys2Proof.Machine

/-! Brixo requests and replies (R277–R283). -/

/-- Every opcode of every chapter. -/
def allOps : List OpRow := opsSys ++ opsMet ++ opsLed ++ opsBil ++ opsShu ++ opsSag
  ++ opsPq ++ opsKiln ++ opsVeh ++ opsLsw ++ opsCon ++ opsDisp ++ opsMc ++ opsLin ++ opsHng ++ opsUpd ++ opsDiag ++ opsAux

def opRow (code : Nat) : Option OpRow := allOps.find? (·.code == code)

/-- The stamped sender is admitted (R268). -/
def admits (s : State) (a : Admit) (snd : Sender) : Bool :=
  match a with
  | .all | .chapter => true
  | .noLetterbox => snd != .letterbox
  | .hostFactory => snd == .internal || snd == .hostSpi || (snd == .spyhole && inFactory s)
  | .host => snd == .internal || snd == .hostSpi
  | .hostOnlyFactory => snd == .hostSpi || (snd == .spyhole && inFactory s)
  | .hostOnly => snd == .hostSpi
  | .hostSpy => snd == .internal || snd == .hostSpi || snd == .spyhole
  | .network => snd == .internal || snd == .hostSpi || snd == .ethE0 || snd == .ethE1 || snd == .lintel
  | .hostEth => snd == .internal || snd == .hostSpi || snd == .ethE0 || snd == .ethE1
  | .hinge => snd == .internal || snd == .hostSpi || snd == .hingePeer
  | .hostOrSpy => snd == .hostSpi || snd == .spyhole
  | .spyOnly => snd == .spyhole
  | .notification => false

/-- In life-cycle BLANK only SYS_MODE_GET, SAG_STATUS and SAG_LIFECYCLE_SET are answered, from HOST_SPI and Spyhole
(R34); everything else is WRONG_MODE. -/
def blankRefuses (s : State) (code : Nat) (snd : Sender) : Bool :=
  s.sag.lifecycle == .blank &&
    !((code == 0x0130 || code == 0x0800 || code == 0x0809) && (snd == .hostSpi || snd == .spyhole))

/-- Steps 2 to 4 of R283 for an opcode, and the reserved-field rule of R282. -/
def precheck (s : State) (code : Nat) (r : Req) : Option Nat :=
  match opRow code with
  | none => some stBadOpcode
  | some row =>
    if row.admission == .notification || !enabled s.ident.variant row.fn then some stBadOpcode
    else if blankRefuses s code r.sender then some stWrongMode
    else if !admits s row.admission r.sender then some stSender
    else if !r.lenOk then some stBadLength
    else if !r.reservedZero then some stBadParam
    else none

/-- The stored reply of an accepted SEQ becomes `v` (R280). -/
def setStored (h : Hatch) (snd : Sender) (ch seq : Nat) (v : Stored) : Hatch :=
  { h with seqs := h.seqs.map fun q =>
      if q.sender = snd ∧ q.chan = ch then
        { q with recent := q.recent.map fun e => if e.1 = seq then (e.1, v) else e }
      else q }

/-- What R280 keeps of a sent reply on a Hatch queue: an inline one (LEN ≤ 52) whole, a bulk one only as sent. -/
def storedOf (code : Nat) (payload : List Byte) : Stored :=
  if payload.length ≤ 52 then .inline code payload else .gone

/-- A command is no longer pending. -/
def unpend (h : Hatch) (snd : Sender) (ch seq : Nat) : Hatch :=
  { h with pending := h.pending.filter fun p => !(p.sender == snd && p.chan == ch && p.seq == seq) }

/-- CON_LB_EVENT (R427): GEN of the page after the event. -/
def lbEvent (event page : Nat) (s : State) : State :=
  notify 2 0x0909 (le 1 event ++ le 1 page ++ le 2 (pageGen s page)) s

/-- A reply packet in page 13 (R423). -/
def lbReply (packet : List Byte) (s : State) : State := lbEvent 5 13 (pageWrite 13 packet s)

/-- The newest fabric requester of a channel and SEQ: replies return to it (R479). -/
def originOf (s : State) (c q : Nat) : Option Nat :=
  (s.lin.origins.reverse.find? fun o => o.1 == c && o.2.1 == q).map (·.2.2)

/-- The source of the newest datagram of a sender, channel and SEQ (R290); 0 for a path without one. -/
def peerOf (s : State) (snd : Sender) (c q : Nat) : Nat :=
  ((s.hatch.peers.reverse.find? fun p => p.1 == snd && p.2.1 == c && p.2.2.1 == q).map (·.2.2.2)).getD 0

/-- A reply packet leaves on the path of a sender that has no Hatch queue: page 13 for the Letterbox, a TYPE 1 packet at PRIO 1
for the fabric (R423, R467). -/
def leave (snd : Sender) (packet : List Byte) (c q : Nat) (s : State) : State :=
  match snd with
  | .letterbox => lbReply packet s
  | .lintel => match originOf s c q with
    | some a => fabricSend 1 1 a packet s
    | none => s
  | _ => s

/-- A reply of a whole payload: it waits for its Hatch queue (HOST_SPI), or leaves on the sender's own path at once, always
inline (R287, R277, R290, R423). -/
def sendReply (r : Req) (code : Nat) (payload : List Byte) (again : Bool) (s : State) : State :=
  let rep : Reply := ⟨r.sender, r.chan, r.seq, code, payload, again, true, peerOf s r.sender r.chan r.seq⟩
  if r.sender = .hostSpi then
    { s with hatch := { s.hatch with replies := s.hatch.replies ++ [rep] } }
  else
    let s := { s with hatch := unpend (setStored { s.hatch with sent := s.hatch.sent ++ [rep] } r.sender r.chan r.seq
        (.inline code payload)) r.sender r.chan r.seq }
    leave r.sender (inlinePacket r.chan (if again then 9 else 1) code r.seq payload) r.chan r.seq s

/-- A reply with a status and the fields after the 12-byte header, built from the published snapshot (R17). -/
def reply (r : Req) (code st : Nat) (body : List Byte) (s : State) : State :=
  sendReply r code (header s st ++ body) false s

/-- A reply that ends a request taken earlier; a D3 reset leaves none to answer (R281). -/
def replyTo (r : Option Req) (code st : Nat) (body : List Byte) (s : State) : State :=
  match r with
  | some q => if serving s then reply q code st body s else s
  | none => s

/-- The result of a request's own chapter: a status and reply fields, or no reply yet. -/
structure Answer where
  status : Option Nat
  body : List Byte
  state : State

def answer (s : State) (st : Nat) (body : List Byte := []) : Answer := ⟨some st, body, s⟩
def refuse (s : State) (st : Nat) : Answer := ⟨some st, [], s⟩
def later (s : State) : Answer := ⟨none, [], s⟩

/-- A Brixo request: not taken while no firmware serves (log entry 7), refused by the first check of R283 that fails, and
otherwise executed by its chapter. -/
def brixo (code : Nat) (r : Req) (s : State) (f : State → Answer) : Out :=
  if serving s then
    match precheck s code r with
    | some st => .next (reply r code st [] s)
    | none =>
      let a := f s
      .next (match a.status with
        | some st => reply r code st a.body a.state
        | none => a.state)
  else .next s

end Sys2Proof.Machine
end

