-- ==== Sys2Proof/Machine/Shared.lean ====
section
/-! DEFINITION. Shared operations that several chapters use: diagnostic triggers (24), requests to Shutter and
de-energisation (14), power-quality records (07), session events (13), tokens held (20), the hold-up budget (02). -/

namespace Sys2Proof.Machine

/-- KILN_EVENT (R265). -/
def kilnEvent (event cell : Nat) (s : State) : State :=
  notify 2 0x0158 (le 1 event ++ le 1 cell ++ le 1 (shedLevel s) ++ le 1 (healthyN s)) s

/-- An epoch's first instant, and now, in ticks of the epoch count (R15). -/
def epochPos (e : Nat) : Nat := e * Tick.epoch
def nowPos (s : State) : Nat := epochPos s.clk.epoch + (s.clk.now - s.clk.epochStart)

/-! Power-quality records (R158, R170). -/

/-- The main-path sample D2 is at, as an absolute number. -/
def sampleNow (s : State) : Nat := 320 * s.met.epoch + s.met.samples.length

/-- Civil seconds at an absolute sample number (R170 START_CIVIL). -/
def civilAtSample (s : State) (a : Nat) : Int := civilSec (s.bil.civil + ((a : Int) - 320 * s.clk.epoch) * 6400)

/-- Bytes of an event record (R170). -/
def PqEvent.bytes (e : PqEvent) : List Byte :=
  le 4 e.index ++ le 1 e.type ++ le 1 e.phases ++ le 2 e.flags ++ le 8 e.startEpoch ++ le 2 e.startIdx ++ le 2 e.endIdx
    ++ le 8 e.endEpoch ++ leI 8 e.startCivil ++ le 4 e.duration ++ le 4 e.extreme ++ le 4 e.deltaSs

/-- MET_PQ_EVENT (R170), in bulk form (log entry 76). -/
def pqNotify (e : PqEvent) (s : State) : State := notify 2 0x02C4 e.bytes s

/-- The main-path sample at the pads now, as an absolute number. -/
def padNow (s : State) : Nat := nowPos s / Tick.sample

/-- A record waits for the journal entry of its epoch (R163, R174): the newest state of a record stands for its index. -/
def pqWrite (e : PqEvent) (s : State) : State :=
  { s with pq := { s.pq with
      wait := (s.pq.wait.filter fun x => x.2.index != e.index) ++ [(max s.met.epoch e.endEpoch, e)] } }

/-- A new record, with its notification. -/
def pqAdd (e : PqEvent) (s : State) : State :=
  let s := pqWrite e s
  pqNotify e { s with pq := { s.pq with nextIndex := max s.pq.nextIndex (satInc 0xFFFFFFFF e.index) } }

/-- The record of an index closed, with its notification. -/
def pqReplace (e : PqEvent) (s : State) : State := pqNotify e (pqWrite e s)

/-- A record enters the ring, in its place where its index is held. -/
def pqStore (l : List PqEvent) (e : PqEvent) : List PqEvent :=
  if l.any (·.index == e.index) then l.map fun x => if x.index = e.index then e else x else pushRing 512 l e

/-- The records that become durable with an entry (R174). -/
def pqFlush (p : Nat → Bool) (s : State) : State :=
  { s with pq := { s.pq with
      events := (s.pq.wait.filter fun x => p x.1).foldl (fun l x => pqStore l x.2) s.pq.events
      wait := s.pq.wait.filter fun x => !p x.1 } }

/-- The INDEX after those of the ring. -/
def pqNext (l : List PqEvent) : Nat := ((l.getLast?).map (·.index + 1)).getD 0

/-- A record closed at an absolute sample number (R158, R159, R161). -/
def PqEvent.closeAt (e : PqEvent) (startAbs a flags : Nat) : PqEvent :=
  { e with
    flags := (if bitN e.flags 0 then e.flags - 1 else e.flags) ||| flags
    endEpoch := a / 320, endIdx := a % 320
    duration := min 0xFFFFFFFF ((a + 1 - startAbs) / 32) }

/-- A rapid voltage change ends: its record enters the ring (R160, log entry 29). ΔUss is stated only where a new steady mean
exists; otherwise it is a free value. -/
def endRvc (o : PqRvc) (a : Nat) (dss : Option Nat) (flags : Nat) (s : State) : State :=
  let (d, s) := match dss with
    | some d => (d, s)
    | none => let x := takeFree s; (Config.freeNat x.1 % 2 ^ 32, x.2)
  let ev := { o.event with index := s.pq.nextIndex, extreme := o.dmax, deltaSs := d, flags := o.event.flags + 256 * o.phase }
  pqAdd (ev.closeAt o.startAbs a flags) { s with pq := { s.pq with rvc := none } }

/-- Open events other than the interruption end at a sample with flags (R158, R161). -/
def pqEndOthers (a flags : Nat) (s : State) : State :=
  let s := match s.pq.dip with | some o => pqReplace (o.event.closeAt o.startAbs a flags) s | none => s
  let s := match s.pq.swell with | some o => pqReplace (o.event.closeAt o.startAbs a flags) s | none => s
  let s := match s.pq.rvc with | some o => endRvc o a none flags s | none => s
  { s with pq := { s.pq with dip := none, swell := none, rvc := none } }

/-- PQ_DISARM (R158): open events end at this sample with CONTACTOR_OPENED. -/
def pqDisarm (s : State) : State :=
  if s.pq.armed then
    let a := padNow s
    let s := pqEndOthers a 4 s
    let s := match s.pq.intr with | some o => pqReplace (o.event.closeAt o.startAbs a 4) s | none => s
    { s with pq := { s.pq with intr := none, armed := false, closedSince := none, since := a,
                               urms := [[], [], []], urmsAt := [], steadyMean := [none, none, none] } }
  else { s with pq := { s.pq with closedSince := none } }

/-! Wake sources (R33). -/

/-- A wake source of SYS.WATCH_WAKE_MASK's bit `n` seen in WATCH: the wake is due within 50 ms. -/
def wakeSeen (n : Nat) (s : State) : State :=
  if s.mode.mode == .watch && bitN (param s 0x0102) n then { s with nl := { s.nl with wakeDue := s.nl.wakeDue ||| 2 ^ n } }
  else s

/-- VEH_SESSION_EVENT with a status in its header (R277, R336). -/
def vehEventSt (st event endCause : Nat) (s : State) : State :=
  notifySt st 2 0x0508 (le 1 event ++ le 1 s.shu.cpState ++ le 1 endCause ++ zeros 1 ++ le 4 s.veh.iLim) s

def vehEvent (event endCause : Nat) (s : State) : State := vehEventSt 0 event endCause s

/-- SHU_EVENT (R368). -/
def shuEventSt (st event mask : Nat) (s : State) : State :=
  notifySt st 2 0x0608 (le 1 event ++ zeros 3 ++ le 4 s.shu.latches ++ le 4 mask) s

def shuEvent (event mask : Nat) (s : State) : State := shuEventSt 0 event mask s

/-! Requests to Shutter (R342) and de-energisation. -/

def isClose : ShuReq → Bool
  | .close => true
  | _ => false

/-- A PWM request other than 0, and one that starts a duty. -/
def isPwmValue : ShuReq → Bool
  | .pwm d => d != 0
  | _ => false

def isPwmStart : ShuReq → Bool
  | .pwm d => d != 0 && d != 0xFFFF
  | _ => false

/-- The notification that carries a refusal to the host (R27, R342): of the session for CLOSE, PWM and LIMIT, of Shutter for
the others; its STATUS is the refusal's (log entry 65). -/
def refusalNote (q : ShuReq) (st : Nat) (s : State) : State :=
  match q with
  | .close => vehEventSt st 4 0 s
  | .pwm _ | .limit _ _ => vehEventSt st 12 0 s
  | .reset m => shuEventSt st 2 m s
  | .rcmTest => shuEventSt st 7 0 s
  | .openOrderly _ | .openNow _ | .reclaim => s

/-- A refusal as Kiln reads it; the same one again, of the same host action, is not reported again. -/
def refuseReq (q : ShuReq) (st : Nat) (s : State) : State :=
  if s.shu.refusal == some (q, st) then s
  else refusalNote q st { s with shu := { s.shu with refusal := some (q, st) } }

/-- An accepted request ends the standing of an earlier refusal. -/
def acceptReq (s : State) : State := { s with shu := { s.shu with refusal := none } }

/-- The waiting requests of a kind are refused, not queued, because Shutter has decided on the same output (R29). -/
def refuseWaiting (p : ShuReq → Bool) (st : Nat) (s : State) : State :=
  let l := s.shu.requests.filter p
  l.foldl (fun s q => refuseReq q st s) { s with shu := { s.shu with requests := s.shu.requests.filter fun q => !p q } }

/-- Kiln places a request in the D1 request registers (R342); a closing that arrives while a fault is latched is refused (R29). -/
def askShutter (q : ShuReq) (s : State) : State :=
  if isClose q && s.shu.latches != 0 then refuseReq q stFaultLatched s
  else { s with shu := { s.shu with requests := s.shu.requests ++ [q] } }

/-- Shutter takes requests in order of arrival (R342): one of this kind is the oldest, or none waits. -/
def mayTake (p : ShuReq → Bool) (s : State) : Bool :=
  match s.shu.requests with
  | [] => true
  | q :: _ => p q

/-- Shutter takes a request, at most one per cycle (R342): it leaves the registers. -/
def takeRequest (p : ShuReq → Bool) (s : State) : State :=
  let s := match s.shu.tookAt with
    | some t => advanceTo (t + Tick.us 250) s
    | none => s
  { s with shu := { s.shu with requests := s.shu.requests.eraseP p, tookAt := some s.clk.now } }

/-- A request of Kiln executed or refused by `f`. -/
def serveRequest (p : ShuReq → Bool) (s : State) (f : State → State) : Out :=
  whenever (s.dom.d1 && mayTake p s) s fun s => f (takeRequest p s)

/-- The sides of every coil switched off by the channels of a mask, 1 A, 2 B (R338); either side de-energises the coil (R339,
R351): detection is disarmed (R158), a weld test is due 200 ms later, and the idle-current check times its 500 ms (R523). -/
def coilsOff (chan : Nat) (s : State) : State :=
  let a := !bitN chan 0
  let b := !bitN chan 1
  let was := coilOn s
  let s := if was then pqDisarm s else s
  { s with
    shu := { s.shu with
      driveA1 := s.shu.driveA1 && a, driveA2 := s.shu.driveA2 && a, driveB1 := s.shu.driveB1 && b, driveB2 := s.shu.driveB2 && b
      pullInEnd := none, kfbBy := none, weldAt := if was then some (s.clk.now + Tick.ms 200) else s.shu.weldAt }
    nl := { s.nl with openSince := if was then some s.clk.now else s.nl.openSince, armed := s.nl.armed && !was } }

/-- Both channels switch off. -/
def deenergise (s : State) : State :=
  if s.shu.driveA1 || s.shu.driveA2 || s.shu.driveB1 || s.shu.driveB2 then coilsOff 3 s else s

/-- A channel follows in its next cycle the other one that has switched off (R338). -/
def followOff (s : State) : State := if coilOn s then s else deenergise s

/-- The PWM stops and CP holds steady +12 V (R343). -/
def stopPwm (s : State) : State :=
  { s with shu := { s.shu with duty := 0, cpDrive := if s.shu.cpDrive == .stateF then .stateF else .steady } }

/-- Shutter's view of an open session (R567). -/
def shuSession (s : State) : Bool := coilOn s || s.shu.cpDrive == .pwm
def shuDcSession (s : State) : Bool := shuSession s && s.shu.limitIsDc

/-! Sessions (R327, R336). -/

/-- A closing cause of R327 for the open session; the first one stands. -/
def endSession (cause : Nat) (s : State) : State :=
  if sessionOpen s && s.veh.endCause.isNone then
    { s with veh := { s.veh with endCause := some cause, endAt := s.clk.epoch, stopping := true } }
  else s

/-- A stop has begun in an open session: event 6, once for each stop (R336). -/
def stopBegun (s : State) : State :=
  if sessionOpen s && !s.veh.stopTold then vehEvent 6 0 { s with veh := { s.veh with stopTold := true } } else s

/-- The end of the open session for a cause that R327 gives no END_CAUSE: a free value (log entry 22). -/
def endSessionOpen (s : State) : State :=
  if sessionOpen s && s.veh.endCause.isNone then
    let (i, s) := takeFree s
    endSession (Config.freeNat i % 256) s
  else s

/-- The RS-485 port stops: the driver is off, bytes are discarded, and a send under way ends as a send to a stopped port would
(R557, log entry 49). -/
def stopPort (s : State) : State :=
  let q := s.rs.send
  let s := { s with rs := {} }
  match q with
  | some x => replyTo (some x.1) 0x0160 stPortStopped [] s
  | none => s

/-! Hold-up budget (R48). -/

/-- E_h in nJ: ½ × 0.95 C (V_H² − 14²) × 0.90, C in µF and V_H in mV; 0 where negative. -/
def holdupEh (cUf vhMv : Nat) : Nat :=
  if vhMv ≤ 14000 then 0 else cUf * (vhMv * vhMv - 196000000) * 855 / 2000000

/-- E_p in nJ: ½ × 22 µF × (V_B² − 60²) × 0.85, V_B² in mV²; 0 where negative. -/
def holdupEp (vb2 : Nat) : Nat :=
  if vb2 ≤ 3600000000 then 0 else 11 * (vb2 - 3600000000) * 85 / 100000

/-- N_frames of R48 for a bulk voltage squared, mV². -/
def nFrames (s : State) (vb2 : Nat) : Nat :=
  (8 * (holdupEh s.hold.cMeas s.pwr.vhold + holdupEp vb2) / 10 - 180000000) / (1000000 * max 1 (param s 0x0103))

/-- V_B² predicted from the present supply peak, less a 12 ms decay at 3.5 W through 85 % efficiency, mV² (R48):
2 × 3.5 W × 12 ms ÷ 0.85 ÷ 22 µF. -/
def predictedVb2 (s : State) : Nat := (s.pwr.supplyPeak * 100) ^ 2 - 84000 * 10 ^ 8 / 1870

def framesFit (s : State) : Nat := nFrames s (predictedVb2 s)

end Sys2Proof.Machine
end

