-- ==== Sys2Proof/Machine/Kiln.lean ====
section
/-! DEFINITION. The Kiln engine pool (10): speed, release of tasks, misses and shedding, cell failure, semaphores and
Wedge registers. Running a task stands in KilnRun. -/

namespace Sys2Proof.Machine

def setKiln (f : Kiln → Kiln) (s : State) : State := { s with kiln := f s.kiln }

def cell (s : State) (k : Nat) : Cell := (s.kiln.cells[k]?).getD { healthy := false }

def setCellK (k : Nat) (f : Cell → Cell) (s : State) : State := setKiln (fun x => { x with cells := modAt x.cells k f }) s

/-- The spare: the highest-numbered healthy cell (R245). -/
def spareCell (s : State) : Option Nat := ((List.range 16).filter fun k => (cell s k).healthy).getLast?

/-- The spare while one is held: none with 15 cells or fewer (R252). -/
def heldSpare (s : State) : Option Nat := if healthyN s = 16 then spareCell s else none

/-- The next healthy cell in ring order after one (R251). -/
def nextHealthy (s : State) (k : Nat) : Option Nat :=
  ((List.range 15).map fun i => (k + 1 + i) % 16).find? fun c => (cell s c).healthy

/-- The slowest healthy cell and its RATE (R240). -/
def slowest (s : State) : Option (Nat × Nat) :=
  ((List.range 16).filter fun k => (cell s k).healthy).foldl (fun best k =>
    match best with
    | none => some (k, (cell s k).rate)
    | some b => if (cell s k).rate < b.2 then some (k, (cell s k).rate) else some b) none

/-- A cell masked by Wedge register 6 takes no task and steals nothing (R258). -/
def cellMasked (s : State) (k : Nat) : Bool := bitN ((s.kiln.wedge[6]?).getD 0) k && !inHoldup s

/-- The monitors of one epoch (R240): RATE per cell, core voltage, die temperature and load as measured. -/
def execSpeedMonitor (rates : List Nat) (coreMv : Nat) (tjMax : Int) (load : Nat) (s : State) : Out :=
  whenever s.dom.d3 s fun s =>
    let s := setKiln (fun x => { x with
      cells := x.cells.mapIdx fun i c => { c with rate := (rates[i]?).getD c.rate }
      coreMv := coreMv, tjMax := tjMax, load := load }) s
    match slowest s with
    | none => s
    | some (k, v) =>
      if v < 205 then
        let s := setKiln (fun x => { x with speedGood := 0 }) s
        if s.kiln.speedLow then s
        else kilnEvent 3 0xFF (diagTrigger 1 k (setKiln (fun x => { x with speedLow := true }) s))
      else setKiln (fun x => { x with speedGood := min 100 (x.speedGood + 1) }) s

/-- 100 consecutive epochs at or above 205 MOPS (R240). -/
def execSpeedRestored (s : State) : Out :=
  whenever (s.dom.d3 && s.kiln.speedLow && s.kiln.speedGood == 100) s fun s =>
    kilnEvent 4 0xFF (diagTrigger 2 ((slowest s).map (·.1) |>.getD 0xFF)
      (setKiln (fun x => { x with speedLow := false }) s))

/-- t_X, the timebase end of an ended epoch. -/
def epochEnd (s : State) (x : Nat) : Tick := s.clk.epochStart - (s.clk.epoch - (x + 1)) * Tick.epoch

/-- The classes whose tasks firmware gives home cells (R241, R245). -/
def periodicClass : TaskClass → Bool
  | .m | .l | .v | .p => true
  | .s | .c | .b => false

/-- The deadline of a task of epoch X (R241). That of a class C or B task is its chapter's own, here a free value. -/
def deadlineOf (s : State) (cls : TaskClass) (x : Nat) : Tick :=
  match cls with
  | .m | .l | .v => epochEnd s (x + 1) + Tick.us 1400
  | .p => epochEnd s x + 10 * Tick.epoch + Tick.us 1400
  | .s => epochEnd s x + 400 * Tick.epoch
  | .c | .b => Config.freeNat s.clk.free

/-- Cells that hold tasks in WATCH: at most 2 are awake (R30). -/
def awakeCells (s : State) : List Nat := ((List.range 16).filter fun k => !(cell s k).ready.isEmpty).take 2

/-- A cell may take up work: in WATCH it is awake, or fewer than 2 are (R30). -/
def mayWake (s : State) (k : Nat) : Bool :=
  s.mode.mode != .watch || (awakeCells s).contains k || decide ((awakeCells s).length < 2)

/-- The home cell on record of a class and part (R245). -/
def homeOf (s : State) (cls : TaskClass) (part : Nat) : Option Nat :=
  (s.kiln.homes.find? fun h => h.1 = cls && h.2.1 = part).map (·.2.2)

/-- The cell that a task goes to: its home, or the cell `k` that firmware picks where it has none, or in WATCH (R30, R245). -/
def releaseCell (s : State) (cls : TaskClass) (part k : Nat) : Nat :=
  if periodicClass cls && s.mode.mode != .watch then (homeOf s cls part).getD k else k

/-- A home assigned: never the spare while all 16 cells are healthy (R245, R252). -/
def homeOk (s : State) (cls : TaskClass) (part k : Nat) : Bool :=
  !periodicClass cls || (homeOf s cls part).isSome || s.mode.mode == .watch || heldSpare s != some k

def keepHome (cls : TaskClass) (part k : Nat) (s : State) : State :=
  if periodicClass cls && s.mode.mode != .watch && (homeOf s cls part).isNone then
    setKiln (fun x => { x with homes := x.homes ++ [(cls, part, k)] }) s
  else s

/-- KILN_TASK_RELEASE: a task of an ended epoch, periodic ones from t_X + 1.5 ms on (R241, R245). -/
def execKilnTaskRelease (cls : TaskClass) (epoch part k : Nat) (s : State) : Out :=
  let c := releaseCell s cls part k
  whenever (s.dom.d3 && (!periodicClass cls || decide (epoch < s.clk.epoch)) && (cell s c).healthy && !cellMasked s c
      && mayWake s c && homeOk s cls part c) s fun s =>
    let s := if periodicClass cls then advanceTo (epochEnd s epoch + Tick.us 1500) s else s
    let d := deadlineOf s cls epoch
    let s := { s with clk := { s.clk with free := s.clk.free + 1 } }
    setCellK c (fun x => { x with ready := x.ready ++ [⟨cls, epoch, part, d, c, false⟩] }) (keepHome cls part c s)

/-- D2 has accepted a result of a class for an epoch (R243). -/
def accepted (s : State) (cls : TaskClass) (epoch : Nat) : Bool :=
  if cls = .m then [0, 1, 2].all fun p => s.kiln.accepted.contains (cls, epoch, p)
  else s.kiln.accepted.any fun a => a.1 = cls && a.2.1 = epoch

/-- KILN_DEADLINE_MISS: a deadline of classes M, L, V or P passes without a result, and the snapshot carries OVERLOAD (R21,
R241); those of M, L and V count for shedding (R249). -/
def execKilnDeadlineMiss (cls : TaskClass) (epoch : Nat) (s : State) : Out :=
  whenever (periodicClass cls && decide (epoch < s.clk.epoch) && !accepted s cls epoch) s fun s =>
    let s := advanceTo (deadlineOf s cls epoch) s
    let s := if cls == .p then s else setKiln (fun x => { x with missNow := true, lastMiss := epoch }) s
    { s with led := { s.led with overload := true } }

/-- The shedding step changes by one (R249); SYS.KILN_SHED_MAX is its limit. -/
def execShedChanged (s : State) : Out :=
  let k := s.kiln
  if s.dom.d3 && decide (3 ≤ k.missRun) && decide (k.step < param s 0x0109) then
    let s := setKiln (fun x => { x with step := x.step + 1, missRun := 0 }) s
    .next (kilnEvent 2 0xFF (diagTrigger 3 (shedLevel s) s))
  else if s.dom.d3 && decide (100 ≤ k.cleanRun) && decide (0 < k.step) then
    let s := setKiln (fun x => { x with step := x.step - 1, cleanRun := 0 }) s
    .next (kilnEvent 2 0xFF (diagTrigger 3 (shedLevel s) s))
  else .next s

/-- What R252 asks at 2 to 5 healthy cells: the running session is ended by the orderly stop on Kiln's request. The spec
gives that end no END_CAUSE, so it is a free value (log entry 22). -/
def degrade (s : State) : State :=
  if healthyN s ≤ 5 && sessionOpen s && s.veh.endCause.isNone then askShutter (.openOrderly 0) (stopBegun (endSessionOpen s))
  else s

/-- CELL_FAILED (R250): steps 1 to 5. -/
def failCell (k : Nat) (s : State) : State :=
  let tasks := (cell s k).ready
  let s := setCellK k (fun c => { c with healthy := false, ready := [] }) s
  let s := setKiln (fun x => { x with
    sems := x.sems.map fun q => if q.owner = some k then { q with owner := none } else q
    lastFail := s.clk.epoch }) s
  let s := match spareCell s with
    | some p => setKiln (fun x => { x with
          homes := x.homes.map fun h => if h.2.2 = k then (h.1, h.2.1, p) else h })
        (setCellK p (fun c => { c with ready := c.ready ++ tasks.map fun t => { t with home := p } }) s)
    | none => s
  degrade (kilnEvent 1 k (diagTrigger 4 k s))

/-- No handshake for 1.0 ms while the cell holds a task (R250). -/
def execCellHandshakeTimeout (k : Nat) (s : State) : Out :=
  whenever (s.dom.d3 && (cell s k).healthy && !(cell s k).ready.isEmpty && !cellMasked s k) s (failCell k)

/-- An uncorrectable local-memory error (R250). -/
def execCellMemoryError (k : Nat) (s : State) : Out :=
  whenever (s.dom.d3 && (cell s k).healthy) s (failCell k)

/-- The cross-check of R251: the next healthy cell in ring order runs the task again, and on a mismatch a third healthy one,
where there is one. The operands are the cells and the comparison: whether the two results agree, and otherwise whom the third
cell's result joins: 0 the runner, 1 the checker, 2 neither. -/
def execCrossCheck (runner checker third : Nat) (agrees : Bool) (withThird : Nat) (s : State) : Out :=
  whenever (s.dom.d3 && decide (s.kiln.xLast + param s 0x0108 ≤ s.clk.epoch) && (cell s runner).healthy
      && nextHealthy s runner == some checker
      && (agrees || healthyN s ≤ 2 || ((cell s third).healthy && third != runner && third != checker))) s fun s =>
    let phase := s.kiln.xPhase
    let s := setKiln (fun x => { x with xPhase := (x.xPhase + 1) % 3, xLast := s.clk.epoch }) s
    if agrees then s
    else if 2 < healthyN s && withThird < 2 then
      failCell (if withThird = 0 then checker else runner) s
    else diagTrigger 5 phase s

/-! Semaphores (R253–R257). -/

/-- A reader may take a semaphore: cells 0x00–0x0F any, the host 0–15, Spyhole in FACTORY any (R253). -/
def semPermitted (s : State) (n reader : Nat) : Bool :=
  decide (n < 32) && (decide (reader < 16) || (reader == 0x10 && decide (n < 16)) || (reader == 0x11 && inFactory s))

def semOwner (s : State) (n : Nat) : Option Nat := ((s.kiln.sems[n]?).getD {}).owner

/-- A read acquires a free semaphore, or reports HELD, OWNED or NOT_PERMITTED (R253, R254). -/
def execSemaphoreRead (n reader : Nat) (s : State) : Out :=
  whenever s.dom.d3 s fun s =>
    let word (result : Nat) (owner : Option Nat) : Nat := result * 2 ^ 30 + owner.getD 0xFF * 65536
    if !semPermitted s n reader then setKiln (fun x => { x with semRead := word 0 (semOwner s n) }) s
    else match semOwner s n with
      | none => setKiln (fun x => { x with
          sems := x.sems.set n ⟨some reader, s.clk.now⟩, semRead := word 1 (some reader) }) s
      | some o => setKiln (fun x => { x with semRead := word (if o = reader then 3 else 2) (some o) }) s

/-- RELEASE written by the owner frees the semaphore (R253). -/
def execSemaphoreRelease (n writer value : Nat) (s : State) : Out :=
  whenever (s.dom.d3 && bitN value 0 && semOwner s n == some writer) s fun s =>
    setKiln (fun x => { x with sems := x.sems.set n {} }) s

/-- The host has held a semaphore longer than SYS.SEM_HOST_HOLD_MAX (R255). -/
def execSemHostTimeout (n : Nat) (s : State) : Out :=
  whenever (s.dom.d3 && semOwner s n == some 0x10) s fun s =>
    let s := advanceTo (((s.kiln.sems[n]?).getD {}).since + Tick.ms (param s 0x0107)) s
    diagTrigger 6 n (setKiln (fun x => { x with sems := x.sems.set n {} }) s)

/-- SEM_STATE (R253). -/
def semState (s : State) : Nat := packBits (s.kiln.sems.map (·.owner.isSome))

/-! Wedge registers (R258–R260). -/

/-- The writable bits of each register (R258). -/
def wedgeMask (n : Nat) : Nat :=
  ([0xFFFFFFFF, 0x1FFFF, 0xFFFF00FF, 0xFFFF000F, 0xFFFF000F, 0xFFFF001F, 0xFFFF][n]?).getD 0

/-- A register is writable in a mode by a writer (R259). -/
def wedgeWritable (m : Mode) (w : Sender) (n : Nat) : Bool :=
  match m with
  | .factory => w == .hostSpi || w == .spyhole
  | .commission | .service | .watch | .recovery => w == .hostSpi && (n == 2 || n == 3)
  | .holdup | .none => false

/-- Register 6 may not mask the spare, or more than 4 cells (R258). -/
def wedgeOffOk (s : State) (v : Nat) : Bool :=
  decide (countWhere id (bitsOf 16 v) ≤ 4) && (match heldSpare s with | some p => !bitN v p | none => true)

/-- An accepted write takes effect from the next epoch (R260). -/
def execWedgeRegisterWrite (n value : Nat) (writer : Sender) (s : State) : Out :=
  whenever (wedgeWritable s.mode.mode writer n && (n != 6 || wedgeOffOk s (value &&& 0xFFFF))) s fun s =>
    setKiln (fun x => { x with wedgeNext := x.wedgeNext ++ [(n, value &&& wedgeMask n)] }) s

/-- Accepted writes come into force at an epoch boundary; registers not writable in the mode that begins are zeroed
(R260). -/
def wedgeBoundary (s : State) : State :=
  if inHoldup s then s
  else
    let ws := s.kiln.wedgeNext.foldl (fun (l : List Nat) p => l.set p.1 p.2) s.kiln.wedge
    let ok := fun n => wedgeWritable s.mode.mode .hostSpi n || s.mode.mode == .none
    setKiln (fun x => { x with wedge := ws.mapIdx fun n v => if ok n then v else 0, wedgeNext := [] }) s

/-- The writes a D3 reset leaves for the next boundary: every register zero (R260). -/
def wedgeZeroNext (s : State) : State :=
  setKiln (fun x => { x with wedgeNext := (List.range 7).map fun n => (n, 0) }) s

/-- WEDGE_SET of the registers (R258). -/
def wedgeSet (regs : List Nat) : Nat := packBits (regs.map (· != 0))

/-! Opcodes (R263–R266). -/

/-- CAPACITY (R264). -/
def capacity (s : State) : Nat :=
  min 65535 (((slowest s).map (·.2)).getD 0 * (healthyN s - 1))

/-- The fields of KILN_STATUS, at the end of EPOCH (R17, R264). -/
def kilnBody (s : State) : List Byte :=
  le 2 (packBits (s.kiln.cells.map (·.healthy)))
    ++ le 1 ((heldSpare s).getD 0xFF) ++ le 1 (shedLevel s)
    ++ s.kiln.cells.flatMap (fun c => le 2 (rateOf c)) ++ le 2 s.kiln.coreMv ++ leI 2 s.kiln.tjMax ++ le 2 s.kiln.load
    ++ le 2 (capacity s) ++ le 8 s.kiln.lastMiss ++ le 8 s.kiln.lastFail ++ le 4 (semState s) ++ zeros 4

def execKilnStatus (r : Req) (s : State) : Out :=
  brixo 0x0150 r s fun s => answer s stOk (kilnBody (asOf s))

def execWedgeStatus (r : Req) (s : State) : Out :=
  brixo 0x0F40 r s fun s => answer s stOk (
    s.snap.wedgeRegs.flatMap (le 4)
    ++ le 4 (packBits ((List.range 7).map (wedgeWritable s.mode.mode .hostSpi))) ++ le 4 s.snap.wedgeSet)

end Sys2Proof.Machine
end

