-- ==== Sys2Proof/Machine/Trip.lean ====
section
/-! DEFINITION. Shutter's latches and stops as other chapters cause them (14): the KM byte, currents on the settling
path, SHU_EVENT, the immediate trip, and the orderly stop from its first step to its end. -/

namespace Sys2Proof.Machine

def setShu (f : Shutter → Shutter) (s : State) : State := { s with shu := f s.shu }

/-- The KM byte of STATE (R173). -/
def kmByte (s : State) : Nat :=
  packBits [s.shu.driveA1, s.shu.driveB1, s.shu.driveA2, s.shu.driveB2, s.shu.kfb1, s.shu.kfb2]

/-- NL_EVENT (R530). -/
def nlEvent (event subject value : Nat) (s : State) : State :=
  notify 2 0x1008 (le 1 event ++ le 1 subject ++ le 1 (kmByte s) ++ zeros 1 ++ le 4 value) s

/-- The current of channel x (IA, IB, IC, IN) at FS_L, mA (R76). -/
def iScale (s : State) (x : Nat) : Nat := param s (0x0241 + x)

/-- Samples of the RMS window of R348. -/
def rmsN (s : State) : Nat := if param s 0x0266 = 60 then 33 else 40

/-- Σ of squares over the RMS window of a current channel, code². -/
def settleSq (s : State) (x : Nat) : Nat :=
  sumN ((((s.shu.settleWin[x]?).getD []).take (rmsN s)).map fun c => c.natAbs * c.natAbs)

/-- The RMS of a current channel reaches a number of mA (R348). -/
def rmsReaches (s : State) (x mA : Nat) : Bool :=
  decide (mA * mA * rmsN s * 2 ^ 44 ≤ settleSq s x * (iScale s x * iScale s x))

def rmsMa (s : State) (x : Nat) : Nat := isqrt (settleSq s x * (iScale s x * iScale s x) / (rmsN s * 2 ^ 44))

/-- The enabled phases. -/
def phasesOn (s : State) : List Nat := maskIdx 3 (param s 0x0201)

/-- The mean of |MOD0| over 8 samples, mA (R348). -/
def mod0Ma (s : State) : Nat :=
  sumN ((((s.shu.settleWin[4]?).getD []).take 8).map fun c => c.natAbs) * param s 0x0247 / (8 * 2 ^ 22)

/-- Every enabled phase current, and MOD0 in a DC session, is below 1 A (R343; log entry 16). -/
def below1A (s : State) : Bool :=
  (phasesOn s).all (fun x => !rmsReaches s x 1000) && (!s.shu.limitIsDc || decide (mod0Ma s < 1000))

/-- The largest of those currents, mA. -/
def largestMa (s : State) : Nat :=
  maxOf ((phasesOn s).map (rmsMa s) ++ (if s.shu.limitIsDc then [mod0Ma s] else []))

/-! Permitted current (R348). -/

/-- The value in force of I_perm, AC or DC: the last accepted limit, the previous one for 5 s after a reduction, the value at
the start of a stop that runs (R343), never below 6 000 mA. -/
def iPerm (s : State) (dc : Bool) : Nat :=
  match s.shu.stop with
  | some p => if dc then p.perm.2 else p.perm.1
  | none =>
    let v := if dc then s.shu.limitDc.getD (param s 0x0602) else s.shu.limitAc.getD (param s 0x0601)
    max 6000 (match s.shu.permHold with
      | some (h, t) => if s.clk.now < t && s.shu.limitIsDc == dc then max v h else v
      | none => v)

/-! The latches of R354. -/
abbrev lEstop : Nat := 1
abbrev lDiscrep : Nat := 2
abbrev lRcmAc : Nat := 4
abbrev lRcmDc : Nat := 8
abbrev lRcmSensor : Nat := 16
abbrev lOvercurrent : Nat := 32
abbrev lCpError : Nat := 64
abbrev lDiode : Nat := 128
abbrev lPeLoss : Nat := 256
abbrev lWeld : Nat := 512
abbrev lKmFeedback : Nat := 1024
abbrev lMetering : Nat := 2048
abbrev lChannel : Nat := 4096
abbrev lStuck : Nat := 8192
abbrev lConfig : Nat := 16384
abbrev lCoilSupply : Nat := 32768

/-- The bits of `m` that are not in `k`. -/
def maskWithout (m k : Nat) : Nat := m - (m &&& k)

/-- Latches set: closings and PWM starts on their way are refused, and nothing of them waits for the clearing (R29).
A STANDBY with a latch is not SYNCED (R484, R491). -/
def setLatch (mask : Nat) (s : State) : State :=
  refuseWaiting (fun q => isClose q || isPwmStart q) stFaultLatched
    (let s := trialFault (setShu (fun x => { x with latches := x.latches ||| mask }) s)
     if isStandby s then setSynced false s else s)

/-- ORDERLY_STOP cause (R362). -/
def StopKind.cause : StopKind → Nat
  | .kiln => 1 | .metering => 2 | .reclaim => 3

/-- The end of an orderly stop once the coils are off: RECLAIM_MISSED (R42) and ORDERLY_STOP (R343 step 4). -/
def logStop (p : OrderlyStop) (big : Nat) (s : State) : State :=
  let e := s.clk.epoch
  let s := if p.kind == .reclaim || p.missed then
      { raise 0x0103 ((s.recl.steps ++ [e, e, e]).take 4 |>.flatMap (le 8)) s with recl := { s.recl with steps := [] } }
    else s
  let s := if p.hadCoil then
      raise 0x0605 (le 1 p.kind.cause ++ zeros 3 ++ le 4 ((s.clk.now - p.start) / 204800) ++ le 4 big) s
    else s
  shuEvent 9 0 s

/-- Steps 3 and 4 of the orderly stop (R343). -/
def finishStop (s : State) : State :=
  match s.shu.stop with
  | none => s
  | some p =>
    let big := largestMa s
    logStop p big (deenergise (setShu (fun x => { x with stop := none }) s))

/-- Step 1 of the orderly stop with its own bound (R343, R42, R73); a stop that runs goes on, and one that a missed reclaim asks
for again is logged as such too. -/
def beginStop (kind : StopKind) (bound : Tick) (s : State) : State :=
  if s.shu.stop.isSome then
    if kind == .reclaim then
      { setShu (fun x => { x with stop := x.stop.map fun p => { p with missed := true } }) s with
        recl := { s.recl with steps := [s.clk.epoch] } }
    else s
  else
    let dc := shuDcSession s
    let s := setShu (fun x => { x with stop := some ⟨kind, s.clk.now, coilOn s, s.clk.now + bound, (iPerm s false, iPerm s true), false⟩ }) s
    let s := { s with recl := { s.recl with steps := if kind == .reclaim then [s.clk.epoch] else s.recl.steps } }
    let s := stopPwm (refuseWaiting (fun q => isClose q || isPwmValue q) stStopInProgress s)
    let s := if dc then { s with veh := { s.veh with pmI := 0, pmNeg := 0 } } else s
    shuEvent 8 0 s

/-- An immediate trip (R344–R350, R354): coils off, PWM stopped, latch set, SHU_TRIP, the end of a stop in progress, and
END_CAUSE 3 of the session that it stops (R327). The deciding channels switch their sides off, and the other follows (R338). A
latch that is set already trips nothing more. -/
def trip (mask chan : Nat) (value : Int) (s : State) : State :=
  let fresh := maskWithout mask s.shu.latches
  if fresh = 0 then s
  else
    let km := kmByte s
    let big := largestMa s
    let stop := s.shu.stop
    let s := if shuSession s then endSession 3 s else s
    let s := setLatch fresh (coilsOff (if chan = 0 then 3 else chan) (stopPwm (if fresh &&& lChannel != 0 then yieldRole s else s)))
    let s := setShu (fun x => { x with stop := none, lastTrip := s.clk.epoch }) s
    let s := raise 0x0601 (le 4 fresh ++ le 1 chan ++ le 1 km ++ zeros 2 ++ leI 4 value) s
    let s := shuEvent 1 fresh s
    match stop with
    | some p => logStop p big s
    | none => s

/-- An immediate trip whose record has no value: R362 states one for a current and for a residual only. -/
def tripPlain (mask chan : Nat) (s : State) : State :=
  let (i, s) := takeFree s
  trip mask chan (toI 4 (Config.freeNat i)) s

end Sys2Proof.Machine
end

