-- ==== Sys2Proof/Machine/Meter.lean ====
section
/-! DEFINITION. What the metering domain shares (03, 04): slots and phases, settling-invalid samples, metering faults and
tamper responses. -/

namespace Sys2Proof.Machine

/-- Voltage and current slot of a phase (R80). -/
def vSlot (x : Nat) : Nat := 2 * x
def iSlot (x : Nat) : Nat := 2 * x + 1

def setInp (f : Inputs → Inputs) (s : State) : State := { s with inp := f s.inp }
def setSie (f : Sieve → Sieve) (s : State) : State := { s with sie := f s.sie }
def setMet (f : Energy → Energy) (s : State) : State := { s with met := f s.met }
def setCal (f : Cal → Cal) (s : State) : State := { s with cal := f s.cal }
def setLed (f : Ledger → Ledger) (s : State) : State := { s with led := f s.led }
def setPq (f : Pq → Pq) (s : State) : State := { s with pq := f s.pq }

/-- MOD channels in use in an epoch (R66, R103): bits of MET.MOD_ENABLE on a variant that has them. -/
def modsE (s : State) (e : Nat) : Nat := if enabled s.ident.variant .td then paramE s 0x0246 e % 4 else 0

/-- MOD channels that are in use: both bits of MET.MOD_ENABLE on a variant that has them (R66). -/
def modEnabled (s : State) (n : Nat) : Bool := enabled s.ident.variant .td && bitN (param s 0x0246) n

/-- The 2-bit field of a current channel in MET.SENSOR_TYPE or MET.GAIN_MODE (R76). -/
def chan2 (v c : Nat) : Nat := v / 4 ^ c % 4

/-- MET.F_NOM of an epoch is 60 (R112, R150). -/
def nwOf (f : Nat) : Nat := if f = 60 then 12 else 10

/-- An instant lies within a span of a switch. -/
def near (span p t : Nat) : Bool := decide (p ≤ t + span) && decide (t ≤ p + span)

/-- Half-spans of R88: 1 344.6875 µs on the main path and 134.6875 µs on the settling path. -/
def mainSpan : Nat := 275392
def settleSpan : Nat := 27584

/-- The module switches the inputs of a mask of slots at an instant: the samples around it are settling-invalid (R88). -/
def settleSwitch (mask t : Nat) (s : State) : State :=
  setInp (fun x => { x with switches := x.switches ++ [(mask, t)] }) s

/-- Main-path samples, from a first one on, that a switch makes settling-invalid (R88). -/
def settleCount (first t : Nat) : Nat :=
  (t + mainSpan) / Tick.sample + 1 - max first (divCeil (t - mainSpan) Tick.sample)

/-- Slots of the switches whose span an instant lies in. -/
def switchMask (span p : Nat) (s : State) : Nat :=
  s.inp.switches.foldl (fun m w => if near span p w.2 then m ||| w.1 else m) 0

/-- Every current channel, and MOD0 where it is in use, is below the starting current over some samples (R105). -/
def belowStarting (s : State) (l : List Sample) : Bool :=
  let i := param s 0x0203
  let cur (m : Sample) (x : Nat) : Nat := ((m.codes[iSlot x]?).getD 0).natAbs * param s (0x0241 + x)
  l.all (fun m => (List.range 4).all fun x => decide ((cur m x) ^ 2 * 10 ^ 6 < 2 * i * i * 2 ^ 44)) &&
    (!modEnabled s 0 || l.all fun m =>
      decide (((m.codes[8]?).getD 0).natAbs * param s 0x0247 < param s 0x0204 * 2 ^ 22))

/-- The slots an active fault marks invalid (R73 item 1; cause 9 applies from item 2 on, R175). -/
def faultMask (f : MetFault) : Nat := if f.cause = 9 then 0 else if f.slot = 255 then 0x3FF else 2 ^ f.slot

/-- VALID_MASK of an epoch's record (R128). -/
def SumsRec.validMask (r : SumsRec) : Nat := 0x3FF - (r.pre.invalid ||| r.post.invalid)

def invalidMask (s : State) : Nat := s.inp.faults.foldl (fun m f => m ||| faultMask f) 0

/-- Sieve is halted for the samples of an epoch (R92). -/
def haltedAt (s : State) (e : Nat) : Bool :=
  decide (s.sie.haltFirst ≤ e) &&
    (if s.sie.halted then (match s.sie.resumeAt with | some r => decide (e < r) | none => true)
     else decide (e < s.sie.haltEnd))

/-- A phase's import increment in its last valid epoch, q (R74). -/
def lastImport (s : State) (x : Nat) : Nat :=
  match (s.met.ring.filter fun r => bitN r.validMask (vSlot x) && bitN r.validMask (iSlot x)).getLast? with
  | none => 0
  | some r => match s.met.incs.find? (·.epoch == r.epoch) with
    | some i => (i.inc[x]?).getD 0
    | none => 0

def faultIs (cause slot : Nat) (f : MetFault) : Bool := f.cause == cause && f.slot == slot

/-- MET_INPUT_FAULT (R79). -/
def inputFault (cause slot start : Nat) (s : State) : State :=
  notify 0 0x0242 (le 1 cause ++ le 1 slot ++ zeros 2 ++ le 8 start) s

/-- What Shutter does on METERING_FAULT (R73 items 2 and 3): a MOD fault acts only in a DC session. -/
def meteringStop (cause : Nat) (s : State) : State :=
  if cause = 4 && !shuDcSession s then s
  else
    let s := if shuSession s then
        setInp (fun x => { x with stopBy := x.stopBy.or (some (s.clk.now + Tick.s 1)) })
          (beginStop .metering (Tick.s 1) (endSession 3 s))
      else s
    setLatch lMetering s

/-- A metering or MOD fault is detected on a slot, 255 for all (R73). -/
def metFault (cause slot : Nat) (s : State) : State :=
  if s.inp.faults.any (faultIs cause slot) then
    setInp (fun x => { x with
      faults := x.faults.map fun f => if faultIs cause slot f then { f with absentSince := none } else f })
      (if cause = 8 then setLatch lMetering s else s)
  else
    let f : MetFault := ⟨cause, slot, s.met.epoch, none, s.met.epoch, [0, 0, 0], (List.range 3).map (lastImport s)⟩
    let s := setInp (fun x => { x with faults := x.faults ++ [f] }) s
    let s := trialFault (meteringStop cause s)
    let s := raise (if cause = 4 then 0x0206 else 0x0205) (le 1 cause ++ le 1 slot ++ zeros 2 ++ le 8 f.firstEpoch) s
    inputFault cause slot f.firstEpoch s

/-- The condition of a fault is absent again; the fault itself ends under R74. -/
def faultAbsent (cause slot : Nat) (s : State) : State :=
  setInp (fun x => { x with
    faults := x.faults.map fun f =>
      if faultIs cause slot f then { f with absentSince := f.absentSince.or (some s.clk.now) } else f }) s

/-- UNMEASURED_BOUND in mWh (R74): invalid samples × the phase's import per sample of the last valid epoch. -/
def unmeasured (f : MetFault) : Nat :=
  divCeil (sumN (List.zipWith (fun n q => n * q) f.invalid f.importQ)) (320 * 1000 * 2 ^ 65)

/-- The closing entry of a fault (R74), with the count of its settling-invalid samples (R88). -/
def closeFault (f : MetFault) (settled : Nat) (s : State) : State :=
  raiseF (if f.cause = 4 then 0x0206 else 0x0205) 1 0xFF
    (le 1 f.cause ++ le 1 f.slot ++ zeros 2 ++ le 8 f.lastEpoch ++ f.invalid.flatMap (le 4) ++ le 4 (unmeasured f)
      ++ le 4 settled) s

/-! Tamper sources (R396, R398). -/

def tamperResponse (s : State) (src : Nat) : Nat := param s 0x0800 / 4 ^ src % 4

/-- SAG_EVENT (R409). -/
def sagEvent (event subject : Nat) (s : State) : State :=
  notify 2 0x0810 (le 1 event ++ le 1 subject ++ zeros 2) s

/-- A source becomes active: the response of SAG.TAMPER_RESPONSE (R396), with the disconnect of R398; the spec gives that
end of a session no END_CAUSE (log entry 22). -/
def tamperBegin (src : Nat) (s : State) : State :=
  let g := s.sag
  let s := { s with sag := { g with
    tamperActive := setBitN g.tamperActive src true, tamperSeen := setBitN g.tamperSeen src true
    since := g.since.set src s.clk.now } }
  let s := sagEvent 1 src s
  if tamperResponse s src = 2 then
    let s := { s with sag := { s.sag with blocking := setBitN s.sag.blocking src true } }
    if sessionOpen s then askShutter (.openOrderly 0) (endSessionOpen s) else s
  else s

def tamperEnd (src : Nat) (s : State) : State :=
  sagEvent 2 src { s with sag := { s.sag with tamperActive := setBitN s.sag.tamperActive src false } }

/-- TAMPER for the sources that have no event of their own (R396, R406). -/
def tamperOn (src : Nat) (s : State) : State :=
  tamperBegin src (logNow 0x0805 (le 1 src ++ le 1 s.sag.tamp ++ le 1 (tamperResponse s src) ++ zeros 1) s)

def tamperOff (src : Nat) (s : State) : State :=
  let t := (s.sag.since[src]?).getD 0
  tamperEnd src (logNowF 0x0805 1 0xFF
    (le 1 src ++ le 1 s.sag.tamp ++ le 1 (tamperResponse s src) ++ zeros 1 ++ le 4 ((s.clk.now - t) / Tick.s 1)) s)

/-- The neutral-to-PE voltage against SAG.EARTH_LOAD_V (R396 source 4): the condition's start is timed, and it ends when the
voltage is no longer above the threshold. -/
def earthWatch (s : State) : State :=
  if 10 * param s 0x0803 < s.inp.peNpe then
    setInp (fun i => { i with npeSince := i.npeSince.or (some s.clk.now) }) s
  else
    let s := setInp (fun i => { i with npeSince := none }) s
    if bitN s.sag.tamperActive 4 then tamperOff 4 s else s

end Sys2Proof.Machine
end

