-- ==== Sys2Proof/Machine/Sieve.lean ====
section
/-! DEFINITION. The Sieve filter chain (04, 06): one 400 kSPS step of the fourteen paths, coefficient sets, halting, and the
Sieve opcodes. -/

namespace Sys2Proof.Machine

/-! Paths and slots (R80, R129). -/

def pathSlot (p : Nat) : Nat := ([0, 1, 1, 2, 3, 3, 4, 5, 5, 6, 7, 7, 8, 9][p]?).getD 0
def lowPath (k : Nat) : Nat := ([0, 1, 3, 4, 6, 7, 9, 10, 12, 13][k]?).getD 0
def isHighPath (p : Nat) : Bool := p == 2 || p == 5 || p == 8 || p == 11
def isModPath (p : Nat) : Bool := decide (12 ≤ p)
/-- A slot is a current channel (IA, IB, IC, IN), of number k / 2. -/
def isCurSlot (k : Nat) : Bool := k % 2 == 1 && decide (k < 8)

/-! Coefficient sets (R89, R90). -/

/-- The ROM set 0x0001 with the default shifts of R82 (log entry 9). -/
def romSet : SieveSet :=
  { id := 1, version := Config.romSetVersion, n1 := 63, n1m := 125, n2 := 35, ns := 51, n3 := 401
    shift1 := 0, shift2 := 19, shift3 := 24, shiftS := 20
    h1 := Config.romFilter 0, h1m := Config.romFilter 1, h2 := Config.romFilter 2, h3 := Config.romFilter 3
    hs := Config.romFilter 4, crc := Config.romSetCrc }

/-- The set in force. -/
def coef (s : State) : SieveSet := s.sie.inForce.getD romSet

/-- The full filter of a stored half (R89). -/
def mirror (h : List Int) : List Int := h ++ h.dropLast.reverse

/-- A filter sum; samples that do not exist yet count 0. -/
def firSum (h xs : List Int) : Int := sumI (List.zipWith (· * ·) h xs)

/-- Every fourth tap from `r` (R89 polyphase). -/
def polyphase (h : List Int) (r : Nat) : List Int :=
  (((h.drop r).mapIdx fun i x => (i, x)).filter fun a => a.1 % 4 == 0).map (·.2)

/-- Shift with rounding and saturation of a stage (R82), and whether it saturated. -/
def stageOut (w sh : Nat) (acc : Int) : Int × Bool :=
  let v := shrRound acc sh
  (satS w v, satS w v != v)

/-- |a − c| is within 0.5 % of c; all in units of 2^−k. -/
def within05 (a c : Int) : Bool := decide ((a - c).natAbs * 200 ≤ c.natAbs)

def sumAbs (l : List Int) : Nat := sumN (l.map Int.natAbs)

/-- The first failing check of R90: CHECK_STAGE and CHECK, none when the set passes. Items 1, 3 and 4 in the order of the
stages, width before gain before headroom in each. -/
def setCheck (c : SieveSet) : Option (Nat × Nat) :=
  let wide (w : Nat) (l : List Int) : Bool := l.all fun x => satS w x == x
  let h1 := mirror c.h1; let h1m := mirror c.h1m; let h2 := mirror c.h2; let h3 := mirror c.h3; let hs := mirror c.hs
  let ph := (List.range 4).map (polyphase h3)
  let g2 := sumAbs h2
  let p3 := maxOf (ph.map sumAbs)
  if c.n1 != 63 || c.h1.length != 63 || !wide 18 c.h1 then some (1, 3)
  else if !within05 (sumI h1) (655360 * 2 ^ c.shift1) then some (1, 1)
  else if 2 ^ 20 * 2 ^ c.shift1 ≤ sumAbs h1 then some (1, 2)
  else if c.n1m != 125 || c.h1m.length != 125 || !wide 18 c.h1m then some (2, 3)
  else if !within05 (sumI h1m) (655360 * 2 ^ c.shift1) then some (2, 1)
  else if 2 ^ 20 * 2 ^ c.shift1 ≤ sumAbs h1m then some (2, 2)
  else if c.n2 != 35 || c.h2.length != 35 || !wide 20 c.h2 then some (3, 3)
  else if !within05 (sumI h2) (2 ^ c.shift2) then some (3, 1)
  else if 2 ^ 31 * 2 ^ c.shift2 ≤ 201326592 * g2 then some (3, 2)
  else if c.n3 != 401 || c.h3.length != 401 || !wide 20 c.h3 then some (4, 3)
  else if !(ph.all fun h => within05 (32 * sumI h) (2 ^ c.shift3)) then some (4, 1)
  else if 2 ^ 23 * 2 ^ c.shift2 * 2 ^ c.shift3 ≤ 201326592 * g2 * p3 then some (4, 2)
  else if c.ns != 51 || c.hs.length != 51 || !wide 16 c.hs then some (5, 3)
  else if !within05 (32 * sumI hs) (2 ^ c.shiftS) then some (5, 1)
  else if 2 ^ 23 * 2 ^ c.shiftS ≤ 201326592 * sumAbs hs then some (5, 2)
  else none

/-- Coefficients from an offset of the layout of R89. -/
def coefAt (b : List Byte) (off n : Nat) : List Int := (List.range n).map fun k => toI 4 (fieldAt b (off + 4 * k) 4)

/-- The coefficient set that 2 728 bytes spell (R89). -/
def parseSet (b : List Byte) : SieveSet :=
  { id := fieldAt b 0 2, version := fieldAt b 2 2, n1 := fieldAt b 4 1, n1m := fieldAt b 5 1, n2 := fieldAt b 6 1
    ns := fieldAt b 7 1, n3 := fieldAt b 8 2, shift1 := fieldAt b 12 1, shift2 := fieldAt b 13 1
    shift3 := fieldAt b 14 1, shiftS := fieldAt b 15 1, h1 := coefAt b 24 63, h1m := coefAt b 276 125
    h2 := coefAt b 776 35, h3 := coefAt b 916 401, hs := coefAt b 2520 51, crc := fieldAt b 2724 4 }

/-- The bytes of a set (R89), over which LR_HASH runs (R143). -/
def setBytes (c : SieveSet) : List Byte :=
  le 2 c.id ++ le 2 c.version ++ le 1 c.n1 ++ le 1 c.n1m ++ le 1 c.n2 ++ le 1 c.ns ++ le 2 c.n3 ++ zeros 2
    ++ le 1 c.shift1 ++ le 1 c.shift2 ++ le 1 c.shift3 ++ le 1 c.shiftS ++ zeros 8
    ++ (c.h1 ++ c.h1m ++ c.h2 ++ c.h3 ++ c.hs).flatMap (leI 4) ++ le 4 c.crc

/-- A set comes into force: the read-only mirrors of R94 follow it. -/
def useSet (c : SieveSet) (rom : Bool) (s : State) : State :=
  let s := setSie (fun x => { x with inForce := some c, romFallback := rom }) s
  let s := forceParam s 0x0260 c.shift1
  let s := forceParam s 0x0261 c.shift2
  let s := forceParam s 0x0262 c.shift3
  let s := forceParam s 0x0263 c.shiftS
  forceParam s 0x0265 c.id

/-! One 400 kSPS step. -/

/-- The run of identical bits after new ones, oldest first, and the longest run on the way (R70). -/
def runAfter : Option Bool → Nat → Nat → List Bool → Nat × Nat
  | _, n, m, [] => (n, m)
  | last, n, m, b :: bs =>
    let r := if last = some b then n + 1 else 1
    runAfter (some b) r (max m r) bs

/-- The epoch of a 400 kSPS sample, counted from the first sample after Sieve started (R15, R80). -/
def epochOf (s : State) (j : Nat) : Nat := s.sie.first + j / 4000

/-- G_eff of a path in an epoch (R135). -/
def gEff (s : State) (p e : Nat) : Int :=
  let g := paramIE s (0x0280 + p) e
  g + divRound (g * (s.cal.dg[p]?).getD 0) 10000000

/-- The correction of R130 in an epoch; a MOD that is not in use gives 0. -/
def correct (s : State) (e p : Nat) (x : Int) : Int :=
  if isModPath p && !bitN (modsE s e) (p - 12) then 0
  else
    let xs := x * (if isHighPath p then 8 else 256)
    clampI (-201326592) 201326592 (shrFloor (xs * gEff s p e + 2 ^ 29) 30 + paramIE s (0x0290 + p) e)

/-- More than 95 % or fewer than 5 % ones among 64 bits (R65). -/
def modOverload (bits : List Bool) : Bool :=
  decide (bits.length = 64) && (decide (6080 < 100 * countWhere id bits) || decide (100 * countWhere id bits < 320))

/-- The over-range flag of a slot for a 400 kSPS sample of an epoch (R64, R65, R75). -/
def overFlag (s : State) (e k : Nat) (l : Look) (bits : List Bool) : Bool :=
  if 8 ≤ k then bitN (modsE s e) (k - 8) && (List.range 32).any fun i => modOverload ((bits.drop i).take 64)
  else decide (9 * 2 ^ 27 ≤ 10 * l.xl.natAbs)
    || (isCurSlot k && chan2 (paramE s 0x0245 e) (k / 2) == 1 && decide (2 ^ 22 ≤ l.xh.natAbs))

/-- The new weight of R62 from the 13 samples of the look-ahead window, FS_H being 2^22 on the low-gain scale. -/
def nextWeight (w : Nat) (look : List Look) : Nat :=
  let ahead := maxOf (look.map fun l => if l.overload then 2 ^ 22 else l.xh.natAbs)
  if 60 * 2 ^ 22 ≤ 100 * ahead then w - 1 else if 100 * ahead < 40 * 2 ^ 22 then min 8 (w + 1) else w

/-- The blended sample of a slot under a gain mode (R62, R76). -/
def blend (mode k w : Nat) (l : Look) : Int :=
  if !isCurSlot k then l.xl
  else match chan2 mode (k / 2) with
    | 1 => l.xh
    | 2 => l.xl
    | _ => divRound ((w : Int) * l.xh + (8 - (w : Int)) * l.xl) 8

/-- One step of the Rogowski integrator (R87): states u, z and x(n − 1), the output, and whether it saturated. -/
def integrate (s : State) (st : Int × Int × Int) (x : Int) : (Int × Int × Int) × Int × Bool :=
  let (u, z, px) := st
  let K : Int := if param s 0x0266 = 60 then 4047911 else 3373259
  let u' := u - shrFloor u 23 + x - px
  let z' := z - shrFloor z 23 + shrFloor (K * (u' + u)) 33
  ((u', z', x), satS 32 z', satS 32 z' != z')

/-- A move towards targets by at most `lim` each (R136). -/
def stepTo (lim : Int) (cur tgt : List Int) : List Int :=
  List.zipWith (fun c t => c + clampI (-lim) lim (t - c)) cur tgt

/-- The pending adjustment that a sample of an epoch applies, and those that stay: the newest whose epoch has begun, at the
first sample or at a crossing (R136, R137); none in HOLDUP (R144). -/
def pendingAt (s : State) (l : List TcPending) (e : Nat) (crossing : Bool) : Option TcPending × List TcPending :=
  match (l.filter fun p => decide (p.first ≤ e)).getLast? with
  | some p =>
    if (p.now || crossing) && !inHoldup s then (some p, l.filter fun q => decide (e < q.first))
    else (none, l)
  | none => (none, l)

/-- An adjustment moved towards its target in an epoch: by `unit` for each epoch boundary since the previous application,
or at once (R136, R137). -/
def adjusted (unit : Nat) (last e : Nat) (p : TcPending) (cur : List Int) : List Int :=
  if p.free then p.target else stepTo ((unit * (e - last) : Nat) : Int) cur p.target

/-- The gain adjustment that is due at a 400 kSPS sample of an epoch is applied (R136). -/
def applyGain (e : Nat) (crossing : Bool) (s : State) : State :=
  let r := pendingAt s s.cal.pendingG e crossing
  match r.1 with
  | none => s
  | some p => setCal (fun c => { c with
      dg := adjusted 5 c.applied.1 e p c.dg, pendingG := r.2, applied := (e, c.applied.2) }) s

/-- The time adjustment that is due at a main-path sample of an epoch is applied (R136). -/
def applyTime (e : Nat) (crossing : Bool) (s : State) : State :=
  let r := pendingAt s s.cal.pendingT e crossing
  match r.1 with
  | none => s
  | some p => setCal (fun c => { c with
      dt := adjusted 2 c.applied.2 e p c.dt, pendingT := r.2, applied := (c.applied.1, e) }) s

/-- A mark on the main-path sample, counted from the start of Sieve, that a 400 kSPS sample falls in (R80): over-range
and saturation masks. -/
def addMark (j ovr sat : Nat) (s : State) : State :=
  if ovr = 0 && sat = 0 then s
  else setSie (fun x => { x with marks := x.marks ++ [(2 * j / 25, ovr, sat)] }) s

/-- A stage of some slots saturates in a sample of an epoch (R83). -/
def saturated (mask e : Nat) (s : State) : State :=
  if mask = 0 then s
  else
    let s := setSie (fun x => { x with satMask := x.satMask ||| mask, satEpoch := max x.satEpoch e }) s
    (maskIdx 10 mask).foldl (fun s k =>
      if s.sie.satOpen.any (·.1 == k) then
        setSie (fun x => { x with satOpen := x.satOpen.map fun o => if o.1 = k then (k, o.2.1, max o.2.2 e) else o }) s
      else raise 0x0207 (le 2 k ++ zeros 2 ++ le 8 e)
        (setSie (fun x => { x with satOpen := x.satOpen ++ [(k, e, e)] }) s)) s

/-- A stage of some slots saturates in the 400 kSPS sample j, whose main-path sample carries the mark (R83). -/
def saturatedAt (mask j : Nat) (s : State) : State := addMark j 0 mask (saturated mask (epochOf s j) s)

/-- The bitstream checks of R70, from the longest run on each of the 14 streams: 64 identical bits on an internal stream,
1 024 on a MOD in use. -/
def streamChecks (runs : List Nat) (s : State) : State :=
  let run (p : Nat) : Nat := (runs[p]?).getD 0
  (List.range 14).foldl (fun s p =>
    let k := pathSlot p
    if isModPath p then
      if 1024 ≤ run p && modEnabled s (p - 12) then metFault 4 k s else faultAbsent 4 k s
    else if 64 ≤ run p then metFault 3 k s
    else if (List.range 14).all fun q => pathSlot q != k || decide (run q < 64) then faultAbsent 3 k s
    else s) s

/-- The new bits of each path, oldest first: 16 of an internal stream, 32 of a MOD (R12). -/
def freshBits (bits : List Nat) (p : Nat) : List Bool := bitsOf (if isModPath p then 32 else 16) ((bits[p]?).getD 0)

/-- The delay lines and runs of the 14 streams after new bits, and the activity checks (R70, R82). -/
def takeBits (bits : List Nat) (s : State) : State :=
  let old := s.sie.bits
  let lines := (List.range 14).map fun p =>
    ((freshBits bits p).reverse ++ (old[p]?).getD []).take (if isModPath p then 249 else 125)
  let runs := (List.range 14).map fun p =>
    let n := (s.inp.run[p]?).getD 0
    runAfter ((old[p]?).getD []).head? n n (freshBits bits p)
  streamChecks (runs.map (·.2)) (setInp (fun x => { x with run := runs.map (·.1) })
    (setSie (fun x => { x with bits := lines }) s))

/-- Stage 1 of every path (R82): outputs and which paths saturated. -/
def stage1 (s : State) : List Int × List Bool :=
  let c := coef s
  let outs := (List.range 14).map fun p =>
    stageOut 21 c.shift1 (firSum (mirror (if isModPath p then c.h1m else c.h1))
      (((s.sie.bits[p]?).getD []).map fun b => if b then 1 else -1))
  (outs.map (·.1), outs.map (·.2))

/-- The corrected samples of every path in an epoch (R130). A gain adjustment due at this sample is applied first: where it
waits for the rising crossing of the reference voltage, the crossing at this sample decides (R136). -/
def correctAll (e : Nat) (x1 : List Int) (s : State) : State × List Int :=
  let at' (s : State) : List Int := (List.range 14).map fun p => correct s e p ((x1[p]?).getD 0)
  let crossing : Bool := match s.sie.quadRef with
    | none => false
    | some k => match ((s.sie.look[k]?).getD []).head? with
      | some l => decide (l.xl < 0) && decide (0 ≤ ((at' s)[lowPath k]?).getD 0)
      | none => false
  let s := applyGain e crossing s
  (s, at' s)

/-- A channel's configuration differs between two epochs (R62, R88). -/
def reconfigured (s : State) (c e e' : Nat) : Bool :=
  chan2 (paramE s 0x0240 e) c != chan2 (paramE s 0x0240 e') c || chan2 (paramE s 0x0245 e) c != chan2 (paramE s 0x0245 e') c

/-- A sum per current channel, with a value of the present sample added where the channel qualifies. -/
def addWhere (q : Nat → Bool) (f : Nat → Int) (l : List Int) : List Int := l.mapIdx fun c v => if q c then v + f c else v

/-- The gain cross-check of an epoch whose samples have all been blended (R63). An epoch with no ratio, or with one beyond
the limit, ends a run (log entry 68). -/
def gainCheck (s : State) : State :=
  let i := s.inp
  let low (c : Nat) : Int := (i.gmLow[c]?).getD 0
  let off (c : Nat) : Nat := ((i.gmCross[c]?).getD 0 - low c).natAbs
  let bad (c : Nat) : Bool :=
    decide (1000 ≤ (i.gmCount[c]?).getD 0) && decide (0 < low c) && decide (2 * (low c).toNat < 1000 * off c)
  let good (c : Nat) : Bool := decide (0 < low c) && decide (1000 * off c ≤ (low c).toNat)
  setInp (fun x => { x with
    gmBad := x.gmBad.mapIdx fun c n => if bad c then min 100 (n + 1) else 0
    gmGood := x.gmGood.mapIdx fun c n => if good c then min 100 (n + 1) else 0
    gmRatio := x.gmRatio.mapIdx fun c r =>
      if 0 < low c then (divRound ((i.gmCross[c]?).getD 0 * 2 ^ 30) (low c).toNat).toNat else r
    gmCross := [0, 0, 0, 0], gmLow := [0, 0, 0, 0], gmCount := [0, 0, 0, 0] }) s

/-- What the first 400 kSPS sample of an epoch brings (R62, R63): the epoch before is judged, and a channel whose sensor or
gain mode changes starts at w = 0. -/
def blendBoundary (j : Nat) (s : State) : State :=
  if j % 4000 != 0 || j = 0 then s
  else
    let e := epochOf s j
    let s := gainCheck s
    setInp (fun x => { x with weight := x.weight.mapIdx fun c w => if reconfigured s c (e - 1) e then 0 else w }) s

/-- The sums of a running span over a sample (R147): the corrected codes where the sample belongs to the span, and the
products of R63 where the blended one does. -/
def spanSample (e eb : Nat) (xc : List Int) (q : Nat → Bool) (cross low : Nat → Int) (s : State) : State :=
  let has (sp : CalSpan) (x : Nat) : Bool := decide (sp.first ≤ x) && decide (x < sp.first + sp.nEpochs)
  let sums (sp : CalSpan) : CalSpan :=
    if has sp e then { sp with sums := List.zipWith (· + ·) sp.sums xc, count := sp.count + 1 } else sp
  let ratios (sp : CalSpan) : CalSpan :=
    if has sp eb then { sp with cross := addWhere q cross sp.cross, low := addWhere q low sp.low } else sp
  setCal (fun c => { c with span := c.span.map fun sp => ratios (sums sp) }) s

/-- Correction, crossfade and integration of every slot for the n-th step (R130, R62, R87): new blended samples. The
corrected sample is number n − 4 after the start of Sieve, the blended one number n − 16 (R84). -/
def blendAll (n : Nat) (x1 : List Int) (s : State) : State × List Int :=
  let e := epochOf s (n - 4)
  let jb := n - 16
  let eb := epochOf s jb
  let (s, xc) := correctAll e x1 s
  let s := if 16 ≤ n then blendBoundary jb s else s
  let mode := paramE s 0x0245 eb
  let new (k : Nat) : Look :=
    let lo := (xc[lowPath k]?).getD 0
    if isCurSlot k then
      ⟨lo, (xc[lowPath k + 1]?).getD 0, decide (2 ^ 19 ≤ ((x1[lowPath k + 1]?).getD 0).natAbs)⟩
    else ⟨lo, lo, false⟩
  let look := (List.range 10).map fun k => (new k :: (s.sie.look[k]?).getD []).take 13
  let full := decide (13 ≤ n)
  let cur (k : Nat) : Look := (((look[k]?).getD [])[12]?).getD ⟨0, 0, false⟩
  let ws := s.inp.weight.mapIdx fun c w => if full && chan2 mode c == 0 then nextWeight w ((look[2 * c + 1]?).getD []) else w
  let ys := (List.range 10).map fun k => blend mode k ((ws[k / 2]?).getD 0) (cur k)
  let sensor := paramE s 0x0240 eb
  let steps := (List.range 4).map fun c =>
    let y := (ys[2 * c + 1]?).getD 0
    if chan2 sensor c == 1 then integrate s ((s.sie.integ[c]?).getD (0, 0, 0)) y else ((0, 0, y), y, false)
  let outs := ys.mapIdx fun k y => if isCurSlot k then ((steps[k / 2]?).map (·.2.1)).getD 0 else y
  let q (c : Nat) : Bool :=
    let h := (cur (2 * c + 1)).xh.natAbs
    full && decide (10 * 2 ^ 22 ≤ 100 * h) && decide (100 * h ≤ 60 * 2 ^ 22)
  let cross (c : Nat) : Int := let l := cur (2 * c + 1); l.xh * l.xl
  let low (c : Nat) : Int := let l := cur (2 * c + 1); l.xl * l.xl
  let ovr := packBits ((List.range 10).map fun k => overFlag s e k (new k) ((s.sie.bits[lowPath k]?).getD []))
  let s := setInp (fun x => { x with
    weight := ws, gmCross := addWhere q cross x.gmCross, gmLow := addWhere q low x.gmLow
    gmCount := x.gmCount.mapIdx fun c v => if q c then v + 1 else v
    ovrSeen := x.ovrSeen ||| ovr
    weightEnds := if full && (jb + 1) % 4000 = 0 then ((eb, ws) :: x.weightEnds).take 8 else x.weightEnds }) s
  let s := setSie (fun x => { x with look := look, integ := steps.map (·.1) }) s
  let s := spanSample e eb xc q cross low s
  let s := if 4 ≤ n then addMark (n - 4) ovr 0 s else s
  let isat := sumN ((List.range 4).map fun c => if ((steps[c]?).map (·.2.2)).getD false then 2 ^ iSlot c else 0)
  (saturatedAt isat jb s, outs)

/-- The instant a settling-path output represents, in ticks of the epoch count: output m of those since Sieve started stands
for m − 1 periods of 250 µs after its start (R80, R84). -/
def settlePos (s : State) : Nat := epochPos s.sie.first + (s.sie.n400 / 100 - 1) * 51200

/-- Nightlatch takes every fourth settling output q into its aligned block of 100 while the check is armed (R523). -/
def idleSample (q : Nat) (v : List Int) (s : State) : State :=
  if !idleArmed s || q % 4 != 0 then s
  else
    let sq := (v.take 4).map fun c => c.natAbs * c.natAbs
    let n := s.nl
    { s with nl :=
        if q / 4 % 100 = 0 then { n with acc := sq, accN := 1 }
        else if n.accN = 0 then n
        else { n with acc := List.zipWith (· + ·) n.acc sq, accN := n.accN + 1 } }

/-- The settling-path samples that Shutter compares (R88, R348): channels IA, IB, IC, IN and MOD0. -/
def pushSettle (s : State) : State :=
  let bad := invalidMask s ||| switchMask settleSpan (settlePos s) s
  let slots := [1, 3, 5, 7, 8]
  let win := s.shu.settleWin.mapIdx fun i l =>
    let k := (slots[i]?).getD 0
    let v := if bitN bad k then 0 else (s.sie.settle[k]?).getD 0
    (v :: l).take 40
  idleSample (settlePos s / 51200) (win.map fun l => l.headD 0) (setShu (fun x => { x with settleWin := win }) s)

/-- The wide output of a new 400 kSPS sample (R82, R93). -/
def wideStage (ys : List Int) (s : State) : State :=
  let jb := s.sie.n400 - 16
  let sh := paramE s 0x0264 (epochOf s jb)
  let wide := (List.range 8).map fun k => stageOut 24 sh ((ys[k]?).getD 0)
  let s := saturatedAt (packBits (wide.map (·.2))) jb (setSie (fun x => { x with wide := wide.map (·.1) ++ [0, 0] }) s)
  match s.pq.shFirst with
  | some _ => setPq (fun x => { x with shSamples := ((s.sie.wide[x.shSlot]?).getD 0) :: x.shSamples }) s
  | none => s

/-- The wide, stage 2 and settling outputs of a new 400 kSPS sample (R82): stage 2 stands 34 samples behind the blended one,
settling 84 (R84). -/
def midStages (ys : List Int) (s : State) : State :=
  let c := coef s
  let lines := s.sie.line400.mapIdx fun k l => ((ys[k]?).getD 0 :: l).take 135
  let s := wideStage ys (setSie (fun x => { x with line400 := lines }) s)
  let n := s.sie.n400
  let s := if n % 5 = 0 then
      let o := lines.map fun l => stageOut 32 c.shift2 (firSum (mirror c.h2) l)
      saturatedAt (packBits (o.map (·.2))) (n - 50) (setSie (fun x => { x with
        line80 := x.line80.mapIdx fun k l => (((o[k]?).map (·.1)).getD 0 :: l).take 204, n80 := x.n80 + 1 }) s)
    else s
  if n % 100 = 0 then
    let o := lines.map fun l => stageOut 24 c.shiftS (firSum (mirror c.hs) (l.drop 34))
    saturatedAt (packBits (o.map (·.2))) (n - 100) (pushSettle (setSie (fun x => { x with settle := o.map (·.1) }) s))
  else s

/-- Stage 3: a main-path row as soon as its last slot can be formed (R80, R82). Row n stands for the sample n − 44 (R84), so
the first 44 rows stand before the start of Sieve. The stage 2 sample q, formed 5 (q + 1) steps after the start, stands at
4 (q + 1) on the virtual 320 kSPS grid. -/
def mainRow (s : State) : State :=
  let n := s.sie.nMain
  if (10 * n + 9) / 4 ≤ s.sie.n80 then
    let c := coef s
    let h3 := mirror c.h3
    let o := (List.range 10).map fun k =>
      let v := 10 * n + k
      stageOut 24 c.shift3 (firSum (polyphase h3 (v % 4)) (((s.sie.line80[k]?).getD []).drop (s.sie.n80 - v / 4)))
    let m := packBits (o.map (·.2))
    let s := saturated m (s.sie.first + (n - 44) / 320) s
    let here := s.sie.marks.filter (·.1 == n - 44)
    let row : MainRow := ⟨o.map (·.1), here.foldl (fun a x => a ||| x.2.1) 0, here.foldl (fun a x => a ||| x.2.2) m⟩
    setSie (fun x => { x with
      nMain := n + 1, rows := if 44 ≤ n then x.rows ++ [row] else x.rows
      marks := if 44 ≤ n then x.marks.filter (fun a => n - 44 < a.1) else x.marks }) s
  else s

/-- One first-stage sample of every path (R62, R82, R87, R130): the operand gives the new bits of each path, the oldest
as bit 0. While Sieve is halted, the streams are only checked (R70, R92). -/
def execSample400k (bits : List Nat) (s : State) : Out :=
  whenever s.dom.d2 s fun s =>
    let s := takeBits bits s
    if s.sie.halted then s
    else
      let n := s.sie.n400 + 1
      let s := setSie (fun x => { x with n400 := n }) s
      let (x1, sat1) := stage1 s
      let m1 := packBits ((List.range 10).map fun k =>
        (List.range 14).any fun p => pathSlot p == k && (sat1[p]?).getD false)
      let s := if 4 ≤ n then saturatedAt m1 (n - 4) s else s
      let (s, ys) := blendAll n x1 s
      mainRow (midStages ys s)

/-! Halting and loading (R92, R95, R97). -/

/-- Sieve's filter state cleared (R92). -/
def clearSieve (s : State) : State :=
  let s := setSie (fun x => { x with
    bits := List.replicate 14 [], look := List.replicate 10 [], integ := List.replicate 4 (0, 0, 0)
    line400 := List.replicate 10 [], line80 := List.replicate 10 [], n400 := 0, n80 := 0, nMain := 0, rows := []
    settle := List.replicate 10 0, wide := List.replicate 10 0, marks := [] }) s
  let s := setMet (fun m => { m with history := [], lastVq := [0, 0, 0] }) s
  setInp (fun x => { x with weight := [0, 0, 0, 0], gmCross := [0, 0, 0, 0], gmLow := [0, 0, 0, 0], gmCount := [0, 0, 0, 0] }) s

/-- MET_SIEVE_HALT (R92, R97). A halt of a halted Sieve and a resumption of a running one are answered OK; a halt repeated
before SIEVE_STOP moves its epoch, and a resumption before it takes the halt back (log entry 71). -/
def execMetSieveHalt (r : Req) (action : Nat) (s : State) : Out :=
  brixo 0x0261 r s fun s =>
    if s.mode.mode != .factory then refuse s stWrongMode
    else if 1 < action then refuse s stBadParam
    else if action = 1 && !kmOpen s then refuse s stContactorClosed
    else
      let e := s.clk.epoch + 1
      let s := setSie (fun x =>
        if action = 1 then (if x.halted then x else { x with haltAt := some e })
        else (if x.halted then { x with resumeAt := some e } else { x with haltAt := none })) s
      answer s stOk (le 8 e)

/-- Sieve stops at the boundary its halt named (R92): its epoch has ended on the timebase. The rows of samples before the
boundary are still inside the path. -/
def execSieveStop (s : State) : Out :=
  match s.sie.haltAt with
  | none => .next s
  | some e =>
    whenever (decide (e ≤ s.met.epoch)) s fun s =>
      let low (o : CfOut) : CfOut := { o with edges := [], high := none }
      let s := setCal (fun c => { c with cfP := low c.cfP, cfQ := low c.cfQ }) s
      setSie (fun x => { x with halted := true, haltFirst := e, haltAt := none, rows := [] }) s

/-- Sieve restarts at the boundary its resumption named (R92); SIEVE_HALT carries the settling-invalid count (R88). -/
def execSieveRestart (s : State) : Out :=
  match s.sie.resumeAt with
  | none => .next s
  | some e =>
    whenever (s.sie.halted && decide (e ≤ s.clk.epoch)) s fun s =>
      let first := s.sie.haltFirst
      let s := settleSwitch 0x3FF (epochPos e) (clearSieve s)
      let s := setSie (fun x => { x with halted := false, resumeAt := none, haltEnd := e, first := e }) s
      let s := match s.sie.flashSet with
        | some c => if !s.sie.refused && (setCheck c).isNone then useSet c false s else s
        | none => s
      raise 0x0209 (le 8 first ++ le 8 (e - 1) ++ le 4 (settleCount 0 (epochPos e))) s

/-- MET_SIEVE_SET_LOAD (R90, R97): the operand is the 2 728 bytes of the set. -/
def execMetSieveSetLoad (r : Req) (data : List Byte) (s : State) : Out :=
  brixo 0x0262 r s fun s =>
    let crc := le 4 (crc32c (data.take 2724))
    if s.mode.mode != .factory then refuse s stWrongMode
    else if !s.sie.halted then refuse s stBusy
    else if data.length != 2728 then refuse s stBadLength
    else
      let c := parseSet data
      if crc32c (data.take 2724) != c.crc then ⟨some stIntegrity, le 1 0 ++ le 1 0 ++ zeros 2 ++ crc, s⟩
      else if fieldAt data 10 2 != 0 || fieldAt data 16 8 != 0 then refuse s stBadParam
      else match setCheck c with
        | some (st, ck) => ⟨some stBadParam, le 1 st ++ le 1 ck ++ zeros 2 ++ crc, s⟩
        | none =>
          let u := s.upd
          let s := if u.stage = 2 then { s with upd := { u with stage := 1 } } else s
          answer (setSie (fun x => { x with flashSet := some c, refused := false }) s) stOk (zeros 4 ++ crc)

/-- 100 consecutive epochs without saturation have passed (R83). -/
def execSieveSaturationClose (k : Nat) (s : State) : Out :=
  match s.sie.satOpen.find? (·.1 == k) with
  | none => .next s
  | some o =>
    whenever (decide (o.2.2 + 100 < s.met.epoch)) s fun s =>
      raiseF 0x0207 1 0xFF (le 2 k ++ zeros 2 ++ le 8 o.2.1)
        (setSie (fun x => { x with satOpen := x.satOpen.filter (·.1 != k) }) s)

/-- MET_SIEVE_STATUS (R96): what Sieve was at the end of EPOCH, and SAT_MASK since the previous read. -/
def execMetSieveStatus (r : Req) (s : State) : Out :=
  brixo 0x0260 r s fun s =>
    let v := asOf s
    let e := shownEpoch s
    let c := coef v
    let rog := packBits ((List.range 4).map fun i => chan2 (paramE s 0x0240 e) i == 1)
    let ref := if v.sie.quadHeld then 0xFF else v.sie.quadRef.getD 0xFF
    let body := le 2 c.id ++ le 2 c.version ++ le 4 c.crc ++ le 1 (b2n v.sie.romFallback) ++ le 1 (b2n v.sie.halted)
      ++ le 2 s.sie.satMask ++ le 1 c.shift1 ++ le 1 c.shift2 ++ le 1 c.shift3 ++ le 1 c.shiftS
      ++ le 1 (paramE s 0x0264 e) ++ le 1 rog ++ le 2 v.sie.quadD ++ le 1 ref ++ zeros 3 ++ le 8 v.sie.satEpoch
    answer (setSie (fun x => { x with satMask := 0 }) s) stOk body

end Sys2Proof.Machine
end

