-- ==== Sys2Proof/Machine/Sample.lean ====
section
/-! DEFINITION. One main-path sample in D2 (05, 06, 07): alignment, products, the delay line, DC energies, the residual, zero
crossings and half-period segments. -/

namespace Sys2Proof.Machine

/-! Constants of an epoch (R101, R107). -/

def wX (iScale : Nat) : Nat := divRoundN (iScale * 2 ^ 24) 2304
def wDc (fs0 fs1 : Nat) : Nat := divRoundN (fs0 * fs1 * 2 ^ 21) 115200000
def wR (fs0 r : Nat) : Nat := divRoundN (fs0 * fs0 * r * 2 ^ 21) 115200000000000

/-- The parameters of an epoch (R103). -/
def epochParams (s : State) (e : Nat) : EpochParams :=
  { rule := paramE s 0x0200 e, phases := paramE s 0x0201 e
    iScale := [paramE s 0x0241 e, paramE s 0x0242 e, paramE s 0x0243 e, paramE s 0x0244 e]
    fNom := paramE s 0x0266 e, dcR := paramE s 0x0205 e, mod0Fs := paramE s 0x0247 e, mod1Fs := paramE s 0x0248 e
    iStart := paramE s 0x0203 e, dcStart := paramE s 0x0204 e, mods := modsE s e, sensor := paramE s 0x0240 e
    reverseP := paramE s 0x0206 e, reverseTime := paramE s 0x0207 e, neutralOn := paramE s 0x0208 e
    neutralLimit := paramE s 0x0209 e, neutralFrac := paramE s 0x020A e, neutralTime := paramE s 0x020B e }

def EpochParams.scale (p : EpochParams) (x : Nat) : Nat := (p.iScale[x]?).getD 0
def EpochParams.on (p : EpochParams) (x : Nat) : Bool := bitN p.phases x

/-! Zero crossings (R86, R111). -/

/-- The code of a slot in a row of codes, 0 where there is none. -/
def code (l : List Int) (k : Nat) : Int := (l[k]?).getD 0

/-- The offset, in 1/256 sample, of a rising crossing whose nearest sample is the middle one of three; the later of two
samples at equal distance counts as the nearest (R111). -/
def crossingAt (prev cur next : Int) : Option Int :=
  if prev < 0 && 0 ≤ cur then
    let f := divRound (256 * (-prev)) (cur - prev).toNat
    if 128 ≤ f then some (f - 256) else none
  else if cur < 0 && 0 ≤ next then
    let f := divRound (256 * (-cur)) (next - cur).toNat
    if f < 128 then some f else none
  else none

/-- The reference slot of R86 as a phase. -/
def refPhase (s : State) : Option Nat := s.sie.quadRef.map (· / 2)

/-! Quadrature voltage and alignment (R86, R131). -/

/-- v′ of a slot: the newest code of `past` is the present one; zero until the past holds D samples. -/
def quadV (d : Nat) (past : List Int) : Int :=
  let i := d / 256
  let f := d % 256
  if f = 0 then (past[i]?).getD 0
  else match past[i]?, past[i + 1]? with
    | some a, some b => a + divRound ((f : Int) * (b - a)) 256
    | _, _ => 0

/-- C(n) less the part a of its last step, Q16 (R131). -/
def alignStep (a : Nat) (c p : Int) : Int := c - shrFloor ((a : Int) * (c - p) + 2 ^ 15) 16

/-- cv, cv′ and ci of R131 for a correction tau. -/
def align (tau : Int) (cv pv cq pq ci pi : Int) : Int × Int × Int :=
  let t := clampI (-102400) 102400 tau
  let a := (t.natAbs * 65536 + 51200) / 102400
  if 0 ≤ t then (cv, cq, alignStep a ci pi) else (alignStep a cv pv, alignStep a cq pq, ci)

/-- The tau of a phase: MET.CAL_TIME_x at an epoch and the applied adjustment. -/
def tauOf (s : State) (x e : Nat) : Int := paramIE s (0x02A0 + x) e + (s.cal.dt[x]?).getD 0

/-! Half-period segments (R157). -/

/-- Samples of a segment while no reference qualifies. -/
def fixedSeg (fNom : Nat) : Nat := if fNom = 60 then 267 else 320

/-- A segment boundary at a sample: the crossing at it, the half period after one, or the fixed length. -/
def segCut (s : State) (p : EpochParams) (a : Nat) (crossed : Bool) : Bool :=
  match s.sie.quadRef with
  | some _ => crossed || s.pq.nextHalf == some a
  | none => decide (fixedSeg p.fNom ≤ s.pq.seg.n)

/-- The running segment ends before this sample, and a new one begins with it. -/
def cutSeg (a : Nat) (s : State) : State :=
  setPq (fun q => { q with
    segDone := if 0 < q.seg.n then q.segDone ++ [q.seg] else q.segDone
    seg := { ({} : PqSeg) with first := a } }) s

/-- One sample enters the running segment. -/
def growSeg (codes : List Int) (bad : Nat) (s : State) : State :=
  setPq (fun q => { q with seg := { q.seg with
    sum := q.seg.sum.mapIdx fun x v => v + (code codes (vSlot x)).natAbs ^ 2
    n := q.seg.n + 1
    bad := packBits ((List.range 3).map fun x => bitN q.seg.bad x || bitN bad (vSlot x)) } }) s

/-- The crossing of the reference at this sample, in 1/256 sample: the segment boundary is set at the sample nearest half a
period P later (R157). -/
def onCrossing (pos : Int) (s : State) : State :=
  let (n, d) := s.sie.period.getD (4 * s.sie.quadD, 1)
  setPq (fun q => { q with nextHalf := some (((2 * d * pos + n + 256 * d) / (512 * d)).toNat) }) s

/-! The sample. -/

/-- Slots that contribute nothing at the sample a although no fault marks them: settling-invalid (R88), or under the
reference test (R72). -/
def settlingMask (a : Nat) (s : State) : Nat :=
  switchMask mainSpan (a * Tick.sample) s ||| (s.inp.selfTest.map (·.mask)).getD 0

/-- The switches whose main-path samples have all left the path are forgotten. -/
def forgetSwitches (a : Nat) (s : State) : State :=
  setInp (fun i => { i with switches := i.switches.filter fun w => decide (a * Tick.sample < w.2 + mainSpan) }) s

/-- The halves of the delay line that are due at or before sample n, for a phase. -/
def dueSum (l : List (Nat × Nat × List Int × List Int)) (q : Bool) (x : Nat) : Int :=
  sumI (l.map fun d => code (if q then d.2.2.2 else d.2.2.1) x)

/-- Invalid samples counted with each active fault (R74). -/
def countInvalid (e : Nat) (s : State) : State :=
  setInp (fun i => { i with faults := i.faults.map fun f =>
    let m := faultMask f
    if m = 0 then f
    else { f with lastEpoch := e
                  invalid := f.invalid.mapIdx fun x n => if bitN m (vSlot x) || bitN m (iSlot x) then n + 1 else n } }) s

/-- Event detection is disarmed at a sample (R158): arming and disarming act from a sample on. -/
def disarmedAt (s : State) (a : Nat) : Bool := if s.pq.armed then decide (a < s.pq.since) else decide (s.pq.since ≤ a)

/-- What D2 forms from the codes of one sample (R100–R107, R111, R119). -/
def formSample (codes : List Int) (ovr sat invalid settling : Nat) (due : List (Nat × Nat × List Int × List Int))
    (s : State) : Sample :=
  let e := s.met.epoch
  let p := epochParams s e
  let prev := s.met.history.head?.getD []
  let bad (k : Nat) : Bool := bitN invalid k || bitN settling k
  let vq := (List.range 3).map fun x =>
    quadV s.sie.quadD ((codes :: s.met.history).map fun l => code l (vSlot x))
  let al := (List.range 3).map fun x =>
    align (tauOf s x e) (code codes (vSlot x)) (code prev (vSlot x)) (code vq x) (code s.met.lastVq x)
      (code codes (iSlot x)) (code prev (iSlot x))
  let live (x : Nat) : Bool := p.on x && !bad (vSlot x) && !bad (iSlot x)
  let prod := al.mapIdx fun x c => if live x then c.1 * c.2.2 else 0
  let prodQ := al.mapIdx fun x c => if live x then c.2.1 * c.2.2 else 0
  let c0 := code codes 8
  let c1 := code codes 9
  let dc := p.mods == 3 && !bad 8 && !bad 9
  let eRaw := if dc then c0 * c1 * wDc p.mod0Fs p.mod1Fs else 0
  let eVeh := if dc then eRaw - c0 * c0 * wR p.mod0Fs p.dcR else 0
  let cur := (List.range 4).filter fun x => x == 3 || p.on x
  let resid := if p.neutralOn = 1 then
      divRound (100 * sumI (cur.map fun x => code codes (iSlot x) * p.scale x)) (2 ^ 22)
    else 0
  { codes := codes, vq := vq, prod := prod, prodQ := prodQ
    e := prod.mapIdx fun x v => if p.on x then (v + dueSum due false x) * wX (p.scale x) else 0
    qc := prodQ.mapIdx fun x v => if p.on x then (v + dueSum due true x) * wX (p.scale x) else 0
    eRaw := eRaw, eVeh := eVeh, resid := resid, invalid := invalid, settling := settling, ovr := ovr, sat := sat
    disarmed := disarmedAt s (sampleNow s) }

/-- One main-path sample: the row at the front of the path, with the next row in view for the crossing rule of R111
(log entry 23). A halted Sieve gives rows of zeros (R92). -/
def takeSample (row : MainRow) (next : List Int) (halted : Bool) (s : State) : State :=
  let e := s.met.epoch
  let a := sampleNow s
  let prev := s.met.history.head?
  let cross (x : Nat) : Option Int := match prev with
    | none => none
    | some l => crossingAt (code l (vSlot x)) (code row.codes (vSlot x)) (code next (vSlot x))
  let found := (List.range 3).filterMap fun x => (cross x).map fun f => (x, f)
  let s := setSie (fun i => { i with
    crossings := (found.map fun c => (c.1, e, (256 * (a : Int) + c.2).toNat)).reverse ++ i.crossings }) s
  let refHit := (refPhase s).bind cross
  let s := applyTime e refHit.isSome s
  let s := match refHit with
    | some f => onCrossing (256 * (a : Int) + f) s
    | none => s
  let s := if segCut s (epochParams s e) a refHit.isSome then cutSeg a s else s
  let invalid := if halted then 0x3FF else invalidMask s
  let settling := settlingMask a s
  let due := s.met.delay.filter fun d => decide (d.1 ≤ a)
  let smp := formSample row.codes row.ovr row.sat invalid settling due s
  let s := growSeg row.codes (invalid ||| settling) s
  let s := countInvalid e s
  let s := forgetSwitches a s
  setMet (fun m => { m with
    samples := m.samples ++ [smp]
    history := (row.codes :: m.history).take 184
    lastVq := smp.vq
    delay := (m.delay.filter fun d => decide (a < d.1)) ++ [(a + (s.sie.quadD + 128) / 256, e, smp.prod, smp.prodQ)] }) s

end Sys2Proof.Machine
end

