-- ==== Sys2Proof/Machine/Window.lean ====
section
/-! DEFINITION. Epoch sums (R111) and the measurement window of R112, which D2 and Kiln share. -/

namespace Sys2Proof.Machine

/-- Position of a record's crossing, absolute, in 1/256 sample (R111). -/
def SumsRec.xPos (r : SumsRec) : Option Nat := r.xIdx.map fun i => ((320 * r.epoch + i) * 256 + r.xFrac).toNat

/-- The four sums of a phase over some samples: SVV, SII, SVI, SVQI. -/
def sums4 (l : List Sample) (x : Nat) : List Int :=
  [ sumI (l.map fun m => code m.codes (vSlot x) * code m.codes (vSlot x)),
    sumI (l.map fun m => code m.codes (iSlot x) * code m.codes (iSlot x)),
    sumI (l.map fun m => code m.prod x), sumI (l.map fun m => code m.prodQ x) ]

def orMask (l : List Nat) : Nat := l.foldl (fun a b => a ||| b) 0

/-- The creep gate of one phase over some samples (R106); MET.I_START in µA. -/
def gateOpen (p : EpochParams) (l : List Sample) (x : Nat) : Bool :=
  let sii := (code (sums4 l x) 1).toNat
  p.on x && decide (p.iStart * p.iStart * l.length * 2 ^ 44 ≤ sii * (p.scale x * p.scale x) * 10 ^ 6)
    && !bitN (orMask (l.map (·.invalid))) (vSlot x)

/-- The DC gate of R106. -/
def dcGateOpen (p : EpochParams) (l : List Sample) : Bool :=
  decide (p.dcStart * l.length * 2 ^ 22 ≤ sumN (l.map fun m => (code m.codes 8).natAbs) * p.mod0Fs)

/-- Bits 0–2 and 3 of GATE (R173). -/
def gateMask (p : EpochParams) (l : List Sample) : Nat :=
  packBits ((List.range 3).map (gateOpen p l) ++ [dcGateOpen p l])

/-- EV_STATE (R168). -/
def evState (s : State) : Nat :=
  packBits [s.pq.dip.isSome, s.pq.swell.isSome, s.pq.intr.isSome, s.pq.rvc.isSome, s.pq.armed]

/-- The marks of some samples. -/
def marksOf (l : List Sample) : Marks :=
  { invalid := orMask (l.map (·.invalid)), settling := orMask (l.map (·.settling)), ovr := orMask (l.map (·.ovr))
    sat := orMask (l.map (·.sat)), disarmed := l.any (·.disarmed) }

/-- The marks of two groups of samples together. -/
def Marks.join (a b : Marks) : Marks :=
  ⟨a.invalid ||| b.invalid, a.settling ||| b.settling, a.ovr ||| b.ovr, a.sat ||| b.sat, a.disarmed || b.disarmed⟩

/-- A coefficient set other than 0x0001 is in force (R156). -/
def nonDefaultSet (s : State) : Bool := (s.sie.inForce.map (·.id)).getD 1 != 1

/-- The stored record of an epoch (R111). -/
def sumsRec (s : State) (e : Nat) (l : List Sample) (discharge : Bool) : SumsRec :=
  let p := epochParams s e
  let x : Option Nat := match refPhase s with
    | none => none
    | some r => (s.sie.crossings.find? fun c => c.1 == r && c.2.1 == e).map (·.2.2)
  let idx : Option Nat := x.map fun a => (a + 128) / 256 - 320 * e
  let pre := match idx with | some i => l.take i | none => l
  let two (f : Sample → Int) : List Int := [sumI (l.map fun m => f m * f m), sumI (pre.map fun m => f m * f m)]
  { epoch := e, xIdx := idx
    xFrac := match x, idx with
      | some a, some i => (a : Int) - 256 * (320 * e + i)
      | _, _ => 0
    ref := s.sie.quadRef
    pre := marksOf pre, post := marksOf (match idx with | some i => l.drop i | none => [])
    phase := (List.range 3).map fun x => sums4 l x ++ sums4 pre x
    neutral := two (fun m => code m.codes 7) ++ two (·.resid)
    dc := [sumI (l.map fun m => code m.codes 8), sumI (l.map fun m => code m.codes 9),
      sumI (l.map fun m => code m.codes 8 * code m.codes 9), sumI (l.map fun m => code m.codes 8 * code m.codes 8)]
    gate := gateMask p l, n := l.length, ev := evState s, discharge := discharge, otherSet := nonDefaultSet s, par := p }

/-- Which part of a record a window takes. -/
inductive Part where
  | whole | post | pre
  deriving DecidableEq, Repr

/-- The measurement window of R112: its records with their parts, its number of samples, and its edges when it is
synchronous. -/
structure Window where
  recs : List (SumsRec × Part)
  n : Nat
  edges : Option (Nat × Nat)
  deriving DecidableEq, Repr

/-- Samples of one record that a part takes. -/
def partN (r : SumsRec) : Part → Nat
  | .whole => r.n
  | .post => r.n - r.xIdx.getD 0
  | .pre => r.xIdx.getD 0

/-- The marks of the samples of one record that a part takes. -/
def partMarks (r : SumsRec) : Part → Marks
  | .whole => r.pre.join r.post
  | .post => r.post
  | .pre => r.pre

/-- The marks of all samples of some parts of records. -/
def marksIn (l : List (SumsRec × Part)) : Marks := (l.map fun a => partMarks a.1 a.2).foldl Marks.join {}

/-- The window of epoch E in a ring, oldest record first (R112). After a start with fewer than 20 whole epochs, the fallback
window holds those there are (log entry 69). -/
def windowOf (ring : List SumsRec) (e nw : Nat) : Window :=
  let rs := ring.filter fun r => decide (r.epoch ≤ e) && decide (e < r.epoch + 30)
  let ref := (rs.getLast?).bind (·.ref)
  let xs := keepLast (nw + 1) (rs.filter (·.xIdx.isSome))
  let fallback : Window :=
    let ws := keepLast 20 (rs.filter (·.n == 320))
    { recs := ws.map fun r => (r, .whole), n := sumN (ws.map (·.n)), edges := none }
  match xs.head?, xs.getLast? with
  | some f, some l =>
    let inside := rs.filter fun r => decide (f.epoch ≤ r.epoch)
    if xs.length = nw + 1 && ref.isSome && inside.all fun r => r.ref == ref then
      let span := inside.filter fun r => decide (r.epoch ≤ l.epoch)
      let parts := span.map fun r =>
        (r, if r.epoch = f.epoch then Part.post else if r.epoch = l.epoch then Part.pre else Part.whole)
      { recs := parts, n := sumN (parts.map fun a => partN a.1 a.2)
        edges := match f.xPos, l.xPos with
          | some a, some b => some (a, b)
          | _, _ => none }
    else fallback
  | _, _ => fallback

/-- NO_SYNC of the newest epoch stored (R112); it holds before the first. -/
def noSync (s : State) : Bool :=
  match s.met.ring.getLast? with
  | some r => (windowOf s.met.ring r.epoch (nwOf r.par.fNom)).edges.isNone
  | none => true

/-- A sum of a window from the whole and pre-crossing values of each record. -/
def windowSum (w : Window) (whole pre : SumsRec → Int) : Int :=
  sumI (w.recs.map fun a => match a.2 with
    | .whole => whole a.1
    | .post => whole a.1 - pre a.1
    | .pre => pre a.1)

end Sys2Proof.Machine
end

