-- ==== Sys2Proof/Machine/Commit.lean ====
section
/-! DEFINITION. The commit of an epoch (01, 05, 06, 08): state capture, the latch with its creep gate and its increments, the
journal entry and its durability, publication, checkpoints, and the entries of KIND 2 to 5. -/

namespace Sys2Proof.Machine

/-! State capture (R16 step 1, R173). -/

/-- This unit's claim (R481): a unit that is not ACTIVE asserts none. -/
def ownClaim (s : State) : Nat := if s.hng.role == .active then 2 * s.hng.count + param s 0x0D01 else 0

/-- The claim the output stages obey: the highest one asserted (R481, R483); 0 without Hinge. -/
def claimObeyed (s : State) : Nat := if hingeOn s then max (ownClaim s) (maxOf (s.hng.claims.map (·.1))) else 0

/-- Packed STATE (R173). -/
def packedState (s : State) : PackedState :=
  { km := kmByte s
    cp := s.shu.cpState + (if s.shu.cpDrive == .pwm then 128 else 0)
    cpDuty := s.shu.duty, shuFaults := s.shu.latches
    out := packBits (s.lsw.chans.map (·.on)), outFault := packBits (s.lsw.chans.map fun c => c.latch.isSome || c.exhausted)
    hold := packBits [s.recl.required || s.hng.yielding, s.recl.deadline.isSome]
    tamper := s.sag.tamp + packBits [false, false, false, s.sag.mesh, s.sag.potting, s.inp.magSince.isSome]
    claim := claimObeyed s }

/-- Bytes of STATE (R173). -/
def PackedState.bytes (p : PackedState) : List Byte :=
  le 1 p.km ++ le 1 p.cp ++ le 2 p.cpDuty ++ le 4 p.shuFaults ++ le 1 p.out ++ le 1 p.outFault ++ le 1 p.hold
    ++ le 1 p.tamper ++ le 4 p.claim

/-- What the commit logic captures for an epoch (R16). -/
def capture (s : State) (e : Nat) : Captured :=
  { epoch := e, state := packedState s, mode := s.mode.mode, d3Gap := s.dom.d3Gap || !serving s
    role := s.hng.role.code, wedge := wedgeSet s.kiln.wedge, wedgeRegs := s.kiln.wedge
    civilS := civilSec (civilEnd s), civilF := civilFrac (civilEnd s), timeUnset := s.bil.timeUnset
    civil0 := s.bil.civil, civil1 := civilEnd s
    temp := if s.inp.tempN = 0 then s.inp.dieTemp else divRound s.inp.tempSum s.inp.tempN
    discharge := s.veh.discharge }

/-- The blocks of group 1 and the mode as they stand (R16, R20). -/
def heldNow (s : State) : Held :=
  { instant := s.clk.now, lifecycle := s.sag.lifecycle, dom := s.dom, mode := s.mode, recl := s.recl, inp := s.inp
    sie := s.sie, cal := s.cal, shu := s.shu, lsw := s.lsw, hng := s.hng, kiln := s.kiln
    tokens := tokensHeld s, store := s.hatch.notes.length }

/-- The bookkeeping of the Kiln misses at an epoch boundary (R249). -/
def missBoundary (s : State) : State :=
  setKiln (fun k => if k.missNow then { k with missNow := false, missRun := k.missRun + 1, cleanRun := 0 }
    else { k with missRun := 0, cleanRun := k.cleanRun + 1 }) s

/-- The next slot of the supraharmonic rotation after one (R155). -/
def nextShSlot (s : State) (k : Nat) : Option Nat :=
  ((List.range 8).map fun i => (k + 1 + i) % 8).find? (bitN (param s 0x02C7))

/-- A supraharmonic block ends and the next begins at an epoch that is a multiple of 20 (R155). -/
def shBoundary (e : Nat) (s : State) : State :=
  if e % 20 != 0 then s
  else
    let s := match s.pq.shFirst with
      | some f => setPq (fun q => { q with
          shDue := [⟨q.shSlot, f, param s 0x0264, q.shTx, q.shSamples.reverse⟩]
          missed := if q.shDue.isEmpty then q.missed else satInc 0xFFFFFFFF q.missed }) s
      | none => s
    let s := setPq (fun q => { q with shSamples := [], shTx := false }) s
    match nextShSlot s s.pq.shSlot with
    | some k => setPq (fun q => { q with shSlot := k, shFirst := some e }) s
    | none => setPq (fun q => { q with shFirst := none }) s

/-! Temperature compensation (R135–R137). -/

/-- The value of a table column at a temperature (R135). -/
def interpAt (t : TempTable) (temp : Int) (v : List Int) : Int :=
  let n := v.length
  let t' := clampI t.tFirst (t.tFirst + 500 * ((n : Int) - 1)) temp
  let k := min ((t' - t.tFirst) / 500).toNat (n - 2)
  let fr := t' - t.tFirst - 500 * k
  code v k + divRound ((code v (k + 1) - code v k) * fr) 500

/-- Column i of a list of rows. -/
def column (rows : List (List Int)) (i : Nat) : List Int := rows.map (code · i)

/-- Targets of a table at a temperature, against the value at T_CAL: dg and dt (R135). -/
def tcTargets (t : TempTable) (tCal temp : Int) : List Int × List Int :=
  let f (rows : List (List Int)) (i : Nat) : Int := interpAt t temp (column rows i) - interpAt t tCal (column rows i)
  ((List.range 14).map (f t.gainD), (List.range 3).map (f t.timeD))

/-- TC_COMPUTE (R135) at the timebase end of epoch e, from its mean die temperature: the new targets become pending for the
next epoch. They apply from its first sample under NO_SYNC, and at once after a D2 start, a change of MET.TC_ENABLE or a
table load (R136, R137); with compensation off or no table, dg and dt are 0 (log entry 70). None in HOLDUP (R144). -/
def tcCompute (temp : Int) (e : Nat) (s : State) : State :=
  if inHoldup s then s
  else
    let on := paramE s 0x02A3 (e + 1) == 1
    let free := s.cal.atOnce || paramE s 0x02A3 (e + 1) != paramE s 0x02A3 e
    let pend (now free : Bool) (x : List Int × List Int) (clamped : Bool) : State :=
      setCal (fun c => { c with
        pendingG := keepLast 4 (c.pendingG ++ [⟨x.1, e + 1, now, free⟩])
        pendingT := keepLast 4 (c.pendingT ++ [⟨x.2, e + 1, now, free⟩]), clamped := clamped, atOnce := false }) s
    match on, s.cal.table with
    | true, some t => pend (free || noSync s) free (tcTargets t ((s.cal.inForce.map (·.tCal)).getD 0) temp)
        (decide (temp < t.tFirst) || decide (t.tFirst + 500 * ((t.gainD.length : Int) - 1) < temp))
    | _, _ => pend true true (List.replicate 14 0, [0, 0, 0]) false

/-- EPOCH_STATE_CAPTURE (R16 step 1): the timebase end of an epoch. The compensation targets of R135 stand from then on. -/
def execEpochStateCapture (s : State) : Out :=
  whenever s.dom.d2 s fun s =>
    let t := s.clk.epochStart + Tick.epoch
    let s := advanceTo t s
    let c := capture s s.clk.epoch
    let slew := slewStep s.bil
    let s := setLed (fun l => { l with captured := l.captured ++ [c] }) s
    let s := { s with
      snap := { s.snap with captures := s.snap.captures ++ [(s.clk.epoch, heldNow s)] }
      clk := { s.clk with epoch := satInc max64 s.clk.epoch, epochStart := t }
      dom := { s.dom with d3Gap := !serving s }
      pwr := { s.pwr with supplyPeak := Config.supplyPeak (s.clk.epoch + 1) }
      bil := { s.bil with civil := s.bil.civil + 2048000 + slew, slewLeft := s.bil.slewLeft - slew } }
    let s := tcCompute c.temp c.epoch (setInp (fun i => { i with tempSum := 0, tempN := 0 }) s)
    shBoundary s.clk.epoch (wedgeBoundary (missBoundary s))

/-! Increments (R102, R103, R106, R107). -/

def pos (x : Int) : Nat := x.toNat
def neg (x : Int) : Nat := (-x).toNat

/-- Increments of registers 0–7 and 32–35 from per-sample phase energies and DC energies, through a gate. -/
def incOf (p : EpochParams) (gate : Nat) (l : List (List Int × Int × Int)) : List Nat :=
  let on := (List.range 3).filter (bitN gate)
  let imp (x : Nat) : Nat := if bitN gate x then sumN (l.map fun m => pos (code m.1 x)) else 0
  let exp (x : Nat) : Nat := if bitN gate x then sumN (l.map fun m => neg (code m.1 x)) else 0
  let net (m : List Int × Int × Int) : Int := sumI (on.map (code m.1))
  let tot : List Nat := match p.rule with
    | 0 => [sumN (l.map fun m => pos (net m)), sumN (l.map fun m => neg (net m))]
    | 1 => [imp 0 + imp 1 + imp 2, exp 0 + exp 1 + exp 2]
    | _ => [imp 0 + imp 1 + imp 2 + exp 0 + exp 1 + exp 2, 0]
  let dc (f : Int → Nat) (g : List Int × Int × Int → Int) : Nat := if bitN gate 3 then sumN (l.map fun m => f (g m)) else 0
  [imp 0, imp 1, imp 2, exp 0, exp 1, exp 2] ++ tot
    ++ [dc pos (·.2.2), dc neg (·.2.2), dc pos (·.2.1), dc neg (·.2.1)]

/-- The energies of a sample as `incOf` takes them: phases, raw DC, DC at the vehicle. -/
def Sample.energies (m : Sample) : List Int × Int × Int := (m.e, m.eRaw, m.eVeh)

def addN (a b : List Nat) : List Nat := List.zipWith (· + ·) a b
/-- The gate of an epoch, from the ones D2 keeps. -/
def gateOf (gates : List (Nat × Nat)) (e : Nat) : Nat := ((gates.find? (·.1 == e)).map (·.2)).getD 0

/-- The flush of the delay line for a mask of phases (R100): each pending half, under the gate and the scale of its own
epoch. -/
def flushInc (s : State) (gates : List (Nat × Nat)) (mask : Nat) : List Nat :=
  s.met.delay.foldl (fun acc d =>
    let p := epochParams s d.2.1
    let e := d.2.2.1.mapIdx fun x v => if p.on x && bitN mask x then v * wX (p.scale x) else 0
    addN acc (incOf p (gateOf gates d.2.1) [(e, 0, 0)])) (List.replicate 12 0)

/-- The delay line without the halves of a mask of phases. -/
def flushed (mask : Nat) (l : List (Nat × Nat × List Int × List Int)) : List (Nat × Nat × List Int × List Int) :=
  let f (v : List Int) : List Int := v.mapIdx fun x a => if bitN mask x then 0 else a
  if mask = 7 then [] else l.map fun d => (d.1, d.2.1, f d.2.2.1, f d.2.2.2)

/-- The register numbers of the 12 hardware increments (R173). -/
def hwRegs : List Nat := [0, 1, 2, 3, 4, 5, 6, 7, 32, 33, 34, 35]

/-- Fine totals with 12 hardware increments added. -/
def addHw (fine inc : List Nat) : List Nat :=
  fine.mapIdx fun r v => v + (if r < 8 then (inc[r]?).getD 0 else if 32 ≤ r then (inc[r - 24]?).getD 0 else 0)

/-- Fine totals with 24 Kiln increments added. -/
def addKiln (fine inc : List Nat) : List Nat :=
  fine.mapIdx fun r v => v + (if 8 ≤ r && r < 32 then (inc[r - 8]?).getD 0 else 0)

/-- Bits 5 and 6 of FLAGS for some samples (R173). -/
def sampleFlags (l : List Sample) : Nat :=
  packBits [false, false, false, false, false, l.any (fun m => m.invalid != 0), l.any (fun m => m.settling != 0)]

/-- The admitted increments of some samples, taken into the accumulators with their count and flags. -/
def accumulate (inc : List Nat) (n flags : Nat) (s : State) : State :=
  setMet (fun m => { m with
    incHw := addN m.incHw inc, nSamples := m.nSamples + n, incFlags := m.incFlags ||| flags }) s

/-! Calibration pulse outputs (R141, R142). -/

/-- Per-sample source of CF_P, q. -/
def cfPSource (src gate : Nat) (p : EpochParams) (m : Sample) : Nat :=
  let i := incOf p gate [m.energies]
  let at' (k : Nat) : Nat := (i[k]?).getD 0
  match src with
  | 0 => at' 6 | 1 => at' 7 | 2 => at' 6 + at' 7 | 3 => at' 8 | 4 => at' 10 | 5 => at' 0 | 6 => at' 1 | _ => at' 2

/-- Per-sample source of CF_Q, q. -/
def cfQSource (src gate : Nat) (m : Sample) : Nat :=
  let on := (List.range 3).filter (bitN gate)
  match src with
  | 0 => sumN (on.map fun x => (code m.qc x).natAbs)
  | 1 => sumN (on.map fun x => pos (code m.qc x))
  | 2 => sumN (on.map fun x => neg (code m.qc x))
  | _ => if bitN gate (src - 5) then (code m.qc (src - 5)).natAbs else 0

def cfThreshold (const : Nat) : Nat := divRoundN (10 ^ 9 * 2 ^ 65) const

/-- One sample's increment of an output whose last instant lies at tick `t`: at most one pulse, 12 ms after its crossing
and at least 0.5 ms after the previous one. The second value says that energy stayed behind (CF_OVERRATE). -/
def cfStep (thr : Nat) (t : Tick) (c : CfOut × Bool) (inc : Nat) : CfOut × Bool :=
  let o := c.1
  let acc := o.acc + inc
  if acc < thr then ({ o with acc := acc }, c.2)
  else
    let cross := t - Tick.sample + (if thr ≤ o.acc then 0 else divRoundN (64 * (thr - o.acc)) inc * 100)
    let due := cross + Tick.ms 12
    let edge := match o.lastEdge with | some l => max due (l + 102400) | none => due
    if edge ≤ t + Tick.ms 12 then
      ({ o with acc := acc - thr, edges := o.edges ++ [edge], lastEdge := some edge }, c.2 || edge != due)
    else ({ o with acc := acc }, true)

/-- The samples of an epoch through an output, sample n at tick start + n × 6 400. -/
def cfWalk (thr : Nat) (start : Tick) (incs : List Nat) (o : CfOut) : CfOut × Bool :=
  (incs.mapIdx fun n v => (start + n * Tick.sample, v)).foldl (fun c a => cfStep thr a.1 c a.2) (o, false)

/-- Both pulse outputs over the samples of an epoch (R141): they stop from t_f. -/
def cfEpoch (e gate : Nat) (l : List Sample) (s : State) : State :=
  if inHoldup s then s
  else
    let p := epochParams s e
    let start := s.clk.epochStart - (s.clk.epoch - e) * Tick.epoch
    let a := cfWalk (cfThreshold (paramE s 0x02A6 e)) start (l.map (cfPSource (paramE s 0x02A4 e) gate p)) s.cal.cfP
    let b := cfWalk (cfThreshold (paramE s 0x02A7 e)) start (l.map (cfQSource (paramE s 0x02A5 e) gate)) s.cal.cfQ
    setCal (fun c => { c with cfP := a.1, cfQ := b.1, overrate := c.overrate || a.2 || b.2 }) s

/-! Other work of the latch. -/

/-- Over-range conditions at the end of an epoch (R64): opening entries, and the count of quiet epochs. -/
def overRangeEpoch (e : Nat) (l : List Sample) (s : State) : State :=
  (List.range 10).foldl (fun s k =>
    let n := countWhere (fun m => bitN m.ovr k) l
    match s.inp.overRange.find? (·.slot == k) with
    | some _ =>
      setInp (fun i => { i with overRange := i.overRange.map fun o =>
        if o.slot != k then o
        else if 0 < n then { o with lastEpoch := e, samples := o.samples + n, quiet := 0 }
        else { o with quiet := o.quiet + 1 } }) s
    | none =>
      if n = 0 then s
      else
        raise (if k % 2 = 1 && k < 8 || k = 8 then 0x0201 else 0x0202) (le 2 k ++ zeros 2 ++ le 8 e)
          (setInp (fun i => { i with overRange := i.overRange ++ [⟨k, e, e, n, 0, true⟩] }) s)) s

/-- The reference and the quadrature delay for the next epoch (R86). -/
def quadUpdate (e : Nat) (l : List Sample) (s : State) : State :=
  let peak (k : Nat) : Bool := l.any fun m => decide (141 * 2 ^ 22 ≤ (code m.codes k).natAbs * 8000)
  let ref := [0, 2, 4].find? peak
  let xs : List Nat := match ref with
    | none => []
    | some k => (s.sie.crossings.filter fun c => c.1 == k / 2 && decide (e < c.2.1 + 16)).map (·.2.2)
  let p : Option (Nat × Nat) := match xs.head?, xs.getLast? with
    | some last, some first => if 2 ≤ xs.length then some (last - first, xs.length - 1) else none
    | _, _ => none
  setSie (fun x => { x with quadRef := ref, quadHeld := p.isNone, period := p.or x.period
                            quadD := (p.map fun v => clampN 31030 45511 (divRoundN v.1 (4 * v.2))).getD x.quadD
                            crossings := x.crossings.filter fun c => decide (e < c.2.1 + 32) }) s

/-- Windows whose first samples leave the ring of 40 epochs unanalysed are missed (R163). -/
def windowExpire (e : Nat) (q : Pq) : Pq :=
  let gone := countWhere (fun d : PqDue => decide (d.firstEpoch + 40 ≤ e)) q.due
  { q with due := q.due.filter fun d => decide (e < d.firstEpoch + 40), missed := min 0xFFFFFFFF (q.missed + gone) }

/-- Harmonic windows at the end of an epoch (R150, R165). -/
def windowEpoch (r : SumsRec) (s : State) : State :=
  let e := r.epoch
  let q := s.pq
  let idle : Pq := { q with winStart := none, winCount := 0, winRef := none }
  let openAt (q : Pq) : Pq :=
    match r.ref, r.xPos with
    | some k, some x => { q with winStart := some (x, e), winCount := 0, winRef := some k }
    | none, _ => if e % 20 = 0 then { q with winStart := some (320 * 256 * e, e), winCount := 0, winRef := none } else q
    | some _, none => q
  if paramE s 0x02C8 e = 0 then setPq (fun _ => idle) s
  else match q.winStart with
    | none => setPq openAt s
    | some (x0, e0) =>
      match q.winRef with
      | none =>
        if e = e0 + 19 then
          setPq (fun _ => { idle with due := q.due ++ [⟨e0, e, x0, 320 * 256 * (e + 1), 0, none⟩] }) s
        else s
      | some k =>
        if r.ref != some k then
          setPq (fun _ => openAt { idle with missed := satInc 0xFFFFFFFF q.missed }) s
        else match r.xPos with
          | none => s
          | some x =>
            if nwOf r.par.fNom ≤ q.winCount + 1 then
              setPq (fun _ => { q with due := q.due ++ [⟨e0, e, x0, x, nwOf r.par.fNom, some k⟩]
                                       winStart := some (x, e), winCount := 0 }) s
            else setPq (fun _ => { q with winCount := q.winCount + 1 }) s

/-! Journal entries (R173, R174). -/

/-- Kiln increments completed and not yet taken, summed (R174): K_SPAN, K_EPOCH, INC_KILN and BAL. -/
def kilnPart (s : State) : Nat × Nat × List Nat × List Int :=
  let bal := ((s.led.journal.getLast?).map (·.bal)).getD [0, 0, 0]
  s.met.kilnSets.foldl (fun a k => (a.1 + 1, k.epoch, addN a.2.2.1 k.inc, k.bal))
    (0, s.met.kEpoch, List.replicate 24 0, bal)

/-- FLAGS of an entry (R173). -/
def entryFlags (s : State) (c : Captured) : Nat :=
  packBits [c.mode == .holdup, c.d3Gap, c.wedge != 0, s.led.overload, s.led.replayStart, false, false, c.timeUnset,
    false, s.led.merged] ||| s.met.incFlags

/-- An entry with the accumulated increments (R173, R174). -/
def formEntry (kind e gate : Nat) (c : Captured) (s : State) : JournalEntry :=
  let k := kilnPart s
  { epoch := e, kind := kind, gate := gate, nSamples := s.met.nSamples, flags := entryFlags s c, kSpan := k.1
    incHw := s.met.incHw, kEpoch := k.2.1, incKiln := k.2.2.1, bal := k.2.2.2, state := c.state, valid := true }

/-- SNAP_FLAGS bits 8 + g (R21). -/
def staleBits (e : Nat) (through : List Nat) (s : State) : Nat :=
  let late (g limit : Nat) : Bool := decide ((through[g]?).getD 0 + limit < e)
  let old := s.led.readings.any fun r => r.signature.isNone && decide (r.epoch + 500 < e)
  packBits [false, false, late 2 5, late 3 5, late 4 5, late 5 40, late 6 5, old]

/-- Publication of the snapshot of an entry (R16 step 4, R18–R21). -/
def publish (j : JournalEntry) (c : Captured) (s : State) : State :=
  let e := j.epoch
  let g := s.snap.taken
  let through := [e, e, ((g.meas.map (·.epoch)).getD 0), s.met.kEpoch, g.through4, g.through5, g.through6,
    s.led.signedEpoch]
  let flags := packBits [c.wedge != 0, bitN j.flags 3, s.led.readings.any (·.signature.isNone), c.d3Gap,
    c.mode == .holdup, s.led.replayStart, s.led.hingeSwitched, c.timeUnset] + 256 * staleBits e through s
  let h := ((s.snap.captures.reverse.find? (·.1 == e)).map (·.2)).getD (heldNow s)
  let s := { s with snap := { s.snap with
    held := h, captures := s.snap.captures.filter fun x => decide (e < x.1), published := true, epoch := e, civilS := c.civilS, civilF := c.civilF, mode := c.mode, role := c.role
    flags := flags, through := through, wedgeSet := c.wedge, wedgeRegs := c.wedgeRegs, state := j.state
    fine := s.met.fine, temp := c.temp, groups := g, totalRule := paramE s 0x0200 e, phases := paramE s 0x0201 e } }
  setLed (fun l => { l with replayStart := false, hingeSwitched := false, rstInEpoch := 0 }) s

/-- The checkpoint of the present totals (R177). -/
def checkpointOf (s : State) (e : Nat) (bal : List Int) (seq : Nat) : Checkpoint :=
  { epoch := e, seq := seq, lastRst := s.led.nextRst - 1, kEpoch := s.met.kEpoch, fine := s.met.fine
    base := s.met.base, bal := bal, nextEvent := s.led.nextEvent, nextReading := s.led.nextReading
    nextPq := pqNext s.pq.events, valid := true }

/-- The sequence number of a copy, none when it is absent or invalid. -/
def ckptSeq : Option Checkpoint → Option Nat
  | some c => if c.valid then some c.seq else none
  | none => none

/-- The newest valid checkpoint (R178). -/
def newestCkpt (s : State) : Option Checkpoint :=
  match ckptSeq s.led.ckptA, ckptSeq s.led.ckptB with
  | some a, some b => if a < b then s.led.ckptB else s.led.ckptA
  | some _, none => s.led.ckptA
  | none, some _ => s.led.ckptB
  | none, none => none

/-- A checkpoint written into the older copy (R177). -/
def writeCkpt (e : Nat) (bal : List Int) (s : State) : State :=
  let seq := ((newestCkpt s).map fun c => satInc max64 c.seq).getD 1
  let c := checkpointOf s e bal seq
  let toB : Bool := match ckptSeq s.led.ckptA, ckptSeq s.led.ckptB with
    | some a, some b => decide (b < a)
    | some _, none => true
    | none, _ => false
  setLed (fun l => { (if toB then { l with ckptB := some c } else { l with ckptA := some c }) with
    rstSinceCkpt := 0 }) s

/-- A checkpoint where one is due after publication (R177). -/
def dueCkpt (e : Nat) (bal : List Int) (s : State) : State :=
  let next := ((newestCkpt s).map (·.epoch + 1)).getD 0
  if next + 99 ≤ e || 128 ≤ s.led.rstSinceCkpt then writeCkpt e bal s else s

/-- The entries that wait from the epochs that an entry covers become durable with it, each with its notification (R174, R188,
R197). -/
def flushEvents (p : Nat → Bool) (s : State) : State :=
  (s.led.eventsWait.filter fun e => p e.epoch).foldl (fun s e => storeEvent e s)
    (setLed (fun l => { l with eventsWait := l.eventsWait.filter fun e => !p e.epoch }) s)

/-- The epochs whose records become durable with an entry: a periodic one ends its epoch, any other ends a run (R174). -/
def entryCovers (j : JournalEntry) (e : Nat) : Bool := j.kind != 1 || decide (e ≤ j.epoch)

/-- Event entries and power-quality records in the same durable write as an entry (R174). -/
def flushRecords (j : JournalEntry) (s : State) : State := flushEvents (entryCovers j) (pqFlush (entryCovers j) s)

/-- The end of an epoch at a STANDBY: its ledger is the replica of the ACTIVE unit's, and its own increments are in OWN (R484). -/
def standbyEnd (j : JournalEntry) (s : State) : State :=
  flushRecords j (setMet (fun m => { m with kilnSets := [], incHw := List.replicate 12 0, nSamples := 0, incFlags := 0 })
    (setLed (fun l => { l with writing := none, notDurable := 0, merged := false }) s))

/-- Fine totals hold at 2^128 − 1 (R186). -/
def capFine (fine : List Nat) : List Nat := fine.map (min (2 ^ 128 - 1))

/-- An entry takes the next slot of the journal ring (R171). -/
def pushJournal (j : JournalEntry) (l : Ledger) : Ledger :=
  { l with journal := pushRing 2048 l.journal j, journalNext := (l.journalNext + 1) % 2048 }

/-- A journal entry is durable (R174): the totals advance by its increments, and the accumulators start again. -/
def entryDurable (j : JournalEntry) (s : State) : State :=
  if isStandby s then standbyEnd j s else
  let s := setLed (fun l => { pushJournal j l with notDurable := 0, merged := false, writing := none }) s
  let s := setMet (fun m =>
    let f := addHw m.fine j.incHw
    { m with
      fine := capFine (if 0 < j.kSpan then addKiln f j.incKiln else f)
      kEpoch := if 0 < j.kSpan then j.kEpoch else m.kEpoch
      kilnSets := m.kilnSets.filter fun k => decide (j.kEpoch < k.epoch)
      incHw := List.replicate 12 0, nSamples := 0, incFlags := 0 }) s
  flushRecords j (faultAbsent 9 255 s)

/-- The group 4 values as a copy holds them: the series have regions of their own. -/
def lsValues (b : Billing) : Billing := { b with profile := [], fineRecs := [], statements := [] }

/-- LS_SEQ of the newest ledger-state copy (R234); 0 where there is none. -/
def lsSeqNow (s : State) : Nat := max ((s.led.lsA.map (·.seq)).getD 0) ((s.led.lsB.map (·.seq)).getD 0)

/-- The marks of everything that the ledger holds now. -/
def marksNow (s : State) : HingeMarks :=
  ⟨s.led.nextEvent, s.led.nextRst, s.led.nextReading, s.bil.nextRec, s.bil.nextFine, s.bil.nextStmt, lsSeqNow s,
    (s.led.readings.filter (·.signature.isNone)).map (·.no),
    (s.bil.statements.filter (·.signature.isEmpty)).map (·.no)⟩

/-- The EPOCH message of an entry: the records written since the last message, with those that have been signed since, and the
ledger-state copy where one was written; the end of the epoch on the own timebase, or the present instant where the entry closed it
early. -/
def epochMsg (j : JournalEntry) (s : State) : HingeMsg :=
  let m := s.hng.marks
  { entry := j
    endsAt := min s.clk.now (s.clk.epochStart - (s.clk.epoch - (j.epoch + 1)) * (320 * Tick.sample))
    events := s.led.events.filter fun x => decide (m.events ≤ x.index)
    resets := s.led.resets.filter fun x => decide (m.resets ≤ x.seq)
    readings := s.led.readings.filter fun x =>
      decide (m.readings ≤ x.no) || (x.signature.isSome && m.unsignedReadings.contains x.no)
    profile := s.bil.profile.filter fun x => decide (m.recs ≤ x.no)
    fineRecs := s.bil.fineRecs.filter fun x => decide (m.fine ≤ x.no)
    statements := s.bil.statements.filter fun x =>
      decide (m.statements ≤ x.no) || (!x.signature.isEmpty && m.unsignedStatements.contains x.no)
    ledger := if m.ledger < lsSeqNow s then some (lsValues s.bil) else none
    sessionId := s.veh.sessionId }

/-- Replication of a committed epoch by the ACTIVE unit (R484): the message leaves as Wedge register 5 lets it, and SYNCED ends where
the acknowledged epoch has fallen more than 5 epochs behind. -/
def replicate (j : JournalEntry) (s : State) : State :=
  if hingeOn s && s.hng.role == .active then
    let s := setHng (fun h => { h with
      sentEpoch := j.epoch, outMsg := some (s.clk.now + wedgeLink s 4, epochMsg j s), marks := marksNow s }) s
    if s.hng.synced && decide (s.hng.acked + 5 < j.epoch) then setSynced false s else s
  else s

/-- An entry that is durable and followed by its snapshot (R16 steps 3 and 4). -/
def commitDurable (j : JournalEntry) (c : Captured) (s : State) : State :=
  let s := setLed (fun l => { l with captured := l.captured.filter fun x => decide (j.epoch < x.epoch) }) s
  let s := publish j c (entryDurable j s)
  if isStandby s then s else replicate j (dueCkpt j.epoch j.bal s)

/-! The latch (R16 step 2). -/

/-- The group results of Kiln as they stand (R16 step 2, R21). Group 4 stays as published while Kiln recomputes it from its own
checkpoint after a D3 reset (R22, R180). -/
def takeGroups (s : State) : State :=
  let t := s.snap.taken
  let back := decide (s.bil.through < t.through4)
  { s with snap := { s.snap with taken := {
      meas := s.met.meas, through3 := (kilnPart s).2.1, through4 := if back then t.through4 else s.bil.through
      bil := if back then t.bil else s.bil, through5 := s.pq.through, through6 := s.kiln.vDone, veh := s.kiln.veh } } }

/-- What was captured at the end of an epoch; for the epoch in progress, as it stands. -/
def capturedOf (s : State) (e : Nat) : Captured := (s.led.captured.find? (·.epoch == e)).getD (capture s e)

/-- OWN of a STANDBY takes the increments of an epoch after the sample that ends the last replicated epoch, with what the
delay line gives up (R484). -/
def ownEpoch (e gate : Nat) (l : List Sample) (flush : List Nat) (s : State) : State :=
  if isStandby s && decide (s.hng.ownFrom < 320 * (e + 1)) then
    let part := (l.drop (s.hng.ownFrom - 320 * e)).map Sample.energies
    setHng (fun h => { h with own := addHw h.own (addN (incOf (epochParams s e) gate part) flush) }) s
  else s

/-- Increments of an epoch and their record (R106, R207, R227), with the pending halves of the phases that stop accumulating
with it (R100: FLAGS bit 8). -/
def epochInc (e gate : Nat) (l : List Sample) (stop : Nat) (s : State) : State :=
  let p := epochParams s e
  let gates := ((e, gate) :: s.met.gates).take 4
  let fl := flushInc s gates stop
  let inc := addN (incOf p gate (l.map Sample.energies)) fl
  let split := (s.met.armed.find? (·.1 == e)).map (·.2)
  let before := match split with
    | some i => incOf p gate ((l.take i).map Sample.energies)
    | none => inc
  let s := accumulate inc l.length (sampleFlags l ||| (if stop = 0 then 0 else 256)) (ownEpoch e gate l fl s)
  let c := capturedOf s e
  let flags := (if sampleFlags l = 0 then 0 else 512) + (if c.wedge = 0 then 0 else 1024)
  setMet (fun m => { m with
    incs := pushRing 512 m.incs
      ⟨e, inc, split, before, addHw m.fine m.incHw, flags, c.civil0, c.civil1, c.mode.code, c.timeUnset⟩
    armed := m.armed.filter fun a => decide (e < a.1)
    delay := if stop = 0 then m.delay else flushed stop m.delay, gates := gates }) s

/-- The delay line flushed although the epoch in progress has no sample (R100): its halves join the newest epoch recorded. -/
def flushDelay (s : State) : State :=
  let fl := flushInc s s.met.gates 7
  let s := accumulate fl 0 256 (ownEpoch s.met.epoch 0 [] fl s)
  setMet (fun m => { m with
    delay := []
    incs := match m.incs.getLast? with
      | some i => m.incs.dropLast ++ [{ i with inc := addN i.inc fl, fineEnd := addHw i.fineEnd fl }]
      | none => [] }) s

/-- Phases that stop accumulating after an epoch (R100): all when Sieve halts, and those that MET.PHASE_ENABLE switches off. -/
def stopping (s : State) (e : Nat) (halts : Bool) : Nat :=
  if halts then 7
  else packBits ((List.range 3).map fun x => bitN (paramE s 0x0201 e) x && !bitN (paramE s 0x0201 (e + 1)) x)

/-- Sieve halts after this epoch (R92, R100). -/
def haltsAfter (s : State) (e : Nat) : Bool :=
  s.sie.haltAt == some (e + 1) || (s.sie.halted && s.sie.haltFirst == e + 1)

/-- The span of MET_CAL_MEASURE at the end of an epoch (R147). -/
def spanEpoch (temp : Int) (e : Nat) (s : State) : State :=
  setCal (fun c => { c with span := c.span.map fun sp =>
    if sp.first ≤ e && sp.done < sp.nEpochs then { sp with done := sp.done + 1, tempSum := sp.tempSum + temp } else sp }) s

/-- EPOCH_LATCH (R16 step 2): the last sample of the epoch has left the main path. -/
def latchEpoch (c : Captured) (s : State) : State :=
  let e := s.met.epoch
  let l := s.met.samples
  let r := sumsRec s e l c.discharge
  let s := epochInc e r.gate l (stopping s e (haltsAfter s e)) s
  let s := setMet (fun m => { m with
    ring := pushRing 542 m.ring r, samples := [], epoch := satInc max64 e }) s
  let s := setLed (fun x => { x with waveRing := pushRing 40 x.waveRing (e, l) }) s
  let s := if haltedAt s e then s else cfEpoch e r.gate l s
  let s := overRangeEpoch e l s
  let s := spanEpoch c.temp e (quadUpdate e l (windowEpoch r (setPq (windowExpire e) s)))
  let s := if s.cal.inForce.isNone then metFault 8 255 s else s
  let j := formEntry 1 e r.gate c s
  let s := takeGroups s
  setLed (fun x => { x with writing := some (j, c), overload := false }) s

def execEpochLatch (s : State) : Out :=
  match s.led.captured.find? (·.epoch == s.met.epoch) with
  | some c => whenever (s.dom.d2 && s.led.writing.isNone && decide (s.met.samples.length = 320)) s (latchEpoch c)
  | none => .next s

/-- No entry has been durable for 100 consecutive epochs (R175). -/
def execJournalNotDurable (s : State) : Out :=
  whenever (s.dom.d2 && decide (100 ≤ s.led.notDurable)) s (metFault 9 255)

/-! Entries of KIND 2 to 5 (R176, R184). -/

/-- The samples of the epoch in progress taken into the accumulators and its sums into the ring, and the delay line flushed
(R100, R106, R118). -/
def closeAccumulation (s : State) : State :=
  let e := s.met.epoch
  let l := s.met.samples
  let gate := if l.isEmpty then 0 else gateMask (epochParams s e) l
  let r := sumsRec s e l s.veh.discharge
  let s := if l.isEmpty then flushDelay s
    else setMet (fun m => { m with ring := pushRing 542 m.ring r }) (overRangeEpoch e l (epochInc e gate l 7 s))
  setMet (fun m => { m with samples := [] }) s

/-- The epoch of the last sample not yet durable (R176): the epoch in progress where it has a sample, else the last one
latched, else that of the newest durable entry. -/
def lastSampleEpoch (s : State) : Nat :=
  if !s.met.samples.isEmpty then s.met.epoch
  else if 0 < s.met.nSamples then s.met.epoch - 1
  else ((s.led.journal.getLast?).map (·.epoch)).getD (s.met.epoch - 1)

/-- An entry of KIND 2, 3 or 5 with the delay-line flush; D2 accumulates no more. It covers the samples of a write that has not
completed (R175). Its STATE is that of the end of its epoch, or of the rail warning (R173). Only KIND 2 and 3 are followed by
a publication (R184). -/
def finalEntry (kind : Nat) (s : State) : State :=
  let e := lastSampleEpoch s
  let c := capturedOf s e
  let c := if kind = 5 then { c with state := packedState s } else c
  let s := setLed (fun l => { l with merged := l.merged || l.writing.isSome, writing := none }) (closeAccumulation s)
  let j := formEntry kind e (gateOf s.met.gates e) c s
  let s := takeGroups s
  let s := setLed (fun l => { l with lastClose := if kind = 5 then l.lastClose else e }) s
  if kind = 5 then entryDurable j s else commitDurable j c s

/-- The KIND 4 entry: the Kiln increments and balance through the final epoch; group 2 is journalled with it (R118); no
publication follows (R184). -/
def kilnFinalEntry (s : State) : State :=
  let e := ((s.led.journal.getLast?).map (·.epoch)).getD 0
  let c := capture s e
  let s := setLed (fun l => { l with finalMeas := s.met.meas }) s
  entryDurable { formEntry 4 e 0 c s with incHw := List.replicate 12 0, nSamples := 0 } s

/-! The final commit (R184). -/

/-- The final commit is written once every sample through that at t_d has left the path and no other write is under way. -/
def finalIfReached (s : State) : State :=
  if s.hold.stage == .finalCommit && decide (s.hold.tdSample < sampleNow s) && s.led.writing.isNone then
    let s := finalEntry 2 s
    { s with hold := { s.hold with stage := .signedReading } }
  else s

/-- D2 accumulates until its final commit. -/
def accumulates (s : State) : Bool :=
  s.dom.d2 && (s.hold.stage == .idle || s.hold.stage == .waitAbsent
    || (s.hold.stage == .finalCommit && decide (sampleNow s ≤ s.hold.tdSample)))

/-- MAIN_PATH_SAMPLE (R100): the next sample of the epoch leaves the main path. -/
def execMainPathSample (s : State) : Out :=
  whenever (accumulates s && decide (s.met.samples.length < 320)) s fun s =>
    let s :=
      if haltedAt s s.met.epoch then takeSample ⟨List.replicate 10 0, 0, 0⟩ (List.replicate 10 0) true s
      else match s.sie.rows with
        | row :: next :: rest =>
          takeSample row next.codes false (setSie (fun i => { i with rows := next :: rest }) s)
        | _ => s
    finalIfReached s

/-! Completion of the write (R175). -/

/-- JOURNAL_APPEND_COMPLETE: whether the first write, and otherwise the retry, verified. -/
def execJournalAppendComplete (firstOk retryOk : Bool) (s : State) : Out :=
  match s.led.writing with
  | none => .next s
  | some (j, c) =>
    if firstOk then .next (finalIfReached (commitDurable j c s))
    else if retryOk then
      .next (finalIfReached (diagTrigger 9 0 (commitDurable j c
        (setLed (fun l => { l with retries := satInc 0xFFFFFFFF l.retries }) s))))
    else .next (finalIfReached (setLed (fun l => { l with
      writing := none, merged := true, notDurable := l.notDurable + 1, overload := l.overload || bitN j.flags 3
      captured := l.captured.filter fun x => decide (j.epoch < x.epoch) }) s))

/-- RAIL_WARNING (R176): the KIND 5 entry; D2 accumulates no further, and its pulse outputs are low (R141; log entry 19). -/
def execRailWarning (s : State) : Out :=
  whenever s.dom.d2 s fun s =>
    let s := setCal (fun c => { c with cfP := {}, cfQ := {} }) (finalEntry 5 s)
    { s with dom := { s.dom with d2 := false } }

end Sys2Proof.Machine
end

