-- ==== Sys2Proof/Machine/Energy.lean ====
section
/-! DEFINITION. Energy opcodes (05, 08): cumulative and delta registers, the durable read-and-reset, measured quantities, epoch
sums, and the conditions NEUTRAL_MISMATCH and REVERSE_FLOW. -/

namespace Sys2Proof.Machine

/-- The cumulative reading of a fine total (R109). -/
def cumOf (f : Nat) : Nat := f / (1000 * 2 ^ 65)

def throughOf (s : State) (g : Nat) : Nat := (s.snap.through[g]?).getD 0

def execMetEnergyRead (r : Req) (s : State) : Out :=
  brixo 0x0200 r s fun s => answer s stOk (le 8 (throughOf s 3) ++ le 1 s.snap.totalRule ++ le 1 s.snap.phases ++ zeros 2
    ++ s.snap.fine.flatMap fun f => le 8 (cumOf f))

/-- The 36 deltas at the snapshot's reset points (R181 step 2), 0 for a register not selected. -/
def deltas (s : State) (mask : Nat) : List Nat :=
  (List.range 36).map fun n =>
    if bitN mask n then ((s.snap.fine[n]?).getD 0 - (s.met.base[n]?).getD 0) / 2 ^ 65 else 0

/-- Reply fields of MET_DELTA_READ (R126). -/
def deltaBody (s : State) (mask : Nat) (d : List Nat) : List Byte :=
  le 8 (throughOf s 3) ++ le 8 mask ++ (maskIdx 36 mask).flatMap fun n => le 8 ((d[n]?).getD 0)

/-- The reset entry of some deltas, and the baselines advanced by them (R181 steps 3 and 4); none when all are 0 (R182). -/
def writeReset (r : Req) (mask : Nat) (d : List Nat) (s : State) : State :=
  if d.all (· == 0) then s
  else
    let e : ResetEntry := ⟨s.led.nextRst, s.snap.epoch, throughOf s 3, mask, r.sender.code, r.chan, r.seq, d, true⟩
    let s := setLed (fun l => { l with
      resets := pushRing 256 l.resets e, nextRst := satInc max64 l.nextRst, rstInEpoch := l.rstInEpoch + 1
      rstSinceCkpt := l.rstSinceCkpt + 1 }) s
    setMet (fun m => { m with base := List.zipWith (fun b v => b + v * 2 ^ 65) m.base d }) s

/-- MET_DELTA_READ (R181, R182): a read-and-reset follows those that wait, in order of arrival; in RECOVERY the ledger is
read-only (R30; log entry 80). -/
def execMetDeltaRead (r : Req) (mask reset : Nat) (s : State) : Out :=
  brixo 0x0201 r s fun s =>
    if reset = 1 && !admits s .network r.sender then refuse s stSender
    else if mask = 0 || 2 ^ 36 ≤ mask || 1 < reset then refuse s stBadParam
    else if reset = 1 && s.mode.mode == .recovery then refuse s stWrongMode
    else if reset = 1 && isStandby s then refuse s stNotActive
    else if reset = 1 && (decide (8 ≤ s.led.rstInEpoch) || !s.led.delayed.isEmpty) then
      later (setLed (fun l => { l with delayed := l.delayed ++ [⟨r, mask⟩] }) s)
    else
      let d := deltas s mask
      answer (if reset = 1 then writeReset r mask d s else s) stOk (deltaBody s mask d)

/-- DELAYED_READ_AND_RESET (R182): the oldest waiting request, built from the snapshot published since. -/
def execDelayedReadAndReset (s : State) : Out :=
  match s.led.delayed with
  | [] => .next s
  | q :: rest =>
    whenever (decide (s.led.rstInEpoch < 8)) s fun s =>
      let d := deltas s q.mask
      let body := deltaBody s q.mask d
      replyTo (some q.req) 0x0201 stOk body (writeReset q.req q.mask d (setLed (fun l => { l with delayed := rest }) s))

/-- A PHASE record (R127). -/
def PhaseMeas.bytes (p : PhaseMeas) : List Byte :=
  le 4 p.vrms ++ le 4 p.irms ++ leI 4 p.p ++ leI 4 p.q ++ le 4 p.s ++ leI 2 p.pf ++ le 2 p.flags

/-- Group 2 before its first result: all 0, with the reset values GATED and NO_SYNC (R127). -/
def noMeas : Meas := ⟨0, 0, List.replicate 3 ⟨0, 0, 0, 0, 0, 0, 2⟩, 0, 0, 0, 0, 0, 0, 1, 0, 0, 0, 0⟩

def execMetMeasRead (r : Req) (s : State) : Out :=
  brixo 0x0202 r s fun s =>
    let m := s.snap.groups.meas.getD noMeas
    answer s stOk (le 8 (throughOf s 2) ++ le 4 m.freq ++ m.phases.flatMap PhaseMeas.bytes ++ le 4 m.inRms ++ le 4 m.rRms
      ++ leI 4 m.pTot ++ leI 4 m.qTot ++ le 4 m.sTot ++ leI 2 m.pfTot ++ le 2 m.flags ++ leI 4 m.dcV ++ leI 4 m.dcI
      ++ leI 4 m.dcP ++ leI 4 m.dcPVeh)

def execMetSumsRead (r : Req) (epoch : Nat) (s : State) : Out :=
  brixo 0x0203 r s fun s =>
    match s.met.ring.find? fun x => x.epoch == epoch && decide (s.met.epoch ≤ epoch + 512) with
    | none => refuse s stEpochNotHeld
    | some x => answer s stOk (le 8 x.epoch ++ le 2 (x.xIdx.getD 0xFFFF) ++ leI 1 x.xFrac ++ le 1 (x.ref.getD 0xFF)
        ++ le 2 x.validMask ++ zeros 2 ++ x.phase.flatMap (fun p => p.flatMap (leI 8)) ++ x.neutral.flatMap (leI 8)
        ++ x.dc.flatMap (leI 8))

/-! Neutral mismatch and reversed flow (R119, R120). The windows bring the conditions about in the order of their epochs,
each under the parameters of its own epoch (R103); NEUTRAL_MISMATCH and REVERSE_FLOW then record the changes. -/

/-- The threshold of R119, µA: MET.NEUTRAL_LIMIT, or MET.NEUTRAL_FRAC % of the largest phase current. -/
def neutralThr (p : EpochParams) (m : Meas) : Nat :=
  max (1000 * p.neutralLimit) (p.neutralFrac * maxOf (m.phases.map (·.irms)) / 100)

/-- The window calls for a change of the NEUTRAL_MISMATCH condition. -/
def neutralTurns (active : Bool) (p : EpochParams) (m : Meas) : Bool :=
  if active then decide (10 * m.rRms < 8 * neutralThr p m)
  else p.neutralOn == 1 && decide (neutralThr p m < m.rRms)

/-- Power of a phase of a window. -/
def powerIn (m : Meas) (x : Nat) : Int := ((m.phases[x]?).map (·.p)).getD 0

/-- The window calls for a change of REVERSE_FLOW on a phase. -/
def reverseTurns (active : Bool) (r : SumsRec) (m : Meas) (x : Nat) : Bool :=
  if active then decide (0 ≤ powerIn m x)
  else !r.discharge && decide (powerIn m x < -(1000 * (r.par.reverseP : Int)))

/-- A run of windows that call for a change, after one more; it ends in the change after `limit` of them. -/
def turnRun (turns : Bool) (run limit : Nat) : Nat × Bool :=
  if !turns then (0, false) else if limit ≤ run + 1 then (0, true) else (run + 1, false)

/-- NEUTRAL_MISMATCH after a new window (R119). -/
def neutralWindow (r : SumsRec) (m : Meas) (s : State) : State :=
  let was := s.met.neutral
  let n := turnRun (neutralTurns was r.par m) s.met.neutralRun (100 * r.par.neutralTime)
  setMet (fun x => { x with
    neutralRun := n.1, neutral := was != n.2
    changes := if n.2 then x.changes ++ [⟨0, !was, m.rRms⟩] else x.changes }) s

/-- REVERSE_FLOW of a phase after a new window (R120). -/
def reverseWindow (r : SumsRec) (m : Meas) (s : State) (x : Nat) : State :=
  let was := bitN s.met.reverse x
  let n := turnRun (reverseTurns was r m x) ((s.met.reverseRun[x]?).getD 0) (100 * r.par.reverseTime)
  setMet (fun y => { y with
    reverseRun := y.reverseRun.set x n.1, reverse := setBitN y.reverse x (was != n.2)
    changes := if n.2 then y.changes ++ [⟨x + 1, !was, powerIn m x⟩] else y.changes }) s

/-- Both conditions after a new window. -/
def condWindow (r : SumsRec) (m : Meas) (s : State) : State :=
  (List.range 3).foldl (reverseWindow r m) (neutralWindow r m s)

/-- The oldest unrecorded change of a condition. -/
def changeOf (s : State) (cond : Nat) : Option CondChange := s.met.changes.find? (·.cond == cond)

/-- That change is recorded. -/
def dropChange (c : CondChange) (s : State) : State := setMet (fun x => { x with changes := x.changes.erase c }) s

/-- NEUTRAL_MISMATCH (R119): a change of the condition is recorded, with the tamper response. -/
def execNeutralMismatch (s : State) : Out :=
  match changeOf s 0 with
  | none => .next s
  | some c =>
    whenever s.dom.d3 s fun s =>
      let s := logNowF 0x020B (b2n (!c.begins)) 0xFF (le 4 c.value.toNat) (dropChange c s)
      if c.begins then tamperBegin 1 s else tamperEnd 1 s

/-- Some phase's recorded state is REVERSE_FLOW: what the condition is, less the changes not yet recorded. -/
def reverseLogged (s : State) : Bool := bitN s.sag.tamperActive 2

/-- REVERSE_FLOW (R120) of a phase: a change of the condition is recorded. The tamper source is active while some phase has
the condition. -/
def execReverseFlow (x : Nat) (s : State) : Out :=
  match changeOf s (x + 1) with
  | none => .next s
  | some c =>
    whenever s.dom.d3 s fun s =>
      let s := logNowF 0x020C (b2n (!c.begins)) 0xFF (le 1 x ++ zeros 3 ++ leI 4 c.value) (dropChange c s)
      if c.begins then (if reverseLogged s then s else tamperBegin 2 s)
      else if reverseLogged s && s.met.reverse = 0 then tamperEnd 2 s else s

end Sys2Proof.Machine
end

