-- ==== Sys2Proof/Machine/Shutter.lean ====
section
/-! DEFINITION. Shutter in operation (14): the evaluation cycle and its trips, contactor drive, Kiln's requests, the
residual-current self-test and the weld test. -/

namespace Sys2Proof.Machine

/-! Contactors and the pilot (R313, R339–R341). -/

def kmEnabled (s : State) (k : Nat) : Bool := bitN (param s 0x0600) k

/-- What drives the coil of contactor k, as a percentage of VAUX_IN: full in the pull-in, SHU.KM_HOLD after it (R339). -/
def coilLevel (s : State) (k : Nat) : Nat :=
  if !(if k = 0 then coil1 s else coil2 s) then 0 else if s.shu.pullInEnd.isSome then 100 else param s 0x060F

/-- Every enabled feedback reports closed. -/
def kfbAllClosed (s : State) : Bool := (!kmEnabled s 0 || s.shu.kfb1) && (!kmEnabled s 1 || s.shu.kfb2)

/-- The nominal duty of a current in mA, 0.1 % (R313). -/
def dutyOf (mA : Nat) : Nat :=
  if mA < 6000 then 0 else if mA ≤ 51000 then mA / 60 else min mA 80000 / 250 + 640

/-- A conversion of a pad level into "reports closed" through SHU.KFB_POLARITY (R341). -/
def kfbClosed (s : State) (k : Nat) (high : Bool) : Bool := if bitN (param s 0x060C) k then high else !high

/-- Phases, DC and feedbacks that show a weld (R351, R362 WELD_DETECTED poles). -/
def weldPoles (s : State) : Nat :=
  let excess (x : Nat) : Bool := decide (1000 * param s 0x0610 < (s.shu.urmsHalf[x]?).getD 0)
  packBits [excess 0, excess 1, excess 2, s.shu.wasDc && decide (1000 * param s 0x0611 < s.shu.mod1),
    kmEnabled s 0 && s.shu.kfb1, kmEnabled s 1 && s.shu.kfb2]

/-- CLOSE_BLOCK (R340). -/
def rcmValid (s : State) : Bool :=
  s.shu.rcmTest.isNone && (match s.shu.rcmPass with
    | some t => decide (s.clk.now ≤ t + Tick.s (60 * param s 0x0608))
    | none => false)

def closeBlock (s : State) : Nat :=
  packBits [s.shu.latches != 0, s.mode.mode != .service, s.shu.cpState != 3, s.shu.estopA || s.shu.estopB, !s.inp.peOk,
    !rcmValid s, s.shu.kfb1 || s.shu.kfb2, weldPoles s % 16 != 0, s.recl.required, s.shu.sresetLow.isSome,
    s.shu.stop.isSome, decide (s.shu.vaux < 10500)]

/-- SAFE_OK signals healthy (R357). -/
def safeOk (s : State) : Bool := s.dom.d1 && s.shu.agree && s.shu.latches == 0 && !inHoldup s

/-- The connector lock is held (R352). -/
def lockHeld (s : State) : Bool :=
  coilOn s || bitN s.shu.latches 9 || (phasesOn s ++ [3]).any (fun x => rmsReaches s x 1000)

/-! The residual-current self-test (R347). -/

/-- The self-test starts, or waits until both coils are de-energised; one that runs goes on. -/
def startRcm (cause : Nat) (dest : Option Req) (s : State) : State :=
  if s.shu.rcmTest.isSome then s
  else if coilOn s then setShu (fun x => { x with rcmWant := some cause }) s
  else setShu (fun x => { x with rcmTest := some ⟨1, cause, 0, dest⟩, rcmWant := none }) s

/-- The end of a test: RCM_SELFTEST, SHU_EVENT and the reply of SHU_RCM_TEST; a failure latches RCM_SENSOR. -/
def endRcm (t : RcmTest) (result dc ac : Nat) (s : State) : State :=
  let pass := result == 0
  let s := setShu (fun x => { x with
    rcmTest := none
    rcmPass := if pass then some s.clk.now else none
    rcmPassEpoch := if pass then s.clk.epoch else 0 }) s
  let s := raise 0x0604 (le 1 result ++ le 1 t.cause ++ zeros 2 ++ le 2 dc ++ le 2 ac) s
  let s := if pass then s else tripPlain lRcmSensor 3 s
  let s := shuEvent 7 (if pass then 0 else lRcmSensor) s
  replyTo t.dest 0x0605 stOk (le 1 result ++ zeros 3 ++ le 2 dc ++ le 2 ac ++ le 8 s.clk.epoch) s

/-- A residual as the demodulator gives it, corrected by SHU.RCM_GAIN (R345). -/
def rcmGain (s : State) (x : Int) : Int := divRound (x * param s 0x0606) (2 ^ 30)

/-- A reading of one channel passes a step: 1 offset, 2 the 10.0 mA DC step, 3 the 40 mA AC step; in steps 2 and 3 the
detector must assert. -/
def rcmStepOk (s : State) (step : Nat) (dc0 : Int) (ac0 : Nat) : Bool :=
  let dc := rcmGain s dc0
  let ac := (rcmGain s ac0).toNat
  match step with
  | 1 => decide (dc.natAbs < 10) && decide (ac < 10)
  | 2 => decide (80 ≤ dc.natAbs) && decide (dc.natAbs ≤ 120) && decide (param s 0x0605 ≤ dc.natAbs)
  | _ => decide (320 ≤ ac) && decide (ac ≤ 480) && decide (10 * param s 0x0604 ≤ ac)

/-- RCM_SELFTEST_STEP_END: 50 ms, 350 ms and 60 ms (R347). -/
def execRcmSelftestStepEnd (m : RcmReading) (s : State) : Out :=
  match s.shu.rcmTest with
  | none => .next s
  | some t =>
    whenever s.dom.d1 s fun s =>
      let s := advanceTo (s.clk.now + Tick.ms ((([50, 350, 60] : List Nat)[t.step - 1]?).getD 0)) s
      let okA := rcmStepOk s t.step m.dcA m.acA
      let okB := rcmStepOk s t.step m.dcB m.acB
      let dc := if t.step = 2 then (rcmGain s m.dcA).natAbs else t.dc
      let ac := if t.step = 3 then (rcmGain s m.acA).toNat else 0
      if !m.excitationOk then endRcm t 5 dc ac s
      else if okA != okB then endRcm t 4 dc ac s
      else if !okA then endRcm t t.step dc ac s
      else if t.step = 3 then endRcm t 0 dc ac s
      else setShu (fun x => { x with rcmTest := some { t with step := t.step + 1, dc := dc } }) s

/-- RCM_SELFTEST_AGE (R347). -/
def execRcmSelftestAge (s : State) : Out :=
  match s.shu.rcmPass with
  | none => .next s
  | some t =>
    whenever (s.dom.d1 && s.shu.rcmTest.isNone) s fun s =>
      startRcm 3 none (setShu (fun x => { x with rcmPass := none, rcmPassEpoch := 0 })
        (advanceTo (t + Tick.s (60 * param s 0x0608)) s))

/-! The evaluation cycle (R337, R338). -/

/-- The three residual detectors of one channel (R346): latches and the quantity of the first that asserts. -/
def rcmDetect (s : State) (c : ChanIn) : Nat × Option Int :=
  if param s 0x0603 = 0 || !coilOn s then (0, none)
  else
    let rms := rcmGain s c.ac
    let dc50 := rcmGain s c.dc50
    let dc300 := rcmGain s c.dc300
    let ac := decide ((10 * param s 0x0604 : Int) ≤ rms)
    let fast := decide (600 ≤ dc50.natAbs)
    let slow := decide (param s 0x0605 ≤ dc300.natAbs)
    (packBits [false, false, ac, fast || slow],
      if ac then some rms else if fast then some dc50 else if slow then some dc300 else none)

/-- Overcurrent of R348: the largest current concerned, mA. -/
def overcurrent (s : State) : Option Nat :=
  if shuDcSession s then
    if 2 * iPerm s true ≤ mod0Ma s then some (mod0Ma s) else none
  else
    let lim := 2 * iPerm s false
    let hit := (phasesOn s).filter fun x => rmsReaches s x lim || rmsReaches s x (7 * iScale s x / 10)
    if hit.isEmpty then none else some (maxOf (hit.map (rmsMa s)))

/-- Latches that the pilot, the earth and the PWM period call for (R338, R349, R350). -/
def pilotTrips (s : State) (i : CycleIn) : Nat :=
  let act := shuSession s
  (if act && (s.shu.cpState == 5 || s.shu.cpState == 0) then lCpError else 0)
    + (if act && s.shu.diodeMissing then lDiode else 0)
    + (if coilOn s && !s.inp.peOk then lPeLoss else 0)
    + (if s.shu.cpDrive == .pwm && (decide (i.pwmNs < 970000) || decide (1030000 < i.pwmNs)) then lChannel else 0)

/-- The larger of two residuals by magnitude. -/
def worse (a b : Int) : Int := if a.natAbs < b.natAbs then b else a

/-- One emergency-stop line open and the other closed: since when (R344). -/
def discrepWatch (s : State) : State :=
  setShu (fun x => { x with
    discrepSince := if x.estopA != x.estopB then x.discrepSince.or (some s.clk.now) else none }) s

/-- The pads and measurements of a cycle enter the state (R341, R344, R356). -/
def cycleInputs (i : CycleIn) (s : State) : State :=
  let closed (k : Nat) (a b : Bool) : Bool := kfbClosed s k a || kfbClosed s k b
  let k1 := closed 0 i.a.kfb1 i.b.kfb1
  let k2 := closed 1 i.a.kfb2 i.b.kfb2
  let agree := i.a.kfb1 == i.b.kfb1 && i.a.kfb2 == i.b.kfb2 && i.a.estopA == i.b.estopA && i.a.estopB == i.b.estopB
  let s := setShu (fun x => { x with
    kfb1 := k1, kfb2 := k2
    estopA := x.estopA && (i.a.estopA || i.b.estopA), estopB := x.estopB && (i.a.estopB || i.b.estopB)
    rcmAc := (rcmGain s (max i.a.ac i.b.ac)).toNat, rcmDc := rcmGain s (worse i.a.dc300 i.b.dc300)
    vaux := i.vaux, mod1 := i.mod1, oscB := i.oscB, linkBad := if i.linkOk then 0 else min 3 (x.linkBad + 1)
    agree := agree, agreeSince := if agree && !x.agree then s.clk.now else x.agreeSince
    splitSince := if agree then none else x.splitSince.or (some s.clk.now)
    supplyLow := if coilOn s && decide (i.vaux < 10000) then x.supplyLow.or (some s.clk.now) else none
    sresetLow := if i.sreset then x.sresetLow.or (some s.clk.now) else x.sresetLow
    wasDc := if shuSession s then x.limitIsDc else x.wasDc }) s
  let s := discrepWatch s
  let s := setPq (fun q => { q with closedSince := if k1 && k2 then q.closedSince.or (some s.clk.now) else none }) s
  if coilOn s then
    setShu (fun x => { x with
      kfbBy := if kfbAllClosed s then none else x.kfbBy.or (some (s.clk.now + Tick.ms (param s 0x060D))) }) s
  else s

/-- The trips of a cycle (R346, R348–R350), both channels' decisions in one record. -/
def cycleTrips (i : CycleIn) (s : State) : State :=
  let a := rcmDetect s i.a
  let b := rcmDetect s i.b
  let oc := overcurrent s
  let other := pilotTrips s i + (if oc.isSome then lOvercurrent else 0)
  let mask := (a.1 ||| b.1) + other
  let chan := if other &&& maskWithout 0xFFFF lChannel != 0 then 3
    else (if a.1 != 0 then 1 else 0) + (if b.1 != 0 || other != 0 then 2 else 0)
  if mask = 0 then s
  else match (a.2.or b.2), oc with
    | some v, none => trip mask chan v s
    | none, some v => trip mask chan v s
    | _, _ => tripPlain mask chan s

/-- SHUTTER_EVALUATION_CYCLE (R338): 250 µs after the last one. -/
def execShutterEvaluationCycle (i : CycleIn) (s : State) : Out :=
  whenever s.dom.d1 s fun s =>
    let s := advanceTo (s.shu.cycleAt + Tick.us 250) s
    let s := setShu (fun x => { x with cycleAt := s.clk.now }) s
    let s := cycleTrips i (cycleInputs i (followOff s))
    let s := if coilOn s && s.shu.cpState == 1 then deenergise s else s
    match s.shu.rcmWant with
    | some c => if coilOn s then s else startRcm c none s
    | none => s

/-- CHANNEL_DISAGREEMENT (R338): 20 ms without a break. -/
def execChannelDisagreement (s : State) : Out :=
  whenever s.dom.d1 s fun s =>
    let s := match s.shu.splitSince with
      | some t => advanceTo (t + Tick.ms 20) s
      | none => s
    tripPlain lChannel 3 (setShu (fun x => { x with agree := false }) s)

def execChannelLinkLoss (s : State) : Out :=
  whenever (s.dom.d1 && decide (3 ≤ s.shu.linkBad)) s (tripPlain lChannel 2)

/-! Contactor events (R339, R341, R353). -/

def execKmPullinEnd (s : State) : Out :=
  match s.shu.pullInEnd with
  | none => .next s
  | some t => .next (setShu (fun x => { x with pullInEnd := none }) (advanceTo t s))

def execOpenCoil (chan : Nat) (s : State) : Out :=
  whenever (s.dom.d1 && coilOn s && s.shu.pullInEnd.isSome) s (tripPlain lKmFeedback chan)

def execKfbTimeout (s : State) : Out :=
  match s.shu.kfbBy with
  | none => .next s
  | some t => whenever (s.dom.d1 && coilOn s) s fun s => tripPlain lKmFeedback 3 (advanceTo t s)

/-- COIL_SUPPLY_LOW (R353): VAUX_IN below 10.0 V for 10 ms with a coil energised. -/
def execCoilSupplyLow (chan : Nat) (s : State) : Out :=
  match s.shu.supplyLow with
  | none => .next s
  | some t => whenever (s.dom.d1 && coilOn s) s fun s => tripPlain lCoilSupply chan (advanceTo (t + Tick.ms 10) s)

/-! Emergency stop (R344). -/

def execEstopLineOpen (lineB : Bool) (chan : Nat) (s : State) : Out :=
  whenever s.dom.d1 s fun s =>
    tripPlain lEstop chan
      (discrepWatch (setShu (fun x => if lineB then { x with estopB := true } else { x with estopA := true }) s))

/-- ESTOP_DISCREP: one line open and the other closed for SHU.ESTOP_DISCREP. -/
def execEstopDiscrep (chan : Nat) (s : State) : Out :=
  match s.shu.discrepSince with
  | none => .next s
  | some t => whenever s.dom.d1 s fun s => tripPlain lDiscrep chan (advanceTo (t + Tick.ms (param s 0x060B)) s)

/-- ESTOP_TEST_PULSE: whether a line followed the other's pulse. -/
def execEstopTestPulse (shorted : Bool) (chan : Nat) (s : State) : Out :=
  whenever (s.dom.d1 && shorted) s (tripPlain lDiscrep chan)

/-! Requests from Kiln (R342, R29). -/

/-- Both coils of the enabled contactors are energised with the pull-in level (R339, R340). -/
def energise (s : State) : State :=
  let k1 := kmEnabled s 0
  let k2 := kmEnabled s 1
  let s := setShu (fun x => { x with
    driveA1 := k1, driveA2 := k2, driveB1 := k1, driveB2 := k2
    pullInEnd := some (s.clk.now + Tick.ms (param s 0x060E)), kfbBy := some (s.clk.now + Tick.ms (param s 0x060D))
    weldAt := none }) s
  { s with nl := { s.nl with openSince := none, armed := false } }

/-- CLOSE (R340): refused with the first status of R342 that applies. -/
def execClose (s : State) : Out :=
  serveRequest (· == .close) s fun s =>
    let b := closeBlock s
    if s.hng.isolated || !stagesDrive s then refuseReq .close stNotActive s
    else if b = 0 then energise (acceptReq s)
    else refuseReq .close (if bitN b 0 then stFaultLatched else if bitN b 10 then stStopInProgress
      else if bitN b 8 then stReclaimRequired else stCloseCondition) s

def isOrderly (cause : Nat) : ShuReq → Bool
  | .openOrderly c => c == cause
  | _ => false

/-- OPEN_ORDERLY (R343); no effect with KM open. -/
def execOpenOrderly (cause : Nat) (s : State) : Out :=
  serveRequest (isOrderly cause) s fun s =>
    if kmOpen s then s else beginStop .kiln (Tick.s 3) s

def isOpenNow (cause : Nat) : ShuReq → Bool
  | .openNow c => c == cause
  | _ => false

def execOpenNow (cause : Nat) (s : State) : Out :=
  serveRequest (isOpenNow cause) s deenergise

/-- PWM (R312, R342): 0 steady +12 V, 0xFFFF state F, otherwise a duty clamped to that of SHU.I_MAX_AC. -/
def execPwm (duty : Nat) (s : State) : Out :=
  serveRequest (· == .pwm duty) s fun s =>
    if s.recl.required then refuseReq (.pwm duty) stReclaimRequired s
    else if duty = 0 then setShu (fun x => { x with cpDrive := .steady, duty := 0 }) (acceptReq s)
    else if s.shu.stop.isSome then refuseReq (.pwm duty) stStopInProgress s
    else if duty = 0xFFFF then setShu (fun x => { x with cpDrive := .stateF, duty := 0 }) (acceptReq s)
    else if s.shu.latches != 0 then refuseReq (.pwm duty) stFaultLatched s
    else setShu (fun x => { x with cpDrive := .pwm, duty := min duty (dutyOf (param s 0x0601)) }) (acceptReq s)

/-- LIMIT (R348): after a reduction the previous value stays in force for 5 s. -/
def execLimit (mA : Nat) (dc : Bool) (s : State) : Out :=
  serveRequest (· == .limit mA dc) s fun s =>
    if s.recl.required then refuseReq (.limit mA dc) stReclaimRequired s
    else
      let old := iPerm s dc
      let v := min mA (param s (if dc then 0x0602 else 0x0601))
      setShu (fun x => { x with
        limitAc := if dc then x.limitAc else some v, limitDc := if dc then some v else x.limitDc, limitIsDc := dc
        permHold := if v < old then some (old, s.clk.now + Tick.s 5) else none }) (acceptReq s)

/-- I_PERM_HOLD_END (R348). -/
def execIPermHoldEnd (s : State) : Out :=
  match s.shu.permHold with
  | none => .next s
  | some (_, t) => .next (setShu (fun x => { x with permHold := none }) (advanceTo t s))

/-- RCM_TEST (R347). -/
def execRcmTest (s : State) : Out :=
  serveRequest (· == .rcmTest) s fun s =>
    if coilOn s || s.shu.rcmTest.isSome then refuseReq .rcmTest stBusy s else startRcm 5 none (acceptReq s)

/-- ORDERLY_STOP_WAIT_END (R343): every current is below 1 A, or the bound has passed. The metering stop ends with
METERING_STOP_OPEN. -/
def execOrderlyStopWaitEnd (s : State) : Out :=
  match s.shu.stop with
  | none => .next s
  | some p =>
    whenever (s.dom.d1 && p.kind != .metering) s fun s => finishStop (if below1A s then s else advanceTo p.bound s)

/-! The weld test (R351). -/

/-- WELD latched, WELD_DETECTED and SHU_EVENT; it de-energises nothing. While it is latched nothing more is recorded. -/
def latchWeld (s : State) : State :=
  if bitN s.shu.latches 9 then s
  else
  let poles := weldPoles s
  let s := setLatch lWeld s
  let s := raise 0x0603 (le 1 poles ++ zeros 3 ++ padTo 12 (s.shu.urmsHalf.flatMap (le 4)) ++ le 4 s.shu.mod1) s
  shuEvent 4 lWeld s

/-- The weld test itself, at D1 start or 200 ms after a de-energisation. -/
def weldTest (s : State) : State := if weldPoles s = 0 then s else latchWeld s

def execWeldTest (s : State) : Out :=
  match s.shu.weldAt with
  | none => .next s
  | some t =>
    whenever s.dom.d1 s fun s =>
      let s := setShu (fun x => { x with weldAt := none }) (advanceTo t s)
      if coilOn s then s else weldTest s

end Sys2Proof.Machine
end

