-- ==== Sys2Proof/Machine/LoadSwitch.lean ====
section
/-! DEFINITION. The load-switch channels (15): control, latches and retries, supply anomalies. -/

namespace Sys2Proof.Machine

def lswChan (s : State) (n : Nat) : LswChan := (s.lsw.chans[n]?).getD {}

def setLsw (f : Lsw → Lsw) (s : State) : State := { s with lsw := f s.lsw }

def setOut (n : Nat) (f : LswChan → LswChan) (s : State) : State := setLsw (fun x => { x with chans := modAt x.chans n f }) s

/-- Channels may conduct: supply, ground and stages allow it (R370, R371, R378). -/
def lswSupply (s : State) : Bool :=
  s.dom.d4 && !s.lsw.under && !s.lsw.gndOpen && !s.lsw.heldOff && stagesDrive s

def retryMax (s : State) (n : Nat) : Nat := param s 0x0701 / 16 ^ n % 16

/-- The conditions that drive the fault level (R373). -/
def faultLevel (s : State) (n : Nat) : Bool :=
  let c := lswChan s n
  c.latch.isSome || c.ilim.isSome || s.lsw.gndOpen || c.offShort

/-- The current a reader sees, mA: 0xFFFF at the fault level (R373). -/
def outI (s : State) (n : Nat) : Nat := if faultLevel s n then 0xFFFF else (lswChan s n).i

/-- OUT_FAULT (R375). -/
def outFault (s : State) : Nat := packBits (s.lsw.chans.map fun c => c.latch.isSome || c.exhausted)

def demandMask (s : State) : Nat := packBits (s.lsw.chans.map (·.demand))
def onMask (s : State) : Nat := packBits (s.lsw.chans.map (·.on))
def waitMask (s : State) : Nat := packBits (s.lsw.chans.map fun c => c.demand && c.latch.isSome)

/-- LSW_EVENT of a channel (R384). -/
def lswEvent (event n : Nat) (s : State) : State :=
  let c := lswChan s n
  notify 2 0x0708 (le 1 event ++ le 1 n ++ le 1 c.cause ++ le 1 c.retries ++ le 2 (outI s n) ++ zeros 2) s

/-- LSW_EVENT of the whole die: RETRIES is a free value, and so is I outside the fault level (log entry 43). -/
def dieEvent (event cause : Nat) (s : State) : State :=
  let (a, s) := takeFree s
  let (b, s) := takeFree s
  notify 2 0x0708 (le 1 event ++ le 1 0xFF ++ le 1 cause ++ [Config.freeByte a]
    ++ le 2 (if s.lsw.gndOpen then 0xFFFF else Config.freeNat b % 65536) ++ zeros 2) s

def switchOn (s : State) (c : LswChan) : LswChan :=
  { c with on := true, onSince := s.clk.now, cause := 0, openLoad := false, offShort := false, ilim := none }

def switchOff (c : LswChan) : LswChan := { c with on := false, ilim := none, openLoad := false }

/-- A channel takes up its demand with no retry consumed (R370, R378). -/
def resume (s : State) (c : LswChan) : LswChan :=
  if c.demand && c.latch.isNone && !c.exhausted && !c.on && lswSupply s then switchOn s c else c

def resumeAll (s : State) : State := setLsw (fun x => { x with chans := x.chans.map (resume s) }) s

def allOff (s : State) : State := setLsw (fun x => { x with chans := x.chans.map switchOff }) s

/-- The restart after a latch has released (R375). -/
def restart (n : Nat) (s : State) : State :=
  let c := lswChan s n
  if c.retries = 0 then lswEvent 3 n (setOut n (fun c => { c with exhausted := true }) s)
  else if c.demand && lswSupply s then
    lswEvent 2 n (setOut n (fun c => { switchOn s c with retries := c.retries - 1 }) s)
  else s

/-- Channels of a mask that an enabled pair keeps off (R379). -/
def exclusiveMask (s : State) (mask : Nat) : Nat :=
  packBits ((List.range 8).map fun n =>
    bitN mask n && bitN (param s 0x0706) (n / 2)
      && (bitN mask (n + 1 - 2 * (n % 2)) || (lswChan s (n + 1 - 2 * (n % 2))).demand))

/-- One channel's part of LSW_CONTROL (R375, R376, R380, R384). -/
def control (action ms n : Nat) (s : State) : State :=
  match action with
  | 0 => setOut n (fun c => { switchOff c with demand := false, pulseEnd := none }) s
  | 1 => setOut n (fun c =>
      resume s { c with demand := true, pulseEnd := none, retries := retryMax s n, exhausted := false }) s
  | 2 => setOut n (fun c => resume s { c with demand := true, pulseEnd := some (s.clk.now + Tick.ms ms) }) s
  | _ =>
    let was := (lswChan s n).exhausted
    let s := setOut n (fun c => { c with retries := retryMax s n, exhausted := false }) s
    if was then restart n s else s

def controlBody (refused : Nat) (s : State) : List Byte :=
  le 1 (demandMask s) ++ le 1 refused ++ le 1 (waitMask s) ++ zeros 1

def execLswControl (r : Req) (mask action ms : Nat) (s : State) : Out :=
  brixo 0x0701 r s fun s =>
    let pulseOk := if action = 2 then decide (10 ≤ ms) && decide (ms ≤ 10000) else ms == 0
    let lock := if action ≤ 2 && lockHeld s then mask &&& param s 0x0612 else 0
    let excl := if action = 1 ∨ action = 2 then exclusiveMask s mask else 0
    if inHoldup s then refuse s stWrongMode
    else if isStandby s || (s.hng.isolated && (action == 1 || action == 2)) then refuse s stNotActive
    else if mask % 256 = 0 || 3 < action || !pulseOk then refuse s stBadParam
    else if lock ≠ 0 then answer s stLockHeld (controlBody lock s)
    else if excl ≠ 0 then answer s stExclusive (controlBody excl s)
    else
      let s := (maskIdx 8 mask).foldl (fun s n => control action ms n s) s
      answer s stOk (controlBody 0 s)

/-- The latch is set (R374). -/
def latchOut (cause n : Nat) (s : State) : State :=
  let s := setOut n (fun c => { switchOff c with latch := some s.clk.now, cause := cause }) s
  diagTrigger 10 n (lswEvent 1 n s)

/-- The channel's junction reaches 175 °C (R374). -/
def execLswThermalOff (n : Nat) (tj : Int) (s : State) : Out :=
  whenever (decide (n < 8) && (lswChan s n).on && decide (175 ≤ tj)) s fun s =>
    latchOut 1 n (setOut n (fun c => { c with tj := tj }) s)

/-- The current limit has been active without a break for LSW.ILIM_TIME (R374). -/
def execLswIlimTimeout (n : Nat) (s : State) : Out :=
  whenever (decide (n < 8) && (lswChan s n).on) s fun s =>
    let s := match (lswChan s n).ilim with
      | some t => advanceTo (t + Tick.ms (param s 0x0704)) s
      | none => s
    latchOut 2 n s

/-- Below 145 °C, and LSW.RETRY_DELAY after the latch was set (R374, R375). -/
def execLswLatchRelease (n : Nat) (tj : Int) (s : State) : Out :=
  match (lswChan s n).latch with
  | none => .next s
  | some t =>
    whenever (decide (n < 8) && decide (tj < 145)) s fun s =>
      let s := advanceTo (t + Tick.ms (param s 0x0702)) s
      restart n (setOut n (fun c => { c with latch := none, tj := tj }) s)

/-- LSW.RETRY_REFILL on without a latch (R376). -/
def execLswRetryRefill (n : Nat) (s : State) : Out :=
  whenever (decide (n < 8) && (lswChan s n).on && (lswChan s n).latch.isNone) s fun s =>
    let s := advanceTo ((lswChan s n).onSince + Tick.s (param s 0x0703)) s
    setOut n (fun c => { c with retries := retryMax s n }) s

/-- A pulse ends on the die's own timer (R371, R380). -/
def execLswPulseEnd (n : Nat) (s : State) : Out :=
  match (lswChan s n).pulseEnd with
  | none => .next s
  | some t => .next (setOut n (fun c => { switchOff c with demand := false, pulseEnd := none }) (advanceTo t s))

/-- The time of the turn-on slope that LSW.SLOPE selects (R372): 2 V/µs, 0.2 V/µs or 2 V/ms. -/
def slopeTime (s : State) (n : Nat) : Tick :=
  match param s 0x0700 / 4 ^ n % 4 with
  | 0 => Tick.us s.lsw.vaux / 2000
  | 1 => Tick.us s.lsw.vaux / 200
  | _ => Tick.us s.lsw.vaux / 2

/-- LSW.OPENLOAD_MA for 100 ms while on, after the slope (R381). -/
def execLswOpenLoad (n i : Nat) (s : State) : Out :=
  whenever (decide (n < 8) && (lswChan s n).on && decide (i < param s 0x0705)) s fun s =>
    let s := advanceTo ((lswChan s n).onSince + slopeTime s n + Tick.ms 100) s
    lswEvent 4 n (setOut n (fun c => { c with openLoad := true, i := i }) s)

/-- An off channel's output above half of VAUX_IN (R373, R383). -/
def execLswOffStateShort (n : Nat) (s : State) : Out :=
  whenever (decide (n < 8) && s.dom.d4 && !(lswChan s n).on) s fun s =>
    lswEvent 7 n (setOut n (fun c => { c with offShort := true, cause := 5 }) s)

/-- VAUX_IN below 10.0 V (R370). -/
def execVauxUndervoltage (mV : Nat) (s : State) : Out :=
  whenever (decide (mV < 10000)) s fun s =>
    setLsw (fun x => { x with under := true, vaux := mV
                              chans := x.chans.map fun c => { c with cause := if c.latch.isNone then 4 else c.cause } }) (allOff s)

/-- VAUX_IN at 11.0 V or more again (R370). -/
def execVauxRecovery (mV : Nat) (s : State) : Out :=
  whenever (s.lsw.under && decide (11000 ≤ mV)) s fun s =>
    let was := s.lsw.reversed
    let s := if was then allOff s else s
    resumeAll (setLsw (fun x => { x with
      under := false, reversed := false, vaux := mV, loadDump := decide (36000 < mV)
      chans := x.chans.map fun c => { c with cause := if c.cause = 4 then 0 else c.cause } }) s)

/-- VAUX_IN below 4.0 V for 10 ms (R370, R376). -/
def execVauxPowerCycle (mV : Nat) (s : State) : Out :=
  whenever (decide (mV < 4000)) s fun s =>
    setLsw (fun x => { x with under := true, vaux := mV, chans := x.chans.mapIdx fun n c =>
      { switchOff c with latch := none, exhausted := false, retries := retryMax s n, cause := 4 } }) s

/-- Loss of ground (R378). -/
def execVauxGndOpen (s : State) : Out :=
  whenever (s.dom.d4 && !s.lsw.gndOpen) s fun s =>
    dieEvent 5 3 (setLsw (fun x => { x with gndOpen := true, chans := x.chans.map fun c => { c with cause := 3 } })
      (allOff s))

/-- Ground back for 10 ms (R378). -/
def execVauxGndRestored (s : State) : Out :=
  whenever s.lsw.gndOpen s fun s =>
    let s := setLsw (fun x => { x with gndOpen := false, chans := x.chans.map fun c => { c with cause := 0 } }) s
    dieEvent 6 0 (resumeAll s)

/-- VAUX_IN above 36 V (R378). -/
def execLoadDump (mV : Nat) (s : State) : Out :=
  whenever (s.dom.d4 && decide (36000 < mV)) s fun s =>
    dieEvent 8 0 (setLsw (fun x => { x with loadDump := true, vaux := mV }) s)

/-- VAUX_IN reversed: every channel fully on, the coil switches block (R378). The supply is then below 10.0 V. -/
def execVauxInReversed (s : State) : Out :=
  .next (deenergise (setLsw (fun x => { x with reversed := true, under := true, vaux := 0
                                               chans := x.chans.map fun c => { switchOff c with on := true } }) s))

/-- FLAGS of a channel (R383). -/
def outFlags (c : LswChan) : Nat :=
  packBits [c.latch.isSome, c.ilim.isSome, c.offShort, c.openLoad, c.exhausted, c.demand && c.latch.isSome,
    c.pulseEnd.isSome]

/-- The fields of LSW_STATUS (R383). -/
def lswBody (s : State) : List Byte :=
  le 1 (demandMask s) ++ le 1 (onMask s) ++ le 1 (outFault s)
    ++ le 1 (packBits [s.lsw.under, s.lsw.gndOpen, s.lsw.loadDump]) ++ le 2 s.lsw.vaux ++ zeros 2
    ++ (s.lsw.chans.mapIdx fun n c =>
        le 2 (outI s n) ++ leI 1 c.tj ++ le 1 c.retries ++ le 1 (outFlags c) ++ le 1 c.cause ++ zeros 2).flatten

def execLswStatus (r : Req) (s : State) : Out := brixo 0x0700 r s fun s => answer s stOk (lswBody (asOf s))

end Sys2Proof.Machine
end

