-- ==== Sys2Proof/Machine/Temps.lean ====
section
/-! DEFINITION. Temperatures from the codes of AN0–AN5 (R518): the NTC curve through an integer logarithm, and the PT1000 curve of
IEC 60751. -/

namespace Sys2Proof.Machine

/-- One in the fixed point of this file. -/
abbrev fixOne : Nat := 2 ^ 64

/-- z + z³/3 + z⁵/5 + …, `fuel` terms from the odd power k on, with z² and the present power of z in fixed point. -/
def atanhSum : Nat → Nat → Int → Int → Int
  | 0, _, _, _ => 0
  | n + 1, k, z2, zk => zk / k + atanhSum n (k + 2) z2 (zk * z2 / fixOne)

/-- ln 2 in fixed point: 2 atanh (1/3). -/
def lnTwo : Int := 2 * atanhSum 32 1 ((fixOne / 9 : Nat) : Int) ((fixOne / 3 : Nat) : Int)

/-- ln (p / q) in fixed point, for positive p and q: the power of two apart, and 2 atanh ((x − 1)/(x + 1)) for the rest. -/
def lnFix (p q : Nat) : Int :=
  let a := Nat.log2 p
  let b := Nat.log2 q
  let x := p * 2 ^ b
  let y := q * 2 ^ a
  let z := ((x : Int) - y) * fixOne / ((x + y : Nat) : Int)
  2 * atanhSum 40 1 (z * z / fixOne) z + ((a : Int) - b) * lnTwo

/-- R518 mode 1: R = 10 000 × CODE ÷ (4 096 − CODE), and T in 0.01 °C to nearest from 1 ÷ T = 1 ÷ 298.15 + ln (R ÷ R25) ÷ B; none
where the right side is not positive. -/
def ntcTemp (code r25 b : Nat) : Option Int :=
  if code = 0 ∨ 4096 ≤ code ∨ r25 = 0 ∨ b = 0 then none
  else
    let inv := ((fixOne * 100 / 29815 : Nat) : Int) + lnFix (10000 * code) ((4096 - code) * r25) / b
    if inv ≤ 0 then none else some (divRoundN (100 * fixOne) inv.toNat - 27315)

/-- 200⁴ × 10¹⁵ × R(T) ÷ R(0) of IEC 60751 with α = 0.003 85, T in units of 0.005 °C (log entry 48). -/
def ptCurve (n : Int) : Int :=
  1600000000 * 10 ^ 15 + 3908300000000 * 8000000 * n - 577500000 * 40000 * n * n
    - (if n < 0 then 4183 * (n - 20000) * n * n * n else 0)

/-- The greatest temperature, in steps of 0.01 °C from −200 °C, whose lower half step lies on or below a resistance: `k` bits left. -/
def ptSearch (r : Int) : Nat → Nat → Nat
  | 0, t => t
  | k + 1, t =>
    let u := t + 2 ^ k
    if ptCurve (2 * u - 40001) ≤ r then ptSearch r k u else ptSearch r k t

/-- R518 mode 2: R = CODE × 2.500 V ÷ 4 096 ÷ 1.000 mA, and its temperature in 0.01 °C. -/
def ptTemp (code : Nat) : Int :=
  (ptSearch (divRound ((code * 25 : Nat) * (1600000000 * 10 ^ 15)) 40960) 17 0 : Nat) - 20000

end Sys2Proof.Machine
end

