-- ==== Sys2Proof/Machine/Pq.lean ====
section
/-! DEFINITION. Power quality (07): Urms½ and the event machines, arming, and the opcodes. The harmonic and supraharmonic
analysis is Kiln's task and stands in KilnRun. -/

namespace Sys2Proof.Machine

/-! Urms½ (R157). -/

/-- The RMS of a number of voltage codes from the sum of their squares, µV (R113 with the voltage scale of R99). -/
def rmsUv (sum n : Nat) : Nat :=
  if n = 0 then 0 else (isqrt ((sum * 2 ^ 16 + n / 2) / n) * 800000000 + 2 ^ 29) / 2 ^ 30

/-- Urms½ of a phase over two adjacent segments, mV; none where a segment holds an unusable sample (log entry 29). -/
def urmsHalf (a b : PqSeg) (x : Nat) : Option Nat :=
  if bitN a.bad x || bitN b.bad x then none
  else some (divRoundN (rmsUv ((a.sum[x]?).getD 0 + (b.sum[x]?).getD 0) (a.n + b.n)) 1000)

/-! Dips, swells and interruptions (R159). Thresholds are compared in 0.01 mV. -/

/-- A refresh of Urms½: per enabled phase its number and value, and the first and last sample of the window. -/
structure Refresh where
  vals : List (Nat × Nat)
  first : Nat
  last : Nat
  deriving DecidableEq, Repr

/-- The phase with the lowest value, or the highest. -/
def extremeOf (low : Bool) (vals : List (Nat × Nat)) : Nat × Nat :=
  vals.foldl (fun b v => if (if low then v.2 < b.2 else b.2 < v.2) then v else b) ((vals.head?).getD (0, 0))

/-- An event record as it opens (R170): DURATION has no stated value while OPEN. -/
def openEvent (type phases : Nat) (ext : Nat × Nat) (start index : Nat) (free : Nat) (s : State) : PqEvent :=
  { index := index, type := type, phases := phases
    flags := 1 + (if s.sie.quadRef.isNone then 8 else 0) + 256 * ext.1
    startEpoch := start / 320, startIdx := start % 320, endEpoch := 0, endIdx := 0xFFFF
    startCivil := civilAtSample s start, duration := free, extreme := ext.2, deltaSs := 0 }

/-- The phases that meet a test, as a mask. -/
def phaseMask (vals : List (Nat × Nat)) (p : Nat → Bool) : Nat :=
  orMask ((vals.filter fun v => p v.2).map fun v => 2 ^ v.1)

/-- The record of an open event with the phases and the extreme of one more refresh. -/
def PqEvent.observe (e : PqEvent) (phases : Nat) (low : Bool) (ext : Nat × Nat) : PqEvent :=
  let e := { e with phases := e.phases ||| phases }
  if (if low then decide (ext.2 < e.extreme) else decide (e.extreme < ext.2)) then
    { e with extreme := ext.2, flags := e.flags % 256 + 256 * ext.1 }
  else e

/-- An event starts: its record enters the ring with OPEN. -/
def startEvent (type phases : Nat) (ext : Nat × Nat) (thrEnd : Nat) (r : Refresh) (s : State) : PqOpen × State :=
  let (i, s) := takeFree s
  let e := openEvent type phases ext r.first s.pq.nextIndex (Config.freeNat i % 2 ^ 32) s
  (⟨e, thrEnd, r.first⟩, pqAdd e s)

/-- An open event over one more refresh: it ends, or its record follows the voltage. -/
def followEvent (o : PqOpen) (phases : Nat) (low ends : Bool) (ext : Nat × Nat) (r : Refresh) (s : State) :
    Option PqOpen × State :=
  let e := o.event.observe phases low ext
  if ends then (none, pqReplace (e.closeAt o.startAbs r.last 0) s)
  else
    (some { o with event := e }, if e = o.event then s else pqWrite e s)

def pqThr (s : State) (id : Nat) : Nat := paramE s id s.met.epoch * paramE s 0x02C0 s.met.epoch

/-- Hysteresis H, 0.01 mV. -/
def pqHyst (s : State) : Nat := pqThr s 0x02C4

def stepDip (r : Refresh) (s : State) : State :=
  let ext := extremeOf true r.vals
  match s.pq.dip with
  | none =>
    let m := phaseMask r.vals fun v => decide (100 * v < pqThr s 0x02C1)
    if m = 0 then s
    else
      let (o, s) := startEvent 1 m ext (pqThr s 0x02C1 + pqHyst s) r s
      setPq (fun q => { q with dip := some o, rvc := none }) s
  | some o =>
    let m := phaseMask r.vals fun v => decide (100 * v < o.thrEnd)
    let (o, s) := followEvent o m true (m == 0) ext r s
    setPq (fun q => { q with dip := o }) s

def stepSwell (r : Refresh) (s : State) : State :=
  let ext := extremeOf false r.vals
  match s.pq.swell with
  | none =>
    let m := phaseMask r.vals fun v => decide (pqThr s 0x02C2 < 100 * v)
    if m = 0 then s
    else
      let (o, s) := startEvent 2 m ext (pqThr s 0x02C2 - pqHyst s) r s
      setPq (fun q => { q with swell := some o, rvc := none }) s
  | some o =>
    let m := phaseMask r.vals fun v => decide (o.thrEnd < 100 * v)
    let (o, s) := followEvent o m false (m == 0) ext r s
    setPq (fun q => { q with swell := o }) s

def stepIntr (r : Refresh) (s : State) : State :=
  let ext := extremeOf true r.vals
  let all := orMask (r.vals.map fun v => 2 ^ v.1)
  match s.pq.intr with
  | none =>
    if r.vals.all fun v => decide (100 * v.2 < pqThr s 0x02C3) then
      let (o, s) := startEvent 3 all ext (pqThr s 0x02C3 + pqHyst s) r s
      setPq (fun q => { q with intr := some o }) s
    else s
  | some o =>
    let (o, s) := followEvent o all true (r.vals.any fun v => decide (o.thrEnd ≤ 100 * v.2)) ext r s
    setPq (fun q => { q with intr := o }) s

/-! Rapid voltage changes (R160). -/

/-- NR. -/
def rvcN (s : State) : Nat := 10 * nwOf (paramE s 0x0266 s.met.epoch)

/-- The RVC threshold in 0.001 mV (0.1 % of U_din). -/
def rvcThr (s : State) : Nat := pqThr s 0x02C5

/-- The mean of a phase's last NR values where all of them lie within half the threshold of it. -/
def steadyOf (nr thr : Nat) (vals : List Nat) : Option Nat :=
  let l := vals.take nr
  let sum := sumN l
  if l.length = nr && l.all fun v => decide (2000 * ((v * nr : Int) - sum).natAbs ≤ thr * nr) then some (divRoundN sum nr)
  else none

def absDiff (a b : Nat) : Nat := ((a : Int) - b).natAbs

/-- Departures of the phases that have a last steady mean. -/
def departures (pre : List (Option Nat)) (vals : List (Nat × Nat)) : List (Nat × Nat) :=
  vals.filterMap fun v => ((pre[v.1]?).join).map fun u => (v.1, absDiff v.2 u)

/-- One refresh of the rapid-voltage-change machine, after the other three. -/
def stepRvc (r : Refresh) (s : State) : State :=
  let nr := rvcN s
  let thr := rvcThr s
  let pre := s.pq.steadyMean
  let push (x : Nat) (l : List Nat) : List Nat := match r.vals.find? (·.1 == x) with
    | some v => (v.2 :: l).take 120
    | none => l
  let s := setPq (fun q => { q with urms := q.urms.mapIdx push, urmsAt := (r.first :: q.urmsAt).take 120 }) s
  let now := s.pq.urms.map (steadyOf nr thr)
  let s := setPq (fun q => { q with steadyMean := List.zipWith (fun n o => n.or o) now q.steadyMean }) s
  match s.pq.rvc with
  | some o =>
    let d := departures o.pre r.vals
    let top := extremeOf false d
    let o := { o with
      event := { o.event with phases := o.event.phases ||| phaseMask d fun v => decide (thr < 1000 * v) }
      dmax := max o.dmax top.2, phase := if o.dmax < top.2 then top.1 else o.phase }
    if r.vals.all fun v => ((now[v.1]?).join).isSome then
      let dss : Option Nat := match (now[o.phase]?).join, (o.pre[o.phase]?).join with
        | some a, some b => some (absDiff a b)
        | _, _ => none
      endRvc o ((s.pq.urmsAt[nr - 1]?).getD r.last) dss 0 s
    else setPq (fun q => { q with rvc := some o }) s
  | none =>
    let d := departures pre r.vals
    let m := phaseMask d fun v => decide (thr < 1000 * v)
    if m = 0 || s.pq.dip.isSome || s.pq.swell.isSome then s
    else
      let top := extremeOf false d
      let e := openEvent 4 m (0, 0) r.first 0 0 s
      setPq (fun q => { q with rvc := some ⟨e, pre, top.2, top.1, r.first⟩ }) s

/-- URMS_HALF_SEGMENT_END (R157): the oldest ended segment, with the one before it. -/
def execUrmsHalfSegmentEnd (s : State) : Out :=
  match s.pq.segDone with
  | [] => .next s
  | b :: rest =>
    whenever s.dom.d2 s fun s =>
      let prev := s.pq.prevSeg
      let s := setPq (fun q => { q with segDone := rest, prevSeg := some b }) s
      match prev with
      | none => s
      | some a =>
        let on := maskIdx 3 (paramE s 0x0201 s.met.epoch)
        let vals := on.map fun x => (x, urmsHalf a b x)
        let half := s.shu.urmsHalf.mapIdx fun x v => ((vals.find? (·.1 == x)).bind (·.2)).getD v
        let s := { s with shu := { s.shu with urmsHalf := half } }
        if s.pq.armed && vals.all (fun v => v.2.isSome) && !vals.isEmpty then
          let r : Refresh := ⟨vals.map fun v => (v.1, v.2.getD 0), a.first, b.first + b.n - 1⟩
          stepRvc r (stepIntr r (stepSwell r (stepDip r s)))
        else s

/-- PQ_ARM (R158): the feedbacks have reported closed for MET.PQ_ARM_DELAY. -/
def execPqArm (s : State) : Out :=
  match s.pq.closedSince with
  | none => .next s
  | some t =>
    whenever (s.dom.d2 && !s.pq.armed && s.shu.kfb1 && s.shu.kfb2) s fun s =>
      let s := advanceTo (t + Tick.ms (param s 0x02C6)) s
      setPq (fun q => { q with armed := true, since := padNow s }) s

/-! Opcodes (R167–R170). -/

/-- The held window a request names: the newest for 0, else by its last epoch, within the published THROUGH[5]. -/
def namedWindow (s : State) (last : Nat) : Option PqWindow :=
  s.pq.windows.find? fun w =>
    decide (w.due.lastEpoch ≤ s.snap.groups.through5) && (last == 0 || w.due.lastEpoch == last)

/-- START_POS and END_POS (R168). -/
def posField (p : Nat) : Nat := p / 256 % 320 * 256 + p % 256

def PqChan.summary (c : PqChan) : List Byte :=
  le 4 c.fund ++ leI 2 c.fundPh ++ le 2 c.thd40 ++ le 2 c.thd127 ++ zeros 2 ++ le 4 c.trms

/-- EV_STATE as of the end of THROUGH[5] (R162). -/
def evStateThrough (s : State) : Nat :=
  ((s.met.ring.find? (·.epoch == s.snap.groups.through5)).map (·.ev)).getD (evState s)

def execMetPqSummary (r : Req) (last : Nat) (s : State) : Out :=
  brixo 0x02C0 r s fun s =>
    match namedWindow s last with
    | none => refuse s stWindowNotHeld
    | some w =>
      let (i, s1) := takeFree s
      let next : Nat × State := match nextShSlot s s.pq.shSlot with
        | some k => (k, s)
        | none => (Config.freeNat i % 256, s1)
      answer next.2 stOk (
        le 8 w.due.firstEpoch ++ le 8 w.due.lastEpoch ++ le 4 (posField w.due.startPos) ++ le 4 (posField w.due.endPos)
        ++ le 4 w.freq ++ le 2 w.flags ++ le 1 w.due.nw ++ le 1 w.invalid
        ++ padTo 128 (w.chans.flatMap PqChan.summary)
        ++ le 2 w.u2 ++ le 2 w.u0 ++ le 2 w.i2 ++ le 2 w.i0 ++ le 4 w.triplen
        ++ le 1 (evStateThrough s) ++ le 1 next.1 ++ zeros 2 ++ le 4 s.pq.nextIndex ++ le 4 s.pq.missed)

def execMetPqHarmRead (r : Req) (last channel : Nat) (s : State) : Out :=
  brixo 0x02C1 r s fun s =>
    if 8 ≤ channel then refuse s stBadParam
    else match namedWindow s last with
      | none => refuse s stWindowNotHeld
      | some w =>
        let c := (w.chans[channel]?).getD ⟨0, 0, 0, 0, 0, [], [], []⟩
        answer s stOk (
          le 8 w.due.firstEpoch ++ le 8 w.due.lastEpoch ++ le 1 channel ++ le 1 w.due.nw ++ le 2 w.flags
          ++ padTo 512 (c.mag.flatMap (le 4)) ++ padTo 256 (c.ph.flatMap (leI 2)) ++ padTo 512 (c.ih.flatMap (le 4)))

/-- The newest supraharmonic result of a slot whose block ends at or before THROUGH[5] (R162). -/
def shPublished (s : State) (k : Nat) : Option PqSh :=
  ((s.pq.sh[k]?).getD []).find? fun b => decide (b.lastEpoch ≤ s.snap.groups.through5)

/-- MET_PQ_SH_READ; a WIN_LAST_EPOCH other than 0 must be the block's last epoch (log entry 30). -/
def execMetPqShRead (r : Req) (last channel : Nat) (s : State) : Out :=
  brixo 0x02C2 r s fun s =>
    if 8 ≤ channel then refuse s stBadParam
    else match shPublished s channel with
      | none => refuse s stWindowNotHeld
      | some b =>
        if last != 0 && last != b.lastEpoch then refuse s stWindowNotHeld
        else answer s stOk (
          le 8 b.firstEpoch ++ le 8 b.lastEpoch ++ le 1 channel ++ le 1 b.shift ++ le 2 b.flags
          ++ padTo 2960 (b.b200.flatMap (le 4)) ++ padTo 296 (b.b2k.flatMap (le 4)))

/-- Records of a ring from an index on: FIRST_INDEX and COUNT as returned, and the records. -/
def ringBody (first count : Nat) (l : List (Nat × List Byte)) : List Byte :=
  let rs := (l.filter fun e => decide (first ≤ e.1)).take count
  le 4 (((rs.head?).map (·.1)).getD first) ++ le 4 rs.length ++ rs.flatMap (·.2)

def execMetPqEventRead (r : Req) (first count : Nat) (s : State) : Out :=
  brixo 0x02C3 r s fun s =>
    if count = 0 || 64 < count then refuse s stBadParam
    else answer s stOk (ringBody first count (s.pq.events.map fun e => (e.index, e.bytes)))

end Sys2Proof.Machine
end

