-- ==== Sys2Proof/Machine/Inputs.lean ====
section
/-! DEFINITION. Measurement inputs and sensors (03): status frames, earth presence, the magnet, the end of metering faults,
over-range and gain conditions, and the input opcodes. -/

namespace Sys2Proof.Machine

/-! Reference tests (R71, R72). -/

/-- Expected codes of a reference test, full scale being 2^22: at 0 and +50 %, and at 0, +50 % and −50 %. -/
def startCodes : List Int := [0, 2 ^ 21]
def fullCodes : List Int := [0, 2 ^ 21, -(2 ^ 21)]

/-- A code is within 0.5 % of full scale of the expected one (R71). -/
def refOk (expected code : Int) : Bool := decide (200 * (code - expected).natAbs ≤ 2 ^ 22)

/-- The internal modulators' slots that pass a reference test, from the codes of each modulator in path order (R71): a
channel passes when every modulator of it does. -/
def refPassed (expected codes : List Int) : Nat :=
  let n := expected.length
  let ok (p : Nat) : Bool := (List.zipWith refOk expected ((List.range n).map fun i => code codes (n * p + i))).all id
  packBits ((List.range 8).map fun k => (List.range 12).all fun p => pathSlot p != k || ok p)

/-- A fault condition as it stands at this frame: raised, or absent. -/
def judge (bad : Bool) (cause : Nat) (s : State) : State :=
  if bad then metFault cause 255 s else faultAbsent cause 255 s

/-- Since when a condition holds, after one more look at it. -/
def heldSince (now : Tick) (holds : Bool) (since : Option Tick) : Option Tick := if holds then since.or (some now) else none

/-- The field of a status frame against MET.MAG_LIMIT and 80 % of it (R69). -/
def magFrame (s : State) (hall : Int) (i : Inputs) : Inputs :=
  let m := hall.natAbs
  let limit := param s 0x024A
  let high := decide (limit ≤ m)
  { i with
    hall := hall, hallPeak := max i.hallPeak m
    magPeak := if i.magSince.isNone && i.magHigh.isNone then (if high then m else 0) else max i.magPeak m
    magHigh := heldSince s.clk.now high i.magHigh, magLow := heldSince s.clk.now (decide (10 * m < 8 * limit)) i.magLow }

/-- STATUS_FRAME (R7, R70): one frame, or a missing or damaged one. -/
def execStatusFrame (ok supplyGood : Bool) (hall : Int) (peZ peNpe : Nat) (dieTemp : Int) (s : State) : Out :=
  whenever s.dom.d2 s fun s =>
    if !ok then
      let s := setInp (fun i => { i with badFrames := i.badFrames + 1 }) s
      if 3 ≤ s.inp.badFrames then metFault 2 255 s else s
    else
      let s := setInp (fun i => { magFrame s hall i with
        badFrames := 0, peZ := peZ, peNpe := peNpe, dieTemp := dieTemp, tempSum := i.tempSum + dieTemp, tempN := i.tempN + 1
        hotFrames := if 13500 < dieTemp then i.hotFrames + 1 else 0 }) s
      let s := earthWatch (faultAbsent 2 255 s)
      let s := judge (!supplyGood) 1 s
      if 13500 < dieTemp then (if 32000 ≤ s.inp.hotFrames then metFault 6 255 s else s) else faultAbsent 6 255 s

/-- The valid current channels that an orderly stop watches, and whether each is below 1 A (R73). -/
def validBelow1A (s : State) : Option Bool :=
  let bad := invalidMask s
  let ph := (phasesOn s).filter fun x => !bitN bad (iSlot x)
  let dc := s.shu.limitIsDc && !bitN bad 8
  if ph.isEmpty && !dc then none
  else some (ph.all (fun x => !rmsReaches s x 1000) && (!dc || decide (mod0Ma s < 1000)))

/-- METERING_STOP_OPEN (R73 item 2): Shutter opens KM1 and KM2 when the current is below 1 A, else at the end of 1.0 s. -/
def execMeteringStopOpen (s : State) : Out :=
  match s.inp.stopBy with
  | none => .next s
  | some t =>
    let s := if validBelow1A s = some true then s else advanceTo t s
    .next (finishStop (setInp (fun i => { i with stopBy := none }) s))

/-- METERING_FAULT_END (R74): the condition has been absent for 1.0 s; for a modulator fault (causes 3 and 7) the reference
test is run, and the operand gives the codes of R71. -/
def execMeteringFaultEnd (cause slot : Nat) (codes : List Int) (s : State) : Out :=
  match s.inp.faults.find? (faultIs cause slot) with
  | none => .next s
  | some f => match f.absentSince with
    | none => .next s
    | some t =>
      whenever (s.dom.d2 && (!(cause == 3 || cause == 7) || bitN (refPassed startCodes codes) slot)) s fun s =>
        let s := advanceTo (t + Tick.s 1) s
        let m := faultMask f
        let s := setInp (fun i => { i with faults := i.faults.filter fun g => !faultIs cause slot g }) s
        let s := closeFault f (if m = 0 then 0 else settleCount 0 (nowPos s)) (settleSwitch m (nowPos s) s)
        inputFault 0 slot f.firstEpoch s

/-- PE_WINDOW_EVAL (R68). -/
def execPeWindowEval (s : State) : Out :=
  whenever s.dom.d2 s fun s =>
    let pass := s.inp.peZ < param s 0x0609 && s.inp.peNpe < 10 * param s 0x060A
    setInp (fun i =>
      if pass then
        let n := min 10 (i.pePass + 1)
        { i with peFail := 0, pePass := n, peOk := i.peOk || n == 10 }
      else
        let n := min 3 (i.peFail + 1)
        { i with pePass := 0, peFail := n, peOk := i.peOk && n != 3 }) s

/-- MAG_FIELD (R69): the field has stayed at or above MET.MAG_LIMIT for MET.MAG_TIME. -/
def execMagField (s : State) : Out :=
  match s.inp.magHigh with
  | none => .next s
  | some t =>
    whenever (s.dom.d2 && s.inp.magSince.isNone) s fun s =>
      let s := advanceTo (t + Tick.ms (param s 0x024B)) s
      let s := setInp (fun i => { i with magSince := some s.clk.now }) s
      tamperBegin 0 (raise 0x0204 (le 2 s.inp.magPeak ++ zeros 2) s)

/-- MAG_FIELD_END (R69): the field has stayed below 80 % of MET.MAG_LIMIT for MET.MAG_TIME. -/
def execMagFieldEnd (s : State) : Out :=
  match s.inp.magSince, s.inp.magLow with
  | some since, some t =>
    whenever s.dom.d2 s fun s =>
      let s := advanceTo (t + Tick.ms (param s 0x024B)) s
      let s := raiseF 0x0204 1 0xFF (le 2 s.inp.magPeak ++ zeros 2 ++ le 4 ((s.clk.now - since) / Tick.s 1)) s
      tamperEnd 0 (setInp (fun i => { i with magSince := none, magHigh := none, magPeak := 0 }) s)
  | _, _ => .next s

/-- 100 epochs without a flagged sample (R64). -/
def execOverrangeClose (k : Nat) (s : State) : Out :=
  match s.inp.overRange.find? (·.slot == k) with
  | none => .next s
  | some o =>
    whenever (decide (100 ≤ o.quiet)) s fun s =>
      raiseF (if k % 2 = 1 && k < 8 || k = 8 then 0x0201 else 0x0202) 1 0xFF
        (le 2 k ++ zeros 2 ++ le 8 o.lastEpoch ++ le 4 o.samples)
        (setInp (fun i => { i with overRange := i.overRange.filter (·.slot != k) }) s)

/-- The gain cross-check over 100 epochs (R63): the flag is set and logged, or cleared. -/
def execGainMismatch (c : Nat) (s : State) : Out :=
  let flag := (s.inp.gainMismatch[c]?).getD false
  if !flag && (s.inp.gmBad[c]?).getD 0 = 100 then
    .next (raise 0x0203 (le 2 (2 * c + 1) ++ zeros 2 ++ le 4 ((s.inp.gmRatio[c]?).getD 0))
      (setInp (fun i => { i with gainMismatch := i.gainMismatch.set c true }) s))
  else if flag && (s.inp.gmGood[c]?).getD 0 = 100 then
    .next (setInp (fun i => { i with gainMismatch := i.gainMismatch.set c false }) s)
  else .next s

/-- A CH_STATUS word at an epoch (R78). -/
def chStatus (s v : State) (e k : Nat) : Nat :=
  let c := k / 2
  let w := ((v.inp.weightEnds.find? (·.1 == e)).bind (·.2[c]?)).getD ((v.inp.weight[c]?).getD 0)
  (if isCurSlot k then w + 16 * chan2 (paramE s 0x0240 e) c + 64 * chan2 (paramE s 0x0245 e) c
      + 1024 * b2n ((v.inp.gainMismatch[c]?).getD false) else 0)
    + 256 * b2n (bitN s.inp.ovrSeen k) + 512 * b2n (bitN (invalidMask v) k)
    + 2048 * b2n (decide (k < 8) || bitN (modsE s e) (k - 8))

/-- MET_INPUT_STATUS (R78): the inputs at the end of EPOCH, with the peak and the over-range bits since the previous read.
Of several active faults the oldest is shown (log entry 72). -/
def execMetInputStatus (r : Req) (s : State) : Out :=
  brixo 0x0240 r s fun s =>
    let v := asOf s
    let e := shownEpoch s
    let i := v.inp
    let f := i.faults.head?
    let ends := { v with inp := { i with weightEnds := s.inp.weightEnds } }
    let body := (List.range 10).flatMap (fun k => le 2 (chStatus s ends e k)) ++ leI 2 i.hall ++ le 2 s.inp.hallPeak
      ++ le 2 (if 10000 < i.peZ then 0xFFFF else i.peZ) ++ le 2 i.peNpe ++ le 1 (b2n i.peOk) ++ le 1 ((f.map (·.cause)).getD 0)
      ++ leI 2 i.dieTemp ++ le 2 (i.startupTest ||| 0x300) ++ zeros 2 ++ le 8 ((f.map (·.firstEpoch)).getD 0)
    answer (setInp (fun i => { i with hallPeak := 0, ovrSeen := 0 }) s) stOk body

/-- Every current channel, and MOD0 where it is in use, is below the starting current over the last complete epoch and since
(R105, R72). -/
def belowStart (s : State) : Bool :=
  belowStarting s (((s.led.waveRing.getLast?).map (·.2)).getD [] ++ s.met.samples)

/-- MET_INPUT_SELFTEST (R72); an empty mask is BAD_PARAM (log entry 73). -/
def execMetInputSelftest (r : Req) (mask : Nat) (s : State) : Out :=
  brixo 0x0241 r s fun s =>
    if !setupMode s then refuse s stWrongMode
    else if mask = 0 || 0x400 ≤ mask then refuse s stBadParam
    else if s.inp.selfTest.isSome then refuse s stBusy
    else if !kmOpen s then refuse s stContactorClosed
    else if !belowStart s then refuse s stCurrentPresent
    else
      let t : SelfTest := ⟨mask, s.clk.epoch, nowPos s, s.clk.now + Tick.ms 100, some r⟩
      later (settleSwitch mask (nowPos s) (setInp (fun i => { i with selfTest := some t }) s))

/-- MOD channels whose bitstreams are active (R72): in use, with no run of 1 024 identical bits. -/
def modsActive (s : State) : Nat :=
  sumN ((List.range 2).map fun n =>
    if modEnabled s n && decide ((s.inp.run[12 + n]?).getD 0 < 1024) then 2 ^ (8 + n) else 0)

/-- SELFTEST_END (R72, R79): the operand gives the code of each internal modulator at 0, +50 % and −50 % of full scale. Both
switches of the test are settling-invalid (R88). -/
def execSelftestEnd (codes : List Int) (s : State) : Out :=
  match s.inp.selfTest with
  | none => .next s
  | some t =>
    whenever s.dom.d2 s fun s =>
      let s := setInp (fun i => { i with selfTest := none }) (advanceTo t.endAt s)
      let n := settleCount 0 t.start + settleCount 0 (nowPos s)
      let s := settleSwitch t.mask (nowPos s) s
      let p := (refPassed fullCodes codes ||| modsActive s) &&& t.mask
      let s := raise 0x020F (le 2 t.mask ++ le 2 p ++ le 8 t.firstEpoch ++ le 8 s.clk.epoch ++ le 4 n) s
      replyTo t.req 0x0241 stOk (le 2 p ++ zeros 2 ++ le 8 t.firstEpoch ++ le 8 s.clk.epoch) s

end Sys2Proof.Machine
end

