-- ==== Sys2Proof/Machine/Cal.lean ====
section
/-! DEFINITION. Calibration (06): the calibration record and the temperature table, measurement spans, the pulse outputs and the
legally relevant identification. -/

namespace Sys2Proof.Machine

/-! Pulse outputs (R141). -/

def cfOut (q : Bool) (s : State) : CfOut := if q then s.cal.cfQ else s.cal.cfP

def setCf (q : Bool) (o : CfOut) (s : State) : State :=
  setCal (fun c => if q then { c with cfQ := o } else { c with cfP := o }) s

/-- The pulse outputs run: D2 does, before t_f, and Sieve is not halted (R141). -/
def cfRuns (s : State) : Bool := s.dom.d2 && !inHoldup s && !s.sie.halted

/-- CF_PULSE_EDGE: the next rising edge of CF_P, or of CF_Q where the operand is true. -/
def execCfPulseEdge (q : Bool) (s : State) : Out :=
  let o := cfOut q s
  match o.edges with
  | [] => .next s
  | t :: rest =>
    whenever (cfRuns s) s fun s =>
      let w := Tick.ms (param s 0x02A8)
      let width := match o.prev with | some p => min w ((t - p) / 2) | none => w
      setCf q { o with edges := rest, prev := some t, high := some (t + width) } (advanceTo t s)

def execCfPulseEnd (q : Bool) (s : State) : Out :=
  let o := cfOut q s
  match o.high with
  | none => .next s
  | some t => whenever s.dom.d2 s fun s => setCf q { o with high := none } (advanceTo t s)

/-! The temperature table and the calibration record (R133, R134). -/

/-- Bytes 0 to 8 + 36 N − 1 of a temperature table. -/
def TempTable.body (t : TempTable) : List Byte :=
  le 2 t.version ++ le 1 t.gainD.length ++ zeros 1 ++ leI 2 t.tFirst ++ zeros 2
    ++ (List.zipWith (fun g d => g.flatMap (leI 2) ++ d.flatMap (leI 2) ++ zeros 2) t.gainD t.timeD).flatten

/-- Signed 16-bit values from an offset. -/
def i16At (b : List Byte) (off n : Nat) : List Int := (List.range n).map fun k => toI 2 (fieldAt b (off + 2 * k) 2)

/-- The table that bytes spell (R134). -/
def parseTable (b : List Byte) : TempTable :=
  let n := fieldAt b 2 1
  { version := fieldAt b 0 2, tFirst := toI 2 (fieldAt b 4 2)
    gainD := (List.range n).map fun k => i16At b (8 + 36 * k) 14
    timeD := (List.range n).map fun k => i16At b (8 + 36 * k + 28) 3, crc := fieldAt b (8 + 36 * n) 4 }

/-- The conditions of R134 beside the CRC. -/
def tableOk (b : List Byte) : Bool :=
  let n := fieldAt b 2 1
  let t := toI 2 (fieldAt b 4 2)
  decide (2 ≤ n) && decide (n ≤ 34) && decide (t % 500 = 0) && decide (-4000 ≤ t)
    && decide (t + 500 * ((n : Int) - 1) ≤ 12500) && fieldAt b 3 1 == 0 && fieldAt b 6 2 == 0
    && (List.range n).all fun k => fieldAt b (8 + 36 * k + 34) 2 == 0

/-- Bytes 0 to 1 395 of a calibration record (R133). -/
def CalRecord.body (c : CalRecord) : List Byte :=
  le 2 1 ++ zeros 2 ++ le 4 c.count ++ le 8 c.epoch ++ leI 8 c.civil ++ leI 2 c.tCal ++ le 2 c.setId ++ le 4 c.setCrc
    ++ c.gain.flatMap (le 4) ++ c.ofs.flatMap (leI 4) ++ c.time.flatMap (leI 4) ++ le 4 (b2n c.tcEnable)
    ++ padTo 1236 (match c.table with | some t => t.body ++ le 4 t.crc | none => [])

def CalRecord.crc (c : CalRecord) : Nat := crc32c c.body

/-- The values in force as a record; CAL_CIVIL is the civil second at the end of the commit's epoch (log entry 74). -/
def recordNow (s : State) (count : Nat) (tCal : Int) : CalRecord :=
  { count := count, epoch := s.clk.epoch, civil := civilSec (civilEnd s), tCal := tCal, setId := (coef s).id
    setCrc := (coef s).crc, gain := (List.range 14).map fun p => param s (0x0280 + p)
    ofs := (List.range 14).map fun p => paramI s (0x0290 + p), time := (List.range 3).map fun x => paramI s (0x02A0 + x)
    tcEnable := param s 0x02A3 == 1, table := s.cal.table, valid := true }

/-- CAL_DIRTY (R140): a calibration value in force differs from the committed record. -/
def calDirty (s : State) : Bool :=
  match s.cal.inForce with
  | none => true
  | some c =>
    let n := recordNow s c.count c.tCal
    n.gain != c.gain || n.ofs != c.ofs || n.time != c.time || n.tcEnable != c.tcEnable || n.table != c.table

/-! Measurement spans (R147). -/

def execMetCalMeasure (r : Req) (mask n : Nat) (s : State) : Out :=
  brixo 0x0280 r s fun s =>
    if !setupMode s then refuse s stWrongMode
    else if mask = 0 || 2 ^ 14 ≤ mask || n = 0 || 6000 < n then refuse s stBadParam
    else if s.cal.span.isSome then refuse s stBusy
    else
      let sp : CalSpan := ⟨mask, n, s.clk.epoch + 1, 0, List.replicate 14 0, 0, [0, 0, 0, 0], [0, 0, 0, 0], 0, false, some r⟩
      later (setCal (fun c => { c with span := some sp }) s)

/-- MEAN and RATIO of one path (R147). -/
def pathResult (sp : CalSpan) (p : Nat) : List Byte :=
  let c := p / 3
  let ratio := if isHighPath p && decide (0 < code sp.low c) then
      divRound (code sp.cross c * 2 ^ 30) (code sp.low c).toNat
    else 0
  leI 4 (if sp.count = 0 then 0 else divRound (code sp.sums p) sp.count) ++ leI 4 ratio

def execCalMeasureSpanEnd (s : State) : Out :=
  match s.cal.span with
  | none => .next s
  | some sp =>
    whenever (s.dom.d2 && decide (sp.nEpochs ≤ sp.done)) s fun s =>
      let t := divRound sp.tempSum sp.nEpochs
      let s := setCal (fun c => { c with span := none, lastSpanTemp := some t }) s
      replyTo sp.req 0x0280 stOk (le 8 sp.first ++ le 8 (sp.first + sp.nEpochs - 1) ++ leI 2 t ++ le 1 (b2n sp.mixed)
        ++ zeros 1 ++ (maskIdx 14 sp.mask).flatMap (pathResult sp)) s

/-- MET_CAL_COMMIT (R133, R138): the copy that is not in force is overwritten. -/
def execMetCalCommit (r : Req) (s : State) : Out :=
  brixo 0x0281 r s fun s =>
    if inHoldup s then refuse s stWrongMode
    else if sealSet s then refuse s stSealed
    else match s.cal.lastSpanTemp with
      | none => refuse s stNoMeasure
      | some t =>
        let n := recordNow s (satInc 0xFFFFFFFF ((s.cal.inForce.map (·.count)).getD 0)) t
        let inA := s.cal.inForce.isSome && s.cal.inForce == s.cal.copyA
        let s := setCal (fun c => { (if inA then { c with copyB := some n } else { c with copyA := some n }) with
          inForce := some n }) s
        let s := faultAbsent 8 255 s
        answer (logNowF 0x0210 0 r.sender.code (le 4 n.count ++ le 4 n.crc ++ leI 2 n.tCal) s) stOk

/-- MET_TEMP_TABLE_LOAD (R134): the operand is the bulk payload. -/
def execMetTempTableLoad (r : Req) (data : List Byte) (s : State) : Out :=
  brixo 0x0282 r s fun s =>
    if inHoldup s then refuse s stWrongMode
    else if sealSet s then refuse s stSealed
    else
      let n := fieldAt data 2 1
      if data.length != 12 + 36 * n then refuse s stBadLength
      else if crc32c (data.take (8 + 36 * n)) != fieldAt data (8 + 36 * n) 4 then refuse s stIntegrity
      else if !tableOk data then refuse s stBadParam
      else
        let t := parseTable data
        answer (setCal (fun c => { c with table := some t, atOnce := true }) s) stOk (le 4 t.crc)

/-- MET_TEMP_STATUS (R148): the compensation at the end of EPOCH; CAL_DIRTY and CF_OVERRATE as they stand. -/
def execMetTempStatus (r : Req) (s : State) : Out :=
  brixo 0x0283 r s fun s =>
    let v := (asOf s).cal
    let flags := packBits [paramE s 0x02A3 (shownEpoch s) == 1, v.clamped, calDirty s, s.cal.overrate]
    answer (setCal (fun c => { c with overrate := false }) s) stOk (leI 2 s.snap.temp ++ le 1 flags ++ zeros 1
      ++ v.dg.flatMap (leI 2) ++ v.dt.flatMap (leI 2) ++ le 2 ((v.table.map (·.version)).getD 0))

/-- LR_HASH of the firmware image and the Sieve set in force (R143). -/
def lrHashOf (s : State) : List Byte := Config.sha256 (metImage s ++ setBytes (coef s))

def calCount (s : State) : Nat := (s.cal.inForce.map (·.count)).getD 0

def execMetLrId (r : Req) (s : State) : Out :=
  brixo 0x0284 r s fun s =>
    let v := lrVersionOf s
    answer s stOk (le 1 v.1 ++ le 1 v.2.1 ++ le 1 v.2.2 ++ le 1 (b2n (sealSet s)) ++ padTo 32 s.cal.lrHash
      ++ le 4 (calCount s) ++ le 4 ((s.cal.inForce.map CalRecord.crc).getD 0) ++ le 4 s.cal.sealRefused)

end Sys2Proof.Machine
end

