-- ==== Sys2Proof/Machine/Keys.lean ====
section
/-! DEFINITION. Use of Sagger's key slots (16), as every chapter that signs, verifies or keeps a key uses them. -/

namespace Sys2Proof.Machine

def setSag (f : Sagger → Sagger) (s : State) : State := { s with sag := f s.sag }

/-- ATTR bits (R390). -/
abbrev aSign : Nat := 0
abbrev aVerify : Nat := 1
abbrev aTls : Nat := 4
abbrev aDerive : Nat := 5
abbrev aUnwrap : Nat := 6
abbrev aExportPub : Nat := 7
abbrev aCarry : Nat := 8
abbrev aCounted : Nat := 9
abbrev aExpire : Nat := 10
abbrev aImmutable : Nat := 11

/-- The key length of a type (R389), none for a type that does not exist. -/
def keyLen (type : Nat) : Option Nat :=
  match type with
  | 1 => some 16 | 2 => some 32 | 3 => some 32 | 4 => some 32 | 5 => some 32 | 6 => some 66
  | 7 => some 57 | 8 => some 64 | 9 => some 32 | 10 => some 132 | 11 => some 57
  | _ => none

/-- The public type of a private or public type, none for a symmetric one. -/
def pubType (type : Nat) : Option Nat :=
  if 4 ≤ type ∧ type ≤ 7 then some (type + 4) else if 8 ≤ type ∧ type ≤ 11 then some type else none

def slotOf (s : State) (k : Nat) : Option Slot := s.sag.slots.find? (·.slot == k)

/-- A slot whose remaining uses have reached 0 (R391, R392). -/
def Slot.spent (p : Slot) : Bool := bitN p.attr aCounted && p.usesMax != 0 && p.usesLeft == 0

/-- STATE of a slot (R409): 0 empty, 1 active, 2 BAD, 3 MISMATCH, 4 EXHAUSTED. -/
def slotState (s : State) (k : Nat) : Nat :=
  match slotOf s k with
  | none => 0
  | some p => if !p.cmacOk then 2 else if p.root != s.sag.root then 3 else if p.spent then 4 else 1

/-- A BAD slot is recorded once per D3 start (R391). -/
def noteBad (k : Nat) (s : State) : State :=
  match slotOf s k with
  | some p =>
    if p.cmacOk || bitN s.sag.badLogged k then s
    else sagEvent 3 k (logNow 0x0802 (le 1 k ++ le 1 p.type ++ le 2 p.gen)
      (setSag (fun g => { g with badLogged := setBitN g.badLogged k true }) s))
  | none => s

/-- The refusal of an operation that needs an attribute of a slot, none where it may run (R387, R390, R391). -/
def slotBar (s : State) (k attr : Nat) : Option Nat :=
  if s.sag.root = 0 then some stRootUnavailable
  else match slotOf s k with
    | none => some stSlotEmpty
    | some p =>
      if !p.cmacOk then some stSlotBad
      else if p.root != s.sag.root then some stRootMismatch
      else if !bitN p.attr attr then some stAttributeDenied
      else none

/-- The refusal of an operation with the key itself, which also needs a use left (R392, R408). -/
def slotRefusal (s : State) (k attr : Nat) : Option Nat :=
  (slotBar s k attr).or (if ((slotOf s k).map Slot.spent).getD false then some stUsesExhausted else none)

/-- One use of a COUNTED slot, durable before the result is released (R392). -/
def consume (k : Nat) (s : State) : State :=
  let f (p : Slot) : Slot :=
    if p.slot = k ∧ bitN p.attr aCounted ∧ p.usesMax ≠ 0 then { p with usesLeft := p.usesLeft - 1 } else p
  setSag (fun g => { g with slots := g.slots.map f }) s

/-- The key of a slot, empty where there is none. -/
def keyOf (s : State) (k : Nat) : List Byte := ((slotOf s k).map (·.key)).getD []
def typeOf (s : State) (k : Nat) : Nat := ((slotOf s k).map (·.type)).getD 0
def genOf (s : State) (k : Nat) : Nat := ((slotOf s k).map (·.gen)).getD 0

/-- Sources that block VEH_AUTHORISE: acknowledged not yet, or still present with the disconnect response (R398). -/
def tamperBlocks (s : State) : Bool := s.sag.blocking != 0

/-- The slot that signs readings, and whether it can (R190, R390). -/
def signSlot (s : State) : Nat := param s 0x0301
def canSign (s : State) : Bool := (slotRefusal s (signSlot s) aSign).isNone

end Sys2Proof.Machine
end

