-- ==== Sys2Proof/Machine/Reading.lean ====
section
/-! DEFINITION. Signed readings (08): forming, signing and their bytes; the statement that carries one (09). -/

namespace Sys2Proof.Machine

/-- The 128-byte body of a reading (R191). -/
def Reading.body (id : Nat) (p : Reading) : List Byte :=
  let unset := bitN p.flags 1
  le 1 1 ++ le 1 p.kind ++ le 1 p.alg ++ le 1 p.flags
    ++ le 4 (if unset then 0 else p.civil.toNat % 2 ^ 32) ++ le 8 p.epoch ++ le 8 id ++ le 4 p.no ++ le 2 p.keyGen
    ++ le 1 p.keySlot ++ le 1 p.mode ++ padTo 4 p.lrHash4 ++ le 4 p.calCount ++ padTo 48 (p.reg.flatMap (le 8))
    ++ padTo 32 p.digest ++ le 2 p.frac ++ zeros 6

/-- The 192-byte reading. -/
def Reading.bytes (id : Nat) (p : Reading) : List Byte := p.body id ++ padTo 64 (p.signature.getD [])

/-- Bytes 0–91 of a session statement (R227). -/
def Statement.body (p : Statement) : List Byte :=
  le 4 p.no ++ le 4 p.readingNo ++ le 8 p.startEpoch ++ le 8 p.endEpoch ++ leI 8 p.startCivil ++ leI 8 p.endCivil
    ++ le 1 p.authKind ++ le 1 p.endCause ++ le 2 p.flags ++ padTo 8 p.authRef ++ le 8 p.energyImp ++ le 8 p.energyExp
    ++ le 8 p.startImp ++ leI 8 p.cost ++ le 4 p.peakW ++ le 1 p.rateMask ++ le 1 p.source ++ zeros 2

/-- The 160-byte statement. -/
def Statement.bytes (p : Statement) : List Byte := withCrc p.body ++ padTo 64 p.signature

/-- Readings formed and not yet signed, oldest first. -/
def unsigned (s : State) : List Reading := s.led.readings.filter (·.signature.isNone)

/-! The values of an epoch (R180, R190, R227). -/

/-- Group 0 values at the end of an epoch, civil ticks there, and what else a reading states of it. -/
structure EpochVals where
  epoch : Nat
  civil : Int
  unset : Bool
  wedge : Bool
  mode : Nat
  fine : List Nat
  deriving DecidableEq, Repr

/-- Journal entries of samples, in the ring's order: KIND 4 carries none. -/
def sampleEntries (s : State) : List JournalEntry := s.led.journal.filter fun j => j.valid && j.kind != 4

/-- Group 0 fine totals before an epoch, from the totals reached and the journal (R180). -/
def fineBefore (s : State) (e : Nat) : List Nat :=
  let after := ((sampleEntries s).filter fun j => decide (e ≤ j.epoch)).foldl (fun t j => addN t j.incHw) (List.replicate 12 0)
  let t := addHw (List.replicate 36 0) after
  s.met.fine.mapIdx fun r v => v - (t[r]?).getD 0

/-- The ledger-state copy in force: the valid one with the higher LS_SEQ (R234). -/
def lsNewest (s : State) : Option LsCopy :=
  match s.led.lsA.filter (·.valid), s.led.lsB.filter (·.valid) with
  | some a, some b => if a.seq < b.seq then some b else some a
  | some a, none => some a
  | none, b => b

/-- First epoch of the present run, from the superblock in force (R172). -/
def runFirst (s : State) : Nat :=
  (((s.led.superA.toList ++ s.led.superB.toList).filter (·.valid)).foldl
    (fun m b => if m.1 < b.gen then (b.gen, b.runFirst) else m) (0, s.clk.epoch)).2

/-- Civil ticks at the end of an epoch that no record of D2 holds: counted from the present epoch, and in an earlier run from the
ledger-state copy in force (R205). -/
def civilAtEnd (s : State) (e : Nat) : Int :=
  if runFirst s ≤ e then s.bil.civil - 2048000 * ((s.clk.epoch : Int) - 1 - e)
  else match lsNewest s with
    | some c => c.civil * 204800000 + 2048000 * ((e : Int) - c.bil.through)
    | none => 2048000 * ((e : Int) + 1)

/-- The values of an epoch as its snapshot has them; else as D2 latched them; else from the journal (R190). A journal entry names
no mode other than HOLDUP (log entry 79). -/
def valsAt (s : State) (e : Nat) : EpochVals :=
  let p := s.snap
  if p.published && p.epoch == e then
    ⟨e, p.civilS * 204800000 + 3125 * p.civilF, bitN p.flags 7, p.wedgeSet != 0, p.mode.code, p.fine⟩
  else match s.met.incs.find? (·.epoch == e) with
    | some i => ⟨e, i.civil1, i.unset, bitN i.flags 10, i.mode, i.fineEnd⟩
    | none =>
      let flags := (((sampleEntries s).find? fun j => decide (e ≤ j.epoch)).map (·.flags)).getD 0
      ⟨e, civilAtEnd s e, bitN flags 7, bitN flags 2, if bitN flags 0 then Mode.holdup.code else s.mode.mode.code,
        fineBefore s (e + 1)⟩

/-- A reading of the values of an epoch is formed (R190): it takes its number, and waits for its signature. -/
def formReading (kind : Nat) (digest : List Byte) (dest : Option Req) (stmt : Option Nat) (v : EpochVals) (s : State) : State :=
  let civil := civilSec v.civil
  let unset := v.unset || decide (civil < 0)
  let p : Reading :=
    { no := s.led.nextReading, kind := kind, alg := param s 0x0300
      flags := packBits [!unset && decide (2 ^ 32 ≤ civil), unset, v.wedge, s.led.uncleanSince]
      civil := civil, frac := civilFrac v.civil, epoch := v.epoch, keyGen := genOf s (signSlot s), keySlot := signSlot s
      mode := v.mode, lrHash4 := s.cal.lrHash.take 4, calCount := calCount s
      reg := [6, 7, 32, 33, 34, 35].map fun n => ((v.fine[n]?).getD 0) / (1000 * 2 ^ 65)
      digest := digest, signature := none, dest := dest, statement := stmt }
  setLed (fun l => { l with
    readings := pushRing 256 l.readings p, nextReading := satInc 0xFFFFFFFF l.nextReading, uncleanSince := false }) s

/-- The epoch of a reading made now: that of the snapshot, and before the first one of a run that of the last durable entry. -/
def readingEpoch (s : State) : Nat :=
  if s.snap.published then s.snap.epoch else (((sampleEntries s).getLast?).map (·.epoch)).getD 0

/-- A reading of the present epoch's values. -/
def snapReading (kind : Nat) (digest : List Byte) (dest : Option Req) (stmt : Option Nat) (s : State) : State :=
  formReading kind digest dest stmt (valsAt s (readingEpoch s)) s

/-- The signature of a reading, with the key in force when the operation begins (R390, R394). -/
def signReading (p : Reading) (s : State) : Reading × State :=
  let k := signSlot s
  let others := (unsigned s).any (·.no != p.no)
  let p := { p with
    alg := param s 0x0300, keySlot := k, keyGen := genOf s k
    flags := if others then p.flags ||| 16 else p.flags }
  let body := p.body s.ident.moduleId
  let msg := if p.alg = 1 then Config.sha256 body else body
  let sig := padTo 64 (Config.sign (typeOf s k) (keyOf s k) msg)
  ({ p with signature := some sig }, consume k s)

/-- A signed reading enters its place in the store; its statement takes the signature, and BIL_STATEMENT and the reply are
sent (R190, R200, R227, R237). -/
def completeReading (p : Reading) (s : State) : State :=
  let (q, s) := signReading p s
  let s := setLed (fun l => { l with
    readings := l.readings.map fun x => if x.no = q.no then q else x
    signedEpoch := max l.signedEpoch q.epoch }) s
  let bytes := q.bytes s.ident.moduleId
  let s := match q.statement with
    | none => s
    | some n =>
      let sts := s.bil.statements.map fun x => if x.no = n then { x with signature := q.signature.getD [] } else x
      let s := { s with bil := { s.bil with statements := sts } }
      match sts.find? (·.no == n) with
      | some x => notify 1 0x0411 (x.bytes ++ bytes) s
      | none => s
  replyTo q.dest 0x0303 stOk bytes s

/-- SIGNATURE_COMPLETE (R190): the oldest pending reading; in HOLDUP only the final one is signed. -/
def execSignatureComplete (s : State) : Out :=
  let next := if inHoldup s then (unsigned s).find? (·.kind == 3) else (unsigned s).head?
  match next with
  | none => .next s
  | some p => whenever (s.dom.d3 && canSign s) s (completeReading p)

/-- The first epoch of the run, up to that of the snapshot, whose end has reached an instant: among the epochs that D2 holds, and
before those among the journal entries (R190). -/
def reachedAt (s : State) (t : Int) : Nat :=
  let old := (sampleEntries s).find? fun j => decide (runFirst s ≤ j.epoch) && decide (t ≤ civilAtEnd s j.epoch)
  let e := match s.met.incs.head?, s.met.incs.find? fun i => decide (t ≤ i.civil1) with
    | some h, some i => if h.epoch < i.epoch then i.epoch else (old.map fun j => min i.epoch j.epoch).getD i.epoch
    | _, _ => (old.map (·.epoch)).getD s.snap.epoch
  min e s.snap.epoch

/-- PERIODIC_READING_DUE (R190): one KIND 2 reading for the last multiple of LED.SIGN_PERIOD passed, with the values of the
first epoch whose end has reached it. In RECOVERY the ledger is read-only (R30). -/
def execPeriodicReadingDue (s : State) : Out :=
  let p := param s 0x0302
  let m := s.snap.civilS / (60 * (p : Int)) * p
  let due := match s.led.lastPeriodic with | some l => decide (l < m) | none => true
  whenever (s.dom.d3 && p != 0 && s.snap.published && !bitN s.snap.flags 7 && due && !isStandby s
      && s.mode.mode != .recovery) s fun s =>
    formReading 2 [] none none (valsAt s (reachedAt s (m * 60 * 204800000))) (setLed (fun l => { l with lastPeriodic := some m }) s)

/-- LED_SIGN_READING (R190, R197): at most 64 readings wait. -/
def execLedSignReading (r : Req) (challenge : List Byte) (s : State) : Out :=
  brixo 0x0303 r s fun s =>
    if inHoldup s || s.mode.mode == .recovery then refuse s stWrongMode
    else if isStandby s then refuse s stNotActive
    else if !canSign s then refuse s stSigningUnavailable
    else if 64 ≤ (unsigned s).length then refuse s stQueueFull
    else later (snapReading 1 (padTo 32 challenge) (some r) none s)

end Sys2Proof.Machine
end

