-- ==== Sys2Proof/Machine/Civil.lean ====
section
/-! DEFINITION. Civil and local time (09): dates, the time-zone table, tariff calendars and billing instants. Civil seconds
count from 2000-01-01T00:00:00Z. -/

namespace Sys2Proof.Machine

def setBil (f : Billing → Billing) (s : State) : State := { s with bil := f s.bil }

/-! Dates. -/

/-- Year, month and day of a number of days since 2000-01-01. -/
def dateOf (days : Int) : Int × Nat × Nat :=
  let z := days - 60
  let era := z / 146097
  let doe := (z % 146097).toNat
  let yoe := (doe + doe / 36524 - doe / 1460 - doe / 146096) / 365
  let doy := doe - (365 * yoe + yoe / 4 - yoe / 100)
  let mp := (5 * doy + 2) / 153
  let d := doy - (153 * mp + 2) / 5 + 1
  let m := if mp < 10 then mp + 3 else mp - 9
  (yoe + era * 400 + 2000 + (if m ≤ 2 then 1 else 0), m, d)

/-- Day of the week, 0 for Monday; 2000-01-01 was a Saturday. -/
def weekdayOf (days : Int) : Nat := ((days + 5) % 7).toNat

/-! Local time (R201–R203). -/

/-- The table entry in force at a civil instant: the last one begun, or entry 0. -/
def tzEntry (b : Billing) (t : Int) : Option TzEntry :=
  b.tz.bind fun z => ((z.entries.filter fun e => decide (e.utcFrom ≤ t)).getLast?).or z.entries.head?

/-- Local offset at a civil instant, s. -/
def offsetAt (b : Billing) (t : Int) : Int := ((tzEntry b t).map fun e => e.offset * 60).getD 0

def isDst (b : Billing) (t : Int) : Bool := ((tzEntry b t).map (·.dst)).getD false

def localOf (b : Billing) (t : Int) : Int := t + offsetAt b t

/-- Offset decreases of a table: instant and size, s. -/
def decreases : List TzEntry → List (Int × Int)
  | a :: b :: rest => (if b.offset < a.offset then [(b.utcFrom, (a.offset - b.offset) * 60)] else [])
      ++ decreases (b :: rest)
  | _ => []

/-- The local time at an instant occurs for the second time (R203). -/
def repeatedAt (b : Billing) (t : Int) : Bool :=
  match b.tz with
  | none => false
  | some z => (decreases z.entries).any fun d => decide (d.1 ≤ t) && decide (t < d.1 + d.2)

/-- The first civil instant of a local time; for one that does not occur, the instant of the offset change (R203). -/
def utcOf (b : Billing) (x : Int) : Int :=
  match b.tz with
  | none => x
  | some z =>
    let hits := (z.entries.map fun e => x - e.offset * 60).filter fun u => localOf b u == x
    match hits with
    | h :: t => t.foldl min h
    | [] => (((z.entries.filter fun e => decide (x < e.utcFrom + e.offset * 60)).head?).map (·.utcFrom)).getD x

/-! Tariff calendars (R210, R211). -/

/-- The day profile of a local date (R211 steps 1 and 2). -/
def dayProfile (c : Calendar) (days : Int) : Nat :=
  let (y, m, d) := dateOf days
  let hit (p : SpecialDay) : Bool := p.month == m && p.day == d
  let special := (c.specials.find? fun p => hit p && (p.year : Int) == y).or (c.specials.find? fun p => hit p && p.year == 0)
  match special with
  | some p => p.profile
  | none =>
    let season := ((c.seasons.filter fun s => s.1 < m || (s.1 == m && s.2.1 ≤ d)).getLast?).or c.seasons.getLast?
    ((((season.map (·.2.2)).bind (c.weeks[·]?)).bind (·[weekdayOf days]?)).getD 0)

/-- A special day flagged friendly matches a local date (R231). -/
def friendlyDay (c : Calendar) (days : Int) : Bool :=
  let (y, m, d) := dateOf days
  let hit (p : SpecialDay) : Bool := p.month == m && p.day == d
  match (c.specials.find? fun p => hit p && (p.year : Int) == y).or (c.specials.find? fun p => hit p && p.year == 0) with
  | some p => p.friendly
  | none => false

/-- The rate at a local instant (R211). -/
def rateAt (c : Calendar) (x : Int) : Nat :=
  let days := x / 86400
  let minute := (x % 86400 / 60).toNat
  let day := (c.days[dayProfile c days]?).getD []
  ((((day.filter fun p => decide (p.1 ≤ minute)).getLast?).or day.head?).map (·.2)).getD 1

/-- The rate of R211 at a civil instant. -/
def rateNow (b : Billing) (t : Int) : Nat :=
  match b.active with
  | none => b.rate
  | some c => rateAt c (localOf b t)

/-- The rate in force from a boundary on: a local time that occurs again triggers nothing (R203). -/
def rateFrom (b : Billing) (t : Int) : Nat :=
  if repeatedAt b t then b.rate else rateNow b t

/-! Friendly time (R231). -/

def friendlyAt (s : State) (t : Int) : Bool :=
  let x := localOf s.bil t
  let m := (x % 86400 / 60).toNat
  let a := param s 0x040E
  let z := param s 0x040F
  let span := if a < z then decide (a ≤ m) && decide (m < z) else a != z && (decide (a ≤ m) || decide (m < z))
  span || ((s.bil.active.map fun c => friendlyDay c (x / 86400)).getD false)

/-! Billing instants (R220). -/

/-- The schedule closes a period on a local date. -/
def billDay (s : State) (days : Int) : Bool :=
  match param s 0x0406 with
  | 1 => true
  | 2 => weekdayOf days == 0
  | 3 => (dateOf days).2.2 == param s 0x0407
  | _ => false

/-- The last scheduled close after `lo` and up to `hi`, in civil seconds. -/
def lastBill (s : State) (lo hi : Int) : Option Int :=
  let d := localOf s.bil hi / 86400 + 1
  let cands := (List.range 40).filterMap fun (k : Nat) =>
    let day := d - (k : Int)
    if billDay s day then some (utcOf s.bil (day * 86400 + param s 0x0408 * 60)) else none
  ((cands.filter fun u => decide (lo < u) && decide (u ≤ hi)).foldl (fun b u => match b with
    | none => some u
    | some v => some (max v u)) none)

/-! Loading (R202, R212). -/

/-- Consecutive fields of `n` bytes from an offset. -/
def fields (l : List Byte) (off n count : Nat) : List Nat := (List.range count).map fun i => fieldAt l (off + n * i) n

def tzOf (l : List Byte) : TzTable :=
  let n := fieldAt l 2 1
  { version := fieldAt l 0 2, crc := fieldAt l (8 + 16 * n) 4
    entries := (List.range n).map fun i =>
      let o := 8 + 16 * i
      ⟨toI 8 (fieldAt l o 8), toI 2 (fieldAt l (o + 8) 2), fieldAt l (o + 10) 1 == 1⟩ }

/-- Values strictly rising. -/
def rising : List Int → Bool
  | a :: b :: rest => decide (a < b) && rising (b :: rest)
  | _ => true

def tzOk (l : List Byte) (z : TzTable) : Bool :=
  decide (1 ≤ z.entries.length) && decide (z.entries.length ≤ 127)
    && z.entries.all (fun e => decide (-720 ≤ e.offset) && decide (e.offset ≤ 840))
    && rising (z.entries.map (·.utcFrom))
    && (List.range z.entries.length).all fun i => decide (fieldAt l (18 + 16 * i) 1 ≤ 1)

/-- Offsets of the parts of a calendar object: weeks, days, specials, CRC. -/
def calOffsets (l : List Byte) : Nat × Nat × Nat × Nat :=
  let w := 32 + 4 * fieldAt l 6 1
  let d := w + 8 * fieldAt l 7 1
  let x := d + 52 * fieldAt l 8 1
  (w, d, x, x + 8 * fieldAt l 9 1)

def calOf (l : List Byte) : Calendar :=
  let (w, d, x, _) := calOffsets l
  { id := fieldAt l 0 4, version := fieldAt l 4 2, activateAt := toI 8 (fieldAt l 16 8)
    seasons := (List.range (fieldAt l 6 1)).map fun i =>
      (fieldAt l (32 + 4 * i) 1, fieldAt l (33 + 4 * i) 1, fieldAt l (34 + 4 * i) 1)
    weeks := (List.range (fieldAt l 7 1)).map fun i => fields l (w + 8 * i) 1 7
    days := (List.range (fieldAt l 8 1)).map fun i =>
      (List.range (fieldAt l (d + 52 * i) 1)).map fun k =>
        (fieldAt l (d + 52 * i + 4 + 4 * k) 2, fieldAt l (d + 52 * i + 6 + 4 * k) 1)
    specials := (List.range (fieldAt l 9 1)).map fun i =>
      let o := x + 8 * i
      ⟨fieldAt l o 2, fieldAt l (o + 2) 1, fieldAt l (o + 3) 1, fieldAt l (o + 4) 1, bitN (fieldAt l (o + 5) 1) 0⟩ }

def dateFits (m d : Nat) : Bool := decide (1 ≤ m) && decide (m ≤ 12) && decide (1 ≤ d) && decide (d ≤ 31)

/-- Every count, range, order and index check of R212. -/
def calFits (c : Calendar) : Bool :=
  decide (1 ≤ c.seasons.length) && decide (c.seasons.length ≤ 8) && decide (1 ≤ c.weeks.length)
    && decide (c.weeks.length ≤ 8) && decide (1 ≤ c.days.length) && decide (c.days.length ≤ 16)
    && decide (c.specials.length ≤ 64) && decide (c.activateAt % 60 = 0)
    && c.seasons.all (fun x => dateFits x.1 x.2.1 && decide (x.2.2 < c.weeks.length))
    && rising (c.seasons.map fun x => (100 * x.1 + x.2.1 : Nat))
    && c.weeks.all (fun w => w.all fun d => decide (d < c.days.length))
    && c.days.all (fun d => decide (1 ≤ d.length) && decide (d.length ≤ 12) && (d.head?.map (·.1)) == some 0
        && rising (d.map fun p => (p.1 : Int)) && d.all fun p => decide (p.1 < 1440) && decide (1 ≤ p.2) && decide (p.2 ≤ 8))
    && c.specials.all fun x => dateFits x.month x.day && decide (x.profile < c.days.length)

/-- The CRC at an offset covers the bytes before it. -/
def crcAt (l : List Byte) (off : Nat) : Bool := crc32c (l.take off) == fieldAt l off 4

end Sys2Proof.Machine
end

