-- ==== Sys2Proof/Machine/Ledgering.lean ====
section
/-! DEFINITION. Attribution of energy to rates, demand, profiles and credit (09): what Kiln's ledger task does for an epoch, the
closings at a boundary, and the closings at a clock step and at a restart. -/

namespace Sys2Proof.Machine

/-! Records as bytes (R216, R218, R221). -/

def ProfileRec.bytes (p : ProfileRec) : List Byte :=
  withCrc (le 4 p.no ++ le 2 p.flags ++ le 1 p.rate ++ le 1 p.cfgGen ++ leI 8 p.endCivil ++ le 8 p.closeEpoch
    ++ le 2 p.poweredS ++ le 2 p.skippedN ++ padTo 32 (p.values.flatMap (le 2)))

def FineRec.bytes (p : FineRec) : List Byte :=
  withCrc (le 3 p.epoch ++ le 1 p.flags ++ padTo 8 (p.values.flatMap (le 2)))

def BillRec.body (p : BillRec) : List Byte :=
  le 4 p.period ++ le 2 p.flags ++ le 1 p.rateAtClose ++ le 1 p.cause ++ leI 8 p.startCivil ++ leI 8 p.endCivil
    ++ le 8 p.closeEpoch ++ p.totals.flatMap (le 8) ++ p.rateImp.flatMap (le 8) ++ p.rateExp.flatMap (le 8)
    ++ le 4 p.maxImp.watts ++ le 1 p.maxImp.rate ++ zeros 3 ++ leI 8 p.maxImp.endCivil
    ++ le 4 p.maxExp.watts ++ le 1 p.maxExp.rate ++ zeros 3 ++ leI 8 p.maxExp.endCivil ++ leI 8 p.credit

def BillRec.bytes (p : BillRec) : List Byte := withCrc (p.body ++ le 4 p.readingNo ++ zeros 16)

/-! The increments of an epoch (R180, R207). -/

/-- The first epoch whose increments D2 or the journal holds, the first one of a merged entry included. -/
def heldFrom (s : State) : Option Nat :=
  let j := ((sampleEntries s).head?).map fun j => j.epoch + 1 - max 1 (divCeil j.nSamples 320)
  match j, (s.met.incs.head?).map (·.epoch) with
  | some a, some b => some (min a b)
  | a, b => a.or b

/-- Neither D2 nor the journal holds an epoch any more (R180). -/
def gapAt (s : State) (e : Nat) : Bool := (heldFrom s).any fun h => decide (e < h)

/-- The increments of an epoch: those D2 keeps, else, for an epoch that a later durable entry follows, what the journal says of
its end, which has no split. An epoch without an entry of its own ends with the totals of its start (R175, R180). -/
def incFor (s : State) (e : Nat) : Option EpochInc :=
  if gapAt s e then none
  else (s.met.incs.find? (·.epoch == e)).or
    (((sampleEntries s).find? fun j => decide (e ≤ j.epoch)).map fun j =>
      let c1 := civilAtEnd s e
      let inc := ((sampleEntries s).filter fun x => x.epoch == e).foldl (fun t x => addN t x.incHw) (List.replicate 12 0)
      ⟨e, inc, none, inc, fineBefore s (e + 1), (if j.flags / 32 % 4 = 0 then 0 else 512) + (if bitN j.flags 2 then 1024 else 0),
        c1 - 2048000, c1, 0, bitN j.flags 7⟩)

/-- What the 12 hardware registers gain between the point of attribution and the end of an epoch. -/
def restOf (s : State) (x : EpochInc) : List Nat :=
  hwRegs.map fun r => (x.fineEnd[r]?).getD 0 - (s.bil.fineAt[r]?).getD 0

/-- Import and export increments of the source registers (R209) out of the 12 hardware ones. -/
def srcInc (s : State) (inc : List Nat) : Nat × Nat :=
  if param s 0x0400 = 1 then ((inc[8]?).getD 0, (inc[9]?).getD 0) else ((inc[6]?).getD 0, (inc[7]?).getD 0)

/-- The source register of R209 in fine totals: import and export. -/
def srcFine (s : State) (fine : List Nat) : Nat × Nat :=
  if param s 0x0400 = 1 then ((fine[32]?).getD 0, (fine[33]?).getD 0) else ((fine[6]?).getD 0, (fine[7]?).getD 0)

/-- Some work of Kiln under the parameters of an epoch (R242). -/
def atEpoch (e : Nat) (f : State → State) (s : State) : State :=
  let own := s.par
  let cells := own.cells.map fun c => (c.1, { c.2 with value := paramIE s c.1 e, pending := none, since := 0 })
  { f { s with par := { cells := cells } } with par := own }

/-- q in one mWh. -/
abbrev qMwh : Nat := 1000 * 2 ^ 65

/-! Credit (R228, R231). -/

/-- The divisor of R228. -/
abbrev creditUnit : Nat := 100 * 10 ^ 9 * 2 ^ 65

def creditMode (s : State) : Nat := param s 0x0409

/-- The floor in force (R231). -/
def creditFloor (s : State) : Int :=
  if s.bil.friendly then -(paramI s 0x0410) else if s.bil.emergency then -(paramI s 0x040D) else 0

/-- A new value of credit; BIL_CREDIT_LOW each time it falls through BIL.LOW_CREDIT (R231). -/
def putCredit (v : Int) (s : State) : State :=
  let low := paramI s 0x040C
  let fell := decide (low ≤ s.bil.credit) && decide (v < low)
  let s := setBil (fun b => { b with credit := v }) s
  if fell then notify 1 0x0412 (leI 8 v) s else s

/-- The debit and credit of one epoch part at one rate, import first; one residue R serves both (R228; log entry 81). -/
def creditPart (imp exp : Nat) (s : State) : State :=
  let k := s.bil.rate - 1
  match creditMode s with
  | 1 =>
    let a := s.bil.residue + imp * param s (0x0411 + k)
    let x := a % creditUnit + exp * param s (0x0419 + k)
    putCredit (s.bil.credit - ((a / creditUnit : Nat) : Int) + ((x / creditUnit : Nat) : Int))
      (setBil (fun b => { b with residue := x % creditUnit }) s)
  | 2 =>
    let a := s.bil.residue + imp
    putCredit (s.bil.credit - ((a / qMwh : Nat) : Int)) (setBil (fun b => { b with residue := a % qMwh }) s)
  | _ => s

/-- At the floor during a session the orderly stop is asked for, which ends the session with cause 2 (R231). -/
def creditWatch (s : State) : State :=
  if creditMode s != 0 && decide (s.bil.credit ≤ creditFloor s) && sessionOpen s && !s.bil.stopping && !inHoldup s
      && s.veh.endCause.isNone then
    askShutter (.openOrderly 2) (stopBegun (endSession 2 (setBil (fun b => { b with stopping := true }) s)))
  else s

/-- DISCONNECT_STATE (R233, R235). -/
def disconnectEvent (state cause : Nat) (s : State) : State :=
  logNow 0x0409 (le 1 state ++ le 1 cause ++ zeros 2 ++ leI 8 s.bil.credit) s

/-- DISCONNECTED for either cause (R233). -/
def disconnected (s : State) : Bool := s.bil.causeExhausted || s.bil.causeCommand

/-- STATE of the credit reply (R238): 0 CONNECTED, 1 stop in progress, 2 DISCONNECTED. -/
def creditState (s : State) : Nat :=
  if s.bil.stopping || s.bil.cmdStopping then 1 else if disconnected s then 2 else 0

/-- The exhaustion cause ends when credit is above its floor (R233). -/
def creditRestore (s : State) : State :=
  if s.bil.causeExhausted && creditFloor s < s.bil.credit then
    let s := setBil (fun b => { b with causeExhausted := false }) s
    if s.bil.causeCommand then s else disconnectEvent 0 3 s
  else s

/-! Attribution (R209, R228). -/

/-- The closing epoch of the open session, once a closing cause has come: the first one from then on at whose end KM1 and KM2 are
reported open (R327). -/
def closingEpoch (s : State) : Option Nat :=
  if s.veh.endCause.isNone then none
  else ((sampleEntries s).find? fun j =>
    decide (s.veh.endAt ≤ j.epoch) && j.kind != 5 && j.state.km / 16 % 4 == 0).map (·.epoch)

/-- An epoch belongs to the open session. -/
def inSession (s : State) (o : OpenSession) (e : Nat) : Bool :=
  decide (o.startEpoch ≤ e) && (closingEpoch s).all fun c => decide (e ≤ c)

/-- The open session's cost and rates over one part (R227). -/
def sessionPart (e imp exp : Nat) (s : State) : State :=
  let k := s.bil.rate - 1
  let f (o : OpenSession) : OpenSession :=
    if !inSession s o e then o
    else
      let a : Int := o.costResidue + imp * param s (0x0411 + k) - exp * param s (0x0419 + k)
      { o with rateMask := setBitN o.rateMask k true, cost := o.cost + a / (creditUnit : Int)
               costResidue := a % (creditUnit : Int) }
  setBil (fun b => { b with session := b.session.map f }) s

/-- One part of an epoch goes to the rate in force, the running demand subperiod, the open session and credit. -/
def attributeEpoch (e : Nat) (inc : List Nat) (s : State) : State :=
  let (imp, exp) := srcInc s inc
  let k := s.bil.rate - 1
  let s := setBil (fun b => { b with
    rateImp := capFine (modAt b.rateImp k (· + imp)), rateExp := capFine (modAt b.rateExp k (· + exp))
    subNow := (b.subNow.1 + imp, b.subNow.2 + exp), fineAt := addHw b.fineAt inc }) s
  creditPart imp exp (sessionPart e imp exp s)

/-- Means and flags of one whole epoch enter an open interval (R208, R217). -/
def Interval.cover (i : Interval) (flags : Nat) (meas : Option (List Nat)) : Interval :=
  { i with
    epochs := i.epochs + 1, flags := i.flags ||| flags
    measN := i.measN + (if meas.isSome then 1 else 0)
    sums := match meas with | some m => List.zipWith (· + ·) i.sums m | none => i.sums }

/-- A whole epoch enters the open intervals and the open session. -/
def coverEpoch (x : EpochInc) (s : State) : State :=
  let meas := (s.met.measLog.find? (·.1 == x.epoch)).map (·.2)
  let f (o : OpenSession) : OpenSession :=
    if !inSession s o x.epoch then o
    else { o with flags := o.flags ||| x.flags, peakW := max o.peakW (((meas.bind (·[8]?)).getD 0) / 1000) }
  setBil (fun b => { b with
    load := b.load.cover x.flags meas, fine := b.fine.cover x.flags meas, session := b.session.map f }) s

/-! Demand (R213, R214). -/

/-- Seconds of a demand subperiod. -/
def subSeconds (s : State) : Int := (param s 0x0401 / max 1 (param s 0x0402) * 60 : Nat)

/-- Demand of the last N subperiods, W: µWh × 60 ÷ (L × 10⁶), rounded down. -/
def demandOf (s : State) (l : List Nat) : Nat := sumN l * 60 / (2 ^ 65 * 10 ^ 6 * max 1 (param s 0x0401))

def raiseMax (watts rate : Nat) (t : Int) (m : MaxDemand) : MaxDemand :=
  if m.watts < watts then ⟨watts, rate, t⟩ else m

/-- The running subperiod ends at a civil instant. -/
def closeSub (t : Int) (flags : Nat) (s : State) : State :=
  let subs := (s.bil.subNow :: s.bil.subperiods).take 15
  let n := subs.take (param s 0x0402)
  let i := demandOf s (n.map (·.1))
  let x := demandOf s (n.map (·.2))
  setBil (fun b => { b with
    subperiods := subs, subNow := (0, 0), lastDemand := (i, x)
    maxImp := raiseMax i b.rate t b.maxImp, maxExp := raiseMax x b.rate t b.maxExp
    periodFlags := b.periodFlags ||| b.subFlags ||| flags, subFlags := 0 }) s

/-- Skipped subperiods are empty and set no maxima (R226). -/
def skipSubs (n : Nat) (s : State) : State :=
  setBil (fun b => { b with subperiods := (List.replicate (min n 15) (0, 0) ++ b.subperiods).take 15 }) s

/-! Load and fine profile (R215–R219). -/

/-- The Kiln increments of the epochs after one: those of this run, and before them those of the journal (R208). -/
def kilnAfter (s : State) (e : Nat) : List Nat :=
  let first := ((s.met.kilnLog.head?).map (·.epoch)).getD (s.met.kDone + 1)
  let old := s.led.journal.filter fun j => j.valid && decide (0 < j.kSpan) && decide (e < j.kEpoch) && decide (j.kEpoch < first)
  let a := old.foldl (fun f j => addN f j.incKiln) (List.replicate 24 0)
  (s.met.kilnLog.filter fun k => decide (e < k.epoch)).foldl (fun f k => addN f k.inc) a

/-- Fine totals of the Kiln registers at the end of an epoch (R208). -/
def kilnFineAt (s : State) (e : Nat) : List Nat :=
  let all := s.met.kilnSets.foldl (fun f k => addKiln f k.inc) s.met.fine
  let after := kilnAfter s e
  all.mapIdx fun r v => if 8 ≤ r && r < 32 then v - (after[r - 8]?).getD 0 else v

/-- All 36 fine totals at the point of attribution, Kiln registers as of an epoch. -/
def finesAt (s : State) (e : Nat) : List Nat :=
  let k := kilnFineAt s e
  s.bil.fineAt.mapIdx fun r v => if 8 ≤ r && r < 32 then (k[r]?).getD 0 else v

/-- The value of a channel before saturation (R217). -/
def channelValue (i : Interval) (fineEnd : List Nat) (src scale : Nat) : Nat :=
  let p := 10 ^ scale
  let mean (k u : Nat) : Nat := if i.measN = 0 then 0 else (i.sums[k]?).getD 0 / (i.measN * u * p)
  if src ≤ 0x23 then
    (fineEnd[src]?).getD 0 / (p * qMwh) - (i.fineStart[src]?).getD 0 / (p * qMwh)
  else if 0x40 ≤ src ∧ src ≤ 0x42 then mean (src - 0x40) 10000
  else if 0x48 ≤ src ∧ src ≤ 0x4B then mean (src - 0x48 + 3) 10000
  else if src = 0x50 then (if i.measN = 0 then 0 else (i.sums[7]?).getD 0 / (i.measN * 1000) - 40000)
  else 0

/-- The channels of a profile parameter: pairs of SOURCE and SCALE. -/
def channelsOf (s : State) (id n : Nat) : List (Nat × Nat) :=
  (List.range n).map fun k => (param s id / 256 ^ (2 * k) % 256, param s id / 256 ^ (2 * k + 1) % 256)

/-- Values of an interval with OVERFLOW (bit 6). -/
def channelValues (s : State) (id n : Nat) (i : Interval) (fineEnd : List Nat) : List Nat × Nat :=
  let vs := (channelsOf s id n).map fun c => channelValue i fineEnd c.1 c.2
  (vs.map (min 0xFFFF), if vs.any fun v => decide (0xFFFF < v) then 64 else 0)

def dupFlag (last : Option Int) (t : Int) : Nat := match last with | some l => if t ≤ l then 2 else 0 | none => 0
def maxEnd (last : Option Int) (t : Int) : Option Int := some (match last with | some l => max l t | none => t)

/-- A new interval from the present totals. -/
def newInterval (fine : List Nat) (flags : Nat) : Interval := { fineStart := fine, flags := flags }

/-- The running load-profile interval closes at a civil instant (R215, R216); Kiln registers as of epoch e. -/
def closeLoad (t : Int) (flags e next : Nat) (s : State) : State :=
  let b := s.bil
  let fine := finesAt s e
  let (vs, ovf) := channelValues s 0x0404 16 b.load fine
  let r : ProfileRec :=
    { no := b.nextRec, flags := b.load.flags ||| flags ||| ovf ||| dupFlag b.maxEndCivil t, rate := b.rate
      cfgGen := b.cfgGen, endCivil := t, closeEpoch := s.clk.epoch, poweredS := min 0xFFFF (b.load.epochs / 100)
      skippedN := 0, values := vs }
  setBil (fun b => { b with
    profile := pushRing 38400 b.profile r, nextRec := satInc 0xFFFFFFFF b.nextRec, load := newInterval fine next
    maxEndCivil := maxEnd b.maxEndCivil t }) s

/-- The running fine-profile interval closes (R215, R218). -/
def closeFine (t : Int) (flags e next : Nat) (s : State) : State :=
  let b := s.bil
  let fine := finesAt s e
  let (vs, ovf) := channelValues s 0x0405 4 b.fine fine
  let r : FineRec := ⟨b.nextFine, s.clk.epoch, (b.fine.flags ||| flags ||| ovf ||| dupFlag b.maxEndFine t) % 256, vs⟩
  setBil (fun b => { b with
    fineRecs := pushRing 50400 b.fineRecs r, nextFine := satInc 0xFFFFFFFF b.nextFine, fine := newInterval fine next
    maxEndFine := maxEnd b.maxEndFine t }) s

/-- One empty load record for skipped intervals (R219, R226). -/
def emptyLoad (t : Int) (flags n : Nat) (s : State) : State :=
  let b := s.bil
  let r : ProfileRec :=
    { no := b.nextRec, flags := flags ||| dupFlag b.maxEndCivil t, rate := b.rate, cfgGen := b.cfgGen, endCivil := t
      closeEpoch := s.clk.epoch, poweredS := 0, skippedN := n, values := List.replicate 16 0 }
  setBil (fun b => { b with
    profile := pushRing 38400 b.profile r, nextRec := satInc 0xFFFFFFFF b.nextRec, maxEndCivil := maxEnd b.maxEndCivil t }) s

def emptyFine (t : Int) (flags : Nat) (s : State) : State :=
  let b := s.bil
  let r : FineRec := ⟨b.nextFine, s.clk.epoch, (flags ||| dupFlag b.maxEndFine t) % 256, List.replicate 4 0⟩
  setBil (fun b => { b with
    fineRecs := pushRing 50400 b.fineRecs r, nextFine := satInc 0xFFFFFFFF b.nextFine, maxEndFine := maxEnd b.maxEndFine t }) s

/-- Skipped grid ends after `g` up to `t`: one record each up to 96, else one GAP record (R219, R226). -/
def skipEnds (g grid t : Int) : Nat := ((t - g) / grid).toNat

def skipLoads (g grid t : Int) (extra : Nat) (s : State) : State :=
  let n := skipEnds g grid t
  if n ≤ 96 then (List.range n).foldl (fun s (k : Nat) => emptyLoad (g + grid * (k + 1)) (8 ||| extra) 0 s) s
  else emptyLoad (g + grid * n) (4 ||| extra) (min 0xFFFF n) s

def skipFines (g t : Int) (extra : Nat) (s : State) : State :=
  let n := skipEnds g 60 t
  if n ≤ 96 then (List.range n).foldl (fun s (k : Nat) => emptyFine (g + 60 * (k + 1)) (8 ||| extra) s) s
  else emptyFine (g + 60 * n) (4 ||| extra) s

def loadGrid (s : State) : Int := (param s 0x0403 * 60 : Nat)

/-! Tariff switch (R211). -/

/-- A waiting calendar's instant has come. -/
def activates (t : Int) (s : State) : Bool := s.bil.passive.any fun c => decide (c.activateAt ≤ t)

/-- A waiting calendar whose instant has come becomes active. -/
def activateCalendar (t : Int) (s : State) : State :=
  match s.bil.passive with
  | some c =>
    if c.activateAt ≤ t then
      let prev := (s.bil.active.map (·.id)).getD 0
      logNow 0x0404 (le 4 c.id ++ le 4 prev) (setBil (fun b => { b with active := some c, passive := none }) s)
    else s
  | none => s

/-- The switch effective at an instant, and friendly time from it on. An activation, a clock step and a start apply the rate of
R211 also where the local time occurs for the second time (R203, R211, R225). -/
def tariffSwitch (anyway : Bool) (t : Int) (s : State) : State :=
  let anyway := anyway || activates t s
  let s := activateCalendar t s
  let s := setBil (fun b => { b with rate := if anyway then rateNow b t else rateFrom b t, friendly := friendlyAt s t }) s
  creditRestore s

/-! Billing close (R220). -/

def rateMwh (l : List Nat) : List Nat := l.map (· / qMwh)

def billRecord (endCivil : Int) (cause e : Nat) (s : State) : BillRec :=
  let b := s.bil
  { period := b.periodNo, flags := b.periodFlags &&& 0x191, rateAtClose := b.rate, cause := cause, startCivil := b.mBill
    endCivil := endCivil, closeEpoch := s.clk.epoch
    totals := [6, 7, 32, 33].map fun n => ((b.fineAt[n]?).getD 0) / qMwh
    rateImp := rateMwh b.rateImp, rateExp := rateMwh b.rateExp, maxImp := b.maxImp, maxExp := b.maxExp
    credit := b.credit - sumI ((b.creditLate.filter fun a => decide (e ≤ a.1)).map (·.2)), readingNo := s.led.nextReading }

/-- Steps 1 to 5 of R220 for a close in epoch e: a transfer accepted in that epoch counts after it (R224). -/
def closeBilling (endCivil : Int) (cause e : Nat) (s : State) : State :=
  let r := billRecord endCivil cause e s
  let s := snapReading 4 (Config.sha256 r.body) none none s
  let s := setBil (fun b => { b with history := pushRing 12 b.history r }) s
  let s := logNow 0x0405 (le 4 r.period ++ le 1 cause ++ zeros 3 ++ leI 8 endCivil) s
  let s := setBil (fun b => { b with
    maxImp := {}, maxExp := {}, periodNo := b.periodNo + 1, periodFlags := 0, mBill := endCivil }) s
  notify 1 0x0410 (le 4 r.period) (wantSummary s)

/-- A scheduled close falls at a minute boundary (R203, R220, R225). -/
def billDue (t : Int) (s : State) : Bool :=
  match lastBill s (t - 60) t with
  | some u => decide (s.bil.mBill < u)
  | none => false

/-! The ledger state (R234). -/

/-- The older copy is written: it holds the group 4 values of THROUGH. -/
def lsWrite (s : State) : State :=
  let seq (c : Option LsCopy) : Nat := ((c.filter (·.valid)).map (·.seq)).getD 0
  let c : LsCopy :=
    ⟨satInc max64 (max (seq s.led.lsA) (seq s.led.lsB)), civilSec (valsAt s s.bil.through).civil, lsValues s.bil, true⟩
  setLed (fun l => if seq l.lsA ≤ seq l.lsB then { l with lsA := some c } else { l with lsB := some c }) s

/-- THROUGH of the newest copy. -/
def lsThrough (s : State) : Nat := ((lsNewest s).map (·.bil.through)).getD 0

/-- Group 4 values of a ledger-state copy; civil time and its tables, what waits for attribution, and the series stay the
unit's own. -/
def putLedger (b : Billing) (own : Billing) : Billing :=
  { b with
    civil := own.civil, timeUnset := own.timeUnset, slewLeft := own.slewLeft, change := own.change, tz := own.tz
    profile := own.profile, fineRecs := own.fineRecs, statements := own.statements }

/-- Kiln starts from the newest copy (R180, R234), or with no copy from the group 4 values of the reset; what the copy cannot know,
because it became due since, stays. -/
def lsRestore (s : State) : State :=
  let b := ((lsNewest s).map (·.bil)).getD {}
  setBil (fun own => { putLedger b own with
    tz := own.tz.or b.tz, stepDue := own.stepDue, cfgDue := own.cfgDue, closeDue := own.closeDue
    stopping := own.stopping || b.stopping, cmdStopping := own.cmdStopping || b.cmdStopping
    nextRec := max own.nextRec b.nextRec, nextFine := max own.nextFine b.nextFine, nextStmt := max own.nextStmt b.nextStmt
    boundary := none }) s

/-- Attribution has reached the end of an epoch. -/
def reached (e : Nat) (s : State) : State :=
  let was := s.bil.causeExhausted
  let s := setBil (fun b => { b with
    through := e, creditLate := b.creditLate.filter fun a => decide (e < a.1) }) s
  let s := creditRestore (creditWatch s)
  if lsThrough s + 100 ≤ e || was != s.bil.causeExhausted then lsWrite s else s

/-! A boundary inside an epoch (R206–R208, R222). -/

/-- The index of the boundary sample of an instant in an epoch: the first sample at or after it. -/
def boundaryIdx (x : EpochInc) (t : Int) : Nat :=
  let d := t * 204800000 - x.civil0
  if d ≤ 0 then 0 else ((d * 320 + (x.civil1 - x.civil0 - 1)) / max 1 (x.civil1 - x.civil0)).toNat

/-- Steps 1 to 4 of R222 at an instant; `flags` go to every record closed, `e` is the epoch of the Kiln registers, `own` the
epoch of the close. -/
def closeAt (t : Int) (flags e own : Nat) (s : State) : State :=
  let s := if t % subSeconds s = 0 then closeSub t flags s else s
  let s := if t % loadGrid s = 0 then closeLoad t flags e 0 s else s
  let s := closeFine t flags e 0 s
  let s := tariffSwitch false t s
  if billDue t s then closeBilling t 1 own (setBil (fun b => { b with periodFlags := b.periodFlags ||| flags }) s) else s

/-- A part of an epoch's increments, the rest. -/
def subN (a b : List Nat) : List Nat := List.zipWith (· - ·) a b

/-- A boundary inside an epoch that attribution has reached (R207, R208, R222). -/
def boundaryWork (e : Nat) (t : Int) (x : EpochInc) (s : State) : State :=
  let all := restOf s x
  let i := boundaryIdx x t
  let approx := x.split != some i
  let early := decide (160 < i)
  let before := if !approx then addN x.before (subN all x.inc) else if early then all else all.map fun _ => 0
  let s := attributeEpoch e before s
  let s := if early then coverEpoch x s else s
  let s := if approx then logNow 0x040C (le 8 e ++ leI 8 t) s else s
  let s := closeAt t (if approx then 256 else 0) (if early then e else e - 1) e s
  let s := attributeEpoch e (restOf s x) s
  let s := if early then s else coverEpoch x s
  lsWrite (reached e (setBil (fun b => { b with boundary := none, nextT := t + 60 }) s))

/-- The boundary that attribution has reached is processed under the parameters of its epoch. -/
def processBoundary (s : State) : State :=
  match s.bil.boundary with
  | none => s
  | some (e, t) => match incFor s e with
    | none => s
    | some x => atEpoch e (boundaryWork e t x) s

/-- CIVIL_BOUNDARY (R222). -/
def execCivilBoundary (s : State) : Out := whenever s.dom.d3 s processBoundary

/-! Clock steps and restarts (R219, R223, R225, R226). -/

/-- The next end of a grid that has not been processed. -/
def gridEnd (s : State) (grid : Int) : Int := (s.bil.nextT + grid - 1) / grid * grid

/-- How a jump of time marks its records: those it closes, the interval that contains the new instant, and the empty ones; `close`
asks that the profile intervals close even where their ends are not passed (R219, R226). -/
structure Jump where
  flag : Nat
  carry : Nat
  skip : Nat
  close : Bool

/-- Time jumps forward to a civil instant: each running interval whose end is passed closes, the ends skipped are recorded, and
each interval that contains the new instant carries the flag. -/
def jumpForward (j : Jump) (new : Int) (e : Nat) (s : State) : State :=
  let t := civilSec new
  let gs := gridEnd s (subSeconds s)
  let s := if t < gs then setBil (fun b => { b with subFlags := b.subFlags ||| j.carry }) s
    else setBil (fun b => { b with subFlags := j.carry }) (skipSubs (skipEnds gs (subSeconds s) t) (closeSub gs j.flag s))
  let gl := gridEnd s (loadGrid s)
  let s := if gl ≤ t then skipLoads gl (loadGrid s) t j.skip (closeLoad gl j.flag e j.carry s)
    else if j.close then closeLoad t j.flag e j.carry s
    else setBil (fun b => { b with load := { b.load with flags := b.load.flags ||| j.carry } }) s
  let gf := gridEnd s 60
  if gf ≤ t then skipFines gf t j.skip (closeFine gf j.flag e j.carry s)
  else if j.close then closeFine t j.flag e j.carry s
  else setBil (fun b => { b with fine := { b.fine with flags := b.fine.flags ||| j.carry } }) s

/-- The next minute after an instant, in civil ticks. -/
def minuteAfter (c : Int) : Int := (c / (60 * 204800000) + 1) * 60

/-- INTERRUPTED for the open intervals and the period, where TIME_UNSET lets no boundary fire (R205). -/
def markInterrupted (s : State) : State :=
  setBil (fun b => { b with
    load := { b.load with flags := b.load.flags ||| 1 }, fine := { b.fine with flags := b.fine.flags ||| 1 }
    subFlags := b.subFlags ||| 1 }) s

/-- Time without D2 has passed before epoch `own`: the open intervals close with INTERRUPTED, the switch is applied and a period
whose end is passed closes with CAUSE 4 (R219, R223); `close` as in `Jump`. -/
def closeGap (close : Bool) (new : Int) (e own : Nat) (s : State) : State :=
  let s := jumpForward ⟨1, 1, 1, close⟩ new e s
  let s := tariffSwitch true (civilSec new) (setBil (fun b => { b with nextT := minuteAfter new }) s)
  match lastBill s s.bil.mBill (civilSec new) with
  | some u => closeBilling u 4 own (setBil (fun b => { b with periodFlags := b.periodFlags ||| 1 }) s)
  | none => s

/-- The closings at a clock step: the intervals that were running close as the epoch before it had them (R225, R226). -/
def stepIntervals (d : StepDue) (fl : Nat) (s : State) : State :=
  let e := d.epoch - 1
  let s := setBil (fun b => { b with
    session := b.session.map fun o => if inSession s o d.epoch then { o with flags := o.flags ||| fl } else o }) s
  if d.new < d.old then
    let t := civilSec d.old
    setBil (fun b => { b with subFlags := 16 }) (closeFine t fl e 16 (closeLoad t fl e 16 (closeSub t fl s)))
  else jumpForward ⟨fl, 16, 0, false⟩ d.new e s

/-- The switch and the billing close of a clock step (R225, R226). -/
def stepTariff (d : StepDue) (fl : Nat) (s : State) : State :=
  let s := setBil (fun b => { b with nextT := minuteAfter d.new, periodFlags := b.periodFlags ||| fl }) s
  let s := tariffSwitch true (civilSec d.new) s
  match lastBill s s.bil.mBill (civilSec d.new) with
  | some u => if d.new < d.old then s else closeBilling u 3 d.epoch s
  | none => s

/-- The closings at a clock step or at a restart of D2 alone, once attribution has reached its epoch. -/
def doStep (d : StepDue) (s : State) : State :=
  let fl := 16 + (if d.unset then 128 else 0)
  lsWrite (
    if d.gap then
      if d.unset then markInterrupted s else atEpoch d.epoch (closeGap false d.new (d.epoch - 1) d.epoch) s
    else atEpoch d.epoch (stepTariff d fl) (atEpoch (d.epoch - 1) (stepIntervals d fl) s))

/-- A change of profile configuration closes the running interval early, with the channels it ran under (R215). -/
def doConfig (which e : Nat) (t : Int) (s : State) : State :=
  let s := atEpoch (e - 1) (fun s => if which = 1 then closeLoad t 32 (e - 1) 0 s else closeFine t 32 (e - 1) 0 s) s
  let s := setBil (fun b => { b with cfgGen := (b.cfgGen + 1) % 256 }) s
  lsWrite (logNow 0x040B (le 1 which ++ le 1 s.bil.cfgGen ++ le 1 (if which = 1 then paramE s 0x0403 e else 1) ++ zeros 1) s)

/-- LEDGER_ATTRIB_GAP (R180): epochs from one on that neither D2 nor the journal holds any more go to the rate in force. -/
def attribGap (e : Nat) (s : State) : State :=
  match heldFrom s with
  | none => s
  | some h =>
    let fine0 := (((s.met.incs.head?).filter (·.epoch == h)).map fun x => subN x.fineEnd (addHw (List.replicate 36 0) x.inc)).getD
      (fineBefore s h)
    let inc := hwRegs.map fun r => (fine0[r]?).getD 0 - (s.bil.fineAt[r]?).getD 0
    let en := (srcInc s inc).1 / qMwh
    let s := attributeEpoch e inc s
    lsWrite (reached (h - 1) (logNow 0x010A (le 8 e ++ le 8 (h - 1) ++ le 8 en) s))

/-! The ledger task of an epoch (R207–R209, R228). -/

/-- The civil start and length of the k-th epoch after the present one, ticks. -/
def futureEpoch (s : State) (k : Nat) : Int × Int :=
  let left := s.bil.slewLeft - slewStep s.bil
  let used : Int := if 0 ≤ left then min left (2048 * (k - 1 : Nat)) else max left (-(2048 * (k - 1 : Nat) : Int))
  (civilEnd s + 2048000 * (k - 1 : Nat) + used, 2048000 + clampI (-2048) 2048 (left - used))

/-- Epoch and sample index of the boundary sample of a future instant, none when it is not after the present epoch. -/
def armPair (s : State) (t : Int) : Option (Nat × Nat) :=
  let base := civilEnd s
  let d := t * 204800000 - base
  if d < 0 then none
  else
    let k0 := (d / 2050048).toNat
    let k1 := (d / 2045952).toNat
    ((List.range (k1 - k0 + 2)).map (· + k0 + 1)).findSome? fun k =>
      let (c, len) := futureEpoch s k
      let o := t * 204800000 - c
      let i := if o ≤ 0 then 0 else ((o * 320 + len - 1) / len).toNat
      if i < 320 then some (s.clk.epoch + k, i) else none

/-- Kiln keeps up to eight boundaries armed with D2 (R207): those of begun epochs, then the next ones. -/
def armBoundaries (s : State) : State :=
  if s.bil.timeUnset then s
  else
    let t0 := minuteAfter (civilEnd s - 1)
    let ps := (List.range 8).filterMap fun (k : Nat) => armPair s (t0 + 60 * k)
    setMet (fun m => { m with armed := ((m.armed.filter fun a => decide (a.1 ≤ s.clk.epoch)) ++ ps).take 8 }) s

/-- The totals at the start of the session's first epoch (R227). -/
def startSession (e : Nat) (s : State) : State :=
  let f (o : OpenSession) : OpenSession :=
    if o.startEpoch = e then
      let x := srcFine s s.bil.fineAt
      { o with fineImp := x.1, fineExp := x.2 }
    else o
  setBil (fun b => { b with session := b.session.map f }) s

/-- One epoch as far as the first boundary in it (R207, R222). -/
def attributeWhole (e : Nat) (x : EpochInc) (s : State) : State :=
  let s := startSession e s
  if !x.unset && boundaryIdx x s.bil.nextT < 320 then
    setBil (fun b => { b with boundary := some (e, b.nextT) }) s
  else reached e (coverEpoch x (attributeEpoch e (restOf s x) s))

/-- A commanded close stands before an epoch (R220). -/
def closeStands (s : State) (e : Nat) : Bool := s.bil.closeDue.any fun c => decide (c.2 ≤ e)

/-- Kiln attributes the next epoch, under its parameters; what became due at its first sample comes before it. -/
def ledgerEpoch (e : Nat) (s : State) : State :=
  if e != s.bil.through + 1 || s.bil.boundary.isSome || closeStands s e then s
  else if gapAt s e then attribGap e s
  else match incFor s e with
    | none => s
    | some x =>
      let due := s.bil.stepDue.filter fun d => decide (d.epoch ≤ e)
      let s := due.foldl (fun s d => doStep d s) (setBil (fun b => { b with
        stepDue := b.stepDue.filter fun d => decide (e < d.epoch) }) s)
      let cfg := s.bil.cfgDue.filter fun c => decide (c.1 ≤ e)
      let s := cfg.foldl (fun s c => doConfig c.2 e (civilSec x.civil0) s) (setBil (fun b => { b with
        cfgDue := b.cfgDue.filter fun c => decide (e < c.1) }) s)
      atEpoch e (attributeWhole e x) s

/-- A commanded close once attribution has reached the first sample of its epoch (R220). -/
def commandClose (c : Option Req × Nat) (s : State) : State :=
  let t : Int := match s.met.incs.find? fun i => i.epoch + 1 == c.2 with
    | some i => civilSec i.civil1
    | none => civilSec (civilAtEnd s (c.2 - 1))
  let period := s.bil.periodNo
  let own := s.clk.epoch
  let s := setBil (fun b => { b with closeDue := b.closeDue.drop 1 }) s
  replyTo c.1 0x0405 stOk (le 4 period ++ le 8 own) (lsWrite (atEpoch c.2 (closeBilling t 2 c.2) s))

/-- One piece of the ledger task: the boundary that waits, a commanded close that is reached, or the next epoch. -/
def lStep (s : State) : State :=
  if s.bil.boundary.isSome then processBoundary s
  else match s.bil.closeDue with
    | c :: _ => if c.2 ≤ s.bil.through + 1 then commandClose c s else ledgerEpoch (s.bil.through + 1) s
    | [] => ledgerEpoch (s.bil.through + 1) s

/-- Nothing of the ledger task is left up to an epoch. -/
def lDone (e : Nat) (s : State) : Bool := decide (e ≤ s.bil.through) && s.bil.boundary.isNone

/-- The ledger task through an epoch, in at most the given number of pieces. -/
def lRun (e : Nat) : Nat → State → State
  | 0, s => s
  | n + 1, s => if lDone e s then s else lRun e n (lStep s)

/-- Kiln completes group 4 through an epoch (R180, R223); what a flush added to it after its attribution follows (R100, R209). -/
def lComplete (e : Nat) (s : State) : State :=
  let s := lRun e (3 * (e - s.bil.through) + 2) s
  if s.bil.through != e then s
  else match incFor s e with
    | some x => atEpoch e (attributeEpoch e (restOf s x)) s
    | none => s

/-- The ledger at a module start (R49, R219, R223), at a civil instant and before epoch `own`: the closings of the time without
D2, none under TIME_UNSET (R205). -/
def outageClosings (outage : Bool) (new : Int) (s : State) : State :=
  if s.bil.timeUnset then markInterrupted s
  else lsWrite (closeGap outage new s.bil.through s.clk.epoch s)

end Sys2Proof.Machine
end

