-- ==== Sys2Proof/Machine/Billing.lean ====
section
/-! DEFINITION. Billing commands (09): setting time, loading tables, reading, commanded closes, prepayment, and the statement of
a session. -/

namespace Sys2Proof.Machine

/-- Opcodes that change billing, credit or ledger state: refused in RECOVERY and HOLDUP (R237), and by a STANDBY unit
(R484). -/
def billRefusal (s : State) : Option Nat :=
  if inHoldup s || s.mode.mode == .recovery then some stWrongMode else if isStandby s then some stNotActive else none

/-- A request that changes group 4 state: refused as above, else executed with the ledger state written before the reply
(R234). -/
def billing (s : State) (f : State → Answer) : Answer :=
  match billRefusal s with
  | some st => refuse s st
  | none => f s

/-- An answer of OK with the ledger state durable first. -/
def durableAnswer (s : State) (body : List Byte) : Answer := answer (lsWrite s) stOk body

/-! Civil time (R204, R205). -/

/-- Civil ticks now, with the slew in progress. -/
def civilNow (s : State) : Int :=
  s.bil.civil + ((s.clk.now : Int) - s.clk.epochStart) * (2048000 + slewStep s.bil) / 2048000

/-- TIME_ADJUST (R204, R235). -/
def timeAdjust (old new : Int) (action sender : Nat) (s : State) : State :=
  logNowF 0x0401 0 sender (leI 8 (civilSec old) ++ le 2 (civilFrac old) ++ zeros 2 ++ leI 8 (civilSec new)
    ++ le 2 (civilFrac new) ++ le 1 action ++ zeros 1) s

def execBilTimeSet (r : Req) (newS : Int) (newF how : Nat) (s : State) : Out :=
  brixo 0x0400 r s fun s =>
    if !bitN (param s 0x0422) r.sender.code then refuse s stSender
    else if 1 < how then refuse s stBadParam
    else billing s fun s =>
      let old := civilNow s
      let new := newS * 204800000 + newF * 3125
      let d := new - old / 3125 * 3125
      let action := if s.bil.timeUnset then 2 else if d = 0 then 0
        else if how = 0 ∧ d.natAbs ≤ 204800 * param s 0x0421 then 1 else 2
      let s := timeAdjust old new action r.sender.code s
      let s := if action = 0 then s
        else setBil (fun b => { b with change := some ⟨s.clk.epoch + 1, new - old, action == 2⟩ }) s
      durableAnswer s (le 8 (s.clk.epoch + 1) ++ le 1 action ++ zeros 3 ++ leI 8 (civilSec old))

/-- TIME_CHANGE_EFFECTIVE (R204): at the first sample of the epoch the setting named. A step's closings follow at once where
attribution has reached that epoch, else with the ledger task that reaches it (log entry 35). -/
def execTimeChangeEffective (s : State) : Out :=
  match s.bil.change with
  | none => .next s
  | some c =>
    whenever (decide (c.epoch ≤ s.clk.epoch)) s fun s =>
      if !c.step then setBil (fun b => { b with change := none, slewLeft := c.delta }) s
      else
        let old := s.bil.civil
        let d : StepDue := ⟨s.clk.epoch, old, old + c.delta, s.bil.timeUnset, false⟩
        let s := setBil (fun b => { b with
          change := none, slewLeft := 0, civil := old + c.delta, timeUnset := false }) s
        let s := { s with nl := { s.nl with rtcValid := true } }
        if s.bil.through + 1 = s.clk.epoch && s.bil.boundary.isNone && s.bil.stepDue.isEmpty && s.bil.closeDue.isEmpty then
          doStep d s
        else setBil (fun b => { b with stepDue := b.stepDue ++ [d] }) s

/-- SLEW_COMPLETE (R204): the last of the difference is absorbed. -/
def execSlewComplete (s : State) : Out :=
  whenever (decide (s.bil.slewLeft.natAbs ≤ 2048)) s fun s =>
    setBil (fun b => { b with civil := b.civil + b.slewLeft, slewLeft := 0 }) s

def execBilTimeGet (r : Req) (s : State) : Out :=
  brixo 0x0401 r s fun s =>
    let t := s.snap.civilS
    answer s stOk (leI 8 t ++ le 2 s.snap.civilF ++ leI 2 (offsetAt s.bil t / 60)
      ++ le 1 (packBits [bitN s.snap.flags 7, s.bil.slewLeft != 0, isDst s.bil t]) ++ zeros 3
      ++ leI 4 (s.bil.slewLeft / 204800) ++ leI 8 s.bil.mBill)

/-! Tables (R202, R212). -/

def execBilTzLoad (r : Req) (object : List Byte) (s : State) : Out :=
  brixo 0x0402 r s fun s => billing s fun s =>
    let z := tzOf object
    if object.length != 12 + 16 * z.entries.length then refuse s stBadLength
    else if !crcAt object (8 + 16 * z.entries.length) then refuse s stIntegrity
    else if !tzOk object z then refuse s stBadParam
    else
      let s := setBil (fun b => { b with tz := some z }) s
      durableAnswer (logNowF 0x0402 0 r.sender.code (le 2 z.version ++ zeros 2 ++ le 4 z.crc) s) (le 2 z.version)

/-- BIL_CALENDAR_LOAD: a failed CRC is CALENDAR_INVALID (R212). -/
def execBilCalendarLoad (r : Req) (object : List Byte) (s : State) : Out :=
  brixo 0x0403 r s fun s => billing s fun s =>
    let off := (calOffsets object).2.2.2
    if object.length != off + 4 then refuse s stBadLength
    else if !crcAt object off || !calFits (calOf object) then refuse s stCalendarInvalid
    else
      let c := calOf object
      let c := { c with activateAt := if c.activateAt = 0 then minuteAfter (civilNow s) else c.activateAt }
      let s := setBil (fun b => { b with passive := some c }) s
      durableAnswer (logNowF 0x0403 0 r.sender.code (le 4 c.id ++ leI 8 c.activateAt) s) (le 4 c.id ++ leI 8 c.activateAt)

/-! Reading (R238). -/

def execBilTariffRead (r : Req) (s : State) : Out :=
  brixo 0x0404 r s fun s =>
    let b := s.snap.groups.bil
    answer s stOk (le 8 s.snap.groups.through4 ++ le 1 b.rate ++ zeros 3 ++ le 4 ((b.active.map (·.id)).getD 0)
      ++ le 4 b.periodNo ++ (rateMwh b.rateImp ++ rateMwh b.rateExp).flatMap (le 8)
      ++ le 4 b.lastDemand.1 ++ le 4 b.lastDemand.2 ++ le 4 b.maxImp.watts ++ le 4 b.maxExp.watts
      ++ leI 8 b.maxImp.endCivil ++ leI 8 b.maxExp.endCivil ++ leI 8 b.mBill)

def execBilBillingRead (r : Req) (period : Nat) (s : State) : Out :=
  brixo 0x0406 r s fun s =>
    let hit := if period = 0 then s.bil.history.getLast? else s.bil.history.find? (·.period == period)
    match hit with
    | some b => answer s stOk b.bytes
    | none => refuse s stBadParam

/-! Commanded closes (R220). -/

/-- BIL_BILLING_CLOSE: the reply follows the close, which takes place at the first sample of the next epoch. -/
def execBilBillingClose (r : Req) (s : State) : Out :=
  brixo 0x0405 r s fun s => billing s fun s =>
    if s.bil.timeUnset then refuse s stTimeNotSet
    else later (lsWrite (setBil (fun b => { b with closeDue := b.closeDue ++ [(some r, s.clk.epoch + 1)] }) s))

/-- COMMAND_BILLING_CLOSE: once attribution has reached the first sample of its epoch. -/
def execCommandBillingClose (s : State) : Out :=
  match s.bil.closeDue with
  | [] => .next s
  | c :: _ =>
    whenever (s.dom.d3 && decide (c.2 ≤ s.bil.through + 1) && s.bil.boundary.isNone) s (commandClose c)

/-! Prepayment (R228–R233). -/

/-- A transfer's refusal: its status, and whether CREDIT_REFUSED is recorded (R230). -/
def transferRefusal (s : State) (o : List Byte) : Option (Nat × Bool) :=
  let id := fieldAt o 8 8
  let amount := toI 8 (fieldAt o 24 8)
  let expiry := toI 8 (fieldAt o 32 8)
  let alg := fieldAt o 1 1
  let slot := param s 0x040A
  let msg := if alg = 1 then Config.sha256 (o.take 64) else o.take 64
  if fieldAt o 0 1 != 1 || !(alg == 1 || alg == 2) || fieldAt o 2 1 != creditMode s || id = 0 then some (stBadParam, false)
  else if fieldAt o 16 8 != s.ident.moduleId then some (stWrongModule, false)
  else if (slotRefusal s slot aVerify).isSome || !Config.verify alg (keyOf s slot) msg (o.drop 64) then
    some (stSignatureInvalid, true)
  else if id + 256 ≤ s.bil.windowH || s.bil.window.contains id then some (stReplayed, true)
  else if expiry != 0 && s.bil.timeUnset then some (stTimeNotSet, true)
  else if expiry != 0 && expiry < civilSec (civilNow s) then some (stExpired, true)
  else if paramI s 0x040B < s.bil.credit + amount then some (stCreditLimit, true)
  else none

/-- An accepted identifier enters the replay window (R230). -/
def windowAdd (id : Nat) (b : Billing) : Billing :=
  let h := max b.windowH id
  { b with windowH := h, window := id :: b.window.filter fun x => decide (h < x + 256) }

def execBilCreditTransfer (r : Req) (object : List Byte) (s : State) : Out :=
  brixo 0x0407 r s fun s =>
    if creditMode s = 0 then refuse s stNotPrepaid
    else billing s fun s =>
      let id := fieldAt object 8 8
      match transferRefusal s object with
      | some (st, rec) =>
        refuse (if rec then logNowF 0x0407 0 r.sender.code (le 8 id ++ le 2 st ++ zeros 2) s else s) st
      | none =>
        let amount := toI 8 (fieldAt object 24 8)
        let s := consume (param s 0x040A) s
        let s := setBil (fun b => windowAdd id { b with creditLate := b.creditLate ++ [(s.clk.epoch, amount)] }) s
        let s := putCredit (s.bil.credit + amount) s
        let s := if 0 ≤ s.bil.credit then setBil (fun b => { b with emergency := false }) s else s
        let s := logNowF 0x0406 0 r.sender.code (le 8 id ++ leI 8 amount ++ leI 8 s.bil.credit) s
        let s := creditRestore (creditWatch s)
        durableAnswer s (le 8 id ++ leI 8 s.bil.credit)

/-- The feedback disagrees with the prepayment state now (R233). -/
def feedbackWrong (s : State) : Bool := (disconnected s && s.shu.kfb1) || (coil1 s && !s.shu.kfb1)

def execBilCreditStatus (r : Req) (s : State) : Out :=
  brixo 0x0408 r s fun s =>
    if creditMode s = 0 then refuse s stNotPrepaid
    else
      let b := s.snap.groups.bil
      answer s stOk (leI 8 b.credit ++ le 1 (creditMode s) ++ le 1 (creditState s)
        ++ le 1 (packBits [s.bil.emergency, s.bil.friendly, decide (b.credit < paramI s 0x040C),
            s.bil.mismatch && feedbackWrong s])
        ++ zeros 1 ++ leI 8 (creditFloor s) ++ le 8 s.bil.windowH)

def execBilEmergencyActivate (r : Req) (s : State) : Out :=
  brixo 0x0409 r s fun s =>
    if creditMode s = 0 then refuse s stNotPrepaid
    else billing s fun s =>
      if paramI s 0x040C ≤ s.bil.credit || s.bil.emergency || paramI s 0x040D ≤ 0 then refuse s stEmergencyUnavailable
      else
        let s := setBil (fun b => { b with emergency := true }) s
        let s := logNowF 0x0408 0 r.sender.code (leI 8 (creditFloor s)) s
        let s := creditRestore s
        durableAnswer s (leI 8 (creditFloor s))

/-- BIL_DISCONNECT (R233). ACTION 0 with no command cause changes nothing; at or below the floor it is refused. -/
def execBilDisconnect (r : Req) (action : Nat) (s : State) : Out :=
  brixo 0x040A r s fun s =>
    if 1 < action then refuse s stBadParam
    else billing s fun s =>
      if action = 1 then
        let was := disconnected s
        let s := setBil (fun b => { b with causeCommand := true }) s
        let s :=
          if sessionOpen s then
            askShutter (.openOrderly 6) (stopBegun (endSession 6 (setBil (fun b => { b with cmdStopping := !was }) s)))
          else if was then s
          else disconnectEvent 2 2 s
        durableAnswer s (le 1 (creditState s))
      else if s.bil.causeCommand then
        let s := setBil (fun b => { b with causeCommand := false, cmdStopping := false }) s
        let s := if s.bil.causeExhausted then s else disconnectEvent 0 2 s
        durableAnswer s (le 1 (creditState s))
      else if creditMode s != 0 && decide (s.bil.credit ≤ creditFloor s) then refuse s stCreditAtFloor
      else durableAnswer s (le 1 (creditState s))

/-- KM1_FEEDBACK_MISMATCH (R233): how long the feedback has disagreed, in ms. -/
def execKm1FeedbackMismatch (duration : Nat) (s : State) : Out :=
  whenever (s.dom.d3 && decide (200 < duration) && feedbackWrong s) s fun s =>
    logNow 0x040A (le 1 (b2n (!disconnected s)) ++ le 1 (kmByte s) ++ zeros 2 ++ le 4 duration)
      (setBil (fun b => { b with mismatch := true }) s)

/-! Sessions (R227). -/

/-- A session opens (R327): its first epoch is the present one. -/
def openSession (authKind : Nat) (ident : List Byte) (s : State) : State :=
  let x := srcFine s s.bil.fineAt
  let o : OpenSession :=
    { startEpoch := s.clk.epoch, startCivil := civilSec (civilNow s), fineImp := x.1, fineExp := x.2, authKind := authKind
      authRef := if ident.isEmpty then zeros 8 else (Config.sha256 ident).take 8, rateMask := 0, peakW := 0, cost := 0
      costResidue := 0, flags := if s.bil.timeUnset then 128 else 0 }
  lsWrite (setBil (fun b => { b with session := some o }) s)

/-- The session's statement and its KIND 5 reading, both of the closing epoch; a stop for credit or by command ends in
DISCONNECTED (R227, R233). -/
def closeSession (endCause e : Nat) (s : State) : State :=
  match s.bil.session with
  | none => s
  | some o =>
    let v := valsAt s e
    let f := srcFine s v.fine
    let p : Statement :=
      { no := s.bil.nextStmt, readingNo := s.led.nextReading, startEpoch := o.startEpoch, endEpoch := e
        startCivil := o.startCivil, endCivil := civilSec v.civil, authKind := o.authKind, endCause := endCause
        flags := o.flags, authRef := o.authRef, energyImp := f.1 / qMwh - o.fineImp / qMwh
        energyExp := f.2 / qMwh - o.fineExp / qMwh, startImp := o.fineImp / qMwh, cost := o.cost, peakW := o.peakW
        rateMask := o.rateMask, source := param s 0x0400, signature := [] }
    let s := setBil (fun b => { b with
      session := none, statements := pushRing 20000 b.statements p, nextStmt := satInc 0xFFFFFFFF b.nextStmt }) s
    let s := formReading 5 (Config.sha256 (withCrc p.body)) none (some p.no) v s
    let s := if s.bil.stopping then
        disconnectEvent 2 1 (setBil (fun b => { b with stopping := false, causeExhausted := true }) s)
      else if s.bil.cmdStopping then disconnectEvent 2 2 s
      else s
    wantSummary (lsWrite (creditRestore (setBil (fun b => { b with cmdStopping := false }) s)))

end Sys2Proof.Machine
end

