-- ==== Sys2Proof/Machine/Memory.lean ====
section
/-! DEFINITION. The byte memory of the DMA engine's address view (R296): reading, writing, the canonical form, and the
place of the bulk window. -/

namespace Sys2Proof.Machine

/-- What an address without an entry reads as (log entry 20). -/
def memDefault : Byte := 0

/-- One byte of memory. -/
def memRead : Memory → Nat → Byte
  | [], _ => memDefault
  | c :: cs, a => if c.1 = a then c.2 else memRead cs a

/-- One byte written, keeping the canonical form. -/
def memWrite : Memory → Nat → Byte → Memory
  | [], a, b => if b = memDefault then [] else [(a, b)]
  | c :: cs, a, b =>
    if a < c.1 then (if b = memDefault then c :: cs else (a, b) :: c :: cs)
    else if a = c.1 then (if b = memDefault then cs else (a, b) :: cs)
    else c :: memWrite cs a b

/-- Addresses strictly rising from a bound, no entry of the default value. -/
def memWfFrom : Nat → Memory → Bool
  | _, [] => true
  | n, c :: cs => decide (n ≤ c.1) && decide (c.2 ≠ memDefault) && memWfFrom (c.1 + 1) cs

/-- The canonical form of a memory. -/
def Memory.wf (m : Memory) : Bool := memWfFrom 0 m

/-- Bytes written at rising addresses. -/
def memWriteList : Memory → Nat → List Byte → Memory
  | m, _, [] => m
  | m, a, b :: bs => memWriteList (memWrite m a b) (a + 1) bs

/-- The entries that bytes at rising addresses give. -/
def memCells : Nat → List Byte → Memory
  | _, [] => []
  | a, b :: bs => if b = memDefault then memCells (a + 1) bs else (a, b) :: memCells (a + 1) bs

/-- A region of n bytes replaced whole; past the given bytes it reads the default. -/
def memReplace (m : Memory) (a n : Nat) (bs : List Byte) : Memory :=
  m.filter (fun c => decide (c.1 < a)) ++ memCells a (bs.take n) ++ m.filter (fun c => decide (a + n ≤ c.1))

/-- The waveform capture buffer in the engine's view and its size (R194, R296). -/
abbrev captureBase : Nat := 0x10000000
abbrev captureSize : Nat := 0x80000

/-- A 4 096-byte slot with one byte written. -/
def slotWrite (l : List Byte) (o : Nat) (b : Byte) : List Byte := (padTo' 4096 l).set o b
where padTo' (n : Nat) (l : List Byte) : List Byte := (l ++ List.replicate n 0).take n

/-- The bulk window begins here in the engine's view (R296). -/
abbrev bulkBase : Nat := 0x40000000

def inBulk (a : Nat) : Bool := bulkBase ≤ a && a < bulkBase + 0x10000

end Sys2Proof.Machine
end

