-- ==== Sys2Proof/Machine/LedgerOps.lean ====
section
/-! DEFINITION. Ledger opcodes (08): the snapshot, stored series, waveform capture and status. -/

namespace Sys2Proof.Machine

/-- The 96-byte snapshot header (R18). -/
def snapHeader (p : Snapshot) : List Byte :=
  withCrc (le 8 p.epoch ++ leI 8 p.civilS ++ le 2 p.civilF ++ le 1 p.mode.code ++ le 1 p.role ++ le 4 p.flags
    ++ p.through.flatMap (le 8) ++ le 4 p.wedgeSet)

def execLedSnapshotRead (r : Req) (s : State) : Out :=
  brixo 0x0300 r s fun s =>
    answer s stOk (snapHeader s.snap ++ s.snap.state.bytes
      ++ hwRegs.flatMap fun n => le 8 (cumOf ((s.snap.fine[n]?).getD 0)))

/-- Bytes of a reset entry (R183). -/
def ResetEntry.bytes (e : ResetEntry) : List Byte :=
  withCrc (le 8 e.seq ++ le 8 e.epoch ++ le 8 e.kEpoch ++ le 8 e.mask ++ le 1 e.sender ++ le 1 e.chan ++ le 1 e.hseq
    ++ zeros 1 ++ padTo 288 (e.delta.flatMap (le 8)) ++ zeros 8)

/-- A stored series as LED_SERIES_READ returns it: record size, next index, and (index, epoch, bytes) oldest first. -/
structure Series where
  size : Nat
  head : Nat
  recs : List (Nat × Nat × List Byte)

def captureSeries (c : Capture) : Series :=
  { size := 4 * countWhere id (bitsOf 10 c.mask), head := c.rows.length
    recs := c.rows.mapIdx fun i row => (i, c.first + i / 320, row.flatMap (leI 4)) }

/-- The records of a series before the first one that is not complete yet, with the index of that one, or the next (R193: a stored
record never changes). -/
def stored {α : Type} (size next : Nat) (no epoch : α → Nat) (bytes : α → List Byte) (done : α → Bool) (l : List α) : Series :=
  let head := ((l.find? fun x => !done x).map no).getD next
  ⟨size, head, (l.filter fun x => decide (no x < head)).map fun x => (no x, epoch x, bytes x)⟩

/-- The series of R193. A statement and a reading are complete with their signature. -/
def seriesOf (s : State) (n : Nat) : Option Series :=
  match n with
  | 1 => some ⟨64, s.bil.nextRec, s.bil.profile.map fun p => (p.no, p.closeEpoch, p.bytes)⟩
  | 2 => some ⟨16, s.bil.nextFine, s.bil.fineRecs.map fun p => (p.no, p.epoch, p.bytes)⟩
  | 3 => some (stored 160 s.bil.nextStmt (·.no) (·.endEpoch) Statement.bytes (fun p => !p.signature.isEmpty) s.bil.statements)
  | 4 => some ⟨64, s.led.nextEvent, s.led.events.map fun e => (e.index, e.epoch, e.bytes)⟩
  | 5 => some (stored 192 s.led.nextReading (·.no) (·.epoch) (Reading.bytes s.ident.moduleId) (·.signature.isSome) s.led.readings)
  | 6 => some ⟨336, s.led.nextRst % 2 ^ 32, s.led.resets.map fun e => (e.seq % 2 ^ 32, e.epoch, e.bytes)⟩
  | 7 => s.led.capture.map captureSeries
  | _ => none

/-- LED_SERIES_READ (R193, R199). FIRST_EPOCH and LAST_EPOCH have no stated value where no record is returned. -/
def execLedSeriesRead (r : Req) (series start max' : Nat) (s : State) : Out :=
  brixo 0x0301 r s fun s =>
    if series = 0 || 7 < series then refuse s stBadParam
    else if 6 ≤ series && !(r.sender == .internal || r.sender == .hostSpi || r.sender == .spyhole) then refuse s stSender
    else match seriesOf s series with
      | none => refuse s stCaptureEmpty
      | some q =>
        let recs := (q.recs.filter fun x => decide (start ≤ x.1)).take (min max' (4048 / Nat.max 1 q.size))
        let (i, s1) := takeFree s
        let ends : Nat × Nat × State := match recs.head?, recs.getLast? with
          | some a, some b => (a.2.1, b.2.1, s)
          | _, _ => (Config.freeNat i % 2 ^ 64, Config.freeNat (i + 1) % 2 ^ 64, (takeFree s1).2)
        let first := ((recs.head?).map (·.1)).getD start
        answer ends.2.2 stOk (le 1 series ++ zeros 1 ++ le 2 q.size ++ le 2 recs.length ++ zeros 2 ++ le 4 first
          ++ le 4 (first + recs.length) ++ le 4 q.head ++ le 8 ends.1 ++ le 8 ends.2.1 ++ recs.flatMap (·.2.2))

def execLedWaveCapture (r : Req) (mask n : Nat) (s : State) : Out :=
  brixo 0x0302 r s fun s =>
    if mask % 1024 = 0 || 1024 ≤ mask || n = 0 || 40 < n then refuse s stBadParam
    else later (setLed (fun l => { l with captureWait := l.captureWait ++ [(some r, mask, n)] }) s)

/-- One row of the capture buffer: an invalid sample reads 0x8000_0000 (R194). -/
def captureRow (mask : Nat) (m : Sample) : List Int :=
  (maskIdx 10 mask).map fun k => if bitN m.invalid k then -(2 ^ 31) else code m.codes k

/-- The bytes of the capture buffer, row by row (R194). -/
def captureBytes (c : Capture) : List Byte := c.rows.flatMap fun row => row.flatMap (leI 4)

/-- WAVE_CAPTURE_COPY (R194, R289): semaphore 0 is free, and the newest complete epochs replace the capture buffer whole. -/
def execWaveCaptureCopy (s : State) : Out :=
  match s.led.captureWait with
  | [] => .next s
  | q :: rest =>
    whenever (s.dom.d3 && (semOwner s 0).isNone) s fun s =>
      let eps := keepLast q.2.2 s.led.waveRing
      let first := ((eps.head?).map (·.1)).getD s.snap.epoch
      let last := ((eps.getLast?).map (·.1)).getD s.snap.epoch
      let c : Capture := ⟨first, last, q.2.1, eps.flatMap fun e => e.2.map (captureRow q.2.1)⟩
      let s := setLed (fun l => { l with captureWait := rest, capture := some c }) s
      let s := { s with dma := { s.dma with mem := memReplace s.dma.mem captureBase captureSize (captureBytes c) } }
      replyTo q.1 0x0302 stOk (le 8 first ++ le 8 last ++ le 4 c.rows.length ++ le 2 (captureSeries c).size ++ zeros 2) s

def execLedStatus (r : Req) (s : State) : Out :=
  brixo 0x0304 r s fun s =>
    answer s stOk (le 8 (((newestCkpt s).map (·.epoch)).getD 0)
      ++ le 8 (((s.led.journal.find? (·.valid)).map (·.epoch)).getD 0) ++ le 8 s.led.lastClose
      ++ le 1 (b2n s.led.closeClean) ++ le 1 (min 255 (unsigned s).length) ++ zeros 2 ++ le 4 s.led.nextReading
      ++ le 4 s.led.nextEvent ++ le 8 s.led.nextRst ++ le 4 (s.snap.epoch / 100) ++ le 4 s.mode.powerCycles
      ++ le 4 s.led.retries)

end Sys2Proof.Machine
end

