-- ==== Sys2Proof/Machine/ShutterOps.lean ====
section
/-! DEFINITION. Shutter (14): clearing latches by SRESET, SHU_RESET and pilot state A, the configuration session with its password
and change log, and the opcodes. -/

namespace Sys2Proof.Machine

/-! Latches and their edges (R354–R356). -/

/-- Both configuration copies are valid and equal (R358). -/
def configOk (s : State) : Bool := s.shu.copyA && s.shu.copyB && s.shu.copiesEqual

/-- PRESENT: the conditions present now (R367). -/
def presentMask (s : State) : Nat :=
  packBits [s.shu.estopA || s.shu.estopB, s.shu.estopA != s.shu.estopB, decide (10 * param s 0x0604 ≤ s.shu.rcmAc),
    decide (param s 0x0605 ≤ s.shu.rcmDc.natAbs), false, (overcurrent s).isSome,
    shuSession s && (s.shu.cpState == 5 || s.shu.cpState == 0), shuSession s && s.shu.diodeMissing,
    coilOn s && !s.inp.peOk, weldPoles s != 0, coilOn s && !kfbAllClosed s && s.shu.kfbBy.isNone,
    s.inp.faults.any (·.absentSince.isNone), !s.shu.agree, bitN s.shu.latches 13, !configOk s, coilOn s && decide (s.shu.vaux < 10000)]

/-- Latches whose condition stands against an edge (R355): lines not both closed, a residual not below half its threshold,
PE_OK low, the other conditions as present; CHANNEL asks for 1 s of agreement. -/
def blockMask (s : State) : Nat :=
  let p := presentMask s
  let agreed := s.shu.agree && decide (s.shu.agreeSince + Tick.s 1 ≤ s.clk.now)
  packBits [s.shu.estopA || s.shu.estopB, s.shu.estopA || s.shu.estopB, decide (10 * param s 0x0604 ≤ 2 * s.shu.rcmAc),
    decide (param s 0x0605 ≤ 2 * s.shu.rcmDc.natAbs), false, bitN p 5, bitN p 6, bitN p 7, !s.inp.peOk, bitN p 9, bitN p 10,
    bitN p 11, !agreed, true, bitN p 14, bitN p 15]

/-- Latches that one SRESET release or SHU_RESET clears, those that need both, and the one SRESET alone clears. -/
abbrev singleMask : Nat := 0xFFFF - lRcmAc - lRcmDc - lWeld - lChannel - lStuck
abbrev doubleMask : Nat := lRcmAc + lRcmDc + lWeld

/-- Latches cleared by an edge: SHU_CLEARED, SHU_EVENT, and a self-test after a residual-current latch (R347). -/
def clearLatches (mask edge sender : Nat) (s : State) : State :=
  if mask = 0 then s
  else
    let s := setShu (fun x => { x with latches := maskWithout x.latches mask }) s
    let s := raise 0x0602 (le 4 mask ++ le 1 edge ++ le 1 sender) s
    let s := shuEvent 2 mask s
    if mask &&& (lRcmAc + lRcmDc + lRcmSensor) != 0 then startRcm 4 none s else s

/-- An SRESET release fell within the last 10 s. -/
def releaseRecent (s : State) : Bool :=
  match s.shu.lastRelease with
  | some t => decide (s.clk.now ≤ t + Tick.s 10)
  | none => false

/-- What an accepted SHU_RESET does: cleared, pending and remaining latches (R355). -/
structure ResetResult where
  cleared : Nat
  waiting : Nat
  remaining : Nat
  state : State

def resetEdge (mask sender : Nat) (s : State) : ResetResult :=
  let want := if mask = 0 then s.shu.latches else s.shu.latches &&& mask
  let free := maskWithout want (blockMask s)
  let one := free &&& singleMask
  let two := if releaseRecent s then free &&& doubleMask else 0
  let wait := if releaseRecent s then 0 else want &&& doubleMask
  let s := if wait = 0 then s
    else setShu (fun x => { x with pendingReset := some ⟨wait, s.clk.now + Tick.s 10, sender⟩ }) s
  let s := clearLatches two 3 sender (clearLatches one 2 sender s)
  ⟨one + two, wait, s.shu.latches, s⟩

def isReset (mask : Nat) : ShuReq → Bool
  | .reset m => m == mask
  | _ => false

/-- RESET: Kiln's request (R342). With D3 in reset latches are cleared by the SRESET pad only (R28). -/
def execReset (mask : Nat) (s : State) : Out :=
  if !s.dom.d3 then .next s
  else serveRequest (isReset mask) s fun s =>
    if bitN s.shu.latches 13 then refuseReq (.reset mask) stSresetStuck s
    else
      let r := resetEdge mask 0 s
      if r.cleared = 0 && r.waiting = 0 && r.remaining != 0 then refuseReq (.reset mask) stConditionPresent r.state else acceptReq r.state

def execShuReset (r : Req) (mask : Nat) (s : State) : Out :=
  brixo 0x0601 r s fun s =>
    if 0x10000 ≤ mask then refuse s stBadParam
    else if bitN s.shu.latches 13 then refuse s stSresetStuck
    else
      let some_ := (if mask = 0 then s.shu.latches else s.shu.latches &&& mask) != 0
      let x := resetEdge mask r.sender.code s
      answer x.state (if x.waiting != 0 then stAccepted
        else if x.cleared = 0 && some_ then stConditionPresent else stOk)
        (le 4 x.cleared ++ le 4 x.waiting ++ le 4 x.remaining)

/-- SRESET_RELEASE: a low period, ms; 50 ms to 5 s is an edge (R355, R356). -/
def execSresetRelease (lowMs : Nat) (s : State) : Out :=
  whenever s.dom.d1 s fun s =>
    let s := setShu (fun x => { x with sresetLow := none }) s
    if bitN s.shu.latches 13 then
      let s := setShu (fun x => { x with latches := maskWithout x.latches lStuck }) s
      shuEvent 6 lStuck (raiseF 0x0606 1 0xFF (le 4 lowMs) s)
    else if 50 ≤ lowMs && lowMs ≤ 5000 then
      let s := setShu (fun x => { x with lastRelease := some s.clk.now }) s
      let s := shuEvent 6 0 s
      let free := maskWithout s.shu.latches (blockMask s)
      let p := (s.shu.pendingReset.map (·.mask)).getD 0
      let snd := (s.shu.pendingReset.map (·.sender)).getD 0xFF
      let two := free &&& doubleMask &&& p
      let left := maskWithout p two
      let s := setShu (fun x => { x with
        pendingReset := if left = 0 then none else x.pendingReset.map fun q => { q with mask := left } }) s
      clearLatches two 3 snd (clearLatches (free &&& (singleMask + lChannel)) 1 0xFF s)
    else s

/-- SRESET_STUCK (R356): low for more than 5 s. -/
def execSresetStuck (s : State) : Out :=
  whenever (s.dom.d1 && !bitN s.shu.latches 13) s fun s =>
    shuEvent 5 lStuck (raise 0x0606 [] (setLatch lStuck (setShu (fun x => { x with
      sresetLow := x.sresetLow.or (some s.clk.now) }) s)))

/-- PENDING_RESET_LAPSE (R355). -/
def execPendingResetLapse (s : State) : Out :=
  match s.shu.pendingReset with
  | none => .next s
  | some p => .next (shuEventSt stSresetRequired 3 p.mask (setShu (fun x => { x with pendingReset := none })
      (advanceTo p.deadline s)))

/-- CP_STATE_A_HELD (R355): 1 s of pilot state A. -/
def execCpStateAHeld (s : State) : Out :=
  match s.shu.stateASince with
  | none => .next s
  | some t =>
    whenever (s.dom.d1 && s.shu.cpState == 1) s fun s =>
      clearLatches (s.shu.latches &&& (lCpError + lDiode)) 4 0xFF (advanceTo (t + Tick.s 1) s)

/-! The change log (R361). -/

def ChangeEntry.bytes (e : ChangeEntry) : List Byte :=
  withCrc (le 4 e.index ++ le 1 e.kind ++ le 1 e.sender ++ le 2 e.param ++ le 8 e.epoch ++ leI 8 e.civil ++ padTo 16 e.old
    ++ padTo 16 e.new ++ zeros 4)

def changeLog (kind sender pid : Nat) (old new : List Byte) (s : State) : State :=
  let e : ChangeEntry := ⟨s.shu.nextChange, kind, sender, pid, s.clk.epoch, civilSec (civilEnd s), old, new⟩
  setShu (fun x => { x with changeLog := pushRing 512 x.changeLog e, nextChange := satInc 0xFFFFFFFF x.nextChange }) s

/-! The configuration session (R359, R360). -/

/-- The open session closes, whatever the cause. -/
def closeConfig (s : State) : State :=
  match s.shu.session with
  | none => s
  | some (snd, _) => changeLog 4 snd.code 0 [] [] (setShu (fun x => { x with session := none }) s)

/-- An accepted SHU write keeps the session open for another 600 s. -/
def touchConfig (s : State) : State :=
  setShu (fun x => { x with session := x.session.map fun y => (y.1, s.clk.now) }) s

def execConfigSessionIdle (s : State) : Out :=
  match s.shu.session with
  | none => .next s
  | some (_, t) => .next (closeConfig (advanceTo (t + Tick.s 600) s))

/-- 12 to 32 printable characters, padded with zeros. -/
def passwordOk (len : Nat) (pw : List Byte) : Bool :=
  decide (12 ≤ len) && decide (len ≤ 32) && (pw.take len).all (fun b => decide (0x20 ≤ b.toNat) && decide (b.toNat ≤ 0x7E))
    && (pw.drop len).all (· == 0)

def digestOf (salt : List Byte) (len : Nat) (pw : List Byte) : List Byte := Config.sha256 (salt ++ pw.take len)

/-- The lockout in force, s left (rounded up). -/
def lockoutLeft (s : State) : Nat :=
  match s.shu.lockoutEnd with
  | some t => divCeil (t - s.clk.now) (Tick.s 1)
  | none => 0

/-- Duration of the n-th lockout since the last success, s: 15 min, doubled each time, up to 960 min. -/
def lockoutS (n : Nat) : Nat := 60 * min 960 (15 * 2 ^ (n - 1))

/-- A wrong password (R360). -/
def wrongPassword (snd : Nat) (s : State) : State :=
  let s := changeLog 5 snd 0 [] [] s
  if s.shu.fails + 1 < 5 then setShu (fun x => { x with fails := x.fails + 1 }) s
  else
    let n := s.shu.lockouts + 1
    let s := setShu (fun x => { x with
      fails := 0, lockouts := min 255 n, lockoutEnd := some (s.clk.now + Tick.s (lockoutS n)) }) s
    shuEvent 10 0 (changeLog 6 snd 0 [] (le 4 (lockoutS n)) s)

/-- Modes in which a session may be open (R359). -/
def configMode (s : State) : Bool := s.mode.mode != .holdup && s.mode.mode != .recovery

def openBody (s : State) : List Byte := le 2 600 ++ zeros 2 ++ le 4 (lockoutLeft s)

def execShuConfigOpen (r : Req) (len : Nat) (password : List Byte) (s : State) : Out :=
  brixo 0x0602 r s fun s =>
    let held := match s.shu.session with | some (x, _) => x != r.sender | none => false
    let opened (s : State) : Answer :=
      if held then refuse s stSessionHeld
      else
        let s := setShu (fun x => { x with session := some (r.sender, s.clk.now), fails := 0, lockouts := 0 }) s
        let s := changeLog 3 r.sender.code 0 [] [] s
        answer s stOk (openBody s)
    if !configMode s then refuse s stWrongMode
    else match s.shu.password with
      | none => opened s
      | some (salt, digest) =>
        if !passwordOk len password then refuse s stBadParam
        else if s.shu.lockoutEnd.isSome then answer s stLockedOut (openBody s)
        else if digestOf salt len password != digest then refuse (wrongPassword r.sender.code s) stPasswordInvalid
        else opened s

/-- The sender holds the open session, none holds one, or another does. -/
def sessionCheck (s : State) (snd : Sender) : Option Nat :=
  match s.shu.session with
  | none => some stPassword
  | some (x, _) => if x = snd then none else some stSessionHeld

def execShuConfigClose (r : Req) (s : State) : Out :=
  brixo 0x0603 r s fun s =>
    if sessionCheck s r.sender = none then answer (closeConfig s) stOk else refuse s stPassword

def execShuPasswordSet (r : Req) (len : Nat) (password : List Byte) (s : State) : Out :=
  brixo 0x0604 r s fun s =>
    let first := s.mode.mode == .factory && s.shu.password.isNone
    match if first then none else sessionCheck s r.sender with
    | some st => refuse s st
    | none =>
      if !passwordOk len password then refuse s stBadParam
      else
        let salt := Config.random s.clk.free 16
        let d := digestOf salt len password
        let old := (s.shu.password.map (·.2)).getD []
        let i := s.shu.nextChange
        let s := { s with clk := { s.clk with free := s.clk.free + 1 } }
        let s := touchConfig (setShu (fun x => { x with
          password := some (salt, d), copyA := true, copyB := true, copiesEqual := true }) s)
        answer (changeLog 2 r.sender.code 0 (old.take 16) (d.take 16) s) stOk (le 4 i)

/-- LOCKOUT_END (R360). -/
def execLockoutEnd (s : State) : Out :=
  match s.shu.lockoutEnd with
  | none => .next s
  | some t => .next (setShu (fun x => { x with lockoutEnd := none }) (advanceTo t s))

/-! Other opcodes (R367, R368). -/

/-- STOP of SHU_STATUS. -/
def stopCode (s : State) : Nat :=
  match s.shu.stop with
  | some p => (match p.kind with | .kiln => 1 | .metering => 2 | .reclaim => 4)
  | none => if s.recl.deadline.isSome then 3 else 0

/-- The fields of SHU_STATUS (R367). -/
def shuBody (s : State) : List Byte :=
  let x := s.shu
  let st := s.snap.state
  le 4 st.shuFaults ++ le 4 (presentMask s) ++ le 4 ((x.pendingReset.map (·.mask)).getD 0)
    ++ le 1 st.km ++ le 1 st.cp ++ le 2 st.cpDuty ++ le 2 (closeBlock s) ++ le 1 (stopCode s) ++ le 1 (b2n (safeOk s))
    ++ le 4 (iPerm s x.limitIsDc) ++ le 2 x.rcmAc ++ leI 2 x.rcmDc
    ++ le 8 (if x.rcmPass.isSome then x.rcmPassEpoch else 0) ++ le 8 x.lastTrip
    ++ le 1 ((x.session.map (·.1.code)).getD 0xFF) ++ le 1 x.fails ++ le 1 x.lockouts ++ zeros 1 ++ le 4 (lockoutLeft s)
    ++ le 4 x.nextChange ++ leI 2 x.oscB ++ zeros 2

def execShuStatus (r : Req) (s : State) : Out := brixo 0x0600 r s fun s => answer s stOk (shuBody (asOf s))

def execShuRcmTest (r : Req) (s : State) : Out :=
  brixo 0x0605 r s fun s =>
    if inHoldup s then refuse s stWrongMode
    else if coilOn s || s.shu.rcmTest.isSome then refuse s stBusy
    else later (startRcm 5 (some r) s)

def execShuLogRead (r : Req) (first count : Nat) (s : State) : Out :=
  brixo 0x0606 r s fun s =>
    if count = 0 || 60 < count then refuse s stBadParam
    else
      let es := (s.shu.changeLog.filter fun e => decide (first ≤ e.index)).take count
      answer s stOk (le 4 (((es.head?).map (·.index)).getD first) ++ le 1 es.length ++ zeros 3
        ++ es.flatMap ChangeEntry.bytes)

end Sys2Proof.Machine
end

