-- ==== Sys2Proof/Machine/Mram.lean ====
section
/-! DEFINITION. The MRAM (08): the byte layouts of the superblock, the journal entry, the checkpoint and the ledger-state copy, the
place of every record at its fixed offset (R171), and the DMA engine's address view over them (R296). -/

namespace Sys2Proof.Machine

/-- A superblock (R172): LAYOUT_VERSION is 1. -/
def Superblock.bytes (id : Nat) (b : Superblock) : List Byte :=
  withCrc (le 4 1 ++ le 4 b.gen ++ le 8 id ++ le 4 b.powerCycles ++ zeros 4 ++ le 8 b.runFirst)

/-- A journal entry (R173): 512 bytes. -/
def JournalEntry.bytes (e : JournalEntry) : List Byte :=
  withCrc (le 8 e.epoch ++ le 1 e.kind ++ le 1 e.gate ++ le 2 e.nSamples ++ le 2 e.flags ++ le 2 e.kSpan
    ++ padTo 144 (e.incHw.flatMap (le 12)) ++ le 8 e.kEpoch ++ padTo 288 (e.incKiln.flatMap (le 12))
    ++ padTo 36 (e.bal.flatMap (leI 12)) ++ e.state.bytes)

/-- A totals checkpoint (R177): 1 248 bytes. -/
def Checkpoint.bytes (c : Checkpoint) : List Byte :=
  withCrc (le 8 c.epoch ++ le 8 c.seq ++ le 8 c.lastRst ++ le 8 c.kEpoch ++ padTo 576 (c.fine.flatMap (le 16))
    ++ padTo 576 (c.base.flatMap (le 16)) ++ padTo 48 (c.bal.flatMap (leI 16)) ++ le 4 c.nextEvent ++ le 4 c.nextReading
    ++ le 4 c.nextPq)

/-- The parts of a ledger-state copy that R234 places to the byte: offset and bytes. -/
def LsCopy.parts (c : LsCopy) : List (Nat × List Byte) :=
  let b := c.bil
  (0, le 8 c.seq ++ le 8 b.through ++ leI 8 c.civil ++ le 1 b.rate)
    :: (0x40, (b.rateImp ++ b.rateExp).flatMap (le 16))
    :: b.history.map fun r => (0x500 + 256 * (r.period % 12), r.bytes)

/-- The record whose number modulo the ring's length is a slot. -/
def inSlot {α : Type} (no : α → Nat) (n k : Nat) (l : List α) : Option α := l.find? fun x => no x % n == k

/-- The journal entry in a slot of the ring: the newest one lies before the slot that is next (log entry 20). -/
def journalSlot (l : Ledger) (k : Nat) : Option JournalEntry := l.journal.reverse[(l.journalNext + 2047 - k) % 2048]?

/-- A ring of records of one size at a base: number of slots, size, and the bytes of the record in a slot. -/
structure MramRing where
  base : Nat
  slots : Nat
  size : Nat
  read : State → Nat → Option (List Byte)

/-- The rings of R171. A record whose number is n stands in slot n modulo the length of its ring (log entry 20). -/
def mramRings : List MramRing :=
  [⟨0, 2, 0x1000, fun s k => (if k = 0 then s.led.superA else s.led.superB).map (Superblock.bytes s.ident.moduleId)⟩,
   ⟨0x2000, 2, 0x1000, fun s k => (if k = 0 then s.led.ckptA else s.led.ckptB).map Checkpoint.bytes⟩,
   ⟨0x4000, 2048, 512, fun s k => (journalSlot s.led k).map JournalEntry.bytes⟩,
   ⟨0x104000, 4096, 64, fun s k => (inSlot Event.index 4096 k s.led.events).map Event.bytes⟩,
   ⟨0x144000, 512, 48, fun s k => (inSlot PqEvent.index 512 k s.pq.events).map PqEvent.bytes⟩,
   ⟨0x14A000, 256, 192, fun s k => (inSlot Reading.no 256 k s.led.readings).map (Reading.bytes s.ident.moduleId)⟩,
   ⟨0x166000, 512, 64, fun s k => (inSlot ChangeEntry.index 512 k s.shu.changeLog).map ChangeEntry.bytes⟩,
   ⟨0x172000, 1024, 64, fun s k => (s.diag.ring[k]?).map diagBytes⟩,
   ⟨0x182000, 38400, 64, fun s k => (inSlot ProfileRec.no 38400 k s.bil.profile).map ProfileRec.bytes⟩,
   ⟨0x3DA000, 50400, 16, fun s k => (inSlot FineRec.no 50400 k s.bil.fineRecs).map FineRec.bytes⟩,
   ⟨0x49F000, 20000, 160, fun s k => (inSlot Statement.no 20000 k s.bil.statements).map Statement.bytes⟩,
   ⟨0x7AC400, 256, 336, fun s k => (inSlot ResetEntry.seq 256 k s.led.resets).map ResetEntry.bytes⟩]

/-- The byte of a ring's record at an MRAM offset. -/
def MramRing.byteAt (s : State) (o : Nat) (r : MramRing) : Option Byte :=
  if r.base ≤ o && o < r.base + r.slots * r.size then
    (r.read s ((o - r.base) / r.size)).bind fun b => b[(o - r.base) % r.size]?
  else none

/-- The byte of a ledger-state copy at an MRAM offset. -/
def lsByte (s : State) (o : Nat) : Option Byte :=
  let at' (base : Nat) (c : Option LsCopy) : Option Byte :=
    if base ≤ o && o < base + 0x8000 then c.bind fun c => c.parts.findSome? fun p =>
      if p.1 ≤ o - base then p.2[o - base - p.1]? else none
    else none
  (at' 0x156000 s.led.lsA).or (at' 0x15E000 s.led.lsB)

/-- The byte of a record at an MRAM offset, none where no record stands. -/
def mramByte (s : State) (o : Nat) : Option Byte := (mramRings.findSome? (MramRing.byteAt s o)).or (lsByte s o)

/-! The address view (R296). -/

/-- The MRAM in the view. -/
abbrev mramBase : Nat := 0x20000000

/-- The record byte that an address of the view shows. -/
def viewRecord (s : State) (a : Nat) : Option Byte :=
  if mramBase ≤ a && a < mramBase + 0x800000 then mramByte s (a - mramBase) else none

/-- One byte of the engine's address view: bulk slots (R271), the records of MRAM, or memory. -/
def viewRead (s : State) (a : Nat) : Byte :=
  if inBulk a then
    let o := a - bulkBase
    match s.hatch.chans[o % 0x8000 / 4096]? with
    | some c => ((if o < 0x8000 then c.bulkIn else c.bulkOut)[o % 4096]?).getD 0
    | none => 0
  else (viewRecord s a).getD (memRead s.dma.mem a)

/-- One byte written through the engine's address view. A write does not change a record (log entry 20). -/
def viewWrite (s : State) (a : Nat) (b : Byte) : State :=
  if inBulk a then
    let o := a - bulkBase
    let f : HatchChan → HatchChan := fun c =>
      if o < 0x8000 then { c with bulkIn := slotWrite c.bulkIn (o % 4096) b }
      else { c with bulkOut := slotWrite c.bulkOut (o % 4096) b }
    { s with hatch := { s.hatch with chans := s.hatch.chans.mapIdx fun i c => if i = o % 0x8000 / 4096 then f c else c } }
  else { s with dma := { s.dma with mem := memWrite s.dma.mem a b } }

def viewReadList (s : State) : Nat → Nat → List Byte
  | _, 0 => []
  | a, n + 1 => viewRead s a :: viewReadList s (a + 1) n

def viewWriteList : State → Nat → List Byte → State
  | s, _, [] => s
  | s, a, b :: bs => viewWriteList (viewWrite s a b) (a + 1) bs

end Sys2Proof.Machine
end

