-- ==== Sys2Proof/Machine/Dma.lean ====
section
/-! DEFINITION. The DMA engine (12): host channel registers, descriptors, bursts and write-back. -/

namespace Sys2Proof.Machine

def dmaChan (s : State) (c : Nat) : DmaChan := (s.dma.chans[c]?).getD {}

def setDma (c : Nat) (d : DmaChan) (s : State) : State := { s with dma := { s.dma with chans := s.dma.chans.set c d } }

/-- Word `k` of a descriptor (R299). -/
def dw (ws : List Nat) (k : Nat) : Nat := (ws[k]?).getD 0
def dOwn (ws : List Nat) : Bool := bitN (dw ws 0) 31
def dIrq (ws : List Nat) : Bool := bitN (dw ws 0) 30
def dElem (ws : List Nat) : Nat := dw ws 0 / 2 ^ 24 % 4
def dSwap (ws : List Nat) : Nat := dw ws 0 / 2 ^ 22 % 4
def dSize (ws : List Nat) : Nat := 2 ^ dElem ws
def dN (ws : List Nat) : Nat × Nat × Nat := (dw ws 3 % 65536, dw ws 3 / 65536, dw ws 4 % 65536)
def dTotal (ws : List Nat) : Nat := (dN ws).1 * (dN ws).2.1 * (dN ws).2.2
/-- Steps of a side: source words 5, 7, 9; destination words 6, 8, 10. -/
def dSteps (ws : List Nat) (dst : Bool) : List Int :=
  (if dst then [6, 8, 10] else [5, 7, 9]).map fun k => toI 4 (dw ws k)
def dBase (ws : List Nat) (dst : Bool) : Nat := dw ws (if dst then 2 else 1)

/-- Address of the e-th element, i0 fastest (R300). -/
def dAddr (ws : List Nat) (dst : Bool) (e : Nat) : Nat :=
  let n := dN ws
  let ix := [e % n.1, e / n.1 % n.2.1, e / (n.1 * n.2.1)]
  ((dBase ws dst : Int) + sumI (List.zipWith (fun (i : Nat) (st : Int) => i * st) ix (dSteps ws dst))).toNat

/-- Lowest and highest byte of a side, taken from the signs of the steps (R300). -/
def dExtremes (ws : List Nat) (dst : Bool) : Int × Int :=
  let n := dN ws
  let spans := List.zipWith (fun (k : Nat) (st : Int) => ((k : Int) - 1) * st) [n.1, n.2.1, n.2.2] (dSteps ws dst)
  ((dBase ws dst : Int) + sumI (spans.map (min 0)), (dBase ws dst : Int) + sumI (spans.map (max 0)) + dSize ws - 1)

/-- The regions a channel may read or write: first and last address (R296). -/
def dRegions (host write : Bool) : List (Int × Int) :=
  match host, write with
  | true, false => [(0x10000000, 0x1007FFFF), (0x40000000, 0x4000FFFF)]
  | true, true => [(0x40008000, 0x4000FFFF)]
  | false, false => [(0, 0x1FFFFF), (0x10000000, 0x1007FFFF), (0x20000000, 0x207FFFFF), (0x30000000, 0x31FFFFFF),
      (0x40000000, 0x4000FFFF)]
  | false, true => [(0, 0x1FFFFF), (0x10000000, 0x1007FFFF), (0x20000000, 0x207FFFFF), (0x40000000, 0x4000FFFF)]

def dInside (rs : List (Int × Int)) (x : Int × Int) : Bool := rs.any fun r => r.1 ≤ x.1 && x.2 ≤ r.2

/-- The field checks of R300. -/
def dFieldsOk (ws : List Nat) : Bool :=
  let n := dN ws
  let sz : Int := dSize ws
  n.1 != 0 && n.2.1 != 0 && n.2.2 != 0 && dElem ws != 3
    && (dSteps ws true ++ dSteps ws false).all (· % sz == 0) && dw ws 1 % dSize ws == 0 && dw ws 2 % dSize ws == 0
    && (dSwap ws != 1 || 1 ≤ dElem ws) && (dSwap ws < 2 || dElem ws == 2)
    && dw ws 0 / 2 ^ 26 % 16 == 0 && dw ws 0 / 2 ^ 16 % 64 == 0 && dw ws 4 / 65536 == 0

/-- The region checks of R300. -/
def dRegionsOk (host : Bool) (ws : List Nat) : Bool :=
  dInside (dRegions host false) (dExtremes ws false) && dInside (dRegions host true) (dExtremes ws true)

/-- SWAP applied to the bytes of an element (R299). -/
def dSwapBytes (k : Nat) (l : List Byte) : List Byte :=
  match k, l with
  | 1, [a, b] => [b, a]
  | 1, [a, b, c, d] => [b, a, d, c]
  | 2, [a, b, c, d] => [c, d, a, b]
  | 3, [a, b, c, d] => [d, c, b, a]
  | _, l => l

/-- One element moved (R300). -/
def dMove (ws : List Nat) (e : Nat) (s : State) : State × Nat × List Byte :=
  let bs := dSwapBytes (dSwap ws) (viewReadList s (dAddr ws false e) (dSize ws))
  let a := dAddr ws true e
  (viewWriteList s a bs, a, bs)

/-- Up to `n` elements moved; the running record keeps the last address and bytes written. -/
def dMoveN : Nat → Running → State → State × Running
  | 0, r, s => (s, r)
  | n + 1, r, s =>
    if r.moved < dTotal r.words then
      let (s', a, bs) := dMove r.words r.moved s
      dMoveN n { r with moved := r.moved + 1, lastAddr := a, lastBytes := bs } s'
    else (s, r)

/-- A descriptor with STATUS and DONE written back and OWN cleared (R301). -/
def dWritten (ws : List Nat) (status done : Nat) : List Nat :=
  let c := dw ws 0
  (ws.set 0 ((c - c / 2 ^ 31 * 2 ^ 31) - c % 65536 + c % 256 + status * 256)).set 11 done

/-- DMA_DONE (R311). -/
def dmaDone (c idx status : Nat) (ws : List Nat) (done : Nat) (s : State) : State :=
  notify 3 0x1108 (le 1 c ++ le 1 idx ++ le 1 status ++ le 1 (dw ws 0) ++ le 4 done) s

/-- One write-back in ring order: descriptor, HEAD, then DONE_EVT and DMA_DONE where IRQ is set (R301, R302). -/
def dmaBack (c idx status done : Nat) (s : State) : State :=
  let d := dmaChan s c
  let ws := (d.ring[idx]?).getD []
  let irq := dIrq ws
  let bad := status ≠ 0 ∧ status ≠ 1
  let s := setDma c { d with
      ring := d.ring.set idx (dWritten ws status done), head := (idx + 1) % 16, lastStatus := status, run := none
      doneEvt := d.doneEvt || irq, error := d.error || decide bad, enable := d.enable && !decide bad } s
  let s := if irq && c < 4 then dmaDone c idx status ws done s else s
  if bad then diagTrigger 16 c s else s

/-- Ring indices from a head, in ring order. -/
def ringOrder (h : Nat) : List Nat := (List.range 16).map fun k => (h + k) % 16

/-- The abort of R303; a descriptor whose last element is moved ends OK (R310). The number written back with ABORTED. -/
def dmaAbort (c : Nat) (s : State) : State × Nat :=
  let d := dmaChan s c
  let (s, n) := match d.run with
    | none => (s, 0)
    | some r => if r.moved = dTotal r.words then (dmaBack c r.index 0 r.moved s, 0)
                else (dmaBack c r.index 1 r.moved s, 1)
  let step : State × Nat → Nat → State × Nat := fun p i =>
    if dOwn (((dmaChan p.1 c).ring[i]?).getD []) then (dmaBack c i 1 0 p.1, p.2 + 1) else p
  let (s, n) := (ringOrder (dmaChan s c).head).foldl step (s, n)
  (setDma c { dmaChan s c with shadow := none, enable := false } s, n)

/-- The DMA registers take host writes: firmware serves, and not from t_f to the restart (R271, R309). -/
def dmaOpen (s : State) : Bool := serving s && !inHoldup s

/-- DCTRL (R297); ABORT prevails over ENABLE (R310). -/
def execDctrlWrite (c value : Nat) (s : State) : Out :=
  whenever (dmaOpen s && c < 4) s fun s =>
    let s := setDma c { dmaChan s c with enable := bitN value 0, prio := value / 16 % 4 } s
    if bitN value 8 then (dmaAbort c s).1 else s

/-- The ABORT bit (R303). -/
def execDmaChannelAbort (c : Nat) (s : State) : Out :=
  whenever (dmaOpen s && c < 4) s fun s => (dmaAbort c s).1

/-- Window words 1–11 go to staging, or set WRITE_OWNED (R298). -/
def execDescriptorStagingWrite (c word value : Nat) (s : State) : Out :=
  whenever (dmaOpen s && c < 4 && 1 ≤ word && word ≤ 11) s fun s =>
    let d := dmaChan s c
    if dOwn ((d.ring[d.dsel]?).getD []) then setDma c { d with writeOwned := true } s
    else setDma c { d with staging := d.staging.set (word - 1) (value % 2 ^ 32) } s

/-- The committed descriptor: word 0 as written but for STATUS, which is read-only (R299), then the staging copy. -/
def dCommitted (old : List Nat) (value : Nat) (staging : List Nat) : List Nat :=
  (value % 2 ^ 32 - value % 65536 + value % 256 + dw old 0 / 256 % 256 * 256) :: staging

/-- A write of word 0 commits staging and word 0 together (R298); the descriptor after the running one is read again
(R301). -/
def execDescriptorCommit (c value : Nat) (s : State) : Out :=
  whenever (dmaOpen s && c < 4) s fun s =>
    let d := dmaChan s c
    if dOwn ((d.ring[d.dsel]?).getD []) then setDma c { d with writeOwned := true } s
    else
      let ws := dCommitted ((d.ring[d.dsel]?).getD []) value d.staging
      let sh := match d.run with
        | some r => if d.dsel = (r.index + 1) % 16 && dOwn ws then some ws else d.shadow
        | none => d.shadow
      setDma c { d with ring := d.ring.set d.dsel ws, shadow := sh } s

/-- W1C bits of DSTAT (R297). -/
def execDstatClear (c value : Nat) (s : State) : Out :=
  whenever (dmaOpen s && c < 4) s fun s =>
    let d := dmaChan s c
    setDma c { d with writeOwned := d.writeOwned && !bitN value 10, error := d.error && !bitN value 9,
                      doneEvt := d.doneEvt && !bitN value 8 } s

/-- An owned descriptor at HEAD starts after the checks of R300, and the next is prefetched (R301). The operand is the
descriptor a firmware channel's ring holds; host channels read their own ring. -/
def execDmaDescriptorStart (c : Nat) (words : List Nat) (s : State) : Out :=
  let d := dmaChan s c
  let host := decide (c < 4)
  let ws := if host then (match d.shadow with | some w => w | none => (d.ring[d.head]?).getD []) else words
  whenever (s.dom.d3 && decide (c < 8) && d.run.isNone && dOwn ws && (if host then d.enable && !inHoldup s else true)) s
    fun s =>
      let d := { d with ring := d.ring.set d.head ws, shadow := none }
      if !dFieldsOk ws then dmaBack c d.head 2 0 (setDma c d s)
      else if !dRegionsOk host ws then dmaBack c d.head 3 0 (setDma c d s)
      else
        let nx := (d.ring[(d.head + 1) % 16]?).getD []
        setDma c { d with run := some ⟨d.head, ws, 0, 0, []⟩, shadow := if dOwn nx then some nx else none } s

/-- Hatch holds a bulk packet in the module-to-host slot of a channel (R307). -/
def bulkHeld (s : State) (h : Nat) : Bool :=
  match s.hatch.chans[h]? with
  | none => false
  | some ch => ch.outbox.any (·.bulk) || (match ch.await with | some p => p.bulk | none => false)

/-- A module-owned host descriptor has a destination in the module-to-host slot of a channel, judged by the extremes of its
addresses (R307, log entry 82). -/
def slotTargeted (s : State) (h : Nat) : Bool :=
  let lo : Int := bulkBase + 0x8000 + h * 0x1000
  (s.dma.chans.take 4).any fun d => d.ring.any fun ws =>
    dOwn ws && decide ((dExtremes ws true).1 < lo + 0x1000) && decide (lo ≤ (dExtremes ws true).2)

/-- The next burst of a host channel meets a slot that waits for the host's acknowledgement (R307). -/
def burstBlocked (s : State) (c : Nat) (r : Running) : Bool :=
  decide (c < 4) && (List.range 16).any fun k =>
    decide (r.moved + k < dTotal r.words) &&
      (let a := dAddr r.words true (r.moved + k)
       bulkBase + 0x8000 ≤ a && bulkHeld s ((a - bulkBase - 0x8000) / 4096))

def dmaReady (s : State) (c : Nat) : Bool :=
  match (dmaChan s c).run with
  | none => false
  | some r => decide (r.moved < dTotal r.words) && decide ((dmaChan s c).stallEnd ≤ s.clk.now) && !burstBlocked s c r

/-- Effective priority (R304). -/
def dmaPrio (d : DmaChan) : Nat := min 3 (d.prio + d.age / 16)

/-- The channel that arbitration grants: highest effective priority, then AGE, then the lower number (R304). -/
def dmaGrant (s : State) : Option Nat :=
  ((List.range 8).filter (dmaReady s)).foldl (fun best c =>
    match best with
    | none => some c
    | some b =>
      let x := dmaChan s c; let y := dmaChan s b
      if dmaPrio y < dmaPrio x ∨ (dmaPrio y = dmaPrio x ∧ y.age < x.age) then some c else some b) none

/-- Stall after a burst of a masked channel (R305): Wedge register 3 for channels 0–3, 4 for channels 4–7, 10 ns units. -/
def wedgeStall (s : State) (c : Nat) : Tick :=
  let w := (s.kiln.wedge[if c < 4 then 3 else 4]?).getD 0
  if bitN w (c % 4) && !inHoldup s then w / 65536 * 2048 / 1000 else 0

/-- A channel that only a stall keeps from its next burst (R305). -/
def dmaStalled (s : State) (c : Nat) : Bool :=
  match (dmaChan s c).run with
  | none => false
  | some r => decide (r.moved < dTotal r.words) && decide (s.clk.now < (dmaChan s c).stallEnd) && !burstBlocked s c r

/-- With no channel ready, the next burst comes when the first stall ends (R305). -/
def stallOver (s : State) : State :=
  if (dmaGrant s).isSome then s
  else match (((List.range 8).filter (dmaStalled s)).map fun c => (dmaChan s c).stallEnd).min? with
    | some t => advanceTo t s
    | none => s

/-- One burst (R304): up to 16 elements or 64 bytes of the granted channel; an uncorrectable source error ends the
descriptor (R302). -/
def execDmaBurst (memError : Bool) (s : State) : Out :=
  let s := stallOver s
  match dmaGrant s with
  | none => .next s
  | some c =>
    match (dmaChan s c).run with
    | none => .next s
    | some r =>
      let lost := s.dma.chans.mapIdx fun i d => if i ≠ c && dmaReady s i then { d with age := d.age + 1 } else d
      let stall := s.clk.now + wedgeStall s c
      let s := { s with dma := { s.dma with chans := lost } }
      if memError then .next (dmaBack c r.index 5 r.moved (setDma c { dmaChan s c with age := 0 } s))
      else
        let (s, r) := dMoveN 16 r s
        .next (setDma c { dmaChan s c with run := some r, age := 0, stallEnd := stall } s)

/-- The read-back of the last element written, and the write-back (R306, R302). -/
def execDmaWriteBack (c : Nat) (faulty : Bool) (s : State) : Out :=
  match (dmaChan s c).run with
  | none => .next s
  | some r =>
    whenever (decide (c < 8) && r.moved == dTotal r.words) s fun s =>
      let same := viewReadList s r.lastAddr r.lastBytes.length == r.lastBytes
      dmaBack c r.index (if same && !faulty then 0 else 4) r.moved s

/-- DSTAT as read (R297). -/
def dstat (d : DmaChan) : Nat :=
  d.lastStatus * 65536 + b2n d.writeOwned * 1024 + b2n d.error * 512 + b2n d.doneEvt * 256 + b2n d.shadow.isSome * 32
    + b2n d.run.isSome * 16 + d.head

def execDmaStatus (r : Req) (s : State) : Out :=
  brixo 0x1100 r s fun s => answer s stOk (s.dma.chans.flatMap fun d =>
    le 4 (dstat d) ++ le 1 (countWhere dOwn d.ring) ++ le 1 d.prio ++ le 1 (min 255 d.age) ++ zeros 1)

/-- DMA_ABORT (R308): refused while the ring's semaphore is held. -/
def execDmaAbort (r : Req) (c : Nat) (s : State) : Out :=
  brixo 0x1101 r s fun s =>
    if 4 ≤ c then refuse s stBadParam
    else if ((s.kiln.sems[1 + c]?).getD {}).owner.isSome then refuse s stBusy
    else
      let (s, n) := dmaAbort c s
      answer s stOk (le 1 n ++ zeros 3)

end Sys2Proof.Machine
end

