-- ==== Sys2Proof/Machine/Hatch.lean ====
section
/-! DEFINITION. The Hatch mailboxes (11): queue ports, ACK FIFOs, packet checks, sequence numbers, placement of replies and
notifications, registers, and Brixo over Ethernet. -/

namespace Sys2Proof.Machine

def setHatch (f : Hatch → Hatch) (s : State) : State := { s with hatch := f s.hatch }

def chanOf (s : State) (c : Nat) : HatchChan := (s.hatch.chans[c]?).getD {}

def setChan (c : Nat) (f : HatchChan → HatchChan) (s : State) : State :=
  setHatch (fun h => { h with chans := modAt h.chans c f }) s

/-- The word a read with a side effect answers (R271). -/
def readAs (w : Nat) (s : State) : State := setHatch (fun h => { h with readWord := w }) s

/-! Host-to-module queue (R273, R278). -/

/-- Words held in the 16-word queue. -/
def inWords (ch : HatchChan) : Nat := ch.part.length + sumN (ch.inbox.map List.length)

/-- Words of the packet whose first two words are given: five in bulk form, else ceil((12 + LEN) / 4) (R277). -/
def packetWords (w0 w1 : Nat) : Nat := if bitN w0 2 then 5 else (12 + w1 % 65536 + 3) / 4

/-- A partly written packet whose final word has arrived becomes visible; an inline one with LEN above 52 keeps its first two
words and has the rest discarded as they arrive (R278). -/
def settle (ch : HatchChan) : HatchChan :=
  match ch.part with
  | w0 :: w1 :: _ =>
    let n := packetWords w0 w1
    if !bitN w0 2 && 52 < w1 % 65536 then
      if ch.part.length = 2 then { ch with skip := n - 2 } else ch
    else if n ≤ ch.part.length then { ch with part := [], inbox := ch.inbox ++ [ch.part] }
    else ch
  | _ => ch

/-- H2M_DATA (R273): a word to a full queue is lost and sets OVERFLOW. -/
def execH2mDataWrite (c word : Nat) (s : State) : Out :=
  whenever (serving s && decide (c < 8)) s fun s =>
    let ch := chanOf s c
    if 0 < ch.skip then
      setChan c (fun ch =>
        if ch.skip = 1 then { ch with skip := 0, part := [], inbox := ch.inbox ++ [ch.part] }
        else { ch with skip := ch.skip - 1 }) s
    else if 16 ≤ inWords ch then
      setHatch (fun h => { h with irqOverflow := true }) (setChan c (fun ch => { ch with overflow := true }) s)
    else setChan c (fun ch => settle { ch with part := ch.part ++ [word % 2 ^ 32] }) s

/-- FLUSH (R273, R278). -/
def execH2mFlush (c : Nat) (s : State) : Out :=
  whenever (serving s) s fun s => setChan c (fun ch => { ch with part := [], skip := 0 }) s

/-- OVERFLOW written 1 (R273). -/
def execH2mOverflowClear (c : Nat) (s : State) : Out :=
  whenever (serving s) s fun s => setChan c (fun ch => { ch with overflow := false }) s

/-- An ACK entry (R274). -/
def ackWord (code seq : Nat) : Nat := 2 ^ 31 + code * 256 + seq

/-- H2M_ACK read: the oldest entry of the FIFO, 0 when it is empty (R273). -/
def execH2mAckRead (c : Nat) (s : State) : Out :=
  whenever (decide (c < 8)) s fun s =>
    if serving s then
      readAs (((chanOf s c).acks.head?).getD 0) (setChan c (fun ch => { ch with acks := ch.acks.drop 1 }) s)
    else readAs 0 s

/-! Packet checks (R278) and sequence numbers (R280). -/

/-- A packet as its words carry it (R276). -/
structure Packet where
  flags : Nat
  chan : Nat
  opcode : Nat
  len : Nat
  seq : Nat

def packetOf (b : List Byte) : Packet :=
  { flags := fieldAt b 0 1, chan := fieldAt b 1 1, opcode := fieldAt b 2 2, len := fieldAt b 4 2, seq := fieldAt b 6 1 }

/-- Bytes covered by the CRC before the payload: the header with byte 7 taken as zero. -/
def crcHead (b : List Byte) : List Byte := b.take 7 ++ [0]

/-- Checks 1 to 6 of R278 on a Hatch queue. -/
def formOk (c : Nat) (b : List Byte) : Bool :=
  let p := packetOf b
  p.flags / 16 == 1 && p.flags % 4 == 0 && p.chan == c && decide (p.len ≤ 4096)
    && bitN p.flags 2 == decide (52 < p.len) && (!bitN p.flags 2 || fieldAt b 8 4 == c * 0x1000)

/-- The payload: inline, or copied out of the channel's bulk slot (R277). -/
def payloadOf (s : State) (c : Nat) (b : List Byte) : List Byte :=
  let p := packetOf b
  if bitN p.flags 2 then padTo p.len (chanOf s c).bulkIn else padTo p.len (b.drop 8)

/-- Check 7 of R278. -/
def crcOk (s : State) (c : Nat) (b : List Byte) : Bool :=
  let p := packetOf b
  let (refb, at') := if bitN p.flags 2 then ((b.drop 8).take 8, 16) else ([], 8 + p.len)
  fieldAt b at' 4 == crc32c (crcHead b ++ refb ++ payloadOf s c b)

def seqState (s : State) (snd : Sender) (c : Nat) : Option SeqState :=
  s.hatch.seqs.find? fun q => q.sender = snd && q.chan = c

/-- The rows of R280. -/
inductive SeqCase where
  | accept
  | inWork
  | again (opcode : Nat) (payload : List Byte)
  | lost
  | other

/-- How R280 handles SEQ q; the first request of a pair is accepted whatever its SEQ. -/
def seqCase (s : State) (snd : Sender) (c q : Nat) : SeqCase :=
  match seqState s snd c with
  | none => .accept
  | some st =>
    if serialNewer 8 q st.high then .accept
    else match st.recent.find? (·.1 = q) with
      | some (_, .waiting) => .inWork
      | some (_, .inline op p) => .again op p
      | some (_, .gone) => .lost
      | none => .other

/-- SEQ q accepted: H and the last 16 (R280), and the command pending (R279). -/
def acceptSeq (snd : Sender) (c q op : Nat) (payload : List Byte) (s : State) : State :=
  let old := ((seqState s snd c).map (·.recent)).getD []
  let others := s.hatch.seqs.filter fun x => !(x.sender = snd && x.chan = c)
  setHatch (fun h => { h with
    seqs := others ++ [⟨snd, c, q, ((q, .waiting) :: old).take 16⟩]
    pending := h.pending ++ [⟨snd, c, q, op, payload⟩] }) s

def pendingN (s : State) (snd : Sender) (c : Nat) : Nat :=
  countWhere (fun p => p.sender = snd && p.chan = c) s.hatch.pending

/-- A reply outside the request's own: BAD_CRC, STALE_SEQUENCE, QUEUE_FULL, or a stored reply again. -/
def extraReply (snd : Sender) (c q op : Nat) (payload : List Byte) (again : Bool) (s : State) : State :=
  let rep : Reply := ⟨snd, c, q, op, payload, again, false, peerOf s snd c q⟩
  if snd = .hostSpi then setHatch (fun h => { h with replies := h.replies ++ [rep] }) s
  else
    let s := setHatch (fun h => { h with sent := h.sent ++ [rep] }) s
    leave snd (inlinePacket c (if again then 9 else 1) op q payload) c q s

/-- A well-formed request meets R280: executed once, or answered again. The steps of R283 that the header alone decides are
taken here; the opcode itself is a command of its own (log entry 42). -/
def takeRequestPkt (snd : Sender) (c q op : Nat) (payload : List Byte) (s : State) : State :=
  match seqCase s snd c q with
  | .accept =>
    let s := acceptSeq snd c q op payload s
    let r : Req := { sender := snd, chan := c, seq := q }
    match precheck s op r with
    | some st => reply r op st [] s
    | none => s
  | .inWork => s
  | .again o p => extraReply snd c q o p true s
  | .lost => extraReply snd c q op (header s stStale) true s
  | .other => extraReply snd c q op (header s stStale) false s

def writeAck (c code q : Nat) (s : State) : State :=
  setChan c (fun ch => { ch with acks := ch.acks ++ [ackWord code q] }) s

/-- The module takes the oldest visible packet of a channel unless its ACK FIFO is full (R278, R279). -/
def execHatchPacketTake (c : Nat) (s : State) : Out :=
  match (chanOf s c).inbox with
  | [] => .next s
  | ws :: rest =>
    whenever (serving s && decide (c < 8) && decide ((chanOf s c).acks.length < 8)) s fun s =>
      let s := setChan c (fun ch => { ch with inbox := rest }) s
      let b := ofWords ws
      let p := packetOf b
      if !formOk c b || !crcOk s c b then
        let s := setHatch (fun h => { h with malformed := satInc 0xFFFFFFFF h.malformed }) (writeAck c 2 p.seq s)
        let s := diagTrigger 8 c s
        if formOk c b then extraReply .hostSpi c p.seq p.opcode (header s stBadCrc) false s else s
      else if 8 ≤ pendingN s .hostSpi c then writeAck c 1 p.seq s
      else takeRequestPkt .hostSpi c p.seq p.opcode (payloadOf s c b) (writeAck c 0 p.seq s)

/-! Module-to-host queue (R273, R287). -/

/-- A packet of the module as queue words (R276, R277): flags, words, and the bulk payload if any; above LEN 52 always in bulk form
(log entry 76). -/
def encodePacket (c flags op q : Nat) (payload : List Byte) : List Nat × Bool :=
  let bulk := decide (52 < payload.length)
  let head := le 1 (16 + flags + (if bulk then 4 else 0)) ++ le 1 c ++ le 2 op ++ le 2 payload.length ++ le 1 q ++ le 1 0
  let refb := if bulk then le 4 (0x8000 + c * 0x1000) ++ zeros 4 else []
  let inl := if bulk then [] else payload
  (toWords 17 (head ++ refb ++ inl ++ le 4 (crc32c (head ++ refb ++ payload))), bulk)

def outWords (ch : HatchChan) : Nat := sumN (ch.outbox.map (·.words.length))

/-- A bulk packet of the channel waits for the host's ACK (R277). -/
def slotBusy (ch : HatchChan) : Bool :=
  ch.outbox.any (·.bulk) || (ch.await.map (·.bulk)).getD false

/-- The packet enters its queue where it fits; a bulk one waits for its slot, which host DMA may also hold (R277, R307). -/
def place (c flags op q : Nat) (payload : List Byte) (isReply : Bool) (s : State) : Option State :=
  let (ws, bulk) := encodePacket c flags op q payload
  let ch := chanOf s c
  if outWords ch + ws.length ≤ 16 && !(bulk && (slotBusy ch || slotTargeted s c)) then
    some (setChan c (fun ch => { ch with
      outbox := ch.outbox ++ [{ words := ws, total := ws.length, seq := q, reply := isReply, bulk := bulk }]
      bulkOut := if bulk then payload else ch.bulkOut }) s)
  else none

/-- The first notification of a channel in the order of R287: by class, then by age. -/
def firstNote (notes : List Note) (c : Nat) (classes : List Nat) : Option Note :=
  classes.findSome? fun k => notes.find? fun n => n.chan = c && n.cls = k

def placeNote (c : Nat) (n : Note) (s : State) : State :=
  match place c 2 n.opcode (chanOf s c).noteSeq n.payload false s with
  | some s => setChan c (fun ch => { ch with noteSeq := (ch.noteSeq + 1) % 256 })
      (setHatch (fun h => { h with notes := h.notes.erase n }) s)
  | none => s

def placeReply (c : Nat) (r : Reply) (s : State) : State :=
  match place c (1 + (if r.again then 8 else 0)) r.opcode r.seq r.payload (r.keep || r.again) s with
  | some s => setHatch (fun h =>
      let h := { h with replies := h.replies.erase r }
      if r.keep then setStored h r.sender c r.seq (storedOf r.opcode r.payload) else h) s
  | none => s

/-- The next packet of a channel enters its queue: class 0 notifications, then replies in order of acceptance, then other
notifications by class and age (R287). -/
def execHatchQueuePlacement (c : Nat) (s : State) : Out :=
  whenever (serving s && decide (c < 8)) s fun s =>
    match firstNote s.hatch.notes c [0] with
    | some n => placeNote c n s
    | none => match s.hatch.replies.find? (·.chan = c) with
      | some r => placeReply c r s
      | none => match firstNote s.hatch.notes c [1, 2, 3] with
        | some n => placeNote c n s
        | none => s

/-- M2H_DATA read (R273). -/
def execM2hDataRead (c : Nat) (s : State) : Out :=
  whenever (decide (c < 8)) s fun s =>
    if !serving s then readAs 0 s
    else match (chanOf s c).outbox with
      | [] => readAs 0 (setChan c (fun ch => { ch with underflow := true }) s)
      | p :: rest =>
        let s := readAs ((p.words.head?).getD 0) s
        if p.words.length ≤ 1 then setChan c (fun ch => { ch with outbox := rest, await := some { p with words := [] } }) s
        else setChan c (fun ch => { ch with outbox := { p with words := p.words.drop 1 } :: rest }) s

/-- M2H_ACK (R274): another SEQ, or VALID 0, is ignored. The host's ACK of a reply ends its command's pending (R279). -/
def execM2hAckWrite (c value : Nat) (s : State) : Out :=
  match (chanOf s c).await with
  | none => .next s
  | some p =>
    whenever (serving s && bitN value 31 && value % 256 == p.seq) s fun s =>
      let s := setChan c (fun ch => { ch with await := none }) s
      if p.reply then setHatch (fun h => unpend h .hostSpi c p.seq) s else s

/-- UNDERFLOW written 1 (R273). -/
def execM2hUnderflowClear (c : Nat) (s : State) : Out :=
  whenever (serving s) s fun s => setChan c (fun ch => { ch with underflow := false }) s

/-! Registers (R271–R273). -/

/-- M2H_PENDING and ACK_PENDING and the event bits (R272). -/
def irqStatus (s : State) : Nat :=
  let h := s.hatch
  packBits (h.chans.map fun ch => !ch.outbox.isEmpty) + 256 * packBits (h.chans.map fun ch => !ch.acks.isEmpty)
    + 65536 * packBits [h.notifyDropped, h.d3Restarted, h.irqOverflow]

/-- HIRQ is low while IRQ_STATUS AND IRQ_MASK is not zero (R272). -/
def hirqLow (s : State) : Bool := irqStatus s &&& s.hatch.irqMask != 0

/-- HATCH_GSTAT (R272). -/
def gstat (s : State) : Nat := s.snap.mode.code * 65536 + s.dom.cause * 256 + b2n s.dom.ready

/-- IRQ_STATUS written (R272). -/
def execIrqStatusClear (value : Nat) (s : State) : Out :=
  whenever (serving s) s fun s => setHatch (fun h => { h with
    notifyDropped := h.notifyDropped && !bitN value 16
    d3Restarted := h.d3Restarted && !bitN value 17
    irqOverflow := h.irqOverflow && !bitN value 18 }) s

/-- A write to a register without behaviour of its own (R271): IRQ_MASK, DSEL of a DMA channel, or one byte of the
host-to-module bulk window; every other address ignores it. -/
def execRegisterWrite (addr value : Nat) (s : State) : Out :=
  whenever (serving s) s fun s =>
    if addr = 0x000C then setHatch (fun h => { h with irqMask := value % 2 ^ 32 }) s
    else if 0x0400 ≤ addr && addr < 0x0500 && addr % 0x40 = 8 then
      if dmaOpen s then
        let c := (addr - 0x0400) / 0x40
        setDma c { dmaChan s c with dsel := value % 16 } s
      else s
    else if 0x10000 ≤ addr && addr < 0x18000 then viewWrite s (bulkBase + (addr - 0x10000)) (BitVec.ofNat 8 value)
    else s

/-- HATCH_STATUS (R294). -/
def execHatchStatus (r : Req) (s : State) : Out :=
  brixo 0x0112 r s fun s => answer s stOk (
    s.hatch.dropped.flatMap (le 4) ++ le 1 s.hatch.notes.length ++ le 1 s.hatch.peak
    ++ (List.range 8).flatMap (fun c => le 1 (pendingN s r.sender c)) ++ zeros 2 ++ le 4 s.hatch.malformed
    ++ le 1 (param s 0x010A) ++ zeros 3)

/-! Brixo over Ethernet (R290). -/

/-- Checks 1 to 6 of R278 for a datagram: one whole inline packet. -/
def datagramOk (b : List Byte) : Bool :=
  let p := packetOf b
  p.flags / 16 == 1 && p.flags % 8 == 0 && decide (p.chan < 8) && decide (p.len ≤ 4096)
    && decide (12 + p.len ≤ b.length) && decide (b.length ≤ (12 + p.len + 3) / 4 * 4)

/-- A whole datagram from port E0 or E1; replies go back to its source (R290). -/
def takeDatagram (snd : Sender) (peer : Nat) (b : List Byte) (s : State) : State :=
  let p := packetOf b
  let s := if snd == .lintel then s else setHatch (fun h => { h with peers := pushRing 64 h.peers (snd, p.chan, p.seq, peer) }) s
  let payload := (b.drop 8).take p.len
  if !datagramOk b then s
  else if fieldAt b (8 + p.len) 4 ≠ crc32c (crcHead b ++ payload) then
    extraReply snd p.chan p.seq p.opcode (header s stBadCrc) false s
  else if 8 ≤ pendingN s snd p.chan then extraReply snd p.chan p.seq p.opcode (header s stQueueFull) false s
  else takeRequestPkt snd p.chan p.seq p.opcode payload s

/-- The source of a datagram is an IPv4 address, written as an IPv4-mapped one above its port. -/
def fromIpv4 (peer : Nat) : Bool := peer / 2 ^ 48 == 0xFFFF

/-- A UDP datagram on SYS.BRIXO_ETH_PORT from a source address and port, or a fragment of one: reassembly holds at most 4 108 bytes (R290).
IPv4 is off while LIN.IPV4_ADDR is 0 (R463). -/
def execBrixoEthDatagram (port peer : Nat) (data : List Byte) (last : Bool) (s : State) : Out :=
  whenever (serving s && decide (port < 2) && bitN (param s 0x010A) port && !(fromIpv4 peer && param s 0x0C09 == 0)) s fun s =>
    let all := s.hatch.ipParts ++ data
    let since := some ((s.hatch.ipSince).getD s.clk.now)
    let s := setHatch (fun h => { h with ipParts := [], ipSince := none }) s
    if 4108 < all.length then s
    else if last then takeDatagram (if port = 0 then .ethE0 else .ethE1) peer all s
    else setHatch (fun h => { h with ipParts := all, ipSince := since }) s

/-- Reassembly not finished within 2 s (R290). -/
def execIpReassemblyTimeout (s : State) : Out :=
  match s.hatch.ipSince with
  | none => .next s
  | some t => .next (setHatch (fun h => { h with ipParts := [], ipSince := none }) (advanceTo (t + Tick.s 2) s))

end Sys2Proof.Machine
end

