-- ==== Sys2Proof/Machine/Limits.lean ====
section
/-! DEFINITION. The limits of the vehicle interface (13): pilot and proximity classification, the terms of I_lim. -/

namespace Sys2Proof.Machine

def setVeh (f : Vehicle → Vehicle) (s : State) : State := { s with veh := f s.veh }

/-! Pilot and proximity states (R314, R317). -/

/-- A band edge with 0.3 V of hysteresis around it, mV: crossed upwards 150 mV above, downwards 150 mV below. -/
def aboveEdge (wasAbove : Bool) (edge hi : Int) : Bool :=
  if wasAbove then decide (edge - 150 ≤ hi) else decide (edge + 150 ≤ hi)

/-- The state code of R314 from the plateaux, mV, and whether the diode is missing. -/
def classifyCp (drive : CpDrive) (cur : Nat) (hi lo : Int) : Nat × Bool :=
  if drive == .stateF then (6, false)
  else
    let known := decide (1 ≤ cur) && decide (cur ≤ 5)
    let up (k : Nat) (edge : Int) : Bool := if known then aboveEdge (decide (cur ≤ k)) edge hi else decide (edge ≤ hi)
    let pwm := drive == .pwm
    let band : Nat := if up 1 10500 then 1 else if up 2 7500 then 2 else if up 3 4500 then 3
      else if up 4 1500 then 4 else if up 5 (-1500) then 5 else 0
    if 2 ≤ band && band ≤ 4 && pwm then
      if lo < -13400 then (0, false) else (band, decide (-10800 < lo))
    else if band = 5 && pwm && !(decide (-1500 ≤ lo) && decide (lo ≤ 1500)) then (0, false)
    else (band, false)

/-- PP_STATE and the cable rating, mA, of a resistance (R317): 0 no cable, 1 valid, 2 latch pressed, 3 invalid. -/
def classifyPp (coding ohm : Nat) : Nat × Nat :=
  if 4500 < ohm then (0, 0)
  else if coding = 2 then
    if 330 ≤ ohm ∧ ohm ≤ 630 then (2, 0) else if 100 ≤ ohm ∧ ohm ≤ 200 then (1, 0) else (3, 0)
  else if 1100 ≤ ohm ∧ ohm ≤ 2460 then (1, 13000)
  else if 400 ≤ ohm ∧ ohm ≤ 936 then (1, 20000)
  else if 164 ≤ ohm ∧ ohm ≤ 308 then (1, 32000)
  else if 80 ≤ ohm ∧ ohm ≤ 140 then (1, 63000)
  else (3, 0)

def ppValid (s : State) : Bool := param s 0x0502 == 0 || s.veh.ppState == 1

/-- A vehicle is connected: state B, C or D (R327). -/
def connected (s : State) : Bool := decide (2 ≤ s.shu.cpState) && decide (s.shu.cpState ≤ 4)

/-- I_PP (R317). -/
def iPp (s : State) : Option Nat := if param s 0x0502 = 1 then some s.veh.ppRating else none

/-! Limits (R322). -/

/-- The smallest of some coded terms, the lowest code among equals. -/
def least (l : List (Nat × Nat)) : Option (Nat × Nat) :=
  l.foldl (fun b t => match b with
    | none => some t
    | some x => if t.2 < x.2 then some t else some x) none

def term (code : Nat) (v : Option Nat) : List (Nat × Nat) := (v.map fun x => (code, x)).toList

/-- A power as a current at the target voltage, mA. -/
def asCurrent (s : State) (watts : Nat) : Option Nat :=
  if s.veh.vTarget = 0 then none else some (watts * 1000000 / s.veh.vTarget)

def pmOnline (s : State) : Nat := countWhere (·.online) (s.veh.pm.take (param s 0x0511))

/-- The terms of the AC minimum, of a discharge when it is active, or of the DC one, with their codes of R335. -/
def limitTerms (s : State) : List (Nat × Nat) :=
  if s.veh.dcService then
    let site := (iSite s).map fun i => i * param s 0x02C0 * 3 / 1000000
    [(1, param s 0x050F)] ++ [(1, pmOnline s * Config.pmCapacity)] ++ term 3 (site.bind (asCurrent s))
      ++ term 5 (s.veh.hostP.bind (asCurrent s)) ++ term 6 s.veh.evI ++ term 8 (asCurrent s (param s 0x0510))
      ++ term 8 (s.veh.evP.bind (asCurrent s))
  else
    [(1, if s.veh.discharge then param s 0x0506 else param s 0x0500)] ++ term 2 (iPp s) ++ term 3 (iSite s)
      ++ term 4 s.adc.iTemp ++ term 5 s.veh.hostI ++ term 6 s.veh.evI

/-- I_LIM and LIMIT_SRC: Shutter's own clamp binds only strictly below every other term. -/
def limitNow (s : State) : Nat × Nat :=
  let clamp := param s (if s.veh.dcService then 0x0602 else 0x0601)
  match least (limitTerms s) with
  | some (c, v) => if clamp < v then (clamp, 7) else (v, c)
  | none => (clamp, 7)

end Sys2Proof.Machine
end

