-- ==== Sys2Proof/Machine/Sharing.lean ====
section
/-! DEFINITION. Site power sharing (20) as the limits drive it: which home tokens the own offer uses, what is wanted, and RECALL. -/

namespace Sys2Proof.Machine

/-- Sharing is on, its configuration valid, and the post past its quarantine: it may trade (R470, R476, R478). -/
def trades (s : State) : Bool :=
  siteLimit s != 0 && !s.lin.shareInvalid && s.lin.quarantine.isNone && ownAddr s != 0 && fabricRuns s

/-- WANT: I_lim without its term I_site, in whole amperes, of a post with a vehicle (R472). -/
def wantTokens (s : State) : Nat :=
  if !connected s then 0
  else
    let clamp := param s (if s.veh.dcService then 0x0602 else 0x0601)
    let terms := (limitTerms s).filter (·.1 != 3)
    divCeil (terms.foldl (fun m t => min m t.2) clamp) 1000

/-- Home tokens held (R470). -/
def heldHome (s : State) : Nat := countWhere (fun h => inPool h.2) s.lin.home

/-- SPARE (R472). -/
def spareTokens (s : State) : Nat := countWhere (fun h => h.2 == .lendable) s.lin.home

/-- Amperes of the own offer, the floor at least. -/
def offerTokens (s : State) : Nat := max (floorTokens s) (if connected s then divCeil s.veh.iLim 1000 else 0)

/-- The own offer uses the first tokens of the pool; a token that leaves it starts its 8 s (R472). -/
def markPlaces (now : Tick) : Nat → List (Nat × TokenPlace) → List (Nat × TokenPlace)
  | _, [] => []
  | n, (t, p) :: rest =>
    if inPool p then
      match n with
      | k + 1 => (t, .offer) :: markPlaces now k rest
      | 0 => (t, if p = .offer then .out now else p) :: markPlaces now 0 rest
    else (t, p) :: markPlaces now n rest

def markOffer (s : State) : State := setLin (fun l => { l with home := markPlaces s.clk.now (offerTokens s) l.home }) s

/-- Up to `n` tokens of the transfers lent are recalled, oldest transfer first: the lendings after it, and what each RECALL names. -/
def recallFrom : Nat → List Lending → List Lending × List Lending
  | _, [] => ([], [])
  | n, l :: rest =>
    if !l.lent || l.recalled || n = 0 then let r := recallFrom n rest; (l :: r.1, r.2)
    else
      let k := min n l.tokens.length
      let part := { l with tokens := l.tokens.take k, recalled := true }
      let r := recallFrom (n - k) rest
      (if k = l.tokens.length then part :: r.1 else part :: { l with tokens := l.tokens.drop k } :: r.1, part :: r.2)

/-- H sends RECALL when its own WANT exceeds its held home tokens (R475); tokens recalled before count as on their way. -/
def recallCheck (s : State) : State :=
  let coming := sumN ((s.lin.lendings.filter (·.recalled)).map (·.tokens.length))
  let lack := wantTokens s - heldHome s - coming
  if trades s && decide (0 < lack) then
    let r := recallFrom lack s.lin.lendings
    r.2.foldl (fun t l => sendToken 9 l.peer l.tokens.length l.xferId (leaseS s * 1000) l.tokens t)
      (setLin (fun l => { l with lendings := r.1 }) s)
  else s

/-- What a new limit means for the tokens. -/
def shareCheck (s : State) : State := if siteLimit s = 0 then s else recallCheck (markOffer s)

end Sys2Proof.Machine
end

