-- ==== Sys2Proof/Machine/Vehicle.lean ====
section
/-! DEFINITION. The vehicle interface (13): Kiln's requests for the pilot and the contactors, authorisation, sessions and the opcodes.
The limits stand in Limits, the message protocols and the DC power stage in VehicleLink. -/

namespace Sys2Proof.Machine

/-- Kiln recomputes the limits (R322): event 12 on a change in a session, and a LIMIT request to Shutter. -/
def updateLimits (s : State) : State :=
  let (v, c) := limitNow s
  let old := s.veh.iLim
  let s := setVeh (fun x => { x with
    iLim := v, limitSrc := c, lastFall := if v < old then some s.clk.now else x.lastFall }) s
  let s := shareCheck s
  if v = old then s
  else
    let s := if sessionOpen s then vehEvent 12 0 s else s
    if s.dom.d1 then askShutter (.limit v s.veh.dcService) s else s

/-! What Kiln asks of Shutter (R313, R315, R316). -/

/-- The duty Kiln wants (R313): 0xFFFF state F, 0 no PWM (log entry 41). -/
def wantedDuty (s : State) : Nat :=
  if s.veh.unavailable && !sessionOpen s then 0xFFFF
  else if !connected s || !ppValid s || s.mode.mode != .service || s.veh.endCause.isSome || s.veh.stopping
      || s.shu.latches != 0 || s.veh.iLim < 6000 then 0
  else match param s 0x0501 with
    | 1 => if s.veh.fallback then 0 else 50
    | _ => dutyOf s.veh.iLim

/-- The duty that Shutter drives, or will drive once it has taken the requests that wait. -/
def dutyOnWay (s : State) : Nat :=
  s.shu.requests.foldl (fun d q => match q with | .pwm v => v | _ => d)
    (match s.shu.cpDrive with | .pwm => s.shu.duty | .stateF => 0xFFFF | .steady => 0)

/-- Kiln wants the contactors closed: state C, an open session, an offer, and under a message protocol PowerDelivery Start or
cable check (R315, R329). -/
def wantsClose (s : State) : Bool :=
  s.shu.cpState == 3 && sessionOpen s && s.veh.endCause.isNone && !s.veh.stopping && decide (6000 ≤ s.veh.iLim)
    && (if s.veh.protocol = 0 then param s 0x0501 != 1 else s.veh.delivery || s.veh.dcPhase == 1 || s.veh.dcPhase == 2)

/-- Kiln places the requests that the present state calls for. Inside the reclaim window it waits (R41). -/
def askPilot (s : State) : State :=
  if !serving s || !s.dom.d1 || s.recl.required || inHoldup s || isStandby s then s
  else
    let d := min (wantedDuty s) 0xFFFF
    let clamp := if d = 0xFFFF then d else min d (dutyOf (param s 0x0601))
    let starts := clamp != 0 && clamp != 0xFFFF && dutyOnWay s == 0
    let s := if dutyOnWay s = clamp then s else askShutter (.pwm clamp) s
    let s := if starts && param s 0x0501 != 2 && !s.veh.slacMatched then
        setVeh (fun x => { x with slacStart := some s.clk.now }) s
      else s
    if wantsClose s && !coilOn s && !s.shu.requests.contains .close then askShutter .close s else s

/-! Sessions (R325–R327). -/

/-- VEH_AUTH_REQUEST for the request pending (R336). -/
def authNotify (q : AuthReq) (s : State) : State :=
  notify 2 0x0509 (le 4 q.id ++ le 1 q.kind ++ le 1 q.ident.length ++ le 1 s.veh.protocol ++ zeros 1 ++ padTo 32 q.ident) s

/-- An identifier becomes the request pending. -/
def pendAuth (kind : Nat) (ident : List Byte) (s : State) : State :=
  let q : AuthReq := ⟨s.veh.nextReq, kind, ident, s.clk.now + Tick.s (param s 0x0507)⟩
  authNotify q (setVeh (fun x => { x with req := some q, nextReq := x.nextReq + 1, authFailed := false }) s)

/-- An identifier that could authorise a session (R325): forwarded, or kept while a request is pending, one for each kind. -/
def forwardAuth (kind : Nat) (ident : List Byte) (s : State) : State :=
  if sessionOpen s || param s 0x0508 == 1 then s
  else if s.veh.req.isNone then pendAuth kind ident s
  else if s.veh.kept.any (·.1 == kind) then s
  else setVeh (fun x => { x with kept := x.kept ++ [(kind, ident)] }) s

/-- The request pending is refused or times out: the next identifier kept is forwarded, else the vehicle is told FAILED. -/
def dropAuth (s : State) : State :=
  let s := setVeh (fun x => { x with req := none }) s
  match s.veh.kept with
  | (k, i) :: rest => pendAuth k i (setVeh (fun x => { x with kept := rest }) s)
  | [] => setVeh (fun x => { x with authFailed := true }) s

/-- R326 cannot hold for the session. -/
def bptImpossible (s : State) : Bool :=
  param s 0x0505 == 0 || param s 0x0200 == 2 || !bitN (param s 0x0503) 2 || param s 0x0501 == 2
    || s.veh.protocol == 1 || s.veh.protocol == 2

/-- The refusals of R327 and R334 of an authorisation, in the order of R334. -/
def authRefusal (s : State) (bpt : Nat) : Option Nat :=
  if s.upd.record.state = 1 then some stTrialRunning
  else if healthyN s ≤ 5 then some stKilnDegraded
  else if disconnected s then some stDisconnected
  else if tamperBlocks s then some stTamperBlocked
  else if creditMode s != 0 && s.bil.credit ≤ creditFloor s then some stCreditExhausted
  else if bpt = 1 && bptImpossible s then some stBptUnavailable
  else if sessionOpen s then some stSessionActive
  else none

/-- A session opens (R327): event 3. -/
def beginSession (kind : Nat) (ident : List Byte) (bpt : Bool) (s : State) : State :=
  let s := openSession kind ident s
  let s := setVeh (fun x => { x with
    authKind := kind, bptAllowed := bpt, endCause := none, stopping := false, stopTold := false, askStop := false, paused := false, transfer := false
    req := none, kept := [], authFailed := false }) s
  askPilot (vehEvent 3 0 s)

/-- A free-vend session opens without a request, once for each plug-in (R325, log entry 41). -/
def freeVend (s : State) : State :=
  if param s 0x0508 == 1 && s.mode.mode == .service && connected s && ppValid s && !s.veh.vended && !s.veh.unavailable
      && !isStandby s && (authRefusal s 0).isNone then
    beginSession 0 [] false (setVeh (fun x => { x with vended := true }) s)
  else s

/-- Energy transfer starts when the enabled feedbacks report closed in a session (event 4, log entry 41). -/
def watchTransfer (s : State) : State :=
  if sessionOpen s && coilOn s && kfbAllClosed s && !s.veh.transfer && s.veh.endCause.isNone && s.veh.dcPhase != 1
      && s.veh.dcPhase != 2 then
    vehEvent 4 0 (setVeh (fun x => { x with transfer := true, paused := false, stopTold := false }) s)
  else s

/-- The offer falls below 6 A during AC transfer: the session is paused (R332). -/
def watchOffer (s : State) : State :=
  if s.veh.transfer && !s.veh.dcService && s.veh.iLim < 6000 && !s.veh.paused then
    vehEvent 5 0 (setVeh (fun x => { x with paused := true, transfer := false }) s)
  else s

/-- Whether a phase exceeds 1.1 × I_lim + 500 mA in the newest window (R323). -/
def overLimit (s : State) : Bool :=
  match s.met.meas with
  | some m => (phasesOn s).any fun x =>
      decide (11 * s.veh.iLim * 100 + 500000 < (m.phases[x]?.map (·.irms)).getD 0)
  | none => false

def watchOverdraw (s : State) : State :=
  let excess := s.veh.transfer && overLimit s
  setVeh (fun x => { x with overSince := if excess then x.overSince.or (some s.clk.now) else none }) s

/-- STOP to the power modules (R328); the spec does not code its cause byte, a free value. -/
def pmStop (s : State) : State :=
  let (i, s) := takeFree s
  setVeh (fun x => { x with
    pmMode := 0, pmI := 0, pmNeg := 0, canSent := [⟨0x080, [Config.freeByte i]⟩], dcPhase := 4, dcEnd := none }) s

/-- A stop of Shutter during a DC session reaches the power stage (R332, R343). -/
def watchDcStop (s : State) : State :=
  if decide (1 ≤ s.veh.dcPhase) && decide (s.veh.dcPhase ≤ 3) && (s.shu.stop.isSome || s.shu.latches != 0) then pmStop s else s

/-- A vehicle is plugged once it is in state B, C or D with PP valid: event 1 (R336, worked example of R327). -/
def watchPlug (s : State) : State :=
  if connected s && ppValid s && !s.veh.plugged then vehEvent 1 0 (setVeh (fun x => { x with plugged := true }) s) else s

/-- The vehicle is gone: protocol state ends (R315, R332); event 2 where event 1 was reported. -/
def unplug (s : State) : State :=
  let s := if sessionOpen s then endSession 1 s else s
  let s := if decide (1 ≤ s.veh.dcPhase) && decide (s.veh.dcPhase ≤ 3) then pmStop s else s
  let was := s.veh.plugged
  let s := setVeh (fun x => { x with
    plugged := false, slacStart := none, slacMatched := false, fallback := false, atten := none, slacAnswered := none
    protocol := 0, tls := false, tcp := false, sessionId := 0, answer := .none, req := none, kept := []
    authFailed := false, vended := false, evI := none, evV := none, evP := none, delivery := false, bptOffered := false
    discharge := false, transfer := false, paused := false, dcService := false, diodeSeen := false }) s
  if was then vehEvent 2 0 s else s

/-- What Kiln does on a new pilot state (R315). -/
def kilnCp (old new : Nat) (s : State) : State :=
  let was := decide (2 ≤ old) && decide (old ≤ 4)
  let s := setVeh (fun x => { x with cpSeen := new }) s
  let s := if s.shu.diodeMissing && !s.veh.diodeSeen then vehEvent 9 0 (setVeh (fun x => { x with diodeSeen := true }) s) else s
  let s := watchPlug s
  let s := if new == 4 && old != 4 then vehEvent 10 0 s else s
  let s := if new == 1 && (was || s.veh.plugged || sessionOpen s) then unplug s
    else if new == 2 && old == 3 && s.veh.transfer then
      askShutter (.openOrderly 0) (vehEvent 5 0 (setVeh (fun x => { x with paused := true, transfer := false }) s))
    else s
  askPilot (freeVend (updateLimits s))

/-- A pilot state that changed while no firmware ran (R315). -/
def watchCp (s : State) : State := if s.shu.cpState = s.veh.cpSeen then s else kilnCp s.veh.cpSeen s.shu.cpState s

/-- The class V task of an epoch (R241): session state and enforced limits. -/
def vehicleEpoch (e : Nat) (s : State) : State :=
  let s := if inHoldup s || isStandby s then s
    else askPilot (freeVend (watchDcStop (watchOverdraw (watchOffer (watchTransfer (updateLimits (watchCp s)))))))
  { s with kiln := { s.kiln with vDone := max s.kiln.vDone e, veh := s.veh } }

/-! Events (R315, R317, R323, R325). -/

/-- CP_STATE_CHANGE (R314): the plateaux of three consistent samples, mV. Shutter times state A and starts the self-test at
state B (R347). -/
def execCpStateChange (hi lo : Int) (s : State) : Out :=
  whenever s.dom.d1 s fun s =>
    let old := s.shu.cpState
    let (new, diode) := classifyCp s.shu.cpDrive old hi lo
    let s := setShu (fun x => { x with
      cpState := new, diodeMissing := diode, stateASince := if new = 1 then x.stateASince.or (some s.clk.now) else none }) s
    let s := if new = 2 && old != 2 then startRcm 2 none s else s
    let s := if old = 1 && new != 1 then wakeSeen 0 s else s
    let s := if new = old then s else { s with mode := { s.mode with idleSince := s.clk.now } }
    if serving s && !inHoldup s && !isStandby s then kilnCp s.veh.cpSeen new s else s

/-- PP_STATE_CHANGE (R317): three consistent readings, Ω; 0xFFFF above 4.5 kΩ. -/
def execPpStateChange (ohm : Nat) (s : State) : Out :=
  let coding := param s 0x0502
  whenever (serving s && !inHoldup s && !isStandby s && coding != 0) s fun s =>
    let old := s.veh.ppState
    let (new, rating) := classifyPp coding ohm
    let moving := s.veh.transfer
    let s := setVeh (fun x => { x with
      ppState := new, ppRating := rating, ppOhm := if 4500 < ohm then 0xFFFF else ohm }) s
    let s := if new = old then s
      else if new = 0 then
        let s := if moving then askShutter (if coding = 1 then .openNow 0 else .openOrderly 0) s else s
        let s := setVeh (fun x => { x with transfer := false }) (endSession 1 s)
        if moving then vehEvent 2 0 (setVeh (fun x => { x with plugged := false }) s) else s
      else if new = 3 && moving && coding = 1 then
        askShutter (.openNow 0) (setVeh (fun x => { x with transfer := false }) (endSession 3 s))
      else if new = 2 && moving then askShutter (.openOrderly 0) s
      else s
    askPilot (freeVend (updateLimits (watchPlug s)))

/-- AUTH_TIMEOUT (R325). -/
def execAuthTimeout (s : State) : Out :=
  match s.veh.req with
  | none => .next s
  | some q => whenever (serving s) s fun s => dropAuth (advanceTo q.deadline s)

/-- OVERDRAW (R323). -/
def execOverdraw (s : State) : Out :=
  match s.veh.overSince with
  | none => .next s
  | some t =>
    let due := t + Tick.s (param s 0x050B)
    let grace := match s.veh.lastFall with | some f => decide (f + Tick.s 5 < max due s.clk.now) | none => true
    whenever (serving s && grace && s.veh.transfer && sessionOpen s) s fun s =>
      let s := setVeh (fun x => { x with overSince := none }) (advanceTo due s)
      askShutter (.openOrderly 0) (vehEvent 11 0 (endSession 3 s))

/-- The session closes with its statement (R327): event 7. -/
def endOfSession (cause e : Nat) (s : State) : State :=
  let s := vehEvent 7 cause (closeSession cause e s)
  askPilot (setVeh (fun x => { x with
    endCause := none, endAt := 0, stopping := false, stopTold := false, askStop := false, paused := false, transfer := false, authKind := 0, bptAllowed := false
    bptOffered := false, discharge := false, delivery := false
    dcPhase := if x.dcPhase = 0 then 0 else 5, pmMode := 0, pmI := 0, pmNeg := 0, dcEnd := none }) s)

/-- SESSION_CLOSE (R227, R327): attribution has passed the closing epoch. -/
def execSessionClose (s : State) : Out :=
  match s.veh.endCause, closingEpoch s with
  | some c, some e =>
    whenever (serving s && sessionOpen s && lDone e s && !closeStands s e) s (endOfSession c e)
  | _, _ => .next s

/-! Opcodes (R334–R336). -/

/-- SESSION of VEH_STATUS. -/
def sessionCode (s : State) : Nat :=
  if !sessionOpen s then (if s.veh.req.isSome then 1 else 0)
  else if s.veh.stopping || s.veh.endCause.isSome then 5 else if s.veh.transfer then 3 else if s.veh.paused then 4 else 2

/-- The fields of VEH_STATUS (R334). -/
def vehBody (s : State) : List Byte :=
  let v := s.veh
  le 1 (s.snap.state.cp % 8) ++ le 1 (if param s 0x0502 = 0 then 1 else v.ppState) ++ leI 2 v.cpHi ++ leI 2 v.cpLo
    ++ le 2 v.ppOhm ++ le 1 (sessionCode s) ++ le 1 v.protocol ++ le 1 v.authKind
    ++ le 1 (packBits [v.tls, v.bptOffered, v.discharge, v.unavailable, v.slacMatched, v.diodeSeen])
    ++ le 8 ((s.bil.session.map (·.startEpoch)).getD 0) ++ le 4 ((v.req.map (·.id)).getD 0) ++ le 4 v.iLim
    ++ le 1 v.limitSrc ++ zeros 3 ++ le 4 (v.hostI.getD 0xFFFFFFFF) ++ le 4 ((iSite s).getD 0) ++ le 4 (v.evI.getD 0)
    ++ le 4 v.vTarget ++ leI 4 v.iTarget ++ le 4 v.rIso ++ le 1 (packBits (v.pm.map (·.online))) ++ le 1 v.dcPhase
    ++ zeros 2

def execVehStatus (r : Req) (s : State) : Out := brixo 0x0500 r s fun s => answer s stOk (vehBody (asOf s))

/-- Modes in which vehicle opcodes that change state run (R334); a STANDBY refuses them (R484). -/
def vehGate (s : State) : Option Nat :=
  if s.mode.mode == .holdup || s.mode.mode == .recovery then some stWrongMode
  else if isStandby s then some stNotActive else none

def execVehAuthorise (r : Req) (reqId decision bpt : Nat) (s : State) : Out :=
  brixo 0x0501 r s fun s =>
    if 1 < decision || 1 < bpt then refuse s stBadParam
    else match vehGate s with
      | some st => refuse s st
      | none =>
        let pending := (s.veh.req.map (·.id)).getD 0
        if decision = 0 then
          if pending != 0 && reqId == pending then answer (dropAuth s) stOk (le 8 0) else refuse s stNoRequest
        else if s.mode.mode != .service then refuse s stWrongMode
        else if !connected s || !ppValid s then refuse s stNoVehicle
        else if reqId != 0 && reqId != pending then refuse s stNoRequest
        else match authRefusal s bpt with
          | some st => refuse s st
          | none =>
            let q := if reqId = 0 then none else s.veh.req
            let kind := match q with | some x => x.kind | none => 3
            let s := beginSession kind ((q.map (·.ident)).getD []) (bpt == 1) s
            answer s stOk (le 8 ((s.bil.session.map (·.startEpoch)).getD 0))

/-- A host current above a static limit (R324). -/
def aboveStatic (s : State) (mA : Nat) : Bool :=
  decide (param s 0x0500 < mA) || (match iPp s with | some p => decide (p < mA) | none => false)

def execVehLimitsSet (r : Req) (iMax pMax n : Nat) (entries : List (Nat × Nat)) (s : State) : Out :=
  brixo 0x0502 r s fun s =>
    match vehGate s with
    | some st => refuse s st
    | none =>
      if 24 < n || entries.length != n then refuse s stBadParam
      else if (iMax != 0xFFFFFFFF && aboveStatic s iMax) || (pMax != 0xFFFFFFFF && decide (param s 0x0510 < pMax))
          || entries.any (fun e => decide (param s 0x0510 < e.2)) then refuse s stLimitExceeded
      else
        let opt (v : Nat) : Option Nat := if v = 0xFFFFFFFF then none else some v
        answer (setVeh (fun x => { x with
          hostI := opt iMax, hostP := opt pMax, schedule := entries, scheduleFrom := s.clk.epoch }) s) stOk
          (le 8 (s.clk.epoch + 1))

def execVehStop (r : Req) (reason : Nat) (s : State) : Out :=
  brixo 0x0503 r s fun s =>
    match vehGate s with
    | some st => refuse s st
    | none =>
      if reason != 1 && reason != 2 then refuse s stBadParam
      else if !connected s && !sessionOpen s then refuse s stNoVehicle
      else if sessionOpen s then
        let s := stopBegun (endSession (if reason = 1 then 1 else 6) s)
        let s := setVeh (fun x => { x with askStop := x.askStop || (reason == 1 && x.protocol != 0) }) s
        answer (askPilot (askShutter (.openOrderly 0) s)) stOk
      else answer s stOk

def execVehAvailability (r : Req) (state : Nat) (s : State) : Out :=
  brixo 0x0504 r s fun s =>
    match vehGate s with
    | some st => refuse s st
    | none =>
      if 1 < state then refuse s stBadParam
      else
        let later_ := state == 1 && sessionOpen s
        answer (askPilot (setVeh (fun x => { x with unavailable := state == 1 }) s)) stOk (le 1 (b2n later_))

/-- VEH_CERT_LOAD: the certificates of a well-formed sequence; whether the lengths add up is an operand of the request. -/
def execVehCertLoad (r : Req) (what : Nat) (certs : List (List Byte)) (s : State) : Out :=
  brixo 0x0505 r s fun s =>
    match vehGate s with
    | some st => refuse s st
    | none =>
      if what = 0 || 4 < what then refuse s stBadParam
      else if !Config.certsValid what certs then refuse s stCertInvalid
      else if !Config.certsFit s.veh.certs certs then refuse s stExhausted
      else answer (setVeh (fun x => { x with certs := x.certs.set (what - 1) certs }) s) stOk (le 1 certs.length)

def execVehRelayAnswer (r : Req) (relayId : Nat) (body : List Byte) (s : State) : Out :=
  brixo 0x0506 r s fun s =>
    match vehGate s with
    | some st => refuse s st
    | none =>
      if s.veh.relay = some relayId then
        answer (setVeh (fun x => { x with relay := none, relayBody := body, answer := .ok }) s) stOk
      else refuse s stNoRequest

end Sys2Proof.Machine
end

