-- ==== Sys2Proof/Machine/Contactless.lean ====
section
/-! DEFINITION. The card reader and the Letterbox (17): poll cycles and forwarding, field commands, wired pages, Brixo through
the tag, and the summary. -/

namespace Sys2Proof.Machine

def setCon (f : Contactless → Contactless) (s : State) : State := { s with con := f s.con }

/-! Reader (R411–R415). -/

/-- READER: 0 off, 1 polling, 2 low-power detection (R412). -/
def readerState (s : State) : Nat :=
  if !serving s || param s 0x0900 = 0 then 0
  else match s.mode.mode with
    | .commission | .service => 1
    | .watch => 2
    | _ => 0

/-- An identifier of an enabled technology that is not the module's own Letterbox (R411, R412). -/
def readable (s : State) (i : List Byte) : Bool :=
  let n := i.length - 1
  match i.head? with
  | some 0x0A#8 => bitN (param s 0x0900) 0 && (n == 4 || n == 7 || n == 10)
  | some 0x0B#8 => bitN (param s 0x0900) 1 && n == 4
  | some 0x15#8 => bitN (param s 0x0900) 2 && n == 8 && i.tail != le 8 s.con.uid
  | _ => false

/-- The bits of bytes in the order they go on the air, the first one most significant. -/
def airBits (l : List Byte) : Nat := l.foldl (fun a b => a * 256 + b.reverse.toNat) 0

/-- The bytes that the cascade levels of a Type A UID return, the cascade tag 0x88 first where a level does not complete it. -/
def cascade (uid : List Byte) : List Byte :=
  match uid.length with
  | 7 => 0x88#8 :: uid
  | 10 => 0x88#8 :: uid.take 3 ++ 0x88#8 :: uid.drop 3
  | _ => uid

/-- The rank of a Type A card: at each collision the 1 branch comes first (R413). -/
def rankA (i : List Byte) : Nat := airBits (padTo 12 (cascade i.tail))

/-- The rank of an ISO/IEC 15693 card among those in the field: slots without a collision in their order, then the collided slots,
the higher one first, each by its next bits, 1 first (R413, log entry 44). -/
def rankV (all : List (List Byte)) (i : List Byte) : Nat :=
  let slot (x : List Byte) : Nat := ofLe x.tail % 16
  if countWhere (fun x => slot x == slot i) all ≤ 1 then 2 ^ 80 + 2 ^ 64 * (15 - slot i)
  else 2 ^ 64 * slot i + airBits (le 8 (ofLe i.tail / 16))

/-- A card placed among others by descending rank. -/
def insertCard (rank : List Byte → Nat) (i : List Byte) : List (List Byte) → List (List Byte)
  | [] => [i]
  | x :: l => if rank x < rank i then i :: x :: l else x :: insertCard rank i l

def byRank (rank : List Byte → Nat) (l : List (List Byte)) : List (List Byte) := l.foldl (fun acc i => insertCard rank i acc) []

/-- The cards in the order of their selection: Type A, Type B in the slots they chose, ISO/IEC 15693; at most 8 (R412, R413). -/
def selected (s : State) (inField : List (List Byte)) : List (List Byte) :=
  let l := (inField.filter (readable s)).eraseDups
  let tech (t : Byte) : List (List Byte) := l.filter (·.head? == some t)
  let v := tech 0x15#8
  (byRank rankA (tech 0x0A#8) ++ tech 0x0B#8 ++ byRank (rankV v) v).take 8

/-- On the local list (R415). -/
def listed (s : State) (i : List Byte) : Bool :=
  match s.con.list with
  | none => false
  | some l => l.entries.contains (padTo 8 (Config.sha256 i))

/-- A card counts as authorising (R414). -/
def authorising (s : State) (i : List Byte) : Bool := s.con.list.isNone || listed s i

/-- CON_CARD_EVENT (R427). -/
def cardEvent (event : Nat) (i : List Byte) (s : State) : State :=
  notify 2 0x0908 (le 1 event ++ le 1 s.con.cards.length ++ le 1 i.length ++ le 1 (b2n (listed s i)) ++ padTo 11 i
    ++ zeros 1) s

/-- The single authorising card that R414 forwards. -/
def forwardCard (s : State) : State :=
  match s.con.cards.filter (fun c => authorising s c.ident) with
  | [c] =>
    let s := setCon (fun x => { x with blocked := false }) s
    if c.forwarded || isStandby s then s
    else
      let s := setCon (fun x => { x with
        cards := x.cards.map fun k => if k.ident = c.ident then { k with forwarded := true } else k }) s
      forwardAuth 1 c.ident (cardEvent 4 c.ident s)
  | _ :: _ :: _ =>
    if s.con.blocked then s else cardEvent 3 [] (setCon (fun x => { x with blocked := true }) s)
  | [] => setCon (fun x => { x with blocked := false }) s

/-- A cycle of the reader, no earlier than its period after the last one (R412). -/
def pollSlot (period : Tick) (s : State) : State :=
  let s := advanceTo s.con.pollAt s
  setCon (fun x => { x with pollAt := s.clk.now + period }) s

/-- One poll cycle (R412, R414) with the cards in the field: Type B cards in the order of the slots they choose. -/
def execPollCycle (inField : List (List Byte)) (s : State) : Out :=
  whenever (readerState s == 1) s fun s =>
    let s := pollSlot (Tick.ms (param s 0x0901)) s
    let seen := selected s inField
    let old := s.con.cards.map fun c =>
      if seen.contains c.ident then { c with missed := 0 } else { c with missed := c.missed + 1 }
    let gone := old.filter (2 ≤ ·.missed)
    let fresh := seen.filter fun i => !s.con.cards.any (·.ident == i)
    let s := setCon (fun x => { x with
      cards := old.filter (·.missed < 2) ++ fresh.map fun i => ⟨i, 0, false⟩
      tooMany := decide (8 ≤ seen.length) }) s
    let s := fresh.foldl (fun s i => cardEvent 1 i s) s
    let s := gone.foldl (fun s c => cardEvent 2 c.ident s) s
    forwardCard s

/-- LOW_POWER_DETECT_PULSE (R412): an amplitude change above 3 %, in 0.1 %, is the card wake source. -/
def execLowPowerDetectPulse (change : Nat) (s : State) : Out :=
  whenever (readerState s == 2) s fun s =>
    let s := pollSlot (Tick.ms 300) s
    if 30 < change then wakeSeen 1 s else s

def execConStatus (r : Req) (s : State) : Out :=
  brixo 0x0900 r s fun s =>
    let head := le 1 s.con.config.state ++ le 1 s.con.config.attempts ++ le 1 (b2n s.con.field) ++ le 1 (readerState s)
    let cards := (s.con.cards.take 8).flatMap fun c =>
      le 1 c.ident.length ++ le 1 (b2n (listed s c.ident)) ++ zeros 2 ++ padTo 11 c.ident ++ zeros 1
    let rest := le 8 s.con.uid ++ le 1 (min 8 s.con.cards.length)
      ++ le 1 (packBits [s.con.tooMany, s.con.list.isSome, s.con.blocked])
      ++ le 2 ((s.con.list.map (·.entries.length)).getD 0) ++ padTo 128 cards
    answer s stOk (if r.sender = .letterbox then head ++ zeros 140 else head ++ rest)

/-- CON_TUNE (R410): the current and phase measured between two poll cycles. -/
def execConTune (r : Req) (iAnt : Nat) (phase : Int) (s : State) : Out :=
  brixo 0x0901 r s fun s =>
    if readerState s = 0 then refuse s stReaderDisabled
    else answer (setCon (fun x => { x with iAnt := iAnt, phase := phase }) s) stOk (le 2 iAnt ++ leI 2 phase)

/-- Byte strings in strictly ascending order, as numbers with the first byte most significant. -/
def ascending : List (List Byte) → Bool
  | a :: b :: l => decide (ofLe a.reverse < ofLe b.reverse) && ascending (b :: l)
  | _ => true

/-- CON_LIST_LOAD (R415, R427). -/
def execConListLoad (r : Req) (object : List Byte) (s : State) : Out :=
  brixo 0x0902 r s fun s =>
    let n := fieldAt object 2 2
    let es := (List.range n).map fun k => padTo 8 (object.drop (4 + 8 * k))
    if object.length ≠ 8 + 8 * n then refuse s stBadLength
    else if !crcAt object (4 + 8 * n) then refuse s stIntegrity
    else if 500 < n || !ascending es then refuse s stBadParam
    else answer (setCon (fun x => { x with list := some ⟨fieldAt object 0 2, es⟩ }) s) stOk

/-! Wired side (R417, R426, R427). -/

def execConLbRead (r : Req) (page : Nat) (available : Bool) (s : State) : Out :=
  brixo 0x0903 r s fun s =>
    if 14 < page then refuse s stBadParam
    else if !available then refuse s stLbUnavailable
    else answer s stOk (le 1 page ++ zeros 1 ++ le 2 (pageGen s page) ++ pageData s page)

def conGate (s : State) : Bool := s.mode.mode == .holdup || s.mode.mode == .recovery

def execConLbWrite (r : Req) (page : Nat) (data : List Byte) (available : Bool) (s : State) : Out :=
  brixo 0x0904 r s fun s =>
    if conGate s then refuse s stWrongMode
    else if page < 6 || 11 < page then refuse s stPageNotWritable
    else if !available then refuse s stLbUnavailable
    else
      let s := pageWrite page data s
      answer s stOk (le 2 (pageGen s page))

/-- CON_LB_CONFIG (R419). -/
def execConLbConfig (r : Req) (action readPw writePw : Nat) (available : Bool) (s : State) : Out :=
  brixo 0x0905 r s fun s =>
    let n := param s 0x0904
    let next : Option LbConfig :=
      match action with
      | 1 => if readPw = 0 ∨ writePw = 0 then none else some ⟨1, readPw, writePw, n⟩
      | 2 => some ⟨0, 0, 0, n⟩
      | 3 => some { s.con.config with
          state := if s.con.config.state = 2 then 1 else s.con.config.state, attempts := n }
      | _ => none
    if conGate s then refuse s stWrongMode
    else match next with
      | none => refuse s stBadParam
      | some c =>
        if !available then refuse s stLbUnavailable
        else answer (setCon (fun x => { x with config := c }) s) stOk (le 1 c.state ++ le 1 c.attempts)

/-! Field side (R416–R419, R422). The answer of the tag stands in `answer`. -/

def rfAnswer (a : RfAnswer) (s : State) : State := setCon (fun x => { x with answer := a, field := true }) s

/-- A command reaches the tag: 0 not addressed, 1 addressed with its UID, 2 with the select flag, 3 another UID (the tag
states of ISO/IEC 15693-3; log entry 44). -/
def reaches (s : State) (dest : Nat) : Bool :=
  match dest with
  | 0 => s.con.rf != 1
  | 1 => true
  | 2 => s.con.rf == 2
  | _ => false

/-- A field command that reaches the tag; otherwise no answer. -/
def fieldCmd (dest : Nat) (s : State) (f : State → State) : Out :=
  .next (if reaches s dest then f s else rfAnswer .none s)

/-- INVENTORY: a tag that is not quiet answers a mask its UID matches with DSFID and UID; the DSFID is a free value. -/
def execInventory (maskLen mask : Nat) (s : State) : Out :=
  if s.con.rf ≠ 1 ∧ s.con.uid % 2 ^ maskLen = mask then
    let (i, s) := takeFree s
    .next (rfAnswer (.ok (Config.freeByte i :: le 8 s.con.uid)) s)
  else .next (rfAnswer .none s)

def execStayQuiet (dest : Nat) (s : State) : Out :=
  .next (rfAnswer .none (if dest = 1 then setCon (fun x => { x with rf := 1 }) s else s))

def execSelect (dest : Nat) (s : State) : Out :=
  .next (if dest = 1 then rfAnswer (.ok []) (setCon (fun x => { x with rf := 2 }) s)
    else rfAnswer .none (setCon (fun x => { x with rf := if x.rf = 2 then 0 else x.rf }) s))

def execResetToReady (dest : Nat) (s : State) : Out :=
  fieldCmd (if dest = 0 then 1 else dest) s fun s => rfAnswer (.ok []) (setCon (fun x => { x with rf := 0 }) s)

/-- GET SYSTEM INFORMATION: UID, number of blocks less one, block size less one. -/
def execGetSystemInformation (dest : Nat) (s : State) : Out :=
  fieldCmd dest s (fun s => rfAnswer (.ok (le 8 s.con.uid ++ le 2 959 ++ le 1 3)) s)

/-- The field may read a page (R417, R419). -/
def fieldReads (s : State) (p : Nat) : Bool :=
  decide (p < 6) || p == 15 || s.con.config.state == 0 || (s.con.config.state == 1 && bitN s.con.auth 0)

/-- The field may write a page (R417, R419). -/
def fieldWrites (s : State) (p : Nat) : Bool :=
  (p == 12 || p == 14) && (s.con.config.state == 0 || (s.con.config.state == 1 && bitN s.con.auth 1))

/-- The status page as built when read (R418). -/
def statusPage (s : State) : List Byte :=
  padTo 240 ((List.range 15).flatMap (fun p => le 2 (pageGen s p)) ++ le 2 0
    ++ le 1 s.con.config.state ++ le 1 s.con.config.attempts ++ le 1 s.con.auth
    ++ le 1 (packBits [s.pwr.rails, serving s]) ++ le 8 s.ident.moduleId ++ le 8 s.con.summaryEpoch)

/-- Four bytes of a block. -/
def blockData (s : State) (b : Nat) : List Byte :=
  ((if b / 60 = 15 then statusPage s else pageData s (b / 60)).drop (4 * (b % 60))).take 4

/-- A field read of blocks: 0x12 without the password, 0x10 for a block the tag does not have (log entry 44). -/
def readBlocks (first n : Nat) (s : State) : State :=
  if 960 < first + n ∨ n = 0 then rfAnswer (.error 0x10) s
  else if (List.range n).any fun k => !fieldReads s ((first + k) / 60) then rfAnswer (.error 0x12) s
  else rfAnswer (.ok ((List.range n).flatMap fun k => blockData s (first + k))) s

def execReadSingleBlock (dest block : Nat) (s : State) : Out := fieldCmd dest s (readBlocks block 1)

def execReadMultipleBlocks (dest block n : Nat) (s : State) : Out := fieldCmd dest s (readBlocks block n)

/-- The field is gone (R419). -/
def fieldGone (s : State) : State := setCon (fun x => { x with auth := 0, field := false, rf := 0 }) s

/-- A password presented at block 957 (read) or 958 (write) (R419): `cut` means the field collapses before the response. -/
def present (bit value : Nat) (cut : Bool) (s : State) : State :=
  let c := s.con.config
  let s := if c.state = 2 then rfAnswer (.error 0x0F) s
    else if value = (if bit = 0 then c.readPw else c.writePw) then
      rfAnswer (.ok []) (setCon (fun x => { x with
        auth := x.auth ||| 2 ^ bit, config := { c with attempts := param s 0x0904 } }) s)
    else
      let left := c.attempts - 1
      let s := setCon (fun x => { x with config := { c with attempts := left, state := if left = 0 then 2 else c.state } }) s
      let s := rfAnswer (.error 0x0F) (lbEvent 2 0xFF s)
      if left = 0 then lbEvent 3 0xFF s else s
  if cut then fieldGone (rfAnswer .none s) else s

/-- A field write of blocks within one page (R422). `fate`: 0 whole; 1 the field collapses in step 1 or 2; 2 in step 3 or 4;
3 after step 4; 4 the field is below 0.3 A/m. -/
def writeBlocks (first : Nat) (data : List Byte) (fate : Nat) (s : State) : State :=
  let n := data.length / 4
  let p := first / 60
  if n = 1 ∧ (first = 957 ∨ first = 958) then
    if fate = 4 then rfAnswer (.error 0x13) s
    else if fate = 1 then fieldGone (rfAnswer .none s)
    else present (first - 957) (ofLe data) (fate != 0) s
  else if n = 0 ∨ p ≠ (first + n - 1) / 60 ∨ !fieldWrites s p then rfAnswer (.error 0x12) s
  else if fate = 4 then rfAnswer (.error 0x13) s
  else if fate = 1 then fieldGone (rfAnswer .none s)
  else if fate = 2 then fieldGone (rfAnswer .none (pageTorn p s))
  else
    let o := 4 * (first % 60)
    let old := pageData s p
    let s := lbEvent 1 p (pageWrite p (old.take o ++ data.take (4 * n) ++ old.drop (o + 4 * n)) s)
    if fate = 3 then fieldGone (rfAnswer .none s) else rfAnswer (.ok []) s

def execWriteSingleBlock (dest block : Nat) (data : List Byte) (fate : Nat) (s : State) : Out :=
  fieldCmd dest s (writeBlocks block (padTo 4 data) fate)

def execWriteMultipleBlocks (dest block : Nat) (data : List Byte) (fate : Nat) (s : State) : Out :=
  fieldCmd dest s (writeBlocks block data fate)

/-- LOCK BLOCK, AFI, DSFID and security commands (R416). -/
def execLbUnsupportedCommand (dest : Nat) (s : State) : Out := fieldCmd dest s (rfAnswer (.error 0x0F))

def execLbFieldDrop (s : State) : Out := .next (fieldGone s)

/-- A request committed to page 14 while D3 runs (R423): one whole inline packet of channel 0 with LEN at most 228. Its opcode
executes as its own command, with SENDER LETTERBOX. -/
def execLbBrixoRequest (s : State) : Out :=
  whenever (serving s && serialNewer 16 (pageGen s 14) s.con.baseline) s fun s =>
    let s := setCon (fun x => { x with baseline := pageGen s 14 }) s
    let b := pageData s 14
    let p := packetOf b
    let payload := (b.drop 8).take p.len
    if p.flags / 16 ≠ 1 || p.flags % 8 ≠ 0 || p.chan ≠ 0 || 228 < p.len then s
    else if fieldAt b (8 + p.len) 4 ≠ crc32c (crcHead b ++ payload) then
      extraReply .letterbox 0 p.seq p.opcode (header s stBadCrc) false s
    else if 8 ≤ pendingN s .letterbox 0 then extraReply .letterbox 0 p.seq p.opcode (header s stQueueFull) false s
    else takeRequestPkt .letterbox 0 p.seq p.opcode payload s

/-! The summary (R420, R421). -/

/-- Bytes of an ASCII text. -/
def ascii (t : String) : List Byte := t.toList.map fun c => BitVec.ofNat 8 c.toNat

/-- `n` digits of a number in a base, most significant first. -/
def digitsN : Nat → Nat → Nat → List Byte
  | 0, _, _ => []
  | n + 1, base, v =>
    let d := v / base ^ n % base
    BitVec.ofNat 8 (if d < 10 then 48 + d else 55 + d) :: digitsN n base v

/-- Decimal digits without leading zeros, for numbers below 10^25. -/
def decimal (v : Nat) : List Byte :=
  let l := (digitsN 25 10 v).dropWhile (· == 48#8)
  if l.isEmpty then [48#8] else l

/-- Energy in kWh with three decimals, from mWh, rounded down. -/
def kWh (mWh : Nat) : List Byte := decimal (mWh / 1000000) ++ ascii "." ++ digitsN 3 10 (mWh / 1000 % 1000)

/-- A civil time as 2031-06-15T12:00:00Z. -/
def isoTime (t : Int) : List Byte :=
  let (y, m, d) := dateOf (t / 86400)
  let sec := (t % 86400).toNat
  digitsN 4 10 y.toNat ++ ascii "-" ++ digitsN 2 10 m ++ ascii "-" ++ digitsN 2 10 d ++ ascii "T"
    ++ digitsN 2 10 (sec / 3600) ++ ascii ":" ++ digitsN 2 10 (sec / 60 % 60) ++ ascii ":" ++ digitsN 2 10 (sec % 60) ++ ascii "Z"

/-- A cumulative register of the snapshot in its unit. -/
def cumReg (s : State) (n : Nat) : Nat := (s.snap.fine[n]?).getD 0 / (1000 * 2 ^ 65)

/-- The 324-byte summary record (R420). -/
def summaryRecord (s : State) : List Byte :=
  let v := lrVersionOf s
  let newest := ((s.led.readings.filter (·.signature.isSome)).getLast?).map (Reading.bytes s.ident.moduleId)
  withCrc (le 1 1 ++ le 1 s.snap.mode.code ++ le 1 s.sag.lifecycle.code
    ++ le 1 (packBits [inHoldup s, bitN s.snap.flags 7, s.sag.tamperActive != 0, s.shu.latches != 0, s.con.summaryUnclean])
    ++ zeros 4 ++ le 8 s.ident.moduleId ++ le 8 s.snap.epoch ++ leI 8 s.snap.civilS
    ++ [6, 7, 32, 33].flatMap (fun n => le 8 (cumReg s n))
    ++ leI 8 (if creditMode s = 0 then 0 else s.snap.groups.bil.credit) ++ le 1 (creditMode s) ++ zeros 3
    ++ le 4 s.snap.state.shuFaults ++ le 4 (s.bil.nextStmt - 1) ++ le 1 v.1 ++ le 1 v.2.1 ++ le 1 v.2.2 ++ zeros 1
    ++ padTo 4 s.cal.lrHash ++ le 4 (calCount s) ++ le 4 s.mode.powerCycles ++ zeros 28 ++ padTo 192 (newest.getD []))

/-- A big-endian field of the NFC Forum structures. -/
def be (n v : Nat) : List Byte := (le n v).reverse

/-- The 1 440 bytes of pages 0–5: capability container, NDEF TLV with a Text and a MIME record, terminator (R420). -/
def summaryPages (s : State) : List Byte :=
  let text := ascii "JC-4144 SN " ++ digitsN 16 16 s.ident.moduleId ++ ascii " E+ " ++ kWh (cumReg s 6) ++ ascii " kWh E- "
    ++ kWh (cumReg s 7) ++ ascii " kWh " ++ isoTime s.snap.civilS ++ ascii " EPOCH " ++ decimal s.snap.epoch
  let r1 := be 1 0x91 ++ be 1 1 ++ be 1 (text.length + 3) ++ ascii "T" ++ be 1 2 ++ ascii "en" ++ text
  let mime := ascii "application/vnd.nyhilu.jelum-summary"
  let rec2 := summaryRecord s
  let r2 := be 1 0x42 ++ be 1 mime.length ++ be 4 rec2.length ++ mime ++ rec2
  padTo 1440 (be 8 0xE2400001000000B3 ++ be 1 3 ++ be 1 0xFF ++ be 2 (r1.length + r2.length) ++ r1 ++ r2 ++ be 1 0xFE)

/-- The newest multiple of CON.LB_SUMMARY_PERIOD on the UTC minute grid; none where the period is 0. -/
def summaryGrid (s : State) : Option Int :=
  let p := param s 0x0903
  if p = 0 then none else some (s.snap.civilS / (60 * (p : Int)) * p)

/-- A summary is due: at a session close or billing close, past a multiple of the period, for a set that a failed supply cut
short, and in HOLDUP at its step (R46, R421). -/
def summaryCalled (s : State) : Bool :=
  if inHoldup s then s.hold.stage == .letterbox
  else s.con.summaryDue || (List.range 6).any (fun p => pageGen s p != pageGen s 0)
    || (match summaryGrid s, s.con.summaryMin with
        | some m, some l => decide (l < m)
        | some _, none => true
        | none, _ => false)

/-- The first `n` of pages 0–5 written in ascending order (R421); a failed supply may cut the set short. -/
def execLetterboxSummaryWrite (n : Nat) (s : State) : Out :=
  whenever (s.dom.d3 && s.snap.published && summaryCalled s) s fun s =>
    let all := summaryPages s
    let s := (List.range (min n 6)).foldl (fun s p => pageWrite p ((all.drop (240 * p)).take 240) s) s
    if 6 ≤ n then
      let s := setCon (fun x => { x with
        summaryEpoch := s.snap.epoch, summaryUnclean := false, summaryDue := false
        summaryMin := (summaryGrid s).or x.summaryMin }) s
      let s := if s.hold.stage == .letterbox then { s with hold := { s.hold with stage := .display } } else s
      lbEvent 4 0xFF s
    else s

end Sys2Proof.Machine
end

