-- ==== Sys2Proof/Machine/Display.lean ====
section
/-! DEFINITION. The window display drive and the Transom (18). -/

namespace Sys2Proof.Machine

def setDisp (f : Display → Display) (s : State) : State := { s with disp := f s.disp }

def panelW (s : State) : Nat := param s 0x0A00
def panelH (s : State) : Nat := param s 0x0A01
def imageBytes (s : State) : Nat := panelW s * panelH s / 4

/-! Waveform tables (R434–R436). -/

def tabAt (l : List (List Nat)) (b m : Nat) : Nat := (((l[b]?).getD [])[m]?).getD 0

/-- The table that 12 420 bytes spell. -/
def waveOf (b : List Byte) : WaveTable :=
  let n := fieldAt b 4 1
  let grid (off : Nat) := (List.range n).map fun i => (List.range 4).map fun m => fieldAt b (off + 4 * i + m) 1
  { id := fieldAt b 0 2, version := fieldAt b 2 2, polarity := fieldAt b 5 1
    bandLo := (List.range n).map fun i => toI 1 (fieldAt b (8 + i) 1), bandHi := toI 1 (fieldAt b 20 1)
    nFrames := grid 24, extFrames := grid 72
    wave := (List.range n).map fun i => (List.range 4).map fun m =>
      (List.range 64).map fun f => fieldAt b (128 + (4 * i + m) * 256 + 4 * f) 4 }

def waveWord (t : WaveTable) (b m f : Nat) : Nat := ((((t.wave[b]?).getD [])[m]?).getD [])[f]?.getD 0

/-- The rules of R434: CRC, counts and order, no code 3 in a used frame, unused frame words zero. -/
def waveOk (b : List Byte) : Bool :=
  let t := waveOf b
  let n := fieldAt b 4 1
  let los := t.bandLo ++ [t.bandHi]
  b.length == 12420 && crcAt b 12416 && decide (1 ≤ n) && decide (n ≤ 12)
    && (List.zipWith (fun (x y : Int) => decide (x < y)) los (los.drop 1)).all id
    && (List.range n).all fun i => (List.range 4).all fun m =>
      let nf := tabAt t.nFrames i m
      let x := tabAt t.extFrames i m
      decide (1 ≤ nf) && decide (nf + 3 * x ≤ 64) && (m != 0 || x == 0)
        && (List.range 64).all fun f =>
          let w := waveWord t i m f
          if f < nf + x then (List.range 16).all fun p => w / 4 ^ p % 4 != 3 else w == 0
    && ((b.take 12416).drop (128 + 1024 * n)).all (· == 0#8)

/-- Temperature of DISP.TEMP_SOURCE, 0.01 °C: the mean over the last published epoch that has readings of it (R435). -/
def dispTemp (s : State) : Int :=
  let m := (s.adc.means[param s 0x0A04]?).getD {}
  if m.n = 0 || s.snap.epoch < m.epoch then m.before else divRound m.sum m.n

/-- The band of a temperature: the last whose BAND_LO it has reached, in whole °C. -/
def bandOf (t : WaveTable) (temp : Int) : Option Nat :=
  let c := temp / 100
  if c < (t.bandLo.head?).getD 0 || t.bandHi < c then none
  else some (countWhere (fun lo => decide (lo ≤ c)) t.bandLo - 1)

/-- The nearest band (R435). -/
def bandNear (t : WaveTable) (temp : Int) : Nat :=
  match bandOf t temp with
  | some b => b
  | none => if temp / 100 < (t.bandLo.head?).getD 0 then 0 else t.bandLo.length - 1

/-! Ageing tiles (R437). -/

def tilesX (s : State) : Nat := (panelW s + 63) / 64

def tileStep (s : State) (t : Nat) : Nat :=
  let c := (s.disp.stress[t]?).getD (0, 0)
  min 3 ((c.1 + c.2) / max 1 (param s 0x0A07))

/-- Tiles that a rectangle touches. -/
def tilesIn (s : State) (r : Rect) : List Nat :=
  (List.range 130).filter fun t =>
    let x := t % max 1 (tilesX s) * 64
    let y := t / max 1 (tilesX s) * 64
    decide (r.x < x + 64) && decide (x < r.x + r.w) && decide (r.y < y + 64) && decide (y < r.y + r.h)

/-- Frames of a drive: N + s_max × X (R436). -/
def framesOf (s : State) (t : WaveTable) (band mode : Nat) (r : Rect) : Nat :=
  tabAt t.nFrames band mode + maxOf ((tilesIn s r).map (tileStep s)) * tabAt t.extFrames band mode

/-- The code of frame f for a pixel pair in a tile of step st (R436). -/
def frameCode (t : WaveTable) (band mode st f pair : Nat) : Nat :=
  let n := tabAt t.nFrames band mode
  let x := tabAt t.extFrames band mode
  if f < n then waveWord t band mode f / 4 ^ pair % 4
  else if f < n + st * x then waveWord t band mode (n + (f - n) % max 1 x) / 4 ^ pair % 4
  else 0

/-- Frames at VPOS and at VNEG of a whole drive, for one pair. -/
def pairStress (t : WaveTable) (band mode st total pair : Nat) : Nat × Nat :=
  let cs := (List.range total).map fun f => frameCode t band mode st f pair
  (countWhere (· == 1) cs, countWhere (· == 2) cs)

/-! Images: 2 bits a pixel, row by row (R432). -/

/-- The four pixels of a byte. -/
def unpack (b : Byte) : List Nat := [b.toNat % 4, b.toNat / 4 % 4, b.toNat / 16 % 4, b.toNat / 64 % 4]

def pack : List Nat → List Byte
  | a :: b :: c :: d :: l => BitVec.ofNat 8 (a + 4 * b + 16 * c + 64 * d) :: pack l
  | _ => []

/-- The pixel rows of an image. -/
def rowsOf : Nat → Nat → List Byte → List (List Nat)
  | 0, _, _ => []
  | h + 1, wb, l => (padTo wb l).flatMap unpack :: rowsOf h wb (l.drop wb)

def imageRows (s : State) (l : List Byte) : List (List Nat) := rowsOf (panelH s) (panelW s / 4) l

def inRect (r : Rect) (x y : Nat) : Bool := decide (r.x ≤ x) && decide (x < r.x + r.w) && decide (r.y ≤ y) && decide (y < r.y + r.h)

/-- DISP.TRANSOM_RECT. -/
def transomRect (s : State) : Rect :=
  let v := param s 0x0A05
  ⟨v % 65536, v / 65536 % 65536, v / 2 ^ 32 % 65536, v / 2 ^ 48 % 65536⟩

/-- Whether a drive moves a pixel: an update keeps those outside its rectangle and inside the Transom's (R432). -/
def driven (s : State) (d : Drive) (x y : Nat) : Bool :=
  match d.kind with
  | .update => inRect d.req.rect x y && !inRect (transomRect s) x y
  | .transom => inRect (transomRect s) x y
  | .clean | .redraw => true

/-- The text of a Transom row. -/
def transomPixel (rows : List (List Byte)) (dx dy : Nat) : Nat :=
  match ((rows[dy / 16]?).getD [])[dx / 8]? with
  | some c => if bitN (Config.glyph c.toNat (dy % 16)) (7 - dx % 8) then 3 else 0
  | none => 0

/-- The state a drive gives a pixel: FAST drives 1 as 0 and 2 as 3; CLEAN ends white (R436). -/
def target (s : State) (d : Drive) (img x y : Nat) : Nat :=
  match d.kind with
  | .clean => 0
  | .transom => transomPixel s.disp.drawing (x - (transomRect s).x) (y - (transomRect s).y)
  | .update | .redraw => if d.req.mode = 3 then ([0, 0, 3, 3][img]?).getD 0 else img

/-- Old and new state of every pixel, with none for a pixel the drive leaves. -/
def pairsOf (s : State) (d : Drive) (img : List Byte) : List (List (Nat × Option Nat)) :=
  (List.zipWith List.zip (imageRows s s.disp.panel) (imageRows s img)).mapIdx fun y row => row.mapIdx fun x p =>
    (p.1, if driven s d x y then some (target s d p.2 x y) else none)

/-- The panel after a whole drive. -/
def panelAfter (ps : List (List (Nat × Option Nat))) : List Byte := pack (ps.flatMap fun row => row.map fun p => p.2.getD p.1)

/-- One run of up to 64 pixels adds its frames to its tile, in pixel-frames. -/
def chunkStress (tab : List (Nat × Nat)) (row : List (Nat × Option Nat)) (clean : Bool) : Nat × Nat :=
  row.foldl (fun acc p => match p.2 with
    | some n =>
      let c := (tab[if clean then 0 else 4 * p.1 + n]?).getD (0, 0)
      (acc.1 + c.1, acc.2 + c.2)
    | none => acc) (0, 0)

/-- The rows cut into 64-pixel runs, each added to its tile. -/
def rowStress (s : State) (d : Drive) (tabs : List (List (Nat × Nat))) :
    Nat → Nat → List (Nat × Option Nat) → List (Nat × Nat) → List (Nat × Nat)
  | 0, _, _, acc => acc
  | k + 1, t, row, acc =>
    let c := chunkStress ((tabs[tileStep s t]?).getD []) (row.take 64) (d.kind == .clean)
    rowStress s d tabs k (t + 1) (row.drop 64) (modAt acc t fun a => (a.1 + c.1, a.2 + c.2))

/-- The stress counters after `n` frames of a drive, in units of 256 pixel-frames, saturating (R437). -/
def stressAfter (s : State) (d : Drive) (n : Nat) (ps : List (List (Nat × Option Nat))) : List (Nat × Nat) :=
  let mode := d.req.mode
  let tabs := (List.range 4).map fun st => (List.range 16).map (pairStress d.table d.band mode st n)
  let add := (ps.mapIdx fun y row => (y, row)).foldl (fun acc p =>
    rowStress s d tabs (tilesX s) (p.1 / 64 * tilesX s) p.2 acc) (List.replicate 130 (0, 0))
  List.zipWith (fun (a c : Nat × Nat) =>
    (min 0xFFFFFFFF (a.1 + c.1 / 256), min 0xFFFFFFFF (a.2 + c.2 / 256))) s.disp.stress add

/-- The image a drive takes its new states from. -/
def driveImage (s : State) (d : Drive) : List Byte := ((d.req.slot.bind (s.disp.slots[·]?)).join).getD []

/-- The stress of a drive that ended after `n` frames (R437); its pixels stay where they are until the recovery. -/
def cutStress (d : Drive) (n : Nat) (s : State) : State :=
  if n = 0 then s else setDisp (fun x => { x with stress := stressAfter s d n (pairsOf s d (driveImage s d)) }) s

/-! The text of the Transom (R438). -/

/-- A tamper source with response 1 or 2 is active. -/
def tamperShown (s : State) : Bool := (List.range 6).any fun n => bitN s.sag.tamperActive n && tamperResponse s n != 0

def statusWord (s : State) : List Byte :=
  if tamperShown s then ascii "TAMPER"
  else if s.shu.latches != 0 then ascii "FAULT"
  else if s.veh.unavailable || s.mode.mode == .recovery || s.sag.lifecycle != .field then ascii "OUT OF SERVICE"
  else if s.veh.transfer then ascii "CHARGING"
  else ascii "AVAILABLE"

/-- Row 0; the spacing of the fields is the model's (log entry 45). -/
def transomRow0 (s : State) : List Byte :=
  let v := lrVersionOf s
  let hash := padTo 4 s.cal.lrHash
  let hex (l : List Byte) : List Byte := l.flatMap fun b => digitsN 2 16 b.toNat
  ascii "LR" ++ decimal v.1 ++ ascii "." ++ decimal v.2.1 ++ ascii "." ++ decimal v.2.2 ++ ascii " " ++ hex (hash.take 2)
    ++ ascii "-" ++ hex (hash.drop 2) ++ ascii " CAL" ++ decimal (calCount s)

def transomRows (s : State) : List (List Byte) :=
  let m := ((localOf s.bil s.snap.civilS) % 86400 / 60).toNat
  let e := cumReg s 6 / 100000
  [transomRow0 s, statusWord s ++ ascii " " ++ digitsN 2 10 (m / 60) ++ ascii ":" ++ digitsN 2 10 (m % 60),
    ascii "E+ " ++ decimal (e / 10) ++ ascii "." ++ digitsN 1 10 e ++ ascii " kWh"]

/-! Drives (R431, R433, R439). -/

/-- DISP_DONE (R445). -/
def dispDone (result gen band frames mode start : Nat) (s : State) : State :=
  notify 2 0x0A08 (le 2 gen ++ le 1 result ++ le 1 band ++ le 1 frames ++ le 1 mode ++ zeros 2 ++ le 8 start
    ++ le 8 s.clk.epoch) s

/-- An update that never drove a frame ends; its image is discarded. -/
def dropReq (result : Nat) (q : DispReq) (s : State) : State :=
  let s := match q.slot with
    | some k => setDisp (fun x => { x with slots := x.slots.set k none }) s
    | none => s
  dispDone result q.gen ((s.disp.table.map fun t => bandNear t (dispTemp s)).getD 0) 0 q.mode s.clk.epoch s

/-- A drive starts: the rails rise (R431). -/
def startDrive (d : Drive) (s : State) : State :=
  setDisp (fun x => { x with drive := some d, railsUp := true, railsDown := none, paused := false, frameAt := s.clk.now }) s

/-- T_frame in ticks: H + 4 lines of 2 W periods of EPD_CK and 2.0 µs (R429). -/
def frameTime (s : State) : Tick :=
  let f := max 1 (param s 0x0A02)
  (panelH s + 4) * (2 * panelW s * Tick.us 1 + 2 * f * Tick.us 1) / f

def driveFree (s : State) : Bool := s.disp.drive.isNone && !s.disp.railsUp

/-- The budget rule (R433). -/
def fits (s : State) (frames : Nat) : Bool := decide (frames ≤ framesFit s)

/-- The recovery step that is due starts: CLEAN, the image, the Transom (R441). -/
def startRecovery (t : WaveTable) (s : State) : State :=
  let whole : Rect := ⟨0, 0, panelW s, panelH s⟩
  let d := s.disp.dirty
  let step := s.disp.recovery
  let band := bandNear t (dispTemp s)
  let q (mode : Nat) (r : Rect) (slot : Option Nat) : DispReq :=
    ⟨if step = 4 then s.disp.gen else d.gen, mode, r, framesOf s t band mode r, slot, d.newCrc, none, 0⟩
  match step with
  | 0 => s
  | 1 => startDrive ⟨.transom, q 2 (transomRect s) none, band, t, true, step⟩
      (setDisp (fun x => { x with drawing := transomRows s }) s)
  | 2 =>
    let ok := match (s.disp.slots[d.newSlot]?).join with
      | some img => d.newSlot != 0xFF && crc32c img == d.newCrc
      | none => false
    startDrive ⟨.redraw, q 1 whole (some (if ok then d.newSlot else d.oldSlot)), band, t, true, step⟩ s
  | _ => startDrive ⟨.clean, q 0 whole none, band, t, true, step⟩ s

/-- A waiting update is due: it starts, or fails the budget and waits on (R433). -/
def tryWaiting (s : State) : State :=
  match s.disp.waiting, s.disp.table with
  | some q, some t =>
    if driveFree s && s.disp.recovery == 0 && shedLevel s == 0 && q.slot.isSome && !inHoldup s && serving s then
      let band := bandNear t (dispTemp s)
      let n := framesOf s t band q.mode q.rect
      if fits s n then
        startDrive ⟨.update, { q with frames := n }, band, t, true, 0⟩ (setDisp (fun x => { x with waiting := none }) s)
      else setDisp (fun x => { x with
        waiting := some { q with failedAt := q.failedAt.or (some s.clk.now), checked := s.clk.epoch } }) s
    else s
  | _, _ => s

/-- What comes next once the drive is free: recovery before everything else (R441). -/
def driveNext (s : State) : State :=
  if !driveFree s || inHoldup s then s
  else match s.disp.recovery, s.disp.table with
    | 0, _ => tryWaiting s
    | _, some t => startRecovery t s
    | _, none => s

/-- The dirty record before the first frame of a drive; a recovery leaves what it redraws as it is (R439, R441). -/
def openDirty (d : Drive) (s : State) : State :=
  if 1 ≤ d.step ∧ d.step ≤ 3 then
    setDisp (fun x => { x with dirty := { x.dirty with frameDone := 0, nTotal := d.req.frames } }) s
  else
    let oldCrc := (((s.disp.shown.bind (s.disp.slots[·]?)).join).map crc32c).getD 0
    setDisp (fun x => { x with dirty :=
      { state := 1, mode := d.req.mode, band := d.band, frameDone := 0, nTotal := d.req.frames
        oldSlot := x.shown.getD 0xFF, newSlot := if d.kind = .update then d.req.slot.getD 0xFF else 0xFF
        gen := d.req.gen, oldCrc := oldCrc, newCrc := if d.kind = .update then d.req.crc else 0
        rect := d.req.rect, startEpoch := s.clk.epoch } }) s

/-- The rails are good 10 ms after the start request, and the first frame begins (R431). -/
def execDispRailsGood (s : State) : Out :=
  match s.disp.drive with
  | none => .next s
  | some d =>
    whenever d.rising s fun s =>
      let s := advanceTo (s.disp.frameAt + Tick.ms 10) s
      openDirty d (setDisp (fun x => { x with
        drive := some { d with rising := false }, paused := inHoldup s, frameAt := s.clk.now }) s)

/-- A drive has run all its frames (R437, R439, R441). -/
def finishDrive (d : Drive) (s : State) : State :=
  let ps := pairsOf s d (driveImage s d)
  let rec_ := s.disp.dirty
  let stress := stressAfter s d rec_.nTotal ps
  let s := setDisp (fun x => { x with
    panel := panelAfter ps, stress := stress, drive := none, railsDown := some (s.clk.now + Tick.ms 10)
    recovery := if x.recovery = d.step then min 2 (d.step - 1) else x.recovery }) s
  let clean := setDisp (fun x => { x with dirty := { x.dirty with state := 0 } })
  let s := if d.kind = .transom then
      setDisp (fun x => { x with transom := x.drawing, transomEpoch := s.clk.epoch, transomAt := some s.clk.now }) s
    else s
  if d.step ≠ 0 then
    let s := if d.kind = .redraw then
        setDisp (fun x => { x with
          shown := if (d.req.slot.getD 3) < 3 then d.req.slot else x.shown
          shownGen := if d.req.slot = some rec_.newSlot then rec_.gen else x.shownGen }) s
      else s
    if d.step = 1 then dispDone 5 rec_.gen d.band rec_.nTotal 0 rec_.startEpoch (clean s) else s
  else if d.kind = .update then
    let old := s.disp.shown
    let s := clean (setDisp (fun x => { x with
      shown := d.req.slot, shownGen := d.req.gen
      slots := x.slots.mapIdx fun k l => if some k = old && some k ≠ d.req.slot then none else l }) s)
    dispDone 0 d.req.gen d.band rec_.nTotal d.req.mode rec_.startEpoch s
  else clean s

/-- A frame boundary (R439, R440). -/
def execDispFrameEnd (s : State) : Out :=
  match s.disp.drive with
  | none => .next s
  | some d =>
    whenever (!d.rising && !s.disp.paused) s fun s =>
      let n := s.disp.dirty.frameDone + 1
      let s := advanceTo (s.disp.frameAt + frameTime s) s
      let s := setDisp (fun x => { x with dirty := { x.dirty with frameDone := n }, frameAt := s.clk.now }) s
      if s.disp.dirty.nTotal ≤ n then finishDrive d s
      else setDisp (fun x => { x with paused := inHoldup s && s.hold.stage != .ended }) s

/-- The rails fall 10 ms after the last frame; the next drive may start (R431). -/
def execDispRailsDown (s : State) : Out :=
  match s.disp.railsDown with
  | none => .next s
  | some t => .next (driveNext (setDisp (fun x => { x with railsUp := false, railsDown := none }) (advanceTo t s)))

/-- A rail leaves ±5 % for 100 µs (R431). -/
def execDispRailFault (s : State) : Out :=
  whenever s.disp.railsUp s fun s =>
    let was := s.disp.drive
    let s := match was with
      | some d => if d.rising then s else cutStress d s.disp.dirty.frameDone s
      | none => s
    let s := setDisp (fun x => { x with
      railsUp := false, railsDown := none, drive := none, paused := false, recovery := 0
      dirty := if was.isSome then { x.dirty with state := 3 } else x.dirty }) s
    match was with
    | some d =>
      if d.kind = .transom then s
      else dispDone 3 d.req.gen d.band (if d.rising then 0 else s.disp.dirty.frameDone) d.req.mode s.disp.dirty.startEpoch s
    | none => s

/-- HOLDUP_DISPLAY_DECISION (R440): the remaining frames run if N_frames of t_f covers them, else the update is parked. -/
def execHoldupDisplayDecision (s : State) : Out :=
  whenever (inHoldup s && s.hold.stage == .display) s fun s =>
    let s := { s with hold := { s.hold with stage := .ended } }
    match s.disp.drive with
    | none => s
    | some d =>
      let left := if d.rising then d.req.frames else s.disp.dirty.nTotal - s.disp.dirty.frameDone
      if left ≤ s.hold.frames then setDisp (fun x => { x with paused := false, frameAt := s.clk.now }) s
      else
        let s := if d.rising then openDirty d s else cutStress d s.disp.dirty.frameDone s
        let s := setDisp (fun x => { x with
          drive := none, railsUp := false, railsDown := none, paused := false, recovery := 0
          dirty := if d.step = 0 then { x.dirty with state := 2 } else x.dirty }) s
        if d.kind = .transom then s
        else dispDone 1 d.req.gen d.band s.disp.dirty.frameDone d.req.mode s.disp.dirty.startEpoch s

/-! Opcodes (R444, R445). -/

/-- STATE of DISP_STATUS. -/
def dispState (s : State) : Nat :=
  match s.disp.drive with
  | none => if s.disp.recovery != 0 then 4 else 0
  | some d => if s.disp.paused then 3 else if d.step != 0 then 4 else if d.rising then 1 else 2

def execDispStatus (r : Req) (s : State) : Out :=
  brixo 0x0A00 r s fun s =>
    let d := s.disp
    let band := match d.drive with
      | some x => x.band
      | none => (d.table.map fun t => bandNear t (dispTemp s)).getD 0
    answer s stOk (le 1 (dispState s) ++ le 1 (b2n (d.waiting.isSome || d.copying.isSome)) ++ le 2 d.gen ++ le 2 d.shownGen
      ++ le 1 d.dirty.frameDone ++ le 1 d.dirty.nTotal ++ le 1 band ++ le 1 (b2n (shedLevel s != 0)) ++ leI 2 (dispTemp s)
      ++ le 2 ((d.table.map (·.id)).getD 0) ++ le 2 ((d.table.map (·.version)).getD 0) ++ le 1 (min 255 (framesFit s))
      ++ le 1 d.dirty.state ++ le 1 (maxOf ((List.range 130).map (tileStep s))) ++ zeros 1 ++ le 8 d.transomEpoch)

/-- DISP_IMAGE_WRITE (R432). -/
def execDispImageWrite (r : Req) (offset len : Nat) (data : List Byte) (s : State) : Out :=
  brixo 0x0A01 r s fun s =>
    if len = 0 || 4088 < len || imageBytes s < offset + len then refuse s stBadParam
    else if s.disp.copying.isSome then refuse s stBusy
    else
      let old := padTo (imageBytes s) s.disp.staging
      answer (setDisp (fun x => { x with staging := old.take offset ++ padTo len data ++ old.drop (offset + len) }) s) stOk

/-- The fields of the reply to DISP_UPDATE and DISP_CLEAN. -/
def dispBody (gen frames : Nat) (s : State) : List Byte := le 2 gen ++ le 1 frames ++ le 1 (min 255 (framesFit s))

/-- The modes in which the display takes requests (R433). -/
def dispMode (s : State) : Bool := s.mode.mode == .factory || s.mode.mode == .commission || s.mode.mode == .service || s.mode.mode == .watch

def execDispUpdate (r : Req) (mode x y w h crc : Nat) (s : State) : Out :=
  brixo 0x0A02 r s fun s =>
    let rect : Rect := ⟨x, y, w, h⟩
    if !dispMode s then refuse s stWrongMode
    else if mode = 0 || 3 < mode || w = 0 || h = 0 || panelW s < x + w || panelH s < y + h then refuse s stBadParam
    else if crc32c (padTo (imageBytes s) s.disp.staging) ≠ crc then refuse s stIntegrity
    else match s.disp.table with
      | none => refuse s stTableInvalid
      | some t => match bandOf t (dispTemp s) with
        | none => refuse s stTempRange
        | some band =>
          let n := framesOf s t band mode rect
          if !fits s n then refuse s stBudgetShort
          else
            let gen := (s.disp.gen + 1) % 65536
            let s := match s.disp.waiting with
              | some q => dropReq 4 q (setDisp (fun d => { d with waiting := none }) s)
              | none => s
            let s := match s.disp.copying with | some q => dropReq 4 q s | none => s
            let s := setDisp (fun d => { d with gen := gen, copying := some ⟨gen, mode, rect, n, none, crc, none, 0⟩ }) s
            answer (wakeSeen 2 s) stAccepted (dispBody gen n s)

/-- A flash slot that holds no image in use (R432). -/
def freeSlot (s : State) : Option Nat :=
  (List.range 3).find? fun k => s.disp.shown != some k && ((s.disp.slots[k]?).join).isNone

/-- IMAGE_COPY_COMPLETE (R432): the update waits, and starts when the drive is free. -/
def execImageCopyComplete (s : State) : Out :=
  match s.disp.copying with
  | none => .next s
  | some q => match freeSlot s with
    | none => .next s
    | some k =>
      whenever (s.dom.d3 && !inHoldup s) s fun s =>
        tryWaiting (setDisp (fun d => { d with
          copying := none, waiting := some { q with slot := some k }
          slots := d.slots.set k (some (padTo (imageBytes s) d.staging)) }) s)

/-- DISP_CLEAN (R444): a recovery as in R441, queued behind what runs, with the image then current as target. -/
def execDispClean (r : Req) (s : State) : Out :=
  brixo 0x0A03 r s fun s =>
    if !dispMode s then refuse s stWrongMode
    else match s.disp.table with
      | none => refuse s stTableInvalid
      | some t =>
        let gen := (s.disp.gen + 1) % 65536
        let whole : Rect := ⟨0, 0, panelW s, panelH s⟩
        let n := framesOf s t (bandNear t (dispTemp s)) 0 whole
        answer (driveNext (setDisp (fun d => { d with gen := gen, recovery := 4 }) s)) stAccepted (dispBody gen n s)

/-- The check of a waiting update at an epoch boundary (R433). -/
def execWaitingUpdateCheck (s : State) : Out :=
  match s.disp.waiting with
  | none => .next s
  | some q => whenever (q.failedAt.isNone || decide (q.checked < s.clk.epoch)) s tryWaiting

/-- 10 s after the first failed check (R433). -/
def execWaitingUpdateTimeout (s : State) : Out :=
  match s.disp.waiting with
  | none => .next s
  | some q => match q.failedAt with
    | none => .next s
    | some t => .next (dropReq 6 q (setDisp (fun x => { x with waiting := none }) (advanceTo (t + Tick.s 10) s)))

/-! The Transom (R438). -/

/-- Row 0 or the status word differs from what stands. -/
def urgentText (old new : List (List Byte)) : Bool :=
  (old[0]?) != new[0]? || ((old[1]?).getD []).dropLast.dropLast.dropLast.dropLast.dropLast
    != ((new[1]?).getD []).dropLast.dropLast.dropLast.dropLast.dropLast

/-- TRANSOM_REFRESH (R438): at a start, on a change of row 0 or the status word, or on any change after the period. -/
def execTransomRefresh (s : State) : Out :=
  let rows := transomRows s
  let due := match s.disp.transomAt with
    | none => true
    | some t => urgentText s.disp.transom rows
        || (rows != s.disp.transom && decide (t + Tick.s (60 * param s 0x0A06) ≤ s.clk.now))
  match s.disp.table with
  | none => .next s
  | some t =>
    let band := bandNear t (dispTemp s)
    let n := framesOf s t band 2 (transomRect s)
    whenever (s.dom.d3 && !inHoldup s && due && driveFree s && s.disp.recovery == 0 && fits s n) s fun s =>
      startDrive ⟨.transom, ⟨s.disp.gen, 2, transomRect s, n, none, 0, none, 0⟩, band, t, true, 0⟩
        (setDisp (fun x => { x with drawing := rows }) s)

/-- The update of the dirty record, for the frames that a reset left of it. -/
def recordDrive (t : WaveTable) (s : State) : Drive :=
  let d := s.disp.dirty
  ⟨.update, ⟨d.gen, d.mode, d.rect, d.nTotal, some d.newSlot, d.newCrc, none, 0⟩, d.band, t, false, 0⟩

/-- Display recovery at a D3 start that finds STATE other than 0 (R441); the update that a reset cut short has stressed its
pixels for the frames driven. -/
def dispStart (s : State) : State :=
  let s := setDisp (fun x => { x with transomAt := none }) s
  let s := match s.disp.table with
    | some t => if s.disp.dirty.state = 1 ∧ s.disp.dirty.newSlot ≠ 0xFF then cutStress (recordDrive t s) s.disp.dirty.frameDone s else s
    | none => s
  if s.disp.dirty.state = 0 then s else driveNext (setDisp (fun x => { x with recovery := 3 }) s)

/-- The update that a reset interrupted ends with RESULT 2 (R445), reported once firmware serves. -/
def dispReport (s : State) : State :=
  let d := s.disp.dirty
  if s.disp.recovery != 0 && d.state == 1 && d.newSlot != 0xFF then dispDone 2 d.gen d.band d.frameDone d.mode d.startEpoch s
  else s

end Sys2Proof.Machine
end

