-- ==== Sys2Proof/Machine/KilnM.lean ====
section
/-! DEFINITION. Kiln's class M task (05): the window quantities of an epoch, the reactive balance and the apparent energy, and the
epochs lost under R14. -/

namespace Sys2Proof.Machine

/-! Window quantities (R113, R114, R127). -/

/-- The root of the mean of some squared codes, times a full scale in the reported unit (R113). -/
def rmsOf (sum n full : Nat) : Nat :=
  if n = 0 then 0 else (isqrt ((sum * 2 ^ 16 + n / 2) / n) * full + 2 ^ 29) / 2 ^ 30

/-- A sum of a phase over a window: 0 SVV, 1 SII, 2 SVI, 3 SVQI. -/
def phaseSum (w : Window) (x k : Nat) : Int :=
  windowSum w (fun r => code ((r.phase[x]?).getD []) k) (fun r => code ((r.phase[x]?).getD []) (k + 4))

/-- P or Q of a phase from its window sum (R113). -/
def powerOf (sum : Int) (n scale : Nat) : Int := if n = 0 then 0 else divRound (800 * scale * sum) (2 ^ 44 * n)

/-- PF of R113: 0 when S = 0. -/
def pfOf (p : Int) (s : Nat) : Int := if s = 0 then 0 else divRound (10000 * p) s

/-- The quantities of one phase, but for REVERSE; the gate is that of the epoch itself (R122, R127). -/
def phaseOf (w : Window) (r : SumsRec) (x : Nat) : PhaseMeas :=
  let gated := if bitN r.gate x then 0 else 2
  let marks := marksIn w.recs
  if !r.par.on x then ⟨0, 0, 0, 0, 0, 0, gated⟩
  else
    let vOk := !bitN marks.invalid (vSlot x)
    let iOk := !bitN marks.invalid (iSlot x)
    let sc := r.par.scale x
    let v := if vOk then rmsOf (phaseSum w x 0).toNat w.n 800000000 else 0
    let i := if iOk then rmsOf (phaseSum w x 1).toNat w.n (1000 * sc) else 0
    let p := if vOk && iOk then powerOf (phaseSum w x 2) w.n sc else 0
    let q := if vOk && iOk then powerOf (phaseSum w x 3) w.n sc else 0
    let s := divRoundN (v * i) (10 ^ 9)
    let ovr := bitN marks.ovr (vSlot x) || bitN marks.ovr (iSlot x)
    { vrms := v, irms := i, p := p, q := q, s := s, pf := pfOf p s
      flags := gated + packBits [!vOk || !iOk, false, decide (p < 0), decide (q < 0), false, ovr, !vOk, !iOk] }

/-- Sums of the last 20 epochs' DC records: ΣC0, ΣC1, ΣC0·C1, ΣC0², and the number of samples (R127). -/
def dcSums (rs : List SumsRec) : List Int × Nat :=
  ((List.range 4).map fun k => sumI (rs.map fun r => code r.dc k), sumN (rs.map (·.n)))

/-- A mean of a DC sum with its scale. -/
def dcMean (sum : Int) (scale n div : Nat) : Int := if n = 0 then 0 else divRound (sum * scale) (div * n)

/-- Group 2 of an epoch, but for the flags REVERSE and NEUTRAL_MISMATCH (R113, R114, R127). -/
def measOf (s : State) (r : SumsRec) : Meas :=
  let nw := nwOf r.par.fNom
  let w := windowOf s.met.ring r.epoch nw
  let ph := (List.range 3).map (phaseOf w r)
  let sc := r.par.scale 3
  let sIn := windowSum w (fun a => code a.neutral 0) (fun a => code a.neutral 1)
  let sR := windowSum w (fun a => code a.neutral 2) (fun a => code a.neutral 3)
  let rR := if w.n = 0 then 0 else (isqrt ((sR.toNat * 2 ^ 16 + w.n / 2) / w.n) * 10 + 128) / 256
  let freq := match w.edges with
    | some (a, b) => if a < b then divRoundN (nw * 32000 * 256 * 10 ^ 6) (b - a) else 0
    | none => 0
  let pT := sumI (ph.map (·.p))
  let sT := sumN (ph.map (·.s))
  let last := s.met.ring.filter fun a => decide (a.epoch ≤ r.epoch) && decide (r.epoch < a.epoch + 20)
  let (d, n) := dcSums last
  let f0 := r.par.mod0Fs
  let f1 := r.par.mod1Fs
  let dcP := dcMean (code d 2) (f0 * f1) n (2 ^ 44 * 1000)
  let dcOk := r.par.mods == 3 && last.all fun a => bitN a.validMask 8 && bitN a.validMask 9
  { epoch := r.epoch, freq := freq, phases := ph, inRms := rmsOf sIn.toNat w.n (1000 * sc), rRms := rR
    pTot := pT, qTot := sumI (ph.map (·.q)), sTot := sT, pfTot := pfOf pT sT
    flags := packBits [w.edges.isNone, false, dcOk, r.discharge] + 16 * r.par.rule
    dcV := dcMean (code d 1) f1 n (2 ^ 22), dcI := dcMean (code d 0) f0 n (2 ^ 22), dcP := dcP
    dcPVeh := dcP - dcMean (code d 3) (f0 * f0 * r.par.dcR) n (2 ^ 44 * 10 ^ 9) }

/-- The flags of the conditions of R119 and R120, as the window left them (R127). -/
def Meas.withConds (neutral : Bool) (reverse : Nat) (m : Meas) : Meas :=
  { m with
    phases := m.phases.mapIdx fun x p => { p with flags := p.flags + (if bitN reverse x then 16 else 0) }
    flags := m.flags + (if neutral then 2 else 0) }

/-- A signed 32-bit field; a sum outside the format has no stated value (log entry 38). -/
def fitI32 (i : Nat) (v : Int) : Int := if clipI32 v = v then v else toI 4 (Config.freeNat i)
def fitU32 (i v : Nat) : Nat := if v < 2 ^ 32 then v else Config.freeNat i % 2 ^ 32

/-- Group 2 with the totals that do not fit their fields as free values. -/
def Meas.fit (i : Nat) (m : Meas) : Meas :=
  { m with pTot := fitI32 i m.pTot, qTot := fitI32 (i + 1) m.qTot, sTot := fitU32 (i + 2) m.sTot
           dcP := fitI32 (i + 3) m.dcP, dcPVeh := fitI32 (i + 4) m.dcPVeh }

/-! Reactive and apparent energy (R103, R115, R116). -/

/-- The balance released under the signs of a window: the quadrant (0 QI … 3 QIV) and the amount (R115). -/
def release (bal p q : Int) : Option (Nat × Nat) :=
  if 0 ≤ q ∧ 0 < bal then some (if 0 ≤ p then 0 else 1, bal.toNat)
  else if q < 0 ∧ bal < 0 then some (if 0 ≤ p then 3 else 2, (-bal).toNat)
  else none

/-- What one phase gives in an epoch: its new balance, the amount released with its quadrant, and the apparent energy with
its direction (0 import, 1 export). -/
structure PhaseEnergy where
  bal : Int
  add : Int
  rel : Option (Nat × Nat)
  app : Nat
  dir : Nat
  deriving DecidableEq, Repr

/-- R115 and R116 for one phase; apparent energy is S_win × 10 ms in q, to nearest (log entry 38). A phase that MET.PHASE_ENABLE has
switched off keeps its balance and releases none of it, the model's choice (log entry 91). -/
def phaseEnergy (r : SumsRec) (m : Meas) (bal : List Int) (x : Nat) : PhaseEnergy :=
  let ph := (m.phases[x]?).getD ⟨0, 0, 0, 0, 0, 0, 2⟩
  let gate := bitN r.gate x
  let add := if gate then 2 * code ((r.phase[x]?).getD []) 3 * wX (r.par.scale x) else 0
  let b := code bal x + add
  let rel := if !r.par.on x || bitN ph.flags 0 then none else release b ph.p ph.q
  { bal := if rel.isSome then 0 else b, add := add, rel := rel
    app := if gate then divRoundN (ph.s * 2 ^ 65) 360 else 0, dir := if 0 ≤ ph.p then 0 else 1 }

/-- The amount of a release that goes to a quadrant. -/
def relTo (k : Nat) : Option (Nat × Nat) → Nat
  | some (j, v) => if j = k then v else 0
  | none => 0

/-- Increments of registers 8–31 and the new balances, the total's last (R103, R108). The total of rule 0 is held while an
enabled phase's window is INVALID (log entry 38). Under another rule the total's balance is kept as it is, the model's choice beside
R103 (log entry 90). -/
def kilnInc (r : SumsRec) (m : Meas) (bal : List Int) : List Nat × List Int :=
  let es := (List.range 3).map (phaseEnergy r m bal)
  let invalid := (List.range 3).any fun x => r.par.on x && bitN (((m.phases[x]?).map (·.flags)).getD 0) 0
  let quads := es.flatMap fun e => (List.range 4).map fun k => relTo k e.rel
  let sumQ (k : Nat) : Nat := sumN (es.map fun e => relTo k e.rel)
  let app (d : Nat) : List Nat := es.map fun e => if e.dir = d then e.app else 0
  let allApp := sumN (es.map (·.app))
  let pT := sumI (m.phases.map (·.p))
  let qT := sumI (m.phases.map (·.q))
  let bT := code bal 3 + (if r.par.rule = 0 then sumI (es.map (·.add)) else 0)
  let relT := if r.par.rule = 0 && !invalid then release bT pT qT else none
  let totQ := match r.par.rule with
    | 0 => (List.range 4).map fun k => relTo k relT
    | 1 => (List.range 4).map sumQ
    | _ => [sumQ 0 + sumQ 1, 0, 0, sumQ 2 + sumQ 3]
  let totA := match r.par.rule with
    | 0 => if 0 ≤ pT then [allApp, 0] else [0, allApp]
    | 1 => [sumN (app 0), sumN (app 1)]
    | _ => [allApp, 0]
  (quads ++ totQ ++ app 0 ++ app 1 ++ totA, es.map (·.bal) ++ [if relT.isSome then 0 else bT])

/-- Groups 2 and 3 of one epoch whose record the ring holds. -/
def mEpoch (r : SumsRec) (s : State) : State :=
  let m0 := measOf s r
  let s := condWindow r m0 s
  let m := (m0.withConds s.met.neutral s.met.reverse).fit s.clk.free
  let s := { s with clk := { s.clk with free := s.clk.free + 5 } }
  let (inc, bal) := kilnInc r m0 s.met.bal
  let k : KilnInc := ⟨r.epoch, inc, bal.take 3⟩
  let log := m.phases.map (·.vrms) ++ m.phases.map (·.irms) ++ [m.inRms, m.freq, m0.pTot.toNat]
  let s := setMet (fun x => { x with
    meas := some m, bal := bal, kilnSets := x.kilnSets ++ [k], kilnLog := pushRing 512 x.kilnLog k
    measLog := pushRing 512 x.measLog (r.epoch, log), kDone := r.epoch }) s
  if isStandby s && decide (s.hng.ownFrom ≤ 320 * r.epoch) then
    setHng (fun h => { h with own := addKiln h.own inc }) s
  else s

/-- Epochs that the ring no longer holds are lost to groups 2 and 3 (R14). -/
def mLost (first last : Nat) (s : State) : State :=
  logNow 0x0109 (le 8 first ++ le 8 last) (setMet (fun x => { x with kDone := last }) s)

/-- The next epoch of the class M chain: computed in order, as the balance of R115 asks. -/
def mNext (s : State) : State :=
  let e := s.met.kDone + 1
  match s.met.ring.head? with
  | none => s
  | some r0 =>
    let held := max r0.epoch (s.met.epoch - 512)
    if e < held then mLost e (held - 1) s
    else match s.met.ring.find? (·.epoch == e) with
      | none => s
      | some r => if accepted s .m e then mEpoch r s else s

/-- All epochs that have become computable, at most the given number. -/
def mChain : Nat → State → State
  | 0, s => s
  | n + 1, s =>
    let s' := mNext s
    if s'.met.kDone = s.met.kDone then s else mChain n s'

/-- Kiln completes groups 2 and 3 through an epoch at once (R118: HOLDUP). -/
def mComplete (e : Nat) (s : State) : State :=
  (s.met.ring.filter fun r => decide (s.met.kDone < r.epoch) && decide (r.epoch ≤ e)).foldl (fun s r => mEpoch r s) s

end Sys2Proof.Machine
end

