-- ==== Sys2Proof/Machine/KilnP.lean ====
section
/-! DEFINITION. Kiln's class P task (07): harmonic windows and supraharmonic blocks. -/

namespace Sys2Proof.Machine

/-- A field of `n` bytes; a value outside the format has no stated value (log entry 38). -/
def fitU (n i v : Nat) : Nat := if v < 256 ^ n then v else Config.freeNat i % 256 ^ n

/-- Full scale of a slot in µV or µA (R99). -/
def slotScale (p : EpochParams) (k : Nat) : Nat := if k % 2 = 0 then 800000000 else 1000 * p.scale (k / 2)

/-- A channel of slots 0–7 is in use: the neutral always, a phase's channels with the phase (R151). -/
def slotOn (p : EpochParams) (k : Nat) : Bool := decide (6 ≤ k) || p.on (k / 2)

/-! Samples of a window (R150, R151). -/

/-- Codes of a slot for an absolute sample number, from the ring of R163 and the epoch in progress. -/
def ringCode (s : State) (k : Nat) (a : Int) : Int :=
  let row : Option (List Sample) := if (s.met.epoch : Int) = a / 320 then some s.met.samples
    else (s.led.waveRing.find? fun r => (r.1 : Int) == a / 320).map (·.2)
  match row.bind (·[(a % 320).toNat]?) with
  | some m => code m.codes k
  | none => 0

/-- One phase of the interpolator over codes, in 2^-30 code. -/
def interpPhase (x : List Int) (p : Nat) : Int := sumI (x.mapIdx fun i c => if i < 16 then Config.interpTap p i * c else 0)

/-- The interpolator of R151, in 2^-16 code: the codes from seven before the instant on, and the instant's fraction num ÷ den of
a sample; linear between adjacent phases, phase 64 being phase 0 a sample later (log entry 39). -/
def interp (x : List Int) (num den : Nat) : Int :=
  let p := 64 * num / den
  let r := 64 * num % den
  let y0 := interpPhase x p
  let y1 := if p = 63 then interpPhase (x.drop 1) 0 else interpPhase x (p + 1)
  divRound (y0 * ((den - r : Nat) : Int) + y1 * (r : Int)) (den * 2 ^ 14)

/-- Points of a window in 2^-16 code: M = 512 × NW resampled ones, or the 6 400 native samples. -/
def windowPoints (s : State) (d : PqDue) (k : Nat) : List Int :=
  if d.nw = 0 then
    (List.range 6400).map fun (j : Nat) => 65536 * ringCode s k (((d.startPos / 256 : Nat) : Int) + (j : Int))
  else
    let m := 512 * d.nw
    let den : Nat := 2560 * m
    (List.range m).map fun (j : Nat) =>
      -- position of the point in slot k's samples, in 1/den sample
      let t : Int := ((d.startPos * 10 * m + j * (d.endPos - d.startPos) * 10 : Nat) : Int)
        + 256 * (m : Int) * ((d.ref.getD 0 : Int) - (k : Int))
      let n := t / (den : Int)
      interp ((List.range 17).map fun (i : Nat) => ringCode s k (n - 7 + (i : Int))) (t % (den : Int)).toNat den

/-- The samples a window's analysis reaches have left the main path. -/
def windowReady (s : State) (d : PqDue) : Bool := decide (d.endPos / 256 + (if d.nw = 0 then 0 else 10) ≤ sampleNow s)

/-! Spectra (R151, R152, R156). -/

/-- One bin of the discrete Fourier transform of points in 2^-16 code, real and imaginary part in 2^-16 code. -/
def dft (y : List Int) (b : Nat) : Int × Int :=
  let m := y.length
  let w (j : Nat) : Int × Int := Config.twiddle (j * b % m) m
  (divRound (sumI (y.mapIdx fun j v => v * (w j).1)) (2 ^ 30), -divRound (sumI (y.mapIdx fun j v => v * (w j).2)) (2 ^ 30))

/-- The argument of a bin in 2^-32 turns, by bisection over the turn. -/
def arg (x : Int × Int) : Int :=
  let start : Nat := if x.2 < 0 || x.2 = 0 && x.1 < 0 then 2 ^ 31 else 0
  let angle := (List.range 31).foldl (fun (t : Nat) i =>
    let t' := t + 2 ^ (30 - i)
    let w := Config.twiddle t' (2 ^ 32)
    if 0 ≤ x.2 * w.1 - x.1 * w.2 then t' else t) start
  angle

def binPower (x : Int × Int) : Nat := x.1.natAbs ^ 2 + x.2.natAbs ^ 2

/-- The rms of a sum of bin powers in a channel's unit: √(2 Σ|X|²) ÷ M × scale. -/
def rmsOfBins (power m scale : Nat) : Nat := divRoundN (isqrt (2 * power * 2 ^ 16) * scale) (m * 2 ^ 46)

/-- A difference of arguments wrapped to ±180°, in 0.01°. -/
def wrapDeg (t : Int) : Int :=
  let u := t % (2 ^ 32 : Int)
  divRound ((if u < 2 ^ 31 then u else u - 2 ^ 32) * 36000) (2 ^ 32)

/-- A ratio in 0.01 %. -/
def ratio (a b : Nat) : Nat := divRoundN (10000 * a) b

/-- The results of one channel (R152); `xr` is the reference's fundamental. -/
def pqChanOf (free scale kk m : Nat) (y : List Int) (xr : Int × Int) : PqChan :=
  let x (b : Nat) : Int × Int := dft y b
  let band (lo hi : Nat) : Nat := sumN ((List.range (hi + 1 - lo)).map fun i => binPower (x (lo + i)))
  let pw (h : Nat) : Nat := band (kk * h - 1) (kk * h + 1)
  let mag (h : Nat) : Nat :=
    if h = 0 then divRoundN ((x 0).1.natAbs * scale) (m * 2 ^ 38) else rmsOfBins (pw h) m scale
  let ph (h : Nat) : Int := if h = 0 then 0 else wrapDeg (arg (x (kk * h)) - (h : Int) * arg xr)
  let thd (top : Nat) : Nat :=
    if 100 * mag 1 < scale then 0
    else fitU 2 free (ratio (rmsOfBins (sumN ((List.range (top - 1)).map fun i => pw (i + 2))) m scale) (mag 1))
  { fund := mag 1, fundPh := ph 1, thd40 := thd 40, thd127 := thd 127
    trms := rmsOf (divRoundN (sumN (y.map fun v => v.natAbs ^ 2)) (2 ^ 32)) y.length scale
    mag := (List.range 128).map mag, ph := (List.range 128).map ph
    ih := (List.range 128).map fun h => rmsOfBins (band (kk * h + 2) (kk * h + kk - 2)) m scale }

/-- A channel that is disabled, or that holds an unusable sample (R165). -/
def noChan : PqChan := ⟨0, 0, 0, 0, 0, List.replicate 128 0, List.replicate 128 0, List.replicate 128 0⟩

/-! Symmetrical components (R154). -/

/-- √3 in 2^-30. -/
def root3 : Int := (isqrt (3 * 2 ^ 60) : Nat)

/-- A phasor turned by +120° or −120°, twice its value in 2^-30 (the factor is common to the three terms). -/
def turn (plus : Bool) (x : Int × Int) : Int × Int :=
  let r := if plus then root3 else -root3
  (-(2 ^ 30 * x.1) - r * x.2, r * x.1 - 2 ^ 30 * x.2)

def twice (x : Int × Int) : Int × Int := (2 ^ 31 * x.1, 2 ^ 31 * x.2)
def addP (a b : Int × Int) : Int × Int := (a.1 + b.1, a.2 + b.2)

/-- |U1|, |U2| and |U0| of three phasors, on a common scale. -/
def symmetric (a b c : Int × Int) : Nat × Nat × Nat :=
  let amp (x : Int × Int) : Nat := isqrt (binPower x)
  (amp (addP (twice a) (addP (turn true b) (turn false c))), amp (addP (twice a) (addP (turn false b) (turn true c))),
    amp (addP (twice a) (addP (twice b) (twice c))))

/-- The ratios of two components to a base, in 0.01 %; a ratio to 0 has no stated value. -/
def ratios (free x2 x0 base : Nat) : Nat × Nat :=
  if base = 0 then (Config.freeNat free % 65536, Config.freeNat (free + 1) % 65536)
  else (fitU 2 free (ratio x2 base), fitU 2 (free + 1) (ratio x0 base))

/-- u2 and u0 of three phasors, relative to |U2| in the reversed order, which is the third value. -/
def unbalanceU (free : Nat) (a b c : Int × Int) : Nat × Nat × Bool :=
  let (u1, u2, u0) := symmetric a b c
  let (r2, r0) := ratios free (min u1 u2) u0 (max u1 u2)
  (r2, r0, decide (u1 < u2))

/-- i2 and i0 of three phasors. -/
def unbalanceI (free : Nat) (a b c : Int × Int) : Nat × Nat :=
  let (i1, i2, i0) := symmetric a b c
  ratios free i2 i0 i1

/-! One window (R152, R154, R168). -/

/-- The parts of the records of a window: whole epochs, or from its first crossing to its last. -/
def windowParts (s : State) (d : PqDue) : List (SumsRec × Part) :=
  let rs := s.met.ring.filter fun r => decide (d.firstEpoch ≤ r.epoch) && decide (r.epoch ≤ d.lastEpoch)
  rs.map fun r => (r, if d.nw = 0 then .whole else if r.epoch = d.firstEpoch then .post
    else if r.epoch = d.lastEpoch then .pre else .whole)

/-- Slots 0–7 with an unusable sample among marked ones. -/
def unusable (m : Marks) : Nat := (m.invalid ||| m.settling) % 256

/-- Flags of R168 that some parts of records give to a mask of slots. -/
def partFlags (l : List (SumsRec × Part)) (mask : Nat) : Nat :=
  let m := marksIn l
  packBits [false, unusable m &&& mask != 0, m.ovr &&& mask != 0, m.sat &&& mask != 0, l.any (·.1.otherSet), false,
    m.disarmed, false]

def windowResult (s : State) (d : PqDue) : PqWindow :=
  let rs := windowParts s d
  let p := ((rs.getLast?).map (·.1.par)).getD (epochParams s d.lastEpoch)
  let bad := unusable (marksIn rs)
  let m := if d.nw = 0 then 6400 else 512 * d.nw
  let kk := if d.nw = 0 then p.fNom / 5 else d.nw
  let ys := (List.range 8).map (windowPoints s d)
  let y (k : Nat) : List Int := (ys[k]?).getD []
  let xr := dft (y (d.ref.getD 0)) kk
  let free := s.clk.free
  let chans := (List.range 8).map fun k =>
    if slotOn p k && !bitN bad k then pqChanOf (free + k) (slotScale p k) kk m (y k) xr else noChan
  let phasor (k : Nat) : Int × Int :=
    if bitN bad k then (0, 0)
    else
      let x := dft (y k) kk
      let sc : Int := if k % 2 = 0 then 1 else p.scale (k / 2)
      (x.1 * sc, x.2 * sc)
  let all := p.phases % 8 == 7
  let v := if all then unbalanceU (free + 8) (phasor 0) (phasor 2) (phasor 4) else (0, 0, false)
  let i := if all then unbalanceI (free + 10) (phasor 1) (phasor 3) (phasor 5) else (0, 0)
  let mags := ((chans[7]?).getD noChan).mag
  let trip := isqrt (sumN ((List.range 21).map fun h => ((mags[6 * h + 3]?).getD 0) ^ 2))
  { due := d, freq := if d.nw = 0 then 0 else divRoundN (d.nw * 32000 * 256 * 10 ^ 6) (d.endPos - d.startPos)
    flags := partFlags rs 0xFF + (if d.nw = 0 then 1 else 0) + (if v.2.2 then 32 else 0), invalid := bad, chans := chans
    u2 := v.1, u0 := v.2.1, i2 := i.1, i0 := i.2, triplen := trip }

/-- A window is analysed, or is missed when its work is shed (R163, R249). -/
def pWindow (d : PqDue) (s : State) : State :=
  let s := setPq (fun q => { q with due := q.due.filter (· != d) }) s
  if 3 ≤ shedLevel s then setPq (fun q => { q with missed := satInc 0xFFFFFFFF q.missed }) s
  else
    let w := windowResult s d
    { s with
      clk := { s.clk with free := s.clk.free + 12 }
      pq := { s.pq with windows := (w :: s.pq.windows).take 8, through := max s.pq.through d.lastEpoch } }

/-! Supraharmonics (R155, R156). -/

/-- A slot's current channel has a Rogowski coil: MET.SENSOR_TYPE 1 (R76). -/
def rogowski (p : EpochParams) (k : Nat) : Bool := k % 2 = 1 && chan2 p.sensor (k / 2) == 1

/-- π in 2^-60. -/
def pi60 : Nat := 3622009729038561421

/-- |R(f)|² at the 5 Hz bin b as a fraction (R156): the stage 1 filter of the ROM set, the only one in the wide path (R82); the
input pole; and x ÷ tan x on Rogowski channels. -/
def pathResponse (p : EpochParams) (k b : Nat) : Nat × Nat :=
  let h := mirror (Config.romFilter 0)
  let x := h.mapIdx fun i c => (c * (Config.twiddle (b * i % 1280000) 1280000).1, c * (Config.twiddle (b * i % 1280000) 1280000).2)
  let h0 := (sumI h).natAbs * 2 ^ 30
  let f := binPower (sumI (x.map (·.1)), sumI (x.map (·.2)))
  let pole := if k % 2 = 0 then 362000 else 796000
  let w := Config.twiddle b 160000
  let t : Nat × Nat := if rogowski p k then ((pi60 * b * w.1.natAbs) ^ 2, (80000 * 2 ^ 60 * w.2.natAbs) ^ 2) else (1, 1)
  (f * pole ^ 2 * t.1, h0 ^ 2 * (pole ^ 2 + (5 * b) ^ 2) * t.2)

def blockResult (s : State) (b : PqBlock) : PqSh :=
  let last := b.firstEpoch + 19
  let rs := (s.met.ring.filter fun r => decide (b.firstEpoch ≤ r.epoch) && decide (r.epoch ≤ last)).map fun r => (r, Part.whole)
  let p := ((rs.getLast?).map (·.1.par)).getD (epochParams s last)
  let fl := partFlags rs (2 ^ b.slot) + (if b.tx then 128 else 0)
  let y := b.samples.map (65536 * ·)
  let n := b.samples.length
  let power (j : Nat) : Nat :=
    let x := binPower (dft y j)
    if bitN fl 4 then x
    else let r := pathResponse p b.slot j; divRoundN (x * r.2) (max 1 r.1)
  let band (j : Nat) : Nat := sumN ((List.range 40).map fun i => power (400 + 40 * j + i))
  let rms (v : Nat) : Nat :=
    divRoundN (isqrt (2 * v * 2 ^ 16) * slotScale p b.slot * 2 ^ b.shift) (max 1 n * 2 ^ 51)
  let off := bitN fl 1
  let b200 := if off then List.replicate 740 0 else (List.range 740).map fun j => rms (band j)
  let b2k := if off then List.replicate 74 0
    else (List.range 74).map fun m => rms (sumN ((List.range 10).map fun i => band (10 * m + i)))
  ⟨b.slot, b.firstEpoch, last, b.shift, fl, b200, b2k⟩

/-- A slot's results with a new one, without those that no snapshot can ask for any more (R162). -/
def keepSh (through : Nat) (b : PqSh) (l : List PqSh) : List PqSh :=
  b :: (l.filter fun x => decide (through < x.lastEpoch)) ++ ((l.find? fun x => decide (x.lastEpoch ≤ through)).toList)

def pBlock (b : PqBlock) (s : State) : State :=
  let s := setPq (fun q => { q with shDue := q.shDue.filter (· != b) }) s
  if 2 ≤ shedLevel s then setPq (fun q => { q with missed := satInc 0xFFFFFFFF q.missed }) s
  else
    let r := blockResult s b
    setPq (fun q => { q with sh := modAt q.sh b.slot (keepSh s.snap.groups.through5 r) }) s

/-- A task can run: a harmonic window needs the samples that its analysis reaches. -/
def canRun (s : State) (t : Task) : Bool :=
  match t.cls, t.part, s.pq.due.find? (·.lastEpoch == t.epoch) with
  | .p, 0, some d => windowReady s d
  | _, _, _ => true

/-- A class P task: part 0 the harmonic window, part 1 the supraharmonic block ending in an epoch (R241). -/
def pTask (epoch part : Nat) (s : State) : State :=
  if part = 0 then
    match s.pq.due.find? (·.lastEpoch == epoch) with
    | some d => pWindow d s
    | none => s
  else
    match s.pq.shDue.find? fun b => b.firstEpoch + 19 == epoch with
    | some b => pBlock b s
    | none => s

end Sys2Proof.Machine
end

