-- ==== Sys2Proof/Machine/KilnRun.lean ====
section
/-! DEFINITION. Kiln runs its tasks (10): the choice of a task, its work, stealing. -/

namespace Sys2Proof.Machine

/-! The work of the periodic classes (R241–R243). -/

/-- Kiln's attribution goes on from epoch to epoch, as far as results have been accepted and no boundary waits; an epoch that
no record holds any more is passed over under R180. -/
def lChain : Nat → State → State
  | 0, s => s
  | n + 1, s =>
    let e := s.bil.through + 1
    if accepted s .l e || gapAt s e then
      let s' := ledgerEpoch e s
      if s'.bil.through = s.bil.through then s' else lChain n s'
    else s

/-- A result that D2 accepts: the first one of its epoch, class and part (R243). -/
def acceptResult (t : Task) (s : State) : State :=
  if s.kiln.accepted.contains (t.cls, t.epoch, t.part) then s
  else setKiln (fun x => { x with
    accepted := (t.cls, t.epoch, t.part) :: x.accepted.filter fun a => decide (s.clk.epoch ≤ a.2.1 + 512) }) s

/-- A task runs to completion; a second result of an epoch, class and part is discarded (R243). Work of classes S, C and B is
that of the commands of its own chapter. -/
def runTask (t : Task) (s : State) : State :=
  if t.cls = .v && s.kiln.accepted.contains (t.cls, t.epoch, t.part) then s else
  let s := acceptResult t s
  match t.cls with
  | .m => mChain 512 s
  | .l => armBoundaries (if isStandby s then s else lChain 512 s)
  | .v => vehicleEpoch t.epoch s
  | .p => pTask t.epoch t.part s
  | .s | .c | .b => s

/-- The task a cell takes first: the earliest deadline, then the order of the classes (R244). -/
def firstTask (l : List Task) : Option Task :=
  l.foldl (fun b t => match b with
    | none => some t
    | some x => if t.deadline < x.deadline || (t.deadline == x.deadline && decide (t.cls.rank < x.cls.rank)) then some t
        else some x) none

/-- KILN_TASK_RUN (R244): a masked cell takes no task (R258). -/
def execKilnTaskRun (k : Nat) (s : State) : Out :=
  match firstTask (cell s k).ready with
  | none => .next s
  | some t =>
    whenever (s.dom.d3 && (cell s k).healthy && !cellMasked s k && mayWake s k && canRun s t) s fun s =>
      runTask t (setCellK k (fun c => { c with ready := c.ready.erase t }) s)

/-- What take(v) yields (R246): of at least two ready tasks, the one of latest deadline never stolen. -/
def yields (s : State) (v : Nat) : Option Task :=
  let l := (cell s v).ready
  if !(cell s v).healthy || l.length < 2 then none
  else (l.filter fun t => !t.stolen).foldl (fun b t => match b with
    | none => some t
    | some x => if x.deadline < t.deadline then some t else some x) none

/-- Wedge register 1 denies all steals (R258); it does not act from t_f on (R260). -/
def stealsDenied (s : State) : Bool := bitN ((s.kiln.wedge[1]?).getD 0) 16 && !inHoldup s

/-- The 100 µs tick of the timebase, and the steal attempts that a cell has left in it (R247). -/
def stealTick (s : State) : Nat := s.clk.now / Tick.us 100
def triesLeft (s : State) (k : Nat) : Nat :=
  if (cell s k).tries.1 = stealTick s then 15 - (cell s k).tries.2 else 15

/-- The attempts of a round: the first victim that yields a task, and how many attempts it took (R246, R247). -/
def stealRound (s : State) (k : Nat) : Nat × Option (Nat × Task) :=
  let n := triesLeft s k
  let found := ((List.range n).map fun i => (i, (k + 1 + i) % 16)).findSome? fun v => (yields s v.2).map fun t => (v.1 + 1, v.2, t)
  match found with
  | some (i, v, t) => (i, some (v, t))
  | none => (n, none)

/-- KILN_STEAL (R246): the first victim of the round that yields a task; the thief runs it. -/
def execKilnSteal (k : Nat) (s : State) : Out :=
  whenever (s.dom.d3 && (cell s k).healthy && !cellMasked s k && (cell s k).ready.isEmpty && !stealsDenied s
      && mayWake s k) s fun s =>
    let (n, found) := stealRound s k
    let s := setCellK k (fun c => { c with tries := (stealTick s, 15 - triesLeft s k + n) }) s
    match found with
    | none => s
    | some (v, t) =>
      let s := setCellK v (fun c => { c with ready := c.ready.erase t }) s
      if canRun s t then runTask t s else setCellK k (fun c => { c with ready := [{ t with stolen := true }] }) s

end Sys2Proof.Machine
end

