-- ==== Sys2Proof/Machine/Sagger.lean ====
section
/-! DEFINITION. Sagger (16): key replacement, the opcodes, life-cycle requests, tamper sensing, zeroisation and Spyhole debug.
The restart of a life-cycle transition stands with the other restarts. -/

namespace Sys2Proof.Machine

/-! Replacement of a key (R393, R394). -/

/-- The 16-byte HEADER (R409). -/
def keyHeader (slot type attr usesMax : Nat) : List Byte :=
  le 1 slot ++ le 1 type ++ zeros 2 ++ le 4 attr ++ le 4 usesMax ++ zeros 4

/-- SLOT, TYPE and ATTR of a header are in range: UNWRAP is for AES-256 only, DERIVE for HMAC-SHA256 only (R389, R390). -/
def headerOk (slot type attr : Nat) : Bool :=
  decide (slot < 64) && (keyLen type).isSome && decide (attr < 2 ^ 12) && (!bitN attr aUnwrap || type == 2)
    && (!bitN attr aDerive || type == 3)

/-- The kept public keys once a slot has a new generation: the current one, where it has a public key and EXPORT_PUB, and those
of the 4 generations before it, none for a slot without EXPORT_PUB (R395). -/
def keepPubs (l : List PubKey) (slot gen : Nat) (exported : Bool) (p : Option PubKey) : List PubKey :=
  let near (k : PubKey) : Bool := k.slot == slot && decide ((gen + 65536 - k.gen) % 65536 ≤ 4)
  p.toList ++ l.filter fun k => k.slot != slot || (exported && near k)

/-- The public key of a private or public key. -/
def publicKey (type : Nat) (key : List Byte) : List Byte := if 8 ≤ type then key else Config.publicOf type key

/-- Step 2 of R394: the key's own test, and the match with an attached public key for a written or imported private key. -/
def keyPasses (s : State) (path slot type : Nat) (key : List Byte) : Bool :=
  Config.keyTest type key &&
    (!(path == 2 || path == 3) || !(4 ≤ type && type ≤ 7) ||
      s.sag.pubs.all fun p => p.slot != slot || p.gen != genOf s slot || p.cert.isEmpty || p.pub == Config.publicOf type key)

/-- A key enters a slot: directly when it is empty, else by replacement (R393, R394). -/
def putKey (path slot type attr usesMax : Nat) (key : List Byte) (sender : Nat) (s : State) : Answer :=
  let old := slotOf s slot
  if (old.map fun p => bitN p.attr aImmutable).getD false then refuse s stImmutable
  else if old.isSome && !keyPasses s path slot type key then refuse s stTestFailed
  else
    let gen := match old with | some p => (p.gen + 1) % 65536 | none => 0
    let p : Slot := ⟨slot, type, s.sag.root, attr, gen, usesMax, usesMax, s.clk.epoch, key, true⟩
    let s := setSag (fun g => { g with
      slots := g.slots.filter (·.slot != slot) ++ [p]
      badLogged := setBitN g.badLogged slot false
      pubs := keepPubs g.pubs slot gen (bitN attr aExportPub)
        (if bitN attr aExportPub then (pubType type).map fun t => ⟨slot, t, gen, publicKey type key, []⟩ else none) }) s
    let s := match old with
      | some o => sagEvent 4 slot (logNowF 0x0803 0 sender (le 1 slot ++ le 1 path ++ le 2 o.gen ++ le 2 gen) s)
      | none => s
    answer s stOk (le 2 gen ++ zeros 2 ++ le 8 s.clk.epoch)

def execSagKeyGenerate (r : Req) (slot type attr usesMax : Nat) (s : State) : Out :=
  brixo 0x0802 r s fun s =>
    if s.sag.root = 0 then refuse s stRootUnavailable
    else if !headerOk slot type attr || 8 ≤ type then refuse s stBadParam
    else
      let (i, s) := takeFree s
      putKey 1 slot type attr usesMax (padTo ((keyLen type).getD 0) (Config.random i ((keyLen type).getD 0))) r.sender.code s

/-- Clear writes come on the main path; from HOST_SPI and SPYHOLE in life-cycle FACTORY only (R393). -/
def execSagKeyWrite (r : Req) (slot type attr usesMax : Nat) (key : List Byte) (s : State) : Out :=
  brixo 0x0803 r s fun s =>
    if !(r.sender == .internal || ((r.sender == .hostSpi || r.sender == .spyhole) && inFactory s)) then refuse s stSender
    else if s.sag.root = 0 then refuse s stRootUnavailable
    else if !headerOk slot type attr || keyLen type != some key.length then refuse s stBadParam
    else putKey 2 slot type attr usesMax key r.sender.code s

def fieldOrFactory (s : State) : Bool := s.sag.lifecycle == .factory || s.sag.lifecycle == .field

def execSagKeyImport (r : Req) (slot type attr usesMax unwrapSlot : Nat) (wrapped : List Byte) (s : State) : Out :=
  brixo 0x0804 r s fun s =>
    if !fieldOrFactory s then refuse s stWrongMode
    else if s.sag.root = 0 then refuse s stRootUnavailable
    else if !headerOk slot type attr then refuse s stBadParam
    else match slotRefusal (noteBad unwrapSlot s) unwrapSlot aUnwrap with
      | some st => refuse (noteBad unwrapSlot s) st
      | none =>
        let plain := Config.unwrap (keyOf s unwrapSlot) wrapped
        let s := consume unwrapSlot s
        match plain with
        | none => refuse s stIntegrity
        | some p =>
          if p.take 16 != keyHeader slot type attr usesMax then refuse s stIntegrity
          else if keyLen type != some (p.length - 16) then refuse s stBadParam
          else putKey 3 slot type attr usesMax (p.drop 16) r.sender.code s

/-- SAG_KEY_DERIVE: an ATTR outside the source's is ATTRIBUTE_DENIED (log entry 32). -/
def execSagKeyDerive (r : Req) (src slot type attr usesMax : Nat) (info : List Byte) (s : State) : Out :=
  brixo 0x0805 r s fun s =>
    if !fieldOrFactory s then refuse s stWrongMode
    else if s.sag.root = 0 then refuse s stRootUnavailable
    else if !headerOk slot type attr || 3 < type || 64 < info.length then refuse s stBadParam
    else match slotRefusal (noteBad src s) src aDerive with
      | some st => refuse (noteBad src s) st
      | none =>
        let own := ((slotOf s src).map (·.attr)).getD 0
        if attr &&& maskWithout own (2 ^ aDerive) != attr then refuse s stAttributeDenied
        else
          let n := (keyLen type).getD 0
          let key := padTo n (Config.hkdf (keyOf s src) (le 8 s.ident.moduleId) info n)
          putKey 4 slot type attr usesMax key r.sender.code (consume src s)

def execSagKeyErase (r : Req) (slot : Nat) (s : State) : Out :=
  brixo 0x0806 r s fun s =>
    if s.sag.root = 0 then refuse s stRootUnavailable
    else match slotOf s slot with
      | none => refuse s stSlotEmpty
      | some p =>
        if bitN p.attr aImmutable then refuse s stImmutable
        else answer (setSag (fun g => { g with
          slots := g.slots.filter (·.slot != slot), pubs := g.pubs.filter (·.slot != slot) }) s) stOk

/-! Status, public keys and certificates. -/

def execSagStatus (r : Req) (s : State) : Out :=
  brixo 0x0800 r s fun s =>
    let g := s.sag
    let st (v : Nat) : Nat := packBits ((List.range 64).map fun k => slotState s k == v)
    let head := le 1 g.lifecycle.code ++ le 1 g.root
      ++ le 1 (packBits [g.debugOpen, g.lcPending.isSome, tamperBlocks s, g.erasePending])
    if r.sender == .letterbox then answer s stOk (padTo 32 head)
    else
      answer (setSag (fun g => { g with tamperSeen := 0 }) s) stOk (head ++ le 1 g.tamperActive
        ++ le 8 (packBits ((List.range 64).map fun k => (slotOf s k).isSome)) ++ le 8 (st 2) ++ le 8 (st 3)
        ++ le 2 g.pufCorrected ++ le 1 g.tamperSeen ++ zeros 1)

def execSagSlotInfo (r : Req) (slot : Nat) (s : State) : Out :=
  brixo 0x0801 r s fun s =>
    if 64 ≤ slot then refuse s stBadParam
    else match slotOf s slot with
      | none => answer s stOk (keyHeader slot 0 0 0 ++ zeros 1 ++ zeros 1 ++ zeros 2 ++ le 4 0xFFFFFFFF)
      | some p =>
        answer (noteBad slot s) stOk (keyHeader slot p.type p.attr p.usesMax ++ le 1 (slotState s slot) ++ le 1 p.root
          ++ le 2 p.gen ++ le 4 (if bitN p.attr aCounted then p.usesLeft else 0xFFFFFFFF))

def execSagPubkeyExport (r : Req) (slot which gen : Nat) (s : State) : Out :=
  brixo 0x0807 r s fun s =>
    if 64 ≤ slot || 1 < which then refuse s stBadParam
    else match slotBar (noteBad slot s) slot aExportPub with
      | some st => refuse (noteBad slot s) st
      | none =>
        let g := if which = 0 then genOf s slot else gen
        match s.sag.pubs.find? fun k => k.slot == slot && k.gen == g with
        | none => refuse s stBadParam
        | some k =>
          let cert := if r.sender = .letterbox then [] else k.cert
          answer s stOk (le 1 k.type ++ zeros 1 ++ le 2 k.gen ++ le 2 k.pub.length ++ le 2 cert.length ++ k.pub ++ cert)

def execSagCertAttach (r : Req) (slot : Nat) (cert : List Byte) (s : State) : Out :=
  brixo 0x0808 r s fun s =>
    if 2048 < cert.length then refuse s stBadLength
    else match slotBar (noteBad slot s) slot aExportPub with
      | some st => refuse (noteBad slot s) (if st = stSlotEmpty then stAttributeDenied else st)
      | none =>
        let hit (k : PubKey) : Bool := k.slot == slot && k.gen == genOf s slot
        let attach (k : PubKey) : PubKey := if hit k then { k with cert := cert } else k
        match s.sag.pubs.find? hit with
        | none => refuse s stIntegrity
        | some k =>
          if Config.certSubject cert != k.pub then refuse s stIntegrity
          else answer (setSag (fun g => { g with pubs := g.pubs.map attach }) s) stOk

/-! Life-cycle requests (R400–R402). -/

def lifecycleOf (n : Nat) : Option Lifecycle :=
  match n with
  | 0 => some .blank | 1 => some .factory | 2 => some .field | 3 => some .returned | 4 => some .ended
  | _ => none

/-- An open Shutter configuration session (R359). -/
def configOpen (s : State) : Bool := s.shu.session.isSome

/-- R140 lets the module leave FACTORY. -/
def sealReady (s : State) : Bool :=
  !calDirty s && param s 0x02A3 != 0 && (List.range 4).all fun c => chan2 (param s 0x0245) c == 0

/-- The unlock object (R402): its status, none where it is valid. -/
def unlockRefusal (s : State) (u : List Byte) : Option Nat :=
  let chal := (u.drop 16).take 32
  if u.length != 128 || fieldAt u 0 1 != 1 || fieldAt u 8 8 != s.ident.moduleId then some stIntegrity
  else if !Config.verify 2 Config.returnAuthorityKey (u.take 64) (u.drop 64) then some stIntegrity
  else if s.sag.challenge != some chal then some stReplayed
  else none

/-- The refusal of a transition, none where it may begin (R400). -/
def lcRefusal (s : State) (t : Lifecycle) (snd : Sender) (u : List Byte) : Option Nat :=
  let session : Option Nat := if snd != .hostSpi then some stSender else if !configOpen s then some stPassword else none
  match s.sag.lifecycle, t with
  | .blank, .factory => none
  | .factory, .field =>
    let k := slotOf s (signSlot s)
    if sealReady s && s.shu.password.isSome && slotState s (signSlot s) == 1
      && (k.map fun p => bitN p.attr aSign && bitN p.attr aCarry).getD false && !s.sag.debugOpen then none
    else some stLcCondition
  | .field, .returned => session.or (if sessionOpen s || !kmOpen s then some stLcCondition else none)
  | .returned, .factory => if snd != .spyhole then some stSender else unlockRefusal s u
  | .factory, .ended | .field, .ended | .returned, .ended =>
    session.or (if !kmOpen s || s.led.readings.any (·.signature.isNone) then some stLcCondition else none)
  | _, _ => some stLcCondition

/-- SAG_LIFECYCLE_SET: the reply first, then the record with PENDING (R401); the restart is LIFECYCLE_RESTART. No transition is
permitted from one that is pending. -/
def execSagLifecycleSet (r : Req) (target : Nat) (unlock : List Byte) (s : State) : Out :=
  brixo 0x0809 r s fun s =>
    match lifecycleOf target with
    | none => refuse s stLcCondition
    | some t =>
      match (if s.sag.lcPending.isSome then some stLcCondition else lcRefusal s t r.sender unlock) with
      | some st => refuse s st
      | none =>
        let s := setSag (fun g => { g with
          lcPending := some t
          usedChallenges := g.usedChallenges ++ (g.challenge.toList.filter fun _ => g.lifecycle == .returned)
          challenge := if g.lifecycle == .returned then none else g.challenge }) s
        answer s stOk (le 8 (s.clk.epoch + 1))

def execSagUnlockChallenge (r : Req) (s : State) : Out :=
  brixo 0x080B r s fun s =>
    if s.sag.lifecycle != .returned then refuse s stWrongMode
    else
      let (i, s) := takeFree s
      let c := padTo 32 (Config.random i 32)
      answer (setSag (fun g => { g with challenge := some c, challengeNo := g.challengeNo + 1 }) s) stOk c

/-! Tamper (R396–R399). -/

def execSagTamperAck (r : Req) (mask : Nat) (s : State) : Out :=
  brixo 0x080A r s fun s =>
    if mask &&& s.sag.blocking &&& s.sag.tamperActive != 0 then refuse s stConditionActive
    else
      let s := setSag (fun g => { g with blocking := maskWithout g.blocking mask }) s
      answer s stOk (le 1 s.sag.blocking)

/-- The state of the TAMP inputs after a sample, from the active ones of this sample and the last (R397). -/
def tampNext (en was prev act : Nat) : Nat :=
  packBits ((List.range 3).map fun n =>
    bitN en n && (if bitN act n == bitN prev n then bitN act n else bitN was n))

/-- TAMP changes on VBAT enter the outage store with the RTC time (R522). -/
def storeTamp (old new : Nat) (s : State) : State :=
  (List.range 3).foldl (fun s n =>
    if bitN old n == bitN new n then s
    else if s.nl.outageTamp.length < 16 then
      { s with nl := { s.nl with outageTamp := s.nl.outageTamp ++ [(n, bitN new n, civilSec (rtcNow s))] } }
    else { s with nl := { s.nl with outageOverflow := true } }) s

/-- The cover source follows the inputs. -/
def coverFollow (s : State) : State :=
  if s.sag.tamp != 0 && !bitN s.sag.tamperActive 5 then tamperOn 5 s
  else if s.sag.tamp == 0 && bitN s.sag.tamperActive 5 then tamperOff 5 s
  else s

/-- TAMP_SAMPLE: the levels of TAMP0–TAMP2, 1 for an open loop. -/
def execTampSample (levels : Nat) (s : State) : Out :=
  whenever s.dom.d0 s fun s =>
    let act := (levels ^^^ param s 0x0802) &&& param s 0x0801
    let old := s.sag.tamp
    let new := tampNext (param s 0x0801) old s.sag.tampPrev act
    let s := setSag (fun g => { g with tamp := new, tampPrev := act }) s
    if s.pwr.d0OnRails then coverFollow (if new = 0 || s.mode.mode != .watch then s else wakeSeen 4 s)
    else storeTamp old new (advanceTo (s.clk.now + Tick.ms 100) s)

def execEarthLoading (s : State) : Out :=
  match s.inp.npeSince with
  | none => .next s
  | some t => whenever (s.dom.d2 && !bitN s.sag.tamperActive 4) s fun s => tamperOn 4 (advanceTo (t + Tick.s 10) s)

/-- Step 1 of R399: root, derived keys and RAM slots; the public test root goes with them. -/
def zeroiseRam (s : State) : State :=
  setSag (fun g => { g with root := 0, slots := g.slots.filter fun p => !bitN p.attr aExpire }) s

/-- Steps 2 and 3 of R399, with ZEROISED: at once, or completed at a start. -/
def zeroiseFlash (src : Nat) (atStart : Bool) (s : State) : State :=
  let s := setSag (fun g => { g with
    helperA := false, helperB := false, slots := [], pubs := [], lifecycle := .ended, lcPending := none
    erasePending := false, dbgEnable := false }) s
  sagEvent 5 src (logNow 0x0804 (le 1 src ++ le 1 (b2n atStart) ++ zeros 2) s)

/-- MESH_BREACH: D0 latches it on VBAT; the erase waits for the next start in HOLDUP and without the rails. -/
def execMeshBreach (potting : Bool) (s : State) : Out :=
  whenever s.dom.d0 s fun s =>
    let src := if potting then 7 else 6
    let s := setSag (fun g => { g with
      mesh := g.mesh || !potting, potting := g.potting || potting
      tamperActive := setBitN g.tamperActive src true, tamperSeen := setBitN g.tamperSeen src true
      since := g.since.set src s.clk.now, erasePending := true }) s
    let s := zeroiseRam s
    if s.pwr.d0OnRails && !inHoldup s then zeroiseFlash src false (sagEvent 1 src s) else s

/-! Spyhole (R403, R404). -/

def debugAllowed (s : State) : Bool := s.sag.lifecycle == .blank || inFactory s

def execDbgEnableWrite (value : Nat) (s : State) : Out :=
  whenever (debugAllowed s) s fun s => setSag (fun g => { g with dbgEnable := bitN value 0 }) s

/-- SPYHOLE_DEBUG_ACCESS: ACK OK (0b001) while debug is open, with a free word for a read, since the spec does not lay out
SPACE 1 (log entry 33); otherwise FAULT (0b100). -/
def execSpyholeDebugAccess (read : Bool) (_addr _data : Nat) (s : State) : Out :=
  whenever s.dom.d3 s fun s =>
    if debugAllowed s && s.sag.debugOpen then
      let (i, s) := takeFree s
      setSag (fun g => { g with spyAck := 1, spyData := if read then Config.freeNat i % 2 ^ 32 else g.spyData }) s
    else setSag (fun g => { g with spyAck := 4 }) s

end Sys2Proof.Machine
end

