-- ==== Sys2Proof/Machine/Tokens.lean ====
section
/-! DEFINITION. Current tokens (20): transfer, renewal, recall, return and reissue (R472–R477). -/

namespace Sys2Proof.Machine

/-- The clock by which a home counts a lease as ended: LIN.LEASE, 200 ppm of it and 1 s (R474, R476). -/
def reissueTime (s : State) : Tick := Tick.s (leaseS s) + 40960 * leaseS s + Tick.s 1

/-- What the own offer becomes once the tokens held have changed; LIN_EVENT 7 where they did (R470, R479). -/
def tokensMoved (peer old : Nat) (s : State) : State :=
  let s := if inHoldup s || isStandby s then s else askPilot (freeVend (updateLimits s))
  if tokensHeld s = old then s else linEvent 7 0xFF peer s

def setPlaces (tokens : List Nat) (p : TokenPlace) (s : State) : State :=
  setLin (fun l => { l with home := l.home.map fun h => if tokens.contains h.1 then (h.1, p) else h }) s

def Lending.is (l : Lending) (xfer peer : Nat) : Bool := l.xferId == xfer && l.peer == peer
def Borrowing.is (b : Borrowing) (xfer home : Nat) : Bool := b.xferId == xfer && b.home == home

/-- Tokens back in the pool; they have been out of the own offer for longer than 8 s (R472). -/
def backToPool (tokens : List Nat) (s : State) : State := setPlaces tokens .lendable s

/-- A message of a post with another TABLE_ID is no trade (R471, R477). -/
def traded (m : TokenMsg) (s : State) (f : State → State) : State :=
  if m.tableId = tableId s then f s
  else if siteLimit s = 0 then s else linEvent 4 0xFF m.src s

/-! At the home (R474, R475). -/

def setLendings (f : Lending → Lending) (s : State) : State :=
  setLin (fun l => { l with lendings := l.lendings.map f }) s

/-- REQUEST: the lowest-numbered lendable tokens, 64 at most. -/
def takeTokenRequest (m : TokenMsg) (s : State) : State :=
  let free := ((s.lin.home.filter (·.2 == .lendable)).map (·.1)).take (min m.count 64)
  if !trades s || free.isEmpty then s
  else
    let x := s.lin.nextXfer
    let s := setPlaces free .inTransit s
    let s := setLin (fun l => { l with
      nextXfer := (x + 1) % 2 ^ 32, lendings := l.lendings ++ [⟨x, m.src, free, false, false, s.clk.now + Tick.s 2⟩] }) s
    tokensMoved m.src (tokensHeld s + free.length) (sendToken 2 m.src free.length x (leaseS s * 1000) free s)

/-- ACCEPT: COMMIT, the same COMMIT again, or ABORT where it is late. -/
def takeTokenAccept (m : TokenMsg) (s : State) : State :=
  let mine := s.lin.lendings.filter (·.is m.xferId m.src)
  let tokens := mine.flatMap (·.tokens)
  let n := tokens.length
  if mine.any (·.lent) then sendToken 4 m.src n m.xferId (leaseS s * 1000) tokens s
  else if mine.isEmpty || mine.any (·.deadline < s.clk.now) then
    let s := setLin (fun l => { l with lendings := l.lendings.filter fun x => !x.is m.xferId m.src }) (backToPool tokens s)
    tokensMoved m.src (tokensHeld s - n) (sendToken 5 m.src 0 m.xferId 0 [] s)
  else
    let s := setLendings (fun x =>
      if x.is m.xferId m.src then { x with lent := true, deadline := s.clk.now + reissueTime s } else x) s
    sendToken 4 m.src n m.xferId (leaseS s * 1000) tokens (setPlaces tokens .lent s)

/-- RENEW restarts the reissue clock and is answered, but not for recalled tokens (R477). -/
def takeTokenRenew (m : TokenMsg) (s : State) : State :=
  let held (x : Lending) : Bool := x.is m.xferId m.src && x.lent && !x.recalled
  let tokens := (s.lin.lendings.filter held).flatMap (·.tokens)
  if tokens.isEmpty then s
  else
    let s := setLendings (fun x => if held x then { x with deadline := s.clk.now + reissueTime s } else x) s
    sendToken 7 m.src tokens.length m.xferId (leaseS s * 1000) tokens s

/-- Tokens lent under a transfer leave it and rejoin the pool. -/
def endLending (xfer peer : Nat) (tokens : List Nat) (s : State) : State :=
  let mine := ((s.lin.lendings.filter (·.is xfer peer)).flatMap (·.tokens)).filter (tokens.contains ·)
  let old := tokensHeld s
  let s := backToPool mine s
  let s := setLendings (fun x =>
    if x.is xfer peer then { x with tokens := x.tokens.filter fun t => !tokens.contains t } else x) s
  let s := setLin (fun l => { l with lendings := l.lendings.filter fun x => !x.tokens.isEmpty }) s
  tokensMoved peer old s

def takeTokenReturn (m : TokenMsg) (s : State) : State := endLending m.xferId m.src m.tokens s

/-! At the borrower (R474, R475). -/

def inOwnRange (s : State) (t : Nat) : Bool := decide (homeFirst s ≤ t) && decide (t < homeFirst s + homeCount s)

/-- GRANT of an outstanding REQUEST: pending tokens and ACCEPT; a token of the own range refuses it (R471). -/
def takeTokenGrant (m : TokenMsg) (s : State) : State :=
  if !trades s || !s.lin.asked.any (·.1 == m.src) || m.tokens.isEmpty then s
  else
    let s := setLin (fun l => { l with asked := l.asked.filter fun a => a.1 != m.src }) s
    if m.tokens.any (inOwnRange s) then linEvent 5 0xFF m.src s
    else
      let b : Borrowing := ⟨m.xferId, m.src, m.tokens, m.leaseMs, false, false, s.clk.now + Tick.ms m.leaseMs, none,
        s.clk.now, 0, none⟩
      sendToken 3 m.src m.tokens.length m.xferId m.leaseMs m.tokens
        (setLin (fun l => { l with borrowings := l.borrowings ++ [b] }) s)

def setBorrowings (f : Borrowing → Borrowing) (s : State) : State :=
  setLin (fun l => { l with borrowings := l.borrowings.map f }) s

/-- The last 8 s of a lease have begun (R475). -/
def leaseLow (s : State) (b : Borrowing) : Bool := decide (b.leaseEnd ≤ s.clk.now + Tick.s 8)

/-- COMMIT: the pending tokens join the held set. -/
def takeTokenCommit (m : TokenMsg) (s : State) : State :=
  tokensMoved m.src (tokensHeld s) (setBorrowings (fun b =>
    if b.is m.xferId m.src && !b.committed then { b with committed := true, inUse := !leaseLow s b } else b) s)

/-- ABORT: the pending tokens are dropped. -/
def takeTokenAbort (m : TokenMsg) (s : State) : State :=
  setLin (fun l => { l with borrowings := l.borrowings.filter fun b => !(b.is m.xferId m.src && !b.committed) }) s

/-- RENEWED: the lease counted from the sending of the newest RENEW takes effect. -/
def takeTokenRenewed (m : TokenMsg) (s : State) : State :=
  setBorrowings (fun b =>
    if b.is m.xferId m.src && b.inUse then
      match b.renewSent with
      | some t => { b with leaseEnd := t + Tick.ms m.leaseMs, leaseMs := m.leaseMs, renewSent := none }
      | none => b
    else b) s

/-- Tokens of a transfer leave the held set at once and are returned 8 s later: the borrowing without them, and the rest of it. -/
def splitBorrowing (now : Tick) (tokens : List Nat) (b : Borrowing) : List Borrowing :=
  let gone := b.tokens.filter (tokens.contains ·)
  let kept := b.tokens.filter fun t => !tokens.contains t
  (if gone.isEmpty then [] else
    [{ b with tokens := gone, committed := true, inUse := false, returnAt := some (now + Tick.s 8) }])
  ++ (if kept.isEmpty then [] else [{ b with tokens := kept }])

def dropBorrowed (xfer home : Nat) (tokens : List Nat) (s : State) : State :=
  let old := tokensHeld s
  let split (b : Borrowing) : List Borrowing :=
    if b.is xfer home && b.returnAt.isNone then splitBorrowing s.clk.now tokens b else [b]
  tokensMoved home old (setLin (fun l => { l with borrowings := l.borrowings.flatMap split }) s)

def takeTokenRecall (m : TokenMsg) (s : State) : State := dropBorrowed m.xferId m.src m.tokens s

/-! Messages as they arrive (R473). -/

/-- A token message of code OP. -/
def takeTokenMsg (op : Nat) (m : TokenMsg) (s : State) : State :=
  traded m s fun s => match op with
    | 1 => takeTokenRequest m s
    | 2 => takeTokenGrant m s
    | 3 => takeTokenAccept m s
    | 4 => takeTokenCommit m s
    | 5 => takeTokenAbort m s
    | 6 => takeTokenRenew m s
    | 7 => takeTokenRenewed m s
    | 8 => takeTokenReturn m s
    | 9 => takeTokenRecall m s
    | _ => s

/-- The endpoint takes token messages while it has an address, outside HOLDUP (R466, R476). -/
def hearsTokens (s : State) : Bool := fabricRuns s && ownAddr s != 0

def execTokenRequest (m : TokenMsg) (s : State) : Out := whenever (hearsTokens s) s (takeTokenMsg 1 m)
def execTokenGrant (m : TokenMsg) (s : State) : Out := whenever (hearsTokens s) s (takeTokenMsg 2 m)
def execTokenAccept (m : TokenMsg) (s : State) : Out := whenever (hearsTokens s) s (takeTokenMsg 3 m)
def execTokenCommit (m : TokenMsg) (s : State) : Out := whenever (hearsTokens s) s (takeTokenMsg 4 m)
def execTokenAbort (m : TokenMsg) (s : State) : Out := whenever (hearsTokens s) s (takeTokenMsg 5 m)
def execTokenRenew (m : TokenMsg) (s : State) : Out := whenever (hearsTokens s) s (takeTokenMsg 6 m)
def execTokenRenewed (m : TokenMsg) (s : State) : Out := whenever (hearsTokens s) s (takeTokenMsg 7 m)
def execTokenReturn (m : TokenMsg) (s : State) : Out := whenever (hearsTokens s) s (takeTokenMsg 8 m)
def execTokenRecall (m : TokenMsg) (s : State) : Out := whenever (hearsTokens s) s (takeTokenMsg 9 m)

/-! Clocks of the home. -/

/-- TOKEN_ACCEPT_TIMEOUT (R474). -/
def execTokenAcceptTimeout (xfer peer : Nat) (s : State) : Out :=
  match s.lin.lendings.find? fun l => l.is xfer peer && !l.lent with
  | none => .next s
  | some l => whenever (fabricRuns s) s fun s => endLending xfer peer l.tokens (advanceTo l.deadline s)

/-- REISSUE_CLOCK_EXPIRY (R474). -/
def execReissueClockExpiry (xfer peer : Nat) (s : State) : Out :=
  match s.lin.lendings.find? fun l => l.is xfer peer && l.lent with
  | none => .next s
  | some l => whenever (fabricRuns s) s fun s => endLending xfer peer l.tokens (advanceTo l.deadline s)

/-- A home token has been out of the own offer for 8 s (R472). -/
def execTokenLendable (token : Nat) (s : State) : Out :=
  match s.lin.home.find? (·.1 == token) with
  | some (_, .out t) => whenever (fabricRuns s) s fun s => setPlaces [token] .lendable (advanceTo (t + Tick.s 8) s)
  | _ => .next s

/-- QUARANTINE_END (R476): all home tokens are taken back. -/
def execQuarantineEnd (s : State) : Out :=
  match s.lin.quarantine with
  | none => .next s
  | some t => whenever (fabricRuns s) s fun s =>
    let s := advanceTo t s
    let home := (List.range (homeCount s)).map fun k => (homeFirst s + k, TokenPlace.offer)
    tokensMoved 0 (tokensHeld s) (setLin (fun l => { l with quarantine := none, home := home }) s)

/-! Clocks of the borrower. -/

/-- The homes to ask, in order: neighbours by SPARE, then the lender their hellos name (R472). -/
def lenders (s : State) : List Nat :=
  let same := s.lin.neighbours.filter fun n => n.hello.tableId == tableId s && linkOn s n.link
  let near := same.filter fun n => decide (0 < n.hello.spare) && n.hello.short != 0xFFFE
  let best := near.foldl (fun b n => match b with
    | none => some n.hello
    | some h => if h.spare < n.hello.spare then some n.hello else b) (none : Option HelloBlock)
  let far := same.foldl (fun b n =>
    if b.2 < n.hello.leadSpare && n.hello.leadAddr != ownAddr s then (n.hello.leadAddr, n.hello.leadSpare) else b) (0, 0)
  (best.map (·.short)).toList ++ (if far.2 = 0 then [] else [far.1])

/-- BORROW_TICK (R472): one REQUEST at most every 500 ms, one per home at a time; an unanswered one is forgotten after 2 s. -/
def execBorrowTick (s : State) : Out :=
  let lack := wantTokens s - tokensHeld s
  whenever (trades s && decide (0 < lack)) s fun s =>
    let s := advanceTo ((s.lin.askedAt.map (· + Tick.ms 500)).getD 0) s
    let s := setLin (fun l => { l with asked := l.asked.filter fun a => decide (s.clk.now < a.2 + Tick.s 2) }) s
    match (lenders s).find? fun a => !s.lin.asked.any (·.1 == a) with
    | none => s
    | some a =>
      sendToken 1 a (min lack 64) 0 0 [] (setLin (fun l => { l with
        asked := l.asked ++ [(a, s.clk.now)], askedAt := some s.clk.now }) s)

/-- TOKEN_COMMIT_WAIT (R474): ACCEPT again 2, 3, 4 and 5 s after the first; at 6 s the pending tokens are abandoned. -/
def execTokenCommitWait (xfer home : Nat) (s : State) : Out :=
  match s.lin.borrowings.find? fun b => b.is xfer home && !b.committed with
  | none => .next s
  | some b => whenever (fabricRuns s) s fun s =>
    let s := advanceTo (b.acceptSent + Tick.s (2 + b.resends)) s
    if 4 ≤ b.resends then setLin (fun l => { l with
      borrowings := l.borrowings.filter fun x => !(x.is xfer home && !x.committed) }) s
    else sendToken 3 home b.tokens.length xfer b.leaseMs b.tokens (setBorrowings (fun x =>
      if x.is xfer home && !x.committed then { x with resends := x.resends + 1 } else x) s)

/-- A borrowing whose tokens the post holds and does not return. -/
def borrowedLive (s : State) (xfer home : Nat) : Option Borrowing :=
  s.lin.borrowings.find? fun b => b.is xfer home && b.committed && b.inUse && b.returnAt.isNone

/-- LEASE_HALF (R475): tokens the post has ceased to need are given up; otherwise RENEW, once a second. -/
def execLeaseHalf (xfer home : Nat) (s : State) : Out :=
  match borrowedLive s xfer home with
  | none => .next s
  | some b =>
    let at' := max (b.leaseEnd - Tick.ms b.leaseMs / 2) ((b.renewSent.map (· + Tick.s 1)).getD 0)
    whenever (fabricRuns s && decide (max s.clk.now at' + Tick.s 8 < b.leaseEnd)) s fun s =>
      let s := advanceTo at' s
      let spare := min b.tokens.length (tokensHeld s - wantTokens s)
      let kept := b.tokens.take (b.tokens.length - spare)
      let s := if spare = 0 then s else dropBorrowed xfer home (b.tokens.drop kept.length) s
      if kept.isEmpty then s
      else sendToken 6 home kept.length xfer b.leaseMs kept (setBorrowings (fun x =>
        if x.is xfer home && x.returnAt.isNone then { x with renewSent := some s.clk.now } else x) s)

/-- LEASE_RELEASE (R475): 8 s before its end the tokens leave the held set. -/
def execLeaseRelease (xfer home : Nat) (s : State) : Out :=
  match borrowedLive s xfer home with
  | none => .next s
  | some b => whenever (fabricRuns s) s fun s =>
    let s := advanceTo (b.leaseEnd - Tick.s 8) s
    tokensMoved home (tokensHeld s) (setBorrowings (fun x =>
      if x.is xfer home && x.returnAt.isNone then { x with inUse := false } else x) s)

/-- LEASE_EXPIRY (R475): the tokens are forgotten; those released before are returned. -/
def execLeaseExpiry (xfer home : Nat) (s : State) : Out :=
  match s.lin.borrowings.find? fun b => b.is xfer home && b.committed with
  | none => .next s
  | some b => whenever (fabricRuns s) s fun s =>
    let s := advanceTo b.leaseEnd s
    let early := (s.lin.borrowings.filter fun x => x.is xfer home && x.committed && !x.inUse).flatMap (·.tokens)
    let old := tokensHeld s
    let s := setLin (fun l => { l with borrowings := l.borrowings.filter fun x => !(x.is xfer home && x.committed) }) s
    tokensMoved home old (if early.isEmpty then s else sendToken 8 home early.length xfer 0 early s)

/-- RECALL_RETURN_TIMER (R475). -/
def execRecallReturnTimer (xfer home : Nat) (s : State) : Out :=
  match s.lin.borrowings.find? fun b => b.is xfer home && b.returnAt.isSome with
  | none => .next s
  | some b => whenever (fabricRuns s) s fun s =>
    let s := advanceTo ((b.returnAt).getD 0) s
    sendToken 8 home b.tokens.length xfer 0 b.tokens (setLin (fun l => { l with borrowings := l.borrowings.erase b }) s)

/-! The fabric block of a hello or beacon (R464). -/

/-- The largest lender among the neighbours heard in the last 10 s, but for the receiver: address and SPARE (R464). -/
def leadFor (receiver : Nat) (s : State) : Nat × Nat :=
  s.lin.neighbours.foldl (fun b n =>
    if n.hello.moduleId != receiver && decide (s.clk.now ≤ n.heard + Tick.s 10) && b.2 < n.hello.spare
        && n.hello.short != 0xFFFE then (n.hello.short, n.hello.spare)
    else b) (0, 0)

def helloBlock (receiver : Nat) (s : State) : HelloBlock :=
  let lead := leadFor receiver s
  { moduleId := s.ident.moduleId, rootId := s.lin.rootId, short := ownShort s, depth := s.lin.depth
    rootPrio := s.lin.rootPrio, pathCost := s.lin.pathCost, spare := if trades s then spareTokens s else 0
    tableId := tableId s, leadAddr := lead.1, leadSpare := lead.2 }

def helloBytes (h : HelloBlock) : List Byte :=
  le 8 h.moduleId ++ le 8 h.rootId ++ le 2 h.short ++ le 1 h.depth ++ le 1 h.rootPrio ++ le 2 h.pathCost ++ le 2 h.spare
    ++ le 4 h.tableId ++ le 2 h.leadAddr ++ le 2 h.leadSpare

/-! Starts (R476, R478). -/

/-- SHARE_CONFIG_INVALID of a plan (R478). -/
def planInvalid (s : State) : Bool :=
  siteLimit s != 0 && !(decide (homeFirst s + homeCount s ≤ siteLimit s) && decide (floorTokens s ≤ homeCount s))

/-- The fabric at a D3 start: everything in D3 RAM is forgotten, the plan is read, and the quarantine begins. -/
def linStart (s : State) : State :=
  let s := { s with lin := {
    rootId := s.ident.moduleId, rootPrio := param s 0x0C02
    plan := (param s 0x0C03, param s 0x0C04, param s 0x0C05, param s 0x0C06, param s 0x0C07, param s 0x0C08) } }
  setLin (fun l => { l with
    shareInvalid := planInvalid s
    quarantine := if siteLimit s != 0 && !planInvalid s then some (s.clk.now + reissueTime s) else none }) s

end Sys2Proof.Machine
end

