-- ==== Sys2Proof/Machine/Resets.lean ====
section
/-! DEFINITION. What resets leave of the state (01, 02): a D3 reset, a D2 start, a module restart, and the loss of the rails. A
field that a reset does not carry over takes the value of State.reset. -/

namespace Sys2Proof.Machine

def setDom (f : Domains → Domains) (s : State) : State := { s with dom := f s.dom }
def setMode (f : ModeState → ModeState) (s : State) : State := { s with mode := f s.mode }
def setHold (f : Holdup → Holdup) (s : State) : State := { s with hold := f s.hold }
def setPwr (f : Power → Power) (s : State) : State := { s with pwr := f s.pwr }
def setNl (f : Nightlatch → Nightlatch) (s : State) : State := { s with nl := f s.nl }
def setDiag (f : Diag → Diag) (s : State) : State := { s with diag := f s.diag }
def setUpd (f : Update → Update) (s : State) : State := { s with upd := f s.upd }

/-! D3 (R10, R40, R281). -/

/-- Sequence state and pending commands survive a D3 reset; stored inline replies do not (R281). -/
def Hatch.afterReset (h : Hatch) : Hatch :=
  { seqs := h.seqs.map fun q => { q with
      recent := q.recent.map fun e => (e.1, match e.2 with | .waiting => .waiting | _ => .gone) }
    pending := h.pending, peers := h.peers }

/-- The pool after a D3 reset: ready queues, semaphores, shedding and its counters are gone (R249, R253). -/
def Kiln.afterReset (k : Kiln) : Kiln :=
  { k with cells := k.cells.map (fun c => { c with ready := [] }), sems := List.replicate 32 {}
           homes := [], step := 0, speedLow := false, speedGood := 0, missNow := false, missRun := 0, cleanRun := 0
           lastMiss := 0, lastFail := 0 }

/-- Connections and messages of the vehicle are gone; an open session and its SessionID stay (R281, R332). -/
def Vehicle.afterReset (v : Vehicle) : Vehicle :=
  { v with tcp := false, tls := false, answer := .none, req := none, kept := [], relay := none, delivery := false
           canSent := [], pm := v.pm.map fun m => { m with online := false, alive := none } }

/-- The display after a D3 reset: a running frame ends and counts, the drive and the staged image are lost, and the dirty record
stays (R439). -/
def Display.afterReset (d : Display) : Display :=
  let ran := match d.drive with | some x => !x.rising && !d.paused | none => false
  { d with
    dirty := if ran && d.dirty.state == 1 then { d.dirty with frameDone := min d.dirty.nTotal (d.dirty.frameDone + 1) } else d.dirty
    staging := [], drive := none, waiting := none, copying := none, recovery := 0, paused := false, railsUp := false
    railsDown := none, drawing := [], transomAt := none }

/-- Full buckets without pending counts at D3 start (R535). -/
def freshBuckets (s : State) (l : List Bucket) : List Bucket :=
  l.map fun b => { b with tokens := param s 0x0F02, since := none, given := 0 }

/-- No request that D3 had taken is answered after its reset (R281). -/
def dropRequests (s : State) : State :=
  let s := setInp (fun i => { i with selfTest := i.selfTest.map fun t => { t with req := none } }) s
  let s := setCal (fun c => { c with span := c.span.map fun t => { t with req := none } }) s
  let s := setLed (fun l => { l with
    readings := l.readings.map fun p => { p with dest := none }, captureWait := [], delayed := [] }) s
  let s := { s with bil := { s.bil with closeDue := s.bil.closeDue.map fun c => (none, c.2) } }
  setShu (fun x => { x with rcmTest := x.rcmTest.map fun t => { t with dest := none } }) s

/-- Everything that D3 holds in RAM is lost; Shutter's configuration session closes (R359). -/
def d3Clear (s : State) : State :=
  let s := dropRequests (loseFreeze (closeConfig s))
  let s := setDiag (fun d => { d with buckets := freshBuckets s d.buckets }) s
  wedgeZeroNext { s with
    hatch := s.hatch.afterReset, dma := { s.dma with chans := ({} : Dma).chans }, kiln := s.kiln.afterReset
    veh := s.veh.afterReset, disp := s.disp.afterReset, mc := {}, lin := {}, adc := {}, rs := {}
    con := { s.con with cards := [], tooMany := false, blocked := false }
    sag := { s.sag with badLogged := 0, challenge := none, slots := s.sag.slots.filter fun p => !bitN p.attr aExpire }
    nl := { s.nl with rules := s.nl.rules.map fun r => { r with since := none } }
    mode := { s.mode with resetScope := none }
    upd := { s.upd with verifying := false } }

/-! D2 (R35, R39). -/

/-- What D2 keeps over its own reset: MRAM and flash records. -/
def Ledger.kept (l : Ledger) : Ledger :=
  { superA := l.superA, superB := l.superB, ckptA := l.ckptA, ckptB := l.ckptB, lsA := l.lsA, lsB := l.lsB
    journal := l.journal, journalNext := l.journalNext, resets := l.resets, nextRst := l.nextRst, events := l.events, nextEvent := l.nextEvent, nextReading := l.nextReading
    readings := l.readings.map (fun p => { p with dest := none }), signedEpoch := l.signedEpoch
    lastPeriodic := l.lastPeriodic, uncleanSince := l.uncleanSince, lastClose := l.lastClose, closeClean := l.closeClean
    lostTime := l.lostTime, finalMeas := l.finalMeas }

def d2Clear (s : State) : State :=
  { s with
    met := { neutral := s.met.neutral, reverse := s.met.reverse, changes := s.met.changes }
    sie := { flashSet := s.sie.flashSet, satOpen := s.sie.satOpen
             haltOpen := if s.sie.halted then some s.sie.haltFirst else s.sie.haltOpen }
    inp := { overRange := s.inp.overRange, closings := s.inp.closings ++ s.inp.faults, stopBy := s.inp.stopBy, magSince := s.inp.magSince, magPeak := s.inp.magPeak, peOk := s.inp.peOk, peFail := s.inp.peFail, pePass := s.inp.pePass }
    cal := { copyA := s.cal.copyA, copyB := s.cal.copyB, lrHash := s.cal.lrHash }
    pq := { events := s.pq.events, intr := s.pq.intr
            nextIndex := max (pqNext s.pq.events) (((s.pq.intr).map (·.event.index + 1)).getD 0) }
    led := s.led.kept, clk := { s.clk with pllLocked := false }, hng := { s.hng with synced := false }
    dom := { s.dom with d2 := false } }

/-! Module restart (R39, R49). -/

/-- The previous mode of R32: the mode in force, unless it is none, HOLDUP or the interim. -/
def prevMode (s : State) : Mode :=
  if s.mode.mode == .none || s.mode.mode == .holdup || s.mode.interim then s.mode.prev else s.mode.mode

/-- D1's flash and MRAM records, and the levels its pads had. -/
def Shutter.kept (x : Shutter) : Shutter :=
  { password := x.password, fails := x.fails, lockouts := x.lockouts, lockoutEnd := x.lockoutEnd, changeLog := x.changeLog
    nextChange := x.nextChange, copyA := x.copyA, copyB := x.copyB, copiesEqual := x.copiesEqual, lastTrip := x.lastTrip, kfb1 := x.kfb1
    kfb2 := x.kfb2, urmsHalf := x.urmsHalf, mod1 := x.mod1, cycleAt := x.cycleAt }

/-- Of group 4, what does not come back with the ledger-state copy: the tables and series in MRAM, and what the parameters in
flash make due (R180, R234). What waited in RAM is lost. -/
def Billing.kept (b : Billing) : Billing :=
  { b with slewLeft := 0, change := none, boundary := none, closeDue := [], creditLate := [] }

/-- Everything that D1 to D4 lose together: the state of a module restart, before the rails or the reset cause are told. -/
def coldClear (s : State) : State :=
  let prev := prevMode s
  let s := d2Clear (d3Clear s)
  { s with
    inp := { overRange := s.inp.overRange, closings := s.inp.closings ++ s.inp.faults, magSince := s.inp.magSince, magPeak := s.inp.magPeak }, hatch := {}, snap := {}, recl := {}, lsw := {}, kiln := {}
    bil := s.bil.kept, shu := s.shu.kept
    sag := { s.sag with root := 0, debugOpen := false }
    veh := { certs := s.veh.certs }, hng := { count := s.hng.count, wasActive := s.hng.wasActive }
    upd := { s.upd with restartAt := none, pairPass := none, trialSince := none, confirmed := false, chainSent := none, haves := [] }
    hold := { s.hold with measured := false, refuseService := false, stage := .idle, td := none, tdSample := 0 }
    nl := { s.nl with wakeDue := 0 }
    diag := { s.diag with unseen := [] }
    mode := { prev := prev, recoveryPending := s.mode.recoveryPending, validImage := s.mode.validImage
              powerCycles := s.mode.powerCycles, since := s.clk.epoch } }

/-- The restart from the step "rails good", with every record of the run written. -/
def restartAll (cause : Nat) (s : State) : State :=
  let s := coldClear s
  let on := s.pwr.rails
  { s with
    dom := { d0 := s.dom.d0, d4 := on, cause := cause, startCause := cause }
    pwr := { s.pwr with charging := false, drawStart := none, v12Out := on, v12Tripped := none, v3v3Out := on }
    mode := { s.mode with startAt := s.clk.now } }

/-- Epoch of the newest journal entry. -/
def lastEntryEpoch (s : State) : Nat := ((s.led.journal.getLast?).map (·.epoch)).getD 0

/-- Kiln completes groups 2, 3 and 4 through the final epoch; the ledger-state copy is written, and the KIND 4 entry holds groups
2 and 3 (R118, R184, R223, R234). -/
def kilnCloses (s : State) : State :=
  let e := lastEntryEpoch s
  let s := mComplete e s
  kilnFinalEntry (if isStandby s then s else lsWrite (lComplete e s))

/-- The entries that end a run: KIND 3, then the Kiln results of its last epoch where Kiln serves (R184). -/
def closeRun (s : State) : State :=
  if s.dom.d2 then (if serving s then kilnCloses (finalEntry 3 s) else finalEntry 3 s) else s

def moduleRestart (cause : Nat) (s : State) : State := restartAll cause (closeRun s)

/-! The running set and the rollback of a trial (R496, R504). -/

/-- UPD_EVENT (R512). -/
def updEvent (event id : Nat) (s : State) : State := notify 2 0x0E08 (le 1 event ++ zeros 3 ++ le 4 id) s

/-- A part of the running set. Parts 3 and 4 are what Sieve and Window hold in flash, empty where nothing was ever stored. -/
def livePart (s : State) (k : Nat) : List Byte :=
  if k = 3 then ((s.sie.flashSet.map setBytes).getD [])
  else if k = 4 && s.disp.table.isNone then []
  else match runSet s with
    | some x => (x.parts[k - 1]?).getD []
    | none => if k = 2 then Config.metrologyImage else Config.deliveredPart k

/-- The whole running set as a slot holds it. -/
def liveSet (s : State) : ImageSet :=
  { versions := match runSet s with
      | some x => x.versions
      | none => (List.range 7).map fun k =>
          if k = 1 then Config.lrVersion.1 + 256 * Config.lrVersion.2.1 + 65536 * Config.lrVersion.2.2 else 0
    parts := (List.range 7).map fun k => livePart s (k + 1)
    manifest := ((runSet s).map (·.manifest)).getD [] }

/-- Sieve's set and the display table follow the running slot (R496). -/
def loadParts (s : State) : State :=
  match runSet s with
  | none => s
  | some x =>
    let p3 := (x.parts[2]?).getD []
    let p4 := (x.parts[3]?).getD []
    { s with
      sie := { s.sie with flashSet := if p3.isEmpty then none else some (parseSet p3) }
      disp := { s.disp with table := if p4.isEmpty then none else some (waveOf p4) } }

/-- A write of the activation record goes to the other copy, which is then the one in force (R503). -/
def writeRecord (f : ActRecord → ActRecord) (s : State) : State :=
  setUpd (fun u => { u with otherRecord := u.record, record := { f u.record with gen := u.record.gen + 1 } }) s

/-- STATE 2 with the slots exchanged; the restart follows, except in HOLDUP, where it comes with the end of HOLDUP.
The second unit of a pair, whose peer had confirmed, reports PAIR_STATE 3; the first leaves the pair on the old set (R507). -/
def rollback (cause : Nat) (s : State) : State :=
  let s := writeRecord (fun a => { a with
    state := 2, runSlot := a.prevSlot, prevSlot := a.runSlot
    pairState := if a.pairState = 2 && a.state = 1 then 3 else 0 }) (setUpd (fun u => { u with rollCause := cause, pairBack := false }) s)
  let s := loadParts s
  if inHoldup s then s else moduleRestart 6 s

def lrOf (m : List Byte) : Nat × Nat × Nat := versionOf (fieldAt m 8 3)

/-- The LR_HASH of a stored set. -/
def lrHashOfSet (x : ImageSet) : List Byte :=
  let p3 := (x.parts[2]?).getD []
  Config.sha256 ((x.parts[1]?).getD [] ++ (if p3.isEmpty then setBytes romSet else p3))

def lrBytes (v : Nat × Nat × Nat) : List Byte := le 1 v.1 ++ le 1 v.2.1 ++ le 1 v.2.2

/-- LR_CHANGED where the confirmed set changes LR_HASH (R505). -/
def lrChanged (s : State) : State :=
  match (s.upd.slots[s.upd.record.prevSlot]?).getD none with
  | none => s
  | some x =>
    let old := lrHashOfSet x
    if old == s.cal.lrHash then s
    else logNow 0x0E03 (lrBytes (versionOf ((x.versions[1]?).getD 0)) ++ lrBytes (lrVersionOf s) ++ zeros 2
      ++ padTo 4 old ++ padTo 4 s.cal.lrHash) s

/-- The trial succeeds (R504 step 5). -/
def confirmTrial (s : State) : State :=
  let m := ((runSet s).map (·.manifest)).getD []
  let s := writeRecord (fun a => { a with
    state := 0, actCount := satInc 0xFFFFFFFF a.actCount
    lrFloor := if bitN (fieldAt m 2 1) 1 then lrOf m else a.lrFloor }) (setUpd (fun u => { u with trialSince := none, confirmed := false }) s)
  let s := setMode (fun x => { x with
    recoveryPending := false, exitDue := if x.mode == .recovery then some (s.clk.epoch + 1) else x.exitDue }) s
  let s := logNow 0x0E01 (le 4 s.upd.bundleId ++ le 4 s.upd.record.actCount ++ le 1 s.upd.record.runSlot) s
  updEvent 4 s.upd.bundleId (lrChanged s)

/-! The D3 reset (R39, R40, R46). -/

/-- A D3 reset and Hinge: an ACTIVE unit yields (R485); at a STANDBY replication pauses until it is resynchronised (R491). -/
def yieldForReset (s : State) : State :=
  if isStandby s then setHng (fun h => { h with synced := false, resync := true }) s else yieldRole s

/-- Shutter's reclaim timer starts at the first D3 reset; an orderly stop of R42 goes on (R40, R50). -/
def startReclaim (s : State) : State :=
  if !s.dom.d1 || inHoldup s then s
  else
    let stopping := match s.shu.stop with | some p => p.kind == .reclaim || p.missed | none => false
    { s with recl := { s.recl with
        deadline := if s.recl.deadline.isSome || stopping then s.recl.deadline else some (s.clk.now + Tick.s 2)
        required := true } }

/-- A D3 reset with its cause code. -/
def d3Reset (cause : Nat) (s : State) : State :=
  let s := startReclaim (yieldForReset (d3Clear s))
  let s := if inHoldup s then setHold (fun h => { h with d3Lost := true }) s else s
  let s := setDom (fun d => { d with d3 := false, ready := false, cause := cause, d3Gap := true, abortDue := true }) s
  if s.upd.record.state = 1 && 2 ≤ cause && cause ≤ 4 then rollback 2 s else s

/-! Reset commands of chapter 02. -/

/-- HRST_LOW: a low pulse of `us` µs. One shorter than 2 µs never resets; from 2 µs up to 10 µs a free choice decides (R39). While
HRST is held low, D3 stays in reset (R547). -/
def execHrstLow (us : Nat) (s : State) : Out :=
  whenever (s.dom.d4 && decide (2 ≤ us)) s fun s =>
    let hold (s : State) : State := setDom (fun d => { d with hrstUntil := s.clk.now + Tick.us us }) (d3Reset 2 s)
    if 10 ≤ us then hold s
    else
      let (i, s) := takeFree s
      if Config.freeBool i then hold s else s

def execWatchdogExpiry (s : State) : Out := whenever s.dom.d3 s (d3Reset 3)

def execEnginePoolFault (s : State) : Out := whenever s.dom.d3 s (d3Reset 4)

def execSpyholeReset (s : State) : Out := whenever (s.dom.d4 && inFactory s) s (d3Reset 8)

/-- TIMEBASE_FAULT (R39): D2 alone restarts; Shutter treats it as a metering fault (cause 5 of R79). -/
def execTimebaseFault (s : State) : Out :=
  whenever s.dom.d2 s fun s =>
    let s := meteringStop 5 s
    let s := inputFault 5 255 s.clk.epoch s
    let lost : LostTime := ⟨s.met.epoch, s.met.nSamples + s.met.samples.length, s.met.delay.length⟩
    let s := setLed (fun l => { l with lostTime := some lost }) s
    setDom (fun d => { d with cause := 9, d2Alone := true }) (d2Clear s)

/-- RAILS_FALL (R8): D1 to D4 lose power; D0 goes over to VBAT, or stops without it. The RTC goes on from civil time, which it
has followed (R521). -/
def execRailsFall (s : State) : Out :=
  whenever s.pwr.rails s fun s =>
    let t := civilNow s
    let s := if s.dom.d2 && s.nl.rtcValid then setNl (fun n => { n with rtc := t, rtcAt := s.clk.now }) s else s
    let s := coldClear s
    let keep : Nightlatch :=
      { rtc := s.nl.rtc, rtcAt := s.nl.rtcAt, rtcValid := s.nl.rtcValid, ppb := s.nl.ppb, outageRtc := s.nl.outageRtc
        outageTamp := s.nl.outageTamp, outageOverflow := s.nl.outageOverflow }
    let s := { s with
      nl := if s.pwr.vbat then keep else {}
      dom := { d0 := s.pwr.vbat, cause := s.dom.cause, startCause := s.dom.startCause }
      pwr := { s.pwr with rails := false, vbatThrough := s.pwr.vbat, d0OnRails := false, charging := false, drawStart := none, vhold := 0
                          v12Out := false, v12Tripped := none, v3v3Out := false }
      dma := { s.dma with mem := s.dma.mem.filter fun c => 0x20000000 ≤ c.1 && c.1 < 0x40000000 }
      sag := { s.sag with dbgEnable := false } }
    if s.pwr.vbat then s
    else setSag (fun g => { g with mesh := false, potting := false, erasePending := false, tamp := 0, tampPrev := 0 }) s

/-! Life-cycle transitions (R400, R401). -/

/-- The root of a life-cycle state (R386). -/
def rootOf : Lifecycle → Nat
  | .factory => 1 | .field => 2 | .returned => 3 | .blank | .ended => 0

/-- Steps 3 and 4 of R401: slots with CARRY that the old root opens are wrapped again under the new one, the others are erased;
BLANK to FACTORY enrols the PUF, and END keeps nothing. -/
def finishTransition (t : Lifecycle) (atStart : Bool) (s : State) : State :=
  let old := s.sag.lifecycle
  let carried (p : Slot) : Bool := t != .ended && bitN p.attr aCarry && p.root == rootOf old && p.cmacOk
  let n := countWhere carried s.sag.slots
  let erased := s.sag.slots.length - n
  let s := setSag (fun g => { g with
    slots := (g.slots.filter carried).map fun p => { p with root := rootOf t }
    pubs := if t == .ended then [] else g.pubs.filter fun k => g.slots.any fun p => carried p && p.slot == k.slot
    helperA := if t == .ended then false else g.helperA || old == .blank
    helperB := if t == .ended then false else g.helperB || old == .blank
    lifecycle := t, lcPending := none, dbgEnable := g.dbgEnable && t == .factory }) s
  let s := if t == .ended then zeroiseFlash 8 atStart (zeroiseRam s) else s
  sagEvent 6 0 (logNow 0x0801 (le 1 old.code ++ le 1 t.code ++ le 1 n ++ le 1 erased) s)

/-- LIFECYCLE_RESTART: 10 ms after the reply. -/
def execLifecycleRestart (s : State) : Out :=
  match s.sag.lcPending with
  | none => .next s
  | some t => whenever s.dom.d3 s fun s => moduleRestart 6 (finishTransition t false (advanceTo (s.clk.now + Tick.ms 10) s))

end Sys2Proof.Machine
end

