-- ==== Sys2Proof/Machine/Start.lean ====
section
/-! DEFINITION. Start-up (02, 08, 11): supplies, D1, D2 with the replay of the journal, D3, the hold-up capacitance, and the first
mode. -/

namespace Sys2Proof.Machine

/-! Supplies (R35, R36, R37). -/

/-- MAINS_APPLIED: `elapsed` is what the RTC counted, in s, since the rails fell. -/
def execMainsApplied (elapsed : Nat) (s : State) : Out :=
  whenever (!s.pwr.mains) s fun s =>
    let s := setPwr (fun p => { p with mains := true }) s
    if s.pwr.rails then s
    else
      let s := advanceTo (s.clk.now + Tick.s elapsed) s
      setMode (fun m => { m with startAt := s.clk.now }) s

/-- RAILS_GOOD: cause 0 with VBAT present throughout the absence, else 1, which resets D0 too (R39). -/
def execRailsGood (s : State) : Out :=
  whenever (s.pwr.mains && !s.pwr.rails) s fun s =>
    let through := s.pwr.vbat && s.pwr.vbatThrough
    let kept := through && s.nl.rtcValid
    let cause := if through then 0 else 1
    let s := { s with
      pwr := { s.pwr with
        rails := true, d0OnRails := true, v12Out := true, v3v3Out := true, supplyPeak := Config.supplyPeak s.clk.epoch }
      dom := { d0 := true, d4 := true, cause := cause, startCause := cause }
      nl := if through then s.nl else {} }
    let s := setNl (fun n => { n with outageEnd := civilSec (rtcNow s), rtcLost := !through }) s
    if kept then s
    else { s with bil := { s.bil with timeUnset := true }, nl := { s.nl with rtcValid := false, rtc := 0, rtcAt := s.clk.now } }

/-- The defaults of every SHU parameter apply (R358). -/
def shuDefaults (s : State) : State :=
  { s with par := { cells := s.par.cells.filter fun c => !(0x0600 ≤ c.1 && c.1 < 0x0700) } }

/-- D1_START: whether copies A and B pass their CRC, and whether they are equal (R358); the weld test and the self-test (R351,
R347). -/
def execD1Start (okA okB equal : Bool) (s : State) : Out :=
  whenever (s.dom.d4 && !s.dom.d1) s fun s =>
    let s := setDom (fun d => { d with d1 := true }) s
    let good := okA && okB && equal
    let one := okA != okB
    let s := setShu (fun x => { x with
      copyA := okA || one, copyB := okB || one, copiesEqual := equal || one, agreeSince := s.clk.now
      lockoutEnd := if s.dom.startCause = 1 && x.lockoutEnd.isSome then some (s.clk.now + Tick.s (lockoutS x.lockouts))
        else x.lockoutEnd }) s
    let s := if one then changeLog 7 0 0 [] [] s else s
    let s := if good || one then s
      else shuEvent 1 lConfig (raise 0x0607 (le 1 (packBits [okA, okB]) ++ zeros 3) (setLatch lConfig (shuDefaults s)))
    weldTest (startRcm 1 none s)

/-! The hold-up capacitance (R36–R38). -/

/-- VHOLD_REACHES_THRESHOLD: the charger is disconnected and the draw begins. -/
def execVholdReachesThreshold (s : State) : Out :=
  whenever (s.pwr.charging && s.pwr.drawStart.isNone && !s.hold.measured) s fun s =>
    setPwr (fun p => { p with charging := false, drawStart := some s.clk.now, vhold := 29500 }) s

/-- The measurement of this start is complete (R38). -/
def capacitance (uF : Nat) (flagged : Bool) (s : State) : State :=
  let s := setHold (fun h => { h with cMeas := uF, outOfRange := flagged, cMeasEpoch := s.clk.epoch, measured := true }) s
  if uF < 1000 then
    setHold (fun h => { h with refuseService := param s 0x0104 == 1 }) (raise 0x0101 (le 4 uF) s)
  else s

/-- HOLDUP_CAP_MEASURED: the voltage drop of the draw, mV; 50 mA × 20 ms ÷ ΔV. -/
def execHoldupCapMeasured (drop : Nat) (s : State) : Out :=
  match s.pwr.drawStart with
  | none => .next s
  | some t =>
    let c := if drop = 0 then 10001 else 1000000 / drop
    let s := advanceTo (t + Tick.ms 20) s
    let s := setPwr (fun p => { p with drawStart := none, charging := true, vhold := 29500 - drop }) s
    .next (capacitance (clampN 500 10000 c) (decide (c < 500) || decide (10000 < c)) s)

def execVholdChargeTimeout (s : State) : Out :=
  whenever (s.pwr.charging && s.pwr.drawStart.isNone && !s.hold.measured) s fun s =>
    capacitance 0 true (advanceTo (s.pwr.chargeStart + Tick.s 4) s)

/-! Replay (R178–R180, R185). -/

/-- P_lim of R185 in 0.1 µW, from the STATE of an entry. -/
def pLim (s : State) (st : PackedState) : Nat :=
  if st.km % 64 = 0 then 0
  else if param s 0x0400 = 1 then 10 * param s 0x0247 * param s 0x0248
  else
    let d := st.cpDuty
    let iCp : Option Nat := if st.cp < 128 || d < 100 then none
      else if d ≤ 850 then some (60 * d) else if d ≤ 960 then some (250 * (d - 640)) else none
    let i := match iCp with | some i => min i (param s 0x0202) | none => param s 0x0202
    (phasesOn s).length * 11 * param s 0x02C0 * i

/-- BOUND of one epoch, and of a number of samples, mWh (R185). -/
def boundEpoch (s : State) (st : PackedState) : Nat := divCeil (pLim s st) 3600000000
def boundSamples (s : State) (st : PackedState) (n : Nat) : Nat := divCeil (pLim s st * n) (3600000000 * 320)

/-- The order of KINDs of one epoch in replay. -/
def kindRank (k : Nat) : Nat := match k with | 1 => 0 | 5 => 1 | 2 => 2 | 3 => 3 | _ => 4

def entryBefore (a b : JournalEntry) : Bool :=
  decide (a.epoch < b.epoch) || (a.epoch == b.epoch && decide (kindRank a.kind ≤ kindRank b.kind))

def insertEntry (e : JournalEntry) : List JournalEntry → List JournalEntry
  | [] => [e]
  | x :: xs => if entryBefore x e then x :: insertEntry e xs else e :: x :: xs

def sortEntries (l : List JournalEntry) : List JournalEntry := l.foldl (fun acc e => insertEntry e acc) []

/-- Entries that replay applies after a checkpoint epoch. -/
def replayEntries (ck : Nat) (l : List JournalEntry) : List JournalEntry :=
  sortEntries (l.filter fun e => e.valid && (decide (ck < e.epoch) || (e.epoch == ck && e.kind == 4)))

/-- The totals that replay has reached. -/
structure Replay where
  last : Nat
  k : Nat
  bal : List Int
  fine : List Nat
  deriving DecidableEq, Repr

/-- One step of R178 and the JOURNAL_GAP it finds: first and last missing epoch. `ckK` is K_EPOCH of the checkpoint; with none,
every Kiln increment is applied. -/
def replayStep (ckK : Option Nat) (r : Replay) (e : JournalEntry) : Replay × Option (Nat × Nat) :=
  let span := divCeil e.nSamples 320
  let gap := if e.kind != 4 && r.last + span < e.epoch then some (r.last + 1, e.epoch - span) else none
  let f := addHw r.fine e.incHw
  let kiln := decide (0 < e.kSpan) && ckK.all fun k => decide (k < e.kEpoch)
  ({ last := e.epoch, fine := if kiln then addKiln f e.incKiln else f, k := if kiln then e.kEpoch else r.k
     bal := if kiln then e.bal else r.bal }, gap)

/-- Replay over entries, with the gaps and the STATE of the entry before each. -/
def replayAll (ckK : Option Nat) (st : PackedState) : Replay → List JournalEntry → Replay × List (Nat × Nat × PackedState)
  | r, [] => (r, [])
  | r, e :: es =>
    let (r', g) := replayStep ckK r e
    let (z, gs) := replayAll ckK e.state r' es
    (z, match g with | some x => (x.1, x.2, st) :: gs | none => gs)

/-- Baselines with the amounts of later reset entries. -/
def replayResets (lastRst : Nat) (base : List Nat) (l : List ResetEntry) : List Nat :=
  (l.filter fun r => r.valid && decide (lastRst < r.seq)).foldl (fun b r =>
    b.mapIdx fun n v => if bitN r.mask n then v + (r.delta[n]?).getD 0 * 2 ^ 65 else v) base

/-- An event entry written during replay carries bit 2. -/
def logReplay (code : Nat) (data : List Byte) (s : State) : State := logNowF code 4 0xFF data s

/-- UNCLEAN_CLOSE where the newest valid entry is of KIND 1 or 5 (R185). -/
def closeCheck (newest : Option JournalEntry) (s : State) : State :=
  match newest with
  | none => s
  | some e =>
    if e.kind == 1 || e.kind == 5 then
      let s := logReplay 0x0105 (le 8 e.epoch ++ le 1 e.kind ++ zeros 3 ++ le 4 (boundEpoch s e.state)) s
      setCon (fun c => { c with summaryUnclean := true }) (setLed (fun l => { l with uncleanSince := true, closeClean := false }) s)
    else setLed (fun l => { l with closeClean := true }) s

/-- The journal is replayed and the totals stand (R178); a checkpoint is written; Kiln epochs that no entry holds are lost
(R118), while K_EPOCH stays the last one included; after a KIND 4 entry group 2 stands at the final epoch (R22, R184). At the
first power-up, with no checkpoint and no entry, EPOCH starts at 0 (R15) and no checkpoint is written (log entry 78). -/
def replayJournal (s : State) : State :=
  let ck := newestCkpt s
  let zero : Replay := ⟨0, 0, [0, 0, 0], List.replicate 36 0⟩
  let r0 : Replay := match ck with | some c => ⟨c.epoch, c.kEpoch, c.bal, c.fine⟩ | none => zero
  let es := match ck with
    | some c => replayEntries c.epoch s.led.journal
    | none => sortEntries (s.led.journal.filter (·.valid))
  let start := if ck.isNone then { r0 with last := ((es.head?).map fun e => e.epoch - divCeil e.nSamples 320).getD 0 } else r0
  let before := (sortEntries (s.led.journal.filter fun e => e.valid && (ck.any fun c => decide (e.epoch ≤ c.epoch)))).getLast?
  let (r, gaps) := replayAll (ck.map (·.kEpoch)) ((before.map (·.state)).getD {}) start es
  let s := gaps.foldl (fun s g => logReplay 0x0106
    (le 8 g.1 ++ le 8 g.2.1 ++ le 4 (boundEpoch s g.2.2 * (g.2.1 + 1 - g.1))) s) s
  let newest := (sortEntries (s.led.journal.filter (·.valid))).getLast?
  let s := closeCheck newest s
  let any := ck.isSome || !es.isEmpty
  let first := if any then r.last + 1 else 0
  let (i, s) := takeFree s
  let s := setMet (fun m => { m with
    epoch := first, fine := capFine r.fine, kEpoch := r.k, kDone := r.k
    meas := if (newest.map (·.kind)).getD 0 == 4 then s.led.finalMeas else m.meas
    base := replayResets ((ck.map (·.lastRst)).getD 0) ((ck.map (·.base)).getD (List.replicate 36 0)) s.led.resets
    bal := r.bal ++ [if any then toI 16 (Config.freeNat i) else 0] }) s
  let s := if any && r.k < r.last then
      setMet (fun m => { m with kDone := r.last }) (logReplay 0x0109 (le 8 (r.k + 1) ++ le 8 r.last) s)
    else s
  let s := { s with clk := { s.clk with epoch := first, epochStart := s.clk.now } }
  if any then writeCkpt r.last r.bal s else s

/-- The next numbers of the series after replay: beyond the checkpoint's and beyond every record held (R177, R186). -/
def nextNumbers (s : State) : State :=
  let ck := newestCkpt s
  let s := setLed (fun l => { l with
    nextEvent := max l.nextEvent (max ((ck.map (·.nextEvent)).getD 0) (((l.events.getLast?).map (·.index + 1)).getD 0))
    nextReading := max l.nextReading (max ((ck.map (·.nextReading)).getD 1) (((l.readings.getLast?).map (·.no + 1)).getD 1))
    nextRst := max l.nextRst (max ((ck.map (·.lastRst + 1)).getD 1) (((l.resets.getLast?).map (·.seq + 1)).getD 1)) }) s
  setPq (fun q => { q with
    nextIndex := max q.nextIndex (max ((ck.map (·.nextPq)).getD 0) (pqNext q.events)) }) s

/-- The superblock of the run goes to the copy of the lower SB_GEN (R172). -/
def writeSuper (s : State) : State :=
  let g (c : Option Superblock) : Nat := (c.map fun b => if b.valid then b.gen else 0).getD 0
  let b : Superblock := ⟨satInc 0xFFFFFFFF (max (g s.led.superA) (g s.led.superB)), s.mode.powerCycles, s.clk.epoch, true⟩
  setLed (fun l => if g l.superA ≤ g l.superB then { l with superA := some b } else { l with superB := some b }) s

/-- Civil time at a D2 start: from the RTC, or under TIME_UNSET from the ledger state (R205, R521). -/
def startCivil (s : State) : State :=
  let last := s.clk.epoch - 1
  let t : Int :=
    if !s.bil.timeUnset then rtcNow s
    else match lsNewest s with
      | some c => c.civil * 204800000 + 2048000 * ((last : Int) - c.bil.through)
      | none => 2048000 * (s.clk.epoch : Int)
  { s with bil := { s.bil with civil := t } }

/-- The interruption left open by an outage closes with OUTAGE; its duration is counted on the RTC, in s (R161). -/
def closeOutage (s : State) : State :=
  match s.pq.intr with
  | none => s
  | some o =>
    let (i, s) := takeFree s
    let d := match s.nl.outageRtc with
      | some t => (s.nl.outageEnd - t).toNat
      | none => Config.freeNat i
    let e := { o.event with
      flags := (if bitN o.event.flags 0 then o.event.flags - 1 else o.event.flags) ||| 32
      endEpoch := s.clk.epoch, endIdx := 0, duration := min 0xFFFFFFFF d }
    pqReplace e (setPq (fun q => { q with intr := none }) s)

/-- The coefficient set at a D2 start (R91). With no set in flash the ROM set runs, with SET_SOURCE 1 and no entry (log entry
75). -/
def loadSet (setOk : Bool) (s : State) : State :=
  match s.sie.flashSet with
  | none => useSet romSet true s
  | some c =>
    if setOk && (setCheck c).isNone then useSet c false s
    else raise 0x0208 (le 2 c.id ++ zeros 2 ++ le 4 c.crc)
      (useSet romSet true (setSie (fun x => { x with refused := true }) s))

def validRecord : Option CalRecord → Option CalRecord
  | some c => if c.valid then some c else none
  | none => none

def newestRecord (s : State) : Option CalRecord :=
  match validRecord s.cal.copyA, validRecord s.cal.copyB with
  | some a, some b => if a.count < b.count then some b else some a
  | some a, none => some a
  | none, b => b

/-- The parameters that a calibration record holds come into force, with its CAL_EPOCH as their epoch (R133, R284). -/
def applyRecord (c : CalRecord) (s : State) : State :=
  let s := (List.range 14).foldl (fun s p => forceParamAt s (0x0280 + p) ((c.gain[p]?).getD 0 : Nat) c.epoch) s
  let s := (List.range 14).foldl (fun s p => forceParamAt s (0x0290 + p) (code c.ofs p) c.epoch) s
  let s := (List.range 3).foldl (fun s x => forceParamAt s (0x02A0 + x) (code c.time x) c.epoch) s
  forceParamAt s 0x02A3 (b2n c.tcEnable) c.epoch

/-- No valid record: the calibration values have their defaults (R133). -/
def calDefaults (s : State) : State :=
  { s with par := { cells := s.par.cells.filter fun c => !(0x0280 ≤ c.1 && c.1 ≤ 0x02A3) } }

def loadRecord (s : State) : State :=
  match newestRecord s with
  | none => metFault 8 255 (raise 0x020D [] (calDefaults s))
  | some c =>
    let s := setCal (fun x => { x with inForce := some c, table := c.table, atOnce := true }) (applyRecord c s)
    let f := coef s
    if c.setId == f.id && c.setCrc == f.crc then s
    else raise 0x020E (le 2 f.id ++ le 2 c.setId) s

/-- The module start follows an outage: causes 0, 1 and 7 (R49). -/
def coldStart (s : State) : Bool := s.dom.startCause == 0 || s.dom.startCause == 1 || s.dom.startCause == 7

/-- What a run left unrecorded is recorded at the next D2 start: the closing entries of its metering faults (R75) and of a
halt of Sieve (R92, R93), whose last epoch is the last one before this start. -/
def closePrevious (s : State) : State :=
  let s := s.inp.closings.foldl (fun s f => closeFault f 0 s) s
  let s := match s.sie.haltOpen with
    | some e => raise 0x0209 (le 8 e ++ le 8 (s.clk.epoch - 1) ++ le 4 0) s
    | none => s
  setSie (fun x => { x with haltOpen := none }) (setInp (fun i => { i with closings := [] }) s)

/-- The start-up reference test (R71): a channel that fails is in metering fault from the first sample. The end of the test is
a switch at that sample, and the test is recorded as R88 says. -/
def startupTest (codes : List Int) (s : State) : State :=
  let passed := refPassed startCodes codes
  let t := epochPos s.clk.epoch
  let s := settleSwitch 0xFF t (setInp (fun i => { i with startupTest := passed }) s)
  let bad := (List.range 8).filter fun k => !bitN passed k
  let s := bad.foldl (fun s k => faultAbsent 7 k (metFault 7 k s)) s
  raise 0x020F (le 2 0xFF ++ le 2 passed ++ le 8 s.clk.epoch ++ le 8 s.clk.epoch
    ++ le 4 (settleCount (320 * s.clk.epoch) t)) s

/-- D2_START: the codes of the reference test at 0 and +50 % of each internal modulator (R71), whether the stored set passes
its CRC, and the samples lost during a timebase fault. The pending halves that the fault lost count with them (R100). -/
def execD2Start (codes : List Int) (setOk : Bool) (lost : Nat) (s : State) : Out :=
  whenever (s.dom.d4 && s.dom.d1 && !s.dom.d2) s fun s =>
    let alone := s.dom.d2Alone
    let cold := !alone && coldStart s
    let s := setMode (fun m => { m with
      powerCycles := if cold then satInc 0xFFFFFFFF m.powerCycles else m.powerCycles }) s
    let s := nextNumbers s
    let s := replayJournal s
    let was := s.bil.civil
    let s := startCivil (writeSuper s)
    let s := setDom (fun d => { d with d2 := true, d2Alone := false }) { s with clk := { s.clk with pllLocked := true } }
    let s := if !alone && s.dom.startCause = 1 then raise 0x0108 [] s else s
    let s := match s.led.lostTime with
      | some t =>
        let st := ((s.led.journal.getLast?).map (·.state)).getD {}
        raise 0x0107 (le 8 t.epoch ++ le 4 (t.samples + lost) ++ le 4 (boundSamples s st (t.samples + lost + divCeil t.halves 2)))
          (setLed (fun l => { l with lostTime := none }) s)
      | none => s
    let s := loadRecord (loadSet setOk (closeOutage (closePrevious s)))
    let s := setSie (fun x => { x with quadD := 32000 * 256 / (4 * max 1 (param s 0x0266)), first := s.clk.epoch }) s
    let s := startupTest codes (setCal (fun c => { c with applied := (s.clk.epoch, s.clk.epoch) }) s)
    let s := setLed (fun l => { l with replayStart := true }) s
    let s := if cold && s.upd.record.state = 1 then
        writeRecord (fun a => { a with trialEpoch := s.clk.epoch }) s
      else s
    if alone then setBil (fun b => { b with stepDue := b.stepDue ++ [⟨s.clk.epoch, was, b.civil, b.timeUnset, true⟩] }) s
    else setPwr (fun p => { p with charging := true, chargeStart := s.clk.now }) s

/-! D3 (R281, R386, R441). -/

/-- The epoch of the closing cause of a session that a start finds open (R327): the first one of the HOLDUP that ended the run,
else the run's last durable one. -/
def stopEpoch (s : State) : Nat :=
  let l := (sampleEntries s).reverse
  let h := l.takeWhile fun j => bitN j.flags 0
  ((h.getLast?.or l.head?).map (·.epoch)).getD 0

/-- The session that a module start finds open ends with it (R49, R327). -/
def endOldSession (s : State) : State :=
  match s.bil.session with
  | none => s
  | some o => setVeh (fun v => { v with
      endCause := some (if coldStart s then 4 else 5), endAt := max o.startEpoch (stopEpoch s) }) s

/-- Kiln goes on from its own checkpoint (R180). At a module start it attributes the run before through the journal, and closes
what the time without D2 closes (R49, R219). -/
def kilnStart (s : State) : State :=
  let s := if isStandby s then s else lsRestore s
  if !s.dom.kilnDue then s
  else
    let first := runFirst s
    let s := lComplete (first - 1) (endOldSession s)
    let s := outageClosings (coldStart s) (s.bil.civil - ((s.clk.epoch : Int) - first) * 2048000) s
    setDom (fun d => { d with kilnDue := false }) s

/-- The root in force, chosen at D3 start (R386, R387). -/
def chooseRoot (ok : Bool) (corrected attempts worst : Nat) (s : State) : State :=
  let lc := s.sag.lifecycle
  let want := if s.sag.debugOpen then 4 else rootOf lc
  let puf := lc == .factory || lc == .field || lc == .returned
  let s := if puf then setSag (fun g => { g with pufCorrected := corrected }) s else s
  if puf && want != 4 && !(ok && s.sag.helperA) then
    logNow 0x0806 (le 1 attempts ++ le 1 worst ++ le 2 corrected) (setSag (fun g => { g with root := 0 }) s)
  else setSag (fun g => { g with root := want }) s

/-- A helper copy that fails its CRC is written again from the other (R387): bit 0 of the mask is copy A, bit 1 copy B. -/
def checkHelpers (bad : Nat) (s : State) : State :=
  let ok := (s.sag.helperA && !bitN bad 0) || (s.sag.helperB && !bitN bad 1)
  setSag (fun g => { g with helperA := ok, helperB := ok }) s

/-- The CMAC check of every slot and use count under the root in force: a slot that fails is BAD and recorded, a count that
fails is taken as 0 (R391, R392). Without a root nothing can be checked. -/
def checkSlots (badSlots badCounts : Nat) (s : State) : State :=
  if s.sag.root = 0 then s
  else
    let mark (p : Slot) : Slot :=
      if p.root = s.sag.root then
        { p with
          cmacOk := p.cmacOk && !bitN badSlots p.slot
          usesLeft := if bitN badCounts p.slot then 0 else p.usesLeft }
      else p
    let s := setSag (fun g => { g with slots := g.slots.map mark }) s
    s.sag.slots.foldl (fun s p => noteBad p.slot s) s

/-- D3_LEAVES_RESET: the cells that pass their test, what the root generation found (success, bits corrected, attempts, worst
block), whether the part hashes of the running image agree, and the helper copies, slots and use counts that fail their
check. -/
def execD3LeavesReset (cells : Nat) (rootOk : Bool) (corrected attempts worst : Nat) (hashOk : Bool)
    (badHelpers badSlots badCounts : Nat) (s : State) : Out :=
  whenever (s.dom.d4 && !s.dom.d3 && (s.dom.d2 || !s.dom.kilnDue)) s fun s =>
    let s := advanceTo s.dom.hrstUntil s
    let s := if s.sag.erasePending then zeroiseFlash (if s.sag.potting then 7 else 6) true s else s
    let s := match s.sag.lcPending with | some t => finishTransition t true s | none => s
    let s := setDom (fun d => { d with d3 := true, ready := false }) s
    let s := setHatch (fun h => { h with d3Restarted := true }) s
    let s := setKiln (fun k => { k with cells := k.cells.mapIdx fun i c => { c with healthy := bitN cells i } }) s
    let s := setSag (fun g => { g with debugOpen := g.dbgEnable && debugAllowed s }) s
    let s := setCal (fun c => { c with lrHash := lrHashOf s }) (checkSlots badSlots badCounts
      (chooseRoot rootOk corrected attempts worst (checkHelpers badHelpers s)))
    let s := dispStart (linStart (kilnStart s))
    if s.upd.record.state = 1 && !hashOk then rollback 1 s
    else setMode (fun m => { m with validImage := hashOk }) s

/-- The tick of an RTC second of the outage. -/
def tickOfRtc (s : State) (rtc : Int) : Tick := ((s.clk.now : Int) - (civilSec (rtcNow s) - rtc) * Tick.s 1).toNat

/-- One TAMP change of the outage, `mask` being the inputs active before it: the cover source opens or closes with the RTC time
of the change (R397). -/
def tampOfOutage (x : Nat × State) (c : Nat × Bool × Int) : Nat × State :=
  let s := x.2
  let mask := setBitN x.1 c.1 c.2.1
  let at' := tickOfRtc s c.2.2
  let log (f : Nat) (d : List Byte) : State := storeEvent
    { mkEvent s 0x0805 f 0xFF (le 1 5 ++ le 1 mask ++ le 1 (tamperResponse s 5) ++ zeros 1 ++ d) with civil := c.2.2 } s
  (mask,
    if mask != 0 && !bitN s.sag.tamperActive 5 then
      setSag (fun g => { g with since := g.since.set 5 at' }) (tamperBegin 5 (log 0 []))
    else if mask == 0 && bitN s.sag.tamperActive 5 then
      tamperEnd 5 (log 1 (le 4 ((at' - (s.sag.since[5]?).getD 0) / Tick.s 1)))
    else s)

/-- The outage store goes to the logs: the outage's bounds, and the TAMP changes that fell in it (R397, R522). -/
def takeOutage (s : State) : State :=
  match s.nl.outageRtc with
  | none => s
  | some t =>
    let before := s.nl.outageTamp.foldr (fun c m => setBitN m c.1 (!c.2.1)) s.sag.tamp
    let s := (s.nl.outageTamp.foldl tampOfOutage (before, s)).2
    setNl (fun n => { n with
      outageStart := t, overflowed := n.outageOverflow, outageRtc := none, outageTamp := [], outageOverflow := false }) s

/-- Triggers of one Kiln task in ascending code order (R538), those of one code as they came. -/
def inCodeOrder (l : List (Nat × Nat)) : List (Nat × Nat) :=
  [0, 1, 2, 3, 4, 5, 6, 7, 8, 9, 10, 11, 12, 17, 13, 14, 15, 16].flatMap fun n => l.filter (·.1 == n)

/-- READY_RISES: D3_STARTED, the first firmware entry; the aborts of R281, the triggers recorded while D3 was in reset (R531), and what firmware reports at its
start. -/
def execReadyRises (s : State) : Out :=
  whenever (s.dom.d3 && !s.dom.ready) s fun s =>
    let s := setDom (fun d => { d with ready := true }) s
    let todo := s.hatch.pending
    let s := if s.dom.abortDue then
        todo.foldl (fun s p => reply { sender := p.sender, chan := p.chan, seq := p.seq } p.opcode stAborted [] s) s
      else s
    let unseen := s.diag.unseen
    let s := setDiag (fun d => { d with unseen := [] }) s
    let s := (inCodeOrder unseen).foldl (fun s u => diagTrigger u.1 u.2 s) (diagTrigger 0 s.dom.cause s)
    let s := dispReport s
    let s := if s.lin.shareInvalid then linEvent 8 0 0 s else s
    let s := setCon (fun c => { c with baseline := pageGen s 14 }) s
    coverFollow (takeOutage s)

/-! The first mode (R32, R34, R36). -/

/-- SYS_MODE_CHANGED (R56). -/
def modeChanged (old new : Mode) (cause : Nat) (s : State) : State :=
  notify 0 0x0138 (le 1 old.code ++ le 1 new.code ++ le 1 cause ++ zeros 1) s

/-- A mode comes into force. -/
def enterMode (m : Mode) (cause : Nat) (s : State) : State :=
  let old := s.mode.mode
  let s := setMode (fun x => { x with
    mode := m, since := s.clk.epoch, request := none, interim := false, idleSince := s.clk.now }) s
  let s := modeChanged old m cause (setNl (fun n => { n with wakeDue := 0 }) s)
  if m == .recovery then yieldRole s else if m == .watch then stopPort s else s

/-- The mode a start calls for, and whether COMMISSION is the interim (R32). With no valid image it is RECOVERY in life-cycle FACTORY
too, the model's choice between R32 and R34 (log entry 88). -/
def firstMode (s : State) : Mode × Bool :=
  let lc := s.sag.lifecycle
  if lc == .returned || lc == .ended || s.mode.recoveryPending || !s.mode.validImage then (.recovery, false)
  else if lc == .factory then (.factory, false)
  else if lc == .blank then (.none, false)
  else if param s 0x0106 = 0 || s.mode.prev == .commission then (.commission, false)
  else if !s.hold.measured then (.commission, true)
  else if s.hold.refuseService then (.commission, false)
  else (.service, false)

/-- A rollback has restarted into a mode: STATE 0 and FW_ROLLED_BACK; a trial counts its time without fault, and a
UPD_CONFIRM that came before the mode ends it (R504, R509). -/
def trialMode (s : State) : State :=
  if s.upd.record.state = 2 then
    let s := logNow 0x0E02 (le 4 s.upd.bundleId ++ le 1 s.upd.rollCause) s
    updEvent 5 s.upd.bundleId (writeRecord (fun a => { a with state := 0 }) s)
  else if s.upd.record.state = 1 then
    let s := updEvent 3 s.upd.bundleId (setUpd (fun u => { u with trialSince := some s.clk.now }) s)
    if s.upd.confirmed then confirmTrial s else s
  else s

/-- FIRST_MODE_ENTERED: whether both Shutter channels report the image versions of the manifest; in a trial, other versions
roll it back (R504). -/
def execFirstModeEntered (versionsOk : Bool) (s : State) : Out :=
  whenever (s.dom.d3 && s.dom.d2 && s.mode.mode == .none && s.sag.lifecycle != .blank) s fun s =>
    if s.upd.record.state = 1 && !versionsOk then rollback 3 s else
    let m := firstMode s
    let s := if m.2 then advanceTo (s.mode.startAt + Tick.ms 400) s else s
    setMode (fun x => { x with interim := m.2 }) (trialMode (enterMode m.1 1 s))

/-- INTERIM_TO_SERVICE: at the first epoch boundary after the measurement (R36). -/
def execInterimToService (s : State) : Out :=
  whenever (s.mode.interim && s.mode.mode == .commission && s.hold.measured && decide (s.hold.cMeasEpoch < s.clk.epoch)
      && !s.hold.refuseService && s.mode.request.isNone) s
    fun s => enterMode .service 1 s

end Sys2Proof.Machine
end

