-- ==== Sys2Proof/Machine/VehicleLink.lean ====
section
/-! DEFINITION. Green PHY, the message protocols and the DC power stage (13). -/

namespace Sys2Proof.Machine

/-! SLAC (R318, R319). -/

/-- The modem runs and a vehicle is connected. -/
def modemOn (s : State) : Bool := serving s && !inHoldup s && !isStandby s && param s 0x0501 != 2 && connected s

def answered (m : SlacMsg) (s : State) : State := setVeh (fun x => { x with slacAnswered := some m }) s

def slacStep (m : SlacMsg) (s : State) : State :=
  match m with
  | .parm => answered m (setVeh (fun x => { x with nmk := x.nmk + 1, atten := none, slacMatched := false }) s)
  | .attenChar mean => answered m (setVeh (fun x => { x with atten := some mean }) s)
  | .matchReq =>
    match s.veh.atten with
    | some a =>
      if a ≤ param s 0x0509 then
        askPilot (answered m (setVeh (fun x => { x with slacMatched := true, fallback := false, slacStart := none }) s))
      else s
    | none => s
  | .startAttenChar | .mnbcSound | .setKey | .validate => answered m s

/-- SLAC_MESSAGE; after a fallback a vehicle may restart SLAC only in state B (R319). -/
def execSlacMessage (m : SlacMsg) (s : State) : Out :=
  whenever (modemOn s && (!s.veh.fallback || s.shu.cpState == 2)) s (slacStep m)

/-- SLAC_TIMEOUT: TT_EVSE_SLAC_init of 40 s (R319). -/
def execSlacTimeout (s : State) : Out :=
  match s.veh.slacStart with
  | none => .next s
  | some t =>
    whenever (modemOn s && !s.veh.slacMatched) s fun s =>
      askPilot (vehEvent 8 0 (setVeh (fun x => { x with fallback := true, slacStart := none }) (advanceTo (t + Tick.s 40) s)))

/-! Message protocols (R320, R321, R325, R326). -/

/-- A protocol is enabled, fits the variant and the security in use: 1 DIN SPEC 70121, 2 ISO 15118-2, 3 ISO 15118-20. -/
def protocolOk (s : State) (p : Nat) : Bool :=
  decide (1 ≤ p) && decide (p ≤ 3) && bitN (param s 0x0503) (p - 1) && (match p with
    | 1 => enabled s.ident.variant .td && !s.veh.tls
    | 2 => (match param s 0x0504 with | 0 => !s.veh.tls | 2 => s.veh.tls && !s.veh.tls13 | _ => !s.veh.tls || !s.veh.tls13)
    | _ => s.veh.tls && s.veh.tls13)

def answerV (a : V2GAnswer) (s : State) : State := setVeh (fun x => { x with answer := a }) s

/-- Discharge is offered for the session (R326). -/
def bptOffer (s : State) (wants dc : Bool) : Bool :=
  wants && s.veh.protocol == 3 && param s 0x0505 == 1 && s.veh.bptAllowed && param s 0x0200 != 2
    && (!dc || enabled s.ident.variant .td)

/-- Targets of the vehicle, cut to the limits (R326, R330). -/
def setTargets (v : Nat) (i : Int) (s : State) : State :=
  let neg := decide (i < 0) && s.veh.bptOffered
  let s := setVeh (fun x => { x with vTarget := v, iTarget := i, discharge := neg }) s
  setVeh (fun x => { x with
    pmV := min v (param s 0x050E), pmI := if 0 ≤ i then min i.toNat s.veh.iLim else 0
    pmNeg := if neg then min i.natAbs (min (param s 0x0506) s.veh.iLim) else 0 }) s

/-- V_test of cable check, mV (R329). -/
def testVoltage (s : State) : Nat := min (max (s.veh.evV.getD 0) 500000) (param s 0x050E)

/-- Cable check begins (R329 steps 1 and 2). -/
def startCableCheck (s : State) : State :=
  let s := setVeh (fun x => { x with
    dcPhase := 1, pmMode := 1, pmV := testVoltage s, pmI := 10 * pmOnline s, pmNeg := 0, isolation := 0
    dcEnd := some (s.clk.now + Tick.s 20) }) s
  askPilot s

/-- The end of energy transfer on the vehicle's request (R330 step 1, worked example of R327): event 6. -/
def stopTransfer (s : State) : State :=
  let s := stopBegun (setVeh (fun x => { x with delivery := false }) s)
  if s.veh.dcService then
    setVeh (fun x => { x with
      dcPhase := 4, pmMode := 4, pmI := 0, pmNeg := 0, dcEnd := some (s.clk.now + Tick.s 1), transfer := false }) s
  else askShutter (.openOrderly 0) (setVeh (fun x => { x with transfer := false }) s)

/-- The power limit in force, W, to which a schedule entry is cut: of the DC terms, or I_lim over the phases at MET.PQ_U_DIN
(R322, log entry 41). -/
def powerLimit (s : State) : Nat :=
  let u := param s 0x02C0
  if s.veh.dcService then
    minOf (param s 0x0510) ((s.veh.hostP.toList ++ s.veh.evP.toList) ++ ((iSite s).map fun i => i * u * 3 / 1000000).toList)
  else s.veh.iLim * u * (phasesOn s).length / 1000000

/-- The host's schedule as a message carries it (R324). -/
def sendSchedule (s : State) : State :=
  setVeh (fun x => { x with scheduleSent := x.schedule.map fun e => (e.1, min e.2 (powerLimit s)) }) s

/-- A relayed certificate request (R325). -/
def relay (msg : Nat) (body : List Byte) (s : State) : State :=
  let i := s.veh.nextRelay
  let s := answerV .ongoing (setVeh (fun x => { x with relay := some i, nextRelay := x.nextRelay + 1 }) s)
  notify 2 0x050A (le 4 i ++ le 1 msg ++ zeros 3 ++ body) s

/-- A key type serves the curves of a TLS version (R321): P-256 for 1.2, P-521 or Ed448 for 1.3. -/
def tlsKeyOk (v13 : Bool) (type : Nat) : Bool := if v13 then type == 6 || type == 7 else type == 4

/-- A TLS handshake, 1.3 for ISO 15118-20 and 1.2 for ISO 15118-2, uses the SECC key in its slot, which needs TLS (R321, R390);
without it the session that needs TLS fails (R387). -/
def handshake (v13 : Bool) (s : State) : State :=
  let k := param s (if v13 then 0x050D else 0x050C)
  let s := noteBad k s
  if (slotRefusal s k aTls).isSome || !tlsKeyOk v13 (typeOf s k) then answerV .failed s
  else answerV .ok (consume k (setVeh (fun x => { x with tls := true, tls13 := v13 }) s))

/-- A message of the vehicle and its answer. -/
def v2gStep (m : V2GMsg) (s : State) : State :=
  match m with
  | .sdp => answerV .ok (setVeh (fun x => { x with tcp := true, tls := false }) s)
  | .tlsDone v13 => handshake v13 s
  | .appProtocol l =>
    match l.find? (protocolOk s) with
    | some p => answerV (.protocol p) (setVeh (fun x => { x with protocol := p }) s)
    | none => answerV .failed s
  | .sessionSetup id evccid =>
    if sessionOpen s && id != 0 && id == s.veh.sessionId then answerV .oldSession s
    else
      let n := ofLe (Config.random s.clk.free 8)
      let s := { s with clk := { s.clk with free := s.clk.free + 1 } }
      forwardAuth 3 evccid (answerV .newSession (setVeh (fun x => { x with sessionId := n }) s))
  | .paymentContract emaid chainValid =>
    if chainValid && s.veh.protocol != 1 then forwardAuth 2 emaid (answerV .ok s) else answerV .failed s
  | .authorization =>
    if sessionOpen s then answerV .ok s
    else if s.veh.authFailed && s.veh.req.isNone then answerV .failed s
    else answerV .ongoing (freeVend s)
  | .chargeParameters i v p bpt =>
    let dc := v != 0
    if dc && !enabled s.ident.variant .td then answerV .failed s
    else
      let offer := bptOffer s bpt dc
      let s := updateLimits (setVeh (fun x => { x with
        evI := some i, evV := if dc then some v else none, evP := if dc then some p else none, dcService := dc
        bptOffered := offer }) s)
      let s := sendSchedule s
      if dc then answerV (.dcLimits (param s 0x050E) s.veh.iLim (param s 0x0510) offer) s else answerV (.acLimit s.veh.iLim) s
  | .cableCheck =>
    if !s.veh.dcService || !sessionOpen s then answerV .failed s
    else if s.veh.isolation != 0 && s.veh.dcEnd.isNone then answerV (.isolation s.veh.isolation) s
    else if s.veh.dcPhase = 1 then answerV .ongoing s
    else answerV .ongoing (startCableCheck s)
  | .preCharge v =>
    if !s.veh.dcService || !sessionOpen s || s.veh.isolation = 0 || s.veh.isolation = 3 then answerV .failed s
    else
      let first := s.veh.dcPhase != 2
      answerV (.present s.shu.mod1) (setVeh (fun x => { x with
        dcPhase := 2, pmMode := 2, pmV := v, vTarget := v, pmI := 2000, pmNeg := 0
        dcEnd := if first then some (s.clk.now + Tick.ms (param s 0x0512)) else x.dcEnd }) s)
  | .powerDelivery start =>
    if !sessionOpen s then answerV .failed s
    else if start then
      if s.veh.dcService then
        if s.veh.dcPhase = 2 && s.veh.dcEnd.isNone then
          answerV .ok (setVeh (fun x => { x with dcPhase := 3, pmMode := 3, delivery := true }) s)
        else answerV .failed s
      else answerV .ok (askPilot (setVeh (fun x => { x with delivery := true }) s))
    else answerV .ok (stopTransfer s)
  | .currentDemand v i =>
    if s.veh.dcService && s.veh.dcPhase = 3 then
      let s := updateLimits (setTargets v i s)
      answerV (.dcLimits (param s 0x050E) s.veh.iLim (param s 0x0510) s.veh.bptOffered) s
    else answerV .failed s
  | .chargeLoop target =>
    if !sessionOpen s || s.veh.protocol != 3 then answerV .failed s
    else
      let s := updateLimits (if s.veh.dcService then setTargets s.veh.vTarget target s
        else setVeh (fun x => { x with iTarget := target, discharge := decide (target < 0) && x.bptOffered }) s)
      answerV (.acLimit s.veh.iLim) s
  | .weldingDetection => answerV (.present s.shu.mod1) s
  | .sessionStop terminate =>
    let s := setVeh (fun x => { x with tcp := false, tls := false, delivery := false, discharge := false }) s
    let s := if s.veh.dcService && s.veh.dcPhase != 0 then
        askShutter (.openOrderly 0) (setVeh (fun x => { x with pmMode := 0, pmI := 0, pmNeg := 0, dcPhase := 5, dcEnd := none }) s)
      else s
    if terminate then askPilot (askShutter (.openOrderly 0) (endSession 1 (answerV .ok s)))
    else answerV .ok (setVeh (fun x => { x with paused := true, transfer := false }) s)
  | .certificateInstallation body => if s.veh.protocol = 2 || s.veh.protocol = 3 then relay 1 body s else answerV .failed s
  | .certificateUpdate body => if s.veh.protocol = 2 || s.veh.protocol = 3 then relay 2 body s else answerV .failed s

/-- V2G_MESSAGE (R320): over the link that SLAC matched. -/
def execV2gMessage (m : V2GMsg) (s : State) : Out := whenever (modemOn s && s.veh.slacMatched) s (v2gStep m)

/-! The DC power stage (R328–R331). -/

def dcOn (s : State) : Bool := serving s && enabled s.ident.variant .td

/-- A power module is lost, or online (R328). -/
def setPm (n : Nat) (f : PowerModule → PowerModule) (s : State) : State := setVeh (fun x => { x with pm := modAt x.pm n f }) s

/-- CAN_FRAME_RECEIVED (R328). -/
def execCanFrameReceived (f : CanFrame) (s : State) : Out :=
  whenever (dcOn s) s fun s =>
    if f.id = 0x0C0 && f.data.length = 8 then
      setVeh (fun x => { x with rIso := fieldAt f.data 0 4, monitor := fieldAt f.data 4 1 }) s
    else if 0x180 ≤ f.id && f.id < 0x180 + param s 0x0511 && f.data.length = 16 then
      let n := f.id - 0x180
      let alive := fieldAt f.data 1 1
      let bad := fieldAt f.data 2 2 != 0 || (s.veh.pm[n]?.bind (·.alive)) == some alive
      setPm n (fun p => { p with
        online := !bad, seen := s.clk.now, alive := some alive, vOut := fieldAt f.data 4 4
        iOut := toI 4 (fieldAt f.data 8 4) }) s
    else s

/-- The control frame of module n: the current limits divided among the modules online. -/
def controlFrame (s : State) (n : Nat) : CanFrame :=
  let p := (s.veh.pm[n]?).getD {}
  let share (v : Nat) : Nat := if p.online then v / max 1 (pmOnline s) else 0
  ⟨0x100 + n, le 1 s.veh.pmMode ++ le 1 p.txAlive ++ zeros 2 ++ le 4 s.veh.pmV ++ le 4 (share s.veh.pmI)
    ++ le 4 (share s.veh.pmNeg)⟩

/-- CAN_FRAME_SEND: every 10 ms (R328); a STANDBY only listens (R480). -/
def execCanFrameSend (s : State) : Out :=
  whenever (dcOn s && !isStandby s) s fun s =>
    let n := param s 0x0511
    let fs := (List.range n).map (controlFrame s)
    setVeh (fun x => { x with
      canSent := fs, pm := x.pm.mapIdx fun i p => if i < n then { p with txAlive := (p.txAlive + 1) % 256 } else p }) s

/-- POWER_MODULE_LOST: 50 ms without a valid frame (R328). -/
def execPowerModuleLost (n : Nat) (s : State) : Out :=
  match s.veh.pm[n]? with
  | none => .next s
  | some p =>
    whenever (dcOn s && p.online) s fun s =>
      updateLimits (setPm n (fun p => { p with online := false }) (advanceTo (p.seen + Tick.ms 50) s))

/-- A failed cable check or precharge: the opening and END_CAUSE 3 (R327, R329, R330). -/
def dcFail (s : State) : State :=
  askShutter (.openOrderly 0) (endSession 3 (setVeh (fun x => { x with
    dcEnd := none, pmMode := 0, pmI := 0, pmNeg := 0 }) s))

/-- MOD1 is within 2 % of V_test. -/
def atTestVoltage (s : State) : Bool := decide (50 * ((s.shu.mod1 : Int) - s.veh.pmV).natAbs ≤ s.veh.pmV)

/-- CABLE_CHECK_READY (R329 step 4): R_ISO ÷ V_test in Ω/V. -/
def execCableCheckReady (s : State) : Out :=
  whenever (dcOn s && s.veh.dcPhase == 1 && s.veh.dcEnd.isSome && s.veh.monitor == 1 && atTestVoltage s) s fun s =>
    let r := s.veh.rIso * 1000
    let v := s.veh.pmV
    if 500 * v ≤ r then setVeh (fun x => { x with isolation := 1, dcEnd := none }) s
    else if 100 * v ≤ r then setVeh (fun x => { x with isolation := 2, dcEnd := none }) s
    else dcFail (setVeh (fun x => { x with isolation := 3 }) s)

def execCableCheckTimeout (s : State) : Out :=
  match s.veh.dcEnd with
  | none => .next s
  | some t =>
    whenever (dcOn s && s.veh.dcPhase == 1) s fun s => dcFail (setVeh (fun x => { x with isolation := 3 }) (advanceTo t s))

/-- PRECHARGE_COMPLETE: MOD1 within 20 V of the target (R330). -/
def execPrechargeComplete (s : State) : Out :=
  whenever (dcOn s && s.veh.dcPhase == 2 && s.veh.dcEnd.isSome
      && decide (((s.shu.mod1 : Int) - s.veh.vTarget).natAbs ≤ 20000)) s fun s =>
    setVeh (fun x => { x with dcEnd := none, answer := .ok }) s

def execPrechargeTimeout (s : State) : Out :=
  match s.veh.dcEnd with
  | none => .next s
  | some t => whenever (dcOn s && s.veh.dcPhase == 2) s fun s => dcFail (advanceTo t s)

/-- DC_DISCHARGE_END: MOD1 below 60 V, or the 1.0 s have passed: DISCHARGE_SLOW, and the weld handling (R330, R351). -/
def execDcDischargeEnd (s : State) : Out :=
  match s.veh.dcEnd with
  | none => .next s
  | some t =>
    whenever (dcOn s && s.veh.dcPhase == 4) s fun s =>
      let off (s : State) : State := setVeh (fun x => { x with pmMode := 0, dcEnd := none }) s
      if s.shu.mod1 < 60000 then off s else latchWeld (vehEvent 13 0 (off (advanceTo t s)))

end Sys2Proof.Machine
end

