-- ==== Sys2Proof/Machine/Modes.lean ====
section
/-! DEFINITION. Operating modes (02): the mode opcodes, changes that take effect at a boundary, WATCH, resets by command, the reclaim
window, and the hold-up sequence. -/

namespace Sys2Proof.Machine

/-! Mode requests (R31–R33, R53–R55). -/

/-- The reclaim window's milliseconds left, 0xFFFF where none runs (R53). -/
def reclaimLeft (s : State) : Nat :=
  match s.recl.deadline with
  | some t => (t - s.clk.now) / 204800
  | none => 0xFFFF

/-- The fields of SYS_MODE_GET (R53). -/
def modeBody (s : State) : List Byte :=
  le 1 s.mode.mode.code ++ le 1 s.sag.lifecycle.code ++ le 1 s.dom.cause ++ le 1 (b2n s.mode.recoveryPending)
    ++ le 8 s.mode.since ++ le 4 s.mode.powerCycles ++ le 2 (reclaimLeft s) ++ zeros 2

def execSysModeGet (r : Req) (s : State) : Out := brixo 0x0130 r s fun s => answer s stOk (modeBody (asOf s))

def modeOf (n : Nat) : Option Mode :=
  match n with
  | 2 => some .commission | 3 => some .service | 4 => some .watch | 6 => some .recovery
  | _ => none

/-- The refusal of a transition on request, none where R32 permits it. With KM1 or KM2 not open it is SESSION_ACTIVE though no session
is open, the model's choice (log entry 89). -/
def modeRefusal (s : State) (t : Mode) : Option Nat :=
  let busy := sessionOpen s || !kmOpen s
  match s.mode.mode, t with
  | .commission, .service =>
    if param s 0x0106 = 0 then some stNotCommissioned
    else if !s.hold.measured then some stHoldupUnmeasured
    else if s.hold.refuseService then some stHoldupCapLow else none
  | .service, .commission => if busy then some stSessionActive else none
  | .service, .watch => if busy then some stSessionActive else if s.shu.cpState != 1 then some stWrongMode else none
  | .commission, .recovery | .service, .recovery | .watch, .recovery => if busy then some stSessionActive else none
  | .recovery, .commission | .recovery, .service | .recovery, .watch => none
  | _, _ => some stWrongMode

def execSysModeRequest (r : Req) (target : Nat) (s : State) : Out :=
  brixo 0x0131 r s fun s =>
    match modeOf target with
    | none => refuse s stBadParam
    | some t =>
      match modeRefusal s t with
      | some st => refuse s st
      | none =>
        let e := s.clk.epoch + 1
        let s := if s.mode.mode == .recovery then setMode (fun m => { m with recoveryPending := false, exitDue := some e }) s
          else setMode (fun m => { m with
            request := some (t, e), interim := false, recoveryPending := t == .recovery }) s
        answer s stOk (le 8 e)

/-- WATCH may be entered: no session, KM1 and KM2 open, CP in state A (R32). -/
def watchOk (s : State) : Bool := !sessionOpen s && kmOpen s && s.shu.cpState == 1

/-- MODE_CHANGE_EFFECTIVE (R31): WATCH gives way to a vehicle (R50); an exit from RECOVERY restarts the module. -/
def execModeChangeEffective (s : State) : Out :=
  match s.mode.exitDue with
  | some e => whenever (decide (e ≤ s.clk.epoch)) s (moduleRestart 6)
  | none => match s.mode.request with
    | none => .next s
    | some (m, e) =>
      whenever (decide (e ≤ s.clk.epoch) && !inHoldup s) s fun s =>
        if m == .watch && !watchOk s then setMode (fun x => { x with request := none }) s
        else enterMode m 0 s

/-- WATCH_DELAY_EXPIRY: the delay ended in an epoch that is over; a vehicle that came in that epoch has won (R32, R50). -/
def execWatchDelayExpiry (s : State) : Out :=
  whenever (s.mode.mode == .service && watchOk s && s.mode.request.isNone
      && decide (s.mode.idleSince + Tick.s (param s 0x0101) ≤ s.clk.epochStart)) s (enterMode .watch 2)

/-- WAKE_OUT at a wake by a source (R526). -/
def wakeOut (src : Nat) (s : State) : State :=
  let s := setNl (fun n => { n with wakeSrc := some src }) s
  if src = 2 || !bitN (param s 0x100B) src || s.nl.wakeOut then s
  else setNl (fun n => { n with
    wakeOut := true, wakePulse := if param s 0x100C = 1 then some (s.clk.now + Tick.ms 10) else none }) s

/-- WATCH_WAKE by a source of R51 that has been seen; an RTC alarm (6) is firmware's own. -/
def execWatchWake (src : Nat) (s : State) : Out :=
  whenever (s.mode.mode == .watch && bitN (param s 0x0102) src && (src == 6 || bitN s.nl.wakeDue src)) s fun s =>
    let (i, s) := takeFree (wakeOut src (enterMode .service 3 s))
    nlEvent 5 src (Config.freeNat i % 2 ^ 32) s

/-! Resets by command (R54). -/

/-- A session that is neither paused nor ending is opening, or transfers energy (R50). -/
def sessionOpening (s : State) : Bool := sessionOpen s && !s.veh.paused && s.veh.endCause.isNone

/-- What stands against a module restart: an energised or closed contactor, a CLOSE on its way, a session that opens (R39,
R50). -/
def outputsActive (s : State) : Bool := !kmOpen s || s.veh.transfer || sessionOpening s || s.shu.requests.any isClose

def execSysReset (r : Req) (scope : Nat) (s : State) : Out :=
  brixo 0x0132 r s fun s =>
    if inHoldup s then refuse s stWrongMode
    else if scope != 1 && scope != 2 then refuse s stBadParam
    else if scope = 2 && outputsActive s then refuse s stOutputsActive
    else answer (setMode (fun m => { m with resetScope := some (scope, r) }) s) stOk (le 8 (s.clk.epoch + 1))

/-- The reply to a request still waits, or has words in its Hatch queue that the host has not read. -/
def replyQueued (s : State) (code : Nat) (r : Req) : Bool :=
  s.hatch.replies.any (·.opcode == code)
    || (r.sender == .hostSpi && (chanOf s r.chan).outbox.any fun p => p.reply && p.seq == r.seq)

/-- SYS_RESET_BEGIN: 10 ms after the reply has left its queue. -/
def execSysResetBegin (s : State) : Out :=
  match s.mode.resetScope with
  | none => .next s
  | some (scope, r) =>
    whenever (!replyQueued s 0x0132 r && !inHoldup s) s fun s =>
      let s := advanceTo (s.clk.now + Tick.ms 10) (setMode (fun m => { m with resetScope := none }) s)
      if scope = 1 then d3Reset 5 s else moduleRestart 6 s

def execSysHoldupInfo (r : Req) (s : State) : Out :=
  brixo 0x0133 r s fun s =>
    answer s stOk (le 4 s.hold.cMeas ++ le 8 s.hold.cMeasEpoch ++ le 4 (holdupEh s.hold.cMeas s.pwr.vhold / 1000000)
      ++ le 4 (holdupEp (predictedVb2 s) / 1000000) ++ le 4 180 ++ le 2 (min 65535 (framesFit s)) ++ zeros 2
      ++ le 8 s.hold.tdEpoch ++ le 2 (min 65535 s.hold.tdMs) ++ le 2 (min 65535 s.hold.frames))

/-! The reclaim window (R40–R42). -/

def isReclaim : ShuReq → Bool
  | .reclaim => true
  | _ => false

/-- RECLAIM: accepted also after the stop has begun. A DC session ends after it (R331). -/
def execReclaim (s : State) : Out :=
  serveRequest isReclaim s fun s =>
    let s := { s with recl := { s.recl with deadline := none, required := false } }
    if sessionOpen s && s.veh.dcService && serving s then
      askShutter (.openOrderly 0) (endSession 5 (if s.veh.transfer then stopTransfer s else s))
    else s

/-- RECLAIM_TIMER_EXPIRY: step 1 of R42. -/
def execReclaimTimerExpiry (s : State) : Out :=
  match s.recl.deadline with
  | none => .next s
  | some t =>
    whenever s.dom.d1 s fun s =>
      let s := advanceTo t { s with recl := { s.recl with deadline := none } }
      beginStop .reclaim (Tick.s 3) (endSession 5 s)

/-! Mains failure and HOLDUP (R43–R48). -/

/-- R161 at t_f: an interruption stays open, every other open event ends with TRUNCATED_HOLDUP. -/
def pqHoldup (s : State) : State :=
  if !s.pq.armed then s
  else
    let a := padNow s
    let s := match s.pq.intr with
      | some _ => s
      | none =>
        let (i, s) := takeFree s
        let start := a - 384
        let e := { openEvent 3 (param s 0x0201) (0, Config.freeNat i % 2 ^ 32) start s.pq.nextIndex
          (Config.freeNat (i + 1) % 2 ^ 32) s with flags := 17 + (if s.sie.quadRef.isNone then 8 else 0) }
        pqAdd e (setPq (fun q => { q with intr := some ⟨e, pqThr s 0x02C3 + pqHyst s, start⟩ }) (takeFree s).2)
    setPq (fun q => { q with armed := false, closedSince := none, since := a }) (pqEndOthers a 2 s)

/-- Everything switched off at t_f (R44). -/
def outputsOff (s : State) : State :=
  let s := allOff (stopPwm (deenergise s))
  { s with
    lsw := { s.lsw with heldOff := true }
    pwr := { s.pwr with v12Out := false, v12Tripped := none, v3v3Out := false } }

/-- The power stage stops with 0x080 where D3 runs in a DC phase (R332). -/
def stopPowerStage (s : State) : State :=
  if s.dom.d3 && decide (1 ≤ s.veh.dcPhase) && decide (s.veh.dcPhase ≤ 4) then pmStop s else s

/-- Pulse outputs stop low (R141), and host DMA channels end aborted (R309). -/
def stopPulses (s : State) : State :=
  setCal (fun c => { c with
    cfP := { c.cfP with edges := [], high := none }, cfQ := { c.cfQ with edges := [], high := none } }) s

def abortHostDma (s : State) : State := (List.range 4).foldl (fun s c => (dmaAbort c s).1) s

/-- Requests on their way, an orderly stop, the reclaim window, a time setting and a commanded reset end with HOLDUP. -/
def dropPending (s : State) : State :=
  let s := setShu (fun x => { x with requests := [], stop := none }) s
  let s := setMode (fun m => { m with resetScope := none, exitDue := none }) s
  let s := setBil (fun b => { b with slewLeft := 0, change := none }) s
  { s with recl := { required := s.recl.required } }

/-- The card reader and the modem's exchange stop. -/
def stopRadios (s : State) : State :=
  let s := setCon (fun c => { c with cards := [], tooMany := false }) s
  setMc (fun m => { m with current := none, awaiting := false, ackDue := none, symbols := 0 }) s

/-- What stops with HOLDUP in the other blocks. -/
def holdupStops (s : State) : State :=
  stopPowerStage (stopRadios (stopPort (dropPending (closeConfig (loseFreeze (abortHostDma (stopPulses s)))))))

/-- The budget of R48 at t_f, from the bulk voltage in mV. -/
def holdupBudget (bulk : Nat) (s : State) : State :=
  let e := 8 * (holdupEh s.hold.cMeas s.pwr.vhold + holdupEp (bulk * bulk)) / 10
  let s := setHold (fun h => { h with frames := nFrames s (bulk * bulk) }) s
  if e < 180000000 then raise 0x0102 (le 4 (e / 1000000) ++ le 4 180) s else s

/-- MAINS_FAIL_DETECTION (R44): `bulk` is the flyback's primary bulk voltage at t_f, mV. -/
def execMainsFailDetection (bulk : Nat) (s : State) : Out :=
  whenever (s.pwr.rails && !inHoldup s) s fun s =>
    let s := setPwr (fun p => { p with mains := false }) s
    if !s.dom.d2 then s
    else if s.sag.lifecycle == .blank then outputsOff s
    else
      let old := s.mode.mode
      let s := setMode (fun m => { m with
        prev := prevMode s, mode := .holdup, since := s.clk.epoch, interim := false, request := none }) s
      let s := setHold (fun h => { h with stage := .waitAbsent, tf := s.clk.now, td := none, d3Lost := !s.dom.d3 }) s
      let s := setNl (fun n => { n with outageRtc := some (civilSec (civilNow s)) }) s
      let s := holdupStops (outputsOff (pqHoldup s))
      let s := holdupBudget bulk s
      notify 0 0x0139 (le 1 old.code ++ le 1 5 ++ le 1 4 ++ zeros 1) s

/-- Every current channel, and MOD0 where enabled, below the starting current over the last 5 ms (R45, R105). -/
def currentGone (s : State) : Bool :=
  belowStarting s (keepLast 160 (((s.led.waveRing.getLast?).map (·.2)).getD [] ++ s.met.samples))

/-- MAINS_ABSENT_DECISION: t_d, or t_f + 60 ms with a weld event (R45); the final commit takes the samples through it (R184). -/
def execMainsAbsentDecision (s : State) : Out :=
  whenever (inHoldup s && s.hold.stage == .waitAbsent && s.dom.d2) s fun s =>
    let gone := !s.shu.kfb1 && !s.shu.kfb2 && currentGone s
    let s := if gone then s
      else
        let s := advanceTo (s.hold.tf + Tick.ms 60) s
        raise 0x0104 (le 1 (kmByte s) ++ zeros 3 ++ (List.range 3).flatMap (fun x => le 4 (rmsMa s x)) ++ le 4 (mod0Ma s)) s
    let a := padNow s
    finalIfReached (setHold (fun h => { h with
      td := some s.clk.now, tdSample := a, tdEpoch := a / 320, tdMs := (s.clk.now - h.tf) / 204800, stage := .finalCommit }) s)

/-- FINAL_SIGNED_READING: Kiln completes groups 2 and 3, the KIND 4 entry, and the KIND 3 reading, signed where it can be
(R46, R118). -/
def execFinalSignedReading (s : State) : Out :=
  whenever (inHoldup s && s.hold.stage == .signedReading && serving s && !s.hold.d3Lost) s fun s =>
    let s := kilnCloses s
    let s := if isStandby s then s
      else
        let no := s.led.nextReading
        let s := snapReading 3 [] none none s
        match s.led.readings.find? (·.no == no) with
        | some p => if canSign s then completeReading p s else s
        | none => s
    setHold (fun h => { h with stage := .letterbox }) s

/-- HOLDUP_SEQUENCE_END: after the display's last frame, or after the final commit where D3 is in reset (R46, R47). -/
def execHoldupSequenceEnd (s : State) : Out :=
  let done := s.hold.stage == .ended && s.disp.drive.isNone
  let cut := s.hold.td.isSome && s.hold.d3Lost
  whenever (inHoldup s && (done || cut)) s fun s =>
    if s.pwr.mains then restartAll 7 (setNl (fun n => { n with outageEnd := civilSec (rtcNow s) }) s)
    else setDom (fun d => { d with d2 := false, d3 := false, ready := false }) s

end Sys2Proof.Machine
end

