-- ==== Sys2Proof/Machine/Update.lean ====
section
/-! DEFINITION. Firmware update (22): the manifest, staging, verification and rebuild, activation and its trial, and chains. -/

namespace Sys2Proof.Machine

/-! The manifest (R498). -/

/-- A PART entry. -/
structure PartEntry where
  id : Nat
  encoding : Nat
  version : Nat
  targetLen : Nat
  payloadLen : Nat
  baseHash : List Byte
  targetHash : List Byte

def partEntry (m : List Byte) (k : Nat) : PartEntry :=
  let o := 16 + 80 * k
  { id := fieldAt m o 1, encoding := fieldAt m (o + 1) 1, version := fieldAt m (o + 4) 4, targetLen := fieldAt m (o + 8) 4
    payloadLen := fieldAt m (o + 12) 4, baseHash := (m.drop (o + 16)).take 32, targetHash := (m.drop (o + 48)).take 32 }

def partEntries (m : List Byte) : List PartEntry := (List.range 7).map (partEntry m)

def bundleIdOf (m : List Byte) : Nat := fieldAt m 4 4
def bundleLen (m : List Byte) : Nat := 704 + sumN ((partEntries m).map (·.payloadLen))

/-- The largest size of a part (R496). -/
def partMax (id : Nat) : Nat :=
  ([6 * 2 ^ 20, 2 ^ 20, 2728, 12420, 4096, 512 * 1024, 256 * 1024][id - 1]?).getD 0

/-- Step 1 of R501 without the variant: format, part order and lengths. -/
def manifestForm (m : List Byte) : Bool :=
  m.length == 704 && fieldAt m 0 1 == 1 && fieldAt m 1 1 == 7 &&
    (partEntries m).zipIdx.all fun x =>
      x.1.id == x.2 + 1 && decide (x.1.encoding ≤ 2) && decide (x.1.targetLen ≤ partMax x.1.id)
        && (x.1.encoding != 2 || x.1.payloadLen == 0) && (x.1.encoding != 0 || x.1.payloadLen == x.1.targetLen)

def variantBit : Variant → Nat
  | .t3 => 0 | .td => 1 | .tdh => 2

/-- SIG_MAKER under the key of UPD.MAKER_KEY_SLOT (R498). -/
def makerOk (s : State) (m : List Byte) : Bool :=
  let k := param s 0x0E00
  let msg := m.take 576
  k == 0xFF || ((slotRefusal s k aVerify).isNone &&
    (if typeOf s k = 4 || typeOf s k = 8 then Config.verify 1 (keyOf s k) (Config.sha256 msg) ((m.drop 640).take 64)
     else Config.verify 2 (keyOf s k) msg ((m.drop 640).take 64)))

def versionBelow (a b : Nat × Nat × Nat) : Bool :=
  decide (a.1 < b.1) || (a.1 == b.1 && (decide (a.2.1 < b.2.1) || (a.2.1 == b.2.1 && decide (a.2.2 < b.2.2))))

/-- The legally relevant rules (R505). -/
def lrRule (s : State) (m : List Byte) : Bool :=
  let p2 := partEntry m 1
  let p3 := partEntry m 2
  let run := lrVersionOf s
  let sealedLife := s.sag.lifecycle == .field || s.sag.lifecycle == .returned
  versionBelow (lrOf m) s.upd.record.lrFloor
    || (p2.targetHash != Config.sha256 (livePart s 2) && versionOf p2.version == run)
    || (sealedLife && p3.targetHash != Config.sha256 (setBytes (coef s)))

/-- BASE_HASH of every delta; without a sound running set no base exists (R501 step 4, R506). -/
def basesOk (s : State) (m : List Byte) : Bool :=
  (partEntries m).all fun p =>
    if !s.mode.validImage then p.encoding == 0
    else p.encoding != 1 || p.baseHash == Config.sha256 (livePart s p.id)

/-- Steps 1 to 4 of R501. -/
def manifestRefusal (s : State) (m : List Byte) : Option Nat :=
  if !manifestForm m then some stBadParam
  else if !bitN (fieldAt m 3 1) (variantBit s.ident.variant) then some stVariantMismatch
  else if !Config.verify 2 Config.firmwareKey (m.take 576) ((m.drop 576).take 64) || !makerOk s m then some stBundleSignature
  else if lrRule s m then some stLrRule
  else if !basesOk s m then some stBaseMismatch
  else none

/-! Staging (R500). -/

/-- The first offset not yet written. -/
def nextMissing (g : Staging) : Nat := (g.bytes.findIdx? Option.isNone).getD g.bytes.length

/-- A run of bytes written at an offset. -/
def writeAt (l : List (Option Byte)) (off : Nat) (data : List Byte) : List (Option Byte) :=
  l.take off ++ data.map some ++ l.drop (off + data.length)

def stageFrom (m : List Byte) (source : Nat) (fetch : Option (Nat × Tick)) (offerers : List Nat) : Staging :=
  { bundleId := bundleIdOf m, manifest := m, total := bundleLen m
    bytes := m.map some ++ List.replicate (bundleLen m - 704) none, source := source, fetch := fetch, offerers := offerers }

/-- A chain transfer writes the staging region; a bundle that has come whole is written no more. -/
def chainWrites (s : State) : Bool :=
  s.upd.stage == 1 && (match s.upd.staging with | some g => g.source == 2 && decide (nextMissing g < g.total) | none => false)

/-- The staging region is idle: nothing is being received or verified, and no VERIFIED bundle waits in it (log entry 85). -/
def stagingIdle (s : State) : Bool := (s.upd.stage == 0 || s.upd.stage == 3) && !s.upd.verifying

def execUpdStageBegin (r : Req) (manifest : List Byte) (s : State) : Out :=
  brixo 0x0E01 r s fun s =>
    let len := bundleLen manifest
    if chainWrites s || s.upd.verifying then refuse s stStageBusy
    else if 10 * 2 ^ 20 < len then refuse s stBadParam
    else
      let same := match s.upd.staging with
        | some g => g.manifest == manifest && (s.upd.stage == 1 || s.upd.stage == 2)
        | none => false
      let s := if same then s
        else setUpd (fun u => { u with staging := some (stageFrom manifest 1 none []), stage := 1 }) s
      answer s stOk (le 4 len)

def execUpdStageWrite (r : Req) (offset len : Nat) (data : List Byte) (s : State) : Out :=
  brixo 0x0E02 r s fun s =>
    match s.upd.staging with
    | none => refuse s stNotStaging
    | some g =>
      if s.upd.stage != 1 || g.source != 1 || s.upd.verifying then refuse s stNotStaging
      else if len != data.length then refuse s stBadLength
      else if offset % 4 != 0 || len = 0 || 4088 < len || g.total < offset + len then refuse s stBadParam
      else
        let g := { g with bytes := writeAt g.bytes offset data }
        answer (setUpd (fun u => { u with staging := some g }) s) stOk (le 4 (nextMissing g))

/-! Verification (R501). -/

def verifyFailed (st : Nat) (id : Nat) (s : State) : State :=
  updEvent 2 id (setUpd (fun u => { u with stage := 3, failStatus := st, verifying := false }) s)

def execUpdVerify (r : Req) (s : State) : Out :=
  brixo 0x0E03 r s fun s =>
    match s.upd.staging with
    | none => refuse s stBadParam
    | some g =>
      if nextMissing g < g.total then refuse s stBadParam
      else
        let m := (g.bytes.map (·.getD 0)).take 704
        match manifestRefusal s m with
        | some st => refuse (verifyFailed st g.bundleId s) st
        | none => answer (setUpd (fun u => { u with verifying := true }) s) stAccepted

/-- A delta applied to a base (R499): none where it is malformed. -/
def applyDelta (base : List Byte) : Nat → List Byte → List Byte → Option (List Byte)
  | _, [], out => some out
  | 0, _, _ => none
  | n + 1, d, out =>
    if fieldAt d 0 4 = 1 then
      let off := fieldAt d 4 4
      let len := fieldAt d 8 4
      if d.length < 12 || base.length < off + len then none
      else applyDelta base n (d.drop 12) (out ++ (base.drop off).take len)
    else if fieldAt d 0 4 = 2 then
      let len := fieldAt d 4 4
      if d.length < 8 + len then none else applyDelta base n (d.drop (8 + len)) (out ++ (d.drop 8).take len)
    else none

/-- The payloads of the parts, in PART_ID order. -/
def payloads : List PartEntry → List Byte → List (PartEntry × List Byte)
  | [], _ => []
  | p :: ps, b => (p, b.take p.payloadLen) :: payloads ps (b.drop p.payloadLen)

/-- One part rebuilt (R501 step 5). -/
def rebuildPart (s : State) (p : PartEntry) (payload : List Byte) : Option (List Byte) :=
  let out := match p.encoding with
    | 0 => some payload
    | 1 => applyDelta (livePart s p.id) (payload.length + 1) payload []
    | _ => some (livePart s p.id)
  match out with
  | some b => if b.length = p.targetLen && Config.sha256 b == p.targetHash then some b else none
  | none => none

def rebuild (s : State) (bundle : List Byte) : List (Option (List Byte)) :=
  (payloads (partEntries bundle) (bundle.drop 704)).map fun x => rebuildPart s x.1 x.2

/-- Part 3 under R90 with its own CRC, part 4 under the table checks of R434 (R501 step 6). -/
def contentOk (parts : List (List Byte)) : Bool :=
  let p3 := (parts[2]?).getD []
  let p4 := (parts[3]?).getD []
  p3.length == 2728 && crc32c (p3.take 2724) == fieldAt p3 2724 4 && (setCheck (parseSet p3)).isNone && waveOk p4

/-! Chains (R502). -/

/-- The payload of a chain message. -/
def chainBytes (op id off len : Nat) (data : List Byte) : List Byte :=
  le 1 op ++ zeros 3 ++ le 4 id ++ le 4 off ++ le 2 len ++ zeros 2 ++ data

def sendChain (op dst id off len : Nat) (data : List Byte) (s : State) : State :=
  fabricSend 4 2 dst (chainBytes op id off len data) (setUpd (fun u => { u with chainSent := some (op, dst, off, len) }) s)

/-- Chains run: enabled, not at shedding step 4, not in HOLDUP or WATCH. -/
def chainOn (s : State) : Bool :=
  serving s && param s 0x0E01 == 1 && !bulkPaused s && !inHoldup s && s.mode.mode != .watch

/-- The VERIFIED bundle is offered to a neighbour that has an address (R502). -/
def offerTo (dst : Nat) (s : State) : State :=
  match s.upd.staging with
  | some g => if chainOn s && s.upd.stage == 2 && dst != 0xFFFE then sendChain 1 dst g.bundleId 0 0 [] s else s
  | none => s

/-- The VERIFIED bundle is offered to every fabric neighbour that has an address. -/
def offerBundle (id : Nat) (s : State) : State :=
  if !chainOn s then s
  else ((s.lin.neighbours.map (·.hello.short)).filter (· != 0xFFFE)).foldl (fun s d => sendChain 1 d id 0 0 [] s) s

/-- VERIFY_COMPLETE: steps 5 and 6 of R501; the slot not running takes the rebuilt set. -/
def execVerifyComplete (s : State) : Out :=
  match s.upd.staging with
  | none => .next s
  | some g =>
    whenever (s.upd.verifying && serving s && !inHoldup s) s fun s =>
      let bundle := g.bytes.map (·.getD 0)
      let parts := (rebuild s bundle).filterMap id
      let other := 1 - s.upd.record.runSlot
      let ok := parts.length == 7 && contentOk parts
      let set : ImageSet := ⟨(partEntries bundle).map (·.version), parts, bundle.take 704⟩
      let s := setUpd (fun u => { u with slots := u.slots.set other (if ok then some set else none) }) s
      if !ok then verifyFailed stIntegrity g.bundleId s
      else
        let s := updEvent 1 g.bundleId (setUpd (fun u => { u with stage := 2, verifying := false }) s)
        let s := match g.fetch with | some f => sendChain 4 f.1 g.bundleId 0 0 [] s | none => s
        offerBundle g.bundleId s

/-- The next chunk is asked for, at most 960 bytes, in ascending offset. -/
def askChunk (g : Staging) (from' : Nat) (s : State) : State :=
  let off := nextMissing g
  sendChain 2 from' g.bundleId off (min 960 (g.total - off)) [] s

/-- This post holds a bundle of an identifier: staged, or running. -/
def holdsBundle (s : State) (id : Nat) : Bool :=
  (match s.upd.staging with | some g => g.bundleId == id && s.upd.stage != 3 | none => false)
    || (match runSet s with | some x => bundleIdOf x.manifest == id | none => false)

/-- OFFER: a fetch begins, or the offerer is noted for the fetch that runs. -/
def takeOffer (src id : Nat) (s : State) : State :=
  if chainWrites s then
    setUpd (fun u => { u with staging := u.staging.map fun g =>
      if g.bundleId = id && !g.offerers.contains src then { g with offerers := g.offerers ++ [src] } else g }) s
  else if holdsBundle s id || !stagingIdle s then s
  else
    let g : Staging :=
      { bundleId := id, manifest := [], total := 704, bytes := List.replicate 704 none, source := 2
        fetch := some (src, s.clk.now), offerers := [src] }
    askChunk g src (updEvent 6 id (setUpd (fun u => { u with staging := some g, stage := 1 }) s))

/-- REQUEST: a post with the bundle VERIFIED sends the chunk. -/
def takeChunkRequest (src id off len : Nat) (s : State) : State :=
  match s.upd.staging with
  | none => s
  | some g =>
    if g.bundleId != id || s.upd.stage != 2 then s
    else
      let data := ((g.bytes.map (·.getD 0)).drop off).take (min 960 len)
      sendChain 3 src id off data.length data s

/-- CHUNK: written into staging; the manifest must pass steps 1 to 4 before anything else is fetched. -/
def takeChunk (src id off : Nat) (data : List Byte) (s : State) : State :=
  match s.upd.staging with
  | none => s
  | some g =>
    let asked := match g.fetch with | some f => f.1 == src | none => false
    if !chainWrites s || g.bundleId != id || !asked || off != nextMissing g || g.total < off + data.length then s
    else
      let g := { g with bytes := writeAt g.bytes off data, fetch := some (src, s.clk.now) }
      let put (g : Staging) (s : State) : State := setUpd (fun u => { u with staging := some g }) s
      if nextMissing g < g.total then askChunk g src (put g s)
      else if g.manifest.isEmpty then
        let m := g.bytes.map (·.getD 0)
        let bad := if bundleIdOf m != id || 10 * 2 ^ 20 < bundleLen m then some stBadParam else manifestRefusal s m
        match bad with
        | some st => verifyFailed st id (setUpd (fun u => { u with staging := none }) s)
        | none =>
          let g := stageFrom m 2 g.fetch g.offerers
          if nextMissing g < g.total then askChunk g src (put g s)
          else setUpd (fun u => { u with staging := some g, verifying := true }) s
      else setUpd (fun u => { u with staging := some g, verifying := true }) s

def takeHave (src : Nat) (s : State) : State :=
  setUpd (fun u => { u with haves := if u.haves.contains src then u.haves else u.haves ++ [src] }) s

/-- A chain message of an OP; RECOVERY takes part only with an address (R506). -/
def takeChainMsg (op src id off len : Nat) (data : List Byte) (s : State) : State :=
  if !chainOn s || ownAddr s = 0 then s
  else match op with
    | 1 => takeOffer src id s
    | 2 => takeChunkRequest src id off len s
    | 3 => takeChunk src id off data s
    | 4 => takeHave src s
    | _ => s

def execChainOffer (src id : Nat) (s : State) : Out := .next (takeChainMsg 1 src id 0 0 [] s)
def execChainRequest (src id off len : Nat) (s : State) : Out := .next (takeChainMsg 2 src id off len [] s)
def execChainChunk (src id off : Nat) (data : List Byte) (s : State) : Out := .next (takeChainMsg 3 src id off 0 data s)
def execChainHave (src id : Nat) (s : State) : Out := .next (takeChainMsg 4 src id 0 0 [] s)

/-- CHAIN_FETCH_TIMEOUT: the next offerer is asked. -/
def execChainFetchTimeout (s : State) : Out :=
  match s.upd.staging with
  | none => .next s
  | some g => match g.fetch with
    | none => .next s
    | some (n, t) =>
      whenever (chainWrites s && chainOn s) s fun s =>
        let s := advanceTo (t + Tick.s 10) s
        let others := g.offerers.filter (· != n)
        let next := (others.head?).getD n
        let g := { g with fetch := some (next, s.clk.now), offerers := others ++ [n] }
        askChunk g next (setUpd (fun u => { u with staging := some g }) s)

/-! Activation and trial (R503, R504, R507). -/

/-- The staged bundle carries PAIR. -/
def pairBundle (s : State) : Bool :=
  match s.upd.staging with | some g => bitN (fieldAt g.manifest 2 1) 0 | none => false

/-- Step 1 of R504: STATE 1 with the new slot. The old slot keeps the whole set that runs now. The bundle stays staged; the running
set, its base, has changed, and it is no longer VERIFIED (log entry 86). -/
def commitActivation (pair : Nat) (s : State) : State :=
  let run := s.upd.record.runSlot
  let old := liveSet s
  let m := (s.upd.staging.map (·.manifest)).getD []
  writeRecord (fun a => { a with
    state := 1, runSlot := 1 - run, prevSlot := run, pairState := pair
    manifestHash := Config.sha256 m, trialEpoch := s.clk.epoch + 1 })
    (setUpd (fun u => { u with
      slots := u.slots.set run (some old), bundleId := bundleIdOf m, confirmed := false, pairWait := false, pairBack := false
      stage := min 1 u.stage }) s)

def activateMode (s : State) : Bool :=
  s.mode.mode == .factory || s.mode.mode == .commission || s.mode.mode == .service || s.mode.mode == .recovery

/-- The ACTIVE unit needs a standby that is SYNCED; a standby takes the order on the Hinge link (R507). -/
def pairReady (s : State) (snd : Sender) (peerHolds : Bool) : Bool :=
  hingeOn s && s.hng.synced && ((s.hng.role == .active && peerHolds) || (s.hng.role == .standby && snd == .internal))

/-- The ACTIVE unit passes the staged bundle to a standby that lacks it (R507). -/
def passBundle (s : State) : State :=
  setUpd (fun u => { u with
    pairPass := u.staging.map fun g => (s.clk.now + wedgeLink s 4, g.bytes.map (·.getD 0)) }) s

/-- UPD_ACTIVATE; `peerHolds`: over the Hinge link, the standby reports the bundle VERIFIED with the same manifest. -/
def execUpdActivate (r : Req) (peerHolds : Bool) (s : State) : Out :=
  brixo 0x0E04 r s fun s =>
    if !activateMode s then refuse s stWrongMode
    else if sessionOpen s || !kmOpen s then refuse s stSessionActive
    else if s.upd.stage != 2 then refuse s stNotVerified
    else if pairBundle s && !pairReady s r.sender peerHolds then
      refuse (if hingeOn s && s.hng.role == .active && s.hng.synced then passBundle s else s) stPeerNotReady
    else
      let s := if pairBundle s && s.hng.role == .active then
          writeRecord (fun a => { a with pairState := 1 }) (setUpd (fun u => { u with pairWait := true }) s)
        else
          let s := commitActivation (if pairBundle s then 1 else 0) s
          setUpd (fun u => { u with restartAt := some (s.clk.now + Tick.ms 10) }) s
      answer s stOk (le 8 (s.clk.epoch + 1))

/-- The pair's next step at the unit that was ACTIVE (R507): it switches once the standby's trial has confirmed, and gives up where
that trial has failed. -/
def pairFirst (peer : Nat) (s : State) : State :=
  if peer = 2 && s.hng.synced && !sessionOpen s then
    setHng (fun h => { h with asked := 2 }) (writeRecord (fun a => { a with pairState := 2 }) s)
  else if peer = 3 then
    setUpd (fun u => { u with pairWait := false }) (writeRecord (fun a => { a with pairState := 3 }) s)
  else s

/-- The pair's last step at the unit that restarted first: both have confirmed, or it hands the role back and rolls back as well. -/
def pairLast (peer : Nat) (s : State) : State :=
  if peer = 2 then writeRecord (fun a => { a with pairState := 2 }) s
  else if peer = 3 then
    setUpd (fun u => { u with pairBack := true }) (setHng (fun h => { h with asked := 2 }) (writeRecord (fun a => { a with pairState := 3 }) s))
  else s

/-- ACTIVATION_RESTART: 10 ms after the reply; and the steps of a pair's activation, `peer` being what the Hinge link reports of the
peer's trial (2 confirmed, 3 failed). -/
def execActivationRestart (peer : Nat) (s : State) : Out :=
  match s.upd.restartAt with
  | some t => whenever (!inHoldup s) s fun s => moduleRestart 6 (loadParts (advanceTo t s))
  | none =>
    whenever (hingeOn s && !inHoldup s && s.upd.record.state == 0) s fun s =>
      let away := s.hng.role != .active && !sessionOpen s && kmOpen s
      if s.upd.pairWait then
        if s.hng.role == .active then pairFirst peer s
        else if away then moduleRestart 6 (loadParts (commitActivation 2 (advanceTo (s.clk.now + Tick.ms 10) s)))
        else s
      else if s.upd.pairBack then (if away then rollback 5 s else s)
      else if s.upd.record.pairState = 1 && s.hng.role == .active then pairLast peer s
      else s

/-- UPD.TRIAL_TIME has passed since TRIAL_EPOCH: the trial can no longer succeed. -/
def trialOver (s : State) : Bool := decide (s.upd.record.trialEpoch + 100 * param s 0x0E02 ≤ s.clk.epoch)

/-- UPD_CONFIRM; one that comes before a mode has been entered counts from then on. -/
def execUpdConfirm (r : Req) (s : State) : Out :=
  brixo 0x0E05 r s fun s =>
    if s.upd.record.state != 1 || trialOver s then refuse s stWrongMode
    else if s.mode.mode == .none then answer (setUpd (fun u => { u with confirmed := true }) s) stOk
    else answer (confirmTrial s) stOk

/-- AUTO_CONFIRM: 30 s without a metering fault or a latch. -/
def execAutoConfirm (s : State) : Out :=
  match s.upd.trialSince with
  | none => .next s
  | some t =>
    whenever (s.upd.record.state == 1 && param s 0x0E03 == 1 && s.inp.faults.isEmpty && s.shu.latches == 0) s fun s =>
      let s := advanceTo (t + Tick.s 30) s
      if trialOver s then s else confirmTrial s

/-- TRIAL_TIMEOUT: UPD.TRIAL_TIME after TRIAL_EPOCH. -/
def execTrialTimeout (s : State) : Out :=
  whenever (s.upd.record.state == 1 && s.dom.d2 && !inHoldup s) s fun s =>
    let e := s.upd.record.trialEpoch + 100 * param s 0x0E02
    rollback 4 (advanceTo (s.clk.epochStart + (e - s.clk.epoch) * Tick.epoch) s)

/-- Bytes of the activation record (R503). -/
def ActRecord.bytes (a : ActRecord) : List Byte :=
  withCrc (le 4 a.gen ++ le 1 a.state ++ le 1 a.runSlot ++ le 1 a.prevSlot ++ le 1 a.pairState ++ padTo 32 a.manifestHash
    ++ le 8 a.trialEpoch ++ lrBytes a.lrFloor ++ zeros 1 ++ le 4 a.actCount ++ zeros 4)

def execUpdStatus (r : Req) (s : State) : Out :=
  brixo 0x0E00 r s fun s =>
    let u := s.upd
    let g := u.staging
    answer s stOk (u.record.bytes ++ le 4 ((g.map (·.bundleId)).getD 0) ++ le 1 u.stage
      ++ le 1 ((g.map (·.source)).getD 0) ++ le 2 u.failStatus ++ le 4 ((g.map nextMissing).getD 0))

end Sys2Proof.Machine
end

