-- ==== Sys2Proof/Machine/AuxAdc.lean ====
section
/-! DEFINITION. The auxiliary ADC and the Nightlatch watch subsystem (23). -/

namespace Sys2Proof.Machine

def setAdc (f : AuxAdc → AuxAdc) (s : State) : State := { s with adc := f s.adc }

/-! Results (R513–R515, R518). -/

/-- The mode of an AN channel (R518). -/
def anMode (s : State) (n : Nat) : Nat := param s 0x1000 / 4 ^ n % 4

/-- A code at a full scale, to nearest. -/
def scaled (code full : Nat) : Int := divRound ((code * full : Nat) : Int) 4096

/-- VALUE of a code (R514, R530; log entry 48). -/
def auxValue (s : State) (ch code : Nat) : Int :=
  if ch < 6 then
    match anMode s ch with
    | 1 => (ntcTemp code (param s 0x1003) (param s 0x1004)).getD (Config.noTemp code)
    | 2 => ptTemp code
    | _ => scaled code 2500
  else match ch with
    | 8 | 14 | 23 => scaled code 5000
    | 9 | 10 => scaled code 40000
    | 11 => scaled code 20000
    | 12 => Config.dieTempOf code
    | 13 => scaled code 30000 - 15000
    | 15 | 16 => scaled code 6250
    | 17 | 18 | 19 | 20 | 21 | 22 => scaled code 3125
    | _ => scaled code 2500

/-- The resistance of an NTC has no temperature on its curve: the reading lies outside the range of R518. -/
def noReading (s : State) (n code : Nat) : Bool :=
  anMode s n == 1 && (ntcTemp code (param s 0x1003) (param s 0x1004)).isNone

/-- A result word (R515); while VREF_FAULT stands only channel 6 is VALID. -/
def resultWord (s : State) (c : Conversion) (code : Nat) (ovr under : Bool) : Nat :=
  (if ovr then 4095 else if under then 0 else code % 4096)
    + 4096 * packBits [ovr, under, c.rerun, !s.adc.vrefFault || c.ch == 6]

/-- Channel 6 reads 1.200 V ±0.5 %. -/
def vrefInBand (code : Nat) (bad : Bool) : Bool :=
  !bad && decide (1194 * 4096 ≤ 2500 * code) && decide (2500 * code ≤ 1206 * 4096)

/-- VREF_FAULT is judged on three consecutive readings (R514). -/
def judgeVref (inBand : Bool) (s : State) : State :=
  let run := if inBand == s.adc.vrefFault then s.adc.vrefRun + 1 else 0
  if run < 3 then setAdc (fun a => { a with vrefRun := run }) s
  else
    let s := setAdc (fun a => { a with vrefRun := 0, vrefFault := !inBand }) s
    if inBand then s else diagTrigger 13 6 s

/-! I_temp (R519). -/

/-- The mean temperature of an AN channel over the last 100 epochs; without a usable reading in them, the newest one (log
entry 48). -/
def meanTemp (s : State) (n : Nat) : Option Int :=
  let all := (s.adc.temps[n]?).getD []
  let new := all.filter fun x => decide (s.clk.epoch < x.1 + 100)
  let l := if new.isEmpty then all.take 1 else new
  if l.isEmpty then none else some (divRound (sumI (l.map (·.2))) l.length)

def tStart (s : State) : Int := 100 * paramI s 0x1005
def tStop (s : State) : Int := 100 * paramI s 0x1006

/-- One channel's share of I_temp, mA. -/
def channelLimit (s : State) (n : Nat) : Nat :=
  if bitN s.adc.sensorFault n then 0
  else match meanTemp s n with
    | none => param s 0x0500
    | some t =>
      if t ≤ tStart s then param s 0x0500
      else if tStop s ≤ t then 0
      else ((param s 0x0500 : Int) * (tStop s - t) / (tStop s - tStart s)).toNat

def roleChannels (s : State) : List Nat := maskIdx 6 (param s 0x1002)

/-- The target of I_temp, none without a channel. -/
def tempTarget (s : State) : Option Nat :=
  match roleChannels s with
  | [] => none
  | n :: ns => some (ns.foldl (fun m k => min m (channelLimit s k)) (channelLimit s n))

/-- A channel stops a DC session: at AUX.T_STOP or in SENSOR_FAULT. -/
def tooHot (s : State) : Bool :=
  (roleChannels s).any fun n => bitN s.adc.sensorFault n || (match meanTemp s n with
    | some t => decide (tStop s ≤ t)
    | none => false)

/-- New limits reach the pilot. -/
def limitsChanged (s : State) : State :=
  if inHoldup s || isStandby s then s else askPilot (freeVend (updateLimits s))

/-- I_temp falls at once, and rises by its own step (R519); `was`: a channel was too hot before. -/
def followTemp (was : Bool) (s : State) : State :=
  let s := match tempTarget s, s.adc.iTemp with
    | none, none => s
    | none, some _ => limitsChanged (setAdc (fun a => { a with iTemp := none }) s)
    | some t, none => limitsChanged (setAdc (fun a => { a with iTemp := some t, iTempAt := s.clk.now }) s)
    | some t, some i =>
      if t < i then limitsChanged (setAdc (fun a => { a with iTemp := some t, iTempAt := s.clk.now }) s) else s
  if tooHot s && !was && s.veh.dcService && sessionOpen s && !inHoldup s then askShutter (.openOrderly 0) s else s

/-- I_TEMP_RAISE_STEP: at most 1 000 mA per 10 s. -/
def execITempRaiseStep (s : State) : Out :=
  match tempTarget s, s.adc.iTemp with
  | some t, some i =>
    whenever (serving s && decide (i < t)) s fun s =>
      let s := advanceTo (s.adc.iTempAt + Tick.s 10) s
      limitsChanged (setAdc (fun a => { a with iTemp := some (min t (i + 1000)), iTempAt := s.clk.now }) s)
  | _, _ => .next s

/-- A reading of an AN channel: SENSOR_FAULT, the mean and I_temp (R518, R519). -/
def takeAn (n : Nat) (t : Int) (bad : Bool) (s : State) : State :=
  let sensor := anMode s n == 1 || anMode s n == 2
  let fault := sensor && (bad || decide (t < -5000) || decide (20000 < t))
  let was := tooHot s
  let fresh := fault && !bitN s.adc.sensorFault n
  let s := setAdc (fun a => { a with
    sensorFault := setBitN a.sensorFault n fault
    temps := if sensor && !fault then
        modAt a.temps n fun l => ((s.clk.epoch, t) :: l.filter fun x => decide (s.clk.epoch < x.1 + 100)).take 100
      else a.temps }) s
  followTemp was (if fresh then diagTrigger 14 n s else s)

/-! Watch rules (R525). -/

def ruleBits (s : State) (i : Nat) : Nat := param s (0x100D + i)
def ruleCh (s : State) (i : Nat) : Nat := ruleBits s i % 256
def ruleAction (s : State) (i : Nat) : Nat := ruleBits s i / 2 ^ 8 % 256
def ruleHigh (s : State) (i : Nat) : Nat := ruleBits s i / 2 ^ 16 % 65536
def ruleLow (s : State) (i : Nat) : Nat := ruleBits s i / 2 ^ 32 % 65536
def ruleTime (s : State) (i : Nat) : Nat := ruleBits s i / 2 ^ 48 % 65536

/-- One rule's timer after a reading of its channel. -/
def timeRule (s : State) (ch code : Nat) (ovr : Bool) (i : Nat) (r : RuleState) : RuleState :=
  if ruleCh s i = ch && ruleAction s i != 0 then
    let turns := if r.active then !ovr && decide (code ≤ ruleLow s i) else ovr || decide (ruleHigh s i ≤ code)
    { r with since := if turns then r.since.or (some s.clk.now) else none }
  else r

/-- The timers of the rules on a channel after a reading. -/
def timeRules (ch code : Nat) (ovr : Bool) (s : State) : State :=
  setNl (fun n => { n with rules := n.rules.mapIdx (timeRule s ch code ovr) }) s

/-- WATCH_RULE: a rule becomes active or ends once its criterion has held for TIME. -/
def execWatchRule (i : Nat) (s : State) : Out :=
  match s.nl.rules[i]? with
  | none => .next s
  | some r => match r.since with
    | none => .next s
    | some t =>
      whenever (s.dom.d3 && ruleAction s i != 0) s fun s =>
        let s := advanceTo (t + Tick.ms (100 * ruleTime s i)) s
        let code := ((s.adc.results[ruleCh s i]?).getD 0) % 4096
        let s := { s with nl := { s.nl with rules := s.nl.rules.set i { active := !r.active, since := none } } }
        let s := nlEvent (if r.active then 4 else 3) i code s
        if !r.active && ruleAction s i = 2 then wakeSeen 5 s else s

/-! Where a reading goes. -/

/-- A reading of a load-switch sense input (R373): the fault level shows the current limit while nothing else drives it. -/
def takeSense (n : Nat) (mA : Int) (ovr : Bool) (s : State) : State :=
  let f (c : LswChan) : LswChan :=
    if ovr then
      { c with ilim := if c.on && c.latch.isNone && !s.lsw.gndOpen && !c.offShort then c.ilim.or (some s.clk.now) else c.ilim }
    else
      { c with i := mA.toNat, ilim := none, offShort := c.offShort && c.on
               openLoad := c.openLoad && decide (mA.toNat < param s 0x0705) }
  setOut n f s

/-- VBAT below 2.4 V (R520). -/
def takeVbat (mV : Int) (s : State) : State :=
  let low := decide (mV < 2400)
  let was := s.nl.vbatLow
  let s := setNl (fun n => { n with vbatLow := low }) s
  if low && !was then diagTrigger 15 23 (nlEvent 6 23 mV.toNat s) else s

/-- A VALID plateau of CP (R314, R527). -/
def takeCp (use : AdcUse) (mV : Int) (s : State) : State :=
  { s with veh := match use with
      | .cpLow => { s.veh with cpLo := mV }
      | _ => { s.veh with cpHi := mV } }

/-- The block that a channel belongs to takes its VALID reading. -/
def routeReading (c : Conversion) (code : Nat) (ovr under valid : Bool) (v : Int) (s : State) : State :=
  if c.ch = 6 then judgeVref (vrefInBand code (ovr || under)) s
  else if !valid then s
  else if c.ch < 6 then takeAn c.ch v (ovr || under || noReading s c.ch code) s
  else match c.ch with
    | 7 => { s with kiln := { s.kiln with coreMv := v.toNat } }
    | 9 => { s with pwr := { s.pwr with vhold := v.toNat } }
    | 10 => setLsw (fun x => { x with vaux := v.toNat, loadDump := x.loadDump && decide (36000 < v) }) s
    | 13 => takeCp c.use v s
    | 23 => takeVbat v s
    | _ => if 15 ≤ c.ch && c.ch ≤ 22 then takeSense (c.ch - 15) v ovr s else s

/-! Conversions (R516, R517). -/

def isUrgent (c : Conversion) : Bool :=
  match c.use with
  | .schedule | .convert => false
  | _ => true

/-- CP goes first, then ADC_TRIG, then the hold-up measurement. -/
def urgentRank (c : Conversion) : Nat :=
  match c.use with
  | .cpHigh | .cpLow => 0
  | .trig _ _ _ => 1
  | _ => 2

/-- A conversion begins; an ADC_TRIG result carries the cycle of this instant. -/
def begun (s : State) (c : Conversion) : Conversion :=
  match c.use with
  | .trig pos _ _ => { c with use := .trig pos (s.clk.now - s.clk.epochStart) s.clk.epoch }
  | _ => c

/-- An urgent request: it aborts a normal conversion, waits for an urgent one (R516). `busy` is the channel of a normal conversion
that runs, `conv` whether it serves AUX_CONVERT. -/
def urgentRequest (c : Conversion) (busy : Nat) (conv : Bool) (s : State) : State :=
  match s.adc.running with
  | some r =>
    if isUrgent r then
      let first := s.adc.urgent.filter fun u => decide (urgentRank u ≤ urgentRank c)
      let rest := s.adc.urgent.filter fun u => decide (urgentRank c < urgentRank u)
      setAdc (fun a => { a with urgent := first ++ [c] ++ rest }) s
    else setAdc (fun a => { a with aborted := some { r with rerun := true }, running := some (begun s c) }) s
  | none =>
    setAdc (fun a => { a with
      running := some (begun s c)
      aborted := if busy < 24 then some ⟨busy, if conv then .convert else .schedule, true⟩ else a.aborted }) s

/-- URGENT_ADC_REQUEST: 0 the high plateau of CP, 1 the low one, 2 the hold-up measurement. -/
def execUrgentAdcRequest (kind busy : Nat) (conv : Bool) (s : State) : Out :=
  whenever s.dom.d3 s (urgentRequest
    (match kind with | 0 => ⟨13, .cpHigh, false⟩ | 1 => ⟨13, .cpLow, false⟩ | _ => ⟨9, .capacitance, false⟩) busy conv)

/-- The channel at a position of AUX.TRIG_SEQ. -/
def trigChannel (s : State) (pos : Nat) : Option Nat :=
  let ch := param s 0x1008 / 256 ^ pos % 256
  if pos < 8 && ch < 24 then some ch else none

/-- ADC_TRIG_EDGE (R517). -/
def execAdcTrigEdge (rising : Bool) (busy : Nat) (conv : Bool) (s : State) : Out :=
  whenever (s.dom.d3 && bitN (param s 0x1007) (if rising then 0 else 1)) s fun s =>
    if s.adc.trig.isSome then setAdc (fun a => { a with missed := satInc 0xFFFF a.missed }) s
    else match trigChannel s 0 with
      | none => s
      | some ch => urgentRequest ⟨ch, .trig 0 0 0, false⟩ busy conv (setAdc (fun a => { a with trig := some 0 }) s)

/-- The sequence goes on after a conversion of it. -/
def trigNext (c : Conversion) (w : Nat) (s : State) : State :=
  match c.use with
  | .trig pos cycle epoch =>
    let s := setAdc (fun a => { a with fifo := pushRing 64 a.fifo ⟨epoch, cycle, c.ch, w⟩ }) s
    match trigChannel s (pos + 1) with
    | some ch =>
      let k : Conversion := ⟨ch, .trig (pos + 1) 0 0, false⟩
      let first := s.adc.urgent.filter fun u => decide (urgentRank u ≤ 1)
      let rest := s.adc.urgent.filter fun u => decide (1 < urgentRank u)
      setAdc (fun a => { a with trig := some (pos + 1), urgent := first ++ [k] ++ rest }) s
    | none => setAdc (fun a => { a with trig := none }) s
  | _ => s

/-- The oldest AUX_CONVERT of a channel takes a result; its last one answers it (R530; log entry 48). -/
def takeConvert (c : Conversion) (w : Nat) (s : State) : State :=
  match c.use, s.adc.converts.find? (·.ch == c.ch) with
  | .convert, some q =>
    let done := q.done + 1
    let sum := q.sum + w % 4096
    let flags := q.flags ||| (w / 4096)
    if done < q.n then
      setAdc (fun a => { a with converts := a.converts.map fun x =>
        if x == q then { q with done := done, sum := sum, flags := flags } else x }) s
    else
      let code := divRoundN sum q.n
      let s := setAdc (fun a => { a with converts := a.converts.erase q }) s
      replyTo (some q.req) 0x1001 stOk (le 2 (code + 4096 * flags) ++ zeros 2 ++ leI 4 (auxValue s c.ch code)) s
  | _, _ => s

/-- What the converter does next: an urgent request, then the aborted conversion. -/
def nextConversion (s : State) : State :=
  match s.adc.urgent with
  | u :: us => setAdc (fun a => { a with running := some (begun s u), urgent := us }) s
  | [] => setAdc (fun a => { a with running := a.aborted, aborted := none }) s

/-- The mean of a source's epoch. -/
def TempMean.mean (m : TempMean) : Int := if m.n = 0 then m.before else divRound m.sum m.n

/-- A temperature enters its epoch's mean: channel 12 is the main die, 0–5 are AN0–AN5 (R435). -/
def meanWith (ch : Nat) (v : Int) (s : State) : State :=
  let take (m : TempMean) : TempMean :=
    if m.n ≠ 0 ∧ m.epoch = s.clk.epoch then { m with sum := m.sum + v, n := m.n + 1 } else ⟨s.clk.epoch, v, 1, m.mean⟩
  if ch = 12 then setAdc (fun a => { a with means := modAt a.means 0 take }) s
  else if ch < 6 then setAdc (fun a => { a with means := modAt a.means (ch + 1) take }) s
  else s

/-- A conversion's result is delivered; one that is not VALID is not usable, and neither a mean nor a rule takes it (R515). -/
def deliver (c : Conversion) (code : Nat) (ovr under : Bool) (s : State) : State :=
  let w := resultWord s c code ovr under
  let v := auxValue s c.ch (w % 4096)
  let s := setAdc (fun a => { a with results := a.results.set c.ch w, values := a.values.set c.ch v }) s
  let s := if bitN w 15 then meanWith c.ch v s else s
  let s := routeReading c (w % 4096) ovr under (bitN w 15) v s
  trigNext c w (takeConvert c w (if bitN w 15 then timeRules c.ch (w % 4096) ovr s else s))

/-- ADC_CONVERSION_COMPLETE (R515): of the running conversion, or of a normal one of channel `ch`, for AUX_CONVERT where `conv`. -/
def execAdcConversionComplete (ch : Nat) (conv : Bool) (code : Nat) (ovr under : Bool) (s : State) : Out :=
  whenever s.dom.d3 s fun s =>
    match s.adc.running with
    | some c => nextConversion (deliver c code ovr under s)
    | none => deliver ⟨ch, if conv then .convert else .schedule, false⟩ code ovr under s

/-! Nightlatch: RTC, idle current, WAKE_OUT (R521–R526). -/

/-- RTC_DISCIPLINE: the offset of an epoch, ppb; the RTC follows civil time while the rails are present. -/
def execRtcDiscipline (ppb : Int) (s : State) : Out :=
  whenever (s.pwr.rails && s.dom.d2) s fun s =>
    let l := (ppb :: s.nl.offsets).take 1000
    setNl (fun n => { n with
      offsets := l, ppb := divRound (sumI l) l.length
      rtc := if n.rtcValid then civilNow s else n.rtc, rtcAt := if n.rtcValid then s.clk.now else n.rtcAt }) s

/-- IDLE_CHECK_ARM: both coils de-energised for 500 ms. -/
def execIdleCheckArm (s : State) : Out :=
  whenever (s.dom.d0 && s.dom.d2 && idleMode s && !coilOn s && !s.nl.armed) s fun s =>
    let t := s.nl.openSince.getD s.mode.startAt
    setNl (fun n => { n with armed := true, openSince := some t, above := [0, 0, 0, 0], below := 0, accN := 0 })
      (advanceTo (t + Tick.ms 500) s)

/-- Blocks of 100 ms that make up NL.IDLE_TIME. -/
def idleBlocks (s : State) : Nat := param s 0x100A / 100

/-- The RMS of a current channel over the block of 100 samples, mA. -/
def blockRms (s : State) (x : Nat) : Nat :=
  isqrt ((s.nl.acc[x]?).getD 0 * (iScale s x * iScale s x) / (100 * 2 ^ 44))

/-- IDLE_CURRENT_BLOCK: the end of a block of 100 samples; channels invalid under R73 are left out (R523). -/
def execIdleCurrentBlock (s : State) : Out :=
  whenever (idleArmed s && s.dom.d2 && decide (100 ≤ s.nl.accN)) s fun s =>
    let ok (x : Nat) : Bool := !bitN (invalidMask s) (iSlot x)
    let at' (x : Nat) : Nat := blockRms s x
    let rms := (List.range 4).map at'
    let lim := param s 0x1009
    let above := (List.range 4).map fun x => if ok x && decide (lim ≤ at' x) then (s.nl.above[x]?).getD 0 + 1 else 0
    let quiet := (List.range 4).all fun x => !ok x || decide (10 * at' x < 8 * lim)
    let s := setNl (fun n => { n with
      idleRms := (List.range 4).map fun x => min 0xFFFF (at' x), above := above, below := if quiet then n.below + 1 else 0, accN := 0 }) s
    match (List.range 4).find? fun x => decide (idleBlocks s ≤ (above[x]?).getD 0) with
    | some x =>
      if s.nl.idle then s
      else wakeSeen 5 (nlEvent 1 x (at' x) (tamperOn 3 (setNl (fun n => { n with idle := true }) s)))
    | none =>
      if s.nl.idle && decide (idleBlocks s ≤ s.nl.below) then
        nlEvent 2 0 (maxOf rms) (tamperOff 3 (setNl (fun n => { n with idle := false }) s))
      else s

/-- WAKE_OUT_PULSE_END (R526). -/
def execWakeOutPulseEnd (s : State) : Out :=
  match s.nl.wakePulse with
  | none => .next s
  | some t => .next (setNl (fun n => { n with wakeOut := false, wakePulse := none }) (advanceTo t s))

/-- WAKE_OUT held high under NL.WAKE_OUT_MODE 0 falls. -/
def lowerWakeOut (s : State) : State :=
  if s.nl.wakePulse.isNone then setNl (fun n => { n with wakeOut := false }) s else s

/-! Opcodes (R529, R530). -/

/-- AUX_READ. -/
def execAuxRead (r : Req) (mask : Nat) (s : State) : Out :=
  brixo 0x1000 r s fun s =>
    if mask = 0 ∨ 2 ^ 24 ≤ mask then refuse s stBadParam
    else answer s stOk (le 4 mask ++ (maskIdx 24 mask).flatMap fun n =>
      le 2 ((s.adc.results[n]?).getD 0) ++ le 1 (packBits [decide (n < 6) && bitN s.adc.sensorFault n, s.adc.vrefFault])
        ++ zeros 1 ++ leI 4 ((s.adc.values[n]?).getD 0))

/-- AUX_CONVERT. -/
def execAuxConvert (r : Req) (ch n : Nat) (s : State) : Out :=
  brixo 0x1001 r s fun s =>
    if 24 ≤ ch ∨ n = 0 ∨ 64 < n then refuse s stBadParam
    else if 4 ≤ s.adc.converts.length then refuse s stQueueFull
    else later (setAdc (fun a => { a with converts := a.converts ++ [⟨r, ch, n, 0, 0, 0⟩] }) s)

/-- AUX_TRIG_READ. -/
def execAuxTrigRead (r : Req) (most : Nat) (s : State) : Out :=
  brixo 0x1002 r s fun s =>
    if most = 0 ∨ 64 < most then refuse s stBadParam
    else
      let es := s.adc.fifo.take most
      answer (setAdc (fun a => { a with fifo := a.fifo.drop most, missed := 0 }) s) stOk (
        le 1 es.length ++ zeros 1 ++ le 2 s.adc.missed ++ es.flatMap fun e =>
          le 4 e.epoch ++ le 4 e.cycle ++ le 1 e.ch ++ zeros 1 ++ le 2 e.result)

/-- NL_STATUS. -/
def execNlStatus (r : Req) (s : State) : Out :=
  brixo 0x1003 r s fun s =>
    let n := s.nl
    answer s stOk (n.idleRms.flatMap (le 2)
      ++ le 1 (packBits [idleArmed s, n.idle, n.wakeOut, n.vbatLow, n.rtcLost, n.overflowed])
      ++ le 1 (packBits (n.rules.mapIdx fun i r => r.active && ruleAction s i != 0)) ++ le 2 ((s.adc.values[23]?).getD 0).toNat ++ leI 4 n.ppb
      ++ leI 8 n.outageStart ++ leI 8 n.outageEnd ++ le 1 (n.wakeSrc.getD 0xFF) ++ zeros 3)

/-- NL_WAKE_ACK. -/
def execNlWakeAck (r : Req) (s : State) : Out :=
  brixo 0x1004 r s fun s => answer (lowerWakeOut s) stOk

end Sys2Proof.Machine
end

