-- ==== Sys2Proof/Machine/Carrier.lean ====
section
/-! DEFINITION. The mains-carrier modem (19): bursts at zero crossings, access, rounds, tone maps, neighbour phase and the opcodes. The
frames that reach the fabric stand in Fabric. -/

namespace Sys2Proof.Machine

/-- The modes in which the modem runs (R457). -/
def mcMode (s : State) : Bool :=
  s.mode.mode == .factory || s.mode.mode == .commission || s.mode.mode == .service || s.mode.mode == .recovery

/-- The transmitter may send (R446, R457). -/
def mcTx (s : State) : Bool := serving s && mcMode s && param s 0x0B00 == 1

/-- Frames are received (R457). -/
def mcRx (s : State) : Bool := serving s && mcMode s

def mcFind (s : State) (short : Nat) : Option McNeighbour := s.mc.neighbours.find? (·.short == short)

def setMcN (short : Nat) (f : McNeighbour → McNeighbour) (s : State) : State :=
  setMc (fun m => { m with neighbours := m.neighbours.map fun n => if n.short = short then f n else n }) s

/-- PHASE of an entry (R460). -/
def phaseByte (n : McNeighbour) : Nat := n.phase + 128 * b2n n.reversed

/-- MC_EVENT (R460) about a neighbour. -/
def mcEventOf (event : Nat) (n : McNeighbour) (s : State) : State :=
  notify 2 0x0B08 (le 1 event ++ le 1 (phaseByte n) ++ le 2 n.short ++ le 8 n.moduleId) s

/-- MC_EVENT about a short address, of which no neighbour may be known. -/
def mcEvent (event short : Nat) (s : State) : State :=
  match mcFind s short with
  | some n => mcEventOf event n s
  | none => notify 2 0x0B08 (le 1 event ++ le 1 3 ++ le 2 short ++ le 8 0) s

/-! Symbols (R448, R451, R454). -/

/-- Data symbols of a full burst (R449). -/
def perBurst (s : State) : Nat := if param s 0x0266 = 60 then 6 else 8

/-- Ticks of a burst with `n` data symbols: preamble, header and data symbols of 703.125 µs. -/
def burstTicks (n : Nat) : Tick := (n + 2) * 144000

/-- A tone map at level DOWN, none where fewer than 8 carriers stay on (R453, R454). -/
def lowered (map : List Nat) (down : Nat) : Option (List Nat) :=
  let m := map.map (· - down)
  if countWhere (0 < ·) m < 8 then none else some m

/-- The map a frame to a neighbour is sent in, none for ROBO. -/
def mapFor (s : State) (f : McFrame) : Option (List Nat) :=
  if f.type = 4 || f.type = 5 || f.dst = 0xFFFF then none
  else (mcFind s f.dst).bind fun n => n.map.bind fun m => lowered m n.down

/-- Symbols of the next round of a frame: its header, then its segments of 588 coded bits, or the sounding symbols. -/
def roundSymbols (s : State) (f : McFrame) : Nat :=
  let bits := 588 * f.todo.length
  match mapFor s f with
  | none => 36 + (if f.type = 3 then 4 else 4 * divCeil bits 30)
  | some m => 9 + (if f.type = 3 then 4 else divCeil bits (sumN m))

/-- A round begins (R452). -/
def startRound (f : McFrame) (s : State) : State :=
  setMc (fun m => { m with
    current := some f, symbols := roundSymbols s f, awaiting := false, framesTx := satInc 0xFFFFFFFF m.framesTx }) s

/-! The end of an exchange (R452–R454). -/

/-- A frame leaves the modem: the fabric packet it carried gives its credit back (R469). -/
def mcRelease (f : McFrame) (s : State) : State :=
  let s := setMc (fun m => { m with current := none, symbols := 0, awaiting := false }) s
  match s.lin.neighbours.find? fun n => n.link == 6 && n.hello.short == f.dst with
  | some n => if f.type = 1 then acknowledge 6 n.hello.moduleId (fun x => x.1 != f.seq) s else s
  | none => s

/-- The exchange ends; a TYPE 3 request to the same neighbour continues it after a downgrade. -/
def endExchange (f : McFrame) (s : State) : State :=
  let s := mcRelease f s
  if f.downgraded && f.type != 3 then
    let q := s.mc.nextSeq
    startRound ⟨3, f.dst, q, 0, [], 0, [], 0, false⟩ (setMc (fun m => { m with nextSeq := (q + 1) % 65536 }) s)
  else s

/-- A frame whose last round fails (R452); a failed request counts as a failed refresh (R456). -/
def failFrame (f : McFrame) (s : State) : State :=
  let s := setMc (fun m => { m with framesFailed := satInc 0xFFFFFFFF m.framesFailed }) s
  let s := if f.type = 3 then setMcN f.dst (fun n => { n with refreshFails := n.refreshFails + 1, wanted := false }) s else s
  endExchange f (mcEvent 5 f.dst s)

/-- A downgrade (R454). -/
def downgrade (f : McFrame) (s : State) : State :=
  mcEvent 3 f.dst (setMc (fun m => { m with downgrades := satInc 0xFFFFFFFF m.downgrades })
    (setMcN f.dst (fun n => { n with down := min 4 (n.down + 1) }) s))

/-- The next round with the segments still lacking, or the frame's failure. -/
def nextRound (f : McFrame) (lost : List Nat) (lower : Bool) (s : State) : State :=
  let s := if lower then downgrade f s else s
  let f := { f with downgraded := f.downgraded || lower }
  if param s 0x0B04 ≤ f.retry then failFrame f s
  else startRound { f with retry := f.retry + 1, todo := lost } (setMc (fun m => { m with
    segRetx := min 0xFFFFFFFF (m.segRetx + lost.length) }) s)

/-! Windows (R449, R452). -/

/-- Mean half-period of the last 16 crossings, once 16 are held. -/
def halfPeriod (s : State) : Option Nat :=
  if s.mc.halves.length = 16 then some (sumN s.mc.halves / 16) else none

/-- A burst of `n` data symbols fits the predicted half-period (R449). -/
def burstFits (s : State) (n : Nat) : Bool :=
  match halfPeriod s with
  | some h => decide (burstTicks n + Tick.us 1900 ≤ h)
  | none => false

/-- A burst leaves in this window; it marks the supraharmonic block it falls in (R446). -/
def burstSent (s : State) : State :=
  setMc (fun m => { m with burstNow := true }) { s with pq := { s.pq with shTx := s.pq.shTx || s.pq.shFirst.isSome } }

/-- One window of the acknowledgement this module owes. -/
def ackWindow (s : State) : State :=
  let n := min (perBurst s) s.mc.ackLeft.1
  let fits := burstFits s n
  let left := if fits then s.mc.ackLeft.1 - n else s.mc.ackLeft.1
  let wins := s.mc.ackLeft.2 - 1
  let s := if fits then burstSent s else s
  setMc (fun m => { m with
    ackLeft := (left, wins), ackDue := if left = 0 || wins = 0 then none else m.ackDue }) s

/-- One window of the round in progress; its last burst starts the receiver's 3 reserved windows. -/
def roundWindow (f : McFrame) (s : State) : State :=
  let n := min (perBurst s) s.mc.symbols
  if !burstFits s n then s
  else
    let s := setMc (fun m => { m with symbols := m.symbols - n }) (burstSent s)
    let s := if s.mc.symbols ≠ 0 then s
      else setMcN f.dst (fun x => { x with segSent := min 0xFFFFFFFF (x.segSent + f.todo.length) }) s
    if s.mc.symbols ≠ 0 then s
    else if f.dst = 0xFFFF then endExchange f s
    else setMc (fun m => { m with awaiting := true, reserved := 3 }) s

/-- One window without a burst of its own: idle windows, then the random wait of a queue that is not empty (R452). -/
def idleWindow (preamble : Bool) (s : State) : State :=
  let quiet := if preamble then 0 else min 2 (s.mc.quiet + 1)
  let s := setMc (fun m => { m with quiet := quiet }) s
  if quiet < 2 || s.mc.queue.isEmpty then s
  else match s.mc.backoff with
    | none => let (i, s) := takeFree s; setMc (fun m => { m with backoff := some (Config.freeNat i % 2 ^ m.k) }) s
    | some n => setMc (fun m => { m with backoff := some (n - 1) }) s

/-- SUPPLY_ZERO_CROSSING (R449): timestamp, half-period, and the window it opens; `preamble`: another module's preamble was heard
in the window before. -/
def execSupplyZeroCrossing (rising preamble : Bool) (s : State) : Out :=
  whenever (serving s && !inHoldup s) s fun s =>
    let now := s.clk.now
    let s := setMc (fun m => { m with
      halves := match m.lastZc with
        | some t => ((now - t) :: m.halves).take 16
        | none => m.halves
      lastZc := some now, lastRising := if rising then some now else m.lastRising, burstNow := false }) s
    if !mcTx s then
      let s := setMc (fun m => { m with ackDue := none }) s
      match s.mc.current with
      | some f => mcRelease f s
      | none => s
    else if s.mc.ackDue.isSome then ackWindow s
    else if 0 < s.mc.reserved then setMc (fun m => { m with reserved := m.reserved - 1 }) s
    else match s.mc.current with
      | some f => if s.mc.awaiting then s else roundWindow f s
      | none => idleWindow preamble s

/-- The frame the queue serves next: PRIO 0, 1, then 2, whose frames wait at shedding step 4 (R452, R456). -/
def nextFrame (s : State) : Option McFrame :=
  [0, 1, 2].findSome? fun p => if p = 2 && bulkPaused s then none else s.mc.queue.find? fun f => min 2 f.prio = p

/-- MC_FRAME_BEGIN (R452). -/
def execMcFrameBegin (s : State) : Out :=
  match nextFrame s with
  | none => .next s
  | some f =>
    whenever (mcTx s && s.mc.current.isNone && s.mc.ackDue.isNone && s.mc.quiet == 2 && s.mc.backoff == some 0
        && s.mc.reserved == 0) s fun s =>
      startRound f (setMc (fun m => { m with queue := m.queue.erase f, backoff := none, quiet := 0 }) s)

/-- MC_ACK_WINDOW_EXPIRY (R452): the whole frame is the next round; the third silent round lowers the level (R454). -/
def execMcAckWindowExpiry (s : State) : Out :=
  match s.mc.current with
  | none => .next s
  | some f =>
    whenever (mcTx s && s.mc.awaiting && s.mc.reserved == 0) s fun s =>
      let s := setMc (fun m => { m with k := min 6 (m.k + 1) }) s
      let f := { f with silent := f.silent + 1 }
      nextRound f (List.range (divCeil f.payload.length 32)) (f.silent == 3) s

/-! Frames received. -/

/-- PHASE and REVERSED of a burst centre (R455): within 30° of 0°, 120°, 240°, else of 180°, 300°, 60°. -/
def burstPhase (s : State) (zcPol : Bool) (centre : Tick) : Nat × Bool :=
  match halfPeriod s, s.mc.lastRising with
  | some h, some tr =>
    let p : Int := 2 * (h : Int)
    if p = 0 then (3, false)
    else
      let d := ((centre : Int) - (tr : Int) - (if zcPol then 0 else (h : Int))) % p
      let near (k : Int) : Bool :=
        let x := (12 * d - 2 * p * k) % (12 * p)
        decide (x ≤ p) || decide (11 * p ≤ x)
      if near 0 then (0, false) else if near 2 then (1, false) else if near 4 then (2, false)
      else if near 3 then (0, true) else if near 5 then (1, true) else (2, true)
  | _, _ => (3, false)

/-- A frame of a neighbour was heard: its epoch and its classification, reported from 3 of the last 4 (R455). -/
def heardBy (is : McNeighbour → Bool) (zcPol : Bool) (centre : Tick) (s : State) : State :=
  let s := setMc (fun m => { m with framesRx := satInc 0xFFFFFFFF m.framesRx }) s
  match s.mc.neighbours.find? is with
  | none => s
  | some n =>
    let c := burstPhase s zcPol centre
    let ps := (c :: n.phases).take 4
    let new := decide (3 ≤ countWhere (· == c) ps) && (n.phase, n.reversed) != c
    let n := { n with
      phases := ps, heardEpoch := s.clk.epoch, heardAt := s.clk.now
      phase := if new then c.1 else n.phase, reversed := if new then c.2 else n.reversed }
    let s := setMc (fun m => { m with neighbours := m.neighbours.map fun x => if is x then n else x }) s
    if new then mcEventOf 6 n s else s

def heardFrame (short : Nat) (zcPol : Bool) (centre : Tick) (s : State) : State :=
  heardBy (·.short == short) zcPol centre s

/-- The acknowledgement this module owes to a frame addressed to it (R452): 9 symbols in its next 3 windows. -/
def oweAck (dst seq bitmap snr : Nat) (s : State) : State :=
  setMc (fun m => { m with ackDue := some (dst, seq, bitmap, snr), ackLeft := (9, 3) }) s

/-- A frame for another module leaves that module 3 windows (R452). -/
def yieldWindows (s : State) : State := setMc (fun m => { m with reserved := 3 }) s

/-- A run of three consecutive segment numbers. -/
def threeInRow (l : List Nat) : Bool := l.any fun n => l.contains (n + 1) && l.contains (n + 2)

/-- In WATCH a header for this module is the packet wake source, and what follows it is lost (R457). -/
def mcWatch (dst : Nat) (s : State) : State := if dst = ownAddr s ∧ ownAddr s ≠ 0 then wakeSeen 3 s else s

/-- A frame received while the modem runs, or its header alone in WATCH (R457). -/
def received (dst : Nat) (s : State) (f : State → State) : Out :=
  if s.mode.mode == .watch then .next (if serving s then mcWatch dst s else s) else whenever (mcRx s) s f

/-- MC_ACK_FRAME (R452). -/
def execMcAckFrame (src dst seq bitmap snr : Nat) (zcPol : Bool) (centre : Tick) (s : State) : Out :=
  received dst s fun s =>
    let s := heardFrame src zcPol centre s
    match s.mc.current with
    | none => s
    | some f =>
      if dst = ownShort s ∧ s.mc.awaiting ∧ f.dst = src ∧ f.seq = seq then
        let lost := (List.range (divCeil f.payload.length 32)).filter fun n => !bitN bitmap n
        let s := setMcN src (fun n => { n with
          snr := snr
          segLost := min 0xFFFFFFFF (n.segLost + countWhere (lost.contains ·) f.todo) }) s
        if lost.isEmpty then endExchange f (setMc (fun m => { m with k := 2 }) s)
        else nextRound { f with silent := 0 } lost (threeInRow lost) s
      else s

/-- The highest modulation whose threshold plus margin a carrier's SNR reaches, in 0.25 dB (R453). -/
def modulationFor (margin snr : Nat) : Nat :=
  if 56 + margin ≤ snr then 4 else if 44 + margin ≤ snr then 3 else if 28 + margin ≤ snr then 2
  else if 16 + margin ≤ snr then 1 else 0

/-- The 12-byte field of a tone map (R453). -/
def mapBytes (m : List Nat) : List Byte := le 12 (m.zipIdx.foldl (fun a x => a + x.1 * 8 ^ x.2) 0)

/-- TONE_MAP_REQUEST (R453): the map of 30 measured SNRs goes back in TYPE 4. -/
def execToneMapRequest (h : McHeader) (snrs : List Nat) (zcPol : Bool) (centre : Tick) (s : State) : Out :=
  received h.dst s fun s =>
    let s := heardFrame h.src zcPol centre s
    if h.dst ≠ ownShort s then yieldWindows s
    else
      let m := ((snrs ++ List.replicate 30 0).take 30).map (modulationFor (2 * param s 0x0B03))
      let robo := decide (countWhere (0 < ·) m < 8)
      let last := ((mcFind s h.src).map (·.givenTmi)).getD 0
      let tmi := if robo then 0 else last % 15 + 1
      let s := if robo then s else setMcN h.src (fun n => { n with givenTmi := tmi }) s
      let s := oweAck h.src h.seq 0 (divRoundN (sumN (snrs.take 30)) 30) s
      mcOwnFrame 4 h.src 0 (le 1 tmi ++ (if robo then zeros 12 else mapBytes m)) s

/-- TONE_MAP_REPLY (R453): the map is adopted, DOWN returns to 0; TMI 0 is ROBO. -/
def execToneMapReply (h : McHeader) (tmi map : Nat) (snr : Nat) (zcPol : Bool) (centre : Tick) (s : State) : Out :=
  received h.dst s fun s =>
    let s := heardFrame h.src zcPol centre s
    if h.dst ≠ ownShort s then yieldWindows s
    else
      let s := oweAck h.src h.seq 1 snr s
      match mcFind s h.src with
      | none => s
      | some n =>
        let m := (List.range 30).map fun j => min 4 (map / 8 ^ j % 8)
        let s := setMcN h.src (fun x => { x with
          map := if tmi = 0 then none else some m, tmi := tmi, down := 0, refreshed := s.clk.now, refreshFails := 0
          wanted := false }) s
        if n.wanted then mcEvent 4 h.src s else s

/-- MC_INCOMPLETE_FRAME_DISCARD (R452). -/
def execMcIncompleteFrameDiscard (src seq : Nat) (s : State) : Out :=
  match s.mc.rx.find? fun p => p.src == src && p.seq == seq with
  | none => .next s
  | some p => whenever (serving s) s fun s =>
    setMc (fun m => { m with rx := m.rx.erase p }) (advanceTo (p.last + Tick.s 2) s)

/-- A TYPE 3 request waits or runs for a neighbour. -/
def requestDue (s : State) (short : Nat) : Bool :=
  (s.mc.queue ++ s.mc.current.toList).any fun f => f.type == 3 && f.dst == short

/-- TONE_MAP_REFRESH_DUE (R453). -/
def execToneMapRefreshDue (short : Nat) (s : State) : Out :=
  match mcFind s short with
  | none => .next s
  | some n => whenever (mcRx s) s fun s =>
    let s := advanceTo (n.refreshed + Tick.s (param s 0x0B02)) s
    let s := setMcN short (fun x => { x with refreshed := s.clk.now }) s
    if requestDue s short then s else mcOwnFrame 3 short 0 [] s

/-- BEACON_TIMER (R456, R464): TYPE 5 with the fabric block, to everyone, every MC.BEACON_PERIOD with a random offset of up to a
quarter of it. -/
def execBeaconTimer (s : State) : Out :=
  whenever (mcTx s) s fun s =>
    let (i, s) := takeFree (advanceTo s.mc.beaconAt s)
    let p := Tick.s (param s 0x0B05)
    let s := setMc (fun m => { m with beaconAt := s.clk.now + p + Config.freeNat i % (p / 4 + 1) }) s
    mcOwnFrame 5 0xFFFF 0 (helloBytes (helloBlock 0 s)) s

/-! Opcodes (R460). -/

/-- MC_STATUS (R460). -/
def execMcStatus (r : Req) (s : State) : Out :=
  brixo 0x0B00 r s fun s =>
    let m := s.mc
    let st := if !(mcMode s || s.mode.mode == .watch) then 0 else if mcTx s then 2 else 1
    answer s stOk (le 1 st ++ le 1 (b2n (param s 0x0B00 == 1) + 2 * b2n (halfPeriod s).isSome + 4 * b2n (bulkPaused s))
      ++ le 1 (perBurst s) ++ le 1 m.neighbours.length ++ le 2 (ownShort s) ++ zeros 2
      ++ le 4 m.framesTx ++ le 4 m.framesRx ++ le 4 m.framesFailed ++ le 4 m.segRetx ++ le 4 m.downgrades
      ++ le 4 (((halfPeriod s).getD 0) * 5 / 1024))

/-- An ENTRY of R460. -/
def mcEntry (n : McNeighbour) : List Byte :=
  let used := n.map.bind fun m => lowered m n.down
  le 8 n.moduleId ++ le 2 n.short ++ le 1 (phaseByte n) ++ le 1 (b2n n.map.isSome + 2 * b2n used.isNone)
    ++ le 1 n.tmi ++ le 1 n.down ++ le 1 n.snr ++ zeros 1 ++ mapBytes ((n.map).getD [])
    ++ le 4 n.segSent ++ le 4 n.segLost ++ zeros 4 ++ le 8 n.heardEpoch

/-- MC_NEIGHBOUR_READ (R460). -/
def execMcNeighbourRead (r : Req) (first count : Nat) (s : State) : Out :=
  brixo 0x0B01 r s fun s =>
    if 64 ≤ first ∨ count = 0 ∨ 32 < count then refuse s stBadParam
    else
      let es := (s.mc.neighbours.drop first).take count
      answer s stOk (le 1 first ++ le 1 es.length ++ zeros 2 ++ es.flatMap mcEntry)

/-- MC_TONEMAP_REFRESH (R460). -/
def execMcTonemapRefresh (r : Req) (short : Nat) (s : State) : Out :=
  brixo 0x0B02 r s fun s =>
    if (mcFind s short).isNone then refuse s stNoNeighbour
    else if !mcTx s then refuse s stTxDisabled
    else
      let s := setMcN short (fun n => { n with wanted := true }) s
      answer (if requestDue s short then s else mcOwnFrame 3 short 0 [] s) stAccepted

end Sys2Proof.Machine
end

