-- ==== Sys2Proof/Machine/Fabric.lean ====
section
/-! DEFINITION. The Lintel fabric (20): hellos, the tree, routes, packets as they arrive, the Ethernet switch, LIN_FORWARD, and the
mains-carrier frames that carry fabric traffic (19). -/

namespace Sys2Proof.Machine

/-! The tree (R464–R466). -/

/-- The path cost of a link (R461). -/
def linkCost (link : Nat) : Nat := if link < 4 then 1 else if link < 6 then 2 else 16

def pairBefore (a b : Nat × Nat) : Bool := decide (a.1 < b.1) || (a.1 == b.1 && decide (a.2 < b.2))

/-- The tuple of R465 that a neighbour gives as parent. -/
def parentTuple (n : Neighbour) : Nat × Nat × Nat := (n.hello.pathCost + linkCost n.link, n.hello.depth + 1, n.hello.moduleId)

def tupleBefore (a b : Nat × Nat × Nat) : Bool := decide (a.1 < b.1) || (a.1 == b.1 && pairBefore a.2 b.2)

/-- Neighbours on enabled links. -/
def liveNeighbours (s : State) : List Neighbour := s.lin.neighbours.filter fun n => linkOn s n.link

/-- The lowest pair (ROOT_PRIO, MODULE_ID) reported, the own one included. -/
def bestRoot (s : State) : Nat × Nat :=
  (liveNeighbours s).foldl (fun b n =>
    if pairBefore (n.hello.rootPrio, n.hello.rootId) b then (n.hello.rootPrio, n.hello.rootId) else b)
    (param s 0x0C02, s.ident.moduleId)

/-- Neighbours that lead to a root within DEPTH 64. -/
def parentOffers (s : State) (root : Nat × Nat) : List Neighbour :=
  (liveNeighbours s).filter fun n => (n.hello.rootPrio, n.hello.rootId) == root && decide (n.hello.depth < 64)

def bestParent (s : State) (root : Nat × Nat) : Option Neighbour :=
  (parentOffers s root).foldl (fun b n => match b with
    | none => some n
    | some m => if tupleBefore (parentTuple n) (parentTuple m) then some n else some m) none

/-- The address ranges of the own subtree (R466). -/
def ownRanges (s : State) : List (Nat × Nat) :=
  (if ownAddr s = 0 then [] else [(ownAddr s, ownAddr s)])
    ++ (s.lin.neighbours.filter (·.child)).flatMap (·.routes)

/-- A ROUTE packet to the parent: ranges as pairs of first and last address (log entry 46). -/
def sendRoute (s : State) : State :=
  match parentN s with
  | none => s
  | some n => transmit n ⟨128, false, false, n.hello.short, ownAddr s, 3, 0, 0, 0, 0,
      ((ownRanges s).take 251).flatMap fun r => le 2 r.1 ++ le 2 r.2⟩ s

/-- The node as the root of its fabric, or of its own part of it. -/
def becomeRoot (limit : Bool) (s : State) : State :=
  setLin (fun l => { l with
    rootId := s.ident.moduleId, rootPrio := param s 0x0C02, depth := 0, pathCost := 0, parent := none
    depthLimit := limit }) s

def followParent (n : Neighbour) (s : State) : State :=
  let s := setLin (fun l => { l with
    rootId := n.hello.rootId, rootPrio := n.hello.rootPrio, depth := n.hello.depth + 1
    pathCost := n.hello.pathCost + linkCost n.link, parent := some (n.link, n.hello.moduleId), depthLimit := false }) s
  setNeighbour n.link n.hello.moduleId (fun x => { x with child := false, routes := [] }) s

/-- Root and parent chosen anew; `lost` marks a neighbour that has just gone (R465, R479). -/
def rebuildTree (lost : Bool) (s : State) : State :=
  let oldRoot := s.lin.rootId
  let oldParent := s.lin.parent
  let root := bestRoot s
  let s := if root == (param s 0x0C02, s.ident.moduleId) then becomeRoot false s
    else match bestParent s root with
      | none => becomeRoot true s
      | some n => followParent n s
  let s := if s.lin.rootId = oldRoot then s else linEvent 2 ((s.lin.parent.map (·.1)).getD 0xFF) 0 s
  if s.lin.parent == oldParent then s
  else match s.lin.parent with
    | some p => sendRoute (linEvent 1 p.1 (((neighbour s p.1 p.2).map (·.hello.short)).getD 0) s)
    | none => linEvent (if lost then 3 else 1) 0xFF 0 s

/-- A neighbour hears nothing more from this node and is forgotten; the tree is rebuilt, and a parent that stays learns of a child
that went (R461, R465, R466). -/
def dropNeighbour (link id : Nat) (s : State) : State :=
  let child := ((neighbour s link id).map (·.child)).getD false
  let t := rebuildTree true (diagTrigger 12 link (setLin (fun l => { l with
    neighbours := l.neighbours.filter fun n => !n.is link id }) s))
  if child && t.lin.parent == s.lin.parent then sendRoute t else t

/-- The own address in the hello of another module (R466). -/
def conflictCheck (link : Nat) (h : HelloBlock) (s : State) : State :=
  if param s 0x0C00 != 0 && h.short == param s 0x0C00 && h.moduleId != s.ident.moduleId then
    let first := !s.lin.conflict
    let had := ownAddr s
    let s := setLin (fun l => { l with
      conflict := true, conflictAt := s.clk.now
      withdrawn := l.withdrawn || decide (h.moduleId < s.ident.moduleId) }) s
    let s := if ownAddr s = had then s else sendRoute s
    if first then linEvent 6 link h.short s else s
  else s

/-- The neighbour list with a new hello; a link L0 to L3 has one neighbour (R461, R464). -/
def putHello (link : Nat) (h : HelloBlock) (s : State) : State :=
  if (neighbour s link h.moduleId).isSome then
    setNeighbour link h.moduleId (fun n => { n with hello := h, heard := s.clk.now }) s
  else setLin (fun l => { l with
    neighbours := l.neighbours.filter (fun n => !(decide (link < 4) && n.link == link))
      ++ [⟨link, h, s.clk.now, false, [], 0, none, [], [], 0⟩] }) s

/-- A fabric block from a neighbour (R464–R466); another TABLE_ID is reported once for each neighbour (R477). -/
def takeHello (link : Nat) (h : HelloBlock) (s : State) : State :=
  if h.moduleId = s.ident.moduleId then s
  else
    let seen := ((neighbour s link h.moduleId).map (·.hello.tableId)).getD (tableId s)
    let fresh := ((neighbour s link h.moduleId).map (·.hello.short)) != some h.short
    let s := putHello link h (conflictCheck link h s)
    let s := if fresh then offerTo h.short s else s
    let s := if siteLimit s != 0 && h.tableId != tableId s && seen != h.tableId then linEvent 4 link h.short s else s
    rebuildTree false s

/-- HELLO_RECEIVED on an enabled link (R464, R465). -/
def execHelloReceived (link : Nat) (h : HelloBlock) (s : State) : Out :=
  whenever (fabricRuns s && linkOn s link) s (takeHello link h)

/-- HELLO_TIMER, every 100 ms: hellos to each neighbour, or to whoever listens, on L0–L3 and Ethernet (R464). -/
def execHelloTimer (s : State) : Out :=
  whenever (fabricRuns s) s fun s =>
    let s := advanceTo s.lin.helloAt s
    let dest (l : Nat) : List (Nat × Nat) :=
      if !linkOn s l then [] else match s.lin.neighbours.filter (·.link == l) with
        | [] => [(l, 0)]
        | ns => ns.map fun n => (l, n.hello.moduleId)
    setLin (fun x => { x with
      helloAt := s.clk.now + Tick.ms 100
      helloSent := ((List.range 6).flatMap dest).map fun p => (p.1, p.2, helloBlock p.2 s) }) s

/-- LINK_DOWN: three hello intervals without a valid frame (R461). -/
def execLinkDown (link id : Nat) (s : State) : Out :=
  match neighbour s link id with
  | none => .next s
  | some n => whenever (fabricRuns s && decide (link < 6)) s fun s => dropNeighbour link id (advanceTo (n.heard + Tick.ms 300) s)

/-- LINK_RETRANSMIT_TIMEOUT: go-back-N sends the window again (R461). -/
def execLinkRetransmitTimeout (link id : Nat) (s : State) : Out :=
  match neighbour s link id with
  | none => .next s
  | some n =>
    whenever (fabricRuns s && decide (link < 6) && !n.unacked.isEmpty) s fun s =>
      let again := n.unacked.take 64
      let s := advanceTo n.retxAt s
      let leaves := s.clk.now + wedgeLink s link
      let s := setNeighbour link id (fun x => { x with retxAt := leaves + retxTime link }) s
      setLin (fun l => { l with
        linkRetx := min 0xFFFFFFFF (l.linkRetx + again.length)
        sent := again.foldl (fun r x => pushRing 64 r ⟨leaves, link, id, x.1, x.2⟩) l.sent }) s

/-- ROUTE_TIMER, every 1 s (R466). -/
def execRouteTimer (s : State) : Out :=
  whenever (fabricRuns s) s fun s =>
    let s := advanceTo s.lin.routeAt s
    sendRoute (setLin (fun l => { l with routeAt := s.clk.now + Tick.s 1 }) s)

/-- ADDRESS_CONFLICT_CLEAR (R466). -/
def execAddressConflictClear (s : State) : Out :=
  whenever (s.lin.conflict && fabricRuns s) s fun s =>
    let had := ownAddr s
    let s := setLin (fun l => { l with conflict := false, withdrawn := false }) (advanceTo (s.lin.conflictAt + Tick.s 10) s)
    if ownAddr s = had then s else sendRoute s

/-! Packets as they arrive (R467, R468). -/

/-- A reply that answers a LIN_FORWARD of this module (R479). -/
def takeRemoteReply (src : Nat) (b : List Byte) (s : State) : State :=
  let p := packetOf b
  match s.lin.forwards.find? fun f => f.dst == src && f.chan == p.chan && f.seq == p.seq with
  | none => s
  | some f => replyTo (some f.req) 0x0C02 stOk b (setLin (fun l => { l with forwards := l.forwards.erase f }) s)

/-- A Brixo packet from the fabric: always inline, stamped LINTEL, checked under R278 (R467). -/
def takeBrixo (src : Nat) (b : List Byte) (s : State) : State :=
  let p := packetOf b
  if p.flags % 2 = 1 then
    if p.flags / 16 = 1 ∧ 12 + p.len ≤ b.length ∧ fieldAt b (8 + p.len) 4 = crc32c (crcHead b ++ (b.drop 8).take p.len) then
      takeRemoteReply src b s
    else s
  else takeDatagram .lintel 0 b (setLin (fun l => { l with origins := pushRing 64 l.origins (p.chan, p.seq, src) }) s)

/-- The fields of a token message (R473). -/
def tokenOf (src : Nat) (b : List Byte) : TokenMsg :=
  let n := min 64 (fieldAt b 1 1)
  let named := if fieldAt b 0 1 = 1 then [] else (List.range n).map fun k => fieldAt b (16 + 2 * k) 2
  { src := src, count := fieldAt b 1 1, xferId := fieldAt b 4 4, tableId := fieldAt b 8 4, leaseMs := fieldAt b 12 4
    tokens := named }

/-- A whole message for the own endpoint, by TYPE (R467, R473, R502). -/
def takeMessage (type src : Nat) (b : List Byte) (s : State) : State :=
  match type with
  | 1 => takeBrixo src b s
  | 2 => if hearsTokens s then takeTokenMsg (fieldAt b 0 1) (tokenOf src b) s else s
  | 4 => takeChainMsg (fieldAt b 0 1) src (fieldAt b 4 4) (fieldAt b 8 4) (fieldAt b 12 2) ((b.drop 16).take (fieldAt b 12 2)) s
  | _ => s

/-- A fragment joins its message; the message with every part goes on (R467). -/
def takeFragment (p : FabricPacket) (s : State) : State :=
  let same (f : Fragments) : Bool := f.src == p.src && f.msgId == p.msgId
  let old := ((s.lin.frags.find? same).map (·.parts)).getD []
  let parts := if old.any (·.1 == p.fragNo) then old else old ++ [(p.fragNo, p.payload)]
  let others := s.lin.frags.filter fun f => !same f
  let whole := (List.range p.fragCount).filterMap fun k => (parts.find? (·.1 == k)).map (·.2)
  if whole.length = p.fragCount then
    takeMessage p.type p.src whole.flatten (setLin (fun l => { l with frags := others }) s)
  else setLin (fun l => { l with frags := others ++ [⟨p.src, p.msgId, p.fragCount, parts, s.clk.now⟩] }) s

/-- Delivery to the own endpoint, whose full receive queue discards the packet (R462). -/
def deliverHere (full : Bool) (p : FabricPacket) (s : State) : State :=
  if full then setLin (fun l => { l with rxDropped := satInc 0xFFFFFFFF l.rxDropped }) s
  else
    let s := wakeSeen 3 s
    if p.fragCount = 0 then takeMessage p.type p.src p.payload s else takeFragment p s

/-- The ranges a ROUTE packet lists. -/
def rangesOf : Nat → List Byte → List (Nat × Nat)
  | 0, _ => []
  | k + 1, b => if b.length < 4 then [] else (fieldAt b 0 2, fieldAt b 2 2) :: rangesOf k (b.drop 4)

/-- A ROUTE of a child (R466): the newest stands first, and a change goes on to the own parent. -/
def takeRoute (link id : Nat) (b : List Byte) (s : State) : State :=
  match neighbour s link id with
  | none => s
  | some n =>
    let m := { n with child := true, routes := rangesOf 251 b }
    let s' := setLin (fun l => { l with neighbours := m :: l.neighbours.filter fun x => !x.is link id }) s
    if s.lin.parent == some (link, id) then s
    else if m.routes = n.routes ∧ n.child then s' else sendRoute s'

/-- A broadcast reaches the own endpoint at the root or in its down phase (R468). -/
def broadcastHere (s : State) (p : FabricPacket) : Bool := p.bcast && (p.down || s.lin.parent.isNone)

/-- A fabric packet from a neighbour: routes, the own endpoint, or the next hop (R466–R468). -/
def takePacket (came : Option (Nat × Nat)) (full : Bool) (p : FabricPacket) (s : State) : State :=
  if p.type = 3 then
    match came with
    | some c => takeRoute c.1 c.2 p.payload s
    | none => s
  else if ownAddr s ≠ 0 ∧ !p.bcast ∧ p.dst = ownAddr s then deliverHere full p s
  else
    let s := if ownAddr s ≠ 0 ∧ broadcastHere s p then deliverHere full p s else s
    routePacket came p s

/-- FABRIC_PACKET_RECEIVED on L0–L3 or Ethernet: the acknowledgements it brings end the wait of the oldest `acked` packets. Go-back-N
takes the next sequence value alone, so each passes once (R461). -/
def execFabricPacketReceived (link id q acked : Nat) (full : Bool) (p : FabricPacket) (s : State) : Out :=
  match neighbour s link id with
  | none => .next s
  | some n =>
    whenever (fabricRuns s && linkOn s link && decide (link < 6)) s fun s =>
      let fresh := match n.rxSeq with | none => true | some last => q == (last + 1) % 65536
      let s := setNeighbour link id (fun x => { x with
        heard := s.clk.now, rxSeq := if fresh then some q else x.rxSeq }) s
      let done := n.unacked.take acked
      let s := if done.isEmpty then s else acknowledge link id (fun x => !done.contains x) s
      if fresh then takePacket (some (link, id)) full p s else s

/-- FRAGMENT_REASSEMBLY_TIMEOUT (R467). -/
def execFragmentReassemblyTimeout (src msg : Nat) (s : State) : Out :=
  match s.lin.frags.find? fun f => f.src == src && f.msgId == msg with
  | none => .next s
  | some f => whenever (fabricRuns s) s fun s =>
    setLin (fun l => { l with frags := l.frags.erase f }) (advanceTo (f.last + Tick.s 2) s)

/-! The Ethernet switch (R462, R463). -/

/-- The internal MAC address: 0x02 and the low 40 bits of MODULE_ID. -/
def ownMac (s : State) : Nat := 0x02 * 2 ^ 40 + s.ident.moduleId % 2 ^ 40

/-- The source learnt; a full table learns nothing new. -/
def learn (src port : Nat) (now : Tick) (t : List (Nat × Nat × Tick)) : List (Nat × Nat × Tick) :=
  if t.any (·.1 == src) then t.map fun e => if e.1 = src then (src, port, now) else e
  else if t.length < 1024 then t ++ [(src, port, now)] else t

/-- ETHERNET_FRAME at a port (0 E0, 1 E1, 2 the internal MAC): to the port of a known destination, else to every other port. -/
def execEthernetFrame (port src dst : Nat) (s : State) : Out :=
  whenever s.dom.d3 s fun s =>
    let group := bitN dst 40
    let at' := if dst = ownMac s then some 2 else (s.lin.macTable.find? (·.1 == dst)).map (·.2.1)
    let out := match at' with
      | some q => if group then (List.range 3).filter (· != port) else if q = port then [] else [q]
      | none => (List.range 3).filter (· != port)
    setLin (fun l => { l with macTable := learn src port s.clk.now l.macTable, ethOut := out }) s

/-- ADDRESS_TABLE_AGEING: 300 s without use (R462). -/
def execAddressTableAgeing (mac : Nat) (s : State) : Out :=
  match s.lin.macTable.find? (·.1 == mac) with
  | none => .next s
  | some e => whenever s.dom.d3 s fun s =>
    setLin (fun l => { l with macTable := l.macTable.filter (·.1 != mac) }) (advanceTo (e.2.2 + Tick.s 300) s)

/-! Mains-carrier frames of the fabric (R451, R452, R456). -/

/-- A complete frame passes upward once (R452). -/
def mcUp (h : McHeader) (b : List Byte) (s : State) : State :=
  if s.mc.passed.contains (h.src, h.seq) then s
  else
    let s := setMc (fun m => { m with passed := ((h.src, h.seq) :: m.passed).take 64 }) s
    let n := s.lin.neighbours.find? fun n => n.link == 6 && n.hello.short == h.src
    match parsePacket b with
    | some p => if fabricRuns s && linkOn s 6 then takePacket (n.map fun n => (6, n.hello.moduleId)) false p s else s
    | none => s

/-- Segments that arrived intact join the frame (R452). -/
def mcCollect (h : McHeader) (segs : List (Nat × List Byte)) (snr : Nat) (s : State) : State :=
  let same (p : McPartial) : Bool := p.src == h.src && p.seq == h.seq
  let old := ((s.mc.rx.find? same).map (·.segs)).getD []
  let all := segs.foldl (fun l x => if l.any (·.1 == x.1) || h.nseg ≤ x.1 then l else l ++ [x]) old
  let others := s.mc.rx.filter fun p => !same p
  let parts := (List.range h.nseg).filterMap fun k => (all.find? (·.1 == k)).map fun x => padTo 32 x.2
  let bitmap := packBits ((List.range 32).map fun k => all.any (·.1 == k))
  let s := if h.dst = 0xFFFF then s else oweAck h.src h.seq bitmap snr s
  if parts.length = h.nseg then mcUp h (parts.flatten.take h.len) (setMc (fun m => { m with rx := others }) s)
  else setMc (fun m => { m with rx := others ++ [⟨h.src, h.seq, h.nseg, h.len, h.prio, all, s.clk.now⟩] }) s

/-- MC_DATA_FRAME: a TYPE 1 frame, the segments of this round that arrived intact, and its mean SNR. -/
def execMcDataFrame (h : McHeader) (segs : List (Nat × List Byte)) (snr : Nat) (zcPol : Bool) (centre : Tick) (s : State) : Out :=
  received h.dst s fun s =>
    let s := heardFrame h.src zcPol centre s
    if h.dst ≠ ownShort s ∧ h.dst ≠ 0xFFFF then yieldWindows s
    else mcCollect h segs snr s

/-- The neighbour table with a beacon's sender: 64 entries, a new one reported (R456, R460). -/
def mcLearn (h : HelloBlock) (s : State) : State :=
  if s.mc.neighbours.any (·.moduleId == h.moduleId) then
    setMc (fun m => { m with neighbours := m.neighbours.map fun n =>
      if n.moduleId = h.moduleId then { n with short := h.short } else n }) s
  else if 64 ≤ s.mc.neighbours.length then s
  else
    let n : McNeighbour := ⟨h.moduleId, h.short, 3, false, [], none, 0, 0, 0, 0, 0, s.clk.epoch, s.clk.now, s.clk.now, 0, 0, false⟩
    mcEventOf 1 n (setMc (fun m => { m with neighbours := m.neighbours ++ [n] }) s)

/-- BEACON: a TYPE 5 frame with the fabric block of its sender (R456, R464). -/
def execBeacon (h : HelloBlock) (zcPol : Bool) (centre : Tick) (s : State) : Out :=
  whenever (mcRx s && h.moduleId != s.ident.moduleId) s fun s =>
    let s := heardBy (·.moduleId == h.moduleId) zcPol centre (mcLearn h s)
    if fabricRuns s && linkOn s 6 then takeHello 6 h s else s

/-- MC_NEIGHBOUR_LOST: 3 failed refreshes, or 3 × MC.TM_REFRESH without a frame (R456); the fabric loses the link to it (R461). -/
def execMcNeighbourLost (id : Nat) (s : State) : Out :=
  match s.mc.neighbours.zipIdx.find? (·.1.moduleId == id) with
  | none => .next s
  | some (n, k) =>
    whenever (mcRx s) s fun s =>
      let s := if 3 ≤ n.refreshFails then s else advanceTo (n.heardAt + Tick.s (3 * param s 0x0B02)) s
      let s := mcEventOf 2 n (diagTrigger 11 k (setMc (fun m => { m with
        neighbours := m.neighbours.filter (·.moduleId != id) }) s))
      if (neighbour s 6 id).isSome then dropNeighbour 6 id s else s

/-! Opcodes (R479). -/

/-- LIN_STATUS. -/
def execLinStatus (r : Req) (s : State) : Out :=
  brixo 0x0C00 r s fun s =>
    let l := s.lin
    let up := packBits ((List.range 7).map fun k => (liveNeighbours s).any (·.link == k))
    answer s stOk (le 2 (ownAddr s)
      ++ le 1 (packBits [l.parent.isNone, l.depthLimit, l.conflict, bulkPaused s, l.quarantine.isSome, l.shareInvalid])
      ++ le 1 l.depth ++ le 8 l.rootId ++ le 1 ((l.parent.map (·.1)).getD 0xFF) ++ le 1 up
      ++ le 2 (((parentN s).map (·.hello.short)).getD 0)
      ++ le 4 l.ttlDiscard ++ le 4 l.routeDiscard ++ le 4 l.noRoute ++ le 4 l.rxDropped ++ le 4 l.linkRetx)

/-- The shortest remaining lease among the borrowed tokens, ms (R479). -/
def nextExpiry (s : State) : Nat :=
  (s.lin.borrowings.filter (·.committed)).foldl (fun m b => min m ((b.leaseEnd - s.clk.now) / Tick.ms 1)) 0xFFFFFFFF

/-- LIN_TOKEN_STATUS. -/
def execLinTokenStatus (r : Req) (s : State) : Out :=
  brixo 0x0C01 r s fun s =>
    let away := countWhere (fun h => h.2 == .lent || h.2 == .inTransit) s.lin.home
    let left := match s.lin.quarantine with | some t => divCeil (t - s.clk.now) (Tick.s 1) | none => 0
    answer s stOk (le 2 (tokensHeld s) ++ le 2 away ++ le 2 (borrowedInUse s) ++ le 2 (spareTokens s) ++ le 2 (wantTokens s)
      ++ le 2 left ++ le 4 (tableId s) ++ le 4 (nextExpiry s))

/-- A next hop exists for an address other than the own one. -/
def routable (s : State) (dst : Nat) : Bool :=
  dst != ownAddr s && ((childOf s dst).isSome || (parentN s).isSome)

/-- LIN_FORWARD. -/
def execLinForward (r : Req) (dst : Nat) (packet : List Byte) (s : State) : Out :=
  brixo 0x0C02 r s fun s =>
    let p := packetOf packet
    if dst = 0 ∨ 0x1000 < dst ∨ 4108 < packet.length ∨ !datagramOk packet
        ∨ fieldAt packet (8 + p.len) 4 ≠ crc32c (crcHead packet ++ (packet.drop 8).take p.len) then refuse s stBadParam
    else if ownAddr s = 0 then refuse s stNotAddressed
    else if !routable s dst then refuse s stNoRoute
    else later (fabricSend 1 1 dst packet (setLin (fun l => { l with
      forwards := l.forwards ++ [⟨r, dst, p.chan, p.seq, s.clk.now + Tick.s 3⟩] }) s))

/-- LIN_FORWARD_TIMEOUT of the oldest forward. -/
def execLinForwardTimeout (s : State) : Out :=
  match s.lin.forwards with
  | [] => .next s
  | f :: rest =>
    whenever (serving s) s fun s =>
      replyTo (some f.req) 0x0C02 stNoReply [] (setLin (fun l => { l with forwards := rest }) (advanceTo f.deadline s))

end Sys2Proof.Machine
end

