-- ==== Sys2Proof/Machine/Hinge.lean ====
section
/-! DEFINITION. Hinge active and standby redundancy (21): claims and output stages, replication, takeover, resynchronisation, the proof
test and the opcodes. -/

namespace Sys2Proof.Machine

/-! Paths (R482, R483). -/

/-- A path was heard within the last 3 ms. -/
def heardLately (s : State) (t : Option Tick) : Bool :=
  match t with
  | some x => decide (s.clk.now < x + Tick.ms 3)
  | none => false

def linkUp (s : State) : Bool := heardLately s s.hng.linkHeard
def lineUp (s : State) : Bool := heardLately s s.hng.lineHeard

/-- Both paths are silent: PEER_LOST (R485). A STANDBY is not SYNCED without its peer. -/
def losePeer (s : State) : State :=
  if s.hng.peerLost then s
  else setSynced false (hngEvent 2 0 (setHng (fun h => { h with peerLost := true }) s))

/-- A path is heard again; an ISOLATED unit is so no longer (R485). -/
def findPeer (s : State) : State :=
  let was := s.hng.peerLost
  let s := setHng (fun h => { h with peerLost := false, isolated := false }) s
  if was then hngEvent 3 0 s else s

/-- A claim heard on a path. -/
def hearClaim (c : Nat) (s : State) : State :=
  let old := s.hng.claims.filter fun x => decide (s.clk.now < x.2 + Tick.ms 3)
  setHng (fun h => { h with peerClaim := c, claims := old ++ [(c, s.clk.now)] }) s

/-! Output stages (R483, R486). -/

/-- A coil may be driven closed at a takeover: everything that Shutter asks for closing but the conditions CP and MODE, and but
those that a contactor already closed fails by itself, its feedback and the voltage behind it (log entry 47). -/
def takeoverPermits (s : State) : Bool := closeBlock s &&& 0xF39 == 0

/-- The new ACTIVE unit's stages drive the values of the last replicated epoch (R486 step 2). -/
def driveReplica (s : State) : State :=
  let (km, out, duty) := s.hng.replCoils
  let ok := takeoverPermits s && km % 16 != 0
  let s := if ok then
      { setShu (fun x => { x with
          driveA1 := bitN km 0, driveB1 := bitN km 1, driveA2 := bitN km 2, driveB2 := bitN km 3
          pullInEnd := some (s.clk.now + Tick.ms (param s 0x060E)), kfbBy := some (s.clk.now + Tick.ms (param s 0x060D))
          weldAt := none }) s with nl := { s.nl with openSince := none, armed := false } }
    else s
  let s := setShu (fun x => { x with duty := duty, cpDrive := if duty = 0 then .steady else .pwm }) s
  let s := setLsw (fun x => { x with chans := x.chans.mapIdx fun n c => { c with demand := bitN out n } }) s
  resumeAll s

/-- The stages of the unit that gives up its role go to high impedance; what they drove stays with the peer (R486 step 3). -/
def releaseStages (s : State) : State :=
  let s := setShu (fun x => { x with
    driveA1 := false, driveA2 := false, driveB1 := false, driveB2 := false, pullInEnd := none, kfbBy := none
    weldAt := none, stop := none, requests := [], duty := 0, cpDrive := .steady }) s
  let s := setLsw (fun x => { x with chans := x.chans.map fun c => { switchOff c with demand := false, pulseEnd := none } }) s
  { s with recl := {} }

/-- An ACTIVE unit that hears a higher claim becomes STANDBY and is resynchronised (R483, R486). -/
def becomeStandby (s : State) : State :=
  let s := releaseStages s
  setHng (fun h => { h with
    role := .standby, wasActive := false, driving := false, yielding := false, synced := false, resync := true
    conflict := false, isolated := false, asked := 0, own := List.replicate 36 0, ownFrom := 320 * s.met.epoch
    replEpoch := s.hng.sentEpoch, peerEpoch := s.hng.sentEpoch }) s

/-- The rule of R483, judged at the end of a frame, a heartbeat or a silence. -/
def judgeClaims (s : State) : State :=
  if s.hng.role != .active then setHng (fun h => { h with driving := false, conflict := false }) s
  else
    let live := (s.hng.claims.filter fun x => decide (s.clk.now < x.2 + Tick.ms 3)).map (·.1)
    let own := ownClaim s
    if live.any (fun c => decide (own < c)) then becomeStandby s
    else if live.contains own then
      let was := s.hng.driving
      let s := setHng (fun h => { h with driving := false, conflict := true }) s
      if was then { releaseStages s with recl := s.recl } else s
    else
      let was := s.hng.driving
      let s := setHng (fun h => { h with driving := true, conflict := false }) s
      if was then s else driveReplica s

/-- PEER_CLAIM_FRAME (R482): whether the peer is present, the claim the line carries, and the peer's YIELD; a malformed frame is
silence. While both units are there, unit 0 starts the frames. -/
def execPeerClaimFrame (present : Bool) (claim : Nat) (yields ok : Bool) (s : State) : Out :=
  whenever (hingeOn s && s.dom.d4 && ok) s fun s =>
    let s := setHng (fun h => { h with
      yieldSeen := if present && yields then min 2 (h.yieldSeen + 1) else 0
      lineHeard := if present then some s.clk.now else h.lineHeard }) s
    let s := if present then findPeer (setHng (fun h => { h with starts := param s 0x0D01 == 0 }) s) else s
    judgeClaims (if claim != 0 && claim != ownClaim s then hearClaim claim s else s)

/-- PEER_CLAIM_SILENCE (R482): 3 ms without a frame; unit 1 starts them, and a peer on neither path is lost (R485). -/
def execPeerClaimSilence (s : State) : Out :=
  whenever (hingeOn s && s.dom.d4) s fun s =>
    let s := match s.hng.lineHeard with
      | some t => advanceTo (t + Tick.ms 3) s
      | none => s
    let s := setHng (fun h => { h with starts := true, yieldSeen := 0 }) s
    judgeClaims (if linkUp s then s else losePeer s)

/-- HINGE_HEARTBEAT (R484). A STANDBY asserts no claim: its 0 is none (R481). -/
def execHingeHeartbeat (peerId role claim : Nat) (syncs yields : Bool) (s : State) : Out :=
  whenever (hingeOn s && s.dom.d4) s fun s =>
    let s := setHng (fun h => { h with
      linkHeard := some s.clk.now, peerId := peerId, linkYield := yields }) s
    let s := findPeer s
    let s := judgeClaims (if role = 1 || claim != 0 then hearClaim claim s else s)
    if s.hng.role == .active then setSynced (syncs && role == 2 && decide (s.hng.sentEpoch ≤ s.hng.acked + 5)) s else s

/-- HINGE_ISOLATED (R485): an ACTIVE unit hears neither path for 1.0 s. -/
def execHingeIsolated (s : State) : Out :=
  whenever (hingeOn s && s.hng.role == .active && !s.hng.isolated) s fun s =>
    let last := max (s.hng.linkHeard.getD 0) (s.hng.lineHeard.getD 0)
    setHng (fun h => { h with isolated := true }) (losePeer (advanceTo (last + Tick.s 1) s))

/-! Replication (R484). -/

/-- Entries of a replicated ring at the same indices: a new one takes the place of the one with its index. -/
def sameIndex {α : Type} (key : α → Nat) (n : Nat) (old new : List α) : List α :=
  keepLast n (old.filter (fun x => !new.any fun y => key y == key x) ++ new)

/-- The number after the newest of some records. -/
def nextOf {α : Type} (key : α → Nat) (next : Nat) (l : List α) : Nat := l.foldl (fun m x => max m (key x + 1)) next

/-- Increments of the own unit from a main-path sample on, as far as its rings reach (R484). -/
def ownSince (a : Nat) (s : State) : List Nat :=
  let e := a / 320
  let gate := ((s.met.ring.find? (·.epoch == e)).map (·.gate)).getD 0
  let part := match s.led.waveRing.find? (·.1 == e) with
    | some w => incOf (epochParams s e) gate ((w.2.drop (a % 320)).map Sample.energies)
    | none => List.replicate 12 0
  let hw := (s.met.incs.filter fun i => decide (e < i.epoch)).foldl (fun t i => addN t i.inc) part
  let kiln := (s.met.kilnLog.filter fun k => decide (a ≤ 320 * k.epoch)).foldl (fun t k => addN t k.inc) (List.replicate 24 0)
  addKiln (addHw (List.replicate 36 0) hw) kiln

/-- The own main-path sample at an instant of the own timebase: the first at or after it. -/
def sampleAt (s : State) (t : Tick) : Nat :=
  (320 * s.clk.epoch * Tick.sample + t - s.clk.epochStart + (Tick.sample - 1)) / Tick.sample

/-- A message enters the replica, and OWN starts again at the sample that maps to its end. -/
def applyMsg (m : HingeMsg) (s : State) : State :=
  let j := m.entry
  let s := { s with led := { pushJournal j s.led with
    events := sameIndex (·.index) 4096 s.led.events m.events, nextEvent := nextOf (·.index) s.led.nextEvent m.events
    resets := sameIndex (·.seq) 256 s.led.resets m.resets, nextRst := nextOf (·.seq) s.led.nextRst m.resets
    readings := sameIndex (·.no) 256 s.led.readings m.readings
    nextReading := nextOf (·.no) s.led.nextReading m.readings
    rstSinceCkpt := s.led.rstSinceCkpt + m.resets.length } }
  let s := setMet (fun x =>
    let f := addHw x.fine j.incHw
    { x with
      fine := capFine (if 0 < j.kSpan then addKiln f j.incKiln else f)
      kEpoch := if 0 < j.kSpan then j.kEpoch else x.kEpoch
      base := m.resets.foldl (fun b r => List.zipWith (fun v d => v + d * 2 ^ 65) b r.delta) x.base }) s
  let s := match m.ledger with | some l => lsWrite (setBil (putLedger l) s) | none => s
  let s := setBil (fun b =>
    { b with
      profile := sameIndex (·.no) 38400 b.profile m.profile, nextRec := nextOf (·.no) b.nextRec m.profile
      fineRecs := sameIndex (·.no) 50400 b.fineRecs m.fineRecs, nextFine := nextOf (·.no) b.nextFine m.fineRecs
      statements := sameIndex (·.no) 20000 b.statements m.statements
      nextStmt := nextOf (·.no) b.nextStmt m.statements }) s
  let a := sampleAt s m.endsAt
  let s := setVeh (fun x => { x with sessionId := m.sessionId }) s
  let s := setHng (fun h => { h with
    replEpoch := j.epoch, peerEpoch := j.epoch, ownFrom := a, own := ownSince a s
    replCoils := (j.state.km, j.state.out, if 128 ≤ j.state.cp then j.state.cpDuty else 0) }) s
  dueCkpt j.epoch j.bal s

/-- SYNCED at the STANDBY: within 5 epochs, not resynchronising, and no latch of its Shutter (R484, R489). -/
def standbySynced (s : State) : Bool :=
  !s.hng.resync && !s.hng.peerLost && decide (s.hng.peerEpoch ≤ s.hng.replEpoch + 5) && s.shu.latches == 0
    && !s.hng.switchShort

/-- HINGE_EPOCH_MESSAGE (R484): a message that does not follow the last one calls for resynchronisation; a MERGED entry covers the
epochs before it (R175). -/
def execHingeEpochMessage (m : HingeMsg) (s : State) : Out :=
  whenever (hingeOn s && isStandby s && s.dom.d2 && !inHoldup s) s fun s =>
    let e := m.entry.epoch
    if s.hng.resync || e ≤ s.hng.replEpoch then setHng (fun h => { h with peerEpoch := max h.peerEpoch e }) s
    else if e = s.hng.replEpoch + 1 || bitN m.entry.flags 9 then
      let s := applyMsg m s
      setSynced (standbySynced s) s
    else setSynced false (setHng (fun h => { h with resync := true, peerEpoch := e }) s)

/-- HINGE_EPOCH_ACK at the ACTIVE unit (R484). -/
def execHingeEpochAck (e : Nat) (s : State) : Out :=
  whenever (hingeOn s && s.hng.role == .active && decide (e ≤ s.hng.sentEpoch)) s fun s =>
    setHng (fun h => if h.acked < e then { h with replEpoch := e, acked := e } else h) s

/-! Takeover (R485–R487). -/

/-- The trigger seen by a STANDBY: 1 YIELD, 2 switch, 3 force; the first two ask for SYNCED (R485). -/
def takeoverTrigger (s : State) : Option Nat :=
  if s.hng.asked = 3 then some 3
  else if !s.hng.synced then none
  else if 2 ≤ s.hng.yieldSeen || (linkUp s && s.hng.linkYield) then some 1
  else if s.hng.asked = 2 then some 2
  else none

/-- The ledger continues: OWN enters the next KIND 1 entry over the totals of the last replicated epoch R (R487), and Kiln
attributes it as one epoch. -/
def continueLedger (s : State) : State :=
  let e := s.met.epoch
  let hw := hwRegs.map fun r => (s.hng.own[r]?).getD 0
  let kiln := (s.hng.own.drop 8).take 24
  let bal := ((s.led.journal.getLast?).map (·.bal)).getD [0, 0, 0]
  let (i, s) := takeFree s
  let flags := (((s.met.incs.filter fun x => decide (s.hng.ownFrom < 320 * (x.epoch + 1))).map (·.flags)).foldl (· ||| ·) 0)
  let c1 := s.bil.civil - 2048000 * ((s.clk.epoch : Int) - e)
  let one : EpochInc := ⟨e - 1, hw, none, hw, addHw s.met.fine hw, flags, c1 - 2048000, c1, s.mode.mode.code, s.bil.timeUnset⟩
  let s := setMet (fun m => { m with
    incHw := hw, kilnSets := [⟨m.kDone, kiln, bal⟩], kilnLog := []
    bal := bal ++ [toI 16 (Config.freeNat i)], incs := [one] }) s
  let s := setBil (fun b => { b with through := e - 2, boundary := none, fineAt := s.met.fine }) s
  setLed (fun l => { l with
    hingeSwitched := true, writing := none, merged := l.merged || l.writing.isSome
    captured := l.captured.filter fun c => decide (e ≤ c.epoch) }) s

/-- HINGE_TAKEOVER: the claim is raised and durable, the ledger continues, and the entry names both units; the stages drive once a
frame has been judged (R481, R486, R487, R493). -/
def execHingeTakeover (s : State) : Out :=
  match takeoverTrigger s with
  | none => .next s
  | some trig =>
    whenever (hingeOn s && isStandby s && s.dom.d1 && !inHoldup s) s fun s =>
      let r := s.hng.replEpoch
      let peer := s.hng.peerId
      let s := lsWrite (continueLedger s)
      let s := setHng (fun h => { h with
        count := max h.count (h.peerClaim / 2) + 1, role := .active, wasActive := true, synced := false, asked := 0
        yieldSeen := 0, linkYield := false, sentEpoch := s.met.epoch - 1, acked := 0, marks := marksNow s, own := List.replicate 36 0, conflict := false, resync := false
        isolated := false }) s
      let s := raise 0x0D01 (le 8 peer ++ le 8 r ++ le 8 s.met.epoch ++ le 4 (unitClaim s) ++ le 1 trig ++ zeros 3) s
      hngEvent 1 trig s

/-- YIELD_WITHDRAW (R486): no higher claim within 200 ms. -/
def execYieldWithdraw (s : State) : Out :=
  whenever s.hng.yielding s fun s =>
    setHng (fun h => { h with yielding := false }) (advanceTo (s.hng.yieldSince + Tick.ms 200) s)

/-! Starts and resynchronisation (R489). -/

/-- The count of the pair, once the peer's claim has been heard (R489). -/
def adoptedCount (h : Hinge) : Nat := if h.peerClaim = 0 then h.count else h.peerClaim / 2

/-- HINGE_ROLE_RESUME, 1.0 s after the start: the unit that was ACTIVE resumes unless it hears a higher claim; the other is STANDBY,
and its count adopts the peer's. -/
def execHingeRoleResume (s : State) : Out :=
  whenever (hingeOn s && s.hng.role == .none && s.dom.d2 && !inHoldup s) s fun s =>
    let s := advanceTo (s.mode.startAt + Tick.s 1) s
    let heard := linkUp s || lineUp s
    if s.hng.wasActive && !(heard && decide (unitClaim s < s.hng.peerClaim)) then
      judgeClaims (setHng (fun h => { h with role := .active, sentEpoch := s.met.epoch - 1, acked := 0, marks := marksNow s }) s)
    else
      let last := ((s.led.journal.getLast?).map (·.epoch)).getD 0
      let s := setHng (fun h => { h with
        role := .standby, wasActive := false, resync := true, count := adoptedCount h, replEpoch := last
        ownFrom := 320 * s.met.epoch, own := List.replicate 36 0 }) s
      if heard then s else losePeer s

/-- The blocks that differed are copied: the whole replica is the peer's (R489). -/
def putImage (x : HingeImage) (s : State) : State :=
  let s := setMet (fun m => { m with fine := x.fine, base := x.base, kEpoch := x.kEpoch }) s
  let l := x.led
  let s := setLed (fun o => { o with
    journal := l.journal, journalNext := l.journalNext, resets := l.resets, nextRst := l.nextRst, events := l.events, nextEvent := l.nextEvent
    readings := l.readings, nextReading := l.nextReading, ckptA := l.ckptA, ckptB := l.ckptB, lsA := l.lsA, lsB := l.lsB }) s
  setBil (fun b => { putLedger x.bil b with profile := x.bil.profile, fineRecs := x.bil.fineRecs, statements := x.bil.statements }) s

/-- HINGE_RESYNC completes (R489): every record after the last acknowledged epoch, and the blocks that differed. -/
def execHingeResync (msgs : List HingeMsg) (image : Option HingeImage) (blocks : Nat) (s : State) : Out :=
  whenever (hingeOn s && isStandby s && s.hng.resync && s.dom.d2 && !inHoldup s) s fun s =>
    let s := match image with | some x => putImage x s | none => s
    let s := msgs.foldl (fun t m => applyMsg m t) s
    let first := ((msgs.head?).map (·.entry.epoch)).getD s.hng.replEpoch
    let s := setHng (fun h => { h with resync := false, peerEpoch := h.replEpoch, peerLost := false, count := adoptedCount h }) s
    let s := raise 0x0D02 (le 8 first ++ le 8 s.hng.replEpoch ++ le 4 blocks) s
    setSynced (standbySynced s) s

/-! Proof test (R490). -/

/-- The daily proof test is due: its local minute, once a day (R490). -/
def proofDue (s : State) : Bool :=
  let x := localOf s.bil (civilSec (civilNow s))
  x % 86400 / 60 == param s 0x0D02 && s.hng.proofDay != some (x / 86400)

/-- A pad of a non-driving stage found at the driven level while the ACTIVE unit drives it off is seen continuously (R490). -/
def stageShort (shorted : Bool) (s : State) : State :=
  let s := setHng (fun h => { h with switchShort := shorted }) s
  if isStandby s && shorted then setSynced false s else s

/-- The results of the proof test on this unit, with METER_TOL in 0.01 % and the difference in 0.001 % (R490, R492). -/
def proofResults (linkOk claimOk : Bool) (diff : Int) (replicaOk crossOk rcmOk shorted : Bool) (s : State) : State :=
  let bad := decide (10 * param s 0x0D03 < diff.natAbs)
  let s := setHng (fun h => { h with
    pathFault := !(linkOk && claimOk), meterDiff := diff, meterDiffFlag := bad
    proofDay := some (localOf s.bil (civilSec (civilNow s)) / 86400), proofAsked := false }) s
  let s := if isStandby s then
      let s := if crossOk then s else tripPlain lChannel 3 s
      let s := if rcmOk then s else tripPlain lRcmSensor 3 s
      let s := if replicaOk then s else setHng (fun h => { h with resync := true }) s
      if standbySynced s then s else setSynced false s
    else s
  if linkOk && claimOk && !bad && replicaOk && crossOk && rcmOk && !shorted then
    hngEvent 6 0 (setHng (fun h => { h with proofEpoch := s.clk.epoch }) s)
  else hngEvent 7 0 s

/-- HINGE_PROOF_TEST: the results of its items — Hinge link, arbitration, difference of the totals in 0.001 %, replica, channel
cross-check and residual self-test, stage shorts. The last acts at any time, the others when the test is due or asked for. -/
def execHingeProofTest (linkOk claimOk : Bool) (diff : Int) (replicaOk crossOk rcmOk shorted : Bool) (s : State) : Out :=
  whenever (hingeOn s && s.hng.role != .none && s.dom.d3 && !inHoldup s) s fun s =>
    let s := stageShort shorted s
    if s.hng.proofAsked || proofDue s then proofResults linkOk claimOk diff replicaOk crossOk rcmOk shorted s else s

/-! Opcodes (R494, R495). -/

/-- The fields of HNG_STATUS (R495). -/
def hngBody (s : State) : List Byte :=
  let h := s.hng
  le 1 h.role.code
    ++ le 1 (packBits [h.synced, h.peerLost, h.isolated, h.conflict, h.resync, h.pathFault, h.switchShort, h.meterDiffFlag])
    ++ le 1 (packBits [linkUp s, lineUp s]) ++ zeros 1 ++ le 4 (unitClaim s) ++ le 4 h.peerClaim ++ le 8 h.peerId
    ++ le 8 h.replEpoch ++ le 8 h.proofEpoch ++ leI 4 h.meterDiff

/-- HNG_STATUS. -/
def execHngStatus (r : Req) (s : State) : Out := brixo 0x0D00 r s fun s => answer s stOk (hngBody (asOf s))

/-- HNG_SWITCH: sent to either unit; the ACTIVE unit passes it over the link. -/
def execHngSwitch (r : Req) (s : State) : Out :=
  brixo 0x0D01 r s fun s =>
    if !hingeOn s || s.hng.role == .none || inHoldup s then refuse s stWrongMode
    else if !s.hng.synced then refuse s stPeerNotSynced
    else answer (setHng (fun h => { h with asked := 2 }) s) stOk

/-- HNG_FORCE; `driven`: a shared KM, OUT or CP pad was driven within the last second. -/
def execHngForce (r : Req) (driven : Bool) (s : State) : Out :=
  brixo 0x0D02 r s fun s =>
    let last := max (s.hng.linkHeard.getD 0) (s.hng.lineHeard.getD 0)
    if !hingeOn s || !isStandby s || s.clk.now < last + Tick.s 1 then refuse s stPeerPresent
    else if driven then refuse s stNodeDriven
    else answer (setHng (fun h => { h with asked := 3 }) s) stOk

/-- HNG_PROOF_RUN. -/
def execHngProofRun (r : Req) (s : State) : Out :=
  brixo 0x0D03 r s fun s =>
    if !hingeOn s || !s.hng.synced then refuse s stPeerNotSynced
    else answer (setHng (fun h => { h with proofAsked := true }) s) stOk

end Sys2Proof.Machine
end

