-- ==== Sys2Proof/Machine/Hspi.lean ====
section
/-! DEFINITION. The host SPI target (11): the framing of a transaction, and the register and bulk windows it reaches (R269, R271). -/

namespace Sys2Proof.Machine

/-- A command of R269: its operation, the lanes of its data phase, and the dummy clocks before the data. -/
structure SpiCmd where
  write : Bool
  lanes : Nat
  dummy : Nat
  deriving DecidableEq, Repr

/-- The commands of R269. -/
def spiCmd : Nat → Option SpiCmd
  | 0x02 => some ⟨true, 1, 0⟩
  | 0x0B => some ⟨false, 1, 8⟩
  | 0x32 => some ⟨true, 4, 0⟩
  | 0x6B => some ⟨false, 4, 8⟩
  | 0x38 => some ⟨true, 4, 0⟩
  | 0xEB => some ⟨false, 4, 6⟩
  | _ => none

/-- The next state of a command; a stop changes nothing. -/
def after (o : Out) (s : State) : State :=
  match o with
  | .next t => t
  | _ => s

/-- A channel register as read (R273). A word read from a queue port or the ACK FIFO leaves it; what a write-only register reads
as is open (log entry 83). -/
def chanRead (c o : Nat) (s : State) : Nat × State :=
  let ch := chanOf s c
  match o with
  | 0x04 => (16 - inWords ch, s)
  | 0x08 => let t := after (execH2mAckRead c s) s; (t.hatch.readWord, t)
  | 0x0C => (ch.acks.length * 256 + b2n (!ch.part.isEmpty) * 2 + b2n ch.overflow, s)
  | 0x10 => let t := after (execM2hDataRead c s) s; (t.hatch.readWord, t)
  | 0x14 => (outWords ch + ((ch.outbox.head?).map (·.words.length)).getD 0 * 256, s)
  | 0x1C => (b2n ch.underflow * 2 + b2n ch.await.isSome, s)
  | _ => let x := takeFree s; (Config.freeNat x.1 % 2 ^ 32, x.2)

/-- A register of a host DMA channel as read (R297, R298). -/
def dmaRead (c o : Nat) (s : State) : Nat :=
  let d := dmaChan s c
  match o with
  | 0x00 => b2n d.enable + d.prio * 16
  | 0x04 => dstat d
  | 0x08 => d.dsel
  | 0x0C => 0
  | _ => dw ((d.ring[d.dsel]?).getD []) ((o - 0x10) / 4)

/-- A Wedge register as read: one that is not writable in the present mode reads 0 (R259). -/
def wedgeRead (n : Nat) (s : State) : Nat :=
  if wedgeWritable s.mode.mode .hostSpi n then (s.kiln.wedge[n]?).getD 0 else 0

/-- A word of the register window (R271): from D3 reset until READY only ID and HATCH_GSTAT answer. -/
def regRead (a : Nat) (s : State) : Nat × State :=
  if a = 0x0000 then (0x4A434144, s)
  else if a = 0x0004 then (gstat s, s)
  else if !serving s then (0, s)
  else if a = 0x0008 then (irqStatus s, s)
  else if a = 0x000C then (s.hatch.irqMask, s)
  else if 0x0100 ≤ a && a < 0x0200 then chanRead ((a - 0x0100) / 0x20) (a % 0x20) s
  else if 0x0200 ≤ a && a < 0x0280 then
    let t := after (execSemaphoreRead ((a - 0x0200) / 4) 0x10 s) s
    (t.kiln.semRead, t)
  else if a = 0x0280 then (semState s, s)
  else if 0x0400 ≤ a && a < 0x0500 then (dmaRead ((a - 0x0400) / 0x40) (a % 0x40) s, s)
  else if 0x0800 ≤ a && a < 0x081C then (wedgeRead ((a - 0x0800) / 4) s, s)
  else (0, s)

/-- A channel register written (R273). -/
def chanWrite (c o w : Nat) (s : State) : State :=
  match o with
  | 0x00 => after (execH2mDataWrite c w s) s
  | 0x0C =>
    let s := if bitN w 2 then after (execH2mFlush c s) s else s
    if bitN w 0 then after (execH2mOverflowClear c s) s else s
  | 0x18 => after (execM2hAckWrite c w s) s
  | 0x1C => if bitN w 1 then after (execM2hUnderflowClear c s) s else s
  | _ => s

/-- A register of a host DMA channel written (R297, R298). -/
def dmaWrite (c o w : Nat) (s : State) : State :=
  match o with
  | 0x00 => after (execDctrlWrite c w s) s
  | 0x04 => after (execDstatClear c w s) s
  | 0x08 => after (execRegisterWrite (0x0400 + 0x40 * c + o) w s) s
  | 0x0C => s
  | 0x10 => after (execDescriptorCommit c w s) s
  | _ => after (execDescriptorStagingWrite c ((o - 0x10) / 4) w s) s

/-- A word written to the register window (R271). -/
def regWrite (a w : Nat) (s : State) : State :=
  if !serving s then s
  else if a = 0x0008 then after (execIrqStatusClear w s) s
  else if a = 0x000C then after (execRegisterWrite a w s) s
  else if 0x0100 ≤ a && a < 0x0200 then chanWrite ((a - 0x0100) / 0x20) (a % 0x20) w s
  else if 0x0200 ≤ a && a < 0x0280 then after (execSemaphoreRelease ((a - 0x0200) / 4) 0x10 w s) s
  else if 0x0400 ≤ a && a < 0x0500 then dmaWrite ((a - 0x0400) / 0x40) (a % 0x40) w s
  else if 0x0800 ≤ a && a < 0x081C then after (execWedgeRegisterWrite ((a - 0x0800) / 4) w .hostSpi s) s
  else s

/-- A queue port, at which a burst stays (R271). -/
def isPort (a : Nat) : Bool := decide (0x0100 ≤ a) && decide (a < 0x0200) && (a % 0x20 == 0x00 || a % 0x20 == 0x10)

/-- The address after a word of a burst (R271). -/
def nextWord (a : Nat) : Nat := if isPort a then a else a + 4

/-- The register window; above it lies the bulk window, in bytes. -/
def inRegs (a : Nat) : Bool := decide (a < 0x10000)

def spiBulkRead (a : Nat) (s : State) : Byte :=
  if serving s && decide (a < 0x20000) then viewRead s (bulkBase + (a - 0x10000)) else 0

/-- Bytes read from an address on: a word of which a part is clocked out counts as read (R254, R271). -/
def spiRead : Nat → Nat → Nat → State → List Byte × State
  | 0, _, _, s => ([], s)
  | fuel + 1, a, n, s =>
    if n = 0 then ([], s)
    else if inRegs a then
      let x := regRead a s
      let r := spiRead fuel (nextWord a) (n - 4) x.2
      ((le 4 x.1).take n ++ r.1, r.2)
    else
      let r := spiRead fuel (a + 1) (n - 1) s
      (spiBulkRead a s :: r.1, r.2)

/-- Bytes written from an address on; a word not clocked in whole is not written. -/
def spiWrite : Nat → Nat → List Byte → State → State
  | 0, _, _, s => s
  | fuel + 1, a, bs, s =>
    if inRegs a then
      if bs.length < 4 then s else spiWrite fuel (nextWord a) (bs.drop 4) (regWrite a (fieldAt bs 0 4) s)
    else match bs with
      | [] => s
      | b :: rest => spiWrite fuel (a + 1) rest (after (execRegisterWrite a b.toNat s) s)

/-- A transaction from its first byte to HSPI_CS high (R269): the bytes the host drives, command byte and 3-byte address first,
and the clocks after the address. Any other command byte is ignored until HSPI_CS rises. A register address that is not
word-aligned reaches no register (log entry 83). -/
def spiTransaction (wire : List Byte) (clocks : Nat) (s : State) : State :=
  match wire with
  | c :: a2 :: a1 :: a0 :: data =>
    let a := a2.toNat * 65536 + a1.toNat * 256 + a0.toNat
    match spiCmd c.toNat with
    | none => s
    | some m =>
      if inRegs a && a % 4 != 0 then s
      else if m.write then spiWrite data.length a data s
      else
        let n := (clocks - m.dummy) * m.lanes / 8
        let r := spiRead n a n s
        setHatch (fun h => { h with spiOut := r.1 }) r.2
  | _ => s

/-- HSPI_CS_FALLING: the wake source of R33, the end of WAKE_OUT (R526), and the SPI transaction that it starts (R269). -/
def execHspiCsFalling (wire : List Byte) (clocks : Nat) (s : State) : Out :=
  whenever s.pwr.rails s fun s => spiTransaction wire clocks (lowerWakeOut (wakeSeen 2 s))

end Sys2Proof.Machine
end

