-- ==== Sys2Proof/Machine/Recorder.lean ====
section
/-! DEFINITION. The opcodes and clocks of the diagnostic event recorder (24), and the RS-485 port and supply pads (25). -/

namespace Sys2Proof.Machine

/-! Recorder (R534–R541). -/

/-- DIAG_TOKEN_REFILL of the code with index n (R535). -/
def execDiagTokenRefill (n : Nat) (s : State) : Out :=
  match s.diag.buckets[n]? with
  | none => .next s
  | some b => match b.since with
    | none => .next s
    | some t => whenever s.dom.d3 s fun s =>
      let s := advanceTo (t + divCeil ((b.given + 1) * Tick.s 60) (max 1 (param s 0x0F01))) s
      setBucket n (refill s b) s

/-- DIAG_STATUS. -/
def execDiagStatus (r : Req) (s : State) : Out :=
  brixo 0x0F00 r s fun s =>
    let d := s.diag
    answer s stOk (le 2 d.ring.length ++ le 1 (b2n d.freeze.isSome) ++ le 1 ((d.freeze.map (·.1.code)).getD 0xFF)
      ++ le 2 d.lost ++ zeros 2 ++ d.buckets.flatMap fun b => le 2 b.supp)

/-- DIAG_READ: at most 3 records through LETTERBOX. -/
def execDiagRead (r : Req) (first most : Nat) (s : State) : Out :=
  brixo 0x0F01 r s fun s =>
    if most = 0 ∨ 63 < most then refuse s stBadParam
    else
      let es := (s.diag.ring.drop first).take (if r.sender = .letterbox then min 3 most else most)
      answer s stOk (le 2 first ++ le 1 es.length ++ le 1 (b2n s.diag.freeze.isSome) ++ le 2 s.diag.ring.length ++ zeros 2
        ++ es.flatMap diagBytes)

/-- HELD and TIME_LEFT of a freeze reply. -/
def freezeBody (s : State) : List Byte :=
  let left := match s.diag.freeze with
    | some f => divCeil (f.2 + Tick.s (param s 0x0F03) - s.clk.now) (Tick.s 1)
    | none => 0
  le 2 s.diag.ring.length ++ le 2 left

/-- DIAG_FREEZE (R536): one sender holds the freeze. -/
def execDiagFreeze (r : Req) (action : Nat) (s : State) : Out :=
  brixo 0x0F02 r s fun s =>
    if 1 < action then refuse s stBadParam
    else match s.diag.freeze with
      | none =>
        let s := if action = 1 && !inHoldup s then
            { s with diag := { s.diag with freeze := some (r.sender, s.clk.now) } }
          else s
        answer s stOk (freezeBody s)
      | some f =>
        if f.1 != r.sender then refuse s stBusy
        else
          let s := if action = 0 then endFreeze s else s
          answer s stOk (freezeBody s)

/-- DIAG_CLEAR (R537): the freeze ends, the ring empties, and one RECORDER_CLEARED is written outside any bucket. -/
def execDiagClear (r : Req) (s : State) : Out :=
  brixo 0x0F03 r s fun s =>
    if inHoldup s then refuse s stWrongMode
    else
      let s := endFreeze s
      let n := s.diag.ring.length
      let s := { s with diag := { s.diag with
        ring := [], lost := 0, buckets := List.replicate 18 { tokens := param s 0x0F02 } } }
      let s := diagWrite (diagRecord s 0x0F80 r.sender.code 0) s
      answer s stOk (le 2 n)

/-- FREEZE_TIMEOUT (R536). -/
def execFreezeTimeout (s : State) : Out :=
  match s.diag.freeze with
  | none => .next s
  | some f => whenever s.dom.d3 s fun s => endFreeze (advanceTo (f.2 + Tick.s (param s 0x0F03)) s)

/-! The RS-485 port (R557–R559). -/

def setRs (f : Rs485 → Rs485) (s : State) : State := { s with rs := f s.rs }

/-- The port runs. -/
def portRuns (s : State) : Bool :=
  serving s && param s 0x010C != 0
    && (s.mode.mode == .factory || s.mode.mode == .commission || s.mode.mode == .service || s.mode.mode == .recovery)

/-- Bits of a character: start, 8 data, parity, one or two stop bits. -/
def charBits (s : State) : Nat :=
  let f := param s 0x010D
  10 + (if f % 4 = 0 then 0 else 1) + (if bitN f 2 then 1 else 0)

/-- t_end: 3.5 character times below 19 200 bit/s, 1.75 ms at or above it. -/
def tEnd (s : State) : Tick :=
  let b := param s 0x010C
  if b < 19200 then divCeil (7 * charBits s * Tick.s 1) (2 * max 1 b) else 358400

/-- RS485_BYTE_RECEIVED: a frame longer than 256 bytes is cut. -/
def execRs485ByteReceived (byte : Nat) (parity framing : Bool) (s : State) : Out :=
  whenever (portRuns s && !s.rs.driver) s (setRs fun r =>
    if 256 ≤ r.rx.length then { r with flags := r.flags ||| 4, last := some s.clk.now }
    else { r with
      rx := r.rx ++ [BitVec.ofNat 8 byte], flags := r.flags ||| packBits [parity, framing], last := some s.clk.now })

/-- RS485_FRAME_END: the line has been idle for t_end; the frame goes to the host, and a waiting send turns its driver on. -/
def execRs485FrameEnd (s : State) : Out :=
  match s.rs.last with
  | none => .next s
  | some t =>
    whenever (portRuns s) s fun s =>
      let s := advanceTo (t + tEnd s) s
      let r := s.rs
      let s := setRs (fun x => { x with rx := [], flags := 0, last := none, driver := x.send.isSome, driverAt := s.clk.now }) s
      if r.rx.isEmpty then s else
      notify 2 0x0168 (le 2 r.rx.length ++ le 1 r.flags ++ zeros 1 ++ r.rx) s

/-- SYS_RS485_SEND. -/
def execSysRs485Send (r : Req) (len : Nat) (data : List Byte) (s : State) : Out :=
  brixo 0x0160 r s fun s =>
    if len = 0 ∨ 256 < len then refuse s stBadParam
    else if !portRuns s then refuse s stPortStopped
    else if s.rs.send.isSome then refuse s stBusy
    else if data.length != len then refuse s stBadLength
    else later (setRs (fun x => { x with send := some (r, data), driver := x.last.isNone, driverAt := s.clk.now }) s)

/-- RS485_SEND_COMPLETE: one bit time after the last stop bit the driver is off and the reply leaves; the next send waits until the
line has been idle for t_end again. -/
def execRs485SendComplete (s : State) : Out :=
  match s.rs.send with
  | none => .next s
  | some x =>
    whenever (portRuns s && s.rs.driver) s fun s =>
      let s := advanceTo (s.rs.driverAt + divCeil ((x.2.length * charBits s + 2) * Tick.s 1) (max 1 (param s 0x010C))) s
      replyTo (some x.1) 0x0160 stOk (le 2 x.2.length ++ zeros 2)
        (setRs (fun y => { y with send := none, driver := false, last := some s.clk.now }) s)

/-! Supply pads (R546, R547). -/

/-- V12_OUT_OVERLOAD: 5 ms in the 2.4 A limit. -/
def execV12OutOverload (s : State) : Out :=
  whenever s.pwr.v12Out s fun s =>
    { s with pwr := { s.pwr with v12Out := false, v12Tripped := some s.clk.now } }

/-- V12_OUT_RESTART: 1.0 s later. -/
def execV12OutRestart (s : State) : Out :=
  match s.pwr.v12Tripped with
  | none => .next s
  | some t => whenever s.pwr.rails s fun s =>
    let s := advanceTo (t + Tick.s 1) s
    { s with pwr := { s.pwr with v12Out := true, v12Tripped := none } }

/-- VBAT_APPLIED: with the rails absent the RTC starts, alone, without a time. -/
def execVbatApplied (s : State) : Out :=
  whenever (!s.pwr.vbat) s fun s =>
    let s := { s with pwr := { s.pwr with vbat := true } }
    if s.pwr.rails then s
    else { s with
      dom := { s.dom with d0 := true }
      nl := { s.nl with rtc := 0, rtcAt := s.clk.now, rtcValid := false } }

end Sys2Proof.Machine
end

