-- ==== Sys2Proof/Machine/Params.lean ====
section
/-! DEFINITION. PARAM_GET, PARAM_SET and the taking effect of parameters (R284–R286), with the value rules, running blocks and
side effects that the chapters give their parameters. -/

namespace Sys2Proof.Machine

/-! Values (R286). -/

/-- Signed types. -/
def PType.isSigned : PType → Bool
  | .i8 | .i16 | .i32 | .i64 => true
  | _ => false

/-- The value that little-endian bytes spell in a type; a byte array is held as its little-endian number. -/
def PType.read (t : PType) (b : List Byte) : Int :=
  if t.isSigned then toI t.size (ofLe b) else ofLe b

def PType.write (t : PType) (v : Int) : List Byte := leI t.size v

/-- The value last accepted: the pending one, else the value in force. -/
def newestI (s : State) (id : Nat) : Int :=
  match (paramCell s id).bind (·.pending) with
  | some (v, _) => v
  | none => paramI s id

def newest (s : State) (id : Nat) : Nat := (newestI s id).toNat

/-! The rules of the chapters beyond a plain range (R285 step 8). -/

/-- Each of `n` 2-bit fields is at most 2. -/
def pairsOk (n v : Nat) : Bool := (List.range n).all fun i => decide (chan2 v i ≤ 2)

/-- A (SOURCE, SCALE) pair of R217; SCALE is bounded for register sources only. -/
def sourceOk (source scale : Nat) : Bool :=
  (decide (source ≤ 0x23) && decide (scale ≤ 6)) || (decide (0x40 ≤ source) && decide (source ≤ 0x42))
    || (decide (0x48 ≤ source) && decide (source ≤ 0x4B)) || source == 0x50 || source == 0xFF

def sourcesOk (n v : Nat) : Bool :=
  (List.range n).all fun i => sourceOk (v / 65536 ^ i % 256) (v / 65536 ^ i / 256 % 256)

/-- 0, or a divisor of a day's minutes. -/
def periodOk (v : Nat) : Bool := v == 0 || 1440 % v == 0

def minutesOk (v : Nat) : Bool := [1, 5, 10, 15, 30, 60].contains v

/-- A Transom rectangle inside the panel that holds its text (R438): X and W are multiples of 8. -/
def rectOk (s : State) (v : Nat) : Bool :=
  let f (i : Nat) : Nat := v / 65536 ^ i % 65536
  f 0 % 8 == 0 && f 2 % 8 == 0 && decide (256 ≤ f 2) && decide (48 ≤ f 3) && decide (f 0 + f 2 ≤ newest s 0x0A00)
    && decide (f 1 + f 3 ≤ newest s 0x0A01)

/-- A Nightlatch rule (R525, R528); TIME matters only to a rule that is on. -/
def ruleOk (v : Nat) : Bool :=
  let f (off n : Nat) : Nat := v / 256 ^ off % 256 ^ n
  decide (f 1 1 ≤ 2) && decide (f 4 2 ≤ f 2 2) && (f 1 1 == 0 || (decide (1 ≤ f 6 2) && decide (f 6 2 ≤ 600)
    && decide (f 0 1 ≤ 23)))

/-- The rule of the parameter's chapter on a value already in its range. -/
def ruleHolds (s : State) (id : Nat) (i : Int) : Bool :=
  let v := i.toNat
  let td := enabled s.ident.variant .td
  match id with
  | 0x010C => v == 0 || decide (1200 ≤ v)
  | 0x010D => decide (v % 4 ≤ 2)
  | 0x0202 => decide (20 * newest s 0x0203 ≤ v)
  | 0x0203 => decide (20 * v ≤ newest s 0x0202)
  | 0x0240 => pairsOk 4 v && (List.range 3).all fun c => chan2 v c != 2
  | 0x0245 => pairsOk 4 v
  | 0x0266 => v == 50 || v == 60
  | 0x02A5 => v != 3 && v != 4
  | 0x0302 | 0x0903 => periodOk v
  | 0x0400 => v == 0 || td
  | 0x0401 | 0x0403 => minutesOk v
  | 0x0402 => newest s 0x0401 % v == 0
  | 0x0404 => sourcesOk 16 v
  | 0x0405 => sourcesOk 4 v
  | 0x0603 => v == 1 || td
  | 0x0700 => pairsOk 8 v
  | 0x0800 => pairsOk 6 v
  | 0x0A00 => v % 8 == 0
  | 0x0A05 => rectOk s v
  | 0x0E00 => decide (v ≤ 63) || v == 0xFF
  | 0x1000 => pairsOk 6 v
  | 0x1002 => (List.range 6).all fun n => !bitN v n || chan2 (newest s 0x1000) n == 1 || chan2 (newest s 0x1000) n == 2
  | 0x1006 => decide (newestI s 0x1005 + 5 ≤ i)
  | 0x1008 => (List.range 8).all fun k => decide (v / 256 ^ k % 256 ≤ 23) || v / 256 ^ k % 256 == 0xFF
  | 0x100A => v % 100 == 0
  | 0x100D | 0x100E | 0x100F | 0x1010 => ruleOk v
  | _ => true

def valueOk (s : State) (p : ParamRow) (v : Int) : Bool :=
  decide (p.lo ≤ v) && decide (v ≤ p.hi) && ruleHolds s p.id v

/-! Modes and running blocks (R285 steps 4, 6 and 9). -/

def PModes.allows (m : PModes) (x : Mode) : Bool :=
  match m with
  | .any => true
  | .setup => x == .factory || x == .commission
  | .notHoldup => x != .holdup
  | .shutter => x != .holdup && x != .recovery
  | .billing => x == .factory || x == .commission || x == .service
  | .field => x == .commission || x == .service

/-- The mode restriction, with the one of MET.GAIN_MODE that hangs on the value (R76). -/
def modeAllows (s : State) (p : ParamRow) (v : Int) : Bool :=
  (p.modes.allows s.mode.mode || p.id == 0x0205 && shuDcSession s) && (p.id != 0x0245 || v == 0 || s.mode.mode == .factory)

/-- A session in which power may flow both ways (R104, R326). -/
def bidirectional (s : State) : Bool := sessionOpen s && (s.veh.bptOffered || s.veh.discharge)

/-- The block of a class Q parameter runs (R284 and the chapters). -/
def blockRuns (s : State) (id v : Nat) : Bool :=
  if 0x0600 ≤ id && id < 0x0700 then coilOn s
  else if 0x0400 ≤ id && id < 0x0500 then sessionOpen s
  else if 0x0A00 ≤ id && id < 0x0B00 then s.disp.railsUp
  else match id with
    | 0x0266 => !s.sie.halted
    | 0x0902 => readerState s != 0
    | 0x0700 => (List.range 8).any fun n => (lswChan s n).on && chan2 (param s id) n != chan2 v n
    | 0x0706 => (List.range 8).any fun n => (lswChan s n).on &&
        (bitN (param s id) (n / 2) || bitN v (n / 2))
    | _ => !setupMode s

/-- Busy conditions of step 9: class Q while its block runs, ABS_SUM in a bidirectional session (R104), the cable resistance in a
DC session (R122). -/
def setBusy (s : State) (p : ParamRow) (v : Nat) : Bool :=
  (p.cls == .q && blockRuns s p.id v) || (p.id == 0x0200 && v == 2 && bidirectional s)
    || (p.id == 0x0205 && shuDcSession s)

/-- An SHU parameter outside the sender's own configuration session (R285 step 6, R359). -/
def shuRefusal (s : State) (id : Nat) (snd : Sender) : Option Nat :=
  if 0x0600 ≤ id && id < 0x0700 then
    if s.shu.session.isNone && s.shu.lockoutEnd.isSome then some stLockedOut else sessionCheck s snd
  else none

/-- A BIL parameter on the STANDBY unit of a Hinge pair (R484, log entry 50). -/
def standbyRefusal (s : State) (id : Nat) : Option Nat :=
  if isStandby s && 0x0400 ≤ id && id < 0x0500 then some stNotActive else none

/-! Taking effect (R284). -/

/-- A change of MET.SENSOR_TYPE or MET.GAIN_MODE: the switch of R88 at the first sample of its epoch, and its entry (R93).
The samples themselves follow the parameter of their own epoch. -/
def inputConfig (id : Nat) (old new eff snd : Nat) (s : State) : State :=
  let changed (c : Nat) : Bool := chan2 old c != chan2 new c
  let mask := sumN ((List.range 4).map fun c => if changed c then 2 ^ iSlot c else 0)
  if mask = 0 then s
  else
    raiseF 0x0212 0 snd (le 2 id ++ le 2 mask ++ le 8 eff ++ le 4 old ++ le 4 new ++ le 4 (settleCount 0 (epochPos eff)))
      (settleSwitch mask (epochPos eff) s)

/-- A measurement span is mixed when a calibration value changes inside it, after its first epoch has begun (R144, R147). -/
def mixSpan (eff : Nat) (s : State) : State :=
  setCal (fun c => { c with span := c.span.map fun x =>
    { x with mixed := x.mixed || (decide (x.first < eff) && decide (eff < x.first + x.nEpochs)) } }) s

/-- The load or fine profile closes its interval early at the end of the epoch before (R215). -/
def profileDue (which eff : Nat) (s : State) : State :=
  setBil (fun b => { b with
    cfgDue := if b.cfgDue.contains (eff, which) then b.cfgDue else b.cfgDue ++ [(eff, which)] }) s

/-- A bucket under a new DIAG.BURST: it is cut to it, or falls below full (R535). -/
def burstChanged (s : State) (n : Nat) (b : Bucket) : Bucket :=
  if n ≤ b.tokens then { b with tokens := n, since := none, given := 0 } else { b with since := b.since.or (some s.clk.now) }

/-- What a parameter's new value brings about the moment it applies. -/
def onEffect (id : Nat) (old new : Int) (eff snd : Nat) (s : State) : State :=
  if old = new then s
  else if 0x0280 ≤ id && id ≤ 0x02A3 then mixSpan eff s
  else match id with
    | 0x010C => if new = 0 then stopPort s else s
    | 0x0240 | 0x0245 => inputConfig id old.toNat new.toNat eff snd s
    | 0x0403 | 0x0404 => profileDue 1 eff s
    | 0x0405 => profileDue 2 eff s
    | 0x0F02 => setDiag (fun d => { d with buckets := d.buckets.map (burstChanged s new.toNat) }) s
    | 0x100D | 0x100E | 0x100F | 0x1010 => setNl (fun n => { n with rules := n.rules.set (id - 0x100D) {} }) s
    | 0x0C00 => sendRoute s
    | 0x0C01 | 0x0C02 => rebuildTree false s
    | 0x0D00 => if new = 0 then setHng (fun h => { h with role := .none }) s else s
    | _ => s

/-- A value comes into force. -/
def putInForce (id : Nat) (v : Int) (eff snd : Nat) (s : State) : State :=
  let old := paramI s id
  let since := ((paramCell s id).map (·.since)).getD 0
  let before := if since = eff then (paramCell s id).map fun c => (c.prev, c.prevSince) else none
  let (p, ps) := before.getD (old, since)
  onEffect id old v eff snd (setCell s id
    { value := v, since := eff, prev := p, prevSince := ps, sender := snd, pending := none, written := true })

/-- A pending value whose epoch has begun comes into force. -/
def promote (id : Nat) (s : State) : State :=
  match paramCell s id with
  | none => s
  | some c => match c.pending with
    | none => s
    | some (v, e) => if e ≤ s.clk.epoch then putInForce id v e c.sender s else s

/-- PARAM_EFFECTIVE (R284). SYS.COMMISSIONED is the one parameter that firmware itself sets: in COMMISSION, when the
commissioning of the site is complete (R51; log entry 67). -/
def execParamEffective (id : Nat) (s : State) : Out :=
  if id = 0x0106 then whenever (serving s && s.mode.mode == .commission && param s id == 0) s fun s => forceParam s id 1
  else .next (promote id s)

/-! PARAM_SET (R285). -/

/-- The epoch that contains the first main-path sample whose pad timestamp is at or after now (R15, R284). -/
def liveEpoch (s : State) : Nat := s.clk.epoch + divCeil (s.clk.now - s.clk.epochStart) 6400 / 320

/-- What an accepted write records before it applies: entries of R107, R196 and R236, the change log of R361 and both
configuration copies (R358). -/
def recordWrite (p : ParamRow) (snd : Nat) (old new : Int) (s : State) : State :=
  let id := p.id
  let two := p.ty.write old ++ p.ty.write new
  if 0x0600 ≤ id && id < 0x0700 then
    let s := setShu (fun x => { x with copyA := true, copyB := true, copiesEqual := true }) s
    changeLog 1 snd id (p.ty.write old) (p.ty.write new) (touchConfig s)
  else if 0x0411 ≤ id && id ≤ 0x0420 then logNowF 0x040D 0 snd (le 2 id ++ zeros 2 ++ two) s
  else if id = 0x0205 then logNowF 0x020A 0 snd two s
  else s

/-- SIGN_CONFIG after a LED write, with the values then last accepted (R196). -/
def signConfig (id snd : Nat) (s : State) : State :=
  if 0x0300 ≤ id && id < 0x0400 then
    logNowF 0x0211 0 snd (le 1 (newest s 0x0300) ++ le 1 (newest s 0x0301) ++ le 2 (genOf s (newest s 0x0301))) s
  else s

/-- The pending value of a class S parameter; an earlier pending value never takes effect (R284). -/
def shadow (id : Nat) (v : Int) (snd : Nat) (s : State) : State :=
  let c := (paramCell s id).getD
    { value := paramI s id, since := 0, prev := paramI s id, prevSince := 0, sender := snd, pending := none, written := true }
  setCell s id { c with pending := some (v, s.clk.epoch + 1), sender := snd, written := true }

/-- An accepted write: recorded, stored durably, and in force from its effective epoch; a BIL write has the ledger-state copy
written before the reply (R234). -/
def acceptWrite (p : ParamRow) (v : Int) (snd : Nat) (s : State) : Nat × State :=
  let s := promote p.id s
  let old := paramI s p.id
  let s := recordWrite p snd old v s
  let eff := if p.cls = .s then s.clk.epoch + 1 else liveEpoch s
  let s := if p.cls = .s then shadow p.id v snd s else putInForce p.id v eff snd s
  let s := signConfig p.id snd s
  (eff, if 0x0400 ≤ p.id && p.id < 0x0500 then lsWrite s else s)

/-- A refused write of a sealed parameter counts in SEAL_REFUSED (R139). -/
def sealRefuse (s : State) : Answer :=
  refuse (setCal (fun c => { c with sealRefused := satInc (2 ^ 32 - 1) c.sealRefused }) s) stSealed

def execParamSet (r : Req) (id size : Nat) (value : List Byte) (s : State) : Out :=
  brixo 0x0111 r s fun s =>
    match paramRow id with
    | none => refuse s stBadParam
    | some p =>
      let v := p.ty.read value
      if !enabled s.ident.variant p.fn then refuse s stBadOpcode
      else if p.readOnly then refuse s stBadParam
      else if !modeAllows s p v then refuse s stWrongMode
      else if p.isSealed && sealSet s then sealRefuse s
      else match (shuRefusal s id r.sender).or (standbyRefusal s id) with
        | some st => refuse s st
        | none =>
          if size != p.ty.size || value.length != p.ty.size then refuse s stBadLength
          else if !valueOk s p v then refuse s stBadParam
          else if setBusy s p v.toNat then refuse s stBusy
          else
            let (eff, s) := acceptWrite p v r.sender.code s
            answer s stOk (le 2 id ++ le 1 p.cls.code ++ zeros 1 ++ le 8 eff)

/-! PARAM_GET (R286). -/

/-- What PARAM_GET reports of a parameter: the value in force at the snapshot's epoch and its epoch, and the next value. -/
structure ParamView where
  value : Int
  since : Nat
  next : Option (Int × Nat)
  written : Bool

def paramView (s : State) (p : ParamRow) : ParamView :=
  match paramCell s p.id with
  | none => ⟨p.dflt, 0, none, false⟩
  | some c =>
    if c.since ≤ s.snap.epoch then
      match c.pending with
      | some (v, e) => if e ≤ s.snap.epoch then ⟨v, e, none, c.written⟩ else ⟨c.value, c.since, some (v, e), c.written⟩
      | none => ⟨c.value, c.since, none, c.written⟩
    else ⟨c.prev, c.prevSince, some (c.value, c.since), c.written⟩

def getBody (p : ParamRow) (flags : Nat) (w : ParamView) : List Byte :=
  le 2 p.id ++ le 1 p.ty.code ++ le 1 p.cls.code ++ le 1 flags ++ le 1 p.ty.size ++ zeros 2 ++ le 8 w.since
    ++ le 8 ((w.next.map (·.2)).getD 0) ++ p.ty.write w.value
    ++ (match w.next with | some n => p.ty.write n.1 | none => [])

/-- PARAM_GET. A parameter of a disabled function shows its default with DEFAULT and READ_ONLY alone: SEALED stays clear there, the
model's choice beside R2 (log entry 87). -/
def execParamGet (r : Req) (id : Nat) (s : State) : Out :=
  brixo 0x0110 r s fun s =>
    match paramRow id with
    | none => refuse s stBadParam
    | some p =>
      if !enabled s.ident.variant p.fn then answer s stOk (getBody p 0x0C ⟨p.dflt, 0, none, false⟩)
      else
        let w := paramView s p
        let flags := packBits [w.next.isSome, p.isSealed && sealSet s, p.readOnly, !w.written]
        answer s stOk (getBody p flags (if w.written then w else { w with since := 0 }))

end Sys2Proof.Machine
end

