-- ==== Sys2Proof/Machine/Dispatch.lean ====
section
/-! DEFINITION. exec: one arm for each command, each one direct call of its meaning. -/

namespace Sys2Proof.Machine

def exec (i : Instr) (s : State) : Host.Outcome State Fault Refusal :=
  match i with
  | .mainsApplied elapsed => Sys2Proof.Machine.execMainsApplied elapsed s
  | .railsGood => Sys2Proof.Machine.execRailsGood s
  | .d1Start okA okB equal => Sys2Proof.Machine.execD1Start okA okB equal s
  | .d2Start codes setOk lost => Sys2Proof.Machine.execD2Start codes setOk lost s
  | .d3LeavesReset cells rootOk corrected attempts worst hashOk badHelpers badSlots badCounts => Sys2Proof.Machine.execD3LeavesReset cells rootOk corrected attempts worst hashOk badHelpers badSlots badCounts s
  | .readyRises => Sys2Proof.Machine.execReadyRises s
  | .vholdReachesThreshold => Sys2Proof.Machine.execVholdReachesThreshold s
  | .holdupCapMeasured drop => Sys2Proof.Machine.execHoldupCapMeasured drop s
  | .vholdChargeTimeout => Sys2Proof.Machine.execVholdChargeTimeout s
  | .firstModeEntered versionsOk => Sys2Proof.Machine.execFirstModeEntered versionsOk s
  | .interimToService => Sys2Proof.Machine.execInterimToService s
  | .sysModeGet r => Sys2Proof.Machine.execSysModeGet r s
  | .sysModeRequest r target => Sys2Proof.Machine.execSysModeRequest r target s
  | .modeChangeEffective => Sys2Proof.Machine.execModeChangeEffective s
  | .sysReset r scope => Sys2Proof.Machine.execSysReset r scope s
  | .sysResetBegin => Sys2Proof.Machine.execSysResetBegin s
  | .sysHoldupInfo r => Sys2Proof.Machine.execSysHoldupInfo r s
  | .watchDelayExpiry => Sys2Proof.Machine.execWatchDelayExpiry s
  | .watchWake src => Sys2Proof.Machine.execWatchWake src s
  | .mainsFailDetection bulk => Sys2Proof.Machine.execMainsFailDetection bulk s
  | .mainsAbsentDecision => Sys2Proof.Machine.execMainsAbsentDecision s
  | .finalSignedReading => Sys2Proof.Machine.execFinalSignedReading s
  | .holdupDisplayDecision => Sys2Proof.Machine.execHoldupDisplayDecision s
  | .holdupSequenceEnd => Sys2Proof.Machine.execHoldupSequenceEnd s
  | .hrstLow us => Sys2Proof.Machine.execHrstLow us s
  | .watchdogExpiry => Sys2Proof.Machine.execWatchdogExpiry s
  | .enginePoolFault => Sys2Proof.Machine.execEnginePoolFault s
  | .timebaseFault => Sys2Proof.Machine.execTimebaseFault s
  | .spyholeReset => Sys2Proof.Machine.execSpyholeReset s
  | .reclaimTimerExpiry => Sys2Proof.Machine.execReclaimTimerExpiry s
  | .railWarning => Sys2Proof.Machine.execRailWarning s
  | .statusFrame ok supplyGood hall peZ peNpe dieTemp => Sys2Proof.Machine.execStatusFrame ok supplyGood hall peZ peNpe dieTemp s
  | .sample400k bits => Sys2Proof.Machine.execSample400k bits s
  | .mainPathSample => Sys2Proof.Machine.execMainPathSample s
  | .epochStateCapture => Sys2Proof.Machine.execEpochStateCapture s
  | .epochLatch => Sys2Proof.Machine.execEpochLatch s
  | .journalAppendComplete firstOk retryOk => Sys2Proof.Machine.execJournalAppendComplete firstOk retryOk s
  | .journalNotDurable => Sys2Proof.Machine.execJournalNotDurable s
  | .meteringStopOpen => Sys2Proof.Machine.execMeteringStopOpen s
  | .meteringFaultEnd cause slot codes => Sys2Proof.Machine.execMeteringFaultEnd cause slot codes s
  | .peWindowEval => Sys2Proof.Machine.execPeWindowEval s
  | .magField => Sys2Proof.Machine.execMagField s
  | .magFieldEnd => Sys2Proof.Machine.execMagFieldEnd s
  | .overrangeClose k => Sys2Proof.Machine.execOverrangeClose k s
  | .gainMismatch c => Sys2Proof.Machine.execGainMismatch c s
  | .sieveSaturationClose k => Sys2Proof.Machine.execSieveSaturationClose k s
  | .metInputStatus r => Sys2Proof.Machine.execMetInputStatus r s
  | .metInputSelftest r mask => Sys2Proof.Machine.execMetInputSelftest r mask s
  | .selftestEnd codes => Sys2Proof.Machine.execSelftestEnd codes s
  | .metSieveStatus r => Sys2Proof.Machine.execMetSieveStatus r s
  | .metSieveHalt r action => Sys2Proof.Machine.execMetSieveHalt r action s
  | .sieveStop => Sys2Proof.Machine.execSieveStop s
  | .sieveRestart => Sys2Proof.Machine.execSieveRestart s
  | .metSieveSetLoad r data => Sys2Proof.Machine.execMetSieveSetLoad r data s
  | .metEnergyRead r => Sys2Proof.Machine.execMetEnergyRead r s
  | .metDeltaRead r mask rst => Sys2Proof.Machine.execMetDeltaRead r mask rst s
  | .delayedReadAndReset => Sys2Proof.Machine.execDelayedReadAndReset s
  | .metMeasRead r => Sys2Proof.Machine.execMetMeasRead r s
  | .metSumsRead r epoch => Sys2Proof.Machine.execMetSumsRead r epoch s
  | .neutralMismatch => Sys2Proof.Machine.execNeutralMismatch s
  | .reverseFlow x => Sys2Proof.Machine.execReverseFlow x s
  | .cfPulseEdge q => Sys2Proof.Machine.execCfPulseEdge q s
  | .cfPulseEnd q => Sys2Proof.Machine.execCfPulseEnd q s
  | .metCalMeasure r mask n => Sys2Proof.Machine.execMetCalMeasure r mask n s
  | .calMeasureSpanEnd => Sys2Proof.Machine.execCalMeasureSpanEnd s
  | .metCalCommit r => Sys2Proof.Machine.execMetCalCommit r s
  | .metTempTableLoad r data => Sys2Proof.Machine.execMetTempTableLoad r data s
  | .metTempStatus r => Sys2Proof.Machine.execMetTempStatus r s
  | .metLrId r => Sys2Proof.Machine.execMetLrId r s
  | .paramEffective id => Sys2Proof.Machine.execParamEffective id s
  | .urmsHalfSegmentEnd => Sys2Proof.Machine.execUrmsHalfSegmentEnd s
  | .pqArm => Sys2Proof.Machine.execPqArm s
  | .metPqSummary r last => Sys2Proof.Machine.execMetPqSummary r last s
  | .metPqHarmRead r last channel => Sys2Proof.Machine.execMetPqHarmRead r last channel s
  | .metPqShRead r last channel => Sys2Proof.Machine.execMetPqShRead r last channel s
  | .metPqEventRead r first count => Sys2Proof.Machine.execMetPqEventRead r first count s
  | .ledSnapshotRead r => Sys2Proof.Machine.execLedSnapshotRead r s
  | .ledSeriesRead r series start max => Sys2Proof.Machine.execLedSeriesRead r series start max s
  | .ledWaveCapture r mask n => Sys2Proof.Machine.execLedWaveCapture r mask n s
  | .waveCaptureCopy => Sys2Proof.Machine.execWaveCaptureCopy s
  | .ledSignReading r challenge => Sys2Proof.Machine.execLedSignReading r challenge s
  | .signatureComplete => Sys2Proof.Machine.execSignatureComplete s
  | .periodicReadingDue => Sys2Proof.Machine.execPeriodicReadingDue s
  | .ledStatus r => Sys2Proof.Machine.execLedStatus r s
  | .bilTimeSet r newS newF how => Sys2Proof.Machine.execBilTimeSet r newS newF how s
  | .timeChangeEffective => Sys2Proof.Machine.execTimeChangeEffective s
  | .slewComplete => Sys2Proof.Machine.execSlewComplete s
  | .bilTimeGet r => Sys2Proof.Machine.execBilTimeGet r s
  | .bilTzLoad r object => Sys2Proof.Machine.execBilTzLoad r object s
  | .bilCalendarLoad r object => Sys2Proof.Machine.execBilCalendarLoad r object s
  | .bilTariffRead r => Sys2Proof.Machine.execBilTariffRead r s
  | .civilBoundary => Sys2Proof.Machine.execCivilBoundary s
  | .bilBillingClose r => Sys2Proof.Machine.execBilBillingClose r s
  | .commandBillingClose => Sys2Proof.Machine.execCommandBillingClose s
  | .bilBillingRead r period => Sys2Proof.Machine.execBilBillingRead r period s
  | .bilCreditTransfer r object => Sys2Proof.Machine.execBilCreditTransfer r object s
  | .bilCreditStatus r => Sys2Proof.Machine.execBilCreditStatus r s
  | .bilEmergencyActivate r => Sys2Proof.Machine.execBilEmergencyActivate r s
  | .bilDisconnect r action => Sys2Proof.Machine.execBilDisconnect r action s
  | .km1FeedbackMismatch duration => Sys2Proof.Machine.execKm1FeedbackMismatch duration s
  | .speedMonitor rates coreMv tjMax load => Sys2Proof.Machine.execSpeedMonitor rates coreMv tjMax load s
  | .speedRestored => Sys2Proof.Machine.execSpeedRestored s
  | .kilnTaskRelease cls epoch part cell => Sys2Proof.Machine.execKilnTaskRelease cls epoch part cell s
  | .kilnTaskRun cell => Sys2Proof.Machine.execKilnTaskRun cell s
  | .kilnSteal cell => Sys2Proof.Machine.execKilnSteal cell s
  | .kilnDeadlineMiss cls epoch => Sys2Proof.Machine.execKilnDeadlineMiss cls epoch s
  | .shedChanged => Sys2Proof.Machine.execShedChanged s
  | .cellHandshakeTimeout cell => Sys2Proof.Machine.execCellHandshakeTimeout cell s
  | .cellMemoryError cell => Sys2Proof.Machine.execCellMemoryError cell s
  | .crossCheck runner checker third agrees withThird => Sys2Proof.Machine.execCrossCheck runner checker third agrees withThird s
  | .semaphoreRead n reader => Sys2Proof.Machine.execSemaphoreRead n reader s
  | .semaphoreRelease n writer value => Sys2Proof.Machine.execSemaphoreRelease n writer value s
  | .semHostTimeout n => Sys2Proof.Machine.execSemHostTimeout n s
  | .wedgeRegisterWrite n value writer => Sys2Proof.Machine.execWedgeRegisterWrite n value writer s
  | .kilnStatus r => Sys2Proof.Machine.execKilnStatus r s
  | .wedgeStatus r => Sys2Proof.Machine.execWedgeStatus r s
  | .h2mDataWrite c word => Sys2Proof.Machine.execH2mDataWrite c word s
  | .hatchPacketTake c => Sys2Proof.Machine.execHatchPacketTake c s
  | .h2mAckRead c => Sys2Proof.Machine.execH2mAckRead c s
  | .h2mFlush c => Sys2Proof.Machine.execH2mFlush c s
  | .h2mOverflowClear c => Sys2Proof.Machine.execH2mOverflowClear c s
  | .m2hDataRead c => Sys2Proof.Machine.execM2hDataRead c s
  | .m2hAckWrite c value => Sys2Proof.Machine.execM2hAckWrite c value s
  | .m2hUnderflowClear c => Sys2Proof.Machine.execM2hUnderflowClear c s
  | .irqStatusClear value => Sys2Proof.Machine.execIrqStatusClear value s
  | .registerWrite addr value => Sys2Proof.Machine.execRegisterWrite addr value s
  | .hatchQueuePlacement c => Sys2Proof.Machine.execHatchQueuePlacement c s
  | .paramGet r id => Sys2Proof.Machine.execParamGet r id s
  | .paramSet r id size value => Sys2Proof.Machine.execParamSet r id size value s
  | .hatchStatus r => Sys2Proof.Machine.execHatchStatus r s
  | .brixoEthDatagram port peer data last => Sys2Proof.Machine.execBrixoEthDatagram port peer data last s
  | .ipReassemblyTimeout => Sys2Proof.Machine.execIpReassemblyTimeout s
  | .dctrlWrite c value => Sys2Proof.Machine.execDctrlWrite c value s
  | .dmaChannelAbort c => Sys2Proof.Machine.execDmaChannelAbort c s
  | .descriptorStagingWrite c word value => Sys2Proof.Machine.execDescriptorStagingWrite c word value s
  | .descriptorCommit c value => Sys2Proof.Machine.execDescriptorCommit c value s
  | .dstatClear c value => Sys2Proof.Machine.execDstatClear c value s
  | .dmaDescriptorStart c words => Sys2Proof.Machine.execDmaDescriptorStart c words s
  | .dmaBurst memError => Sys2Proof.Machine.execDmaBurst memError s
  | .dmaWriteBack c faulty => Sys2Proof.Machine.execDmaWriteBack c faulty s
  | .dmaStatus r => Sys2Proof.Machine.execDmaStatus r s
  | .dmaAbort r c => Sys2Proof.Machine.execDmaAbort r c s
  | .cpStateChange hi lo => Sys2Proof.Machine.execCpStateChange hi lo s
  | .ppStateChange ohm => Sys2Proof.Machine.execPpStateChange ohm s
  | .slacMessage m => Sys2Proof.Machine.execSlacMessage m s
  | .slacTimeout => Sys2Proof.Machine.execSlacTimeout s
  | .v2gMessage m => Sys2Proof.Machine.execV2gMessage m s
  | .authTimeout => Sys2Proof.Machine.execAuthTimeout s
  | .overdraw => Sys2Proof.Machine.execOverdraw s
  | .vehStatus r => Sys2Proof.Machine.execVehStatus r s
  | .vehAuthorise r reqId decision bpt => Sys2Proof.Machine.execVehAuthorise r reqId decision bpt s
  | .vehLimitsSet r iMax pMax n entries => Sys2Proof.Machine.execVehLimitsSet r iMax pMax n entries s
  | .vehStop r reason => Sys2Proof.Machine.execVehStop r reason s
  | .vehAvailability r state => Sys2Proof.Machine.execVehAvailability r state s
  | .vehCertLoad r what certs => Sys2Proof.Machine.execVehCertLoad r what certs s
  | .vehRelayAnswer r relayId body => Sys2Proof.Machine.execVehRelayAnswer r relayId body s
  | .sessionClose => Sys2Proof.Machine.execSessionClose s
  | .canFrameReceived f => Sys2Proof.Machine.execCanFrameReceived f s
  | .canFrameSend => Sys2Proof.Machine.execCanFrameSend s
  | .powerModuleLost n => Sys2Proof.Machine.execPowerModuleLost n s
  | .cableCheckReady => Sys2Proof.Machine.execCableCheckReady s
  | .cableCheckTimeout => Sys2Proof.Machine.execCableCheckTimeout s
  | .prechargeComplete => Sys2Proof.Machine.execPrechargeComplete s
  | .prechargeTimeout => Sys2Proof.Machine.execPrechargeTimeout s
  | .dcDischargeEnd => Sys2Proof.Machine.execDcDischargeEnd s
  | .shutterEvaluationCycle cyc => Sys2Proof.Machine.execShutterEvaluationCycle cyc s
  | .channelDisagreement => Sys2Proof.Machine.execChannelDisagreement s
  | .channelLinkLoss => Sys2Proof.Machine.execChannelLinkLoss s
  | .close => Sys2Proof.Machine.execClose s
  | .openOrderly cause => Sys2Proof.Machine.execOpenOrderly cause s
  | .openNow cause => Sys2Proof.Machine.execOpenNow cause s
  | .pwm duty => Sys2Proof.Machine.execPwm duty s
  | .limit mA dc => Sys2Proof.Machine.execLimit mA dc s
  | .reclaim => Sys2Proof.Machine.execReclaim s
  | .reset mask => Sys2Proof.Machine.execReset mask s
  | .rcmTest => Sys2Proof.Machine.execRcmTest s
  | .orderlyStopWaitEnd => Sys2Proof.Machine.execOrderlyStopWaitEnd s
  | .kmPullinEnd => Sys2Proof.Machine.execKmPullinEnd s
  | .openCoil chan => Sys2Proof.Machine.execOpenCoil chan s
  | .kfbTimeout => Sys2Proof.Machine.execKfbTimeout s
  | .estopLineOpen lineB chan => Sys2Proof.Machine.execEstopLineOpen lineB chan s
  | .estopDiscrep chan => Sys2Proof.Machine.execEstopDiscrep chan s
  | .estopTestPulse shorted chan => Sys2Proof.Machine.execEstopTestPulse shorted chan s
  | .rcmSelftestStepEnd m => Sys2Proof.Machine.execRcmSelftestStepEnd m s
  | .rcmSelftestAge => Sys2Proof.Machine.execRcmSelftestAge s
  | .iPermHoldEnd => Sys2Proof.Machine.execIPermHoldEnd s
  | .weldTest => Sys2Proof.Machine.execWeldTest s
  | .coilSupplyLow chan => Sys2Proof.Machine.execCoilSupplyLow chan s
  | .sresetRelease lowMs => Sys2Proof.Machine.execSresetRelease lowMs s
  | .sresetStuck => Sys2Proof.Machine.execSresetStuck s
  | .pendingResetLapse => Sys2Proof.Machine.execPendingResetLapse s
  | .cpStateAHeld => Sys2Proof.Machine.execCpStateAHeld s
  | .shuStatus r => Sys2Proof.Machine.execShuStatus r s
  | .shuReset r mask => Sys2Proof.Machine.execShuReset r mask s
  | .shuConfigOpen r len password => Sys2Proof.Machine.execShuConfigOpen r len password s
  | .shuConfigClose r => Sys2Proof.Machine.execShuConfigClose r s
  | .shuPasswordSet r len password => Sys2Proof.Machine.execShuPasswordSet r len password s
  | .shuRcmTest r => Sys2Proof.Machine.execShuRcmTest r s
  | .shuLogRead r first count => Sys2Proof.Machine.execShuLogRead r first count s
  | .configSessionIdle => Sys2Proof.Machine.execConfigSessionIdle s
  | .lockoutEnd => Sys2Proof.Machine.execLockoutEnd s
  | .lswStatus r => Sys2Proof.Machine.execLswStatus r s
  | .lswControl r mask action ms => Sys2Proof.Machine.execLswControl r mask action ms s
  | .lswThermalOff n tj => Sys2Proof.Machine.execLswThermalOff n tj s
  | .lswIlimTimeout n => Sys2Proof.Machine.execLswIlimTimeout n s
  | .lswLatchRelease n tj => Sys2Proof.Machine.execLswLatchRelease n tj s
  | .lswRetryRefill n => Sys2Proof.Machine.execLswRetryRefill n s
  | .lswPulseEnd n => Sys2Proof.Machine.execLswPulseEnd n s
  | .lswOpenLoad n cur => Sys2Proof.Machine.execLswOpenLoad n cur s
  | .lswOffStateShort n => Sys2Proof.Machine.execLswOffStateShort n s
  | .vauxUndervoltage mV => Sys2Proof.Machine.execVauxUndervoltage mV s
  | .vauxRecovery mV => Sys2Proof.Machine.execVauxRecovery mV s
  | .vauxPowerCycle mV => Sys2Proof.Machine.execVauxPowerCycle mV s
  | .vauxGndOpen => Sys2Proof.Machine.execVauxGndOpen s
  | .vauxGndRestored => Sys2Proof.Machine.execVauxGndRestored s
  | .loadDump mV => Sys2Proof.Machine.execLoadDump mV s
  | .sagStatus r => Sys2Proof.Machine.execSagStatus r s
  | .sagSlotInfo r slot => Sys2Proof.Machine.execSagSlotInfo r slot s
  | .sagKeyGenerate r slot type attr usesMax => Sys2Proof.Machine.execSagKeyGenerate r slot type attr usesMax s
  | .sagKeyWrite r slot type attr usesMax key => Sys2Proof.Machine.execSagKeyWrite r slot type attr usesMax key s
  | .sagKeyImport r slot type attr usesMax unwrapSlot wrapped => Sys2Proof.Machine.execSagKeyImport r slot type attr usesMax unwrapSlot wrapped s
  | .sagKeyDerive r src slot type attr usesMax info => Sys2Proof.Machine.execSagKeyDerive r src slot type attr usesMax info s
  | .sagKeyErase r slot => Sys2Proof.Machine.execSagKeyErase r slot s
  | .sagPubkeyExport r slot which gen => Sys2Proof.Machine.execSagPubkeyExport r slot which gen s
  | .sagCertAttach r slot cert => Sys2Proof.Machine.execSagCertAttach r slot cert s
  | .sagLifecycleSet r target unlock => Sys2Proof.Machine.execSagLifecycleSet r target unlock s
  | .lifecycleRestart => Sys2Proof.Machine.execLifecycleRestart s
  | .sagTamperAck r mask => Sys2Proof.Machine.execSagTamperAck r mask s
  | .sagUnlockChallenge r => Sys2Proof.Machine.execSagUnlockChallenge r s
  | .tampSample levels => Sys2Proof.Machine.execTampSample levels s
  | .earthLoading => Sys2Proof.Machine.execEarthLoading s
  | .meshBreach potting => Sys2Proof.Machine.execMeshBreach potting s
  | .dbgEnableWrite value => Sys2Proof.Machine.execDbgEnableWrite value s
  | .spyholeDebugAccess read addr data => Sys2Proof.Machine.execSpyholeDebugAccess read addr data s
  | .pollCycle inField => Sys2Proof.Machine.execPollCycle inField s
  | .lowPowerDetectPulse change => Sys2Proof.Machine.execLowPowerDetectPulse change s
  | .conStatus r => Sys2Proof.Machine.execConStatus r s
  | .conTune r iAnt phase => Sys2Proof.Machine.execConTune r iAnt phase s
  | .conListLoad r object => Sys2Proof.Machine.execConListLoad r object s
  | .conLbRead r page available => Sys2Proof.Machine.execConLbRead r page available s
  | .conLbWrite r page data available => Sys2Proof.Machine.execConLbWrite r page data available s
  | .conLbConfig r action readPw writePw available => Sys2Proof.Machine.execConLbConfig r action readPw writePw available s
  | .inventory maskLen mask => Sys2Proof.Machine.execInventory maskLen mask s
  | .stayQuiet dest => Sys2Proof.Machine.execStayQuiet dest s
  | .select dest => Sys2Proof.Machine.execSelect dest s
  | .resetToReady dest => Sys2Proof.Machine.execResetToReady dest s
  | .getSystemInformation dest => Sys2Proof.Machine.execGetSystemInformation dest s
  | .readSingleBlock dest block => Sys2Proof.Machine.execReadSingleBlock dest block s
  | .readMultipleBlocks dest block n => Sys2Proof.Machine.execReadMultipleBlocks dest block n s
  | .writeSingleBlock dest block data fate => Sys2Proof.Machine.execWriteSingleBlock dest block data fate s
  | .writeMultipleBlocks dest block data fate => Sys2Proof.Machine.execWriteMultipleBlocks dest block data fate s
  | .lbUnsupportedCommand dest => Sys2Proof.Machine.execLbUnsupportedCommand dest s
  | .lbFieldDrop => Sys2Proof.Machine.execLbFieldDrop s
  | .lbBrixoRequest => Sys2Proof.Machine.execLbBrixoRequest s
  | .letterboxSummaryWrite n => Sys2Proof.Machine.execLetterboxSummaryWrite n s
  | .dispStatus r => Sys2Proof.Machine.execDispStatus r s
  | .dispImageWrite r offset len data => Sys2Proof.Machine.execDispImageWrite r offset len data s
  | .dispUpdate r mode x y w h crc => Sys2Proof.Machine.execDispUpdate r mode x y w h crc s
  | .dispClean r => Sys2Proof.Machine.execDispClean r s
  | .imageCopyComplete => Sys2Proof.Machine.execImageCopyComplete s
  | .dispRailsGood => Sys2Proof.Machine.execDispRailsGood s
  | .dispFrameEnd => Sys2Proof.Machine.execDispFrameEnd s
  | .dispRailsDown => Sys2Proof.Machine.execDispRailsDown s
  | .dispRailFault => Sys2Proof.Machine.execDispRailFault s
  | .waitingUpdateCheck => Sys2Proof.Machine.execWaitingUpdateCheck s
  | .waitingUpdateTimeout => Sys2Proof.Machine.execWaitingUpdateTimeout s
  | .transomRefresh => Sys2Proof.Machine.execTransomRefresh s
  | .supplyZeroCrossing rising preamble => Sys2Proof.Machine.execSupplyZeroCrossing rising preamble s
  | .mcFrameBegin => Sys2Proof.Machine.execMcFrameBegin s
  | .mcDataFrame h segs snr zcPol centre => Sys2Proof.Machine.execMcDataFrame h segs snr zcPol centre s
  | .mcAckFrame src dst seq bitmap snr zcPol centre => Sys2Proof.Machine.execMcAckFrame src dst seq bitmap snr zcPol centre s
  | .toneMapRequest h snrs zcPol centre => Sys2Proof.Machine.execToneMapRequest h snrs zcPol centre s
  | .toneMapReply h tmi map snr zcPol centre => Sys2Proof.Machine.execToneMapReply h tmi map snr zcPol centre s
  | .beacon h zcPol centre => Sys2Proof.Machine.execBeacon h zcPol centre s
  | .mcAckWindowExpiry => Sys2Proof.Machine.execMcAckWindowExpiry s
  | .mcIncompleteFrameDiscard src seq => Sys2Proof.Machine.execMcIncompleteFrameDiscard src seq s
  | .toneMapRefreshDue short => Sys2Proof.Machine.execToneMapRefreshDue short s
  | .mcNeighbourLost id => Sys2Proof.Machine.execMcNeighbourLost id s
  | .beaconTimer => Sys2Proof.Machine.execBeaconTimer s
  | .mcStatus r => Sys2Proof.Machine.execMcStatus r s
  | .mcNeighbourRead r first count => Sys2Proof.Machine.execMcNeighbourRead r first count s
  | .mcTonemapRefresh r short => Sys2Proof.Machine.execMcTonemapRefresh r short s
  | .helloTimer => Sys2Proof.Machine.execHelloTimer s
  | .helloReceived link h => Sys2Proof.Machine.execHelloReceived link h s
  | .linkDown link id => Sys2Proof.Machine.execLinkDown link id s
  | .linkRetransmitTimeout link id => Sys2Proof.Machine.execLinkRetransmitTimeout link id s
  | .routeTimer => Sys2Proof.Machine.execRouteTimer s
  | .addressConflictClear => Sys2Proof.Machine.execAddressConflictClear s
  | .fabricPacketReceived link id q acked full p => Sys2Proof.Machine.execFabricPacketReceived link id q acked full p s
  | .fragmentReassemblyTimeout src msg => Sys2Proof.Machine.execFragmentReassemblyTimeout src msg s
  | .ethernetFrame port src dst => Sys2Proof.Machine.execEthernetFrame port src dst s
  | .borrowTick => Sys2Proof.Machine.execBorrowTick s
  | .tokenLendable token => Sys2Proof.Machine.execTokenLendable token s
  | .tokenRequest m => Sys2Proof.Machine.execTokenRequest m s
  | .tokenGrant m => Sys2Proof.Machine.execTokenGrant m s
  | .tokenAccept m => Sys2Proof.Machine.execTokenAccept m s
  | .tokenCommit m => Sys2Proof.Machine.execTokenCommit m s
  | .tokenAbort m => Sys2Proof.Machine.execTokenAbort m s
  | .tokenRenew m => Sys2Proof.Machine.execTokenRenew m s
  | .tokenRenewed m => Sys2Proof.Machine.execTokenRenewed m s
  | .tokenReturn m => Sys2Proof.Machine.execTokenReturn m s
  | .tokenRecall m => Sys2Proof.Machine.execTokenRecall m s
  | .tokenAcceptTimeout xfer peer => Sys2Proof.Machine.execTokenAcceptTimeout xfer peer s
  | .tokenCommitWait xfer home => Sys2Proof.Machine.execTokenCommitWait xfer home s
  | .leaseHalf xfer home => Sys2Proof.Machine.execLeaseHalf xfer home s
  | .leaseRelease xfer home => Sys2Proof.Machine.execLeaseRelease xfer home s
  | .leaseExpiry xfer home => Sys2Proof.Machine.execLeaseExpiry xfer home s
  | .recallReturnTimer xfer home => Sys2Proof.Machine.execRecallReturnTimer xfer home s
  | .reissueClockExpiry xfer peer => Sys2Proof.Machine.execReissueClockExpiry xfer peer s
  | .quarantineEnd => Sys2Proof.Machine.execQuarantineEnd s
  | .linStatus r => Sys2Proof.Machine.execLinStatus r s
  | .linTokenStatus r => Sys2Proof.Machine.execLinTokenStatus r s
  | .linForward r dst packet => Sys2Proof.Machine.execLinForward r dst packet s
  | .linForwardTimeout => Sys2Proof.Machine.execLinForwardTimeout s
  | .peerClaimFrame present claim yields ok => Sys2Proof.Machine.execPeerClaimFrame present claim yields ok s
  | .peerClaimSilence => Sys2Proof.Machine.execPeerClaimSilence s
  | .hingeHeartbeat peerId role claim syncs yields => Sys2Proof.Machine.execHingeHeartbeat peerId role claim syncs yields s
  | .hingeEpochMessage m => Sys2Proof.Machine.execHingeEpochMessage m s
  | .hingeTakeover => Sys2Proof.Machine.execHingeTakeover s
  | .yieldWithdraw => Sys2Proof.Machine.execYieldWithdraw s
  | .hingeIsolated => Sys2Proof.Machine.execHingeIsolated s
  | .hingeRoleResume => Sys2Proof.Machine.execHingeRoleResume s
  | .hingeResync msgs image blocks => Sys2Proof.Machine.execHingeResync msgs image blocks s
  | .hingeProofTest linkOk claimOk diff replicaOk crossOk rcmOk shorted => Sys2Proof.Machine.execHingeProofTest linkOk claimOk diff replicaOk crossOk rcmOk shorted s
  | .hngStatus r => Sys2Proof.Machine.execHngStatus r s
  | .hngSwitch r => Sys2Proof.Machine.execHngSwitch r s
  | .hngForce r driven => Sys2Proof.Machine.execHngForce r driven s
  | .hngProofRun r => Sys2Proof.Machine.execHngProofRun r s
  | .updStatus r => Sys2Proof.Machine.execUpdStatus r s
  | .updStageBegin r manifest => Sys2Proof.Machine.execUpdStageBegin r manifest s
  | .updStageWrite r offset len data => Sys2Proof.Machine.execUpdStageWrite r offset len data s
  | .updVerify r => Sys2Proof.Machine.execUpdVerify r s
  | .verifyComplete => Sys2Proof.Machine.execVerifyComplete s
  | .updActivate r peerHolds => Sys2Proof.Machine.execUpdActivate r peerHolds s
  | .activationRestart peer => Sys2Proof.Machine.execActivationRestart peer s
  | .updConfirm r => Sys2Proof.Machine.execUpdConfirm r s
  | .autoConfirm => Sys2Proof.Machine.execAutoConfirm s
  | .trialTimeout => Sys2Proof.Machine.execTrialTimeout s
  | .chainOffer src id => Sys2Proof.Machine.execChainOffer src id s
  | .chainRequest src id off len => Sys2Proof.Machine.execChainRequest src id off len s
  | .chainChunk src id off data => Sys2Proof.Machine.execChainChunk src id off data s
  | .chainHave src id => Sys2Proof.Machine.execChainHave src id s
  | .chainFetchTimeout => Sys2Proof.Machine.execChainFetchTimeout s
  | .adcConversionComplete ch conv code ovr under => Sys2Proof.Machine.execAdcConversionComplete ch conv code ovr under s
  | .urgentAdcRequest kind busy conv => Sys2Proof.Machine.execUrgentAdcRequest kind busy conv s
  | .adcTrigEdge rising busy conv => Sys2Proof.Machine.execAdcTrigEdge rising busy conv s
  | .iTempRaiseStep => Sys2Proof.Machine.execITempRaiseStep s
  | .rtcDiscipline ppb => Sys2Proof.Machine.execRtcDiscipline ppb s
  | .idleCheckArm => Sys2Proof.Machine.execIdleCheckArm s
  | .idleCurrentBlock => Sys2Proof.Machine.execIdleCurrentBlock s
  | .watchRule k => Sys2Proof.Machine.execWatchRule k s
  | .wakeOutPulseEnd => Sys2Proof.Machine.execWakeOutPulseEnd s
  | .auxRead r mask => Sys2Proof.Machine.execAuxRead r mask s
  | .auxConvert r ch n => Sys2Proof.Machine.execAuxConvert r ch n s
  | .auxTrigRead r most => Sys2Proof.Machine.execAuxTrigRead r most s
  | .nlStatus r => Sys2Proof.Machine.execNlStatus r s
  | .nlWakeAck r => Sys2Proof.Machine.execNlWakeAck r s
  | .diagTokenRefill n => Sys2Proof.Machine.execDiagTokenRefill n s
  | .diagStatus r => Sys2Proof.Machine.execDiagStatus r s
  | .diagRead r first most => Sys2Proof.Machine.execDiagRead r first most s
  | .diagFreeze r action => Sys2Proof.Machine.execDiagFreeze r action s
  | .diagClear r => Sys2Proof.Machine.execDiagClear r s
  | .freezeTimeout => Sys2Proof.Machine.execFreezeTimeout s
  | .rs485ByteReceived byte parity framing => Sys2Proof.Machine.execRs485ByteReceived byte parity framing s
  | .rs485FrameEnd => Sys2Proof.Machine.execRs485FrameEnd s
  | .sysRs485Send r len data => Sys2Proof.Machine.execSysRs485Send r len data s
  | .rs485SendComplete => Sys2Proof.Machine.execRs485SendComplete s
  | .railsFall => Sys2Proof.Machine.execRailsFall s
  | .vbatApplied => Sys2Proof.Machine.execVbatApplied s
  | .hspiCsFalling wire clocks => Sys2Proof.Machine.execHspiCsFalling wire clocks s
  | .v12OutOverload => Sys2Proof.Machine.execV12OutOverload s
  | .v12OutRestart => Sys2Proof.Machine.execV12OutRestart s
  | .vauxInReversed => Sys2Proof.Machine.execVauxInReversed s
  | .addressTableAgeing mac => Sys2Proof.Machine.execAddressTableAgeing mac s
  | .hingeEpochAck e => Sys2Proof.Machine.execHingeEpochAck e s

end Sys2Proof.Machine
end

