-- ==== Sys2Proof/Machine/Step.lean ====
section
/-! DEFINITION. step: the command at the front of the queue is executed on the machine with the rest of the queue; with an empty
queue the module idles (log entry 3). -/

namespace Sys2Proof.Machine

/-- The next command executed (00: commands one at a time, in the order of arrival). -/
def step (s : State) : Host.Outcome State Fault Refusal :=
  match s.pending with
  | [] => .next s
  | c :: rest => exec c { s with pending := rest }

/-- The command table gives its rows no bits, so no word spells a command (log entry 51). -/
def State.withFetchWord (s : State) (nbits w : Nat) : State :=
  match decodeTableWord nbits w with
  | some c => { s with pending := c :: s.pending }
  | none => s

end Sys2Proof.Machine
end

