-- ==== Sys2Proof/Safety.lean ====
section
/-! DEFINITION. What statements say of a run: which blocks of the module a command may change, the canonical form of the DMA
memory, and a module ready to serve. -/

namespace Sys2Proof.Safety

open Sys2Proof.Machine

/-- The blocks of the state, one for each field of State. -/
inductive Block where
  /-- identity fixed at manufacture (00, 08) -/
  | ident
  /-- timebase (01) -/
  | clk
  /-- supplies (02, 25) -/
  | pwr
  /-- reset domains (01, 02) -/
  | dom
  /-- operating mode (02) -/
  | mode
  /-- hold-up (02) -/
  | hold
  /-- reclaim window (02) -/
  | recl
  /-- measurement inputs (03) -/
  | inp
  /-- Sieve (04) -/
  | sie
  /-- energy computation (05) -/
  | met
  /-- calibration (06) -/
  | cal
  /-- ledger (08) -/
  | led
  /-- billing (09) -/
  | bil
  /-- Hatch mailboxes and Brixo (11) -/
  | hatch
  /-- parameter store (11) -/
  | par
  /-- Shutter (14) -/
  | shu
  /-- Sagger (16) -/
  | sag
  /-- published snapshot (01) -/
  | snap
  /-- power quality (07) -/
  | pq
  /-- Kiln engine pool (10) -/
  | kiln
  /-- DMA engine (12) -/
  | dma
  /-- vehicle interface (13) -/
  | veh
  /-- load switches (15) -/
  | lsw
  /-- card reader and Letterbox (17) -/
  | con
  /-- window display (18) -/
  | disp
  /-- mains carrier (19) -/
  | mc
  /-- Lintel fabric and tokens (20) -/
  | lin
  /-- Hinge redundancy (21) -/
  | hng
  /-- firmware update (22) -/
  | upd
  /-- auxiliary ADC (23) -/
  | adc
  /-- Nightlatch (23) -/
  | nl
  /-- diagnostic event recorder (24) -/
  | diag
  /-- RS-485 port (25) -/
  | rs
  /-- commands that wait, first in first out; the model's own -/
  | pending
  deriving DecidableEq, Repr

/-- A state with the blocks of a mask put back to their reset value: two states that agree when these are forgotten differ at most in
those blocks. -/
def forget (m : Block → Bool) (s : State) : State :=
  { ident := if m .ident then State.reset.ident else s.ident
    clk := if m .clk then State.reset.clk else s.clk
    pwr := if m .pwr then State.reset.pwr else s.pwr
    dom := if m .dom then State.reset.dom else s.dom
    mode := if m .mode then State.reset.mode else s.mode
    hold := if m .hold then State.reset.hold else s.hold
    recl := if m .recl then State.reset.recl else s.recl
    inp := if m .inp then State.reset.inp else s.inp
    sie := if m .sie then State.reset.sie else s.sie
    met := if m .met then State.reset.met else s.met
    cal := if m .cal then State.reset.cal else s.cal
    led := if m .led then State.reset.led else s.led
    bil := if m .bil then State.reset.bil else s.bil
    hatch := if m .hatch then State.reset.hatch else s.hatch
    par := if m .par then State.reset.par else s.par
    shu := if m .shu then State.reset.shu else s.shu
    sag := if m .sag then State.reset.sag else s.sag
    snap := if m .snap then State.reset.snap else s.snap
    pq := if m .pq then State.reset.pq else s.pq
    kiln := if m .kiln then State.reset.kiln else s.kiln
    dma := if m .dma then State.reset.dma else s.dma
    veh := if m .veh then State.reset.veh else s.veh
    lsw := if m .lsw then State.reset.lsw else s.lsw
    con := if m .con then State.reset.con else s.con
    disp := if m .disp then State.reset.disp else s.disp
    mc := if m .mc then State.reset.mc else s.mc
    lin := if m .lin then State.reset.lin else s.lin
    hng := if m .hng then State.reset.hng else s.hng
    upd := if m .upd then State.reset.upd else s.upd
    adc := if m .adc then State.reset.adc else s.adc
    nl := if m .nl then State.reset.nl else s.nl
    diag := if m .diag then State.reset.diag else s.diag
    rs := if m .rs then State.reset.rs else s.rs
    pending := if m .pending then State.reset.pending else s.pending }

/-- At most the listed blocks differ between two states. -/
def onlyChanges (l : List Block) (s t : State) : Prop := forget l.contains t = forget l.contains s

/-- Between two states the entries that wait to become durable keep their order, and one of this code joins them (R188). -/
def Waits (code : Nat) (s t : State) : Prop :=
  ∃ l : List Event, t.led.eventsWait = s.led.eventsWait ++ l ∧ l.any (fun e => e.code == code) = true

/-- Between two states one entry of this code became durable in the event log, under the next INDEX (R188). -/
def Stored (code : Nat) (s t : State) : Prop :=
  ∃ e : Event, t.led.events = pushRing 4096 s.led.events e ∧ e.code = code ∧ e.index = s.led.nextEvent

/-- One of the two ledger-state copies is valid and holds the billing values of this state (R234). -/
def LsSaved (t : State) : Prop :=
  ∃ c : LsCopy, (t.led.lsA = some c ∨ t.led.lsB = some c) ∧ c.valid = true ∧ c.bil = lsValues t.bil

/-- The blocks every reply can reach: the queues and stored replies of Hatch, and for a sender on the fabric or at the
Letterbox the blocks that carry its reply (R277, R423, R467). -/
abbrev replyParts : List Block := [.hatch, .con, .mc, .lin, .diag]

/-- All blocks but ident, par, pending: what a restart reaches. -/
abbrev restartParts : List Block :=
  [.clk, .pwr, .dom, .mode, .hold, .recl, .inp, .sie, .met, .cal, .led, .bil, .hatch, .shu, .sag, .snap, .pq, .kiln, .dma,
      .veh, .lsw, .con, .disp, .mc, .lin, .hng, .upd, .adc, .nl, .diag, .rs]

/-- The blocks a command may change. -/
def touches : Instr → List Block
  | .mainsApplied _ => [.clk, .pwr, .mode]
  | .railsGood => [.pwr, .dom, .bil, .nl]
  | .d1Start _ _ _ => [.dom, .led, .hatch, .par, .shu, .hng, .upd, .diag]
  | .d2Start _ _ _ => [.clk, .pwr, .dom, .mode, .recl, .inp, .sie, .met, .cal, .led, .bil, .hatch, .par, .shu, .pq,
      .veh, .con, .hng, .upd, .diag]
  | .d3LeavesReset _ _ _ _ _ _ _ _ _ => restartParts
  | .readyRises => replyParts ++ [.clk, .dom, .led, .shu, .sag, .veh, .nl]
  | .vholdReachesThreshold => [.pwr]
  | .holdupCapMeasured _ => [.clk, .pwr, .hold, .led]
  | .vholdChargeTimeout => [.clk, .hold, .led]
  | .firstModeEntered _ => restartParts
  | .interimToService => replyParts ++ [.mode, .hng, .nl, .rs]
  | .sysModeGet _ => replyParts ++ [.clk, .dom, .mode, .recl, .inp, .sie, .cal, .bil, .shu, .sag, .kiln, .veh, .lsw,
      .hng]
  | .sysModeRequest _ _ => replyParts ++ [.mode]
  | .modeChangeEffective => restartParts
  | .sysReset _ _ => replyParts ++ [.mode]
  | .sysResetBegin => restartParts
  | .sysHoldupInfo _ => replyParts
  | .watchDelayExpiry => replyParts ++ [.mode, .hng, .nl, .rs]
  | .watchWake _ => replyParts ++ [.clk, .mode, .hng, .nl, .rs]
  | .mainsFailDetection _ => replyParts ++ [.clk, .pwr, .mode, .hold, .recl, .cal, .led, .bil, .shu, .pq, .dma, .veh,
      .lsw, .nl, .rs]
  | .mainsAbsentDecision => [.clk, .hold, .inp, .met, .led, .hatch, .snap, .pq, .hng, .diag]
  | .finalSignedReading => replyParts ++ [.clk, .hold, .inp, .met, .led, .bil, .shu, .sag, .pq, .veh, .hng]
  | .holdupDisplayDecision => [.hold, .hatch, .disp, .diag]
  | .holdupSequenceEnd => restartParts
  | .hrstLow _ => restartParts
  | .watchdogExpiry => restartParts
  | .enginePoolFault => restartParts
  | .timebaseFault => [.clk, .dom, .recl, .inp, .sie, .met, .cal, .led, .hatch, .shu, .pq, .veh, .hng, .upd, .diag]
  | .spyholeReset => restartParts
  | .reclaimTimerExpiry => [.clk, .recl, .hatch, .shu, .veh, .diag]
  | .railWarning => [.dom, .inp, .met, .cal, .led, .hatch, .snap, .pq, .hng, .diag]
  | .statusFrame _ _ _ _ _ _ => [.recl, .inp, .led, .hatch, .shu, .sag, .veh, .hng, .upd, .diag]
  | .sample400k _ => [.recl, .inp, .sie, .cal, .led, .hatch, .shu, .pq, .veh, .hng, .upd, .nl, .diag]
  | .mainPathSample => [.hold, .inp, .sie, .met, .cal, .led, .hatch, .snap, .pq, .hng, .diag]
  | .epochStateCapture => [.clk, .pwr, .dom, .inp, .cal, .led, .bil, .snap, .pq, .kiln]
  | .epochLatch => [.recl, .inp, .sie, .met, .cal, .led, .hatch, .shu, .snap, .pq, .veh, .hng, .upd, .diag]
  | .journalAppendComplete _ _ => [.hold, .inp, .met, .led, .hatch, .snap, .pq, .hng, .diag]
  | .journalNotDurable => [.recl, .inp, .led, .hatch, .shu, .veh, .hng, .upd, .diag]
  | .meteringStopOpen => [.clk, .recl, .inp, .led, .hatch, .shu, .pq, .nl, .diag]
  | .meteringFaultEnd _ _ _ => [.clk, .inp, .led, .hatch, .diag]
  | .peWindowEval => [.inp]
  | .magField => [.clk, .inp, .led, .hatch, .shu, .sag, .veh, .diag]
  | .magFieldEnd => [.clk, .inp, .led, .hatch, .sag, .diag]
  | .overrangeClose _ => [.inp, .led]
  | .gainMismatch _ => [.inp, .led]
  | .sieveSaturationClose _ => [.sie, .led]
  | .metInputStatus _ => replyParts ++ [.clk, .dom, .mode, .recl, .inp, .sie, .cal, .bil, .shu, .sag, .kiln, .veh,
      .lsw, .hng]
  | .metInputSelftest _ _ => replyParts ++ [.inp]
  | .selftestEnd _ => replyParts ++ [.clk, .inp, .led]
  | .metSieveStatus _ => replyParts ++ [.clk, .dom, .mode, .recl, .inp, .sie, .cal, .bil, .shu, .sag, .kiln, .veh,
      .lsw, .hng]
  | .metSieveHalt _ _ => replyParts ++ [.sie]
  | .sieveStop => [.sie, .cal]
  | .sieveRestart => [.inp, .sie, .met, .led, .par]
  | .metSieveSetLoad _ _ => replyParts ++ [.sie, .upd]
  | .metEnergyRead _ => replyParts
  | .metDeltaRead _ _ _ => replyParts ++ [.met, .led]
  | .delayedReadAndReset => replyParts ++ [.met, .led]
  | .metMeasRead _ => replyParts
  | .metSumsRead _ _ => replyParts
  | .neutralMismatch => [.clk, .met, .led, .hatch, .shu, .sag, .veh, .diag]
  | .reverseFlow _ => [.clk, .met, .led, .hatch, .shu, .sag, .veh, .diag]
  | .cfPulseEdge _ => [.clk, .cal]
  | .cfPulseEnd _ => [.clk, .cal]
  | .metCalMeasure _ _ _ => replyParts ++ [.cal]
  | .calMeasureSpanEnd => replyParts ++ [.cal]
  | .metCalCommit _ => replyParts ++ [.inp, .cal, .led]
  | .metTempTableLoad _ _ => replyParts ++ [.cal]
  | .metTempStatus _ => replyParts ++ [.clk, .dom, .mode, .recl, .inp, .sie, .cal, .bil, .shu, .sag, .kiln, .veh,
      .lsw, .hng]
  | .metLrId _ => replyParts
  | .paramEffective _ => replyParts ++ [.inp, .cal, .led, .bil, .par, .hng, .nl, .rs]
  | .urmsHalfSegmentEnd => [.clk, .hatch, .shu, .pq, .diag]
  | .pqArm => [.clk, .pq]
  | .metPqSummary _ _ => replyParts ++ [.clk]
  | .metPqHarmRead _ _ _ => replyParts
  | .metPqShRead _ _ _ => replyParts
  | .metPqEventRead _ _ _ => replyParts
  | .ledSnapshotRead _ => replyParts
  | .ledSeriesRead _ _ _ _ => replyParts ++ [.clk]
  | .ledWaveCapture _ _ _ => replyParts ++ [.led]
  | .waveCaptureCopy => replyParts ++ [.led, .dma]
  | .ledSignReading _ _ => replyParts ++ [.led]
  | .signatureComplete => replyParts ++ [.led, .bil, .sag]
  | .periodicReadingDue => [.led]
  | .ledStatus _ => replyParts
  | .bilTimeSet _ _ _ _ => replyParts ++ [.led, .bil]
  | .timeChangeEffective => [.led, .bil, .hatch, .con, .nl, .diag]
  | .slewComplete => [.bil]
  | .bilTimeGet _ => replyParts
  | .bilTzLoad _ _ => replyParts ++ [.led, .bil]
  | .bilCalendarLoad _ _ => replyParts ++ [.led, .bil]
  | .bilTariffRead _ => replyParts
  | .civilBoundary => [.led, .bil, .hatch, .shu, .veh, .con, .diag]
  | .bilBillingClose _ => replyParts ++ [.led, .bil]
  | .commandBillingClose => replyParts ++ [.led, .bil]
  | .bilBillingRead _ _ => replyParts
  | .bilCreditTransfer _ _ => replyParts ++ [.led, .bil, .shu, .sag, .veh]
  | .bilCreditStatus _ => replyParts
  | .bilEmergencyActivate _ => replyParts ++ [.led, .bil]
  | .bilDisconnect _ _ => replyParts ++ [.led, .bil, .shu, .veh]
  | .km1FeedbackMismatch _ => [.led, .bil, .hatch, .diag]
  | .speedMonitor _ _ _ _ => [.hatch, .kiln, .diag]
  | .speedRestored => [.hatch, .kiln, .diag]
  | .kilnTaskRelease _ _ _ _ => [.clk, .kiln]
  | .kilnTaskRun _ => replyParts ++ [.clk, .met, .led, .bil, .shu, .pq, .kiln, .veh, .hng]
  | .kilnSteal _ => replyParts ++ [.clk, .met, .led, .bil, .shu, .pq, .kiln, .veh, .hng]
  | .kilnDeadlineMiss _ _ => [.clk, .led, .kiln]
  | .shedChanged => [.hatch, .kiln, .diag]
  | .cellHandshakeTimeout _ => [.clk, .hatch, .shu, .kiln, .veh, .diag]
  | .cellMemoryError _ => [.clk, .hatch, .shu, .kiln, .veh, .diag]
  | .crossCheck _ _ _ _ _ => [.clk, .hatch, .shu, .kiln, .veh, .diag]
  | .semaphoreRead _ _ => [.kiln]
  | .semaphoreRelease _ _ _ => [.kiln]
  | .semHostTimeout _ => [.clk, .hatch, .kiln, .diag]
  | .wedgeRegisterWrite _ _ _ => [.kiln]
  | .kilnStatus _ => replyParts ++ [.clk, .dom, .mode, .recl, .inp, .sie, .cal, .bil, .shu, .sag, .kiln, .veh, .lsw,
      .hng]
  | .wedgeStatus _ => replyParts
  | .h2mDataWrite _ _ => [.hatch]
  | .hatchPacketTake _ => replyParts
  | .h2mAckRead _ => [.hatch]
  | .h2mFlush _ => [.hatch]
  | .h2mOverflowClear _ => [.hatch]
  | .m2hDataRead _ => [.hatch]
  | .m2hAckWrite _ _ => [.hatch]
  | .m2hUnderflowClear _ => [.hatch]
  | .irqStatusClear _ => [.hatch]
  | .registerWrite _ _ => [.hatch, .dma]
  | .hatchQueuePlacement _ => [.hatch]
  | .paramGet _ _ => replyParts
  | .paramSet _ _ _ _ => replyParts ++ [.inp, .cal, .led, .bil, .par, .shu, .hng, .nl, .rs]
  | .hatchStatus _ => replyParts
  | .brixoEthDatagram _ _ _ _ => replyParts
  | .ipReassemblyTimeout => [.clk, .hatch]
  | .dctrlWrite _ _ => [.hatch, .dma, .diag]
  | .dmaChannelAbort _ => [.hatch, .dma, .diag]
  | .descriptorStagingWrite _ _ _ => [.dma]
  | .descriptorCommit _ _ => [.dma]
  | .dstatClear _ _ => [.dma]
  | .dmaDescriptorStart _ _ => [.hatch, .dma, .diag]
  | .dmaBurst _ => [.clk, .hatch, .dma, .diag]
  | .dmaWriteBack _ _ => [.hatch, .dma, .diag]
  | .dmaStatus _ => replyParts
  | .dmaAbort _ _ => replyParts ++ [.dma]
  | .cpStateChange _ _ => [.clk, .mode, .led, .bil, .hatch, .shu, .veh, .mc, .lin, .nl, .diag]
  | .ppStateChange _ => [.led, .bil, .hatch, .shu, .veh, .mc, .lin, .diag]
  | .slacMessage _ => [.hatch, .shu, .veh, .diag]
  | .slacTimeout => [.clk, .hatch, .shu, .veh, .diag]
  | .v2gMessage _ => [.clk, .led, .bil, .hatch, .shu, .sag, .veh, .mc, .lin, .diag]
  | .authTimeout => [.clk, .hatch, .veh, .diag]
  | .overdraw => [.clk, .hatch, .shu, .veh, .diag]
  | .vehStatus _ => replyParts ++ [.clk, .dom, .mode, .recl, .inp, .sie, .cal, .bil, .shu, .sag, .kiln, .veh, .lsw,
      .hng]
  | .vehAuthorise _ _ _ _ => replyParts ++ [.led, .bil, .shu, .veh]
  | .vehLimitsSet _ _ _ _ _ => replyParts ++ [.veh]
  | .vehStop _ _ => replyParts ++ [.shu, .veh]
  | .vehAvailability _ _ => replyParts ++ [.shu, .veh]
  | .vehCertLoad _ _ _ => replyParts ++ [.veh]
  | .vehRelayAnswer _ _ _ => replyParts ++ [.veh]
  | .sessionClose => [.led, .bil, .hatch, .shu, .veh, .con, .diag]
  | .canFrameReceived _ => [.veh]
  | .canFrameSend => [.veh]
  | .powerModuleLost _ => [.clk, .hatch, .shu, .veh, .mc, .lin, .diag]
  | .cableCheckReady => [.hatch, .shu, .veh, .diag]
  | .cableCheckTimeout => [.clk, .hatch, .shu, .veh, .diag]
  | .prechargeComplete => [.veh]
  | .prechargeTimeout => [.clk, .hatch, .shu, .veh, .diag]
  | .dcDischargeEnd => [.clk, .led, .hatch, .shu, .veh, .hng, .upd, .diag]
  | .shutterEvaluationCycle _ => [.clk, .recl, .led, .hatch, .shu, .pq, .veh, .hng, .upd, .nl, .diag]
  | .channelDisagreement => [.clk, .recl, .led, .hatch, .shu, .pq, .veh, .hng, .upd, .nl, .diag]
  | .channelLinkLoss => [.clk, .recl, .led, .hatch, .shu, .pq, .veh, .hng, .upd, .nl, .diag]
  | .close => [.clk, .hatch, .shu, .nl, .diag]
  | .openOrderly _ => [.clk, .recl, .hatch, .shu, .veh, .diag]
  | .openNow _ => [.clk, .hatch, .shu, .pq, .nl, .diag]
  | .pwm _ => [.clk, .hatch, .shu, .diag]
  | .limit _ _ => [.clk, .hatch, .shu, .diag]
  | .reclaim => [.clk, .recl, .hatch, .shu, .veh, .diag]
  | .reset _ => [.clk, .led, .hatch, .shu, .diag]
  | .rcmTest => [.clk, .hatch, .shu, .diag]
  | .orderlyStopWaitEnd => [.clk, .recl, .led, .hatch, .shu, .pq, .nl, .diag]
  | .kmPullinEnd => [.clk, .shu]
  | .openCoil _ => [.clk, .recl, .led, .hatch, .shu, .pq, .veh, .hng, .upd, .nl, .diag]
  | .kfbTimeout => [.clk, .recl, .led, .hatch, .shu, .pq, .veh, .hng, .upd, .nl, .diag]
  | .estopLineOpen _ _ => [.clk, .recl, .led, .hatch, .shu, .pq, .veh, .hng, .upd, .nl, .diag]
  | .estopDiscrep _ => [.clk, .recl, .led, .hatch, .shu, .pq, .veh, .hng, .upd, .nl, .diag]
  | .estopTestPulse _ _ => [.clk, .recl, .led, .hatch, .shu, .pq, .veh, .hng, .upd, .nl, .diag]
  | .rcmSelftestStepEnd _ => replyParts ++ [.clk, .recl, .led, .shu, .pq, .veh, .hng, .upd, .nl]
  | .rcmSelftestAge => [.clk, .shu]
  | .iPermHoldEnd => [.clk, .shu]
  | .weldTest => [.clk, .led, .hatch, .shu, .hng, .upd, .diag]
  | .coilSupplyLow _ => [.clk, .recl, .led, .hatch, .shu, .pq, .veh, .hng, .upd, .nl, .diag]
  | .sresetRelease _ => [.led, .hatch, .shu, .diag]
  | .sresetStuck => [.led, .hatch, .shu, .hng, .upd, .diag]
  | .pendingResetLapse => [.clk, .hatch, .shu, .diag]
  | .cpStateAHeld => [.clk, .led, .hatch, .shu, .diag]
  | .shuStatus _ => replyParts ++ [.clk, .dom, .mode, .recl, .inp, .sie, .cal, .bil, .shu, .sag, .kiln, .veh, .lsw,
      .hng]
  | .shuReset _ _ => replyParts ++ [.led, .shu]
  | .shuConfigOpen _ _ _ => replyParts ++ [.shu]
  | .shuConfigClose _ => replyParts ++ [.shu]
  | .shuPasswordSet _ _ _ => replyParts ++ [.clk, .shu]
  | .shuRcmTest _ => replyParts ++ [.shu]
  | .shuLogRead _ _ _ => replyParts
  | .configSessionIdle => [.clk, .shu]
  | .lockoutEnd => [.clk, .shu]
  | .lswStatus _ => replyParts ++ [.clk, .dom, .mode, .recl, .inp, .sie, .cal, .bil, .shu, .sag, .kiln, .veh, .lsw,
      .hng]
  | .lswControl _ _ _ _ => replyParts ++ [.lsw]
  | .lswThermalOff _ _ => [.hatch, .lsw, .diag]
  | .lswIlimTimeout _ => [.clk, .hatch, .lsw, .diag]
  | .lswLatchRelease _ _ => [.clk, .hatch, .lsw, .diag]
  | .lswRetryRefill _ => [.clk, .lsw]
  | .lswPulseEnd _ => [.clk, .lsw]
  | .lswOpenLoad _ _ => [.clk, .hatch, .lsw, .diag]
  | .lswOffStateShort _ => [.hatch, .lsw, .diag]
  | .vauxUndervoltage _ => [.lsw]
  | .vauxRecovery _ => [.lsw]
  | .vauxPowerCycle _ => [.lsw]
  | .vauxGndOpen => [.clk, .hatch, .lsw, .diag]
  | .vauxGndRestored => [.clk, .hatch, .lsw, .diag]
  | .loadDump _ => [.clk, .hatch, .lsw, .diag]
  | .sagStatus _ => replyParts ++ [.sag]
  | .sagSlotInfo _ _ => replyParts ++ [.led, .sag]
  | .sagKeyGenerate _ _ _ _ _ => replyParts ++ [.clk, .led, .sag]
  | .sagKeyWrite _ _ _ _ _ _ => replyParts ++ [.led, .sag]
  | .sagKeyImport _ _ _ _ _ _ _ => replyParts ++ [.led, .sag]
  | .sagKeyDerive _ _ _ _ _ _ _ => replyParts ++ [.led, .sag]
  | .sagKeyErase _ _ => replyParts ++ [.sag]
  | .sagPubkeyExport _ _ _ _ => replyParts ++ [.led, .sag]
  | .sagCertAttach _ _ _ => replyParts ++ [.led, .sag]
  | .sagLifecycleSet _ _ _ => replyParts ++ [.sag]
  | .lifecycleRestart => restartParts
  | .sagTamperAck _ _ => replyParts ++ [.sag]
  | .sagUnlockChallenge _ => replyParts ++ [.clk, .sag]
  | .tampSample _ => [.clk, .led, .hatch, .shu, .sag, .veh, .nl, .diag]
  | .earthLoading => [.clk, .led, .hatch, .shu, .sag, .veh, .diag]
  | .meshBreach _ => [.led, .hatch, .sag, .diag]
  | .dbgEnableWrite _ => [.sag]
  | .spyholeDebugAccess _ _ _ => [.clk, .sag]
  | .pollCycle _ => [.clk, .hatch, .veh, .con, .diag]
  | .lowPowerDetectPulse _ => [.clk, .con, .nl]
  | .conStatus _ => replyParts
  | .conTune _ _ _ => replyParts
  | .conListLoad _ _ => replyParts
  | .conLbRead _ _ _ => replyParts
  | .conLbWrite _ _ _ _ => replyParts
  | .conLbConfig _ _ _ _ _ => replyParts
  | .inventory _ _ => [.clk, .con]
  | .stayQuiet _ => [.con]
  | .select _ => [.con]
  | .resetToReady _ => [.con]
  | .getSystemInformation _ => [.con]
  | .readSingleBlock _ _ => [.con]
  | .readMultipleBlocks _ _ _ => [.con]
  | .writeSingleBlock _ _ _ _ => [.hatch, .con, .diag]
  | .writeMultipleBlocks _ _ _ _ => [.hatch, .con, .diag]
  | .lbUnsupportedCommand _ => [.con]
  | .lbFieldDrop => [.con]
  | .lbBrixoRequest => replyParts
  | .letterboxSummaryWrite _ => [.hold, .hatch, .con, .diag]
  | .dispStatus _ => replyParts
  | .dispImageWrite _ _ _ _ => replyParts ++ [.disp]
  | .dispUpdate _ _ _ _ _ _ _ => replyParts ++ [.disp, .nl]
  | .dispClean _ => replyParts ++ [.disp]
  | .imageCopyComplete => [.disp]
  | .dispRailsGood => [.clk, .disp]
  | .dispFrameEnd => [.clk, .hatch, .disp, .diag]
  | .dispRailsDown => [.clk, .disp]
  | .dispRailFault => [.hatch, .disp, .diag]
  | .waitingUpdateCheck => [.disp]
  | .waitingUpdateTimeout => [.clk, .hatch, .disp, .diag]
  | .transomRefresh => [.disp]
  | .supplyZeroCrossing _ _ => [.clk, .pq, .mc, .lin]
  | .mcFrameBegin => [.mc]
  | .mcDataFrame _ _ _ _ _ => replyParts ++ [.led, .bil, .shu, .veh, .upd, .nl]
  | .mcAckFrame _ _ _ _ _ _ _ => [.hatch, .mc, .lin, .nl, .diag]
  | .toneMapRequest _ _ _ _ => [.hatch, .mc, .nl, .diag]
  | .toneMapReply _ _ _ _ _ _ => [.hatch, .mc, .nl, .diag]
  | .beacon _ _ _ => [.hatch, .mc, .lin, .upd, .diag]
  | .mcAckWindowExpiry => [.hatch, .mc, .lin, .diag]
  | .mcIncompleteFrameDiscard _ _ => [.clk, .mc]
  | .toneMapRefreshDue _ => [.clk, .mc]
  | .mcNeighbourLost _ => [.clk, .hatch, .mc, .lin, .diag]
  | .beaconTimer => [.clk, .mc]
  | .mcStatus _ => replyParts
  | .mcNeighbourRead _ _ _ => replyParts
  | .mcTonemapRefresh _ _ => replyParts
  | .helloTimer => [.clk, .lin]
  | .helloReceived _ _ => [.hatch, .mc, .lin, .upd, .diag]
  | .linkDown _ _ => [.clk, .hatch, .mc, .lin, .diag]
  | .linkRetransmitTimeout _ _ => [.clk, .lin]
  | .routeTimer => [.clk, .mc, .lin]
  | .addressConflictClear => [.clk, .mc, .lin]
  | .fabricPacketReceived _ _ _ _ _ _ => replyParts ++ [.led, .bil, .shu, .veh, .upd, .nl]
  | .fragmentReassemblyTimeout _ _ => [.clk, .lin]
  | .ethernetFrame _ _ _ => [.lin]
  | .borrowTick => [.clk, .mc, .lin]
  | .tokenLendable _ => [.clk, .lin]
  | .tokenRequest _ => [.led, .bil, .hatch, .shu, .veh, .mc, .lin, .diag]
  | .tokenGrant _ => [.led, .bil, .hatch, .shu, .veh, .mc, .lin, .diag]
  | .tokenAccept _ => [.led, .bil, .hatch, .shu, .veh, .mc, .lin, .diag]
  | .tokenCommit _ => [.led, .bil, .hatch, .shu, .veh, .mc, .lin, .diag]
  | .tokenAbort _ => [.led, .bil, .hatch, .shu, .veh, .mc, .lin, .diag]
  | .tokenRenew _ => [.led, .bil, .hatch, .shu, .veh, .mc, .lin, .diag]
  | .tokenRenewed _ => [.led, .bil, .hatch, .shu, .veh, .mc, .lin, .diag]
  | .tokenReturn _ => [.led, .bil, .hatch, .shu, .veh, .mc, .lin, .diag]
  | .tokenRecall _ => [.led, .bil, .hatch, .shu, .veh, .mc, .lin, .diag]
  | .tokenAcceptTimeout _ _ => [.clk, .led, .bil, .hatch, .shu, .veh, .mc, .lin, .diag]
  | .tokenCommitWait _ _ => [.clk, .mc, .lin]
  | .leaseHalf _ _ => [.clk, .led, .bil, .hatch, .shu, .veh, .mc, .lin, .diag]
  | .leaseRelease _ _ => [.clk, .led, .bil, .hatch, .shu, .veh, .mc, .lin, .diag]
  | .leaseExpiry _ _ => [.clk, .led, .bil, .hatch, .shu, .veh, .mc, .lin, .diag]
  | .recallReturnTimer _ _ => [.clk, .mc, .lin]
  | .reissueClockExpiry _ _ => [.clk, .led, .bil, .hatch, .shu, .veh, .mc, .lin, .diag]
  | .quarantineEnd => [.clk, .led, .bil, .hatch, .shu, .veh, .mc, .lin, .diag]
  | .linStatus _ => replyParts
  | .linTokenStatus _ => replyParts
  | .linForward _ _ _ => replyParts
  | .linForwardTimeout => replyParts ++ [.clk]
  | .peerClaimFrame _ _ _ _ => [.recl, .hatch, .shu, .lsw, .hng, .nl, .diag]
  | .peerClaimSilence => [.clk, .recl, .hatch, .shu, .lsw, .hng, .nl, .diag]
  | .hingeHeartbeat _ _ _ _ _ => [.recl, .hatch, .shu, .lsw, .hng, .nl, .diag]
  | .hingeEpochMessage _ => [.met, .led, .bil, .hatch, .veh, .hng, .diag]
  | .hingeTakeover => [.clk, .met, .led, .bil, .hatch, .hng, .diag]
  | .yieldWithdraw => [.clk, .hng]
  | .hingeIsolated => [.clk, .hatch, .hng, .diag]
  | .hingeRoleResume => [.clk, .recl, .hatch, .shu, .lsw, .hng, .nl, .diag]
  | .hingeResync _ _ _ => [.met, .led, .bil, .hatch, .veh, .hng, .diag]
  | .hingeProofTest _ _ _ _ _ _ _ => [.clk, .recl, .led, .hatch, .shu, .pq, .veh, .hng, .upd, .nl, .diag]
  | .hngStatus _ => replyParts ++ [.clk, .dom, .mode, .recl, .inp, .sie, .cal, .bil, .shu, .sag, .kiln, .veh, .lsw,
      .hng]
  | .hngSwitch _ => replyParts ++ [.hng]
  | .hngForce _ _ => replyParts ++ [.hng]
  | .hngProofRun _ => replyParts ++ [.hng]
  | .updStatus _ => replyParts
  | .updStageBegin _ _ => replyParts ++ [.upd]
  | .updStageWrite _ _ _ _ => replyParts ++ [.upd]
  | .updVerify _ => replyParts ++ [.upd]
  | .verifyComplete => [.hatch, .mc, .lin, .upd, .diag]
  | .updActivate _ _ => replyParts ++ [.upd]
  | .activationRestart _ => restartParts
  | .updConfirm _ => replyParts ++ [.mode, .led, .upd]
  | .autoConfirm => [.clk, .mode, .led, .hatch, .upd, .diag]
  | .trialTimeout => restartParts
  | .chainOffer _ _ => [.hatch, .mc, .lin, .upd, .diag]
  | .chainRequest _ _ _ _ => [.hatch, .mc, .lin, .upd, .diag]
  | .chainChunk _ _ _ _ => [.hatch, .mc, .lin, .upd, .diag]
  | .chainHave _ _ => [.hatch, .mc, .lin, .upd, .diag]
  | .chainFetchTimeout => [.clk, .mc, .lin, .upd]
  | .adcConversionComplete _ _ _ _ _ => replyParts ++ [.pwr, .led, .bil, .shu, .kiln, .veh, .lsw, .adc, .nl]
  | .urgentAdcRequest _ _ _ => [.adc]
  | .adcTrigEdge _ _ _ => [.adc]
  | .iTempRaiseStep => [.clk, .led, .bil, .hatch, .shu, .veh, .mc, .lin, .adc, .diag]
  | .rtcDiscipline _ => [.nl]
  | .idleCheckArm => [.clk, .nl]
  | .idleCurrentBlock => [.clk, .led, .hatch, .shu, .sag, .veh, .nl, .diag]
  | .watchRule _ => [.clk, .hatch, .nl, .diag]
  | .wakeOutPulseEnd => [.clk, .nl]
  | .auxRead _ _ => replyParts
  | .auxConvert _ _ _ => replyParts ++ [.adc]
  | .auxTrigRead _ _ => replyParts ++ [.adc]
  | .nlStatus _ => replyParts
  | .nlWakeAck _ => replyParts ++ [.nl]
  | .diagTokenRefill _ => [.clk, .diag]
  | .diagStatus _ => replyParts
  | .diagRead _ _ _ => replyParts
  | .diagFreeze _ _ => replyParts
  | .diagClear _ => replyParts
  | .freezeTimeout => [.clk, .hatch, .diag]
  | .rs485ByteReceived _ _ _ => [.rs]
  | .rs485FrameEnd => [.clk, .hatch, .diag, .rs]
  | .sysRs485Send _ _ _ => replyParts ++ [.rs]
  | .rs485SendComplete => replyParts ++ [.clk, .rs]
  | .railsFall => restartParts
  | .vbatApplied => [.pwr, .dom, .nl]
  | .hspiCsFalling _ _ => [.clk, .hatch, .kiln, .dma, .nl, .diag]
  | .v12OutOverload => [.pwr]
  | .v12OutRestart => [.clk, .pwr]
  | .vauxInReversed => [.clk, .hatch, .shu, .pq, .lsw, .nl, .diag]
  | .addressTableAgeing _ => [.clk, .lin]
  | .hingeEpochAck _ => [.hng]

/-- A request that firmware takes, and that passes every check of R283 before those of its own chapter. -/
def Taken (code : Nat) (r : Req) (s : State) : Prop := serving s = true ∧ precheck s code r = none

/-- The chapter of the manual that a command's own rule stands in. -/
def chapterOf : Instr → Nat
  | .mainsApplied _ => 2
  | .railsGood => 2
  | .d1Start _ _ _ => 2
  | .d2Start _ _ _ => 8
  | .d3LeavesReset _ _ _ _ _ _ _ _ _ => 11
  | .readyRises => 11
  | .vholdReachesThreshold => 2
  | .holdupCapMeasured _ => 2
  | .vholdChargeTimeout => 2
  | .firstModeEntered _ => 2
  | .interimToService => 2
  | .sysModeGet _ => 2
  | .sysModeRequest _ _ => 2
  | .modeChangeEffective => 2
  | .sysReset _ _ => 2
  | .sysResetBegin => 2
  | .sysHoldupInfo _ => 2
  | .watchDelayExpiry => 2
  | .watchWake _ => 2
  | .mainsFailDetection _ => 2
  | .mainsAbsentDecision => 2
  | .finalSignedReading => 2
  | .holdupDisplayDecision => 18
  | .holdupSequenceEnd => 2
  | .hrstLow _ => 2
  | .watchdogExpiry => 2
  | .enginePoolFault => 2
  | .timebaseFault => 2
  | .spyholeReset => 2
  | .reclaimTimerExpiry => 2
  | .railWarning => 8
  | .statusFrame _ _ _ _ _ _ => 3
  | .sample400k _ => 3
  | .mainPathSample => 5
  | .epochStateCapture => 1
  | .epochLatch => 1
  | .journalAppendComplete _ _ => 8
  | .journalNotDurable => 8
  | .meteringStopOpen => 3
  | .meteringFaultEnd _ _ _ => 3
  | .peWindowEval => 3
  | .magField => 3
  | .magFieldEnd => 3
  | .overrangeClose _ => 3
  | .gainMismatch _ => 3
  | .sieveSaturationClose _ => 4
  | .metInputStatus _ => 3
  | .metInputSelftest _ _ => 3
  | .selftestEnd _ => 3
  | .metSieveStatus _ => 4
  | .metSieveHalt _ _ => 4
  | .sieveStop => 4
  | .sieveRestart => 4
  | .metSieveSetLoad _ _ => 4
  | .metEnergyRead _ => 5
  | .metDeltaRead _ _ _ => 8
  | .delayedReadAndReset => 8
  | .metMeasRead _ => 5
  | .metSumsRead _ _ => 5
  | .neutralMismatch => 5
  | .reverseFlow _ => 5
  | .cfPulseEdge _ => 6
  | .cfPulseEnd _ => 6
  | .metCalMeasure _ _ _ => 6
  | .calMeasureSpanEnd => 6
  | .metCalCommit _ => 6
  | .metTempTableLoad _ _ => 6
  | .metTempStatus _ => 6
  | .metLrId _ => 6
  | .paramEffective _ => 11
  | .urmsHalfSegmentEnd => 7
  | .pqArm => 7
  | .metPqSummary _ _ => 7
  | .metPqHarmRead _ _ _ => 7
  | .metPqShRead _ _ _ => 7
  | .metPqEventRead _ _ _ => 7
  | .ledSnapshotRead _ => 8
  | .ledSeriesRead _ _ _ _ => 8
  | .ledWaveCapture _ _ _ => 8
  | .waveCaptureCopy => 8
  | .ledSignReading _ _ => 8
  | .signatureComplete => 8
  | .periodicReadingDue => 8
  | .ledStatus _ => 8
  | .bilTimeSet _ _ _ _ => 9
  | .timeChangeEffective => 9
  | .slewComplete => 9
  | .bilTimeGet _ => 9
  | .bilTzLoad _ _ => 9
  | .bilCalendarLoad _ _ => 9
  | .bilTariffRead _ => 9
  | .civilBoundary => 9
  | .bilBillingClose _ => 9
  | .commandBillingClose => 9
  | .bilBillingRead _ _ => 9
  | .bilCreditTransfer _ _ => 9
  | .bilCreditStatus _ => 9
  | .bilEmergencyActivate _ => 9
  | .bilDisconnect _ _ => 9
  | .km1FeedbackMismatch _ => 9
  | .speedMonitor _ _ _ _ => 10
  | .speedRestored => 10
  | .kilnTaskRelease _ _ _ _ => 10
  | .kilnTaskRun _ => 10
  | .kilnSteal _ => 10
  | .kilnDeadlineMiss _ _ => 10
  | .shedChanged => 10
  | .cellHandshakeTimeout _ => 10
  | .cellMemoryError _ => 10
  | .crossCheck _ _ _ _ _ => 10
  | .semaphoreRead _ _ => 10
  | .semaphoreRelease _ _ _ => 10
  | .semHostTimeout _ => 10
  | .wedgeRegisterWrite _ _ _ => 10
  | .kilnStatus _ => 10
  | .wedgeStatus _ => 10
  | .h2mDataWrite _ _ => 11
  | .hatchPacketTake _ => 11
  | .h2mAckRead _ => 11
  | .h2mFlush _ => 11
  | .h2mOverflowClear _ => 11
  | .m2hDataRead _ => 11
  | .m2hAckWrite _ _ => 11
  | .m2hUnderflowClear _ => 11
  | .irqStatusClear _ => 11
  | .registerWrite _ _ => 11
  | .hatchQueuePlacement _ => 11
  | .paramGet _ _ => 11
  | .paramSet _ _ _ _ => 11
  | .hatchStatus _ => 11
  | .brixoEthDatagram _ _ _ _ => 11
  | .ipReassemblyTimeout => 11
  | .dctrlWrite _ _ => 12
  | .dmaChannelAbort _ => 12
  | .descriptorStagingWrite _ _ _ => 12
  | .descriptorCommit _ _ => 12
  | .dstatClear _ _ => 12
  | .dmaDescriptorStart _ _ => 12
  | .dmaBurst _ => 12
  | .dmaWriteBack _ _ => 12
  | .dmaStatus _ => 12
  | .dmaAbort _ _ => 12
  | .cpStateChange _ _ => 13
  | .ppStateChange _ => 13
  | .slacMessage _ => 13
  | .slacTimeout => 13
  | .v2gMessage _ => 13
  | .authTimeout => 13
  | .overdraw => 13
  | .vehStatus _ => 13
  | .vehAuthorise _ _ _ _ => 13
  | .vehLimitsSet _ _ _ _ _ => 13
  | .vehStop _ _ => 13
  | .vehAvailability _ _ => 13
  | .vehCertLoad _ _ _ => 13
  | .vehRelayAnswer _ _ _ => 13
  | .sessionClose => 13
  | .canFrameReceived _ => 13
  | .canFrameSend => 13
  | .powerModuleLost _ => 13
  | .cableCheckReady => 13
  | .cableCheckTimeout => 13
  | .prechargeComplete => 13
  | .prechargeTimeout => 13
  | .dcDischargeEnd => 13
  | .shutterEvaluationCycle _ => 14
  | .channelDisagreement => 14
  | .channelLinkLoss => 14
  | .close => 14
  | .openOrderly _ => 14
  | .openNow _ => 14
  | .pwm _ => 14
  | .limit _ _ => 14
  | .reclaim => 2
  | .reset _ => 14
  | .rcmTest => 14
  | .orderlyStopWaitEnd => 14
  | .kmPullinEnd => 14
  | .openCoil _ => 14
  | .kfbTimeout => 14
  | .estopLineOpen _ _ => 14
  | .estopDiscrep _ => 14
  | .estopTestPulse _ _ => 14
  | .rcmSelftestStepEnd _ => 14
  | .rcmSelftestAge => 14
  | .iPermHoldEnd => 14
  | .weldTest => 14
  | .coilSupplyLow _ => 14
  | .sresetRelease _ => 14
  | .sresetStuck => 14
  | .pendingResetLapse => 14
  | .cpStateAHeld => 14
  | .shuStatus _ => 14
  | .shuReset _ _ => 14
  | .shuConfigOpen _ _ _ => 14
  | .shuConfigClose _ => 14
  | .shuPasswordSet _ _ _ => 14
  | .shuRcmTest _ => 14
  | .shuLogRead _ _ _ => 14
  | .configSessionIdle => 14
  | .lockoutEnd => 14
  | .lswStatus _ => 15
  | .lswControl _ _ _ _ => 15
  | .lswThermalOff _ _ => 15
  | .lswIlimTimeout _ => 15
  | .lswLatchRelease _ _ => 15
  | .lswRetryRefill _ => 15
  | .lswPulseEnd _ => 15
  | .lswOpenLoad _ _ => 15
  | .lswOffStateShort _ => 15
  | .vauxUndervoltage _ => 15
  | .vauxRecovery _ => 15
  | .vauxPowerCycle _ => 15
  | .vauxGndOpen => 15
  | .vauxGndRestored => 15
  | .loadDump _ => 15
  | .sagStatus _ => 16
  | .sagSlotInfo _ _ => 16
  | .sagKeyGenerate _ _ _ _ _ => 16
  | .sagKeyWrite _ _ _ _ _ _ => 16
  | .sagKeyImport _ _ _ _ _ _ _ => 16
  | .sagKeyDerive _ _ _ _ _ _ _ => 16
  | .sagKeyErase _ _ => 16
  | .sagPubkeyExport _ _ _ _ => 16
  | .sagCertAttach _ _ _ => 16
  | .sagLifecycleSet _ _ _ => 16
  | .lifecycleRestart => 16
  | .sagTamperAck _ _ => 16
  | .sagUnlockChallenge _ => 16
  | .tampSample _ => 16
  | .earthLoading => 16
  | .meshBreach _ => 16
  | .dbgEnableWrite _ => 16
  | .spyholeDebugAccess _ _ _ => 16
  | .pollCycle _ => 17
  | .lowPowerDetectPulse _ => 17
  | .conStatus _ => 17
  | .conTune _ _ _ => 17
  | .conListLoad _ _ => 17
  | .conLbRead _ _ _ => 17
  | .conLbWrite _ _ _ _ => 17
  | .conLbConfig _ _ _ _ _ => 17
  | .inventory _ _ => 17
  | .stayQuiet _ => 17
  | .select _ => 17
  | .resetToReady _ => 17
  | .getSystemInformation _ => 17
  | .readSingleBlock _ _ => 17
  | .readMultipleBlocks _ _ _ => 17
  | .writeSingleBlock _ _ _ _ => 17
  | .writeMultipleBlocks _ _ _ _ => 17
  | .lbUnsupportedCommand _ => 17
  | .lbFieldDrop => 17
  | .lbBrixoRequest => 17
  | .letterboxSummaryWrite _ => 17
  | .dispStatus _ => 18
  | .dispImageWrite _ _ _ _ => 18
  | .dispUpdate _ _ _ _ _ _ _ => 18
  | .dispClean _ => 18
  | .imageCopyComplete => 18
  | .dispRailsGood => 18
  | .dispFrameEnd => 18
  | .dispRailsDown => 18
  | .dispRailFault => 18
  | .waitingUpdateCheck => 18
  | .waitingUpdateTimeout => 18
  | .transomRefresh => 18
  | .supplyZeroCrossing _ _ => 19
  | .mcFrameBegin => 19
  | .mcDataFrame _ _ _ _ _ => 19
  | .mcAckFrame _ _ _ _ _ _ _ => 19
  | .toneMapRequest _ _ _ _ => 19
  | .toneMapReply _ _ _ _ _ _ => 19
  | .beacon _ _ _ => 19
  | .mcAckWindowExpiry => 19
  | .mcIncompleteFrameDiscard _ _ => 19
  | .toneMapRefreshDue _ => 19
  | .mcNeighbourLost _ => 19
  | .beaconTimer => 19
  | .mcStatus _ => 19
  | .mcNeighbourRead _ _ _ => 19
  | .mcTonemapRefresh _ _ => 19
  | .helloTimer => 20
  | .helloReceived _ _ => 20
  | .linkDown _ _ => 20
  | .linkRetransmitTimeout _ _ => 20
  | .routeTimer => 20
  | .addressConflictClear => 20
  | .fabricPacketReceived _ _ _ _ _ _ => 20
  | .fragmentReassemblyTimeout _ _ => 20
  | .ethernetFrame _ _ _ => 20
  | .borrowTick => 20
  | .tokenLendable _ => 20
  | .tokenRequest _ => 20
  | .tokenGrant _ => 20
  | .tokenAccept _ => 20
  | .tokenCommit _ => 20
  | .tokenAbort _ => 20
  | .tokenRenew _ => 20
  | .tokenRenewed _ => 20
  | .tokenReturn _ => 20
  | .tokenRecall _ => 20
  | .tokenAcceptTimeout _ _ => 20
  | .tokenCommitWait _ _ => 20
  | .leaseHalf _ _ => 20
  | .leaseRelease _ _ => 20
  | .leaseExpiry _ _ => 20
  | .recallReturnTimer _ _ => 20
  | .reissueClockExpiry _ _ => 20
  | .quarantineEnd => 20
  | .linStatus _ => 20
  | .linTokenStatus _ => 20
  | .linForward _ _ _ => 20
  | .linForwardTimeout => 20
  | .peerClaimFrame _ _ _ _ => 21
  | .peerClaimSilence => 21
  | .hingeHeartbeat _ _ _ _ _ => 21
  | .hingeEpochMessage _ => 21
  | .hingeTakeover => 21
  | .yieldWithdraw => 21
  | .hingeIsolated => 21
  | .hingeRoleResume => 21
  | .hingeResync _ _ _ => 21
  | .hingeProofTest _ _ _ _ _ _ _ => 21
  | .hngStatus _ => 21
  | .hngSwitch _ => 21
  | .hngForce _ _ => 21
  | .hngProofRun _ => 21
  | .updStatus _ => 22
  | .updStageBegin _ _ => 22
  | .updStageWrite _ _ _ _ => 22
  | .updVerify _ => 22
  | .verifyComplete => 22
  | .updActivate _ _ => 22
  | .activationRestart _ => 22
  | .updConfirm _ => 22
  | .autoConfirm => 22
  | .trialTimeout => 22
  | .chainOffer _ _ => 22
  | .chainRequest _ _ _ _ => 22
  | .chainChunk _ _ _ _ => 22
  | .chainHave _ _ => 22
  | .chainFetchTimeout => 22
  | .adcConversionComplete _ _ _ _ _ => 23
  | .urgentAdcRequest _ _ _ => 23
  | .adcTrigEdge _ _ _ => 23
  | .iTempRaiseStep => 23
  | .rtcDiscipline _ => 23
  | .idleCheckArm => 23
  | .idleCurrentBlock => 23
  | .watchRule _ => 23
  | .wakeOutPulseEnd => 23
  | .auxRead _ _ => 23
  | .auxConvert _ _ _ => 23
  | .auxTrigRead _ _ => 23
  | .nlStatus _ => 23
  | .nlWakeAck _ => 23
  | .diagTokenRefill _ => 24
  | .diagStatus _ => 24
  | .diagRead _ _ _ => 24
  | .diagFreeze _ _ => 24
  | .diagClear _ => 24
  | .freezeTimeout => 24
  | .rs485ByteReceived _ _ _ => 25
  | .rs485FrameEnd => 25
  | .sysRs485Send _ _ _ => 25
  | .rs485SendComplete => 25
  | .railsFall => 1
  | .vbatApplied => 25
  | .hspiCsFalling _ _ => 23
  | .v12OutOverload => 25
  | .v12OutRestart => 25
  | .vauxInReversed => 15
  | .addressTableAgeing _ => 20
  | .hingeEpochAck _ => 21

/-- The DMA engine's byte memory is in canonical form (R296, log entry 20). -/
def MemoryOk (s : State) : Prop := Memory.wf s.dma.mem = true

/-- The lengths the manual gives: 8 DMA channels (R295), 8 Hatch channels (R276), 32 semaphores (R253) and the 8 values of
THROUGH (R18). -/
def Shape (s : State) : Prop :=
  s.dma.chans.length = 8 ∧ s.hatch.chans.length = 8 ∧ s.kiln.sems.length = 32 ∧ s.snap.through.length = 8

end Sys2Proof.Safety
end

