-- ==== Sys2Proof/Certificates/Slice0/Obligations.lean ====
section
/-! DEFINITION. The statements for the provers. A completion statement says of each of its commands, under conditions on the
state and the operands alone, that it answers a next state, and what that state holds. -/

open Sys2Proof Sys2Proof.Machine Sys2Proof.Safety

/-- Completion, commit cycle (R15, R16, R175): the boundary moves to the next epoch; the latch takes 320 samples and begins
the write; a verified write publishes the epoch, and in HOLDUP, when the sample of the instant t_d has been accumulated, the
final entry follows it (R184). -/
def Obligations.CommitCycleCompletes : Prop :=
  (∀ s, s.dom.d2 = true → ∃ t, exec .epochStateCapture s = .next t ∧ t.clk.epoch = satInc max64 s.clk.epoch ∧
    t.clk.epochStart = s.clk.epochStart + 2048000 ∧ t.bil.civil = s.bil.civil + 2048000 + slewStep s.bil) ∧
  (∀ s c, s.led.captured.find? (·.epoch == s.met.epoch) = some c → s.dom.d2 = true → s.led.writing = none →
    s.met.samples.length = 320 → ∃ t, exec .epochLatch s = .next t ∧ t.led.writing.isSome = true ∧ t.led.overload = false) ∧
  (∀ s j c retry, s.led.writing = some (j, c) → (s.hold.stage = .finalCommit → sampleNow s ≤ s.hold.tdSample) → ∃ t, exec (.journalAppendComplete true retry) s = .next t ∧
    t.snap.published = true ∧ t.snap.epoch = j.epoch ∧ t.snap.civilS = c.civilS ∧ t.snap.state = j.state) ∧
  (∀ s j c retry, s.led.writing = some (j, c) → s.hold.stage = .finalCommit → s.hold.tdSample < sampleNow s → ∃ t,
    exec (.journalAppendComplete true retry) s = .next t ∧ t.hold.stage = .signedReading)

/-- Completion, power-up (R8, R35–R38, R358, R178, R281, R272, R32). The instant clk.now is the model's own (log entry 3).
-/
def Obligations.PowerUpCompletes : Prop :=
  (∀ s n, s.pwr.mains = false → s.pwr.rails = false → ∃ t, exec (.mainsApplied n) s = .next t ∧ t.pwr.mains = true ∧
    t.clk.now = s.clk.now + Tick.s n ∧ t.mode.startAt = t.clk.now) ∧
  (∀ s cause, s.pwr.mains = true → s.pwr.rails = false → cause = (if s.pwr.vbat = true ∧ s.pwr.vbatThrough = true then 0 else 1) →
    ∃ t, exec .railsGood s = .next t ∧ t.pwr.rails = true ∧ t.pwr.v12Out = true ∧ t.pwr.v3v3Out = true ∧
    t.dom = { d0 := true, d4 := true, cause := cause, startCause := cause }) ∧
  (∀ s a b e, s.dom.d4 = true → s.dom.d1 = false → ∃ t, exec (.d1Start a b e) s = .next t ∧ t.dom.d1 = true ∧
    t.dom.d2 = s.dom.d2) ∧
  (∀ s, s.pwr.charging = true → s.pwr.drawStart = none → s.hold.measured = false → exec .vholdReachesThreshold s =
    .next { s with pwr := { s.pwr with charging := false, drawStart := some s.clk.now, vhold := 29500 } }) ∧
  (∀ s at0 drop, s.pwr.drawStart = some at0 → ∃ t, exec (.holdupCapMeasured drop) s = .next t ∧ t.pwr.drawStart = none ∧
    t.pwr.charging = true ∧ t.hold.measured = true ∧
    (0 < drop → t.hold.cMeas = max 500 (min 10000 (1000000 / drop)))) ∧
  (∀ s, s.pwr.charging = true → s.pwr.drawStart = none → s.hold.measured = false → ∃ t, exec .vholdChargeTimeout s =
    .next t ∧ t.hold.measured = true ∧ t.hold.cMeas = 0 ∧ t.hold.outOfRange = true) ∧
  (∀ s codes ok lost, s.dom.d4 = true → s.dom.d1 = true → s.dom.d2 = false → ∃ t,
    exec (.d2Start codes ok lost) s = .next t ∧ t.dom.d2 = true ∧ t.led.replayStart = true) ∧
  (∀ s cells ok a b c helpers slots counts, s.dom.d4 = true → s.dom.d3 = false →
    (s.dom.d2 = true ∨ s.dom.kilnDue = false) → ∃ t,
    exec (.d3LeavesReset cells ok a b c true helpers slots counts) s = .next t ∧ t.dom.d3 = true ∧ t.dom.ready = false) ∧
  (∀ s, s.dom.d3 = true → s.dom.ready = false → ∃ t, exec .readyRises s = .next t ∧ t.dom.ready = true ∧
    t.dom.d2 = s.dom.d2) ∧
  (∀ s, s.dom.d3 = true → s.dom.d2 = true → s.mode.mode = .none → s.sag.lifecycle ≠ .blank → ∃ t,
    exec (.firstModeEntered true) s = .next t ∧ t.mode.mode = (firstMode s).1 ∧ t.mode.interim = (firstMode s).2 ∧
    t.mode.since = s.clk.epoch) ∧
  (∀ s, s.mode.interim = true → s.mode.mode = .commission → s.hold.measured = true → s.hold.cMeasEpoch < s.clk.epoch →
    s.hold.refuseService = false → s.mode.request = none → ∃ t, exec .interimToService s = .next t ∧ t.mode.mode = .service ∧ t.mode.interim = false)

/-- Completion, mode commands and supervision (R41, R44, R47, R51, R52, R14, R22, R30). -/
def Obligations.ModeCommandsComplete : Prop :=
  (∀ s r a, Taken 0x0130 r s → a = asOf s → exec (.sysModeGet r) s = .next (reply r 0x0130 stOk (le 1 a.mode.mode.code ++
    le 1 a.sag.lifecycle.code ++ le 1 a.dom.cause ++ le 1 (b2n a.mode.recoveryPending) ++ le 8 a.mode.since ++
    le 4 a.mode.powerCycles ++ le 2 (reclaimLeft a) ++ zeros 2) s)) ∧
  (∀ s r target m, Taken 0x0131 r s → modeOf target = some m → modeRefusal s m = none → s.mode.mode ≠ .recovery → ∃ t,
    exec (.sysModeRequest r target) s = .next (reply r 0x0131 stOk (le 8 (s.clk.epoch + 1)) t) ∧
    t.mode.request = some (m, s.clk.epoch + 1) ∧ t.mode.recoveryPending = (m == .recovery)) ∧
  (∀ s r target m, Taken 0x0131 r s → modeOf target = some m → modeRefusal s m = none → s.mode.mode = .recovery → ∃ t,
    exec (.sysModeRequest r target) s = .next (reply r 0x0131 stOk (le 8 (s.clk.epoch + 1)) t) ∧
    t.mode.exitDue = some (s.clk.epoch + 1) ∧ t.mode.recoveryPending = false) ∧
  (∀ s m e, s.mode.exitDue = none → s.mode.request = some (m, e) → e ≤ s.clk.epoch → inHoldup s = false →
    (m = .watch → watchOk s = true) → ∃ t,
    exec .modeChangeEffective s = .next t ∧ t.mode.mode = m ∧ t.mode.request = none ∧ t.mode.since = s.clk.epoch) ∧
  (∀ s e, s.mode.exitDue = some e → e ≤ s.clk.epoch → ∃ t, exec .modeChangeEffective s = .next t ∧ t.dom.cause = 6 ∧
    t.dom.d1 = false ∧ t.dom.d2 = false ∧ t.dom.d3 = false ∧ t.mode.mode = .none) ∧
  (∀ s r scope, Taken 0x0132 r s → inHoldup s = false → scope = 1 ∨ scope = 2 ∧ outputsActive s = false → ∃ t,
    exec (.sysReset r scope) s = .next (reply r 0x0132 stOk (le 8 (s.clk.epoch + 1)) t) ∧
    t.mode.resetScope = some (scope, r)) ∧
  (∀ s scope r, s.mode.resetScope = some (scope, r) → replyQueued s 0x0132 r = false → inHoldup s = false → ∃ t,
    exec .sysResetBegin s = .next t ∧ t.dom.d3 = false ∧ t.dom.ready = false ∧
    t.dom.cause = (if scope = 1 then 5 else 6) ∧ (scope ≠ 1 → t.dom.d2 = false ∧ t.dom.d1 = false)) ∧
  (∀ s r, Taken 0x0133 r s → exec (.sysHoldupInfo r) s = .next (reply r 0x0133 stOk (le 4 s.hold.cMeas ++
    le 8 s.hold.cMeasEpoch ++ le 4 (holdupEh s.hold.cMeas s.pwr.vhold / 1000000) ++
    le 4 (holdupEp (predictedVb2 s) / 1000000) ++ le 4 180 ++ le 2 (min 65535 (framesFit s)) ++ zeros 2 ++
    le 8 s.hold.tdEpoch ++ le 2 (min 65535 s.hold.tdMs) ++ le 2 (min 65535 s.hold.frames)) s)) ∧
  (∀ s, s.mode.mode = .service → watchOk s = true → s.mode.request = none →
    s.mode.idleSince + Tick.s (param s 0x0101) ≤ s.clk.epochStart → ∃ t, exec .watchDelayExpiry s = .next t ∧
    t.mode.mode = .watch ∧ t.mode.since = s.clk.epoch) ∧
  (∀ s src, s.mode.mode = .watch → bitN (param s 0x0102) src = true → (src = 6 ∨ bitN s.nl.wakeDue src = true) → ∃ t,
    exec (.watchWake src) s = .next t ∧ t.mode.mode = .service ∧ t.mode.since = s.clk.epoch)

/-- Completion, HOLDUP (R46, R57, R65, R184, R187): the sequence's stages, each at its own command. The instant clk.now is
the model's own (log entry 3). -/
def Obligations.HoldupCompletes : Prop :=
  (∀ s bulk, s.pwr.rails = true → inHoldup s = false → s.dom.d2 = true → s.sag.lifecycle ≠ .blank → ∃ t,
    exec (.mainsFailDetection bulk) s = .next t ∧ t.mode.mode = .holdup ∧ t.pwr.mains = false ∧
    t.hold.stage = .waitAbsent ∧ t.hold.tf = s.clk.now ∧ t.pwr.v12Out = false ∧ t.pwr.v3v3Out = false) ∧
  (∀ s, inHoldup s = true → s.hold.stage = .waitAbsent → s.dom.d2 = true → ∃ t, exec .mainsAbsentDecision s = .next t ∧
    (t.hold.stage = .finalCommit ∨ t.hold.stage = .signedReading) ∧ t.hold.td.isSome = true ∧
    t.hold.tdEpoch = t.hold.tdSample / 320) ∧
  (∀ s, inHoldup s = true → s.hold.stage = .signedReading → serving s = true → s.hold.d3Lost = false → ∃ t,
    exec .finalSignedReading s = .next t ∧ t.hold.stage = .letterbox) ∧
  (∀ s, inHoldup s = true → s.hold.stage = .display → ∃ t, exec .holdupDisplayDecision s = .next t ∧
    t.hold.stage = .ended) ∧
  (∀ s, inHoldup s = true → s.hold.stage = .ended → s.disp.drive = none → s.pwr.mains = true → s.pwr.rails = true → ∃ t,
    exec .holdupSequenceEnd s = .next t ∧ t.dom.cause = 7 ∧ t.dom.d2 = false ∧ t.dom.d3 = false ∧ t.mode.mode = .none)

/-- Completion, resets and reclaim (R9, R14, R20, R21, R22, R30, R319). The instant clk.now is the model's own (log entry
3). -/
def Obligations.ResetsComplete : Prop :=
  (∀ s us, s.dom.d4 = true → 10 ≤ us → ∃ t, exec (.hrstLow us) s = .next t ∧ t.dom.d3 = false ∧ t.dom.ready = false ∧
    (s.upd.record.state ≠ 1 → t.dom.cause = 2 ∧ t.dom.d2 = s.dom.d2)) ∧
  (∀ s, s.dom.d3 = true → ∃ t, exec .watchdogExpiry s = .next t ∧ t.dom.d3 = false ∧ t.dom.ready = false ∧
    (s.upd.record.state ≠ 1 → t.dom.cause = 3 ∧ t.dom.d2 = s.dom.d2)) ∧
  (∀ s, s.dom.d3 = true → ∃ t, exec .enginePoolFault s = .next t ∧ t.dom.d3 = false ∧ t.dom.ready = false ∧
    (s.upd.record.state ≠ 1 → t.dom.cause = 4 ∧ t.dom.d2 = s.dom.d2)) ∧
  (∀ s, s.dom.d2 = true → ∃ t, exec .timebaseFault s = .next t ∧ t.dom.d2 = false ∧ t.dom.cause = 9 ∧
    t.dom.d3 = s.dom.d3 ∧ t.dom.d1 = s.dom.d1 ∧ t.clk.pllLocked = false) ∧
  (∀ s, s.dom.d4 = true → inFactory s = true → ∃ t, exec .spyholeReset s = .next t ∧ t.dom.d3 = false ∧ t.dom.cause = 8 ∧
    t.dom.d2 = s.dom.d2) ∧
  (∀ s at0, s.recl.deadline = some at0 → s.dom.d1 = true → ∃ t, exec .reclaimTimerExpiry s = .next t ∧
    t.recl.deadline = none ∧ t.clk.now = max s.clk.now at0 ∧ t.shu.stop.isSome = true) ∧
  (∀ s, s.dom.d1 = true → mayTake isReclaim s = true → ∃ t, exec .reclaim s = .next t ∧ t.recl.deadline = none ∧ t.recl.required = false) ∧
  (∀ s, s.pwr.rails = true → ∃ t, exec .railsFall s = .next t ∧ t.pwr.rails = false ∧ t.pwr.vhold = 0 ∧
    t.pwr.charging = false ∧ t.dom.d4 = false ∧ t.dom.d1 = false ∧ t.dom.d2 = false ∧ t.dom.d3 = false)

/-- Completion, measurement inputs (R63, R64, R68, R69, R70, R73, R74, R175, R176). The instant clk.now is the model's own
(log entry 3). -/
def Obligations.InputEventsComplete : Prop :=
  (∀ s good hall z np temp, s.dom.d2 = true → ∃ t, exec (.statusFrame false good hall z np temp) s = .next t ∧
    t.inp.badFrames = s.inp.badFrames + 1) ∧
  (∀ s good hall z np temp, s.dom.d2 = true → ∃ t, exec (.statusFrame true good hall z np temp) s = .next t ∧
    t.inp.badFrames = 0 ∧ t.inp.hall = hall ∧ t.inp.hallPeak = max s.inp.hallPeak hall.natAbs ∧ t.inp.peZ = z ∧ t.inp.peNpe = np ∧ t.inp.dieTemp = temp ∧
    t.inp.tempN = s.inp.tempN + 1 ∧ t.inp.tempSum = s.inp.tempSum + temp) ∧
  (∀ s, s.dom.d2 = true → ∃ t, exec .railWarning s = .next t ∧ t.dom.d2 = false ∧ t.dom.d3 = s.dom.d3 ∧
    t.cal.cfP = {} ∧ t.cal.cfQ = {}) ∧
  (∀ s at0, s.inp.stopBy = some at0 → ∃ t, exec .meteringStopOpen s = .next t ∧ t.inp.stopBy = none ∧
    (s.shu.stop.isSome = true → t.shu.stop = none)) ∧
  (∀ s cause slot f at0 codes, s.inp.faults.find? (faultIs cause slot) = some f → s.dom.d2 = true → f.absentSince = some at0 →
    (cause = 3 ∨ cause = 7 → bitN (refPassed startCodes codes) slot = true) → ∃ t,
    exec (.meteringFaultEnd cause slot codes) s = .next t ∧ t.clk.now = max s.clk.now (at0 + Tick.s 1) ∧
    t.inp.faults = s.inp.faults.filter (fun g => !faultIs cause slot g) ∧
    Waits (if cause = 4 then 0x0206 else 0x0205) s t) ∧
  (∀ s, s.dom.d2 = true → s.inp.peZ < param s 0x0609 → s.inp.peNpe < 10 * param s 0x060A → ∃ t,
    exec .peWindowEval s = .next t ∧ t.inp.peFail = 0 ∧ t.inp.pePass = min 10 (s.inp.pePass + 1)) ∧
  (∀ s, s.dom.d2 = true → ¬ (s.inp.peZ < param s 0x0609 ∧ s.inp.peNpe < 10 * param s 0x060A) → ∃ t,
    exec .peWindowEval s = .next t ∧ t.inp.pePass = 0 ∧ t.inp.peFail = min 3 (s.inp.peFail + 1)) ∧
  (∀ s at0, s.dom.d2 = true → s.inp.magSince = none → s.inp.magHigh = some at0 → ∃ t, exec .magField s = .next t ∧
    t.clk.now = max s.clk.now (at0 + Tick.ms (param s 0x024B)) ∧ t.inp.magSince = some t.clk.now ∧
    bitN t.sag.tamperActive 0 = true ∧ Waits 0x0204 s t) ∧
  (∀ s since at0, s.inp.magSince = some since → s.inp.magLow = some at0 → s.dom.d2 = true → ∃ t,
    exec .magFieldEnd s = .next t ∧ t.clk.now = max s.clk.now (at0 + Tick.ms (param s 0x024B)) ∧ t.inp.magSince = none ∧
    bitN t.sag.tamperActive 0 = false ∧ Waits 0x0204 s t) ∧
  (∀ s k o, s.inp.overRange.find? (·.slot == k) = some o → 100 ≤ o.quiet → ∃ t, exec (.overrangeClose k) s = .next t ∧
    t.inp.overRange = s.inp.overRange.filter (·.slot != k) ∧
    Waits (if k % 2 = 1 && k < 8 || k = 8 then 0x0201 else 0x0202) s t) ∧
  (∀ s c, (s.inp.gainMismatch[c]?) = some false → (s.inp.gmBad[c]?) = some 100 → ∃ t,
    exec (.gainMismatch c) s = .next t ∧ t.inp.gainMismatch = s.inp.gainMismatch.set c true ∧
    Waits 0x0203 s t) ∧
  (∀ s c, (s.inp.gainMismatch[c]?) = some true → (s.inp.gmGood[c]?) = some 100 → exec (.gainMismatch c) s =
    .next (setInp (fun i => { i with gainMismatch := i.gainMismatch.set c false }) s)) ∧
  (∀ s, s.dom.d2 = true → 100 ≤ s.led.notDurable → s.inp.faults.any (faultIs 9 255) = false → ∃ t,
    exec .journalNotDurable s = .next t ∧ t.inp.faults.any (faultIs 9 255) = true ∧ Waits 0x0205 s t)

/-- Completion, the inputs' and Sieve's commands on Brixo (R72, R78, R79, R90, R92, R96). The instant clk.now is the model's
own (log entry 3). -/
def Obligations.InputCommandsComplete : Prop :=
  (∀ s r v, Taken 0x0240 r s → v = asOf s → ∃ t body, exec (.metInputStatus r) s = .next (reply r 0x0240 stOk body t) ∧
    t.inp.hallPeak = 0 ∧ t.inp.ovrSeen = 0 ∧ t.inp.faults = s.inp.faults ∧
    body.take 22 = (List.range 10).flatMap (fun k => le 2 (chStatus s { v with inp := { v.inp with
      weightEnds := s.inp.weightEnds } } (shownEpoch s) k)) ++ leI 2 v.inp.hall ∧
    body.drop 24 = le 2 (if 10000 < v.inp.peZ then 0xFFFF else v.inp.peZ) ++ le 2 v.inp.peNpe ++ le 1 (b2n v.inp.peOk) ++
      le 1 ((v.inp.faults.head?.map (·.cause)).getD 0) ++ leI 2 v.inp.dieTemp ++ le 2 (v.inp.startupTest ||| 0x300) ++
      zeros 2 ++ le 8 ((v.inp.faults.head?.map (·.firstEpoch)).getD 0)) ∧
  (∀ s r mask, Taken 0x0241 r s → setupMode s = true → 0 < mask → mask < 0x400 → s.inp.selfTest = none →
    kmOpen s = true → belowStart s = true → ∃ t, exec (.metInputSelftest r mask) s = .next t ∧
    t.inp.selfTest = some ⟨mask, s.clk.epoch, nowPos s, s.clk.now + Tick.ms 100, some r⟩) ∧
  (∀ s test codes, s.inp.selfTest = some test → s.dom.d2 = true → ∃ t, exec (.selftestEnd codes) s = .next t ∧
    t.inp.selfTest = none ∧ t.clk.now = max s.clk.now test.endAt ∧ Waits 0x020F s t) ∧
  (∀ s r v, Taken 0x0260 r s → v = asOf s → ∃ t body, exec (.metSieveStatus r) s = .next (reply r 0x0260 stOk body t) ∧
    t.sie.satMask = 0 ∧ t.sie.halted = s.sie.halted ∧
    body.take 8 = le 2 (coef v).id ++ le 2 (coef v).version ++ le 4 (coef v).crc ∧
    body.drop 24 = le 8 v.sie.satEpoch) ∧
  (∀ s r, Taken 0x0261 r s → s.mode.mode = .factory → kmOpen s = true → s.sie.halted = false → ∃ t,
    exec (.metSieveHalt r 1) s = .next (reply r 0x0261 stOk (le 8 (s.clk.epoch + 1)) t) ∧
    t.sie.haltAt = some (s.clk.epoch + 1)) ∧
  (∀ s r, Taken 0x0261 r s → s.mode.mode = .factory → s.sie.halted = true → ∃ t,
    exec (.metSieveHalt r 0) s = .next (reply r 0x0261 stOk (le 8 (s.clk.epoch + 1)) t) ∧
    t.sie.resumeAt = some (s.clk.epoch + 1)) ∧
  (∀ s r data, Taken 0x0262 r s → s.mode.mode = .factory → s.sie.halted = true → data.length = 2728 → ∃ t,
    exec (.metSieveSetLoad r data) s = .next t ∧
    (crc32c (data.take 2724) = (parseSet data).crc → fieldAt data 10 2 = 0 → fieldAt data 16 8 = 0 →
      setCheck (parseSet data) = none → t.sie.flashSet = some (parseSet data)) ∧
    (crc32c (data.take 2724) ≠ (parseSet data).crc → t.sie = s.sie))

/-- Completion, samples and Sieve (R62, R83, R92, R100). -/
def Obligations.SampleCommandsComplete : Prop :=
  (∀ s bits, s.dom.d2 = true → s.sie.halted = false → ∃ t, exec (.sample400k bits) s = .next t ∧
    t.sie.n400 = s.sie.n400 + 1 ∧ t.sie.bits.length = 14 ∧ t.met.samples = s.met.samples) ∧
  (∀ s, accumulates s = true → s.met.samples.length < 320 → 2 ≤ s.sie.rows.length → haltedAt s s.met.epoch = false →
    (s.hold.stage = .finalCommit → sampleNow s < s.hold.tdSample) → ∃ t, exec .mainPathSample s = .next t ∧ t.met.samples.length = s.met.samples.length + 1 ∧
    t.sie.rows = s.sie.rows.drop 1 ∧ t.met.epoch = s.met.epoch) ∧
  (∀ s, s.dom.d2 = true → s.hold.stage = .finalCommit → s.met.samples.length < 320 → 2 ≤ s.sie.rows.length →
    sampleNow s = s.hold.tdSample → s.led.writing = none → ∃ t, exec .mainPathSample s = .next t ∧
    t.hold.stage = .signedReading) ∧
  (∀ s e, s.sie.haltAt = some e → e ≤ s.met.epoch → ∃ t, exec .sieveStop s = .next t ∧ t.sie.halted = true ∧
    t.sie.haltFirst = e ∧ t.sie.haltAt = none ∧ t.sie.rows = [] ∧ t.cal.cfP.edges = [] ∧ t.cal.cfQ.edges = []) ∧
  (∀ s e, s.sie.resumeAt = some e → s.sie.halted = true → e ≤ s.clk.epoch → ∃ t, exec .sieveRestart s = .next t ∧
    t.sie.halted = false ∧ t.sie.resumeAt = none ∧ t.sie.haltEnd = e ∧ Waits 0x0209 s t) ∧
  (∀ s k o, s.sie.satOpen.find? (·.1 == k) = some o → o.2.2 + 100 < s.met.epoch → ∃ t,
    exec (.sieveSaturationClose k) s = .next t ∧ t.sie.satOpen = s.sie.satOpen.filter (·.1 != k) ∧ Waits 0x0207 s t)

/-- Completion, energy registers and measurements (R119, R120, R125, R127, R128, R141): the reads answer the published
snapshot or the stored sums. The instant clk.now is the model's own (log entry 3). -/
def Obligations.EnergyCommandsComplete : Prop :=
  (∀ s r, Taken 0x0200 r s → exec (.metEnergyRead r) s = .next (reply r 0x0200 stOk (le 8 (throughOf s 3) ++
    le 1 s.snap.totalRule ++ le 1 s.snap.phases ++ zeros 2 ++ s.snap.fine.flatMap (fun f => le 8 (cumOf f))) s)) ∧
  (∀ s r, Taken 0x0202 r s → ∃ body, exec (.metMeasRead r) s = .next (reply r 0x0202 stOk body s) ∧
    body.take 12 = le 8 (throughOf s 2) ++ le 4 (s.snap.groups.meas.getD noMeas).freq) ∧
  (∀ s r e x, Taken 0x0203 r s → s.met.ring.find? (fun x => x.epoch == e && decide (s.met.epoch ≤ e + 512)) = some x →
    exec (.metSumsRead r e) s =
    .next (reply r 0x0203 stOk (le 8 x.epoch ++ le 2 (x.xIdx.getD 0xFFFF) ++ leI 1 x.xFrac ++ le 1 (x.ref.getD 0xFF) ++
      le 2 x.validMask ++ zeros 2 ++ x.phase.flatMap (fun p => p.flatMap (leI 8)) ++ x.neutral.flatMap (leI 8) ++
      x.dc.flatMap (leI 8)) s)) ∧
  (∀ s c, changeOf s 0 = some c → s.dom.d3 = true → ∃ t, exec .neutralMismatch s = .next t ∧
    t.met.changes = s.met.changes.erase c ∧ t.met.neutral = s.met.neutral ∧ Stored 0x020B s t ∧
    bitN t.sag.tamperActive 1 = c.begins) ∧
  (∀ s x c, changeOf s (x + 1) = some c → s.dom.d3 = true → ∃ t, exec (.reverseFlow x) s = .next t ∧
    t.met.changes = s.met.changes.erase c ∧ t.met.reverse = s.met.reverse ∧ Stored 0x020C s t ∧
    (c.begins = true → bitN t.sag.tamperActive 2 = true) ∧
    (c.begins = false → s.met.reverse = 0 → bitN t.sag.tamperActive 2 = false)) ∧
  (∀ s q c rest, (cfOut q s).edges = c :: rest → cfRuns s = true → ∃ t, exec (.cfPulseEdge q) s = .next t ∧ (cfOut q t).edges = rest ∧
    (cfOut q t).prev = some c ∧ (cfOut q t).high.isSome = true ∧ t.clk.now = max s.clk.now c) ∧
  (∀ s q c, (cfOut q s).high = some c → s.dom.d2 = true → ∃ t, exec (.cfPulseEnd q) s = .next t ∧ (cfOut q t).high = none ∧
    (cfOut q t).edges = (cfOut q s).edges ∧ t.clk.now = max s.clk.now c)

/-- Completion, calibration and legally relevant identity (R133, R134, R147, R148). -/
def Obligations.CalibrationCommandsComplete : Prop :=
  (∀ s r mask n, Taken 0x0280 r s → setupMode s = true → mask ≠ 0 → mask < 2 ^ 14 → n ≠ 0 → n ≤ 6000 →
    s.cal.span = none → ∃ t, exec (.metCalMeasure r mask n) s = .next t ∧
    (t.cal.span.map fun x => (x.mask, x.nEpochs, x.first, x.done)) = some (mask, n, s.clk.epoch + 1, 0)) ∧
  (∀ s sp, s.cal.span = some sp → s.dom.d2 = true → sp.nEpochs ≤ sp.done → ∃ t, exec .calMeasureSpanEnd s = .next t ∧
    t.cal.span = none ∧ t.cal.lastSpanTemp = some (divRound sp.tempSum sp.nEpochs)) ∧
  (∀ s r at0, Taken 0x0281 r s → sealSet s = false → inHoldup s = false → s.cal.lastSpanTemp = some at0 → ∃ t,
    exec (.metCalCommit r) s = .next (reply r 0x0281 stOk [] t) ∧
    t.cal.inForce = some (recordNow s (satInc 0xFFFFFFFF ((s.cal.inForce.map (·.count)).getD 0)) at0) ∧
    (t.cal.copyA = t.cal.inForce ∨ t.cal.copyB = t.cal.inForce) ∧ Stored 0x0210 s t) ∧
  (∀ s r data, Taken 0x0282 r s → sealSet s = false → inHoldup s = false → data.length = 12 + 36 * fieldAt data 2 1 →
    crc32c (data.take (8 + 36 * fieldAt data 2 1)) = fieldAt data (8 + 36 * fieldAt data 2 1) 4 → tableOk data = true → ∃ t,
    exec (.metTempTableLoad r data) s = .next (reply r 0x0282 stOk (le 4 (parseTable data).crc) t) ∧
    t.cal.table = some (parseTable data) ∧ t.cal.atOnce = true) ∧
  (∀ s r v, Taken 0x0283 r s → v = (asOf s).cal → ∃ t, exec (.metTempStatus r) s = .next (reply r 0x0283 stOk (leI 2 s.snap.temp ++
    le 1 (packBits [paramE s 0x02A3 (shownEpoch s) == 1, v.clamped, calDirty s, s.cal.overrate]) ++ zeros 1 ++
    v.dg.flatMap (leI 2) ++ v.dt.flatMap (leI 2) ++ le 2 ((v.table.map (·.version)).getD 0)) t) ∧ t.cal.overrate = false) ∧
  (∀ s r, Taken 0x0284 r s → exec (.metLrId r) s = .next (reply r 0x0284 stOk (le 1 (lrVersionOf s).1 ++
    le 1 (lrVersionOf s).2.1 ++ le 1 (lrVersionOf s).2.2 ++ le 1 (b2n (sealSet s)) ++ padTo 32 s.cal.lrHash ++
    le 4 (calCount s) ++ le 4 ((s.cal.inForce.map CalRecord.crc).getD 0) ++ le 4 s.cal.sealRefused) s))

/-- Completion, power quality (R157, R158, R168, R169, R170). The instant clk.now is the model's own (log entry 3). -/
def Obligations.QualityCommandsComplete : Prop :=
  (∀ s b rest, s.pq.segDone = b :: rest → s.dom.d2 = true → s.pq.prevSeg = none → exec .urmsHalfSegmentEnd s =
    .next (setPq (fun q => { q with segDone := rest, prevSeg := some b }) s)) ∧
  (∀ s a b rest, s.pq.segDone = b :: rest → s.dom.d2 = true → s.pq.prevSeg = some a → s.pq.armed = false → ∃ t,
    exec .urmsHalfSegmentEnd s = .next t ∧ t.pq.segDone = rest ∧ t.pq.prevSeg = some b ∧ t.pq.events = s.pq.events ∧ t.pq.wait = s.pq.wait ∧
    t.shu.urmsHalf.length = s.shu.urmsHalf.length) ∧
  (∀ s at0, s.pq.closedSince = some at0 → s.dom.d2 = true → s.pq.armed = false → s.shu.kfb1 = true → s.shu.kfb2 = true →
    ∃ t, exec .pqArm s = .next t ∧ t.pq.armed = true ∧
    t.clk.now = max s.clk.now (at0 + Tick.ms (param s 0x02C6)) ∧ t.pq.closedSince = s.pq.closedSince) ∧
  (∀ s r last w, Taken 0x02C0 r s → namedWindow s last = some w → ∃ t body, exec (.metPqSummary r last) s =
    .next (reply r 0x02C0 stOk body t) ∧ t.pq = s.pq ∧ body.take 24 = le 8 w.due.firstEpoch ++ le 8 w.due.lastEpoch ++
    le 4 (posField w.due.startPos) ++ le 4 (posField w.due.endPos)) ∧
  (∀ s r last channel w c, Taken 0x02C1 r s → channel < 8 → namedWindow s last = some w → w.chans[channel]? = some c →
    exec (.metPqHarmRead r last channel) s = .next (reply r 0x02C1 stOk (le 8 w.due.firstEpoch ++ le 8 w.due.lastEpoch ++
    le 1 channel ++ le 1 w.due.nw ++ le 2 w.flags ++ padTo 512 (c.mag.flatMap (le 4)) ++ padTo 256 (c.ph.flatMap (leI 2)) ++
    padTo 512 (c.ih.flatMap (le 4))) s)) ∧
  (∀ s r last channel b, Taken 0x02C2 r s → channel < 8 → shPublished s channel = some b → last = 0 ∨ last = b.lastEpoch →
    exec (.metPqShRead r last channel) s = .next (reply r 0x02C2 stOk (le 8 b.firstEpoch ++ le 8 b.lastEpoch ++
    le 1 channel ++ le 1 b.shift ++ le 2 b.flags ++ padTo 2960 (b.b200.flatMap (le 4)) ++
    padTo 296 (b.b2k.flatMap (le 4))) s)) ∧
  (∀ s r first count, Taken 0x02C3 r s → count ≠ 0 → count ≤ 64 → exec (.metPqEventRead r first count) s =
    .next (reply r 0x02C3 stOk (ringBody first count (s.pq.events.map fun e => (e.index, e.bytes))) s))

/-- Completion, registers and readings of the ledger (R181, R182, R190, R193, R194, R198, R200). -/
def Obligations.LedgerCommandsComplete : Prop :=
  (∀ s r mask, Taken 0x0201 r s → mask ≠ 0 → mask < 2 ^ 36 → exec (.metDeltaRead r mask 0) s =
    .next (reply r 0x0201 stOk (deltaBody s mask (deltas s mask)) s)) ∧
  (∀ s r mask, Taken 0x0201 r s → admits s .network r.sender = true → mask ≠ 0 → mask < 2 ^ 36 → isStandby s = false →
    s.mode.mode ≠ .recovery → s.led.rstInEpoch < 8 → s.led.delayed = [] → (deltas s mask).all (· == 0) = false → ∃ t, exec (.metDeltaRead r mask 1) s =
    .next (reply r 0x0201 stOk (deltaBody s mask (deltas s mask)) t) ∧ t.led.nextRst = satInc max64 s.led.nextRst ∧
    t.led.rstInEpoch = s.led.rstInEpoch + 1) ∧
  (∀ s r mask, Taken 0x0201 r s → admits s .network r.sender = true → mask ≠ 0 → mask < 2 ^ 36 → isStandby s = false →
    s.mode.mode ≠ .recovery → 8 ≤ s.led.rstInEpoch ∨ s.led.delayed ≠ [] → exec (.metDeltaRead r mask 1) s =
    .next (setLed (fun l => { l with delayed := l.delayed ++ [⟨r, mask⟩] }) s)) ∧
  (∀ s q rest, s.led.delayed = q :: rest → s.led.rstInEpoch < 8 → (deltas s q.mask).all (· == 0) = false → ∃ t,
    exec .delayedReadAndReset s = .next t ∧
    t.led.delayed = rest ∧ t.led.nextRst = satInc max64 s.led.nextRst ∧ t.led.rstInEpoch = s.led.rstInEpoch + 1) ∧
  (∀ s r, Taken 0x0300 r s → exec (.ledSnapshotRead r) s = .next (reply r 0x0300 stOk (snapHeader s.snap ++
    s.snap.state.bytes ++ hwRegs.flatMap (fun n => le 8 (cumOf ((s.snap.fine[n]?).getD 0)))) s)) ∧
  (∀ s r series start n q a b, Taken 0x0301 r s → series ≠ 0 → series < 6 → seriesOf s series = some q →
    ((q.recs.filter fun x => decide (start ≤ x.1)).take (min n (4048 / Nat.max 1 q.size))).head? = some a →
    ((q.recs.filter fun x => decide (start ≤ x.1)).take (min n (4048 / Nat.max 1 q.size))).getLast? = some b →
    exec (.ledSeriesRead r series start n) s = .next (reply r 0x0301 stOk (le 1 series ++ zeros 1 ++ le 2 q.size ++
      le 2 ((q.recs.filter fun x => decide (start ≤ x.1)).take (min n (4048 / Nat.max 1 q.size))).length ++ zeros 2 ++
      le 4 a.1 ++
      le 4 (a.1 + ((q.recs.filter fun x => decide (start ≤ x.1)).take (min n (4048 / Nat.max 1 q.size))).length) ++
      le 4 q.head ++ le 8 a.2.1 ++ le 8 b.2.1 ++
      ((q.recs.filter fun x => decide (start ≤ x.1)).take (min n (4048 / Nat.max 1 q.size))).flatMap (·.2.2)) s)) ∧
  (∀ s r mask n, Taken 0x0302 r s → mask ≠ 0 → mask < 1024 → n ≠ 0 → n ≤ 40 → exec (.ledWaveCapture r mask n) s =
    .next (setLed (fun l => { l with captureWait := l.captureWait ++ [(some r, mask, n)] }) s)) ∧
  (∀ s q rest, s.led.captureWait = q :: rest → s.dom.d3 = true → semOwner s 0 = none → ∃ t, exec .waveCaptureCopy s =
    .next t ∧ t.led.captureWait = rest ∧
    (t.led.capture.map fun x => (x.mask, x.rows)) =
      some (q.2.1, (keepLast q.2.2 s.led.waveRing).flatMap fun e => e.2.map (captureRow q.2.1))) ∧
  (∀ s r challenge, Taken 0x0303 r s → inHoldup s = false → s.mode.mode ≠ .recovery → isStandby s = false → canSign s = true →
    (unsigned s).length < 64 → exec (.ledSignReading r challenge) s =
    .next (snapReading 1 (padTo 32 challenge) (some r) none s)) ∧
  (∀ s p rest, unsigned s = p :: rest → inHoldup s = false → s.dom.d3 = true → canSign s = true →
    exec .signatureComplete s = .next (completeReading p s)) ∧
  (∀ s p, inHoldup s = true → (unsigned s).find? (·.kind == 3) = some p → s.dom.d3 = true → canSign s = true →
    exec .signatureComplete s = .next (completeReading p s)) ∧
  (∀ s, s.dom.d3 = true → param s 0x0302 ≠ 0 → s.snap.published = true → bitN s.snap.flags 7 = false → isStandby s = false →
    s.mode.mode ≠ .recovery → s.led.lastPeriodic = none → ∃ t, exec .periodicReadingDue s = .next t ∧
    t.led.nextReading = satInc 0xFFFFFFFF s.led.nextReading ∧ (t.led.readings.getLast?).map (·.kind) = some 2 ∧
    t.led.lastPeriodic = some (s.snap.civilS / (60 * (param s 0x0302 : Int)) * (param s 0x0302 : Int))) ∧
  (∀ s r, Taken 0x0304 r s → exec (.ledStatus r) s = .next (reply r 0x0304 stOk (le 8 (((newestCkpt s).map (·.epoch)).getD 0)
    ++ le 8 (((s.led.journal.find? (·.valid)).map (·.epoch)).getD 0) ++ le 8 s.led.lastClose ++
    le 1 (b2n s.led.closeClean) ++ le 1 (min 255 (unsigned s).length) ++ zeros 2 ++ le 4 s.led.nextReading ++
    le 4 s.led.nextEvent ++ le 8 s.led.nextRst ++ le 4 (s.snap.epoch / 100) ++ le 4 s.mode.powerCycles ++
    le 4 s.led.retries) s))

/-- Completion, civil time, zone and calendar (R202, R204, R212, R222, R238). -/
def Obligations.CivilTimeCommandsComplete : Prop :=
  (∀ s r newS newF how, Taken 0x0400 r s → bitN (param s 0x0422) r.sender.code = true → how ≤ 1 → billRefusal s = none →
    s.bil.timeUnset = true → ∃ t, exec (.bilTimeSet r newS newF how) s = .next (reply r 0x0400 stOk
      (le 8 (s.clk.epoch + 1) ++ le 1 2 ++ zeros 3 ++ leI 8 (civilSec (civilNow s))) t) ∧
    t.bil.change = some ⟨s.clk.epoch + 1, newS * 204800000 + newF * 3125 - civilNow s, true⟩ ∧ LsSaved t) ∧
  (∀ s c, s.bil.change = some c → c.epoch ≤ s.clk.epoch → c.step = false → exec .timeChangeEffective s =
    .next (setBil (fun b => { b with change := none, slewLeft := c.delta }) s)) ∧
  (∀ s c, s.bil.change = some c → c.epoch ≤ s.clk.epoch → c.step = true → s.bil.through + 1 ≠ s.clk.epoch → ∃ t,
    exec .timeChangeEffective s = .next t ∧ t.bil.change = none ∧ t.bil.slewLeft = 0 ∧
    t.bil.civil = s.bil.civil + c.delta ∧ t.bil.timeUnset = false ∧ t.nl.rtcValid = true ∧ t.bil.stepDue.length = s.bil.stepDue.length + 1) ∧
  (∀ s c, s.bil.change = some c → c.epoch ≤ s.clk.epoch → c.step = true → s.bil.through + 1 = s.clk.epoch → ∃ t,
    exec .timeChangeEffective s = .next t ∧ t.nl.rtcValid = true) ∧
  (∀ s, s.bil.slewLeft.natAbs ≤ 2048 → exec .slewComplete s =
    .next (setBil (fun b => { b with civil := b.civil + b.slewLeft, slewLeft := 0 }) s)) ∧
  (∀ s r, Taken 0x0401 r s → exec (.bilTimeGet r) s = .next (reply r 0x0401 stOk (leI 8 s.snap.civilS ++
    le 2 s.snap.civilF ++ leI 2 (offsetAt s.bil s.snap.civilS / 60) ++
    le 1 (packBits [bitN s.snap.flags 7, s.bil.slewLeft != 0, isDst s.bil s.snap.civilS]) ++ zeros 3 ++
    leI 4 (s.bil.slewLeft / 204800) ++ leI 8 s.bil.mBill) s)) ∧
  (∀ s r o, Taken 0x0402 r s → billRefusal s = none → o.length = 12 + 16 * (tzOf o).entries.length →
    crcAt o (8 + 16 * (tzOf o).entries.length) = true → tzOk o (tzOf o) = true → ∃ t,
    exec (.bilTzLoad r o) s = .next (reply r 0x0402 stOk (le 2 (tzOf o).version) t) ∧ t.bil.tz = some (tzOf o) ∧
    Stored 0x0402 s t ∧ LsSaved t) ∧
  (∀ s r o, Taken 0x0403 r s → billRefusal s = none → o.length = (calOffsets o).2.2.2 + 4 →
    crcAt o (calOffsets o).2.2.2 = true → calFits (calOf o) = true → ∃ t c,
    exec (.bilCalendarLoad r o) s = .next (reply r 0x0403 stOk (le 4 c.id ++ leI 8 c.activateAt) t) ∧
    t.bil.passive = some c ∧ c.id = (calOf o).id ∧ Stored 0x0403 s t ∧ LsSaved t) ∧
  (∀ s e at0 x, s.bil.boundary = some (e, at0) → incFor s e = some x → s.dom.d3 = true → ∃ t,
    exec .civilBoundary s = .next t ∧ t.bil.boundary = none ∧ t.bil.nextT = at0 + 60 ∧ t.bil.through = e)

/-- Completion, tariff, billing periods and credit (R220, R230, R232, R233, R238). -/
def Obligations.BillingCommandsComplete : Prop :=
  (∀ s r, Taken 0x0404 r s → ∃ body, exec (.bilTariffRead r) s = .next (reply r 0x0404 stOk body s) ∧
    body.take 20 = le 8 s.snap.groups.through4 ++ le 1 s.snap.groups.bil.rate ++ zeros 3 ++
      le 4 ((s.snap.groups.bil.active.map (·.id)).getD 0) ++ le 4 s.snap.groups.bil.periodNo) ∧
  (∀ s r, Taken 0x0405 r s → billRefusal s = none → s.bil.timeUnset = false → ∃ t, exec (.bilBillingClose r) s = .next t ∧
    t.bil.closeDue = s.bil.closeDue ++ [(some r, s.clk.epoch + 1)] ∧ LsSaved t) ∧
  (∀ s c rest, s.bil.closeDue = c :: rest → s.dom.d3 = true → c.2 ≤ s.bil.through + 1 → s.bil.boundary = none → ∃ t,
    exec .commandBillingClose s = .next t ∧ t.bil.closeDue = rest ∧ t.bil.periodNo = s.bil.periodNo + 1 ∧
    t.bil.history.length = min 12 (s.bil.history.length + 1)) ∧
  (∀ s r period b, Taken 0x0406 r s → period ≠ 0 → s.bil.history.find? (·.period == period) = some b →
    exec (.bilBillingRead r period) s = .next (reply r 0x0406 stOk b.bytes s)) ∧
  (∀ s r b, Taken 0x0406 r s → s.bil.history.getLast? = some b →
    exec (.bilBillingRead r 0) s = .next (reply r 0x0406 stOk b.bytes s)) ∧
  (∀ s r o, Taken 0x0407 r s → creditMode s ≠ 0 → billRefusal s = none → ∃ t, exec (.bilCreditTransfer r o) s = .next t ∧
    (transferRefusal s o = none → t.bil.credit = s.bil.credit + toI 8 (fieldAt o 24 8)) ∧
    (transferRefusal s o ≠ none → t.bil = s.bil)) ∧
  (∀ s r, Taken 0x0408 r s → creditMode s ≠ 0 → exec (.bilCreditStatus r) s = .next (reply r 0x0408 stOk
    (leI 8 s.snap.groups.bil.credit ++ le 1 (creditMode s) ++ le 1 (creditState s) ++
    le 1 (packBits [s.bil.emergency, s.bil.friendly, decide (s.snap.groups.bil.credit < paramI s 0x040C),
      s.bil.mismatch && feedbackWrong s]) ++ zeros 1 ++ leI 8 (creditFloor s) ++ le 8 s.bil.windowH) s)) ∧
  (∀ s r, Taken 0x0409 r s → creditMode s ≠ 0 → billRefusal s = none → s.bil.credit < paramI s 0x040C →
    s.bil.emergency = false → 0 < paramI s 0x040D → ∃ t body, exec (.bilEmergencyActivate r) s =
    .next (reply r 0x0409 stOk body t) ∧ t.bil.emergency = true ∧ t.bil.credit = s.bil.credit) ∧
  (∀ s r, Taken 0x040A r s → billRefusal s = none → ∃ t, exec (.bilDisconnect r 1) s =
    .next (reply r 0x040A stOk (le 1 (creditState t)) t) ∧ t.bil.causeCommand = true) ∧
  (∀ s r, Taken 0x040A r s → billRefusal s = none → s.bil.causeCommand = true → ∃ t, exec (.bilDisconnect r 0) s =
    .next (reply r 0x040A stOk (le 1 (creditState t)) t) ∧ t.bil.causeCommand = false) ∧
  (∀ s duration, s.dom.d3 = true → 200 < duration → feedbackWrong s = true → ∃ t,
    exec (.km1FeedbackMismatch duration) s = .next t ∧ t.bil.mismatch = true)

/-- Completion, Kiln (R240, R241, R244, R246, R249, R250, R251, R264): speed, tasks, cells and cross-checks. The instant
clk.now is the model's own (log entry 3). -/
def Obligations.KilnCommandsComplete : Prop :=
  (∀ s rates mv tj load, s.dom.d3 = true → ∃ t, exec (.speedMonitor rates mv tj load) s = .next t ∧ t.kiln.coreMv = mv ∧
    t.kiln.tjMax = tj ∧ t.kiln.load = load ∧
    (t.kiln.cells.map (·.rate)) = s.kiln.cells.mapIdx (fun i c => (rates[i]?).getD c.rate)) ∧
  (∀ s, s.dom.d3 = true → s.kiln.speedLow = true → s.kiln.speedGood = 100 → ∃ t, exec .speedRestored s = .next t ∧
    t.kiln.speedLow = false) ∧
  (∀ s cls e part k c, periodicClass cls = true → e < s.clk.epoch → c = releaseCell s cls part k → s.dom.d3 = true →
    (cell s c).healthy = true → cellMasked s c = false → mayWake s c = true → homeOk s cls part c = true → ∃ t,
    exec (.kilnTaskRelease cls e part k) s = .next t ∧ t.clk.now = max s.clk.now (epochEnd s e + Tick.us 1500) ∧
    (cell t c).ready = (cell s c).ready ++ [⟨cls, e, part, deadlineOf s cls e, c, false⟩]) ∧
  (∀ s cls e part k, periodicClass cls = false → s.dom.d3 = true → (cell s k).healthy = true → cellMasked s k = false →
    mayWake s k = true → ∃ t, exec (.kilnTaskRelease cls e part k) s = .next t ∧ t.clk.now = s.clk.now ∧
    (cell t k).ready = (cell s k).ready ++ [⟨cls, e, part, deadlineOf s cls e, k, false⟩]) ∧
  (∀ s k task, firstTask (cell s k).ready = some task → s.dom.d3 = true → (cell s k).healthy = true →
    cellMasked s k = false → mayWake s k = true → canRun s task = true → exec (.kilnTaskRun k) s =
    .next (runTask task (setCellK k (fun c => { c with ready := c.ready.erase task }) s))) ∧
  (∀ s k n v task u, s.dom.d3 = true → (cell s k).healthy = true → cellMasked s k = false → (cell s k).ready = [] →
    stealsDenied s = false → mayWake s k = true → stealRound s k = (n, some (v, task)) →
    u = setCellK v (fun c => { c with ready := c.ready.erase task })
      (setCellK k (fun c => { c with tries := (stealTick s, 15 - triesLeft s k + n) }) s) →
    exec (.kilnSteal k) s = .next (if canRun u task = true then runTask task u
      else setCellK k (fun c => { c with ready := [{ task with stolen := true }] }) u)) ∧
  (∀ s k, stealRound s k = (triesLeft s k, none) → s.dom.d3 = true → (cell s k).healthy = true → cellMasked s k = false →
    (cell s k).ready = [] → stealsDenied s = false → mayWake s k = true → exec (.kilnSteal k) s =
    .next (setCellK k (fun c => { c with tries := (stealTick s, 15 - triesLeft s k + triesLeft s k) }) s)) ∧
  (∀ s cls e, cls = .m ∨ cls = .l ∨ cls = .v → e < s.clk.epoch → accepted s cls e = false → ∃ t,
    exec (.kilnDeadlineMiss cls e) s = .next t ∧ t.kiln.missNow = true ∧ t.kiln.lastMiss = e ∧ t.led.overload = true ∧
    t.clk.now = max s.clk.now (deadlineOf s cls e)) ∧
  (∀ s e, e < s.clk.epoch → accepted s .p e = false → ∃ t, exec (.kilnDeadlineMiss .p e) s = .next t ∧
    t.kiln = s.kiln ∧ t.led.overload = true ∧ t.clk.now = max s.clk.now (deadlineOf s .p e)) ∧
  (∀ s, s.dom.d3 = true → 3 ≤ s.kiln.missRun → s.kiln.step < param s 0x0109 → ∃ t, exec .shedChanged s = .next t ∧
    t.kiln.step = s.kiln.step + 1 ∧ t.kiln.missRun = 0) ∧
  (∀ s, s.dom.d3 = true → s.kiln.missRun < 3 → 100 ≤ s.kiln.cleanRun → 0 < s.kiln.step → ∃ t,
    exec .shedChanged s = .next t ∧ t.kiln.step = s.kiln.step - 1 ∧ t.kiln.cleanRun = 0) ∧
  (∀ s k, s.dom.d3 = true → (cell s k).healthy = true → (cell s k).ready ≠ [] → cellMasked s k = false →
    exec (.cellHandshakeTimeout k) s = .next (failCell k s)) ∧
  (∀ s k, s.dom.d3 = true → (cell s k).healthy = true → exec (.cellMemoryError k) s = .next (failCell k s)) ∧
  (∀ s a b c w, s.dom.d3 = true → s.kiln.xLast + param s 0x0108 ≤ s.clk.epoch → (cell s a).healthy = true →
    nextHealthy s a = some b → ∃ t, exec (.crossCheck a b c true w) s = .next t ∧
    t.kiln.xPhase = (s.kiln.xPhase + 1) % 3 ∧ t.kiln.xLast = s.clk.epoch ∧ t.kiln.cells = s.kiln.cells) ∧
  (∀ s r a, Taken 0x0150 r s → a = asOf s → exec (.kilnStatus r) s = .next (reply r 0x0150 stOk
    (le 2 (packBits (a.kiln.cells.map (·.healthy))) ++ le 1 ((heldSpare a).getD 0xFF) ++ le 1 (shedLevel a) ++
    a.kiln.cells.flatMap (fun c => le 2 (rateOf c)) ++ le 2 a.kiln.coreMv ++ leI 2 a.kiln.tjMax ++ le 2 a.kiln.load ++
    le 2 (capacity a) ++ le 8 a.kiln.lastMiss ++ le 8 a.kiln.lastFail ++ le 4 (semState a) ++ zeros 4) s))

/-- Completion, semaphores and Wedge registers (R253, R254, R255, R260, R266). The instant clk.now is the model's own (log
entry 3). -/
def Obligations.SemaphoreWedgeCommandsComplete : Prop :=
  (∀ s n reader, s.dom.d3 = true → semPermitted s n reader = true → semOwner s n = none → exec (.semaphoreRead n reader) s =
    .next (setKiln (fun x => { x with
      sems := x.sems.set n ⟨some reader, s.clk.now⟩, semRead := 2 ^ 30 + reader * 65536 }) s)) ∧
  (∀ s n reader o, s.dom.d3 = true → semPermitted s n reader = true → semOwner s n = some o →
    exec (.semaphoreRead n reader) s = .next (setKiln (fun x => { x with
      semRead := (if o = reader then 3 else 2) * 2 ^ 30 + o * 65536 }) s)) ∧
  (∀ s n writer value, s.dom.d3 = true → bitN value 0 = true → semOwner s n = some writer →
    exec (.semaphoreRelease n writer value) s = .next (setKiln (fun x => { x with sems := x.sems.set n {} }) s)) ∧
  (∀ s n, s.dom.d3 = true → semOwner s n = some 0x10 → ∃ t, exec (.semHostTimeout n) s = .next t ∧ semOwner t n = none) ∧
  (∀ s n value writer, wedgeWritable s.mode.mode writer n = true →
    (n = 6 → wedgeOffOk s (value &&& 0xFFFF) = true) → exec (.wedgeRegisterWrite n value writer) s =
    .next (setKiln (fun x => { x with wedgeNext := x.wedgeNext ++ [(n, value &&& wedgeMask n)] }) s)) ∧
  (∀ s r, Taken 0x0F40 r s → exec (.wedgeStatus r) s = .next (reply r 0x0F40 stOk (s.snap.wedgeRegs.flatMap (le 4) ++
    le 4 (packBits ((List.range 7).map (wedgeWritable s.mode.mode .hostSpi))) ++ le 4 s.snap.wedgeSet) s))

/-- Completion, Hatch (R271, R272, R273, R274, R278, R287): mailbox words, packets and the register map. -/
def Obligations.HatchWordCommandsComplete : Prop :=
  (∀ s c w, serving s = true → c < 8 → (chanOf s c).skip = 0 → inWords (chanOf s c) < 16 → exec (.h2mDataWrite c w) s =
    .next (setChan c (fun ch => settle { ch with part := ch.part ++ [w % 2 ^ 32] }) s)) ∧
  (∀ s c w, serving s = true → c < 8 → (chanOf s c).skip = 0 → 16 ≤ inWords (chanOf s c) →
    exec (.h2mDataWrite c w) s = .next (setHatch (fun h => { h with irqOverflow := true })
      (setChan c (fun ch => { ch with overflow := true }) s))) ∧
  (∀ s c ws rest, (chanOf s c).inbox = ws :: rest → serving s = true → c < 8 → (chanOf s c).acks.length < 8 →
    formOk c (ofWords ws) = true → crcOk (setChan c (fun ch => { ch with inbox := rest }) s) c (ofWords ws) = true →
    pendingN s .hostSpi c < 8 → exec (.hatchPacketTake c) s = .next
      (takeRequestPkt .hostSpi c (packetOf (ofWords ws)).seq (packetOf (ofWords ws)).opcode
      (payloadOf (setChan c (fun ch => { ch with inbox := rest }) s) c (ofWords ws))
      (writeAck c 0 (packetOf (ofWords ws)).seq (setChan c (fun ch => { ch with inbox := rest }) s)))) ∧
  (∀ s c, serving s = true → c < 8 → exec (.h2mAckRead c) s = .next (readAs (((chanOf s c).acks.head?).getD 0)
    (setChan c (fun ch => { ch with acks := ch.acks.drop 1 }) s))) ∧
  (∀ s c, serving s = false → c < 8 → exec (.h2mAckRead c) s = .next (readAs 0 s)) ∧
  (∀ s c, serving s = true → exec (.h2mFlush c) s = .next (setChan c (fun ch => { ch with part := [], skip := 0 }) s)) ∧
  (∀ s c, serving s = true → exec (.h2mOverflowClear c) s = .next (setChan c (fun ch => { ch with overflow := false }) s)) ∧
  (∀ s c, serving s = true → c < 8 → (chanOf s c).outbox = [] → exec (.m2hDataRead c) s =
    .next (readAs 0 (setChan c (fun ch => { ch with underflow := true }) s))) ∧
  (∀ s c p w ws rest, serving s = true → c < 8 → (chanOf s c).outbox = p :: rest → p.words = w :: ws → ws ≠ [] →
    exec (.m2hDataRead c) s =
    .next (setChan c (fun ch => { ch with outbox := { p with words := ws } :: rest }) (readAs w s))) ∧
  (∀ s c value p, (chanOf s c).await = some p → serving s = true → bitN value 31 = true → value % 256 = p.seq →
    p.reply = false → exec (.m2hAckWrite c value) s = .next (setChan c (fun ch => { ch with await := none }) s)) ∧
  (∀ s c value p, (chanOf s c).await = some p → serving s = true → bitN value 31 = true → value % 256 = p.seq →
    p.reply = true → exec (.m2hAckWrite c value) s = .next (setHatch (fun h => unpend h .hostSpi c p.seq)
      (setChan c (fun ch => { ch with await := none }) s))) ∧
  (∀ s c, serving s = true → exec (.m2hUnderflowClear c) s =
    .next (setChan c (fun ch => { ch with underflow := false }) s)) ∧
  (∀ s value, serving s = true → exec (.irqStatusClear value) s = .next (setHatch (fun h => { h with
    notifyDropped := h.notifyDropped && !bitN value 16, d3Restarted := h.d3Restarted && !bitN value 17,
    irqOverflow := h.irqOverflow && !bitN value 18 }) s)) ∧
  (∀ s value, serving s = true → exec (.registerWrite 0x000C value) s =
    .next (setHatch (fun h => { h with irqMask := value % 2 ^ 32 }) s)) ∧
  (∀ s addr value, serving s = true → 0x10000 ≤ addr → addr < 0x18000 → exec (.registerWrite addr value) s =
    .next (viewWrite s (bulkBase + (addr - 0x10000)) (BitVec.ofNat 8 value))) ∧
  (∀ s c n, serving s = true → c < 8 → firstNote s.hatch.notes c [0] = some n → exec (.hatchQueuePlacement c) s =
    .next (placeNote c n s)) ∧
  (∀ s c p, serving s = true → c < 8 → firstNote s.hatch.notes c [0] = none → s.hatch.replies.find? (·.chan = c) = some p →
    exec (.hatchQueuePlacement c) s = .next (placeReply c p s))

/-- Completion, parameters, Hatch status and the Ethernet transport (R284, R285, R286, R290, R294). The instant clk.now is
the model's own (log entry 3). -/
def Obligations.ParameterCommandsComplete : Prop :=
  (∀ s r id p, Taken 0x0110 r s → paramRow id = some p → enabled s.ident.variant p.fn = true →
    (paramView s p).written = true → exec (.paramGet r id) s = .next (reply r 0x0110 stOk (getBody p
      (packBits [(paramView s p).next.isSome, p.isSealed && sealSet s, p.readOnly, false]) (paramView s p)) s)) ∧
  (∀ s r id p, Taken 0x0110 r s → paramRow id = some p → enabled s.ident.variant p.fn = true →
    (paramView s p).written = false → exec (.paramGet r id) s = .next (reply r 0x0110 stOk (getBody p
      (packBits [(paramView s p).next.isSome, p.isSealed && sealSet s, p.readOnly, true])
      { paramView s p with since := 0 }) s)) ∧
  (∀ s r id p value, Taken 0x0111 r s → paramRow id = some p → enabled s.ident.variant p.fn = true →
    p.readOnly = false → modeAllows s p (p.ty.read value) = true → (p.isSealed && sealSet s) = false →
    shuRefusal s id r.sender = none → standbyRefusal s id = none → value.length = p.ty.size →
    valueOk s p (p.ty.read value) = true → setBusy s p (p.ty.read value).toNat = false →
    exec (.paramSet r id p.ty.size value) s = .next (reply r 0x0111 stOk (le 2 id ++ le 1 p.cls.code ++ zeros 1 ++
      le 8 (acceptWrite p (p.ty.read value) r.sender.code s).1) (acceptWrite p (p.ty.read value) r.sender.code s).2)) ∧
  (∀ s id, id ≠ 0x0106 → exec (.paramEffective id) s = .next (promote id s)) ∧
  (∀ s, serving s = true → s.mode.mode = .commission → param s 0x0106 = 0 → exec (.paramEffective 0x0106) s =
    .next (forceParam s 0x0106 1)) ∧
  (∀ s r id p, Taken 0x0110 r s → paramRow id = some p → enabled s.ident.variant p.fn = false → exec (.paramGet r id) s =
    .next (reply r 0x0110 stOk (getBody p 0x0C ⟨p.dflt, 0, none, false⟩) s)) ∧
  (∀ s r, Taken 0x0112 r s → exec (.hatchStatus r) s = .next (reply r 0x0112 stOk (s.hatch.dropped.flatMap (le 4) ++
    le 1 s.hatch.notes.length ++ le 1 s.hatch.peak ++ (List.range 8).flatMap (fun c => le 1 (pendingN s r.sender c)) ++
    zeros 2 ++ le 4 s.hatch.malformed ++ le 1 (param s 0x010A) ++ zeros 3) s)) ∧
  (∀ s port peer data, serving s = true → port < 2 → bitN (param s 0x010A) port = true →
    (fromIpv4 peer = true → param s 0x0C09 ≠ 0) →
    (s.hatch.ipParts ++ data).length ≤ 4108 → exec (.brixoEthDatagram port peer data true) s =
    .next (takeDatagram (if port = 0 then .ethE0 else .ethE1) peer (s.hatch.ipParts ++ data)
      (setHatch (fun h => { h with ipParts := [], ipSince := none }) s))) ∧
  (∀ s port peer data, serving s = true → port < 2 → bitN (param s 0x010A) port = true →
    (fromIpv4 peer = true → param s 0x0C09 ≠ 0) →
    (s.hatch.ipParts ++ data).length ≤ 4108 → ∃ t, exec (.brixoEthDatagram port peer data false) s = .next t ∧
    t.hatch.ipParts = s.hatch.ipParts ++ data ∧ t.hatch.ipSince = some ((s.hatch.ipSince).getD s.clk.now)) ∧
  (∀ s at0, s.hatch.ipSince = some at0 → exec .ipReassemblyTimeout s =
    .next (setHatch (fun h => { h with ipParts := [], ipSince := none }) (advanceTo (at0 + Tick.s 2) s)))

/-- Completion, DMA engine (R297, R298, R300, R303, R304, R306, R308, R311). -/
def Obligations.DmaCommandsComplete : Prop :=
  (∀ s c value, dmaOpen s = true → c < 4 → bitN value 8 = false → exec (.dctrlWrite c value) s =
    .next (setDma c { dmaChan s c with enable := bitN value 0, prio := value / 16 % 4 } s)) ∧
  (∀ s c, dmaOpen s = true → c < 4 → exec (.dmaChannelAbort c) s = .next (dmaAbort c s).1) ∧
  (∀ s c word value, dmaOpen s = true → c < 4 → 1 ≤ word → word ≤ 11 →
    dOwn (((dmaChan s c).ring[(dmaChan s c).dsel]?).getD []) = false → exec (.descriptorStagingWrite c word value) s =
    .next (setDma c { dmaChan s c with
      staging := (dmaChan s c).staging.set (word - 1) (value % 2 ^ 32) } s)) ∧
  (∀ s c value, dmaOpen s = true → c < 4 → dOwn (((dmaChan s c).ring[(dmaChan s c).dsel]?).getD []) = false →
    (dmaChan s c).run = none → exec (.descriptorCommit c value) s = .next (setDma c { dmaChan s c with
      ring := (dmaChan s c).ring.set (dmaChan s c).dsel
        (dCommitted (((dmaChan s c).ring[(dmaChan s c).dsel]?).getD []) value (dmaChan s c).staging) } s)) ∧
  (∀ s c value, dmaOpen s = true → c < 4 → exec (.dstatClear c value) s = .next (setDma c { dmaChan s c with
    writeOwned := (dmaChan s c).writeOwned && !bitN value 10, error := (dmaChan s c).error && !bitN value 9,
    doneEvt := (dmaChan s c).doneEvt && !bitN value 8 } s)) ∧
  (∀ s c ws, s.dom.d3 = true → 4 ≤ c → c < s.dma.chans.length → c < 8 → (dmaChan s c).run = none → dOwn ws = true →
    dFieldsOk ws = true → dRegionsOk false ws = true → ∃ t, exec (.dmaDescriptorStart c ws) s = .next t ∧
    (dmaChan t c).run = some ⟨(dmaChan s c).head, ws, 0, 0, []⟩) ∧
  (∀ s u c r, u = stallOver s → dmaGrant u = some c → (dmaChan u c).run = some r → c < s.dma.chans.length → ∃ t r',
    exec (.dmaBurst false) s = .next t ∧ (dmaChan t c).run = some r' ∧ r'.words = r.words ∧ r'.index = r.index ∧
    r.moved ≤ r'.moved ∧ (dmaChan t c).age = 0) ∧
  (∀ s c r faulty, (dmaChan s c).run = some r → c < 8 → r.moved = dTotal r.words → c < s.dma.chans.length → ∃ t,
    exec (.dmaWriteBack c faulty) s = .next t ∧ (dmaChan t c).run = none ∧ (dmaChan t c).head = (r.index + 1) % 16) ∧
  (∀ s r, Taken 0x1100 r s → exec (.dmaStatus r) s = .next (reply r 0x1100 stOk (s.dma.chans.flatMap fun d =>
    le 4 (dstat d) ++ le 1 (countWhere dOwn d.ring) ++ le 1 d.prio ++ le 1 (min 255 d.age) ++ zeros 1) s)) ∧
  (∀ s r c, Taken 0x1101 r s → c < 4 → semOwner s (1 + c) = none → exec (.dmaAbort r c) s =
    .next (reply r 0x1101 stOk (le 1 (dmaAbort c s).2 ++ zeros 3) (dmaAbort c s).1))

/-- Completion, vehicle interface (R314, R317, R319, R320, R323, R325, R327): pilot, proximity, SLAC and session events. The
instant clk.now is the model's own (log entry 3). -/
def Obligations.VehicleEventsComplete : Prop :=
  (∀ s hi lo, s.dom.d1 = true → ∃ t, exec (.cpStateChange hi lo) s = .next t ∧
    t.shu.cpState = (classifyCp s.shu.cpDrive s.shu.cpState hi lo).1 ∧
    t.shu.diodeMissing = (classifyCp s.shu.cpDrive s.shu.cpState hi lo).2) ∧
  (∀ s ohm, serving s = true → inHoldup s = false → isStandby s = false → param s 0x0502 ≠ 0 → ∃ t,
    exec (.ppStateChange ohm) s = .next t ∧ t.veh.ppState = (classifyPp (param s 0x0502) ohm).1 ∧
    t.veh.ppRating = (classifyPp (param s 0x0502) ohm).2 ∧ t.veh.ppOhm = (if 4500 < ohm then 0xFFFF else ohm)) ∧
  (∀ s m, modemOn s = true → (s.veh.fallback = true → s.shu.cpState = 2) → exec (.slacMessage m) s =
    .next (slacStep m s)) ∧
  (∀ s a, modemOn s = true → (s.veh.fallback = true → s.shu.cpState = 2) → s.veh.atten = some a → a ≤ param s 0x0509 → ∃ t, exec (.slacMessage .matchReq) s = .next t ∧
    t.veh.slacMatched = true ∧ t.veh.fallback = false) ∧
  (∀ s at0, s.veh.slacStart = some at0 → modemOn s = true → s.veh.slacMatched = false → ∃ t, exec .slacTimeout s = .next t ∧
    t.veh.fallback = true ∧ t.clk.now = max s.clk.now (at0 + Tick.s 40)) ∧
  (∀ s m, modemOn s = true → s.veh.slacMatched = true → exec (.v2gMessage m) s = .next (v2gStep m s)) ∧
  (∀ s q, s.veh.req = some q → serving s = true → s.veh.kept = [] → ∃ t, exec .authTimeout s = .next t ∧ t.veh.req = none ∧
    t.veh.authFailed = true ∧ t.clk.now = max s.clk.now q.deadline) ∧
  (∀ s at0, s.veh.overSince = some at0 → serving s = true → s.veh.lastFall = none → s.veh.transfer = true →
    sessionOpen s = true → ∃ t, exec .overdraw s = .next t ∧ t.veh.overSince = none ∧
    t.shu.requests = s.shu.requests ++ [.openOrderly 0]) ∧
  (∀ s cause e, s.veh.endCause = some cause → closingEpoch s = some e → serving s = true → sessionOpen s = true →
    lDone e s = true → closeStands s e = false → exec .sessionClose s = .next (endOfSession cause e s))

/-- Completion, vehicle interface (R316, R321, R324, R325, R327, R335, R336): its commands on Brixo. -/
def Obligations.VehicleCommandsComplete : Prop :=
  (∀ s r a, Taken 0x0500 r s → a = asOf s → ∃ body, exec (.vehStatus r) s = .next (reply r 0x0500 stOk body s) ∧
    body.take 8 = le 1 (s.snap.state.cp % 8) ++ le 1 (if param s 0x0502 = 0 then 1 else a.veh.ppState) ++
      leI 2 a.veh.cpHi ++ leI 2 a.veh.cpLo ++ le 2 a.veh.ppOhm) ∧
  (∀ s r id q bpt, Taken 0x0501 r s → bpt ≤ 1 → vehGate s = none → s.veh.req = some q → q.id = id → id ≠ 0 →
    exec (.vehAuthorise r id 0 bpt) s = .next (reply r 0x0501 stOk (le 8 0) (dropAuth s))) ∧
  (∀ s r bpt, Taken 0x0501 r s → bpt ≤ 1 → vehGate s = none → s.mode.mode = .service → connected s = true →
    ppValid s = true → authRefusal s bpt = none → ∃ t, exec (.vehAuthorise r 0 1 bpt) s =
    .next (reply r 0x0501 stOk (le 8 ((t.bil.session.map (·.startEpoch)).getD 0)) t) ∧
    t = beginSession 3 [] (bpt == 1) s) ∧
  (∀ s r entries, Taken 0x0502 r s → vehGate s = none → entries.length ≤ 24 →
    entries.any (fun e => decide (param s 0x0510 < e.2)) = false → ∃ t,
    exec (.vehLimitsSet r 0xFFFFFFFF 0xFFFFFFFF entries.length entries) s =
    .next (reply r 0x0502 stOk (le 8 (s.clk.epoch + 1)) t) ∧ t.veh.hostI = none ∧ t.veh.hostP = none ∧
    t.veh.schedule = entries ∧ t.veh.scheduleFrom = s.clk.epoch) ∧
  (∀ s r iMax, Taken 0x0502 r s → vehGate s = none → iMax ≠ 0xFFFFFFFF → aboveStatic s iMax = false → ∃ t,
    exec (.vehLimitsSet r iMax 0xFFFFFFFF 0 []) s = .next (reply r 0x0502 stOk (le 8 (s.clk.epoch + 1)) t) ∧
    t.veh.hostI = some iMax ∧ t.veh.schedule = []) ∧
  (∀ s r reason, Taken 0x0503 r s → vehGate s = none → reason = 1 ∨ reason = 2 → connected s = true →
    sessionOpen s = true → ∃ t, exec (.vehStop r reason) s = .next (reply r 0x0503 stOk [] t) ∧
    ShuReq.openOrderly 0 ∈ t.shu.requests) ∧
  (∀ s r state, Taken 0x0504 r s → vehGate s = none → state ≤ 1 → ∃ t, exec (.vehAvailability r state) s =
    .next (reply r 0x0504 stOk (le 1 (b2n (state == 1 && sessionOpen s))) t) ∧ t.veh.unavailable = (state == 1)) ∧
  (∀ s r what certs, Taken 0x0505 r s → vehGate s = none → what ≠ 0 → what ≤ 4 → exec (.vehCertLoad r what certs) s =
    .next (if !Config.certsValid what certs then reply r 0x0505 stCertInvalid [] s
      else if !Config.certsFit s.veh.certs certs then reply r 0x0505 stExhausted [] s
      else reply r 0x0505 stOk (le 1 certs.length)
        (setVeh (fun x => { x with certs := x.certs.set (what - 1) certs }) s))) ∧
  (∀ s r id body, Taken 0x0506 r s → vehGate s = none → s.veh.relay = some id → exec (.vehRelayAnswer r id body) s =
    .next (reply r 0x0506 stOk [] (setVeh (fun x => { x with relay := none, relayBody := body, answer := .ok }) s)))

/-- Completion, DC supply (R328, R329, R330): power modules, cable check, pre-charge and discharge. The instant clk.now is
the model's own (log entry 3). -/
def Obligations.DcSupplyEventsComplete : Prop :=
  (∀ s f, dcOn s = true → f.id = 0x0C0 → f.data.length = 8 → exec (.canFrameReceived f) s =
    .next (setVeh (fun x => { x with rIso := fieldAt f.data 0 4, monitor := fieldAt f.data 4 1 }) s)) ∧
  (∀ s f p, dcOn s = true → 0x180 ≤ f.id → f.id < 0x180 + param s 0x0511 → f.data.length = 16 → fieldAt f.data 2 2 = 0 →
    s.veh.pm[f.id - 0x180]? = some p → p.alive ≠ some (fieldAt f.data 1 1) → ∃ t, exec (.canFrameReceived f) s = .next t ∧
    ((t.veh.pm[f.id - 0x180]?).map fun x => (x.online, x.seen, x.vOut, x.iOut)) =
      some (true, s.clk.now, fieldAt f.data 4 4, toI 4 (fieldAt f.data 8 4))) ∧
  (∀ s, dcOn s = true → isStandby s = false → ∃ t, exec .canFrameSend s = .next t ∧
    t.veh.canSent = (List.range (param s 0x0511)).map (controlFrame s)) ∧
  (∀ s n p, s.veh.pm[n]? = some p → dcOn s = true → p.online = true → ∃ t, exec (.powerModuleLost n) s = .next t ∧
    ((t.veh.pm[n]?).map (·.online)) = some false ∧ t.clk.now = max s.clk.now (p.seen + Tick.ms 50)) ∧
  (∀ s at0, dcOn s = true → s.veh.dcPhase = 1 → s.veh.dcEnd = some at0 → s.veh.monitor = 1 → atTestVoltage s = true → ∃ t,
    exec .cableCheckReady s = .next t ∧ t.veh.dcEnd = none ∧ t.veh.isolation =
      (if 500 * s.veh.pmV ≤ s.veh.rIso * 1000 then 1 else if 100 * s.veh.pmV ≤ s.veh.rIso * 1000 then 2 else 3)) ∧
  (∀ s at0, s.veh.dcEnd = some at0 → dcOn s = true → s.veh.dcPhase = 1 → ∃ t, exec .cableCheckTimeout s = .next t ∧
    t.veh.isolation = 3 ∧ t.veh.dcEnd = none ∧ t.veh.pmI = 0 ∧ t.clk.now = max s.clk.now at0) ∧
  (∀ s at0, dcOn s = true → s.veh.dcPhase = 2 → s.veh.dcEnd = some at0 →
    ((s.shu.mod1 : Int) - s.veh.vTarget).natAbs ≤ 20000 → exec .prechargeComplete s =
    .next (setVeh (fun x => { x with dcEnd := none, answer := .ok }) s)) ∧
  (∀ s at0, s.veh.dcEnd = some at0 → dcOn s = true → s.veh.dcPhase = 2 → ∃ t, exec .prechargeTimeout s = .next t ∧
    t.veh.dcEnd = none ∧ t.veh.pmI = 0 ∧ t.veh.pmNeg = 0 ∧ t.clk.now = max s.clk.now at0) ∧
  (∀ s at0, s.veh.dcEnd = some at0 → dcOn s = true → s.veh.dcPhase = 4 → s.shu.mod1 < 60000 →
    exec .dcDischargeEnd s = .next (setVeh (fun x => { x with pmMode := 0, dcEnd := none }) s))

/-- Completion, Shutter (R339, R340, R342, R343, R347, R348, R355): requests from Kiln (through the request interface). The
instant clk.now is the model's own (log entry 3). -/
def Obligations.ShutterRequestsComplete : Prop :=
  (∀ s u, u = takeRequest (· == .close) s → s.dom.d1 = true → mayTake (· == .close) s = true → u.hng.isolated = false →
    stagesDrive u = true → closeBlock u = 0 → ∃ t, exec .close s = .next t ∧ t.shu.driveA1 = kmEnabled s 0 ∧
    t.shu.driveB1 = kmEnabled s 0 ∧ t.shu.driveA2 = kmEnabled s 1 ∧ t.shu.driveB2 = kmEnabled s 1 ∧
    t.shu.pullInEnd = some (u.clk.now + Tick.ms (param s 0x060E)) ∧
    t.shu.kfbBy = some (u.clk.now + Tick.ms (param s 0x060D))) ∧
  (∀ s cause, s.dom.d1 = true → mayTake (isOrderly cause) s = true → kmOpen s = false → ∃ t,
    exec (.openOrderly cause) s = .next t ∧ t.shu.stop.isSome = true) ∧
  (∀ s cause, s.dom.d1 = true → mayTake (isOrderly cause) s = true → kmOpen s = true → exec (.openOrderly cause) s =
    .next (takeRequest (isOrderly cause) s)) ∧
  (∀ s cause, s.dom.d1 = true → mayTake (isOpenNow cause) s = true → ∃ t, exec (.openNow cause) s = .next t ∧
    coilOn t = false ∧ t.shu.requests = s.shu.requests.eraseP (isOpenNow cause)) ∧
  (∀ s duty, s.dom.d1 = true → mayTake (· == .pwm duty) s = true → s.recl.required = false → duty ≠ 0 → duty ≠ 0xFFFF →
    s.shu.stop = none → s.shu.latches = 0 → ∃ t, exec (.pwm duty) s = .next t ∧ t.shu.cpDrive = .pwm ∧
    t.shu.duty = min duty (dutyOf (param s 0x0601)) ∧ t.shu.requests = s.shu.requests.eraseP (· == .pwm duty)) ∧
  (∀ s, s.dom.d1 = true → mayTake (· == .pwm 0) s = true → s.recl.required = false → ∃ t, exec (.pwm 0) s = .next t ∧
    t.shu.cpDrive = .steady ∧ t.shu.duty = 0) ∧
  (∀ s, s.dom.d1 = true → mayTake (· == .pwm 0xFFFF) s = true → s.recl.required = false → s.shu.stop = none → ∃ t,
    exec (.pwm 0xFFFF) s = .next t ∧ t.shu.cpDrive = .stateF ∧ t.shu.duty = 0) ∧
  (∀ s mA, s.dom.d1 = true → mayTake (· == .limit mA false) s = true → s.recl.required = false → ∃ t,
    exec (.limit mA false) s = .next t ∧ t.shu.limitAc = some (min mA (param s 0x0601)) ∧ t.shu.limitIsDc = false) ∧
  (∀ s mA, s.dom.d1 = true → mayTake (· == .limit mA true) s = true → s.recl.required = false → ∃ t,
    exec (.limit mA true) s = .next t ∧ t.shu.limitDc = some (min mA (param s 0x0602)) ∧ t.shu.limitIsDc = true) ∧
  (∀ s mask, s.dom.d3 = true → s.dom.d1 = true → mayTake (isReset mask) s = true → bitN s.shu.latches 13 = false →
    (resetEdge mask 0 (takeRequest (isReset mask) s)).cleared ≠ 0 → exec (.reset mask) s =
    .next (acceptReq (resetEdge mask 0 (takeRequest (isReset mask) s)).state)) ∧
  (∀ s, s.dom.d1 = true → mayTake (· == .rcmTest) s = true → coilOn s = false → s.shu.rcmTest = none → ∃ t,
    exec .rcmTest s = .next t ∧ t.shu.rcmTest = some ⟨1, 5, 0, none⟩ ∧ t.shu.rcmWant = none) ∧
  (∀ s p, s.shu.stop = some p → s.dom.d1 = true → p.kind ≠ .metering → ∃ t, exec .orderlyStopWaitEnd s = .next t ∧
    t.shu.stop = none ∧ coilOn t = false) ∧
  (∀ s at0, s.shu.pullInEnd = some at0 → exec .kmPullinEnd s =
    .next (setShu (fun x => { x with pullInEnd := none }) (advanceTo at0 s)))

/-- Completion, Shutter (R338, R339, R341, R344, R353): the safety channels, each condition at its own command. The instant
clk.now is the model's own (log entry 3). -/
def Obligations.ShutterTripsComplete : Prop :=
  (∀ s i, s.dom.d1 = true → ∃ t, exec (.shutterEvaluationCycle i) s = .next t ∧ t.shu.vaux = i.vaux ∧
    t.shu.mod1 = i.mod1 ∧ t.shu.oscB = i.oscB ∧ t.shu.cycleAt = max s.clk.now (s.shu.cycleAt + Tick.us 250)) ∧
  (∀ s, s.dom.d1 = true → maskWithout lChannel s.shu.latches = lChannel → ∃ t, exec .channelDisagreement s = .next t ∧
    t.shu.latches = s.shu.latches ||| lChannel ∧ t.shu.agree = false ∧ t.shu.lastTrip = s.clk.epoch ∧ coilOn t = false) ∧
  (∀ s, s.dom.d1 = true → 3 ≤ s.shu.linkBad → maskWithout lChannel s.shu.latches = lChannel → ∃ t,
    exec .channelLinkLoss s = .next t ∧ t.shu.latches = s.shu.latches ||| lChannel ∧ coilOn t = false) ∧
  (∀ s chan, chan ≤ 3 → s.dom.d1 = true → coilOn s = true → s.shu.pullInEnd.isSome = true →
    maskWithout lKmFeedback s.shu.latches = lKmFeedback → ∃ t, exec (.openCoil chan) s = .next t ∧
    t.shu.latches = s.shu.latches ||| lKmFeedback ∧ coilOn t = false) ∧
  (∀ s at0, s.shu.kfbBy = some at0 → s.dom.d1 = true → coilOn s = true →
    maskWithout lKmFeedback s.shu.latches = lKmFeedback → ∃ t, exec .kfbTimeout s = .next t ∧
    t.shu.latches = s.shu.latches ||| lKmFeedback ∧ coilOn t = false) ∧
  (∀ s line chan, chan ≤ 3 → s.dom.d1 = true → maskWithout lEstop s.shu.latches = lEstop → ∃ t,
    exec (.estopLineOpen line chan) s = .next t ∧ t.shu.latches = s.shu.latches ||| lEstop ∧ coilOn t = false ∧
    (if line then t.shu.estopB = true else t.shu.estopA = true)) ∧
  (∀ s chan at0, chan ≤ 3 → s.dom.d1 = true → s.shu.discrepSince = some at0 →
    maskWithout lDiscrep s.shu.latches = lDiscrep → ∃ t, exec (.estopDiscrep chan) s = .next t ∧
    t.clk.now = max s.clk.now (at0 + Tick.ms (param s 0x060B)) ∧ t.shu.latches = s.shu.latches ||| lDiscrep ∧ coilOn t = false) ∧
  (∀ s chan, chan ≤ 3 → s.dom.d1 = true → maskWithout lDiscrep s.shu.latches = lDiscrep → ∃ t,
    exec (.estopTestPulse true chan) s = .next t ∧ t.shu.latches = s.shu.latches ||| lDiscrep ∧ coilOn t = false) ∧
  (∀ s chan at0, chan ≤ 3 → s.dom.d1 = true → coilOn s = true → s.shu.supplyLow = some at0 →
    maskWithout lCoilSupply s.shu.latches = lCoilSupply → ∃ t, exec (.coilSupplyLow chan) s = .next t ∧
    t.clk.now = max s.clk.now (at0 + Tick.ms 10) ∧
    t.shu.latches = s.shu.latches ||| lCoilSupply ∧ coilOn t = false)

/-- Completion, Shutter (R347, R348, R351, R355, R356, R359, R360): self-test, holds, weld test and release. The instant
clk.now is the model's own (log entry 3). -/
def Obligations.ShutterTimersComplete : Prop :=
  (∀ s test m, s.shu.rcmTest = some test → s.dom.d1 = true → m.excitationOk = true → test.step = 1 →
    rcmStepOk s 1 m.dcA m.acA = true → rcmStepOk s 1 m.dcB m.acB = true → ∃ t, exec (.rcmSelftestStepEnd m) s = .next t ∧
    t.shu.rcmTest = some { test with step := 2 } ∧ t.clk.now = s.clk.now + Tick.ms 50) ∧
  (∀ s test m, s.shu.rcmTest = some test → s.dom.d1 = true → m.excitationOk = true → test.step = 3 →
    rcmStepOk s 3 m.dcA m.acA = true → rcmStepOk s 3 m.dcB m.acB = true → ∃ t, exec (.rcmSelftestStepEnd m) s = .next t ∧
    t.shu.rcmTest = none ∧ t.shu.rcmPass = some (s.clk.now + Tick.ms 60) ∧ t.shu.rcmPassEpoch = s.clk.epoch ∧
    t.shu.latches = s.shu.latches) ∧
  (∀ s at0, s.shu.rcmPass = some at0 → s.dom.d1 = true → s.shu.rcmTest = none → ∃ t, exec .rcmSelftestAge s = .next t ∧
    t.shu.rcmPass = none ∧ t.shu.rcmPassEpoch = 0 ∧
    (coilOn s = true → t.shu.rcmWant = some 3) ∧ (coilOn s = false → t.shu.rcmTest = some ⟨1, 3, 0, none⟩)) ∧
  (∀ s v at0, s.shu.permHold = some (v, at0) → exec .iPermHoldEnd s =
    .next (setShu (fun x => { x with permHold := none }) (advanceTo at0 s))) ∧
  (∀ s at0, s.shu.weldAt = some at0 → s.dom.d1 = true → coilOn s = false → exec .weldTest s =
    .next (weldTest (setShu (fun x => { x with weldAt := none }) (advanceTo at0 s)))) ∧
  (∀ s lowMs, s.dom.d1 = true → bitN s.shu.latches 13 = false → 50 ≤ lowMs → lowMs ≤ 5000 → ∃ t,
    exec (.sresetRelease lowMs) s = .next t ∧ t.shu.lastRelease = some s.clk.now ∧ t.shu.sresetLow = none) ∧
  (∀ s, s.dom.d1 = true → bitN s.shu.latches 13 = false → ∃ t, exec .sresetStuck s = .next t ∧
    t.shu.latches = s.shu.latches ||| lStuck ∧ Waits 0x0606 s t) ∧
  (∀ s p, s.shu.pendingReset = some p → ∃ t, exec .pendingResetLapse s = .next t ∧ t.shu.pendingReset = none ∧
    t.shu.latches = s.shu.latches ∧ t.clk.now = max s.clk.now p.deadline) ∧
  (∀ s at0, s.shu.stateASince = some at0 → s.dom.d1 = true → s.shu.cpState = 1 → exec .cpStateAHeld s =
    .next (clearLatches (s.shu.latches &&& (lCpError + lDiode)) 4 0xFF (advanceTo (at0 + Tick.s 1) s))) ∧
  (∀ s snd at0, s.shu.session = some (snd, at0) → ∃ t, exec .configSessionIdle s = .next t ∧ t.shu.session = none ∧
    t.shu.nextChange = satInc 0xFFFFFFFF s.shu.nextChange ∧ t.clk.now = max s.clk.now (at0 + Tick.s 600)) ∧
  (∀ s at0, s.shu.lockoutEnd = some at0 → exec .lockoutEnd s =
    .next (setShu (fun x => { x with lockoutEnd := none }) (advanceTo at0 s)))

/-- Completion, Shutter (R347, R355, R359, R360, R367, R368): its commands on Brixo. The instant clk.now is the model's own
(log entry 3). -/
def Obligations.ShutterCommandsComplete : Prop :=
  (∀ s r a, Taken 0x0600 r s → a = asOf s → ∃ body, exec (.shuStatus r) s = .next (reply r 0x0600 stOk body s) ∧
    body.take 16 = le 4 s.snap.state.shuFaults ++ le 4 (presentMask a) ++
      le 4 ((a.shu.pendingReset.map (·.mask)).getD 0) ++ le 1 s.snap.state.km ++ le 1 s.snap.state.cp ++
      le 2 s.snap.state.cpDuty) ∧
  (∀ s r mask, Taken 0x0601 r s → mask < 0x10000 → bitN s.shu.latches 13 = false →
    (resetEdge mask r.sender.code s).waiting = 0 → (resetEdge mask r.sender.code s).cleared ≠ 0 →
    exec (.shuReset r mask) s = .next (reply r 0x0601 stOk (le 4 (resetEdge mask r.sender.code s).cleared ++ le 4 0 ++
      le 4 (resetEdge mask r.sender.code s).remaining) (resetEdge mask r.sender.code s).state)) ∧
  (∀ s r len pw salt digest, Taken 0x0602 r s → configMode s = true → s.shu.session = none →
    s.shu.password = some (salt, digest) → passwordOk len pw = true → s.shu.lockoutEnd = none →
    digestOf salt len pw = digest → ∃ t, exec (.shuConfigOpen r len pw) s =
    .next (reply r 0x0602 stOk (openBody t) t) ∧ t.shu.session = some (r.sender, s.clk.now) ∧ t.shu.fails = 0 ∧
    t.shu.lockouts = 0 ∧ t.shu.nextChange = satInc 0xFFFFFFFF s.shu.nextChange) ∧
  (∀ s r at0, Taken 0x0603 r s → s.shu.session = some (r.sender, at0) → ∃ t, exec (.shuConfigClose r) s =
    .next (reply r 0x0603 stOk [] t) ∧ t.shu.session = none ∧
    t.shu.nextChange = satInc 0xFFFFFFFF s.shu.nextChange) ∧
  (∀ s r len pw at0, Taken 0x0604 r s → s.shu.session = some (r.sender, at0) → passwordOk len pw = true → ∃ t,
    exec (.shuPasswordSet r len pw) s = .next (reply r 0x0604 stOk (le 4 s.shu.nextChange) t) ∧
    t.shu.password = some (Config.random s.clk.free 16, digestOf (Config.random s.clk.free 16) len pw) ∧
    t.shu.nextChange = satInc 0xFFFFFFFF s.shu.nextChange) ∧
  (∀ s r, Taken 0x0605 r s → inHoldup s = false → coilOn s = false → s.shu.rcmTest = none → ∃ t,
    exec (.shuRcmTest r) s = .next t ∧ t.shu.rcmTest = some ⟨1, 5, 0, some r⟩) ∧
  (∀ s r first n e, Taken 0x0606 r s → n ≠ 0 → n ≤ 60 →
    ((s.shu.changeLog.filter fun e => decide (first ≤ e.index)).take n).head? = some e → exec (.shuLogRead r first n) s =
    .next (reply r 0x0606 stOk (le 4 e.index ++
      le 1 ((s.shu.changeLog.filter fun e => decide (first ≤ e.index)).take n).length ++ zeros 3 ++
      ((s.shu.changeLog.filter fun e => decide (first ≤ e.index)).take n).flatMap ChangeEntry.bytes) s))

/-- Completion, load switches (R370, R371, R374, R375, R376, R378, R381, R382, R383). The instant clk.now is the model's own
(log entry 3). -/
def Obligations.LoadSwitchCommandsComplete : Prop :=
  (∀ s r a, Taken 0x0700 r s → a = asOf s → ∃ body, exec (.lswStatus r) s = .next (reply r 0x0700 stOk body s) ∧
    body.take 8 = le 1 (demandMask a) ++ le 1 (onMask a) ++ le 1 (outFault a) ++
      le 1 (packBits [a.lsw.under, a.lsw.gndOpen, a.lsw.loadDump]) ++ le 2 a.lsw.vaux ++ zeros 2) ∧
  (∀ s r mask, Taken 0x0701 r s → inHoldup s = false → isStandby s = false → s.hng.isolated = false → mask % 256 ≠ 0 →
    lockHeld s = false → ∃ t, exec (.lswControl r mask 0 0) s = .next (reply r 0x0701 stOk (controlBody 0 t) t) ∧
    t = (maskIdx 8 mask).foldl (fun s n => control 0 0 n s) s) ∧
  (∀ s r mask, Taken 0x0701 r s → inHoldup s = false → isStandby s = false → s.hng.isolated = false → mask % 256 ≠ 0 →
    lockHeld s = false → exclusiveMask s mask = 0 → ∃ t, exec (.lswControl r mask 1 0) s =
    .next (reply r 0x0701 stOk (controlBody 0 t) t) ∧ t = (maskIdx 8 mask).foldl (fun s n => control 1 0 n s) s) ∧
  (∀ s n tj, n < 8 → (lswChan s n).on = true → 175 ≤ tj → n < s.lsw.chans.length → ∃ t,
    exec (.lswThermalOff n tj) s = .next t ∧ (lswChan t n).on = false ∧ (lswChan t n).latch = some s.clk.now ∧
    (lswChan t n).cause = 1 ∧ (lswChan t n).tj = tj) ∧
  (∀ s n at0, n < 8 → (lswChan s n).on = true → (lswChan s n).ilim = some at0 → n < s.lsw.chans.length → ∃ t,
    exec (.lswIlimTimeout n) s = .next t ∧ (lswChan t n).on = false ∧ (lswChan t n).cause = 2 ∧
    t.clk.now = max s.clk.now (at0 + Tick.ms (param s 0x0704))) ∧
  (∀ s n tj at0, (lswChan s n).latch = some at0 → n < 8 → tj < 145 → n < s.lsw.chans.length → ∃ t,
    exec (.lswLatchRelease n tj) s = .next t ∧ (lswChan t n).latch = none ∧ (lswChan t n).tj = tj) ∧
  (∀ s n, n < 8 → (lswChan s n).on = true → (lswChan s n).latch = none → n < s.lsw.chans.length → ∃ t,
    exec (.lswRetryRefill n) s = .next t ∧ (lswChan t n).retries = retryMax s n ∧ (lswChan t n).on = true) ∧
  (∀ s n at0, (lswChan s n).pulseEnd = some at0 → n < s.lsw.chans.length → ∃ t, exec (.lswPulseEnd n) s = .next t ∧
    (lswChan t n).on = false ∧ (lswChan t n).demand = false ∧ (lswChan t n).pulseEnd = none) ∧
  (∀ s n i, n < 8 → (lswChan s n).on = true → i < param s 0x0705 → n < s.lsw.chans.length → ∃ t,
    exec (.lswOpenLoad n i) s = .next t ∧ (lswChan t n).openLoad = true ∧ (lswChan t n).i = i) ∧
  (∀ s n, n < 8 → s.dom.d4 = true → (lswChan s n).on = false → n < s.lsw.chans.length → ∃ t,
    exec (.lswOffStateShort n) s = .next t ∧ (lswChan t n).offShort = true ∧ (lswChan t n).cause = 5) ∧
  (∀ s mV, mV < 10000 → ∃ t, exec (.vauxUndervoltage mV) s = .next t ∧ t.lsw.under = true ∧ t.lsw.vaux = mV ∧
    t.lsw.chans.any (·.on) = false) ∧
  (∀ s mV, s.lsw.under = true → 11000 ≤ mV → ∃ t, exec (.vauxRecovery mV) s = .next t ∧ t.lsw.under = false ∧
    t.lsw.reversed = false ∧ t.lsw.vaux = mV ∧ t.lsw.loadDump = decide (36000 < mV)) ∧
  (∀ s mV, mV < 4000 → ∃ t, exec (.vauxPowerCycle mV) s = .next t ∧ t.lsw.under = true ∧
    t.lsw.chans.any (·.latch.isSome) = false ∧ t.lsw.chans.any (·.on) = false) ∧
  (∀ s, s.dom.d4 = true → s.lsw.gndOpen = false → ∃ t, exec .vauxGndOpen s = .next t ∧ t.lsw.gndOpen = true ∧
    t.lsw.chans.any (·.on) = false) ∧
  (∀ s, s.lsw.gndOpen = true → ∃ t, exec .vauxGndRestored s = .next t ∧ t.lsw.gndOpen = false) ∧
  (∀ s mV, s.dom.d4 = true → 36000 < mV → ∃ t, exec (.loadDump mV) s = .next t ∧ t.lsw.loadDump = true ∧
    t.lsw.vaux = mV) ∧
  (∀ s, ∃ t, exec .vauxInReversed s = .next t ∧ t.lsw.reversed = true ∧ t.lsw.under = true ∧ coilOn t = false ∧
    t.lsw.chans.all (·.on) = true)

/-- Completion, Sagger (R393, R394, R395, R408, R409): keys and their commands. -/
def Obligations.KeyCommandsComplete : Prop :=
  (∀ s r, Taken 0x0800 r s → r.sender = .letterbox → exec (.sagStatus r) s = .next (reply r 0x0800 stOk
    (padTo 32 (le 1 s.sag.lifecycle.code ++ le 1 s.sag.root ++
      le 1 (packBits [s.sag.debugOpen, s.sag.lcPending.isSome, tamperBlocks s, s.sag.erasePending]))) s)) ∧
  (∀ s r, Taken 0x0800 r s → r.sender ≠ .letterbox → ∃ t body, exec (.sagStatus r) s =
    .next (reply r 0x0800 stOk body t) ∧ t.sag.tamperSeen = 0 ∧ t.sag.tamperActive = s.sag.tamperActive ∧
    body.take 4 = le 1 s.sag.lifecycle.code ++ le 1 s.sag.root ++
      le 1 (packBits [s.sag.debugOpen, s.sag.lcPending.isSome, tamperBlocks s, s.sag.erasePending]) ++
      le 1 s.sag.tamperActive) ∧
  (∀ s r slot p, Taken 0x0801 r s → slot < 64 → slotOf s slot = some p → exec (.sagSlotInfo r slot) s =
    .next (reply r 0x0801 stOk (keyHeader slot p.type p.attr p.usesMax ++ le 1 (slotState s slot) ++ le 1 p.root ++
      le 2 p.gen ++ le 4 (if bitN p.attr aCounted then p.usesLeft else 0xFFFFFFFF)) (noteBad slot s))) ∧
  (∀ s r slot, Taken 0x0801 r s → slot < 64 → slotOf s slot = none → exec (.sagSlotInfo r slot) s =
    .next (reply r 0x0801 stOk (keyHeader slot 0 0 0 ++ zeros 4 ++ le 4 0xFFFFFFFF) s)) ∧
  (∀ s r slot ty attr uses, Taken 0x0802 r s → s.sag.root ≠ 0 → headerOk slot ty attr = true → ty < 8 →
    slotOf s slot = none → ∃ t p, exec (.sagKeyGenerate r slot ty attr uses) s =
    .next (reply r 0x0802 stOk (le 2 0 ++ zeros 2 ++ le 8 s.clk.epoch) t) ∧ t.sag.slots = s.sag.slots.filter (·.slot != slot) ++ [p] ∧
    p.slot = slot ∧ p.type = ty ∧ p.attr = attr ∧ p.root = s.sag.root ∧ p.usesLeft = uses) ∧
  (∀ s r slot ty attr uses key, Taken 0x0803 r s → inFactory s = true → r.sender = .hostSpi → s.sag.root ≠ 0 →
    headerOk slot ty attr = true → keyLen ty = some key.length → slotOf s slot = none → ∃ t p,
    exec (.sagKeyWrite r slot ty attr uses key) s = .next (reply r 0x0803 stOk (le 2 0 ++ zeros 2 ++ le 8 s.clk.epoch) t) ∧
    t.sag.slots = s.sag.slots.filter (·.slot != slot) ++ [p] ∧ p.slot = slot ∧ p.key = key) ∧
  (∀ s r slot ty attr uses u wrapped, Taken 0x0804 r s → fieldOrFactory s = true → s.sag.root ≠ 0 →
    headerOk slot ty attr = true → slotRefusal (noteBad u s) u aUnwrap = none → ∃ t,
    exec (.sagKeyImport r slot ty attr uses u wrapped) s = .next t ∧
    (Config.unwrap (keyOf s u) wrapped = none → t = reply r 0x0804 stIntegrity [] (consume u s)) ∧
    (∀ key, Config.unwrap (keyOf s u) wrapped = some (keyHeader slot ty attr uses ++ key) → keyLen ty = some key.length →
      slotOf s slot = none → ∃ p, p ∈ t.sag.slots ∧ p.slot = slot ∧ p.key = key)) ∧
  (∀ s r src slot ty attr uses info, Taken 0x0805 r s → fieldOrFactory s = true → s.sag.root ≠ 0 →
    headerOk slot ty attr = true → ty ≤ 3 → info.length ≤ 64 → slotRefusal (noteBad src s) src aDerive = none →
    attr &&& maskWithout (((slotOf s src).map (·.attr)).getD 0) (2 ^ aDerive) = attr → slotOf s slot = none → ∃ t p,
    exec (.sagKeyDerive r src slot ty attr uses info) s =
    .next (reply r 0x0805 stOk (le 2 0 ++ zeros 2 ++ le 8 s.clk.epoch) t) ∧ p ∈ t.sag.slots ∧ p.slot = slot ∧
    p.key = padTo ((keyLen ty).getD 0) (Config.hkdf (keyOf s src) (le 8 s.ident.moduleId) info ((keyLen ty).getD 0))) ∧
  (∀ s r slot p, Taken 0x0806 r s → s.sag.root ≠ 0 → slotOf s slot = some p → bitN p.attr aImmutable = false →
    exec (.sagKeyErase r slot) s = .next (reply r 0x0806 stOk []
      (setSag (fun g => { g with
        slots := g.slots.filter (·.slot != slot), pubs := g.pubs.filter (·.slot != slot) }) s))) ∧
  (∀ s r slot which gen p k cert, Taken 0x0807 r s → slot < 64 → which ≤ 1 → slotOf s slot = some p →
    slotBar (noteBad slot s) slot aExportPub = none →
    (s.sag.pubs.find? fun k => k.slot == slot && k.gen == (if which = 0 then p.gen else gen)) = some k →
    cert = (if r.sender = .letterbox then [] else k.cert) →
    exec (.sagPubkeyExport r slot which gen) s = .next (reply r 0x0807 stOk (le 1 k.type ++ zeros 1 ++ le 2 k.gen ++
      le 2 k.pub.length ++ le 2 cert.length ++ k.pub ++ cert) s)) ∧
  (∀ s r slot p k cert, Taken 0x0808 r s → cert.length ≤ 2048 → slotOf s slot = some p →
    slotBar (noteBad slot s) slot aExportPub = none →
    (s.sag.pubs.find? fun k => k.slot == slot && k.gen == p.gen) = some k → Config.certSubject cert = k.pub → ∃ t,
    exec (.sagCertAttach r slot cert) s = .next (reply r 0x0808 stOk [] t) ∧
    t.sag.pubs = s.sag.pubs.map (fun k => if k.slot == slot && k.gen == p.gen then { k with cert := cert } else k))

/-- Completion, life cycle, tamper and debug (R396, R397, R398, R399, R400, R401, R402, R404). The instant clk.now is the
model's own (log entry 3). -/
def Obligations.LifecycleTamperCommandsComplete : Prop :=
  (∀ s r code target unlock, Taken 0x0809 r s → lifecycleOf code = some target → s.sag.lcPending = none →
    lcRefusal s target r.sender unlock = none →
    ∃ t, exec (.sagLifecycleSet r code unlock) s = .next (reply r 0x0809 stOk (le 8 (s.clk.epoch + 1)) t) ∧
    t.sag.lcPending = some target ∧ t.sag.lifecycle = s.sag.lifecycle) ∧
  (∀ s target, s.sag.lcPending = some target → s.dom.d3 = true → ∃ t, exec .lifecycleRestart s = .next t ∧
    t.sag.lcPending = none ∧ t.sag.lifecycle = target ∧ t.dom.cause = 6 ∧ t.dom.d3 = false) ∧
  (∀ s r mask, Taken 0x080A r s → mask &&& s.sag.blocking &&& s.sag.tamperActive = 0 → exec (.sagTamperAck r mask) s =
    .next (reply r 0x080A stOk (le 1 (maskWithout s.sag.blocking mask))
      (setSag (fun g => { g with blocking := maskWithout g.blocking mask }) s))) ∧
  (∀ s r, Taken 0x080B r s → s.sag.lifecycle = .returned → ∃ t challenge, exec (.sagUnlockChallenge r) s =
    .next (reply r 0x080B stOk challenge t) ∧ t.sag.challenge = some challenge ∧
    t.sag.challengeNo = s.sag.challengeNo + 1 ∧ challenge.length = 32) ∧
  (∀ s levels, s.dom.d0 = true → ∃ t, exec (.tampSample levels) s = .next t ∧
    t.sag.tamp = tampNext (param s 0x0801) s.sag.tamp s.sag.tampPrev ((levels ^^^ param s 0x0802) &&& param s 0x0801) ∧
    t.sag.tampPrev = (levels ^^^ param s 0x0802) &&& param s 0x0801) ∧
  (∀ s at0, s.inp.npeSince = some at0 → s.dom.d2 = true → bitN s.sag.tamperActive 4 = false → ∃ t,
    exec .earthLoading s = .next t ∧ bitN t.sag.tamperActive 4 = true ∧ t.clk.now = max s.clk.now (at0 + Tick.s 10)) ∧
  (∀ s potting, s.dom.d0 = true → (s.pwr.d0OnRails && !inHoldup s) = false → ∃ t, exec (.meshBreach potting) s = .next t ∧ t.sag.root = 0 ∧
    t.sag.erasePending = true ∧ t.sag.slots = s.sag.slots.filter (fun p => !bitN p.attr aExpire) ∧
    t.sag.lifecycle = s.sag.lifecycle) ∧
  (∀ s potting, s.dom.d0 = true → s.pwr.d0OnRails = true → inHoldup s = false → ∃ t, exec (.meshBreach potting) s =
    .next t ∧ t.sag.root = 0 ∧ t.sag.erasePending = false ∧ t.sag.slots = [] ∧ t.sag.pubs = [] ∧
    t.sag.lifecycle = .ended) ∧
  (∀ s value, debugAllowed s = true → exec (.dbgEnableWrite value) s =
    .next (setSag (fun g => { g with dbgEnable := bitN value 0 }) s)) ∧
  (∀ s read a d, s.dom.d3 = true → debugAllowed s = true → s.sag.debugOpen = true → ∃ t,
    exec (.spyholeDebugAccess read a d) s = .next t ∧ t.sag.spyAck = 1) ∧
  (∀ s read a d, s.dom.d3 = true → (debugAllowed s && s.sag.debugOpen) = false → exec (.spyholeDebugAccess read a d) s =
    .next (setSag (fun g => { g with spyAck := 4 }) s))

/-- Completion, card reader and Letterbox as the module uses them (R410, R412, R415, R419, R421, R423, R427). -/
def Obligations.ReaderCommandsComplete : Prop :=
  (∀ s cards, readerState s = 1 → ∃ t, exec (.pollCycle cards) s = .next t ∧
    t.con.tooMany = decide (8 ≤ (selected s cards).length) ∧
    (∀ i, i ∈ selected s cards → t.con.cards.any (·.ident == i) = true)) ∧
  (∀ s change, readerState s = 2 → 30 < change → bitN (param s 0x0102) 1 = true → ∃ t,
    exec (.lowPowerDetectPulse change) s = .next t ∧ bitN t.nl.wakeDue 1 = true) ∧
  (∀ s r, Taken 0x0900 r s → r.sender = .letterbox → exec (.conStatus r) s = .next (reply r 0x0900 stOk
    (le 1 s.con.config.state ++ le 1 s.con.config.attempts ++ le 1 (b2n s.con.field) ++ le 1 (readerState s) ++ zeros 140)
    s)) ∧
  (∀ s r iAnt phase, Taken 0x0901 r s → readerState s ≠ 0 → ∃ t, exec (.conTune r iAnt phase) s =
    .next (reply r 0x0901 stOk (le 2 iAnt ++ leI 2 phase) t) ∧ t.con.iAnt = iAnt ∧ t.con.phase = phase) ∧
  (∀ s r o, Taken 0x0902 r s → o.length = 8 + 8 * fieldAt o 2 2 → crcAt o (4 + 8 * fieldAt o 2 2) = true →
    fieldAt o 2 2 ≤ 500 → ascending ((List.range (fieldAt o 2 2)).map fun k => padTo 8 (o.drop (4 + 8 * k))) = true → ∃ t,
    exec (.conListLoad r o) s = .next (reply r 0x0902 stOk [] t) ∧ t.con.list =
      some ⟨fieldAt o 0 2, (List.range (fieldAt o 2 2)).map fun k => padTo 8 (o.drop (4 + 8 * k))⟩) ∧
  (∀ s r page, Taken 0x0903 r s → page ≤ 14 → exec (.conLbRead r page true) s =
    .next (reply r 0x0903 stOk (le 1 page ++ zeros 1 ++ le 2 (pageGen s page) ++ pageData s page) s)) ∧
  (∀ s r page data, Taken 0x0904 r s → conGate s = false → 6 ≤ page → page ≤ 11 → exec (.conLbWrite r page data true) s =
    .next (reply r 0x0904 stOk (le 2 (pageGen (pageWrite page data s) page)) (pageWrite page data s))) ∧
  (∀ s r a b, Taken 0x0905 r s → conGate s = false → a ≠ 0 → b ≠ 0 → ∃ t, exec (.conLbConfig r 1 a b true) s =
    .next (reply r 0x0905 stOk (le 1 1 ++ le 1 (param s 0x0904)) t) ∧ t.con.config = ⟨1, a, b, param s 0x0904⟩) ∧
  (∀ s n, s.dom.d3 = true → s.snap.published = true → summaryCalled s = true → 6 ≤ n → ∃ t, exec (.letterboxSummaryWrite n) s = .next t ∧
    t.con.summaryEpoch = s.snap.epoch ∧ t.con.summaryUnclean = false ∧
    (s.hold.stage = .letterbox → t.hold.stage = .display)) ∧
  (∀ s, serving s = true → serialNewer 16 (pageGen s 14) s.con.baseline = true → ∃ t, exec .lbBrixoRequest s = .next t ∧
    t.con.baseline = pageGen s 14)

/-- Completion, Letterbox over its field interface (R416, R417, R419, R422). -/
def Obligations.LetterboxFieldCommandsComplete : Prop :=
  (∀ s n mask, s.con.rf ≠ 1 → s.con.uid % 2 ^ n = mask → ∃ t b, exec (.inventory n mask) s = .next t ∧
    t.con.answer = .ok (b :: le 8 s.con.uid) ∧ t.con.rf = s.con.rf ∧ t.con.field = true) ∧
  (∀ s, exec (.stayQuiet 1) s = .next (rfAnswer .none (setCon (fun x => { x with rf := 1 }) s))) ∧
  (∀ s, exec (.select 1) s = .next (rfAnswer (.ok []) (setCon (fun x => { x with rf := 2 }) s))) ∧
  (∀ s dest, reaches s (if dest = 0 then 1 else dest) = true → exec (.resetToReady dest) s =
    .next (rfAnswer (.ok []) (setCon (fun x => { x with rf := 0 }) s))) ∧
  (∀ s dest, reaches s dest = true → exec (.getSystemInformation dest) s =
    .next (rfAnswer (.ok (le 8 s.con.uid ++ le 2 959 ++ le 1 3)) s)) ∧
  (∀ s dest block, reaches s dest = true → block < 960 → fieldReads s (block / 60) = true → exec (.readSingleBlock dest block) s =
    .next (rfAnswer (.ok (blockData s block)) s)) ∧
  (∀ s dest block n, reaches s dest = true → n ≠ 0 → block + n ≤ 960 →
    ((List.range n).any fun k => !fieldReads s ((block + k) / 60)) = false → exec (.readMultipleBlocks dest block n) s =
    .next (rfAnswer (.ok ((List.range n).flatMap fun k => blockData s (block + k))) s)) ∧
  (∀ s dest block data, reaches s dest = true → block ≠ 957 → block ≠ 958 → fieldWrites s (block / 60) = true →
    exec (.writeSingleBlock dest block data 0) s = .next (rfAnswer (.ok []) (lbEvent 1 (block / 60) (pageWrite (block / 60)
      ((pageData s (block / 60)).take (4 * (block % 60)) ++ padTo 4 data ++
        (pageData s (block / 60)).drop (4 * (block % 60) + 4)) s)))) ∧
  (∀ s dest block data, reaches s dest = true → 2 ≤ data.length / 4 → block / 60 = (block + data.length / 4 - 1) / 60 →
    fieldWrites s (block / 60) = true → exec (.writeMultipleBlocks dest block data 0) s = .next (rfAnswer (.ok [])
      (lbEvent 1 (block / 60) (pageWrite (block / 60) ((pageData s (block / 60)).take (4 * (block % 60)) ++
        data.take (4 * (data.length / 4)) ++
        (pageData s (block / 60)).drop (4 * (block % 60) + 4 * (data.length / 4))) s)))) ∧
  (∀ s dest, reaches s dest = true → exec (.lbUnsupportedCommand dest) s = .next (rfAnswer (.error 0x0F) s)) ∧
  (∀ s, exec .lbFieldDrop s = .next (setCon (fun x => { x with auth := 0, field := false, rf := 0 }) s))

/-- Completion, window display (R431, R432, R433, R438, R439, R444, R445). The instant clk.now is the model's own (log entry
3). -/
def Obligations.DisplayCommandsComplete : Prop :=
  (∀ s r, Taken 0x0A00 r s → ∃ body, exec (.dispStatus r) s = .next (reply r 0x0A00 stOk body s) ∧
    body.take 6 = le 1 (dispState s) ++ le 1 (b2n (s.disp.waiting.isSome || s.disp.copying.isSome)) ++ le 2 s.disp.gen ++
      le 2 s.disp.shownGen) ∧
  (∀ s r offset len data, Taken 0x0A01 r s → len ≠ 0 → len ≤ 4088 → offset + len ≤ imageBytes s → s.disp.copying = none →
    ∃ t, exec (.dispImageWrite r offset len data) s = .next (reply r 0x0A01 stOk [] t) ∧ t.disp.staging =
      (padTo (imageBytes s) s.disp.staging).take offset ++ padTo len data ++
        (padTo (imageBytes s) s.disp.staging).drop (offset + len)) ∧
  (∀ s r mode x y w h crc tab band, Taken 0x0A02 r s → dispMode s = true → mode ≠ 0 → mode ≤ 3 →
    w ≠ 0 → h ≠ 0 → x + w ≤ panelW s → y + h ≤ panelH s → crc32c (padTo (imageBytes s) s.disp.staging) = crc →
    s.disp.table = some tab → bandOf tab (dispTemp s) = some band → fits s (framesOf s tab band mode ⟨x, y, w, h⟩) = true →
    s.disp.waiting = none → s.disp.copying = none → ∃ t, exec (.dispUpdate r mode x y w h crc) s =
    .next (reply r 0x0A02 stAccepted (dispBody ((s.disp.gen + 1) % 65536) (framesOf s tab band mode ⟨x, y, w, h⟩)
      (setDisp (fun d => { d with
        gen := (s.disp.gen + 1) % 65536,
        copying := some ⟨(s.disp.gen + 1) % 65536, mode, ⟨x, y, w, h⟩, framesOf s tab band mode ⟨x, y, w, h⟩, none, crc, none,
          0⟩ }) s)) t) ∧ t.disp.gen = (s.disp.gen + 1) % 65536 ∧ t.disp.copying.isSome = true) ∧
  (∀ s r tab, Taken 0x0A03 r s → dispMode s = true → s.disp.table = some tab → ∃ t body,
    exec (.dispClean r) s = .next (reply r 0x0A03 stAccepted body t) ∧ t.disp.gen = (s.disp.gen + 1) % 65536 ∧
    t.disp.recovery = 4) ∧
  (∀ s q k, s.disp.copying = some q → freeSlot s = some k → s.dom.d3 = true → inHoldup s = false →
    exec .imageCopyComplete s = .next (tryWaiting (setDisp (fun d => { d with
      copying := none, waiting := some { q with slot := some k },
      slots := d.slots.set k (some (padTo (imageBytes s) d.staging)) }) s))) ∧
  (∀ s d, s.disp.drive = some d → d.rising = true → ¬(1 ≤ d.step ∧ d.step ≤ 3) → ∃ t,
    exec .dispRailsGood s = .next t ∧ (t.disp.drive.map (·.rising)) = some false ∧ t.disp.dirty.state = 1 ∧ t.disp.dirty.frameDone = 0 ∧
    t.disp.dirty.nTotal = d.req.frames ∧ t.disp.dirty.gen = d.req.gen) ∧
  (∀ s d, s.disp.drive = some d → d.rising = true → 1 ≤ d.step → d.step ≤ 3 → ∃ t,
    exec .dispRailsGood s = .next t ∧ (t.disp.drive.map (·.rising)) = some false ∧
    t.disp.dirty = { s.disp.dirty with frameDone := 0, nTotal := d.req.frames }) ∧
  (∀ s d, s.disp.drive = some d → d.rising = false → s.disp.paused = false →
    s.disp.dirty.frameDone + 1 < s.disp.dirty.nTotal → ∃ t, exec .dispFrameEnd s = .next t ∧
    t.disp.dirty.frameDone = s.disp.dirty.frameDone + 1 ∧ t.disp.drive = some d) ∧
  (∀ s d, s.disp.drive = some d → d.rising = false → s.disp.paused = false →
    s.disp.dirty.nTotal ≤ s.disp.dirty.frameDone + 1 → ∃ t, exec .dispFrameEnd s = .next t ∧ t.disp.drive = none ∧
    t.disp.railsDown = some (max s.clk.now (s.disp.frameAt + frameTime s) + Tick.ms 10)) ∧
  (∀ s at0, s.disp.railsDown = some at0 → exec .dispRailsDown s =
    .next (driveNext (setDisp (fun x => { x with railsUp := false, railsDown := none }) (advanceTo at0 s)))) ∧
  (∀ s d, s.disp.railsUp = true → s.disp.drive = some d → ∃ t, exec .dispRailFault s = .next t ∧ t.disp.railsUp = false ∧
    t.disp.drive = none ∧ t.disp.dirty.state = 3 ∧ t.disp.recovery = 0) ∧
  (∀ s q, s.disp.waiting = some q → (∀ at0, q.failedAt = some at0 → q.checked < s.clk.epoch) →
    exec .waitingUpdateCheck s = .next (tryWaiting s)) ∧
  (∀ s q at0, s.disp.waiting = some q → q.failedAt = some at0 → ∃ t, exec .waitingUpdateTimeout s = .next t ∧
    t.disp.waiting = none ∧ t.clk.now = max s.clk.now (at0 + Tick.s 10)) ∧
  (∀ s tab, s.disp.table = some tab → s.disp.transomAt = none → s.dom.d3 = true → inHoldup s = false → driveFree s = true →
    s.disp.recovery = 0 → fits s (framesOf s tab (bandNear tab (dispTemp s)) 2 (transomRect s)) = true → ∃ t,
    exec .transomRefresh s = .next t ∧ t.disp.drawing = transomRows s ∧
    (t.disp.drive.map fun d => (d.kind, d.rising)) = some (.transom, true))

/-- Completion, mains carrier (R449, R451, R452, R453, R456, R460): windows, frames and timers. The instant clk.now is the
model's own (log entry 3). -/
def Obligations.CarrierCommandsComplete : Prop :=
  (∀ s rising preamble, serving s = true → inHoldup s = false → ∃ t, exec (.supplyZeroCrossing rising preamble) s =
    .next t ∧ t.mc.lastZc = some s.clk.now ∧ (rising = true → t.mc.lastRising = some s.clk.now)) ∧
  (∀ s f, nextFrame s = some f → mcTx s = true → s.mc.current = none → s.mc.ackDue = none → s.mc.quiet = 2 →
    s.mc.backoff = some 0 → s.mc.reserved = 0 → ∃ t, exec .mcFrameBegin s = .next t ∧ t.mc.current = some f ∧
    t.mc.queue = s.mc.queue.erase f ∧ t.mc.backoff = none ∧ t.mc.quiet = 0 ∧ t.mc.awaiting = false) ∧
  (∀ s h segs snr z c, s.mode.mode ≠ .watch → mcRx s = true → h.dst ≠ ownShort s → h.dst ≠ 0xFFFF → ∃ t,
    exec (.mcDataFrame h segs snr z c) s = .next t ∧ t.mc.reserved = 3) ∧
  (∀ s h segs snr z c, s.mode.mode ≠ .watch → mcRx s = true → h.dst = ownShort s →
    exec (.mcDataFrame h segs snr z c) s = .next (mcCollect h segs snr (heardFrame h.src z c s))) ∧
  (∀ s f bitmap snr z c, mcRx s = true → (heardFrame f.dst z c s).mc.current = some f →
    (heardFrame f.dst z c s).mc.awaiting = true → ((List.range (divCeil f.payload.length 32)).filter fun n => !bitN bitmap n) = [] →
    f.downgraded = false → ownShort (heardFrame f.dst z c s) = ownShort s → ∃ t,
    exec (.mcAckFrame f.dst (ownShort s) f.seq bitmap snr z c) s = .next t ∧ t.mc.current = none ∧ t.mc.awaiting = false ∧
    t.mc.k = 2) ∧
  (∀ s h snrs z c, mcRx s = true → h.dst = ownShort (heardFrame h.src z c s) → ∃ t,
    exec (.toneMapRequest h snrs z c) s = .next t ∧
    t.mc.ackDue = some (h.src, h.seq, 0, divRoundN (sumN (snrs.take 30)) 30)) ∧
  (∀ s h tmi map snr z c, mcRx s = true → h.dst = ownShort (heardFrame h.src z c s) → ∃ t,
    exec (.toneMapReply h tmi map snr z c) s = .next t ∧ t.mc.ackDue = some (h.src, h.seq, 1, snr)) ∧
  (∀ s h z c, mcRx s = true → h.moduleId ≠ s.ident.moduleId → s.mc.neighbours.length < 64 → ∃ t,
    exec (.beacon h z c) s = .next t ∧ t.mc.neighbours.any (·.moduleId == h.moduleId) = true) ∧
  (∀ s f, s.mc.current = some f → mcTx s = true → s.mc.awaiting = true → s.mc.reserved = 0 → f.retry < param s 0x0B04 →
    f.silent + 1 ≠ 3 → ∃ t, exec .mcAckWindowExpiry s = .next t ∧ t.mc.k = min 6 (s.mc.k + 1) ∧
    (t.mc.current.map fun x => (x.retry, x.silent)) = some (f.retry + 1, f.silent + 1) ∧ t.mc.awaiting = false) ∧
  (∀ s src seq p, (s.mc.rx.find? fun p => p.src == src && p.seq == seq) = some p → serving s = true →
    exec (.mcIncompleteFrameDiscard src seq) s =
    .next (setMc (fun m => { m with rx := m.rx.erase p }) (advanceTo (p.last + Tick.s 2) s))) ∧
  (∀ s short n, mcFind s short = some n → mcRx s = true → ∃ t, exec (.toneMapRefreshDue short) s = .next t ∧
    t.clk.now = max s.clk.now (n.refreshed + Tick.s (param s 0x0B02))) ∧
  (∀ s id n k, s.mc.neighbours.zipIdx.find? (·.1.moduleId == id) = some (n, k) → mcRx s = true → ∃ t,
    exec (.mcNeighbourLost id) s = .next t ∧ t.mc.neighbours = s.mc.neighbours.filter (·.moduleId != id)) ∧
  (∀ s, mcTx s = true → ∃ u, exec .beaconTimer s = .next (mcOwnFrame 5 0xFFFF 0 (helloBytes (helloBlock 0 u)) u) ∧
    u.clk.now = max s.clk.now s.mc.beaconAt ∧ u.clk.now + Tick.s (param s 0x0B05) ≤ u.mc.beaconAt ∧
    u.mc.beaconAt ≤ u.clk.now + Tick.s (param s 0x0B05) + Tick.s (param s 0x0B05) / 4) ∧
  (∀ s r, Taken 0x0B00 r s → ∃ body, exec (.mcStatus r) s = .next (reply r 0x0B00 stOk body s) ∧
    (body.drop 8).take 20 = le 4 s.mc.framesTx ++ le 4 s.mc.framesRx ++ le 4 s.mc.framesFailed ++ le 4 s.mc.segRetx ++
      le 4 s.mc.downgrades) ∧
  (∀ s r first n, Taken 0x0B01 r s → first < 64 → n ≠ 0 → n ≤ 32 → exec (.mcNeighbourRead r first n) s =
    .next (reply r 0x0B01 stOk (le 1 first ++ le 1 ((s.mc.neighbours.drop first).take n).length ++ zeros 2 ++
      ((s.mc.neighbours.drop first).take n).flatMap mcEntry) s)) ∧
  (∀ s r short n, Taken 0x0B02 r s → mcFind s short = some n → mcTx s = true → ∃ t, exec (.mcTonemapRefresh r short) s =
    .next (reply r 0x0B02 stAccepted [] t) ∧ ((mcFind t short).map (·.wanted)) = some true)

/-- Completion, Lintel (R461, R462, R464, R465, R466, R467, R468, R479): links, tree, packets and switch. The instant
clk.now is the model's own (log entry 3). -/
def Obligations.LintelCommandsComplete : Prop :=
  (∀ s, fabricRuns s = true → ∃ t, exec .helloTimer s = .next t ∧
    (∀ l, l < 6 → linkOn s l = true → (s.lin.neighbours.filter (·.link == l)) = [] → 
      (l, 0, helloBlock 0 (advanceTo s.lin.helloAt s)) ∈ t.lin.helloSent) ∧
    (∀ l n, l < 6 → linkOn s l = true → n ∈ s.lin.neighbours.filter (·.link == l) →
      (l, n.hello.moduleId, helloBlock n.hello.moduleId (advanceTo s.lin.helloAt s)) ∈ t.lin.helloSent) ∧
    t.lin.helloAt = max s.clk.now s.lin.helloAt + Tick.ms 100) ∧
  (∀ s l h, fabricRuns s = true → linkOn s l = true → exec (.helloReceived l h) s = .next (takeHello l h s)) ∧
  (∀ s l id n, neighbour s l id = some n → fabricRuns s = true → l < 6 → exec (.linkDown l id) s =
    .next (dropNeighbour l id (advanceTo (n.heard + Tick.ms 300) s))) ∧
  (∀ s l id n, neighbour s l id = some n → fabricRuns s = true → n.unacked ≠ [] → ∃ t,
    exec (.linkRetransmitTimeout l id) s = .next t ∧
    t.lin.linkRetx = min 0xFFFFFFFF (s.lin.linkRetx + (n.unacked.take 64).length) ∧
    t.lin.neighbours.map (·.unacked) = s.lin.neighbours.map (·.unacked) ∧ t.clk.now = max s.clk.now n.retxAt) ∧
  (∀ s, fabricRuns s = true → exec .routeTimer s = .next (sendRoute (setLin (fun l => { l with
      routeAt := max s.clk.now s.lin.routeAt + Tick.s 1 }) (advanceTo s.lin.routeAt s)))) ∧
  (∀ s, s.lin.conflict = true → fabricRuns s = true → ∃ t, exec .addressConflictClear s = .next t ∧
    t.lin.conflict = false ∧ t.lin.withdrawn = false ∧ t.clk.now = max s.clk.now (s.lin.conflictAt + Tick.s 10)) ∧
  (∀ s l id n q acked full p, neighbour s l id = some n → fabricRuns s = true → linkOn s l = true → l < 6 →
    (∀ last, n.rxSeq = some last → q = (last + 1) % 65536) → n.unacked.take acked = [] →
    exec (.fabricPacketReceived l id q acked full p) s = .next (takePacket (some (l, id)) full p
      (setNeighbour l id (fun x => { x with heard := s.clk.now, rxSeq := some q }) s))) ∧
  (∀ s l id n q acked full p last, neighbour s l id = some n → fabricRuns s = true → linkOn s l = true → l < 6 →
    n.rxSeq = some last → q ≠ (last + 1) % 65536 → n.unacked.take acked ≠ [] →
    exec (.fabricPacketReceived l id q acked full p) s = .next (acknowledge l id
      (fun x => !(n.unacked.take acked).contains x)
      (setNeighbour l id (fun x => { x with heard := s.clk.now, rxSeq := x.rxSeq }) s))) ∧
  (∀ s src msg f, (s.lin.frags.find? fun f => f.src == src && f.msgId == msg) = some f → fabricRuns s = true →
    exec (.fragmentReassemblyTimeout src msg) s =
    .next (setLin (fun l => { l with frags := l.frags.erase f }) (advanceTo (f.last + Tick.s 2) s))) ∧
  (∀ s port src dst, s.dom.d3 = true → dst = ownMac s → bitN dst 40 = false → port ≠ 2 → ∃ t,
    exec (.ethernetFrame port src dst) s = .next t ∧ t.lin.ethOut = [2] ∧
    t.lin.macTable = learn src port s.clk.now s.lin.macTable) ∧
  (∀ s mac e, s.lin.macTable.find? (·.1 == mac) = some e → s.dom.d3 = true → exec (.addressTableAgeing mac) s =
    .next (setLin (fun l => { l with macTable := l.macTable.filter (·.1 != mac) }) (advanceTo (e.2.2 + Tick.s 300) s))) ∧
  (∀ s r, Taken 0x0C00 r s → ∃ body, exec (.linStatus r) s = .next (reply r 0x0C00 stOk body s) ∧
    body.take 2 = le 2 (ownAddr s)) ∧
  (∀ s r, Taken 0x0C01 r s → ∃ body, exec (.linTokenStatus r) s = .next (reply r 0x0C01 stOk body s) ∧
    body.take 2 = le 2 (tokensHeld s) ∧ (body.drop 4).take 6 = le 2 (borrowedInUse s) ++ le 2 (spareTokens s) ++
      le 2 (wantTokens s)) ∧
  (∀ s r dst b, Taken 0x0C02 r s → dst ≠ 0 → dst ≤ 0x1000 → b.length ≤ 4108 → datagramOk b = true →
    fieldAt b (8 + (packetOf b).len) 4 = crc32c (crcHead b ++ (b.drop 8).take (packetOf b).len) → ownAddr s ≠ 0 →
    routable s dst = true → exec (.linForward r dst b) s = .next (fabricSend 1 1 dst b (setLin (fun l => { l with
      forwards := l.forwards ++ [⟨r, dst, (packetOf b).chan, (packetOf b).seq, s.clk.now + Tick.s 3⟩] }) s))) ∧
  (∀ s f rest, s.lin.forwards = f :: rest → serving s = true → exec .linForwardTimeout s =
    .next (reply f.req 0x0C02 stNoReply [] (setLin (fun l => { l with forwards := rest }) (advanceTo f.deadline s))))

/-- Completion, tokens (R472, R474, R475, R476): messages and clocks of lending. The instant clk.now is the model's own (log
entry 3). -/
def Obligations.TokenCommandsComplete : Prop :=
  (∀ s a, trades s = true → tokensHeld s < wantTokens s → s.lin.askedAt = none → s.lin.asked = [] →
    lenders s = [a] → ∃ t, exec .borrowTick s = .next t ∧ t.lin.askedAt = some s.clk.now ∧
    t.lin.asked = [(a, s.clk.now)]) ∧
  (∀ s n at0, s.lin.home.find? (·.1 == n) = some (n, .out at0) → fabricRuns s = true → exec (.tokenLendable n) s =
    .next (setPlaces [n] .lendable (advanceTo (at0 + Tick.s 8) s))) ∧
  (∀ s m, hearsTokens s = true → exec (.tokenRequest m) s = .next (takeTokenMsg 1 m s)) ∧
  (∀ s m, hearsTokens s = true → exec (.tokenGrant m) s = .next (takeTokenMsg 2 m s)) ∧
  (∀ s m, hearsTokens s = true → exec (.tokenAccept m) s = .next (takeTokenMsg 3 m s)) ∧
  (∀ s m, hearsTokens s = true → exec (.tokenCommit m) s = .next (takeTokenMsg 4 m s)) ∧
  (∀ s m, hearsTokens s = true → exec (.tokenAbort m) s = .next (takeTokenMsg 5 m s)) ∧
  (∀ s m, hearsTokens s = true → exec (.tokenRenew m) s = .next (takeTokenMsg 6 m s)) ∧
  (∀ s m, hearsTokens s = true → exec (.tokenRenewed m) s = .next (takeTokenMsg 7 m s)) ∧
  (∀ s m, hearsTokens s = true → exec (.tokenReturn m) s = .next (takeTokenMsg 8 m s)) ∧
  (∀ s m, hearsTokens s = true → exec (.tokenRecall m) s = .next (takeTokenMsg 9 m s)) ∧
  (∀ s x peer l, (s.lin.lendings.find? fun l => l.is x peer && !l.lent) = some l → fabricRuns s = true → ∃ t,
    exec (.tokenAcceptTimeout x peer) s = .next t ∧ t = endLending x peer l.tokens (advanceTo l.deadline s)) ∧
  (∀ s x home b, (s.lin.borrowings.find? fun b => b.is x home && !b.committed) = some b → fabricRuns s = true →
    4 ≤ b.resends → ∃ t, exec (.tokenCommitWait x home) s = .next t ∧
    t.lin.borrowings = s.lin.borrowings.filter (fun y => !(y.is x home && !y.committed)) ∧
    t.clk.now = max s.clk.now (b.acceptSent + Tick.s (2 + b.resends))) ∧
  (∀ s x home b, borrowedLive s x home = some b → fabricRuns s = true → b.renewSent = none →
    max s.clk.now (b.leaseEnd - Tick.ms b.leaseMs / 2) + Tick.s 8 < b.leaseEnd →
    tokensHeld (advanceTo (b.leaseEnd - Tick.ms b.leaseMs / 2) s) ≤
      wantTokens (advanceTo (b.leaseEnd - Tick.ms b.leaseMs / 2) s) → b.tokens ≠ [] → ∃ t,
    exec (.leaseHalf x home) s = .next t ∧
    t.clk.now = max s.clk.now (b.leaseEnd - Tick.ms b.leaseMs / 2)) ∧
  (∀ s x home b, borrowedLive s x home = some b → fabricRuns s = true → ∃ t, exec (.leaseRelease x home) s = .next t ∧
    t.lin.borrowings = s.lin.borrowings.map (fun y =>
      if y.is x home && y.returnAt.isNone then { y with inUse := false } else y) ∧
    t.clk.now = max s.clk.now (b.leaseEnd - Tick.s 8)) ∧
  (∀ s x home b, (s.lin.borrowings.find? fun b => b.is x home && b.committed) = some b → fabricRuns s = true → ∃ t,
    exec (.leaseExpiry x home) s = .next t ∧
    t.lin.borrowings = s.lin.borrowings.filter (fun y => !(y.is x home && y.committed)) ∧
    t.clk.now = max s.clk.now b.leaseEnd) ∧
  (∀ s x home b at0, (s.lin.borrowings.find? fun b => b.is x home && b.returnAt.isSome) = some b → b.returnAt = some at0 →
    fabricRuns s = true → ∃ t, exec (.recallReturnTimer x home) s = .next t ∧
    t.lin.borrowings = s.lin.borrowings.erase b ∧ t.clk.now = max s.clk.now at0) ∧
  (∀ s x peer l, (s.lin.lendings.find? fun l => l.is x peer && l.lent) = some l → fabricRuns s = true →
    exec (.reissueClockExpiry x peer) s = .next (endLending x peer l.tokens (advanceTo l.deadline s))) ∧
  (∀ s at0, s.lin.quarantine = some at0 → fabricRuns s = true → ∃ t, exec .quarantineEnd s = .next t ∧
    t.lin.quarantine = none ∧ t.lin.home = (List.range (homeCount s)).map (fun k => (homeFirst s + k, TokenPlace.offer)) ∧
    t.clk.now = max s.clk.now at0)

/-- Completion, Hinge messages (R482, R484, R485, R486, R489): claims, heartbeats, replica epochs and the takeover. The
instant clk.now is the model's own (log entry 3). -/
def Obligations.HingeMessagesComplete : Prop :=
  (∀ s claim yields, hingeOn s = true → s.dom.d4 = true → s.hng.role ≠ .active → claim ≠ 0 → claim ≠ ownClaim s → ∃ t,
    exec (.peerClaimFrame true claim yields true) s = .next t ∧ t.hng.lineHeard = some s.clk.now ∧
    t.hng.peerClaim = claim ∧ t.hng.yieldSeen = (if yields = true then min 2 (s.hng.yieldSeen + 1) else 0) ∧
    t.hng.driving = false ∧ t.hng.peerLost = false) ∧
  (∀ s at0, hingeOn s = true → s.dom.d4 = true → s.hng.role ≠ .active → s.hng.lineHeard = some at0 → ∃ t,
    exec .peerClaimSilence s = .next t ∧ t.hng.starts = true ∧ t.hng.yieldSeen = 0 ∧ t.hng.driving = false ∧
    t.clk.now = max s.clk.now (at0 + Tick.ms 3)) ∧
  (∀ s id role claim syncs yields, hingeOn s = true → s.dom.d4 = true → s.hng.role ≠ .active → ∃ t,
    exec (.hingeHeartbeat id role claim syncs yields) s = .next t ∧ t.hng.linkHeard = some s.clk.now ∧ t.hng.peerId = id ∧
    t.hng.peerClaim = (if role = 1 ∨ claim ≠ 0 then claim else s.hng.peerClaim) ∧ t.hng.linkYield = yields ∧
    t.hng.peerLost = false ∧ t.hng.role = s.hng.role) ∧
  (∀ s m, hingeOn s = true → s.hng.role = .standby → s.dom.d2 = true → inHoldup s = false →
    exec (.hingeEpochMessage m) s = .next (
      if s.hng.resync = true ∨ m.entry.epoch ≤ s.hng.replEpoch then
        setHng (fun h => { h with peerEpoch := max h.peerEpoch m.entry.epoch }) s
      else if m.entry.epoch = s.hng.replEpoch + 1 ∨ bitN m.entry.flags 9 = true then
        setSynced (standbySynced (applyMsg m s)) (applyMsg m s)
      else setSynced false (setHng (fun h => { h with resync := true, peerEpoch := m.entry.epoch }) s))) ∧
  (∀ s trig, takeoverTrigger s = some trig → hingeOn s = true → s.hng.role = .standby → s.dom.d1 = true →
    inHoldup s = false → ∃ t, exec .hingeTakeover s = .next t ∧ t.hng.role = .active ∧ t.hng.synced = false ∧
    t.hng.count = max s.hng.count (s.hng.peerClaim / 2) + 1 ∧ t.hng.asked = 0 ∧ t.hng.own = List.replicate 36 0 ∧
    t.led.hingeSwitched = true) ∧
  (∀ s, s.hng.yielding = true → exec .yieldWithdraw s = .next
    (setHng (fun h => { h with yielding := false }) (advanceTo (s.hng.yieldSince + Tick.ms 200) s))) ∧
  (∀ s, hingeOn s = true → s.hng.role = .active → s.hng.isolated = false → ∃ t, exec .hingeIsolated s = .next t ∧
    t.hng.isolated = true ∧ t.hng.peerLost = true ∧
    t.clk.now = max s.clk.now (max (s.hng.linkHeard.getD 0) (s.hng.lineHeard.getD 0) + Tick.s 1)) ∧
  (∀ s, hingeOn s = true → s.hng.role = .none → s.dom.d2 = true → inHoldup s = false → s.hng.wasActive = false → ∃ t,
    exec .hingeRoleResume s = .next t ∧ t.hng.role = .standby ∧ t.hng.resync = true ∧
    t.hng.count = (if s.hng.peerClaim = 0 then s.hng.count else s.hng.peerClaim / 2) ∧ t.hng.own = List.replicate 36 0) ∧
  (∀ s e, hingeOn s = true → s.hng.role = .active → e ≤ s.hng.sentEpoch → exec (.hingeEpochAck e) s =
    .next (setHng (fun h => if h.acked < e then { h with replEpoch := e, acked := e } else h) s))

/-- Completion, Hinge upkeep (R485, R489, R490, R494, R495): resynchronisation, the proof test and the commands of a pair.
The instant clk.now is the model's own (log entry 3). -/
def Obligations.HingeCommandsComplete : Prop :=
  (∀ s msgs image blocks, hingeOn s = true → s.hng.role = .standby → s.hng.resync = true → s.dom.d2 = true →
    inHoldup s = false → ∃ t, exec (.hingeResync msgs image blocks) s = .next t ∧ t.hng.resync = false ∧
    t.hng.peerLost = false ∧ t.hng.peerEpoch = t.hng.replEpoch) ∧
  (∀ s diff, hingeOn s = true → s.hng.role = .active → s.dom.d3 = true → inHoldup s = false →
    s.hng.proofAsked = true ∨ proofDue s = true → diff.natAbs ≤ 10 * param s 0x0D03 → ∃ t,
    exec (.hingeProofTest true true diff true true true false) s = .next t ∧ t.hng.pathFault = false ∧
    t.hng.meterDiff = diff ∧ t.hng.meterDiffFlag = false ∧ t.hng.switchShort = false ∧ t.hng.proofAsked = false ∧
    t.hng.proofEpoch = s.clk.epoch) ∧
  (∀ s r, Taken 0x0D00 r s → ∃ body, exec (.hngStatus r) s = .next (reply r 0x0D00 stOk body s) ∧
    ∀ h, h = (asOf s).hng → body.take 2 = le 1 h.role.code ++ le 1 (packBits [h.synced, h.peerLost, h.isolated, h.conflict,
      h.resync, h.pathFault, h.switchShort, h.meterDiffFlag]) ∧
    (body.drop 4).take 8 = le 4 (unitClaim (asOf s)) ++ le 4 h.peerClaim ∧
    (body.drop 12).take 24 = le 8 h.peerId ++ le 8 h.replEpoch ++ le 8 h.proofEpoch) ∧
  (∀ s r, Taken 0x0D01 r s → hingeOn s = true → s.hng.role ≠ .none → inHoldup s = false → s.hng.synced = true →
    exec (.hngSwitch r) s = .next (reply r 0x0D01 stOk [] (setHng (fun h => { h with asked := 2 }) s))) ∧
  (∀ s r, Taken 0x0D02 r s → hingeOn s = true → s.hng.role = .standby →
    max (s.hng.linkHeard.getD 0) (s.hng.lineHeard.getD 0) + Tick.s 1 ≤ s.clk.now →
    exec (.hngForce r false) s = .next (reply r 0x0D02 stOk [] (setHng (fun h => { h with asked := 3 }) s))) ∧
  (∀ s r, Taken 0x0D03 r s → hingeOn s = true → s.hng.synced = true →
    exec (.hngProofRun r) s = .next (reply r 0x0D03 stOk [] (setHng (fun h => { h with proofAsked := true }) s)))

/-- Completion, firmware update (R500, R501, R502, R504, R512): staging, activation, trial and chain messages. The instant
clk.now is the model's own (log entry 3). -/
def Obligations.UpdateCommandsComplete : Prop :=
  (∀ s r, Taken 0x0E00 r s → ∃ body, exec (.updStatus r) s = .next (reply r 0x0E00 stOk body s) ∧
    body.take 64 = s.upd.record.bytes) ∧
  (∀ s r m, Taken 0x0E01 r s → s.upd.stage ≠ 1 → s.upd.stage ≠ 2 → s.upd.verifying = false → bundleLen m ≤ 10 * 2 ^ 20 →
    exec (.updStageBegin r m) s = .next (reply r 0x0E01 stOk (le 4 (bundleLen m))
      (setUpd (fun u => { u with staging := some (stageFrom m 1 none []), stage := 1 }) s))) ∧
  (∀ s r off data g, Taken 0x0E02 r s → s.upd.staging = some g → s.upd.stage = 1 → g.source = 1 →
    s.upd.verifying = false → off % 4 = 0 → data ≠ [] → data.length ≤ 4088 → off + data.length ≤ g.total →
    exec (.updStageWrite r off data.length data) s = .next (reply r 0x0E02 stOk
      (le 4 (nextMissing { g with bytes := writeAt g.bytes off data }))
      (setUpd (fun u => { u with staging := some { g with bytes := writeAt g.bytes off data } }) s))) ∧
  (∀ s r g, Taken 0x0E03 r s → s.upd.staging = some g → g.total ≤ nextMissing g → ∃ t, exec (.updVerify r) s = .next t ∧
    (manifestRefusal s ((g.bytes.map (·.getD 0)).take 704) = none →
      t = reply r 0x0E03 stAccepted [] (setUpd (fun u => { u with verifying := true }) s))) ∧
  (∀ s g, s.upd.staging = some g → s.upd.verifying = true → serving s = true → inHoldup s = false →
    ∃ t, exec .verifyComplete s = .next t ∧
    t.upd.verifying = false ∧ (t.upd.stage = 2 ∨ t.upd.stage = 3 ∧ t.upd.failStatus = stIntegrity)) ∧
  (∀ s r holds, Taken 0x0E04 r s → activateMode s = true → sessionOpen s = false → kmOpen s = true →
    s.upd.stage = 2 → pairBundle s = false → exec (.updActivate r holds) s = .next (reply r 0x0E04 stOk (le 8 (s.clk.epoch + 1))
      (setUpd (fun u => { u with restartAt := some (s.clk.now + Tick.ms 10) }) (commitActivation 0 s)))) ∧
  (∀ s r, Taken 0x0E04 r s → activateMode s = true → sessionOpen s = false → kmOpen s = true →
    s.upd.stage = 2 → pairBundle s = true → hingeOn s = true → s.hng.synced = true → s.hng.role = .active → ∃ t,
    exec (.updActivate r true) s = .next (reply r 0x0E04 stOk (le 8 (s.clk.epoch + 1)) t) ∧ t.upd.pairWait = true ∧
    t.upd.record.pairState = 1 ∧ t.upd.record.state = s.upd.record.state) ∧
  (∀ s peer at0, s.upd.restartAt = some at0 → inHoldup s = false → exec (.activationRestart peer) s =
    .next (moduleRestart 6 (loadParts (advanceTo at0 s)))) ∧
  (∀ s peer, s.upd.restartAt = none → hingeOn s = true → inHoldup s = false → s.upd.record.state = 0 →
    s.upd.pairWait = true → s.hng.role ≠ .active → sessionOpen s = false → kmOpen s = true →
    exec (.activationRestart peer) s = .next (moduleRestart 6 (loadParts (commitActivation 2
      (advanceTo (s.clk.now + Tick.ms 10) s))))) ∧
  (∀ s r, Taken 0x0E05 r s → s.upd.record.state = 1 → trialOver s = false → s.mode.mode ≠ .none → exec (.updConfirm r) s =
    .next (reply r 0x0E05 stOk [] (confirmTrial s))) ∧
  (∀ s at0, s.upd.trialSince = some at0 → s.upd.record.state = 1 → param s 0x0E03 = 1 → s.inp.faults = [] →
    s.shu.latches = 0 → trialOver s = false → ∃ t,
    exec .autoConfirm s = .next t ∧ t.upd.record.state = 0 ∧ t.upd.trialSince = none ∧ t.upd.confirmed = true ∧
    t.clk.now = max s.clk.now (at0 + Tick.s 30)) ∧
  (∀ s, s.upd.record.state = 1 → s.dom.d2 = true → inHoldup s = false → exec .trialTimeout s =
    .next (rollback 4 (advanceTo (s.clk.epochStart +
      (s.upd.record.trialEpoch + 100 * param s 0x0E02 - s.clk.epoch) * Tick.epoch) s))) ∧
  (∀ s src id, chainOn s = true → ownAddr s ≠ 0 → exec (.chainOffer src id) s = .next (takeOffer src id s)) ∧
  (∀ s src id off len, chainOn s = true → ownAddr s ≠ 0 → exec (.chainRequest src id off len) s =
    .next (takeChunkRequest src id off len s)) ∧
  (∀ s src id off d, chainOn s = true → ownAddr s ≠ 0 → exec (.chainChunk src id off d) s =
    .next (takeChunk src id off d s)) ∧
  (∀ s src id, chainOn s = true → ownAddr s ≠ 0 → exec (.chainHave src id) s = .next (takeHave src s)) ∧
  (∀ s g n at0, s.upd.staging = some g → g.fetch = some (n, at0) → chainWrites s = true → chainOn s = true →
    g.offerers = [n] → ∃ t, exec .chainFetchTimeout s = .next t ∧ t.clk.now = max s.clk.now (at0 + Tick.s 10) ∧
    t.upd.staging = some { g with fetch := some (n, t.clk.now) })

/-- Completion, auxiliary sensing (R515, R516, R517, R519, R530): conversions, triggers and the temperature limit. The
instant clk.now is the model's own (log entry 3). -/
def Obligations.AuxSensingCommandsComplete : Prop :=
  (∀ s ch code ovr under, s.dom.d3 = true → s.adc.running = none →
    exec (.adcConversionComplete ch false code ovr under) s = .next (deliver ⟨ch, .schedule, false⟩ code ovr under s)) ∧
  (∀ s ch conv code ovr under c, s.dom.d3 = true → s.adc.running = some c →
    exec (.adcConversionComplete ch conv code ovr under) s = .next (nextConversion (deliver c code ovr under s))) ∧
  (∀ s conv, s.dom.d3 = true → s.adc.running = none → exec (.urgentAdcRequest 0 24 conv) s =
    .next (setAdc (fun a => { a with running := some (begun s ⟨13, .cpHigh, false⟩) }) s)) ∧
  (∀ s busy conv ch, s.dom.d3 = true → bitN (param s 0x1007) 0 = true → s.adc.trig = none → trigChannel s 0 = some ch →
    s.adc.running = none → ∃ t, exec (.adcTrigEdge true busy conv) s = .next t ∧ t.adc.trig = some 0 ∧
    (t.adc.running.map (·.ch)) = some ch) ∧
  (∀ s a i, tempTarget s = some a → s.adc.iTemp = some i → serving s = true → i < a → ∃ t,
    exec .iTempRaiseStep s = .next t ∧ t.adc.iTemp = some (min a (i + 1000)) ∧
    t.adc.iTempAt = max s.clk.now (s.adc.iTempAt + Tick.s 10)) ∧
  (∀ s r mask, Taken 0x1000 r s → mask ≠ 0 → mask < 2 ^ 24 → ∃ body, exec (.auxRead r mask) s =
    .next (reply r 0x1000 stOk (le 4 mask ++ body) s) ∧ body = (maskIdx 24 mask).flatMap fun n =>
      le 2 ((s.adc.results[n]?).getD 0) ++ le 1 (packBits [decide (n < 6) && bitN s.adc.sensorFault n, s.adc.vrefFault])
        ++ zeros 1 ++ leI 4 ((s.adc.values[n]?).getD 0)) ∧
  (∀ s r ch n, Taken 0x1001 r s → ch < 24 → n ≠ 0 → n ≤ 64 → s.adc.converts.length < 4 → exec (.auxConvert r ch n) s =
    .next (setAdc (fun a => { a with converts := a.converts ++ [⟨r, ch, n, 0, 0, 0⟩] }) s)) ∧
  (∀ s r n, Taken 0x1002 r s → n ≠ 0 → n ≤ 64 → ∃ body, exec (.auxTrigRead r n) s = .next (reply r 0x1002 stOk body
      (setAdc (fun a => { a with fifo := a.fifo.drop n, missed := 0 }) s)) ∧
    body.take 4 = le 1 (s.adc.fifo.take n).length ++ zeros 1 ++ le 2 s.adc.missed)

/-- Completion, Nightlatch (R521, R523, R525, R526, R530): the clock on the battery, the idle current, watch rules and
wakes. The instant clk.now is the model's own (log entry 3). -/
def Obligations.NightlatchCommandsComplete : Prop :=
  (∀ s ppb, s.pwr.rails = true → s.dom.d2 = true → ∃ t, exec (.rtcDiscipline ppb) s = .next t ∧
    t.nl.offsets = (ppb :: s.nl.offsets).take 1000 ∧ t.nl.ppb = divRound (sumI t.nl.offsets) t.nl.offsets.length ∧
    t.nl.rtc = (if s.nl.rtcValid = true then civilNow s else s.nl.rtc)) ∧
  (∀ s, s.dom.d0 = true → s.dom.d2 = true → idleMode s = true → coilOn s = false → s.nl.armed = false → ∃ t,
    exec .idleCheckArm s = .next t ∧ t.nl.armed = true ∧ t.nl.above = [0, 0, 0, 0] ∧ t.nl.below = 0 ∧
    t.clk.now = max s.clk.now (s.nl.openSince.getD s.mode.startAt + Tick.ms 500)) ∧
  (∀ s, idleArmed s = true → s.dom.d2 = true → 100 ≤ s.nl.accN → ∃ t, exec .idleCurrentBlock s = .next t ∧
    t.nl.idleRms = (List.range 4).map (fun x => min 0xFFFF (blockRms s x)) ∧ t.nl.accN = 0) ∧
  (∀ s i r at0, s.nl.rules[i]? = some r → r.since = some at0 → s.dom.d3 = true → ruleAction s i ≠ 0 → ∃ t,
    exec (.watchRule i) s = .next t ∧ t.nl.rules = s.nl.rules.set i { active := !r.active, since := none } ∧
    t.clk.now = max s.clk.now (at0 + Tick.ms (100 * ruleTime s i))) ∧
  (∀ s at0, s.nl.wakePulse = some at0 → exec .wakeOutPulseEnd s =
    .next (setNl (fun n => { n with wakeOut := false, wakePulse := none }) (advanceTo at0 s))) ∧
  (∀ s r, Taken 0x1003 r s → ∃ body, exec (.nlStatus r) s = .next (reply r 0x1003 stOk body s) ∧
    body = s.nl.idleRms.flatMap (le 2)
      ++ le 1 (packBits [idleArmed s, s.nl.idle, s.nl.wakeOut, s.nl.vbatLow, s.nl.rtcLost, s.nl.overflowed])
      ++ le 1 (packBits (s.nl.rules.mapIdx fun i r => r.active && ruleAction s i != 0)) ++ le 2 ((s.adc.values[23]?).getD 0).toNat ++ leI 4 s.nl.ppb
      ++ leI 8 s.nl.outageStart ++ leI 8 s.nl.outageEnd ++ le 1 (s.nl.wakeSrc.getD 0xFF) ++ zeros 3) ∧
  (∀ s r, Taken 0x1004 r s → exec (.nlWakeAck r) s = .next (reply r 0x1004 stOk [] (lowerWakeOut s))) ∧
  (∀ s wire clocks, s.pwr.rails = true → exec (.hspiCsFalling wire clocks) s =
    .next (spiTransaction wire clocks (lowerWakeOut (wakeSeen 2 s))))

/-- Completion, the event recorder and the service port, with the battery and the 12 V output (R535, R536, R537, R541, R546,
R547, R557). The instant clk.now is the model's own (log entry 3). -/
def Obligations.RecorderPortCommandsComplete : Prop :=
  (∀ s n b at0, s.diag.buckets[n]? = some b → b.since = some at0 → s.dom.d3 = true → ∃ t,
    exec (.diagTokenRefill n) s = .next t ∧ t.diag.buckets = s.diag.buckets.set n (refill t b) ∧
    t.clk.now = max s.clk.now (at0 + divCeil ((b.given + 1) * Tick.s 60) (max 1 (param s 0x0F01)))) ∧
  (∀ s r, Taken 0x0F00 r s → ∃ body, exec (.diagStatus r) s = .next (reply r 0x0F00 stOk body s) ∧
    body = le 2 s.diag.ring.length ++ le 1 (b2n s.diag.freeze.isSome) ++ le 1 ((s.diag.freeze.map (·.1.code)).getD 0xFF)
      ++ le 2 s.diag.lost ++ zeros 2 ++ s.diag.buckets.flatMap fun b => le 2 b.supp) ∧
  (∀ s r first n es, Taken 0x0F01 r s → n ≠ 0 → n ≤ 63 →
    es = (s.diag.ring.drop first).take (if r.sender = .letterbox then min 3 n else n) → exec (.diagRead r first n) s =
    .next (reply r 0x0F01 stOk (le 2 first ++ le 1 es.length ++ le 1 (b2n s.diag.freeze.isSome) ++
      le 2 s.diag.ring.length ++ zeros 2 ++ es.flatMap diagBytes) s)) ∧
  (∀ s r, Taken 0x0F02 r s → s.diag.freeze = none → inHoldup s = false → ∃ body, exec (.diagFreeze r 1) s =
    .next (reply r 0x0F02 stOk body { s with diag := { s.diag with freeze := some (r.sender, s.clk.now) } }) ∧
    body.take 2 = le 2 s.diag.ring.length) ∧
  (∀ s r, Taken 0x0F03 r s → inHoldup s = false → s.diag.freeze = none → s.diag.queue = [] → param s 0x0F04 ≠ 1 →
    ∃ t, exec (.diagClear r) s = .next (reply r 0x0F03 stOk (le 2 s.diag.ring.length) t) ∧
    t.diag.freeze = none ∧ t.diag.ring.length = 1 ∧ t.diag.lost = 0) ∧
  (∀ s f, s.diag.freeze = some f → s.dom.d3 = true → exec .freezeTimeout s =
    .next (endFreeze (advanceTo (f.2 + Tick.s (param s 0x0F03)) s))) ∧
  (∀ s b parity framing, portRuns s = true → s.rs.driver = false → s.rs.rx.length < 256 →
    exec (.rs485ByteReceived b parity framing) s = .next (setRs (fun r => { r with
      rx := r.rx ++ [BitVec.ofNat 8 b], flags := r.flags ||| packBits [parity, framing], last := some s.clk.now }) s)) ∧
  (∀ s at0, s.rs.last = some at0 → portRuns s = true → ∃ t, exec .rs485FrameEnd s = .next t ∧ t.rs.rx = [] ∧
    t.rs.flags = 0 ∧ t.rs.last = none ∧ t.clk.now = max s.clk.now (at0 + tEnd s)) ∧
  (∀ s r data, Taken 0x0160 r s → data ≠ [] → data.length ≤ 256 → portRuns s = true → s.rs.send = none →
    exec (.sysRs485Send r data.length data) s = .next (setRs (fun x => { x with
      send := some (r, data), driver := x.last.isNone, driverAt := s.clk.now }) s)) ∧
  (∀ s r d, s.rs.send = some (r, d) → portRuns s = true → s.rs.driver = true → exec .rs485SendComplete s =
    .next (replyTo (some r) 0x0160 stOk (le 2 d.length ++ zeros 2) (setRs (fun y => { y with
        send := none, driver := false
        last := some (max s.clk.now (s.rs.driverAt + divCeil ((d.length * charBits s + 2) * Tick.s 1)
          (max 1 (param s 0x010C)))) })
      (advanceTo (s.rs.driverAt + divCeil ((d.length * charBits s + 2) * Tick.s 1) (max 1 (param s 0x010C))) s)))) ∧
  (∀ s, s.pwr.vbat = false → s.pwr.rails = false → ∃ t, exec .vbatApplied s = .next t ∧ t.pwr.vbat = true ∧
    t.dom.d0 = true ∧ t.nl.rtcValid = false) ∧
  (∀ s, s.pwr.v12Out = true → ∃ t, exec .v12OutOverload s = .next t ∧ t.pwr.v12Out = false ∧
    t.pwr.v12Tripped = some s.clk.now) ∧
  (∀ s at0, s.pwr.v12Tripped = some at0 → s.pwr.rails = true → ∃ t, exec .v12OutRestart s = .next t ∧
    t.pwr.v12Out = true ∧ t.pwr.v12Tripped = none ∧ t.clk.now = max s.clk.now (at0 + Tick.s 1))

/-- A step takes the front command and executes it with the queue's rest (log entry 3 says what an empty queue does). -/
def Obligations.StepRunsFrontCommand : Prop :=
  ∀ (c : Instr) (rest : List Instr) (s : State), step { s with pending := c :: rest } = exec c { s with pending := rest }

/-- With an empty queue the module idles: the model's own choice (log entry 3). -/
def Obligations.StepIdlesOnEmptyQueue : Prop := ∀ s : State, s.pending = [] → step s = .next s

/-- At reset the DMA memory has its canonical form, the lists have their lengths, and no command waits. -/
def Obligations.ResetInvariants : Prop :=
  MemoryOk State.reset ∧ Shape State.reset ∧ State.reset.pending = []

/-- No command faults or is refused: each answers a next state, in every state (a request that the module turns away is
answered with a status, which is a next state). -/
def Obligations.EveryCommandAnswers : Prop := ∀ (c : Instr) (s : State), ∃ t, exec c s = .next t

/-- No command changes the queue of waiting commands or the identity fixed at manufacture. -/
def Obligations.QueueAndIdentityKept : Prop :=
  ∀ (c : Instr) (s t : State), exec c s = .next t → t.pending = s.pending ∧ t.ident = s.ident

/-- Every step keeps the canonical form of the DMA memory. -/
def Obligations.StepKeepsMemoryOk : Prop := ∀ s t : State, MemoryOk s → step s = .next t → MemoryOk t

/-- Every step keeps the lengths that the manual gives: 8 DMA channels, 8 Hatch channels, 32 semaphores, 8 THROUGH values.
-/
def Obligations.StepKeepsShape : Prop := ∀ s t : State, Shape s → step s = .next t → Shape t

/-- Time never runs backwards, and no free value is drawn twice (the instant and the count of free values are the model's
own, log entries 3 and 4). -/
def Obligations.StepNeverTurnsTimeBack : Prop :=
  ∀ s t : State, step s = .next t → s.clk.now ≤ t.clk.now ∧ s.clk.free ≤ t.clk.free

/-- Memory frame: only a DMA burst and the copy of a waveform capture write bytes of memory, the copy only in the capture
buffer, where the rows stand in order as little-endian 32-bit codes, and only the fall of the rails loses any: the regions
that are not MRAM or flash (log entry 20). -/
def Obligations.MemoryFrame : Prop :=
  (∀ (c : Instr) (s t : State), exec c s = .next t → (∀ b, c ≠ .dmaBurst b) → c ≠ .railsFall → c ≠ .waveCaptureCopy →
    t.dma.mem = s.dma.mem) ∧
  (∀ s t, exec (.dmaBurst true) s = .next t → t.dma.mem = s.dma.mem) ∧
  (∀ s t a, exec .waveCaptureCopy s = .next t → ¬ (captureBase ≤ a ∧ a < captureBase + captureSize) →
    memRead t.dma.mem a = memRead s.dma.mem a) ∧
  (∀ s q rest a, s.led.captureWait = q :: rest → s.dom.d3 = true → semOwner s 0 = none → ∃ t c,
    exec .waveCaptureCopy s = .next t ∧ t.led.capture = some c ∧ c.mask = q.2.1 ∧
    (a < captureSize → memRead t.dma.mem (captureBase + a) = ((captureBytes c)[a]?).getD memDefault)) ∧
  (∀ s t a, exec .railsFall s = .next t → s.pwr.rails = true →
    memRead t.dma.mem a = if 0x20000000 ≤ a ∧ a < 0x40000000 then memRead s.dma.mem a else memDefault)

/-- A burst writes only the bytes of its elements at the addresses of R300, and the last element moved holds the source's
bytes after SWAP, where the destination is no record that the MRAM view shows (the records have one home, log entry 20). -/
def Obligations.DmaBurstStores : Prop :=
  (∀ s t c r a, dmaGrant s = some c → (dmaChan s c).run = some r → exec (.dmaBurst false) s = .next t →
    (∀ k, k < 16 → r.moved + k < dTotal r.words →
      ¬ (dAddr r.words true (r.moved + k) ≤ a ∧ a < dAddr r.words true (r.moved + k) + dSize r.words)) →
    viewRead t a = viewRead s a) ∧
  (∀ s t c r, dmaGrant s = some c → (dmaChan s c).run = some r → r.moved + 1 = dTotal r.words → MemoryOk s → Shape s →
    (∀ k, k < dSize r.words → viewRecord s (dAddr r.words true r.moved + k) = none) → exec (.dmaBurst false) s = .next t →
    viewReadList t (dAddr r.words true r.moved) (dSize r.words) =
      dSwapBytes (dSwap r.words) (viewReadList s (dAddr r.words false r.moved) (dSize r.words)))

/-- A packet of Hatch, read back, gives every field, the payload and the CRC it was built with (R276). -/
def Obligations.PacketRoundTrip : Prop :=
  ∀ c flags op q payload, c < 256 → flags < 16 → op < 65536 → q < 256 → payload.length ≤ 4096 →
    let b := inlinePacket c flags op q payload
    packetOf b = ⟨16 + flags, c, op, payload.length, q⟩ ∧ (b.drop 8).take (packetOf b).len = payload ∧
    b.length = 12 + payload.length ∧
    fieldAt b (8 + payload.length) 4 = crc32c (crcHead b ++ (b.drop 8).take (packetOf b).len)

/-- Frame, chapters 1 to 7: a command changes only the blocks listed for it. -/
def Obligations.FrameMeasurement : Prop :=
  ∀ (c : Instr) (s t : State), chapterOf c ≤ 7 → exec c s = .next t → onlyChanges (touches c) s t

/-- Frame, chapters 8 to 12: a command changes only the blocks listed for it. -/
def Obligations.FrameRecordsInterfaces : Prop :=
  ∀ (c : Instr) (s t : State), 8 ≤ chapterOf c → chapterOf c ≤ 12 → exec c s = .next t → onlyChanges (touches c) s t

/-- Frame, chapters 13 to 17: a command changes only the blocks listed for it. -/
def Obligations.FrameVehicleShutterKeys : Prop :=
  ∀ (c : Instr) (s t : State), 13 ≤ chapterOf c → chapterOf c ≤ 17 → exec c s = .next t → onlyChanges (touches c) s t

/-- Frame, chapters 18 to 25: a command changes only the blocks listed for it. -/
def Obligations.FrameDisplayFabricUpdate : Prop :=
  ∀ (c : Instr) (s t : State), 18 ≤ chapterOf c → exec c s = .next t → onlyChanges (touches c) s t

/-- R198: the reply of LED_SNAPSHOT_READ, whose request has no payload: the header, the snapshot header at offset 12, STATE
at 108, and the 12 group 0 registers at 124, 220 bytes in all. The premise on THROUGH is part of the invariant Shape. -/
def Obligations.SnapshotReadLayout : Prop :=
  ∀ s r, Taken 0x0300 r s → Shape s → ∃ body, exec (.ledSnapshotRead r) s = .next (reply r 0x0300 stOk body s) ∧
    (header s stOk).length = 12 ∧ (header s stOk ++ body).length = 220 ∧
    ((header s stOk ++ body).drop 12).take 96 = snapHeader s.snap ∧
    ((header s stOk ++ body).drop 108).take 16 = s.snap.state.bytes ∧
    (header s stOk ++ body).drop 124 =
      [0, 1, 2, 3, 4, 5, 6, 7, 32, 33, 34, 35].flatMap fun n => le 8 (cumOf ((s.snap.fine[n]?).getD 0))

/-- R255: a semaphore that HOST_SPI holds past SYS.SEM_HOST_HOLD_MAX is released, SEM_HOST_TIMEOUT goes to the recorder with
its number, and a later release by the host does nothing. -/
def Obligations.SemaphoreTimeout : Prop :=
  ∀ s n q, s.dom.d3 = true → s.kiln.sems[n]? = some q → q.owner = some 0x10 → ∃ t, exec (.semHostTimeout n) s = .next t ∧
    t = diagTrigger 6 n (setKiln (fun x => { x with sems := x.sems.set n {} })
      (advanceTo (q.since + Tick.ms (param s 0x0107)) s)) ∧
    diagCodes[6]? = some 0x0186 ∧ semOwner t n = none ∧ ∀ v, exec (.semaphoreRelease n 0x10 v) t = .next t

/-- R305: a Wedge stall follows each burst of a masked channel and holds off its next grant; the stalled channel keeps its
AGE through the bursts of others, which the engine goes on to serve; a channel that is not masked is not stalled. -/
def Obligations.WedgeStallHoldsChannel : Prop :=
  (∀ s c r, dmaGrant s = some c → (dmaChan s c).run = some r → c < s.dma.chans.length → ∃ t,
    exec (.dmaBurst false) s = .next t ∧ (dmaChan t c).stallEnd = s.clk.now + wedgeStall s c) ∧
  (∀ s c, inHoldup s = false → bitN ((s.kiln.wedge[if c < 4 then 3 else 4]?).getD 0) (c % 4) = true →
    wedgeStall s c = ((s.kiln.wedge[if c < 4 then 3 else 4]?).getD 0) / 65536 * 2048 / 1000) ∧
  (∀ s c, bitN ((s.kiln.wedge[if c < 4 then 3 else 4]?).getD 0) (c % 4) = false → wedgeStall s c = 0) ∧
  (∀ s c, s.clk.now < (dmaChan s c).stallEnd → dmaGrant s ≠ some c) ∧
  (∀ s t c d e, s.clk.now < (dmaChan s c).stallEnd → dmaGrant s = some d → exec (.dmaBurst e) s = .next t →
    (dmaChan t c).age = (dmaChan s c).age) ∧
  (∀ s d, d < 8 → dmaReady s d = true → dmaGrant s ≠ none)

/-- R212: a calendar that fails a check or its CRC is refused with CALENDAR_INVALID and changes nothing; one that passes
becomes the passive calendar, whichever was waiting. -/
def Obligations.CalendarLoadChecks : Prop :=
  (∀ s r o, Taken 0x0403 r s → billRefusal s = none → o.length = (calOffsets o).2.2.2 + 4 →
    crcAt o (calOffsets o).2.2.2 = false ∨ calFits (calOf o) = false →
    exec (.bilCalendarLoad r o) s = .next (reply r 0x0403 0x1406 [] s)) ∧
  (∀ s r o, Taken 0x0403 r s → billRefusal s = none → o.length = (calOffsets o).2.2.2 + 4 →
    crcAt o (calOffsets o).2.2.2 = true → calFits (calOf o) = true → ∃ t, exec (.bilCalendarLoad r o) s = .next t ∧
    t.bil.passive = some { calOf o with
      activateAt := if (calOf o).activateAt = 0 then minuteAfter (civilNow s) else (calOf o).activateAt } ∧
    t.bil.active = s.bil.active)
end

