-- ==== Sys2Proof/Laws/Frame.lean ====
section
/-! SUPPORT. Frame lemmas of the shared operations: forgetting the blocks that an operation can change, it changes nothing
(Safety.forget). Each hypothesis names one such block. -/

namespace Sys2Proof.Laws

open Sys2Proof Sys2Proof.Machine Sys2Proof.Safety

/-- A conditional hides branch by branch. -/
theorem forget_ite (bl : Block → Bool) (c : Prop) [Decidable c] (a b : State) : forget bl (if c then a else b) = if c then
    forget bl a else forget bl b := by
  split <;> rfl

@[simp] theorem forget_answer (bl : Block → Bool) (s : State) (st : Nat) (b : List Byte) : forget bl (answer s st b).state = forget bl
    s := rfl

@[simp] theorem forget_refuse (bl : Block → Bool) (s : State) (st : Nat) : forget bl (refuse s st).state = forget bl s := rfl

@[simp] theorem forget_later (bl : Block → Bool) (s : State) : forget bl (later s).state = forget bl s := rfl

theorem forget_foldl {α : Type} (bl : Block → Bool) (f : State → α → State) (l : List α) (s : State)
    (h : ∀ t a, forget bl (f t a) = forget bl t) : forget bl (l.foldl f s) = forget bl s := by
  induction l generalizing s with
  | nil => rfl
  | cons a l ih => rw [List.foldl_cons, ih, h]

/-- The parameters of another epoch are set aside again: what f can change is all that changes. -/
theorem forget_atEpoch {bl : Block → Bool} (e : Nat) (f : State → State) (s : State) (h : ∀ t, forget bl (f t) = forget bl t)
    :
    forget bl (atEpoch e f s) = forget bl s := by
  have k : ∀ (u : State) (q : ParamStore), forget bl { u with par := q } =
      { forget bl u with par := if bl .par then State.reset.par else q } := fun _ _ => rfl
  unfold atEpoch
  dsimp only
  rw [k, h, k]
  rfl

@[simp] theorem forget_set_adc {bl : Block → Bool} (s : State) {v_adc} (h_adc : bl .adc = true) :
    forget bl { s with adc := v_adc } = forget bl s := by
  simp only [forget, h_adc, if_true]

@[simp] theorem forget_set_bil {bl : Block → Bool} (s : State) {v_bil} (h_bil : bl .bil = true) :
    forget bl { s with bil := v_bil } = forget bl s := by
  simp only [forget, h_bil, if_true]

@[simp] theorem forget_set_cal {bl : Block → Bool} (s : State) {v_cal} (h_cal : bl .cal = true) :
    forget bl { s with cal := v_cal } = forget bl s := by
  simp only [forget, h_cal, if_true]

@[simp] theorem forget_set_clk {bl : Block → Bool} (s : State) {v_clk} (h_clk : bl .clk = true) :
    forget bl { s with clk := v_clk } = forget bl s := by
  simp only [forget, h_clk, if_true]

@[simp] theorem forget_set_con {bl : Block → Bool} (s : State) {v_con} (h_con : bl .con = true) :
    forget bl { s with con := v_con } = forget bl s := by
  simp only [forget, h_con, if_true]

@[simp] theorem forget_set_diag {bl : Block → Bool} (s : State) {v_diag} (h_diag : bl .diag = true) :
    forget bl { s with diag := v_diag } = forget bl s := by
  simp only [forget, h_diag, if_true]

@[simp] theorem forget_set_disp {bl : Block → Bool} (s : State) {v_disp} (h_disp : bl .disp = true) :
    forget bl { s with disp := v_disp } = forget bl s := by
  simp only [forget, h_disp, if_true]

@[simp] theorem forget_set_dma {bl : Block → Bool} (s : State) {v_dma} (h_dma : bl .dma = true) :
    forget bl { s with dma := v_dma } = forget bl s := by
  simp only [forget, h_dma, if_true]

@[simp] theorem forget_set_dom {bl : Block → Bool} (s : State) {v_dom} (h_dom : bl .dom = true) :
    forget bl { s with dom := v_dom } = forget bl s := by
  simp only [forget, h_dom, if_true]

@[simp] theorem forget_set_hatch {bl : Block → Bool} (s : State) {v_hatch} (h_hatch : bl .hatch = true) :
    forget bl { s with hatch := v_hatch } = forget bl s := by
  simp only [forget, h_hatch, if_true]

@[simp] theorem forget_set_hng {bl : Block → Bool} (s : State) {v_hng} (h_hng : bl .hng = true) :
    forget bl { s with hng := v_hng } = forget bl s := by
  simp only [forget, h_hng, if_true]

@[simp] theorem forget_set_hold {bl : Block → Bool} (s : State) {v_hold} (h_hold : bl .hold = true) :
    forget bl { s with hold := v_hold } = forget bl s := by
  simp only [forget, h_hold, if_true]

@[simp] theorem forget_set_inp {bl : Block → Bool} (s : State) {v_inp} (h_inp : bl .inp = true) :
    forget bl { s with inp := v_inp } = forget bl s := by
  simp only [forget, h_inp, if_true]

@[simp] theorem forget_set_kiln {bl : Block → Bool} (s : State) {v_kiln} (h_kiln : bl .kiln = true) :
    forget bl { s with kiln := v_kiln } = forget bl s := by
  simp only [forget, h_kiln, if_true]

@[simp] theorem forget_set_led {bl : Block → Bool} (s : State) {v_led} (h_led : bl .led = true) :
    forget bl { s with led := v_led } = forget bl s := by
  simp only [forget, h_led, if_true]

@[simp] theorem forget_set_lin {bl : Block → Bool} (s : State) {v_lin} (h_lin : bl .lin = true) :
    forget bl { s with lin := v_lin } = forget bl s := by
  simp only [forget, h_lin, if_true]

@[simp] theorem forget_set_lsw {bl : Block → Bool} (s : State) {v_lsw} (h_lsw : bl .lsw = true) :
    forget bl { s with lsw := v_lsw } = forget bl s := by
  simp only [forget, h_lsw, if_true]

@[simp] theorem forget_set_mc {bl : Block → Bool} (s : State) {v_mc} (h_mc : bl .mc = true) :
    forget bl { s with mc := v_mc } = forget bl s := by
  simp only [forget, h_mc, if_true]

@[simp] theorem forget_set_met {bl : Block → Bool} (s : State) {v_met} (h_met : bl .met = true) :
    forget bl { s with met := v_met } = forget bl s := by
  simp only [forget, h_met, if_true]

@[simp] theorem forget_set_mode {bl : Block → Bool} (s : State) {v_mode} (h_mode : bl .mode = true) :
    forget bl { s with mode := v_mode } = forget bl s := by
  simp only [forget, h_mode, if_true]

@[simp] theorem forget_set_nl {bl : Block → Bool} (s : State) {v_nl} (h_nl : bl .nl = true) :
    forget bl { s with nl := v_nl } = forget bl s := by
  simp only [forget, h_nl, if_true]

@[simp] theorem forget_set_par {bl : Block → Bool} (s : State) {v_par} (h_par : bl .par = true) :
    forget bl { s with par := v_par } = forget bl s := by
  simp only [forget, h_par, if_true]

@[simp] theorem forget_set_pending {bl : Block → Bool} (s : State) {v_pending} (h_pending : bl .pending = true) :
    forget bl { s with pending := v_pending } = forget bl s := by
  simp only [forget, h_pending, if_true]

@[simp] theorem forget_set_pq {bl : Block → Bool} (s : State) {v_pq} (h_pq : bl .pq = true) :
    forget bl { s with pq := v_pq } = forget bl s := by
  simp only [forget, h_pq, if_true]

@[simp] theorem forget_set_pwr {bl : Block → Bool} (s : State) {v_pwr} (h_pwr : bl .pwr = true) :
    forget bl { s with pwr := v_pwr } = forget bl s := by
  simp only [forget, h_pwr, if_true]

@[simp] theorem forget_set_recl {bl : Block → Bool} (s : State) {v_recl} (h_recl : bl .recl = true) :
    forget bl { s with recl := v_recl } = forget bl s := by
  simp only [forget, h_recl, if_true]

@[simp] theorem forget_set_rs {bl : Block → Bool} (s : State) {v_rs} (h_rs : bl .rs = true) :
    forget bl { s with rs := v_rs } = forget bl s := by
  simp only [forget, h_rs, if_true]

@[simp] theorem forget_set_sag {bl : Block → Bool} (s : State) {v_sag} (h_sag : bl .sag = true) :
    forget bl { s with sag := v_sag } = forget bl s := by
  simp only [forget, h_sag, if_true]

@[simp] theorem forget_set_shu {bl : Block → Bool} (s : State) {v_shu} (h_shu : bl .shu = true) :
    forget bl { s with shu := v_shu } = forget bl s := by
  simp only [forget, h_shu, if_true]

@[simp] theorem forget_set_sie {bl : Block → Bool} (s : State) {v_sie} (h_sie : bl .sie = true) :
    forget bl { s with sie := v_sie } = forget bl s := by
  simp only [forget, h_sie, if_true]

@[simp] theorem forget_set_snap {bl : Block → Bool} (s : State) {v_snap} (h_snap : bl .snap = true) :
    forget bl { s with snap := v_snap } = forget bl s := by
  simp only [forget, h_snap, if_true]

@[simp] theorem forget_set_upd {bl : Block → Bool} (s : State) {v_upd} (h_upd : bl .upd = true) :
    forget bl { s with upd := v_upd } = forget bl s := by
  simp only [forget, h_upd, if_true]

@[simp] theorem forget_set_veh {bl : Block → Bool} (s : State) {v_veh} (h_veh : bl .veh = true) :
    forget bl { s with veh := v_veh } = forget bl s := by
  simp only [forget, h_veh, if_true]

@[simp] theorem forget_set_bil_nl {bl : Block → Bool} (s : State) {v_bil v_nl} (h_bil : bl .bil = true) (h_nl : bl .nl = true) :
    forget bl { s with bil := v_bil, nl := v_nl } = forget bl s := by
  simp only [forget, h_bil, h_nl, if_true]

@[simp] theorem forget_set_clk_pq {bl : Block → Bool} (s : State) {v_clk v_pq} (h_clk : bl .clk = true) (h_pq : bl .pq = true) :
    forget bl { s with clk := v_clk, pq := v_pq } = forget bl s := by
  simp only [forget, h_clk, h_pq, if_true]

@[simp] theorem forget_set_dom_nl {bl : Block → Bool} (s : State) {v_dom v_nl} (h_dom : bl .dom = true) (h_nl : bl .nl = true) :
    forget bl { s with dom := v_dom, nl := v_nl } = forget bl s := by
  simp only [forget, h_dom, h_nl, if_true]

@[simp] theorem forget_set_pwr_lsw {bl : Block → Bool} (s : State) {v_pwr v_lsw} (h_pwr : bl .pwr = true) (h_lsw : bl .lsw = true) :
    forget bl { s with pwr := v_pwr, lsw := v_lsw } = forget bl s := by
  simp only [forget, h_pwr, h_lsw, if_true]

@[simp] theorem forget_set_shu_nl {bl : Block → Bool} (s : State) {v_shu v_nl} (h_shu : bl .shu = true) (h_nl : bl .nl = true) :
    forget bl { s with shu := v_shu, nl := v_nl } = forget bl s := by
  simp only [forget, h_shu, h_nl, if_true]

@[simp] theorem forget_set_sie_disp {bl : Block → Bool} (s : State) {v_sie v_disp} (h_sie : bl .sie = true) (h_disp : bl .disp = true)
    :
    forget bl { s with sie := v_sie, disp := v_disp } = forget bl s := by
  simp only [forget, h_sie, h_disp, if_true]

@[simp] theorem forget_set_pwr_dom_mode {bl : Block → Bool} (s : State) {v_pwr v_dom v_mode} (h_pwr : bl .pwr = true)
    (h_dom : bl .dom = true) (h_mode : bl .mode = true) :
    forget bl { s with pwr := v_pwr, dom := v_dom, mode := v_mode } = forget bl s := by
  simp only [forget, h_pwr, h_dom, h_mode, if_true]

@[simp] theorem forget_set_pwr_dom_nl {bl : Block → Bool} (s : State) {v_pwr v_dom v_nl} (h_pwr : bl .pwr = true)
    (h_dom : bl .dom = true) (h_nl : bl .nl = true) :
    forget bl { s with pwr := v_pwr, dom := v_dom, nl := v_nl } = forget bl s := by
  simp only [forget, h_pwr, h_dom, h_nl, if_true]

@[simp] theorem forget_sets_5_clk {bl : Block → Bool} (s : State) {v_clk v_pwr v_dom v_bil v_snap} (h_clk : bl .clk = true)
    (h_pwr : bl .pwr = true) (h_dom : bl .dom = true) (h_bil : bl .bil = true) (h_snap : bl .snap = true) :
    forget bl { s with
        clk := v_clk
        pwr := v_pwr
        dom := v_dom
        bil := v_bil
        snap := v_snap } = forget bl s := by
  simp only [forget, h_clk, h_pwr, h_dom, h_bil, h_snap, if_true]

@[simp] theorem forget_sets_5_pwr {bl : Block → Bool} (s : State) {v_pwr v_dom v_sag v_dma v_nl} (h_pwr : bl .pwr = true)
    (h_dom : bl .dom = true) (h_sag : bl .sag = true) (h_dma : bl .dma = true) (h_nl : bl .nl = true) :
    forget bl { s with
        pwr := v_pwr
        dom := v_dom
        sag := v_sag
        dma := v_dma
        nl := v_nl } = forget bl s := by
  simp only [forget, h_pwr, h_dom, h_sag, h_dma, h_nl, if_true]

@[simp] theorem forget_sets_9_clk {bl : Block → Bool} (s : State) {v_clk v_dom v_inp v_sie v_met v_cal v_led v_pq v_hng}
    (h_clk : bl .clk = true) (h_dom : bl .dom = true) (h_inp : bl .inp = true) (h_sie : bl .sie = true)
    (h_met : bl .met = true) (h_cal : bl .cal = true) (h_led : bl .led = true) (h_pq : bl .pq = true)
    (h_hng : bl .hng = true) :
    forget bl { s with
        clk := v_clk
        dom := v_dom
        inp := v_inp
        sie := v_sie
        met := v_met
        cal := v_cal
        led := v_led
        pq := v_pq
        hng := v_hng } = forget bl s := by
  simp only [forget, h_clk, h_dom, h_inp, h_sie, h_met, h_cal, h_led, h_pq, h_hng, if_true]

@[simp] theorem forget_sets_14_clk {bl : Block → Bool} (s : State) {v_clk v_dom v_mode v_recl v_inp v_sie v_cal v_bil v_shu v_sag
    v_kiln v_veh v_lsw v_hng} (h_clk : bl .clk = true) (h_dom : bl .dom = true) (h_mode : bl .mode = true)
    (h_recl : bl .recl = true) (h_inp : bl .inp = true) (h_sie : bl .sie = true) (h_cal : bl .cal = true)
    (h_bil : bl .bil = true) (h_shu : bl .shu = true) (h_sag : bl .sag = true) (h_kiln : bl .kiln = true)
    (h_veh : bl .veh = true) (h_lsw : bl .lsw = true) (h_hng : bl .hng = true) :
    forget bl { s with
        clk := v_clk
        dom := v_dom
        mode := v_mode
        recl := v_recl
        inp := v_inp
        sie := v_sie
        cal := v_cal
        bil := v_bil
        shu := v_shu
        sag := v_sag
        kiln := v_kiln
        veh := v_veh
        lsw := v_lsw
        hng := v_hng } = forget bl s := by
  simp only [forget, h_clk, h_dom, h_mode, h_recl, h_inp, h_sie, h_cal, h_bil, h_shu, h_sag, h_kiln, h_veh, h_lsw, h_hng,
      if_true]

@[simp] theorem forget_sets_14_mode {bl : Block → Bool} (s : State) {v_mode v_hatch v_sag v_kiln v_dma v_veh v_con v_disp v_mc v_lin
    v_upd v_adc v_nl v_rs} (h_mode : bl .mode = true) (h_hatch : bl .hatch = true) (h_sag : bl .sag = true)
    (h_kiln : bl .kiln = true) (h_dma : bl .dma = true) (h_veh : bl .veh = true) (h_con : bl .con = true)
    (h_disp : bl .disp = true) (h_mc : bl .mc = true) (h_lin : bl .lin = true) (h_upd : bl .upd = true)
    (h_adc : bl .adc = true) (h_nl : bl .nl = true) (h_rs : bl .rs = true) :
    forget bl { s with
        mode := v_mode
        hatch := v_hatch
        sag := v_sag
        kiln := v_kiln
        dma := v_dma
        veh := v_veh
        con := v_con
        disp := v_disp
        mc := v_mc
        lin := v_lin
        upd := v_upd
        adc := v_adc
        nl := v_nl
        rs := v_rs } = forget bl s := by
  simp only [forget, h_mode, h_hatch, h_sag, h_kiln, h_dma, h_veh, h_con, h_disp, h_mc, h_lin, h_upd, h_adc, h_nl, h_rs,
      if_true]

@[simp] theorem forget_sets_16_mode {bl : Block → Bool} (s : State) {v_mode v_hold v_recl v_inp v_bil v_hatch v_shu v_sag v_snap
    v_kiln v_veh v_lsw v_hng v_upd v_nl v_diag} (h_mode : bl .mode = true) (h_hold : bl .hold = true)
    (h_recl : bl .recl = true) (h_inp : bl .inp = true) (h_bil : bl .bil = true) (h_hatch : bl .hatch = true)
    (h_shu : bl .shu = true) (h_sag : bl .sag = true) (h_snap : bl .snap = true) (h_kiln : bl .kiln = true)
    (h_veh : bl .veh = true) (h_lsw : bl .lsw = true) (h_hng : bl .hng = true) (h_upd : bl .upd = true)
    (h_nl : bl .nl = true) (h_diag : bl .diag = true) :
    forget bl { s with
        mode := v_mode
        hold := v_hold
        recl := v_recl
        inp := v_inp
        bil := v_bil
        hatch := v_hatch
        shu := v_shu
        sag := v_sag
        snap := v_snap
        kiln := v_kiln
        veh := v_veh
        lsw := v_lsw
        hng := v_hng
        upd := v_upd
        nl := v_nl
        diag := v_diag } = forget bl s := by
  simp only [forget, h_mode, h_hold, h_recl, h_inp, h_bil, h_hatch, h_shu, h_sag, h_snap, h_kiln, h_veh, h_lsw, h_hng,
      h_upd, h_nl, h_diag, if_true]

@[simp] theorem forget_setDma {bl : Block → Bool} (c : Nat) (d : DmaChan) (s : State) (h_dma : bl .dma = true) :
    forget bl (setDma c d s) = forget bl s := by
  unfold setDma
  simp (disch := assumption) only [forget_set_dma]

@[simp] theorem forget_setBucket {bl : Block → Bool} (n : Nat) (b : Bucket) (s : State) (h_diag : bl .diag = true) :
    forget bl (setBucket n b s) = forget bl s := by
  unfold setBucket
  simp (disch := assumption) only [forget_set_diag]

@[simp] theorem forget_queueNote {bl : Block → Bool} (st : Nat) (cls : Nat) (code : Nat) (body : List Byte) (s : State)
    (h_hatch : bl .hatch = true) :
    forget bl (queueNote st cls code body s).1 = forget bl s := by
  unfold queueNote
  (repeat' split) <;> simp (disch := assumption) only [forget_set_hatch]

@[simp] theorem forget_diagPut {bl : Block → Bool} (d : DiagRec) (s : State) (h_hatch : bl .hatch = true) (h_diag : bl .diag = true) :
    forget bl (diagPut d s).1 = forget bl s := by
  unfold diagPut
  repeat'
    first
    | (simp (disch := assumption) only [forget_queueNote, forget_set_diag]; done)
    | split
    | simp (disch := assumption) only []

@[simp] theorem forget_diagOnce {bl : Block → Bool} (n : Nat) (subject : Nat) (s : State) (h_hatch : bl .hatch = true)
    (h_diag : bl .diag = true) :
    forget bl (diagOnce n subject s).1 = forget bl s := by
  unfold diagOnce
  repeat'
    first
    | (simp (disch := assumption) only [forget_setBucket, forget_diagPut, forget_set_diag]; done)
    | split
    | simp (disch := assumption) only []

@[simp] theorem forget_dropTrigger {bl : Block → Bool} (n : Nat) (p : State × Option Nat) (h_hatch : bl .hatch = true)
    (h_diag : bl .diag = true) : forget bl (dropTrigger n p) = forget bl p.1 := by
  induction n generalizing p with
  | zero => obtain ⟨s, d⟩ := p; cases d <;> rfl
  | succ k ih =>
    obtain ⟨s, d⟩ := p
    cases d with
    | none => rfl
    | some c => exact (ih _).trans (forget_diagOnce 7 c s h_hatch h_diag)

@[simp] theorem forget_diagTrigger {bl : Block → Bool} (n subject : Nat) (s : State) (h_hatch : bl .hatch = true)
    (h_diag : bl .diag = true) : forget bl (diagTrigger n subject s) = forget bl s :=
  (forget_dropTrigger _ _ h_hatch h_diag).trans (forget_diagOnce n subject s h_hatch h_diag)

@[simp] theorem forget_notifySt {bl : Block → Bool} (st cls code : Nat) (body : List Byte) (s : State) (h_hatch : bl .hatch = true)
    (h_diag : bl .diag = true) : forget bl (notifySt st cls code body s) = forget bl s :=
  (forget_dropTrigger _ _ h_hatch h_diag).trans (forget_queueNote st cls code body s h_hatch)

@[simp] theorem forget_notify {bl : Block → Bool} (cls : Nat) (code : Nat) (body : List Byte) (s : State) (h_hatch : bl .hatch = true)
    (h_diag : bl .diag = true) :
    forget bl (notify cls code body s) = forget bl s := by
  unfold notify
  simp (disch := assumption) only [forget_notifySt]

@[simp] theorem forget_dmaDone {bl : Block → Bool} (c : Nat) (idx : Nat) (status : Nat) (ws : List Nat) (done : Nat) (s : State)
    (h_hatch : bl .hatch = true) (h_diag : bl .diag = true) :
    forget bl (dmaDone c idx status ws done s) = forget bl s := by
  unfold dmaDone
  simp (disch := assumption) only [forget_notify]

@[simp] theorem forget_dmaBack {bl : Block → Bool} (c : Nat) (idx : Nat) (status : Nat) (done : Nat) (s : State)
    (h_hatch : bl .hatch = true) (h_dma : bl .dma = true) (h_diag : bl .diag = true) :
    forget bl (dmaBack c idx status done s) = forget bl s := by
  unfold dmaBack
  simp (disch := assumption) only [forget_setDma, forget_diagTrigger, forget_dmaDone, forget_ite, ite_self]

@[simp] theorem forget_dmaAbort {bl : Block → Bool} (c : Nat) (s : State) (h_hatch : bl .hatch = true) (h_dma : bl .dma = true)
    (h_diag : bl .diag = true) : forget bl (dmaAbort c s).1 = forget bl s := by
  have h_fold : ∀ (l : List Nat) (p : State × Nat), forget bl (l.foldl (fun p i =>
      if dOwn (((dmaChan p.1 c).ring[i]?).getD []) then (dmaBack c i 1 0 p.1, p.2 + 1) else p) p).1 = forget bl p.1 := by
    intro l
    induction l with
    | nil => intro p; rfl
    | cons a l ih =>
      intro p
      rw [List.foldl_cons, ih]
      split
      · exact forget_dmaBack _ _ _ _ _ h_hatch h_dma h_diag
      · rfl
  unfold dmaAbort
  simp (disch := assumption) only [forget_setDma]
  refine (h_fold _ _).trans ?_
  dsimp only
  split
  · rfl
  · split <;> exact forget_dmaBack _ _ _ _ _ h_hatch h_dma h_diag

@[simp] theorem forget_abortHostDma {bl : Block → Bool} (s : State) (h_hatch : bl .hatch = true) (h_dma : bl .dma = true)
    (h_diag : bl .diag = true) : forget bl (abortHostDma s) = forget bl s :=
  forget_foldl bl _ _ _ fun t c => forget_dmaAbort c t h_hatch h_dma h_diag

@[simp] theorem forget_acceptReq {bl : Block → Bool} (s : State) (h_shu : bl .shu = true) :
    forget bl (acceptReq s) = forget bl s := by
  unfold acceptReq
  simp (disch := assumption) only [forget_set_shu]

@[simp] theorem forget_setKiln {bl : Block → Bool} (f : Kiln → Kiln) (s : State) (h_kiln : bl .kiln = true) :
    forget bl (setKiln f s) = forget bl s := by
  unfold setKiln
  simp (disch := assumption) only [forget_set_kiln]

@[simp] theorem forget_acceptResult {bl : Block → Bool} (t : Machine.Task) (s : State) (h_kiln : bl .kiln = true) :
    forget bl (acceptResult t s) = forget bl s := by
  unfold acceptResult
  simp (disch := assumption) only [forget_setKiln, forget_ite, ite_self]

@[simp] theorem forget_setHatch {bl : Block → Bool} (f : Hatch → Hatch) (s : State) (h_hatch : bl .hatch = true) :
    forget bl (setHatch f s) = forget bl s := by
  unfold setHatch
  simp (disch := assumption) only [forget_set_hatch]

@[simp] theorem forget_acceptSeq {bl : Block → Bool} (snd : Sender) (c : Nat) (q : Nat) (op : Nat) (payload : List Byte) (s : State)
    (h_hatch : bl .hatch = true) :
    forget bl (acceptSeq snd c q op payload s) = forget bl s := by
  unfold acceptSeq
  simp (disch := assumption) only [forget_setHatch]

@[simp] theorem forget_setCell {bl : Block → Bool} (s : State) (id : Nat) (c : ParamCell) (h_par : bl .par = true) :
    forget bl (setCell s id c) = forget bl s := by
  unfold setCell
  simp (disch := assumption) only [forget_set_par]

@[simp] theorem forget_shadow {bl : Block → Bool} (id : Nat) (v : Int) (snd : Nat) (s : State) (h_par : bl .par = true) :
    forget bl (shadow id v snd s) = forget bl s := by
  unfold shadow
  simp (disch := assumption) only [forget_setCell]

@[simp] theorem forget_ledEvent {bl : Block → Bool} (e : Event) (s : State) (h_hatch : bl .hatch = true) (h_diag : bl .diag = true) :
    forget bl (ledEvent e s) = forget bl s := by
  unfold ledEvent
  simp (disch := assumption) only [forget_notify, forget_ite, ite_self]

@[simp] theorem forget_storeEvent {bl : Block → Bool} (e : Event) (s : State) (h_led : bl .led = true) (h_hatch : bl .hatch = true)
    (h_diag : bl .diag = true) :
    forget bl (storeEvent e s) = forget bl s := by
  unfold storeEvent
  simp (disch := assumption) only [forget_ledEvent, forget_set_led]

@[simp] theorem forget_logNowF {bl : Block → Bool} (code : Nat) (flags : Nat) (sender : Nat) (data : List Byte) (s : State)
    (h_led : bl .led = true) (h_hatch : bl .hatch = true) (h_diag : bl .diag = true) :
    forget bl (logNowF code flags sender data s) = forget bl s := by
  unfold logNowF
  simp (disch := assumption) only [forget_storeEvent]

@[simp] theorem forget_signConfig {bl : Block → Bool} (id : Nat) (snd : Nat) (s : State) (h_led : bl .led = true)
    (h_hatch : bl .hatch = true) (h_diag : bl .diag = true) :
    forget bl (signConfig id snd s) = forget bl s := by
  unfold signConfig
  simp (disch := assumption) only [forget_logNowF, forget_ite, ite_self]

@[simp] theorem forget_setInp {bl : Block → Bool} (f : Inputs → Inputs) (s : State) (h_inp : bl .inp = true) :
    forget bl (setInp f s) = forget bl s := by
  unfold setInp
  simp (disch := assumption) only [forget_set_inp]

@[simp] theorem forget_settleSwitch {bl : Block → Bool} (mask : Nat) (t : Nat) (s : State) (h_inp : bl .inp = true) :
    forget bl (settleSwitch mask t s) = forget bl s := by
  unfold settleSwitch
  simp (disch := assumption) only [forget_setInp]

@[simp] theorem forget_raiseF {bl : Block → Bool} (code : Nat) (flags : Nat) (sender : Nat) (data : List Byte) (s : State)
    (h_led : bl .led = true) :
    forget bl (raiseF code flags sender data s) = forget bl s := by
  unfold raiseF
  simp (disch := assumption) only [forget_set_led]

@[simp] theorem forget_inputConfig {bl : Block → Bool} (id : Nat) (old : Nat) (new : Nat) (eff : Nat) (snd : Nat) (s : State)
    (h_inp : bl .inp = true) (h_led : bl .led = true) :
    forget bl (inputConfig id old new eff snd s) = forget bl s := by
  unfold inputConfig
  simp (disch := assumption) only [forget_settleSwitch, forget_raiseF, forget_ite, ite_self]

@[simp] theorem forget_setCal {bl : Block → Bool} (f : Cal → Cal) (s : State) (h_cal : bl .cal = true) :
    forget bl (setCal f s) = forget bl s := by
  unfold setCal
  simp (disch := assumption) only [forget_set_cal]

@[simp] theorem forget_mixSpan {bl : Block → Bool} (eff : Nat) (s : State) (h_cal : bl .cal = true) :
    forget bl (mixSpan eff s) = forget bl s := by
  unfold mixSpan
  simp (disch := assumption) only [forget_setCal]

@[simp] theorem forget_setBil {bl : Block → Bool} (f : Billing → Billing) (s : State) (h_bil : bl .bil = true) :
    forget bl (setBil f s) = forget bl s := by
  unfold setBil
  simp (disch := assumption) only [forget_set_bil]

@[simp] theorem forget_profileDue {bl : Block → Bool} (which : Nat) (eff : Nat) (s : State) (h_bil : bl .bil = true) :
    forget bl (profileDue which eff s) = forget bl s := by
  unfold profileDue
  simp (disch := assumption) only [forget_setBil]

@[simp] theorem forget_setDiag {bl : Block → Bool} (f : Diag → Diag) (s : State) (h_diag : bl .diag = true) :
    forget bl (setDiag f s) = forget bl s := by
  unfold setDiag
  simp (disch := assumption) only [forget_set_diag]

@[simp] theorem forget_setNl {bl : Block → Bool} (f : Nightlatch → Nightlatch) (s : State) (h_nl : bl .nl = true) :
    forget bl (setNl f s) = forget bl s := by
  unfold setNl
  simp (disch := assumption) only [forget_set_nl]

@[simp] theorem forget_setLin {bl : Block → Bool} (f : Lintel → Lintel) (s : State) (h_lin : bl .lin = true) :
    forget bl (setLin f s) = forget bl s := by
  unfold setLin
  simp (disch := assumption) only [forget_set_lin]

@[simp] theorem forget_becomeRoot {bl : Block → Bool} (limit : Bool) (s : State) (h_lin : bl .lin = true) :
    forget bl (becomeRoot limit s) = forget bl s := by
  unfold becomeRoot
  simp (disch := assumption) only [forget_setLin]

@[simp] theorem forget_linEvent {bl : Block → Bool} (event : Nat) (link : Nat) (peer : Nat) (s : State) (h_hatch : bl .hatch = true)
    (h_diag : bl .diag = true) :
    forget bl (linEvent event link peer s) = forget bl s := by
  unfold linEvent
  simp (disch := assumption) only [forget_notify]

@[simp] theorem forget_setNeighbour {bl : Block → Bool} (link : Nat) (id : Nat) (f : Neighbour → Neighbour) (s : State)
    (h_lin : bl .lin = true) :
    forget bl (setNeighbour link id f s) = forget bl s := by
  unfold setNeighbour
  simp (disch := assumption) only [forget_setLin]

@[simp] theorem forget_setMc {bl : Block → Bool} (f : Carrier → Carrier) (s : State) (h_mc : bl .mc = true) :
    forget bl (setMc f s) = forget bl s := by
  unfold setMc
  simp (disch := assumption) only [forget_set_mc]

@[simp] theorem forget_mcQueue {bl : Block → Bool} (type : Nat) (dst : Nat) (seq : Nat) (prio : Nat) (payload : List Byte) (s : State)
    (h_mc : bl .mc = true) :
    forget bl (mcQueue type dst seq prio payload s) = forget bl s := by
  unfold mcQueue
  simp (disch := assumption) only [forget_setMc]

@[simp] theorem forget_emit {bl : Block → Bool} (n : Neighbour) (p : FabricPacket) (s : State) (h_mc : bl .mc = true)
    (h_lin : bl .lin = true) :
    forget bl (emit n p s) = forget bl s := by
  unfold emit
  simp (disch := assumption) only [forget_setLin, forget_setNeighbour, forget_mcQueue, forget_ite, ite_self]

@[simp] theorem forget_pumpLink {bl : Block → Bool} (k link id : Nat) (s : State) (h_mc : bl .mc = true) (h_lin : bl .lin = true) :
    forget bl (pumpLink k link id s) = forget bl s := by
  induction k generalizing s with
  | zero => rfl
  | succ k ih =>
    unfold pumpLink
    split
    · rfl
    · split
      · rfl
      · rw [ih]
        simp (disch := assumption) only [forget_emit, forget_setNeighbour]

@[simp] theorem forget_transmit {bl : Block → Bool} (n : Neighbour) (p : FabricPacket) (s : State) (h_mc : bl .mc = true)
    (h_lin : bl .lin = true) :
    forget bl (transmit n p s) = forget bl s := by
  unfold transmit
  simp (disch := assumption) only [forget_pumpLink, forget_setNeighbour]

@[simp] theorem forget_sendRoute {bl : Block → Bool} (s : State) (h_mc : bl .mc = true) (h_lin : bl .lin = true) :
    forget bl (sendRoute s) = forget bl s := by
  unfold sendRoute
  (repeat' split) <;> simp (disch := assumption) only [forget_transmit]

@[simp] theorem forget_followParent {bl : Block → Bool} (n : Neighbour) (s : State) (h_lin : bl .lin = true) :
    forget bl (followParent n s) = forget bl s := by
  unfold followParent
  simp (disch := assumption) only [forget_setLin, forget_setNeighbour]

@[simp] theorem forget_rebuildTree {bl : Block → Bool} (lost : Bool) (s : State) (h_hatch : bl .hatch = true) (h_mc : bl .mc = true)
    (h_lin : bl .lin = true) (h_diag : bl .diag = true) :
    forget bl (rebuildTree lost s) = forget bl s := by
  unfold rebuildTree
  repeat'
    first
    | (simp (disch := assumption) only [forget_becomeRoot, forget_linEvent, forget_sendRoute, forget_followParent, forget_ite,
        ite_self]; done)
    | split
    | simp (disch := assumption) only [forget_becomeRoot, forget_linEvent, forget_ite, ite_self]

@[simp] theorem forget_toParent {bl : Block → Bool} (p : FabricPacket) (s : State) (h_mc : bl .mc = true) (h_lin : bl .lin = true) :
    forget bl (toParent p s) = forget bl s := by
  unfold toParent
  (repeat' split) <;> simp (disch := assumption) only [forget_setLin, forget_transmit]

@[simp] theorem forget_routePacket {bl : Block → Bool} (came : Option (Nat × Nat)) (p : FabricPacket) (s : State)
    (h_mc : bl .mc = true) (h_lin : bl .lin = true) :
    forget bl (routePacket came p s) = forget bl s := by
  unfold routePacket
  repeat'
    first
    | (simp only [h_mc, h_lin, forget_setLin, forget_toParent, forget_transmit, forget_ite, ite_self, forget_foldl, implies_true];
        done)
    | split
    | simp only [h_mc, h_lin, forget_toParent, forget_transmit, forget_ite, ite_self, forget_foldl, implies_true]

@[simp] theorem forget_fabricSend {bl : Block → Bool} (type : Nat) (prio : Nat) (dst : Nat) (payload : List Byte) (s : State)
    (h_mc : bl .mc = true) (h_lin : bl .lin = true) :
    forget bl (fabricSend type prio dst payload s) = forget bl s := by
  unfold fabricSend
  simp only [h_mc, h_lin, forget_setLin, forget_routePacket, forget_ite, ite_self, forget_foldl, implies_true]

@[simp] theorem forget_lbEvent {bl : Block → Bool} (event : Nat) (page : Nat) (s : State) (h_hatch : bl .hatch = true)
    (h_diag : bl .diag = true) :
    forget bl (lbEvent event page s) = forget bl s := by
  unfold lbEvent
  simp (disch := assumption) only [forget_notify]

@[simp] theorem forget_pageWrite {bl : Block → Bool} (p : Nat) (data : List Byte) (s : State) (h_con : bl .con = true) :
    forget bl (pageWrite p data s) = forget bl s := by
  unfold pageWrite
  simp (disch := assumption) only [forget_set_con]

@[simp] theorem forget_lbReply {bl : Block → Bool} (packet : List Byte) (s : State) (h_hatch : bl .hatch = true)
    (h_con : bl .con = true) (h_diag : bl .diag = true) :
    forget bl (lbReply packet s) = forget bl s := by
  unfold lbReply
  simp (disch := assumption) only [forget_lbEvent, forget_pageWrite]

@[simp] theorem forget_leave {bl : Block → Bool} (snd : Sender) (packet : List Byte) (c : Nat) (q : Nat) (s : State)
    (h_hatch : bl .hatch = true) (h_con : bl .con = true) (h_mc : bl .mc = true) (h_lin : bl .lin = true)
    (h_diag : bl .diag = true) :
    forget bl (leave snd packet c q s) = forget bl s := by
  unfold leave
  (repeat' split) <;> simp (disch := assumption) only [forget_fabricSend, forget_lbReply]

@[simp] theorem forget_sendReply {bl : Block → Bool} (r : Req) (code : Nat) (payload : List Byte) (again : Bool) (s : State)
    (h_hatch : bl .hatch = true) (h_con : bl .con = true) (h_mc : bl .mc = true) (h_lin : bl .lin = true)
    (h_diag : bl .diag = true) :
    forget bl (sendReply r code payload again s) = forget bl s := by
  unfold sendReply
  simp (disch := assumption) only [forget_leave, forget_set_hatch, forget_ite, ite_self]

@[simp] theorem forget_reply {bl : Block → Bool} (r : Req) (code : Nat) (st : Nat) (body : List Byte) (s : State)
    (h_hatch : bl .hatch = true) (h_con : bl .con = true) (h_mc : bl .mc = true) (h_lin : bl .lin = true)
    (h_diag : bl .diag = true) :
    forget bl (reply r code st body s) = forget bl s := by
  unfold reply
  simp (disch := assumption) only [forget_sendReply]

@[simp] theorem forget_replyTo {bl : Block → Bool} (r : Option Req) (code : Nat) (st : Nat) (body : List Byte) (s : State)
    (h_hatch : bl .hatch = true) (h_con : bl .con = true) (h_mc : bl .mc = true) (h_lin : bl .lin = true)
    (h_diag : bl .diag = true) :
    forget bl (replyTo r code st body s) = forget bl s := by
  unfold replyTo
  (repeat' split) <;> simp (disch := assumption) only [forget_reply]

@[simp] theorem forget_stopPort {bl : Block → Bool} (s : State) (h_hatch : bl .hatch = true) (h_con : bl .con = true)
    (h_mc : bl .mc = true) (h_lin : bl .lin = true) (h_diag : bl .diag = true) (h_rs : bl .rs = true) :
    forget bl (stopPort s) = forget bl s := by
  unfold stopPort
  repeat'
    first
    | (simp (disch := assumption) only [forget_replyTo, forget_set_rs]; done)
    | split
    | simp (disch := assumption) only []

@[simp] theorem forget_setHng {bl : Block → Bool} (f : Hinge → Hinge) (s : State) (h_hng : bl .hng = true) :
    forget bl (setHng f s) = forget bl s := by
  unfold setHng
  simp (disch := assumption) only [forget_set_hng]

@[simp] theorem forget_onEffect {bl : Block → Bool} (id : Nat) (old : Int) (new : Int) (eff : Nat) (snd : Nat) (s : State)
    (h_inp : bl .inp = true) (h_cal : bl .cal = true) (h_led : bl .led = true) (h_bil : bl .bil = true)
    (h_hatch : bl .hatch = true) (h_con : bl .con = true) (h_mc : bl .mc = true) (h_lin : bl .lin = true)
    (h_hng : bl .hng = true) (h_nl : bl .nl = true) (h_diag : bl .diag = true) (h_rs : bl .rs = true) :
    forget bl (onEffect id old new eff snd s) = forget bl s := by
  unfold onEffect
  (repeat' split) <;> simp (disch := assumption) only [forget_inputConfig, forget_mixSpan, forget_profileDue, forget_setDiag,
      forget_setNl, forget_rebuildTree, forget_stopPort, forget_sendRoute, forget_setHng]

@[simp] theorem forget_putInForce {bl : Block → Bool} (id : Nat) (v : Int) (eff : Nat) (snd : Nat) (s : State)
    (h_inp : bl .inp = true) (h_cal : bl .cal = true) (h_led : bl .led = true) (h_bil : bl .bil = true)
    (h_hatch : bl .hatch = true) (h_par : bl .par = true) (h_con : bl .con = true) (h_mc : bl .mc = true)
    (h_lin : bl .lin = true) (h_hng : bl .hng = true) (h_nl : bl .nl = true) (h_diag : bl .diag = true)
    (h_rs : bl .rs = true) :
    forget bl (putInForce id v eff snd s) = forget bl s := by
  unfold putInForce
  simp (disch := assumption) only [forget_setCell, forget_onEffect]

@[simp] theorem forget_promote {bl : Block → Bool} (id : Nat) (s : State) (h_inp : bl .inp = true) (h_cal : bl .cal = true)
    (h_led : bl .led = true) (h_bil : bl .bil = true) (h_hatch : bl .hatch = true) (h_par : bl .par = true)
    (h_con : bl .con = true) (h_mc : bl .mc = true) (h_lin : bl .lin = true) (h_hng : bl .hng = true) (h_nl : bl .nl = true)
    (h_diag : bl .diag = true) (h_rs : bl .rs = true) :
    forget bl (promote id s) = forget bl s := by
  unfold promote
  (repeat' split) <;> simp (disch := assumption) only [forget_putInForce]

@[simp] theorem forget_setShu {bl : Block → Bool} (f : Shutter → Shutter) (s : State) (h_shu : bl .shu = true) :
    forget bl (setShu f s) = forget bl s := by
  unfold setShu
  simp (disch := assumption) only [forget_set_shu]

@[simp] theorem forget_changeLog {bl : Block → Bool} (kind : Nat) (sender : Nat) (pid : Nat) (old : List Byte) (new : List Byte)
    (s : State) (h_shu : bl .shu = true) :
    forget bl (changeLog kind sender pid old new s) = forget bl s := by
  unfold changeLog
  simp (disch := assumption) only [forget_setShu]

@[simp] theorem forget_touchConfig {bl : Block → Bool} (s : State) (h_shu : bl .shu = true) :
    forget bl (touchConfig s) = forget bl s := by
  unfold touchConfig
  simp (disch := assumption) only [forget_setShu]

@[simp] theorem forget_recordWrite {bl : Block → Bool} (p : ParamRow) (snd : Nat) (old : Int) (new : Int) (s : State)
    (h_led : bl .led = true) (h_hatch : bl .hatch = true) (h_shu : bl .shu = true) (h_diag : bl .diag = true) :
    forget bl (recordWrite p snd old new s) = forget bl s := by
  unfold recordWrite
  simp (disch := assumption) only [forget_changeLog, forget_setShu, forget_touchConfig, forget_logNowF, forget_ite, ite_self]

@[simp] theorem forget_setLed {bl : Block → Bool} (f : Ledger → Ledger) (s : State) (h_led : bl .led = true) :
    forget bl (setLed f s) = forget bl s := by
  unfold setLed
  simp (disch := assumption) only [forget_set_led]

@[simp] theorem forget_lsWrite {bl : Block → Bool} (s : State) (h_led : bl .led = true) :
    forget bl (lsWrite s) = forget bl s := by
  unfold lsWrite
  simp (disch := assumption) only [forget_setLed]

@[simp] theorem forget_acceptWrite {bl : Block → Bool} (p : ParamRow) (v : Int) (snd : Nat) (s : State) (h_inp : bl .inp = true)
    (h_cal : bl .cal = true) (h_led : bl .led = true) (h_bil : bl .bil = true) (h_hatch : bl .hatch = true)
    (h_par : bl .par = true) (h_shu : bl .shu = true) (h_con : bl .con = true) (h_mc : bl .mc = true)
    (h_lin : bl .lin = true) (h_hng : bl .hng = true) (h_nl : bl .nl = true) (h_diag : bl .diag = true)
    (h_rs : bl .rs = true) :
    forget bl (acceptWrite p v snd s).2 = forget bl s := by
  unfold acceptWrite
  simp (disch := assumption) only [forget_shadow, forget_signConfig, forget_promote, forget_recordWrite, forget_lsWrite,
      forget_putInForce, forget_ite, ite_self]

@[simp] theorem forget_setMet {bl : Block → Bool} (f : Energy → Energy) (s : State) (h_met : bl .met = true) :
    forget bl (setMet f s) = forget bl s := by
  unfold setMet
  simp (disch := assumption) only [forget_set_met]

@[simp] theorem forget_accumulate {bl : Block → Bool} (inc : List Nat) (n : Nat) (flags : Nat) (s : State) (h_met : bl .met = true) :
    forget bl (accumulate inc n flags s) = forget bl s := by
  unfold accumulate
  simp (disch := assumption) only [forget_setMet]

@[simp] theorem forget_burstSent {bl : Block → Bool} (s : State) (h_pq : bl .pq = true) (h_mc : bl .mc = true) :
    forget bl (burstSent s) = forget bl s := by
  unfold burstSent
  simp (disch := assumption) only [forget_setMc, forget_set_pq]

@[simp] theorem forget_ackWindow {bl : Block → Bool} (s : State) (h_pq : bl .pq = true) (h_mc : bl .mc = true) :
    forget bl (ackWindow s) = forget bl s := by
  unfold ackWindow
  simp (disch := assumption) only [forget_setMc, forget_burstSent, forget_ite, ite_self]

@[simp] theorem forget_acknowledge {bl : Block → Bool} (link : Nat) (id : Nat) (keep : Nat × FabricPacket → Bool) (s : State)
    (h_mc : bl .mc = true) (h_lin : bl .lin = true) :
    forget bl (acknowledge link id keep s) = forget bl s := by
  unfold acknowledge
  simp (disch := assumption) only [forget_pumpLink, forget_setNeighbour]

@[simp] theorem forget_logNow {bl : Block → Bool} (code : Nat) (data : List Byte) (s : State) (h_led : bl .led = true)
    (h_hatch : bl .hatch = true) (h_diag : bl .diag = true) :
    forget bl (logNow code data s) = forget bl s := by
  unfold logNow
  simp (disch := assumption) only [forget_logNowF]

@[simp] theorem forget_activateCalendar {bl : Block → Bool} (t : Int) (s : State) (h_led : bl .led = true) (h_bil : bl .bil = true)
    (h_hatch : bl .hatch = true) (h_diag : bl .diag = true) :
    forget bl (activateCalendar t s) = forget bl s := by
  unfold activateCalendar
  (repeat' split) <;> simp (disch := assumption) only [forget_setBil, forget_logNow]

@[simp] theorem forget_setSie {bl : Block → Bool} (f : Sieve → Sieve) (s : State) (h_sie : bl .sie = true) :
    forget bl (setSie f s) = forget bl s := by
  unfold setSie
  simp (disch := assumption) only [forget_set_sie]

@[simp] theorem forget_addMark {bl : Block → Bool} (j : Nat) (ovr : Nat) (sat : Nat) (s : State) (h_sie : bl .sie = true) :
    forget bl (addMark j ovr sat s) = forget bl s := by
  unfold addMark
  simp (disch := assumption) only [forget_setSie, forget_ite, ite_self]

@[simp] theorem forget_advanceTo {bl : Block → Bool} (t : Tick) (s : State) (h_clk : bl .clk = true) :
    forget bl (advanceTo t s) = forget bl s := by
  unfold advanceTo
  simp (disch := assumption) only [forget_set_clk]

@[simp] theorem forget_setLsw {bl : Block → Bool} (f : Lsw → Lsw) (s : State) (h_lsw : bl .lsw = true) :
    forget bl (setLsw f s) = forget bl s := by
  unfold setLsw
  simp (disch := assumption) only [forget_set_lsw]

@[simp] theorem forget_allOff {bl : Block → Bool} (s : State) (h_lsw : bl .lsw = true) :
    forget bl (allOff s) = forget bl s := by
  unfold allOff
  simp (disch := assumption) only [forget_setLsw]

@[simp] theorem forget_setVeh {bl : Block → Bool} (f : Vehicle → Vehicle) (s : State) (h_veh : bl .veh = true) :
    forget bl (setVeh f s) = forget bl s := by
  unfold setVeh
  simp (disch := assumption) only [forget_set_veh]

@[simp] theorem forget_answerV {bl : Block → Bool} (a : V2GAnswer) (s : State) (h_veh : bl .veh = true) :
    forget bl (answerV a s) = forget bl s := by
  unfold answerV
  simp (disch := assumption) only [forget_setVeh]

@[simp] theorem forget_answered {bl : Block → Bool} (m : SlacMsg) (s : State) (h_veh : bl .veh = true) :
    forget bl (answered m s) = forget bl s := by
  unfold answered
  simp (disch := assumption) only [forget_setVeh]

@[simp] theorem forget_applyGain {bl : Block → Bool} (e : Nat) (crossing : Bool) (s : State) (h_cal : bl .cal = true) :
    forget bl (applyGain e crossing s) = forget bl s := by
  unfold applyGain
  repeat'
    first
    | (simp (disch := assumption) only [forget_setCal]; done)
    | split
    | simp (disch := assumption) only []

@[simp] theorem forget_writeCkpt {bl : Block → Bool} (e : Nat) (bal : List Int) (s : State) (h_led : bl .led = true) :
    forget bl (writeCkpt e bal s) = forget bl s := by
  unfold writeCkpt
  simp (disch := assumption) only [forget_setLed]

@[simp] theorem forget_dueCkpt {bl : Block → Bool} (e : Nat) (bal : List Int) (s : State) (h_led : bl .led = true) :
    forget bl (dueCkpt e bal s) = forget bl s := by
  unfold dueCkpt
  simp (disch := assumption) only [forget_writeCkpt, forget_ite, ite_self]

@[simp] theorem forget_applyMsg {bl : Block → Bool} (m : HingeMsg) (s : State) (h_met : bl .met = true) (h_led : bl .led = true)
    (h_bil : bl .bil = true) (h_veh : bl .veh = true) (h_hng : bl .hng = true) :
    forget bl (applyMsg m s) = forget bl s := by
  unfold applyMsg
  (repeat' split) <;> simp (disch := assumption) only [forget_setVeh, forget_setBil, forget_lsWrite, forget_setMet, forget_dueCkpt,
      forget_setHng, forget_set_led]

@[simp] theorem forget_forceParamAt {bl : Block → Bool} (s : State) (id : Nat) (v : Int) (e : Nat) (h_par : bl .par = true) :
    forget bl (forceParamAt s id v e) = forget bl s := by
  unfold forceParamAt
  simp (disch := assumption) only [forget_setCell]

@[simp] theorem forget_applyRecord {bl : Block → Bool} (c : CalRecord) (s : State) (h_par : bl .par = true) :
    forget bl (applyRecord c s) = forget bl s := by
  unfold applyRecord
  simp only [h_par, forget_forceParamAt, forget_foldl, implies_true]

@[simp] theorem forget_applyTime {bl : Block → Bool} (e : Nat) (crossing : Bool) (s : State) (h_cal : bl .cal = true) :
    forget bl (applyTime e crossing s) = forget bl s := by
  unfold applyTime
  repeat'
    first
    | (simp (disch := assumption) only [forget_setCal]; done)
    | split
    | simp (disch := assumption) only []

@[simp] theorem forget_armBoundaries {bl : Block → Bool} (s : State) (h_met : bl .met = true) :
    forget bl (armBoundaries s) = forget bl s := by
  unfold armBoundaries
  simp (disch := assumption) only [forget_setMet, forget_ite, ite_self]

@[simp] theorem forget_asOf {bl : Block → Bool} (s : State) (h_clk : bl .clk = true) (h_dom : bl .dom = true)
    (h_mode : bl .mode = true) (h_recl : bl .recl = true) (h_inp : bl .inp = true) (h_sie : bl .sie = true)
    (h_cal : bl .cal = true) (h_bil : bl .bil = true) (h_shu : bl .shu = true) (h_sag : bl .sag = true)
    (h_kiln : bl .kiln = true) (h_veh : bl .veh = true) (h_lsw : bl .lsw = true) (h_hng : bl .hng = true) :
    forget bl (asOf s) = forget bl s := by
  unfold asOf
  simp (disch := assumption) only [forget_sets_14_clk, forget_ite, ite_self]

@[simp] theorem forget_setUpd {bl : Block → Bool} (f : Update → Update) (s : State) (h_upd : bl .upd = true) :
    forget bl (setUpd f s) = forget bl s := by
  unfold setUpd
  simp (disch := assumption) only [forget_set_upd]

@[simp] theorem forget_sendChain {bl : Block → Bool} (op : Nat) (dst : Nat) (id : Nat) (off : Nat) (len : Nat) (data : List Byte)
    (s : State) (h_mc : bl .mc = true) (h_lin : bl .lin = true) (h_upd : bl .upd = true) :
    forget bl (sendChain op dst id off len data s) = forget bl s := by
  unfold sendChain
  simp (disch := assumption) only [forget_fabricSend, forget_setUpd]

@[simp] theorem forget_askChunk {bl : Block → Bool} (g : Staging) (from' : Nat) (s : State) (h_mc : bl .mc = true)
    (h_lin : bl .lin = true) (h_upd : bl .upd = true) :
    forget bl (askChunk g from' s) = forget bl s := by
  unfold askChunk
  simp (disch := assumption) only [forget_sendChain]

@[simp] theorem forget_vehEventSt {bl : Block → Bool} (st : Nat) (event : Nat) (endCause : Nat) (s : State)
    (h_hatch : bl .hatch = true) (h_diag : bl .diag = true) :
    forget bl (vehEventSt st event endCause s) = forget bl s := by
  unfold vehEventSt
  simp (disch := assumption) only [forget_notifySt]

@[simp] theorem forget_shuEventSt {bl : Block → Bool} (st : Nat) (event : Nat) (mask : Nat) (s : State) (h_hatch : bl .hatch = true)
    (h_diag : bl .diag = true) :
    forget bl (shuEventSt st event mask s) = forget bl s := by
  unfold shuEventSt
  simp (disch := assumption) only [forget_notifySt]

@[simp] theorem forget_refusalNote {bl : Block → Bool} (q : ShuReq) (st : Nat) (s : State) (h_hatch : bl .hatch = true)
    (h_diag : bl .diag = true) :
    forget bl (refusalNote q st s) = forget bl s := by
  unfold refusalNote
  (repeat' split) <;> simp (disch := assumption) only [forget_vehEventSt, forget_shuEventSt]

@[simp] theorem forget_refuseReq {bl : Block → Bool} (q : ShuReq) (st : Nat) (s : State) (h_hatch : bl .hatch = true)
    (h_shu : bl .shu = true) (h_diag : bl .diag = true) :
    forget bl (refuseReq q st s) = forget bl s := by
  unfold refuseReq
  simp (disch := assumption) only [forget_refusalNote, forget_set_shu, forget_ite, ite_self]

@[simp] theorem forget_askShutter {bl : Block → Bool} (q : ShuReq) (s : State) (h_hatch : bl .hatch = true) (h_shu : bl .shu = true)
    (h_diag : bl .diag = true) :
    forget bl (askShutter q s) = forget bl s := by
  unfold askShutter
  simp (disch := assumption) only [forget_refuseReq, forget_set_shu, forget_ite, ite_self]

@[simp] theorem forget_askPilot {bl : Block → Bool} (s : State) (h_hatch : bl .hatch = true) (h_shu : bl .shu = true)
    (h_veh : bl .veh = true) (h_diag : bl .diag = true) :
    forget bl (askPilot s) = forget bl s := by
  unfold askPilot
  simp (disch := assumption) only [forget_setVeh, forget_askShutter, forget_ite, ite_self]

@[simp] theorem forget_sessionPart {bl : Block → Bool} (e : Nat) (imp : Nat) (exp : Nat) (s : State) (h_bil : bl .bil = true) :
    forget bl (sessionPart e imp exp s) = forget bl s := by
  unfold sessionPart
  simp (disch := assumption) only [forget_setBil]

@[simp] theorem forget_putCredit {bl : Block → Bool} (v : Int) (s : State) (h_bil : bl .bil = true) (h_hatch : bl .hatch = true)
    (h_diag : bl .diag = true) :
    forget bl (putCredit v s) = forget bl s := by
  unfold putCredit
  simp (disch := assumption) only [forget_setBil, forget_notify, forget_ite, ite_self]

@[simp] theorem forget_creditPart {bl : Block → Bool} (imp : Nat) (exp : Nat) (s : State) (h_bil : bl .bil = true)
    (h_hatch : bl .hatch = true) (h_diag : bl .diag = true) :
    forget bl (creditPart imp exp s) = forget bl s := by
  unfold creditPart
  (repeat' split) <;> simp (disch := assumption) only [forget_setBil, forget_putCredit]

@[simp] theorem forget_attributeEpoch {bl : Block → Bool} (e : Nat) (inc : List Nat) (s : State) (h_bil : bl .bil = true)
    (h_hatch : bl .hatch = true) (h_diag : bl .diag = true) :
    forget bl (attributeEpoch e inc s) = forget bl s := by
  unfold attributeEpoch
  simp (disch := assumption) only [forget_setBil, forget_sessionPart, forget_creditPart]

@[simp] theorem forget_vehEvent {bl : Block → Bool} (event : Nat) (endCause : Nat) (s : State) (h_hatch : bl .hatch = true)
    (h_diag : bl .diag = true) :
    forget bl (vehEvent event endCause s) = forget bl s := by
  unfold vehEvent
  simp (disch := assumption) only [forget_vehEventSt]

@[simp] theorem forget_stopBegun {bl : Block → Bool} (s : State) (h_hatch : bl .hatch = true) (h_veh : bl .veh = true)
    (h_diag : bl .diag = true) :
    forget bl (stopBegun s) = forget bl s := by
  unfold stopBegun
  simp (disch := assumption) only [forget_vehEvent, forget_set_veh, forget_ite, ite_self]

@[simp] theorem forget_endSession {bl : Block → Bool} (cause : Nat) (s : State) (h_veh : bl .veh = true) :
    forget bl (endSession cause s) = forget bl s := by
  unfold endSession
  simp (disch := assumption) only [forget_set_veh, forget_ite, ite_self]

@[simp] theorem forget_creditWatch {bl : Block → Bool} (s : State) (h_bil : bl .bil = true) (h_hatch : bl .hatch = true)
    (h_shu : bl .shu = true) (h_veh : bl .veh = true) (h_diag : bl .diag = true) :
    forget bl (creditWatch s) = forget bl s := by
  unfold creditWatch
  simp (disch := assumption) only [forget_stopBegun, forget_setBil, forget_askShutter, forget_endSession, forget_ite, ite_self]

@[simp] theorem forget_disconnectEvent {bl : Block → Bool} (state : Nat) (cause : Nat) (s : State) (h_led : bl .led = true)
    (h_hatch : bl .hatch = true) (h_diag : bl .diag = true) :
    forget bl (disconnectEvent state cause s) = forget bl s := by
  unfold disconnectEvent
  simp (disch := assumption) only [forget_logNow]

@[simp] theorem forget_creditRestore {bl : Block → Bool} (s : State) (h_led : bl .led = true) (h_bil : bl .bil = true)
    (h_hatch : bl .hatch = true) (h_diag : bl .diag = true) :
    forget bl (creditRestore s) = forget bl s := by
  unfold creditRestore
  simp (disch := assumption) only [forget_setBil, forget_disconnectEvent, forget_ite, ite_self]

@[simp] theorem forget_reached {bl : Block → Bool} (e : Nat) (s : State) (h_led : bl .led = true) (h_bil : bl .bil = true)
    (h_hatch : bl .hatch = true) (h_shu : bl .shu = true) (h_veh : bl .veh = true) (h_diag : bl .diag = true) :
    forget bl (reached e s) = forget bl s := by
  unfold reached
  simp (disch := assumption) only [forget_creditWatch, forget_setBil, forget_lsWrite, forget_creditRestore, forget_ite, ite_self]

@[simp] theorem forget_attribGap {bl : Block → Bool} (e : Nat) (s : State) (h_led : bl .led = true) (h_bil : bl .bil = true)
    (h_hatch : bl .hatch = true) (h_shu : bl .shu = true) (h_veh : bl .veh = true) (h_diag : bl .diag = true) :
    forget bl (attribGap e s) = forget bl s := by
  unfold attribGap
  (repeat' split) <;> simp (disch := assumption) only [forget_attributeEpoch, forget_lsWrite, forget_reached, forget_logNow]

@[simp] theorem forget_startSession {bl : Block → Bool} (e : Nat) (s : State) (h_bil : bl .bil = true) :
    forget bl (startSession e s) = forget bl s := by
  unfold startSession
  simp (disch := assumption) only [forget_setBil]

@[simp] theorem forget_coverEpoch {bl : Block → Bool} (x : EpochInc) (s : State) (h_bil : bl .bil = true) :
    forget bl (coverEpoch x s) = forget bl s := by
  unfold coverEpoch
  simp (disch := assumption) only [forget_setBil]

@[simp] theorem forget_attributeWhole {bl : Block → Bool} (e : Nat) (x : EpochInc) (s : State) (h_led : bl .led = true)
    (h_bil : bl .bil = true) (h_hatch : bl .hatch = true) (h_shu : bl .shu = true) (h_veh : bl .veh = true)
    (h_diag : bl .diag = true) :
    forget bl (attributeWhole e x s) = forget bl s := by
  unfold attributeWhole
  simp (disch := assumption) only [forget_setBil, forget_attributeEpoch, forget_reached, forget_startSession, forget_coverEpoch,
      forget_ite, ite_self]

@[simp] theorem forget_authNotify {bl : Block → Bool} (q : AuthReq) (s : State) (h_hatch : bl .hatch = true)
    (h_diag : bl .diag = true) :
    forget bl (authNotify q s) = forget bl s := by
  unfold authNotify
  simp (disch := assumption) only [forget_notify]

@[simp] theorem forget_setPlaces {bl : Block → Bool} (tokens : List Nat) (p : TokenPlace) (s : State) (h_lin : bl .lin = true) :
    forget bl (setPlaces tokens p s) = forget bl s := by
  unfold setPlaces
  simp (disch := assumption) only [forget_setLin]

@[simp] theorem forget_backToPool {bl : Block → Bool} (tokens : List Nat) (s : State) (h_lin : bl .lin = true) :
    forget bl (backToPool tokens s) = forget bl s := by
  unfold backToPool
  simp (disch := assumption) only [forget_setPlaces]

@[simp] theorem forget_releaseStages {bl : Block → Bool} (s : State) (h_recl : bl .recl = true) (h_shu : bl .shu = true)
    (h_lsw : bl .lsw = true) :
    forget bl (releaseStages s) = forget bl s := by
  unfold releaseStages
  simp (disch := assumption) only [forget_setShu, forget_setLsw, forget_set_recl]

@[simp] theorem forget_becomeStandby {bl : Block → Bool} (s : State) (h_recl : bl .recl = true) (h_shu : bl .shu = true)
    (h_lsw : bl .lsw = true) (h_hng : bl .hng = true) :
    forget bl (becomeStandby s) = forget bl s := by
  unfold becomeStandby
  simp (disch := assumption) only [forget_releaseStages, forget_setHng]

@[simp] theorem forget_openSession {bl : Block → Bool} (authKind : Nat) (ident : List Byte) (s : State) (h_led : bl .led = true)
    (h_bil : bl .bil = true) :
    forget bl (openSession authKind ident s) = forget bl s := by
  unfold openSession
  simp (disch := assumption) only [forget_setBil, forget_lsWrite]

@[simp] theorem forget_beginSession {bl : Block → Bool} (kind : Nat) (ident : List Byte) (bpt : Bool) (s : State)
    (h_led : bl .led = true) (h_bil : bl .bil = true) (h_hatch : bl .hatch = true) (h_shu : bl .shu = true)
    (h_veh : bl .veh = true) (h_diag : bl .diag = true) :
    forget bl (beginSession kind ident bpt s) = forget bl s := by
  unfold beginSession
  simp (disch := assumption) only [forget_setVeh, forget_openSession, forget_askPilot, forget_vehEvent]

@[simp] theorem forget_refuseWaiting {bl : Block → Bool} (p : ShuReq → Bool) (st : Nat) (s : State) (h_hatch : bl .hatch = true)
    (h_shu : bl .shu = true) (h_diag : bl .diag = true) :
    forget bl (refuseWaiting p st s) = forget bl s := by
  unfold refuseWaiting
  simp only [h_hatch, h_shu, h_diag, forget_refuseReq, forget_set_shu, forget_foldl, implies_true]

@[simp] theorem forget_shuEvent {bl : Block → Bool} (event : Nat) (mask : Nat) (s : State) (h_hatch : bl .hatch = true)
    (h_diag : bl .diag = true) :
    forget bl (shuEvent event mask s) = forget bl s := by
  unfold shuEvent
  simp (disch := assumption) only [forget_shuEventSt]

@[simp] theorem forget_stopPwm {bl : Block → Bool} (s : State) (h_shu : bl .shu = true) :
    forget bl (stopPwm s) = forget bl s := by
  unfold stopPwm
  simp (disch := assumption) only [forget_set_shu]

@[simp] theorem forget_beginStop {bl : Block → Bool} (kind : StopKind) (bound : Tick) (s : State) (h_recl : bl .recl = true)
    (h_hatch : bl .hatch = true) (h_shu : bl .shu = true) (h_veh : bl .veh = true) (h_diag : bl .diag = true) :
    forget bl (beginStop kind bound s) = forget bl s := by
  unfold beginStop
  simp (disch := assumption) only [forget_refuseWaiting, forget_setShu, forget_shuEvent, forget_stopPwm, forget_set_recl,
      forget_set_veh, forget_ite, ite_self]

theorem forget_billing {bl : Block → Bool} (s : State) (f : State → Answer) (h : ∀ t, forget bl (f t).state = forget bl t) :
    forget bl (billing s f).state = forget bl s := by
  unfold billing
  split
  · rfl
  · exact h s

@[simp] theorem forget_correctAll {bl : Block → Bool} (e : Nat) (x1 : List Int) (s : State) (h_cal : bl .cal = true) :
    forget bl (correctAll e x1 s).1 = forget bl s := by
  unfold correctAll
  simp (disch := assumption) only [forget_applyGain]

@[simp] theorem forget_gainCheck {bl : Block → Bool} (s : State) (h_inp : bl .inp = true) :
    forget bl (gainCheck s) = forget bl s := by
  unfold gainCheck
  simp (disch := assumption) only [forget_setInp]

@[simp] theorem forget_blendBoundary {bl : Block → Bool} (j : Nat) (s : State) (h_inp : bl .inp = true) :
    forget bl (blendBoundary j s) = forget bl s := by
  unfold blendBoundary
  simp (disch := assumption) only [forget_setInp, forget_gainCheck, forget_ite, ite_self]

@[simp] theorem forget_raise {bl : Block → Bool} (code : Nat) (data : List Byte) (s : State) (h_led : bl .led = true) :
    forget bl (raise code data s) = forget bl s := by
  unfold raise
  simp (disch := assumption) only [forget_raiseF]

@[simp] theorem forget_saturated {bl : Block → Bool} (mask : Nat) (e : Nat) (s : State) (h_sie : bl .sie = true)
    (h_led : bl .led = true) :
    forget bl (saturated mask e s) = forget bl s := by
  unfold saturated
  simp only [h_sie, h_led, forget_setSie, forget_raise, forget_ite, ite_self, forget_foldl, implies_true]

@[simp] theorem forget_saturatedAt {bl : Block → Bool} (mask : Nat) (j : Nat) (s : State) (h_sie : bl .sie = true)
    (h_led : bl .led = true) :
    forget bl (saturatedAt mask j s) = forget bl s := by
  unfold saturatedAt
  simp (disch := assumption) only [forget_addMark, forget_saturated]

@[simp] theorem forget_spanSample {bl : Block → Bool} (e : Nat) (eb : Nat) (xc : List Int) (q : Nat → Bool) (cross : Nat → Int)
    (low : Nat → Int) (s : State) (h_cal : bl .cal = true) :
    forget bl (spanSample e eb xc q cross low s) = forget bl s := by
  unfold spanSample
  simp (disch := assumption) only [forget_setCal]

@[simp] theorem forget_blendAll {bl : Block → Bool} (n : Nat) (x1 : List Int) (s : State) (h_inp : bl .inp = true)
    (h_sie : bl .sie = true) (h_cal : bl .cal = true) (h_led : bl .led = true) :
    forget bl (blendAll n x1 s).1 = forget bl s := by
  unfold blendAll
  (repeat' split) <;> simp (disch := assumption) only [forget_setInp, forget_correctAll, forget_blendBoundary, forget_saturatedAt,
      forget_addMark, forget_setSie, forget_spanSample]

@[simp] theorem forget_closeLoad {bl : Block → Bool} (t : Int) (flags : Nat) (e : Nat) (next : Nat) (s : State)
    (h_bil : bl .bil = true) :
    forget bl (closeLoad t flags e next s) = forget bl s := by
  unfold closeLoad
  simp (disch := assumption) only [forget_setBil]

@[simp] theorem forget_formReading {bl : Block → Bool} (kind : Nat) (digest : List Byte) (dest : Option Req) (stmt : Option Nat)
    (v : EpochVals) (s : State) (h_led : bl .led = true) :
    forget bl (formReading kind digest dest stmt v s) = forget bl s := by
  unfold formReading
  simp (disch := assumption) only [forget_setLed]

@[simp] theorem forget_snapReading {bl : Block → Bool} (kind : Nat) (digest : List Byte) (dest : Option Req) (stmt : Option Nat)
    (s : State) (h_led : bl .led = true) :
    forget bl (snapReading kind digest dest stmt s) = forget bl s := by
  unfold snapReading
  simp (disch := assumption) only [forget_formReading]

@[simp] theorem forget_wantSummary {bl : Block → Bool} (s : State) (h_con : bl .con = true) :
    forget bl (wantSummary s) = forget bl s := by
  unfold wantSummary
  simp (disch := assumption) only [forget_set_con]

@[simp] theorem forget_closeBilling {bl : Block → Bool} (endCivil : Int) (cause : Nat) (e : Nat) (s : State) (h_led : bl .led = true)
    (h_bil : bl .bil = true) (h_hatch : bl .hatch = true) (h_con : bl .con = true) (h_diag : bl .diag = true) :
    forget bl (closeBilling endCivil cause e s) = forget bl s := by
  unfold closeBilling
  simp (disch := assumption) only [forget_setBil, forget_snapReading, forget_notify, forget_wantSummary, forget_logNow]

@[simp] theorem forget_closeFine {bl : Block → Bool} (t : Int) (flags : Nat) (e : Nat) (next : Nat) (s : State)
    (h_bil : bl .bil = true) :
    forget bl (closeFine t flags e next s) = forget bl s := by
  unfold closeFine
  simp (disch := assumption) only [forget_setBil]

@[simp] theorem forget_closeSub {bl : Block → Bool} (t : Int) (flags : Nat) (s : State) (h_bil : bl .bil = true) :
    forget bl (closeSub t flags s) = forget bl s := by
  unfold closeSub
  simp (disch := assumption) only [forget_setBil]

@[simp] theorem forget_tariffSwitch {bl : Block → Bool} (anyway : Bool) (t : Int) (s : State) (h_led : bl .led = true)
    (h_bil : bl .bil = true) (h_hatch : bl .hatch = true) (h_diag : bl .diag = true) :
    forget bl (tariffSwitch anyway t s) = forget bl s := by
  unfold tariffSwitch
  simp (disch := assumption) only [forget_setBil, forget_creditRestore, forget_activateCalendar]

@[simp] theorem forget_closeAt {bl : Block → Bool} (t : Int) (flags : Nat) (e : Nat) (own : Nat) (s : State) (h_led : bl .led = true)
    (h_bil : bl .bil = true) (h_hatch : bl .hatch = true) (h_con : bl .con = true) (h_diag : bl .diag = true) :
    forget bl (closeAt t flags e own s) = forget bl s := by
  unfold closeAt
  simp (disch := assumption) only [forget_setBil, forget_closeLoad, forget_closeBilling, forget_closeFine, forget_closeSub,
      forget_tariffSwitch, forget_ite, ite_self]

@[simp] theorem forget_boundaryWork {bl : Block → Bool} (e : Nat) (t : Int) (x : EpochInc) (s : State) (h_led : bl .led = true)
    (h_bil : bl .bil = true) (h_hatch : bl .hatch = true) (h_shu : bl .shu = true) (h_veh : bl .veh = true)
    (h_con : bl .con = true) (h_diag : bl .diag = true) :
    forget bl (boundaryWork e t x s) = forget bl s := by
  unfold boundaryWork
  simp (disch := assumption) only [forget_closeAt, forget_setBil, forget_attributeEpoch, forget_lsWrite, forget_reached,
      forget_coverEpoch, forget_logNow, forget_ite, ite_self]

@[simp] theorem forget_calDefaults {bl : Block → Bool} (s : State) (h_par : bl .par = true) :
    forget bl (calDefaults s) = forget bl s := by
  unfold calDefaults
  simp (disch := assumption) only [forget_set_par]

@[simp] theorem forget_setHold {bl : Block → Bool} (f : Holdup → Holdup) (s : State) (h_hold : bl .hold = true) :
    forget bl (setHold f s) = forget bl s := by
  unfold setHold
  simp (disch := assumption) only [forget_set_hold]

@[simp] theorem forget_capacitance {bl : Block → Bool} (uF : Nat) (flagged : Bool) (s : State) (h_hold : bl .hold = true)
    (h_led : bl .led = true) :
    forget bl (capacitance uF flagged s) = forget bl s := by
  unfold capacitance
  simp (disch := assumption) only [forget_raise, forget_setHold, forget_ite, ite_self]

@[simp] theorem forget_cardEvent {bl : Block → Bool} (event : Nat) (i : List Byte) (s : State) (h_hatch : bl .hatch = true)
    (h_diag : bl .diag = true) :
    forget bl (cardEvent event i s) = forget bl s := by
  unfold cardEvent
  simp (disch := assumption) only [forget_notify]

@[simp] theorem forget_cfEpoch {bl : Block → Bool} (e : Nat) (gate : Nat) (l : List Sample) (s : State) (h_cal : bl .cal = true) :
    forget bl (cfEpoch e gate l s) = forget bl s := by
  unfold cfEpoch
  simp (disch := assumption) only [forget_setCal, forget_ite, ite_self]

@[simp] theorem forget_takeFree {bl : Block → Bool} (s : State) (h_clk : bl .clk = true) :
    forget bl (takeFree s).2 = forget bl s := by
  unfold takeFree
  simp (disch := assumption) only [forget_set_clk]

@[simp] theorem forget_setSag {bl : Block → Bool} (f : Sagger → Sagger) (s : State) (h_sag : bl .sag = true) :
    forget bl (setSag f s) = forget bl s := by
  unfold setSag
  simp (disch := assumption) only [forget_set_sag]

@[simp] theorem forget_checkHelpers {bl : Block → Bool} (bad : Nat) (s : State) (h_sag : bl .sag = true) :
    forget bl (checkHelpers bad s) = forget bl s := by
  unfold checkHelpers
  simp (disch := assumption) only [forget_setSag]

@[simp] theorem forget_sagEvent {bl : Block → Bool} (event : Nat) (subject : Nat) (s : State) (h_hatch : bl .hatch = true)
    (h_diag : bl .diag = true) :
    forget bl (sagEvent event subject s) = forget bl s := by
  unfold sagEvent
  simp (disch := assumption) only [forget_notify]

@[simp] theorem forget_noteBad {bl : Block → Bool} (k : Nat) (s : State) (h_led : bl .led = true) (h_hatch : bl .hatch = true)
    (h_sag : bl .sag = true) (h_diag : bl .diag = true) :
    forget bl (noteBad k s) = forget bl s := by
  unfold noteBad
  (repeat' split) <;> simp (disch := assumption) only [forget_setSag, forget_sagEvent, forget_logNow]

@[simp] theorem forget_checkSlots {bl : Block → Bool} (badSlots : Nat) (badCounts : Nat) (s : State) (h_led : bl .led = true)
    (h_hatch : bl .hatch = true) (h_sag : bl .sag = true) (h_diag : bl .diag = true) :
    forget bl (checkSlots badSlots badCounts s) = forget bl s := by
  unfold checkSlots
  simp only [h_led, h_hatch, h_sag, h_diag, forget_setSag, forget_noteBad, forget_ite, ite_self, forget_foldl, implies_true]

@[simp] theorem forget_chooseRoot {bl : Block → Bool} (ok : Bool) (corrected : Nat) (attempts : Nat) (worst : Nat) (s : State)
    (h_led : bl .led = true) (h_hatch : bl .hatch = true) (h_sag : bl .sag = true) (h_diag : bl .diag = true) :
    forget bl (chooseRoot ok corrected attempts worst s) = forget bl s := by
  unfold chooseRoot
  simp (disch := assumption) only [forget_setSag, forget_logNow, forget_ite, ite_self]

@[simp] theorem forget_startRcm {bl : Block → Bool} (cause : Nat) (dest : Option Req) (s : State) (h_shu : bl .shu = true) :
    forget bl (startRcm cause dest s) = forget bl s := by
  unfold startRcm
  simp (disch := assumption) only [forget_setShu, forget_ite, ite_self]

@[simp] theorem forget_clearLatches {bl : Block → Bool} (mask : Nat) (edge : Nat) (sender : Nat) (s : State) (h_led : bl .led = true)
    (h_hatch : bl .hatch = true) (h_shu : bl .shu = true) (h_diag : bl .diag = true) :
    forget bl (clearLatches mask edge sender s) = forget bl s := by
  unfold clearLatches
  simp (disch := assumption) only [forget_startRcm, forget_setShu, forget_shuEvent, forget_raise, forget_ite, ite_self]

@[simp] theorem forget_clearSieve {bl : Block → Bool} (s : State) (h_inp : bl .inp = true) (h_sie : bl .sie = true)
    (h_met : bl .met = true) :
    forget bl (clearSieve s) = forget bl s := by
  unfold clearSieve
  simp (disch := assumption) only [forget_setInp, forget_setSie, forget_setMet]

@[simp] theorem forget_ownEpoch {bl : Block → Bool} (e : Nat) (gate : Nat) (l : List Sample) (flush : List Nat) (s : State)
    (h_hng : bl .hng = true) :
    forget bl (ownEpoch e gate l flush s) = forget bl s := by
  unfold ownEpoch
  simp (disch := assumption) only [forget_setHng, forget_ite, ite_self]

@[simp] theorem forget_epochInc {bl : Block → Bool} (e : Nat) (gate : Nat) (l : List Sample) (stop : Nat) (s : State)
    (h_met : bl .met = true) (h_hng : bl .hng = true) :
    forget bl (epochInc e gate l stop s) = forget bl s := by
  unfold epochInc
  simp (disch := assumption) only [forget_accumulate, forget_setMet, forget_ownEpoch]

@[simp] theorem forget_flushDelay {bl : Block → Bool} (s : State) (h_met : bl .met = true) (h_hng : bl .hng = true) :
    forget bl (flushDelay s) = forget bl s := by
  unfold flushDelay
  simp (disch := assumption) only [forget_accumulate, forget_setMet, forget_ownEpoch]

@[simp] theorem forget_overRangeEpoch {bl : Block → Bool} (e : Nat) (l : List Sample) (s : State) (h_inp : bl .inp = true)
    (h_led : bl .led = true) :
    forget bl (overRangeEpoch e l s) = forget bl s := by
  unfold overRangeEpoch
  refine forget_foldl bl _ _ _ fun t k => ?_
  dsimp only
  split
  · simp (disch := assumption) only [forget_setInp]
  · split
    · rfl
    · simp (disch := assumption) only [forget_raise, forget_setInp]

@[simp] theorem forget_closeAccumulation {bl : Block → Bool} (s : State) (h_inp : bl .inp = true) (h_met : bl .met = true)
    (h_led : bl .led = true) (h_hng : bl .hng = true) :
    forget bl (closeAccumulation s) = forget bl s := by
  unfold closeAccumulation
  simp (disch := assumption) only [forget_epochInc, forget_setMet, forget_flushDelay, forget_overRangeEpoch, forget_ite, ite_self]

@[simp] theorem forget_setCon {bl : Block → Bool} (f : Contactless → Contactless) (s : State) (h_con : bl .con = true) :
    forget bl (setCon f s) = forget bl s := by
  unfold setCon
  simp (disch := assumption) only [forget_set_con]

@[simp] theorem forget_logReplay {bl : Block → Bool} (code : Nat) (data : List Byte) (s : State) (h_led : bl .led = true)
    (h_hatch : bl .hatch = true) (h_diag : bl .diag = true) :
    forget bl (logReplay code data s) = forget bl s := by
  unfold logReplay
  simp (disch := assumption) only [forget_logNowF]

@[simp] theorem forget_closeCheck {bl : Block → Bool} (newest : Option JournalEntry) (s : State) (h_led : bl .led = true)
    (h_hatch : bl .hatch = true) (h_con : bl .con = true) (h_diag : bl .diag = true) :
    forget bl (closeCheck newest s) = forget bl s := by
  unfold closeCheck
  (repeat' split) <;> simp (disch := assumption) only [forget_setCon, forget_logReplay, forget_setLed]

@[simp] theorem forget_closeConfig {bl : Block → Bool} (s : State) (h_shu : bl .shu = true) :
    forget bl (closeConfig s) = forget bl s := by
  unfold closeConfig
  (repeat' split) <;> simp (disch := assumption) only [forget_changeLog, forget_setShu]

@[simp] theorem forget_closeFault {bl : Block → Bool} (f : MetFault) (settled : Nat) (s : State) (h_led : bl .led = true) :
    forget bl (closeFault f settled s) = forget bl s := by
  unfold closeFault
  simp (disch := assumption) only [forget_raiseF]

@[simp] theorem forget_skipSubs {bl : Block → Bool} (n : Nat) (s : State) (h_bil : bl .bil = true) :
    forget bl (skipSubs n s) = forget bl s := by
  unfold skipSubs
  simp (disch := assumption) only [forget_setBil]

@[simp] theorem forget_emptyLoad {bl : Block → Bool} (t : Int) (flags : Nat) (n : Nat) (s : State) (h_bil : bl .bil = true) :
    forget bl (emptyLoad t flags n s) = forget bl s := by
  unfold emptyLoad
  simp (disch := assumption) only [forget_setBil]

@[simp] theorem forget_skipLoads {bl : Block → Bool} (g : Int) (grid : Int) (t : Int) (extra : Nat) (s : State)
    (h_bil : bl .bil = true) :
    forget bl (skipLoads g grid t extra s) = forget bl s := by
  unfold skipLoads
  simp only [h_bil, forget_emptyLoad, forget_ite, ite_self, forget_foldl, implies_true]

@[simp] theorem forget_emptyFine {bl : Block → Bool} (t : Int) (flags : Nat) (s : State) (h_bil : bl .bil = true) :
    forget bl (emptyFine t flags s) = forget bl s := by
  unfold emptyFine
  simp (disch := assumption) only [forget_setBil]

@[simp] theorem forget_skipFines {bl : Block → Bool} (g : Int) (t : Int) (extra : Nat) (s : State) (h_bil : bl .bil = true) :
    forget bl (skipFines g t extra s) = forget bl s := by
  unfold skipFines
  simp only [h_bil, forget_emptyFine, forget_ite, ite_self, forget_foldl, implies_true]

@[simp] theorem forget_jumpForward {bl : Block → Bool} (j : Jump) (new : Int) (e : Nat) (s : State) (h_bil : bl .bil = true) :
    forget bl (jumpForward j new e s) = forget bl s := by
  unfold jumpForward
  (repeat' split) <;> simp (disch := assumption) only [forget_setBil, forget_skipSubs, forget_closeLoad, forget_skipLoads,
      forget_closeFine, forget_skipFines, forget_closeSub, forget_ite, ite_self]

@[simp] theorem forget_closeGap {bl : Block → Bool} (close : Bool) (new : Int) (e : Nat) (own : Nat) (s : State)
    (h_led : bl .led = true) (h_bil : bl .bil = true) (h_hatch : bl .hatch = true) (h_con : bl .con = true)
    (h_diag : bl .diag = true) :
    forget bl (closeGap close new e own s) = forget bl s := by
  unfold closeGap
  repeat'
    first
    | (simp (disch := assumption) only [forget_setBil, forget_closeBilling, forget_jumpForward, forget_tariffSwitch]; done)
    | split
    | simp (disch := assumption) only []

@[simp] theorem forget_pqNotify {bl : Block → Bool} (e : PqEvent) (s : State) (h_hatch : bl .hatch = true) (h_diag : bl .diag = true)
    :
    forget bl (pqNotify e s) = forget bl s := by
  unfold pqNotify
  simp (disch := assumption) only [forget_notify]

@[simp] theorem forget_pqWrite {bl : Block → Bool} (e : PqEvent) (s : State) (h_pq : bl .pq = true) :
    forget bl (pqWrite e s) = forget bl s := by
  unfold pqWrite
  simp (disch := assumption) only [forget_set_pq]

@[simp] theorem forget_pqReplace {bl : Block → Bool} (e : PqEvent) (s : State) (h_hatch : bl .hatch = true) (h_pq : bl .pq = true)
    (h_diag : bl .diag = true) :
    forget bl (pqReplace e s) = forget bl s := by
  unfold pqReplace
  simp (disch := assumption) only [forget_pqNotify, forget_pqWrite]

@[simp] theorem forget_setPq {bl : Block → Bool} (f : Pq → Pq) (s : State) (h_pq : bl .pq = true) :
    forget bl (setPq f s) = forget bl s := by
  unfold setPq
  simp (disch := assumption) only [forget_set_pq]

@[simp] theorem forget_closeOutage {bl : Block → Bool} (s : State) (h_clk : bl .clk = true) (h_hatch : bl .hatch = true)
    (h_pq : bl .pq = true) (h_diag : bl .diag = true) :
    forget bl (closeOutage s) = forget bl s := by
  unfold closeOutage
  repeat'
    first
    | (simp (disch := assumption) only [forget_pqReplace, forget_setPq, forget_takeFree]; done)
    | split

@[simp] theorem forget_closePrevious {bl : Block → Bool} (s : State) (h_inp : bl .inp = true) (h_sie : bl .sie = true)
    (h_led : bl .led = true) :
    forget bl (closePrevious s) = forget bl s := by
  unfold closePrevious
  repeat'
    first
    | (simp only [h_inp, h_sie, h_led, forget_setInp, forget_setSie, forget_closeFault, forget_raise, forget_foldl, implies_true];
        done)
    | split
    | simp only [h_inp, h_sie, forget_setInp, forget_setSie]

@[simp] theorem forget_reverseWindow {bl : Block → Bool} (r : SumsRec) (m : Meas) (s : State) (x : Nat) (h_met : bl .met = true) :
    forget bl (reverseWindow r m s x) = forget bl s := by
  unfold reverseWindow
  simp (disch := assumption) only [forget_setMet]

@[simp] theorem forget_neutralWindow {bl : Block → Bool} (r : SumsRec) (m : Meas) (s : State) (h_met : bl .met = true) :
    forget bl (neutralWindow r m s) = forget bl s := by
  unfold neutralWindow
  simp (disch := assumption) only [forget_setMet]

@[simp] theorem forget_condWindow {bl : Block → Bool} (r : SumsRec) (m : Meas) (s : State) (h_met : bl .met = true) :
    forget bl (condWindow r m s) = forget bl s := by
  unfold condWindow
  simp only [h_met, forget_reverseWindow, forget_neutralWindow, forget_foldl, implies_true]

@[simp] theorem forget_mEpoch {bl : Block → Bool} (r : SumsRec) (s : State) (h_clk : bl .clk = true) (h_met : bl .met = true)
    (h_hng : bl .hng = true) :
    forget bl (mEpoch r s) = forget bl s := by
  unfold mEpoch
  simp (disch := assumption) only [forget_condWindow, forget_setMet, forget_setHng, forget_set_clk, forget_ite, ite_self]

@[simp] theorem forget_mComplete {bl : Block → Bool} (e : Nat) (s : State) (h_clk : bl .clk = true) (h_met : bl .met = true)
    (h_hng : bl .hng = true) :
    forget bl (mComplete e s) = forget bl s := by
  unfold mComplete
  simp only [h_clk, h_met, h_hng, forget_mEpoch, forget_foldl, implies_true]

@[simp] theorem forget_processBoundary {bl : Block → Bool} (s : State) (h_led : bl .led = true) (h_bil : bl .bil = true)
    (h_hatch : bl .hatch = true) (h_shu : bl .shu = true) (h_veh : bl .veh = true) (h_con : bl .con = true)
    (h_diag : bl .diag = true) :
    forget bl (processBoundary s) = forget bl s := by
  unfold processBoundary
  repeat'
    first
    | (simp only [h_led, h_bil, h_hatch, h_shu, h_veh, h_con, h_diag, forget_boundaryWork, forget_atEpoch, implies_true]; done)
    | split

@[simp] theorem forget_commandClose {bl : Block → Bool} (c : Option Req × Nat) (s : State) (h_led : bl .led = true)
    (h_bil : bl .bil = true) (h_hatch : bl .hatch = true) (h_con : bl .con = true) (h_mc : bl .mc = true)
    (h_lin : bl .lin = true) (h_diag : bl .diag = true) :
    forget bl (commandClose c s) = forget bl s := by
  unfold commandClose
  simp only [h_led, h_bil, h_hatch, h_con, h_mc, h_lin, h_diag, forget_replyTo, forget_setBil, forget_closeBilling, forget_lsWrite,
      forget_atEpoch, implies_true]

@[simp] theorem forget_doConfig {bl : Block → Bool} (which : Nat) (e : Nat) (t : Int) (s : State) (h_led : bl .led = true)
    (h_bil : bl .bil = true) (h_hatch : bl .hatch = true) (h_diag : bl .diag = true) :
    forget bl (doConfig which e t s) = forget bl s := by
  unfold doConfig
  simp only [h_led, h_bil, h_hatch, h_diag, forget_setBil, forget_closeLoad, forget_lsWrite, forget_closeFine, forget_logNow,
      forget_ite, ite_self, forget_atEpoch, implies_true]

@[simp] theorem forget_stepTariff {bl : Block → Bool} (d : StepDue) (fl : Nat) (s : State) (h_led : bl .led = true)
    (h_bil : bl .bil = true) (h_hatch : bl .hatch = true) (h_con : bl .con = true) (h_diag : bl .diag = true) :
    forget bl (stepTariff d fl s) = forget bl s := by
  unfold stepTariff
  repeat'
    first
    | (simp (disch := assumption) only [forget_setBil, forget_closeBilling, forget_tariffSwitch]; done)
    | split
    | simp (disch := assumption) only []

@[simp] theorem forget_stepIntervals {bl : Block → Bool} (d : StepDue) (fl : Nat) (s : State) (h_bil : bl .bil = true) :
    forget bl (stepIntervals d fl s) = forget bl s := by
  unfold stepIntervals
  simp (disch := assumption) only [forget_setBil, forget_closeLoad, forget_jumpForward, forget_closeFine, forget_closeSub, forget_ite,
      ite_self]

@[simp] theorem forget_markInterrupted {bl : Block → Bool} (s : State) (h_bil : bl .bil = true) :
    forget bl (markInterrupted s) = forget bl s := by
  unfold markInterrupted
  simp (disch := assumption) only [forget_setBil]

@[simp] theorem forget_doStep {bl : Block → Bool} (d : StepDue) (s : State) (h_led : bl .led = true) (h_bil : bl .bil = true)
    (h_hatch : bl .hatch = true) (h_con : bl .con = true) (h_diag : bl .diag = true) :
    forget bl (doStep d s) = forget bl s := by
  unfold doStep
  simp only [h_led, h_bil, h_hatch, h_con, h_diag, forget_lsWrite, forget_stepTariff, forget_stepIntervals, forget_markInterrupted,
      forget_closeGap, forget_ite, ite_self, forget_atEpoch, implies_true]

@[simp] theorem forget_ledgerEpoch {bl : Block → Bool} (e : Nat) (s : State) (h_led : bl .led = true) (h_bil : bl .bil = true)
    (h_hatch : bl .hatch = true) (h_shu : bl .shu = true) (h_veh : bl .veh = true) (h_con : bl .con = true)
    (h_diag : bl .diag = true) :
    forget bl (ledgerEpoch e s) = forget bl s := by
  unfold ledgerEpoch
  repeat'
    first
    | (simp only [h_led, h_bil, h_hatch, h_shu, h_veh, h_con, h_diag, forget_doConfig, forget_setBil, forget_attributeWhole,
        forget_attribGap, forget_doStep, forget_ite, forget_foldl, forget_atEpoch, implies_true]; done)
    | split

@[simp] theorem forget_lStep {bl : Block → Bool} (s : State) (h_led : bl .led = true) (h_bil : bl .bil = true)
    (h_hatch : bl .hatch = true) (h_shu : bl .shu = true) (h_veh : bl .veh = true) (h_con : bl .con = true)
    (h_mc : bl .mc = true) (h_lin : bl .lin = true) (h_diag : bl .diag = true) :
    forget bl (lStep s) = forget bl s := by
  unfold lStep
  (repeat' split) <;> simp (disch := assumption) only [forget_processBoundary, forget_commandClose, forget_ledgerEpoch]

@[simp] theorem forget_lRun {bl : Block → Bool} (e n : Nat) (s : State) (h_led : bl .led = true) (h_bil : bl .bil = true)
    (h_hatch : bl .hatch = true) (h_shu : bl .shu = true) (h_veh : bl .veh = true) (h_con : bl .con = true)
    (h_mc : bl .mc = true) (h_lin : bl .lin = true) (h_diag : bl .diag = true) :
    forget bl (lRun e n s) = forget bl s := by
  induction n generalizing s with
  | zero => rfl
  | succ n ih =>
    unfold lRun
    split
    · rfl
    · exact (ih _).trans (forget_lStep s h_led h_bil h_hatch h_shu h_veh h_con h_mc h_lin h_diag)

@[simp] theorem forget_lComplete {bl : Block → Bool} (e : Nat) (s : State) (h_led : bl .led = true) (h_bil : bl .bil = true)
    (h_hatch : bl .hatch = true) (h_shu : bl .shu = true) (h_veh : bl .veh = true) (h_con : bl .con = true)
    (h_mc : bl .mc = true) (h_lin : bl .lin = true) (h_diag : bl .diag = true) :
    forget bl (lComplete e s) = forget bl s := by
  unfold lComplete
  repeat'
    first
    | (simp only [h_led, h_bil, h_hatch, h_shu, h_veh, h_con, h_mc, h_lin, h_diag, forget_attributeEpoch, forget_lRun, forget_ite,
        forget_atEpoch, implies_true]; done)
    | split
    | simp only [h_led, h_bil, h_hatch, h_shu, h_veh, h_con, h_mc, h_lin, h_diag, forget_lRun, forget_ite]

@[simp] theorem forget_faultAbsent {bl : Block → Bool} (cause : Nat) (slot : Nat) (s : State) (h_inp : bl .inp = true) :
    forget bl (faultAbsent cause slot s) = forget bl s := by
  unfold faultAbsent
  simp (disch := assumption) only [forget_setInp]

@[simp] theorem forget_pqFlush {bl : Block → Bool} (p : Nat → Bool) (s : State) (h_pq : bl .pq = true) :
    forget bl (pqFlush p s) = forget bl s := by
  unfold pqFlush
  simp (disch := assumption) only [forget_set_pq]

@[simp] theorem forget_flushEvents {bl : Block → Bool} (p : Nat → Bool) (s : State) (h_led : bl .led = true)
    (h_hatch : bl .hatch = true) (h_diag : bl .diag = true) :
    forget bl (flushEvents p s) = forget bl s := by
  unfold flushEvents
  simp only [h_led, h_hatch, h_diag, forget_setLed, forget_storeEvent, forget_foldl, implies_true]

@[simp] theorem forget_flushRecords {bl : Block → Bool} (j : JournalEntry) (s : State) (h_led : bl .led = true)
    (h_hatch : bl .hatch = true) (h_pq : bl .pq = true) (h_diag : bl .diag = true) :
    forget bl (flushRecords j s) = forget bl s := by
  unfold flushRecords
  simp (disch := assumption) only [forget_pqFlush, forget_flushEvents]

@[simp] theorem forget_standbyEnd {bl : Block → Bool} (j : JournalEntry) (s : State) (h_met : bl .met = true) (h_led : bl .led = true)
    (h_hatch : bl .hatch = true) (h_pq : bl .pq = true) (h_diag : bl .diag = true) :
    forget bl (standbyEnd j s) = forget bl s := by
  unfold standbyEnd
  simp (disch := assumption) only [forget_flushRecords, forget_setLed, forget_setMet]

@[simp] theorem forget_entryDurable {bl : Block → Bool} (j : JournalEntry) (s : State) (h_inp : bl .inp = true)
    (h_met : bl .met = true) (h_led : bl .led = true) (h_hatch : bl .hatch = true) (h_pq : bl .pq = true)
    (h_diag : bl .diag = true) :
    forget bl (entryDurable j s) = forget bl s := by
  unfold entryDurable
  simp (disch := assumption) only [forget_faultAbsent, forget_flushRecords, forget_setLed, forget_setMet, forget_standbyEnd, forget_ite,
      ite_self]

@[simp] theorem forget_kilnFinalEntry {bl : Block → Bool} (s : State) (h_inp : bl .inp = true) (h_met : bl .met = true)
    (h_led : bl .led = true) (h_hatch : bl .hatch = true) (h_pq : bl .pq = true) (h_diag : bl .diag = true) :
    forget bl (kilnFinalEntry s) = forget bl s := by
  unfold kilnFinalEntry
  simp (disch := assumption) only [forget_setLed, forget_entryDurable]

@[simp] theorem forget_kilnCloses {bl : Block → Bool} (s : State) (h_clk : bl .clk = true) (h_inp : bl .inp = true)
    (h_met : bl .met = true) (h_led : bl .led = true) (h_bil : bl .bil = true) (h_hatch : bl .hatch = true)
    (h_shu : bl .shu = true) (h_pq : bl .pq = true) (h_veh : bl .veh = true) (h_con : bl .con = true) (h_mc : bl .mc = true)
    (h_lin : bl .lin = true) (h_hng : bl .hng = true) (h_diag : bl .diag = true) :
    forget bl (kilnCloses s) = forget bl s := by
  unfold kilnCloses
  simp (disch := assumption) only [forget_mComplete, forget_lsWrite, forget_lComplete, forget_kilnFinalEntry, forget_ite, ite_self]

@[simp] theorem forget_takeGroups {bl : Block → Bool} (s : State) (h_snap : bl .snap = true) :
    forget bl (takeGroups s) = forget bl s := by
  unfold takeGroups
  simp (disch := assumption) only [forget_set_snap]

@[simp] theorem forget_publish {bl : Block → Bool} (j : JournalEntry) (c : Captured) (s : State) (h_led : bl .led = true)
    (h_snap : bl .snap = true) :
    forget bl (publish j c s) = forget bl s := by
  unfold publish
  simp (disch := assumption) only [forget_setLed, forget_set_snap]

@[simp] theorem forget_hngEvent {bl : Block → Bool} (event : Nat) (cause : Nat) (s : State) (h_hatch : bl .hatch = true)
    (h_diag : bl .diag = true) :
    forget bl (hngEvent event cause s) = forget bl s := by
  unfold hngEvent
  simp (disch := assumption) only [forget_notify]

@[simp] theorem forget_setSynced {bl : Block → Bool} (v : Bool) (s : State) (h_hatch : bl .hatch = true) (h_hng : bl .hng = true)
    (h_diag : bl .diag = true) :
    forget bl (setSynced v s) = forget bl s := by
  unfold setSynced
  simp (disch := assumption) only [forget_hngEvent, forget_setHng, forget_ite, ite_self]

@[simp] theorem forget_replicate {bl : Block → Bool} (j : JournalEntry) (s : State) (h_hatch : bl .hatch = true)
    (h_hng : bl .hng = true) (h_diag : bl .diag = true) :
    forget bl (replicate j s) = forget bl s := by
  unfold replicate
  simp (disch := assumption) only [forget_setSynced, forget_setHng, forget_ite, ite_self]

@[simp] theorem forget_commitDurable {bl : Block → Bool} (j : JournalEntry) (c : Captured) (s : State) (h_inp : bl .inp = true)
    (h_met : bl .met = true) (h_led : bl .led = true) (h_hatch : bl .hatch = true) (h_snap : bl .snap = true)
    (h_pq : bl .pq = true) (h_hng : bl .hng = true) (h_diag : bl .diag = true) :
    forget bl (commitDurable j c s) = forget bl s := by
  unfold commitDurable
  simp (disch := assumption) only [forget_setLed, forget_publish, forget_replicate, forget_dueCkpt, forget_entryDurable, forget_ite,
      ite_self]

@[simp] theorem forget_finalEntry {bl : Block → Bool} (kind : Nat) (s : State) (h_inp : bl .inp = true) (h_met : bl .met = true)
    (h_led : bl .led = true) (h_hatch : bl .hatch = true) (h_snap : bl .snap = true) (h_pq : bl .pq = true)
    (h_hng : bl .hng = true) (h_diag : bl .diag = true) :
    forget bl (finalEntry kind s) = forget bl s := by
  unfold finalEntry
  simp (disch := assumption) only [forget_setLed, forget_closeAccumulation, forget_takeGroups, forget_entryDurable,
      forget_commitDurable, forget_ite, ite_self]

@[simp] theorem forget_closeRun {bl : Block → Bool} (s : State) (h_clk : bl .clk = true) (h_inp : bl .inp = true)
    (h_met : bl .met = true) (h_led : bl .led = true) (h_bil : bl .bil = true) (h_hatch : bl .hatch = true)
    (h_shu : bl .shu = true) (h_snap : bl .snap = true) (h_pq : bl .pq = true) (h_veh : bl .veh = true)
    (h_con : bl .con = true) (h_mc : bl .mc = true) (h_lin : bl .lin = true) (h_hng : bl .hng = true)
    (h_diag : bl .diag = true) :
    forget bl (closeRun s) = forget bl s := by
  unfold closeRun
  simp (disch := assumption) only [forget_kilnCloses, forget_finalEntry, forget_ite, ite_self]

@[simp] theorem forget_closeSession {bl : Block → Bool} (endCause : Nat) (e : Nat) (s : State) (h_led : bl .led = true)
    (h_bil : bl .bil = true) (h_hatch : bl .hatch = true) (h_con : bl .con = true) (h_diag : bl .diag = true) :
    forget bl (closeSession endCause e s) = forget bl s := by
  unfold closeSession
  (repeat' split) <;> simp (disch := assumption) only [forget_setBil, forget_formReading, forget_lsWrite, forget_disconnectEvent,
      forget_creditRestore, forget_wantSummary, forget_ite, ite_self]

@[simp] theorem forget_pqAdd {bl : Block → Bool} (e : PqEvent) (s : State) (h_hatch : bl .hatch = true) (h_pq : bl .pq = true)
    (h_diag : bl .diag = true) :
    forget bl (pqAdd e s) = forget bl s := by
  unfold pqAdd
  simp (disch := assumption) only [forget_pqNotify, forget_pqWrite, forget_set_pq]

@[simp] theorem forget_endRvc {bl : Block → Bool} (o : PqRvc) (a : Nat) (dss : Option Nat) (flags : Nat) (s : State)
    (h_clk : bl .clk = true) (h_hatch : bl .hatch = true) (h_pq : bl .pq = true) (h_diag : bl .diag = true) : forget bl
        (endRvc o a dss flags s) = forget bl s := by
  unfold endRvc
  cases dss <;> simp (disch := assumption) only [forget_pqAdd, forget_set_pq, forget_takeFree]

@[simp] theorem forget_pqEndOthers {bl : Block → Bool} (a : Nat) (flags : Nat) (s : State) (h_clk : bl .clk = true)
    (h_hatch : bl .hatch = true) (h_pq : bl .pq = true) (h_diag : bl .diag = true) :
    forget bl (pqEndOthers a flags s) = forget bl s := by
  unfold pqEndOthers
  repeat'
    first
    | (simp (disch := assumption) only [forget_pqReplace, forget_endRvc, forget_set_pq]; done)
    | split
    | simp (disch := assumption) only [forget_set_pq]

@[simp] theorem forget_pqDisarm {bl : Block → Bool} (s : State) (h_clk : bl .clk = true) (h_hatch : bl .hatch = true)
    (h_pq : bl .pq = true) (h_diag : bl .diag = true) :
    forget bl (pqDisarm s) = forget bl s := by
  unfold pqDisarm
  repeat'
    first
    | (simp (disch := assumption) only [forget_pqReplace, forget_pqEndOthers, forget_set_pq, forget_ite]; done)
    | split
    | simp (disch := assumption) only [forget_set_pq]

@[simp] theorem forget_coilsOff {bl : Block → Bool} (chan : Nat) (s : State) (h_clk : bl .clk = true) (h_hatch : bl .hatch = true)
    (h_shu : bl .shu = true) (h_pq : bl .pq = true) (h_nl : bl .nl = true) (h_diag : bl .diag = true) :
    forget bl (coilsOff chan s) = forget bl s := by
  unfold coilsOff
  simp (disch := assumption) only [forget_pqDisarm, forget_set_shu_nl, forget_ite, ite_self]

@[simp] theorem forget_d2Clear {bl : Block → Bool} (s : State) (h_clk : bl .clk = true) (h_dom : bl .dom = true)
    (h_inp : bl .inp = true) (h_sie : bl .sie = true) (h_met : bl .met = true) (h_cal : bl .cal = true)
    (h_led : bl .led = true) (h_pq : bl .pq = true) (h_hng : bl .hng = true) :
    forget bl (d2Clear s) = forget bl s := by
  unfold d2Clear
  simp (disch := assumption) only [forget_sets_9_clk]

@[simp] theorem forget_loseFreeze {bl : Block → Bool} (s : State) (h_diag : bl .diag = true) :
    forget bl (loseFreeze s) = forget bl s := by
  unfold loseFreeze
  simp (disch := assumption) only [forget_set_diag]

@[simp] theorem forget_dropRequests {bl : Block → Bool} (s : State) (h_inp : bl .inp = true) (h_cal : bl .cal = true)
    (h_led : bl .led = true) (h_bil : bl .bil = true) (h_shu : bl .shu = true) :
    forget bl (dropRequests s) = forget bl s := by
  unfold dropRequests
  simp (disch := assumption) only [forget_setCal, forget_setInp, forget_setShu, forget_setLed, forget_set_bil]

@[simp] theorem forget_wedgeZeroNext {bl : Block → Bool} (s : State) (h_kiln : bl .kiln = true) :
    forget bl (wedgeZeroNext s) = forget bl s := by
  unfold wedgeZeroNext
  simp (disch := assumption) only [forget_setKiln]

@[simp] theorem forget_d3Clear {bl : Block → Bool} (s : State) (h_mode : bl .mode = true) (h_inp : bl .inp = true)
    (h_cal : bl .cal = true) (h_led : bl .led = true) (h_bil : bl .bil = true) (h_hatch : bl .hatch = true)
    (h_shu : bl .shu = true) (h_sag : bl .sag = true) (h_kiln : bl .kiln = true) (h_dma : bl .dma = true)
    (h_veh : bl .veh = true) (h_con : bl .con = true) (h_disp : bl .disp = true) (h_mc : bl .mc = true)
    (h_lin : bl .lin = true) (h_upd : bl .upd = true) (h_adc : bl .adc = true) (h_nl : bl .nl = true)
    (h_diag : bl .diag = true) (h_rs : bl .rs = true) :
    forget bl (d3Clear s) = forget bl s := by
  unfold d3Clear
  simp (disch := assumption) only [forget_loseFreeze, forget_closeConfig, forget_setDiag, forget_dropRequests, forget_wedgeZeroNext,
      forget_sets_14_mode]

@[simp] theorem forget_coldClear {bl : Block → Bool} (s : State) (h_clk : bl .clk = true) (h_dom : bl .dom = true)
    (h_mode : bl .mode = true) (h_hold : bl .hold = true) (h_recl : bl .recl = true) (h_inp : bl .inp = true)
    (h_sie : bl .sie = true) (h_met : bl .met = true) (h_cal : bl .cal = true) (h_led : bl .led = true)
    (h_bil : bl .bil = true) (h_hatch : bl .hatch = true) (h_shu : bl .shu = true) (h_sag : bl .sag = true)
    (h_snap : bl .snap = true) (h_pq : bl .pq = true) (h_kiln : bl .kiln = true) (h_dma : bl .dma = true)
    (h_veh : bl .veh = true) (h_lsw : bl .lsw = true) (h_con : bl .con = true) (h_disp : bl .disp = true)
    (h_mc : bl .mc = true) (h_lin : bl .lin = true) (h_hng : bl .hng = true) (h_upd : bl .upd = true)
    (h_adc : bl .adc = true) (h_nl : bl .nl = true) (h_diag : bl .diag = true) (h_rs : bl .rs = true) :
    forget bl (coldClear s) = forget bl s := by
  unfold coldClear
  simp (disch := assumption) only [forget_d2Clear, forget_d3Clear, forget_sets_16_mode]

@[simp] theorem forget_writeRecord {bl : Block → Bool} (f : ActRecord → ActRecord) (s : State) (h_upd : bl .upd = true) :
    forget bl (writeRecord f s) = forget bl s := by
  unfold writeRecord
  simp (disch := assumption) only [forget_setUpd]

@[simp] theorem forget_commitActivation {bl : Block → Bool} (pair : Nat) (s : State) (h_upd : bl .upd = true) :
    forget bl (commitActivation pair s) = forget bl s := by
  unfold commitActivation
  simp (disch := assumption) only [forget_setUpd, forget_writeRecord]

@[simp] theorem forget_consume {bl : Block → Bool} (k : Nat) (s : State) (h_sag : bl .sag = true) :
    forget bl (consume k s) = forget bl s := by
  unfold consume
  simp (disch := assumption) only [forget_setSag]

@[simp] theorem forget_signReading {bl : Block → Bool} (p : Reading) (s : State) (h_sag : bl .sag = true) :
    forget bl (signReading p s).2 = forget bl s := by
  unfold signReading
  simp (disch := assumption) only [forget_consume]

@[simp] theorem forget_completeReading {bl : Block → Bool} (p : Reading) (s : State) (h_led : bl .led = true) (h_bil : bl .bil = true)
    (h_hatch : bl .hatch = true) (h_sag : bl .sag = true) (h_con : bl .con = true) (h_mc : bl .mc = true)
    (h_lin : bl .lin = true) (h_diag : bl .diag = true) :
    forget bl (completeReading p s) = forget bl s := by
  have h_sign := forget_signReading (bl := bl) p s h_sag
  unfold completeReading
  generalize signReading p s = x at h_sign
  obtain ⟨q, t⟩ := x
  dsimp only at h_sign ⊢
  rw [← h_sign, forget_replyTo _ _ _ _ _ h_hatch h_con h_mc h_lin h_diag]
  split
  · simp (disch := assumption) only [forget_setLed]
  · split <;> simp (disch := assumption) only [forget_notify, forget_set_bil, forget_setLed]

@[simp] theorem forget_updEvent {bl : Block → Bool} (event : Nat) (id : Nat) (s : State) (h_hatch : bl .hatch = true)
    (h_diag : bl .diag = true) :
    forget bl (updEvent event id s) = forget bl s := by
  unfold updEvent
  simp (disch := assumption) only [forget_notify]

@[simp] theorem forget_setMode {bl : Block → Bool} (f : ModeState → ModeState) (s : State) (h_mode : bl .mode = true) :
    forget bl (setMode f s) = forget bl s := by
  unfold setMode
  simp (disch := assumption) only [forget_set_mode]

@[simp] theorem forget_lrChanged {bl : Block → Bool} (s : State) (h_led : bl .led = true) (h_hatch : bl .hatch = true)
    (h_diag : bl .diag = true) :
    forget bl (lrChanged s) = forget bl s := by
  unfold lrChanged
  (repeat' split) <;> simp (disch := assumption) only [forget_logNow, forget_ite, ite_self]

@[simp] theorem forget_confirmTrial {bl : Block → Bool} (s : State) (h_mode : bl .mode = true) (h_led : bl .led = true)
    (h_hatch : bl .hatch = true) (h_upd : bl .upd = true) (h_diag : bl .diag = true) :
    forget bl (confirmTrial s) = forget bl s := by
  unfold confirmTrial
  simp (disch := assumption) only [forget_updEvent, forget_setMode, forget_setUpd, forget_writeRecord, forget_lrChanged, forget_logNow]

@[simp] theorem forget_conflictCheck {bl : Block → Bool} (link : Nat) (h : HelloBlock) (s : State) (h_hatch : bl .hatch = true)
    (h_mc : bl .mc = true) (h_lin : bl .lin = true) (h_diag : bl .diag = true) :
    forget bl (conflictCheck link h s) = forget bl s := by
  unfold conflictCheck
  simp (disch := assumption) only [forget_setLin, forget_linEvent, forget_sendRoute, forget_ite, ite_self]

@[simp] theorem forget_continueLedger {bl : Block → Bool} (s : State) (h_clk : bl .clk = true) (h_met : bl .met = true)
    (h_led : bl .led = true) (h_bil : bl .bil = true) :
    forget bl (continueLedger s) = forget bl s := by
  unfold continueLedger
  simp (disch := assumption) only [forget_setBil, forget_setLed, forget_takeFree, forget_setMet]

@[simp] theorem forget_lswEvent {bl : Block → Bool} (event : Nat) (n : Nat) (s : State) (h_hatch : bl .hatch = true)
    (h_diag : bl .diag = true) :
    forget bl (lswEvent event n s) = forget bl s := by
  unfold lswEvent
  simp (disch := assumption) only [forget_notify]

@[simp] theorem forget_setOut {bl : Block → Bool} (n : Nat) (f : LswChan → LswChan) (s : State) (h_lsw : bl .lsw = true) :
    forget bl (setOut n f s) = forget bl s := by
  unfold setOut
  simp (disch := assumption) only [forget_setLsw]

@[simp] theorem forget_restart {bl : Block → Bool} (n : Nat) (s : State) (h_hatch : bl .hatch = true) (h_lsw : bl .lsw = true)
    (h_diag : bl .diag = true) :
    forget bl (restart n s) = forget bl s := by
  unfold restart
  simp (disch := assumption) only [forget_lswEvent, forget_setOut, forget_ite, ite_self]

@[simp] theorem forget_control {bl : Block → Bool} (action : Nat) (ms : Nat) (n : Nat) (s : State) (h_hatch : bl .hatch = true)
    (h_lsw : bl .lsw = true) (h_diag : bl .diag = true) :
    forget bl (Machine.control action ms n s) = forget bl s := by
  unfold Machine.control
  (repeat' split) <;> simp (disch := assumption) only [forget_restart, forget_setOut, forget_ite, ite_self]

@[simp] theorem forget_countInvalid {bl : Block → Bool} (e : Nat) (s : State) (h_inp : bl .inp = true) :
    forget bl (countInvalid e s) = forget bl s := by
  unfold countInvalid
  simp (disch := assumption) only [forget_setInp]

@[simp] theorem forget_tamperEnd {bl : Block → Bool} (src : Nat) (s : State) (h_hatch : bl .hatch = true) (h_sag : bl .sag = true)
    (h_diag : bl .diag = true) :
    forget bl (tamperEnd src s) = forget bl s := by
  unfold tamperEnd
  simp (disch := assumption) only [forget_sagEvent, forget_set_sag]

@[simp] theorem forget_tamperOff {bl : Block → Bool} (src : Nat) (s : State) (h_led : bl .led = true) (h_hatch : bl .hatch = true)
    (h_sag : bl .sag = true) (h_diag : bl .diag = true) :
    forget bl (tamperOff src s) = forget bl s := by
  unfold tamperOff
  simp (disch := assumption) only [forget_logNowF, forget_tamperEnd]

@[simp] theorem forget_endSessionOpen {bl : Block → Bool} (s : State) (h_clk : bl .clk = true) (h_veh : bl .veh = true) :
    forget bl (endSessionOpen s) = forget bl s := by
  unfold endSessionOpen
  simp (disch := assumption) only [forget_takeFree, forget_endSession, forget_ite, ite_self]

@[simp] theorem forget_tamperBegin {bl : Block → Bool} (src : Nat) (s : State) (h_clk : bl .clk = true) (h_hatch : bl .hatch = true)
    (h_shu : bl .shu = true) (h_sag : bl .sag = true) (h_veh : bl .veh = true) (h_diag : bl .diag = true) :
    forget bl (tamperBegin src s) = forget bl s := by
  unfold tamperBegin
  simp (disch := assumption) only [forget_sagEvent, forget_askShutter, forget_endSessionOpen, forget_set_sag, forget_ite, ite_self]

@[simp] theorem forget_tamperOn {bl : Block → Bool} (src : Nat) (s : State) (h_clk : bl .clk = true) (h_led : bl .led = true)
    (h_hatch : bl .hatch = true) (h_shu : bl .shu = true) (h_sag : bl .sag = true) (h_veh : bl .veh = true)
    (h_diag : bl .diag = true) :
    forget bl (tamperOn src s) = forget bl s := by
  unfold tamperOn
  simp (disch := assumption) only [forget_tamperBegin, forget_logNow]

@[simp] theorem forget_coverFollow {bl : Block → Bool} (s : State) (h_clk : bl .clk = true) (h_led : bl .led = true)
    (h_hatch : bl .hatch = true) (h_shu : bl .shu = true) (h_sag : bl .sag = true) (h_veh : bl .veh = true)
    (h_diag : bl .diag = true) :
    forget bl (coverFollow s) = forget bl s := by
  unfold coverFollow
  simp (disch := assumption) only [forget_tamperOff, forget_tamperOn, forget_ite, ite_self]

@[simp] theorem forget_cutSeg {bl : Block → Bool} (a : Nat) (s : State) (h_pq : bl .pq = true) :
    forget bl (cutSeg a s) = forget bl s := by
  unfold cutSeg
  simp (disch := assumption) only [forget_setPq]

@[simp] theorem forget_setDisp {bl : Block → Bool} (f : Display → Display) (s : State) (h_disp : bl .disp = true) :
    forget bl (setDisp f s) = forget bl s := by
  unfold setDisp
  simp (disch := assumption) only [forget_set_disp]

@[simp] theorem forget_cutStress {bl : Block → Bool} (d : Drive) (n : Nat) (s : State) (h_disp : bl .disp = true) :
    forget bl (cutStress d n s) = forget bl s := by
  unfold cutStress
  simp (disch := assumption) only [forget_setDisp, forget_ite, ite_self]

@[simp] theorem forget_discrepWatch {bl : Block → Bool} (s : State) (h_shu : bl .shu = true) :
    forget bl (discrepWatch s) = forget bl s := by
  unfold discrepWatch
  simp (disch := assumption) only [forget_setShu]

@[simp] theorem forget_cycleInputs {bl : Block → Bool} (i : CycleIn) (s : State) (h_shu : bl .shu = true) (h_pq : bl .pq = true) :
    forget bl (cycleInputs i s) = forget bl s := by
  unfold cycleInputs
  simp (disch := assumption) only [forget_setPq, forget_setShu, forget_discrepWatch, forget_ite, ite_self]

@[simp] theorem forget_trialFault {bl : Block → Bool} (s : State) (h_upd : bl .upd = true) :
    forget bl (trialFault s) = forget bl s := by
  unfold trialFault
  simp (disch := assumption) only [forget_set_upd]

@[simp] theorem forget_setLatch {bl : Block → Bool} (mask : Nat) (s : State) (h_hatch : bl .hatch = true) (h_shu : bl .shu = true)
    (h_hng : bl .hng = true) (h_upd : bl .upd = true) (h_diag : bl .diag = true) :
    forget bl (setLatch mask s) = forget bl s := by
  unfold setLatch
  simp (disch := assumption) only [forget_refuseWaiting, forget_setShu, forget_trialFault, forget_setSynced, forget_ite, ite_self]

@[simp] theorem forget_logStop {bl : Block → Bool} (p : OrderlyStop) (big : Nat) (s : State) (h_recl : bl .recl = true)
    (h_led : bl .led = true) (h_hatch : bl .hatch = true) (h_diag : bl .diag = true) :
    forget bl (logStop p big s) = forget bl s := by
  unfold logStop
  simp (disch := assumption) only [forget_shuEvent, forget_raise, forget_set_recl, forget_ite, ite_self]

@[simp] theorem forget_yieldRole {bl : Block → Bool} (s : State) (h_hng : bl .hng = true) :
    forget bl (yieldRole s) = forget bl s := by
  unfold yieldRole
  simp (disch := assumption) only [forget_setHng, forget_ite, ite_self]

@[simp] theorem forget_trip {bl : Block → Bool} (mask : Nat) (chan : Nat) (value : Int) (s : State) (h_clk : bl .clk = true)
    (h_recl : bl .recl = true) (h_led : bl .led = true) (h_hatch : bl .hatch = true) (h_shu : bl .shu = true)
    (h_pq : bl .pq = true) (h_veh : bl .veh = true) (h_hng : bl .hng = true) (h_upd : bl .upd = true) (h_nl : bl .nl = true)
    (h_diag : bl .diag = true) :
    forget bl (trip mask chan value s) = forget bl s := by
  unfold trip
  repeat'
    first
    | (simp (disch := assumption) only [forget_setShu, forget_coilsOff, forget_endSession, forget_setLatch, forget_logStop,
        forget_shuEvent, forget_stopPwm, forget_raise, forget_yieldRole, forget_ite, ite_self]; done)
    | split
    | simp (disch := assumption) only [forget_ite]

@[simp] theorem forget_tripPlain {bl : Block → Bool} (mask : Nat) (chan : Nat) (s : State) (h_clk : bl .clk = true)
    (h_recl : bl .recl = true) (h_led : bl .led = true) (h_hatch : bl .hatch = true) (h_shu : bl .shu = true)
    (h_pq : bl .pq = true) (h_veh : bl .veh = true) (h_hng : bl .hng = true) (h_upd : bl .upd = true) (h_nl : bl .nl = true)
    (h_diag : bl .diag = true) :
    forget bl (tripPlain mask chan s) = forget bl s := by
  unfold tripPlain
  simp (disch := assumption) only [forget_takeFree, forget_trip]

@[simp] theorem forget_cycleTrips {bl : Block → Bool} (i : CycleIn) (s : State) (h_clk : bl .clk = true) (h_recl : bl .recl = true)
    (h_led : bl .led = true) (h_hatch : bl .hatch = true) (h_shu : bl .shu = true) (h_pq : bl .pq = true)
    (h_veh : bl .veh = true) (h_hng : bl .hng = true) (h_upd : bl .upd = true) (h_nl : bl .nl = true)
    (h_diag : bl .diag = true) :
    forget bl (cycleTrips i s) = forget bl s := by
  unfold cycleTrips
  repeat'
    first
    | (simp (disch := assumption) only [forget_tripPlain, forget_trip, forget_ite]; done)
    | split
    | simp (disch := assumption) only [forget_ite]

@[simp] theorem forget_restartAll {bl : Block → Bool} (cause : Nat) (s : State) (h_clk : bl .clk = true) (h_pwr : bl .pwr = true)
    (h_dom : bl .dom = true) (h_mode : bl .mode = true) (h_hold : bl .hold = true) (h_recl : bl .recl = true)
    (h_inp : bl .inp = true) (h_sie : bl .sie = true) (h_met : bl .met = true) (h_cal : bl .cal = true)
    (h_led : bl .led = true) (h_bil : bl .bil = true) (h_hatch : bl .hatch = true) (h_shu : bl .shu = true)
    (h_sag : bl .sag = true) (h_snap : bl .snap = true) (h_pq : bl .pq = true) (h_kiln : bl .kiln = true)
    (h_dma : bl .dma = true) (h_veh : bl .veh = true) (h_lsw : bl .lsw = true) (h_con : bl .con = true)
    (h_disp : bl .disp = true) (h_mc : bl .mc = true) (h_lin : bl .lin = true) (h_hng : bl .hng = true)
    (h_upd : bl .upd = true) (h_adc : bl .adc = true) (h_nl : bl .nl = true) (h_diag : bl .diag = true)
    (h_rs : bl .rs = true) :
    forget bl (restartAll cause s) = forget bl s := by
  unfold restartAll
  simp (disch := assumption) only [forget_coldClear, forget_set_pwr_dom_mode]

@[simp] theorem forget_moduleRestart {bl : Block → Bool} (cause : Nat) (s : State) (h_clk : bl .clk = true) (h_pwr : bl .pwr = true)
    (h_dom : bl .dom = true) (h_mode : bl .mode = true) (h_hold : bl .hold = true) (h_recl : bl .recl = true)
    (h_inp : bl .inp = true) (h_sie : bl .sie = true) (h_met : bl .met = true) (h_cal : bl .cal = true)
    (h_led : bl .led = true) (h_bil : bl .bil = true) (h_hatch : bl .hatch = true) (h_shu : bl .shu = true)
    (h_sag : bl .sag = true) (h_snap : bl .snap = true) (h_pq : bl .pq = true) (h_kiln : bl .kiln = true)
    (h_dma : bl .dma = true) (h_veh : bl .veh = true) (h_lsw : bl .lsw = true) (h_con : bl .con = true)
    (h_disp : bl .disp = true) (h_mc : bl .mc = true) (h_lin : bl .lin = true) (h_hng : bl .hng = true)
    (h_upd : bl .upd = true) (h_adc : bl .adc = true) (h_nl : bl .nl = true) (h_diag : bl .diag = true)
    (h_rs : bl .rs = true) :
    forget bl (moduleRestart cause s) = forget bl s := by
  unfold moduleRestart
  simp (disch := assumption) only [forget_closeRun, forget_restartAll]

@[simp] theorem forget_loadParts {bl : Block → Bool} (s : State) (h_sie : bl .sie = true) (h_disp : bl .disp = true) :
    forget bl (loadParts s) = forget bl s := by
  unfold loadParts
  (repeat' split) <;> simp (disch := assumption) only [forget_set_sie_disp]

@[simp] theorem forget_rollback {bl : Block → Bool} (cause : Nat) (s : State) (h_clk : bl .clk = true) (h_pwr : bl .pwr = true)
    (h_dom : bl .dom = true) (h_mode : bl .mode = true) (h_hold : bl .hold = true) (h_recl : bl .recl = true)
    (h_inp : bl .inp = true) (h_sie : bl .sie = true) (h_met : bl .met = true) (h_cal : bl .cal = true)
    (h_led : bl .led = true) (h_bil : bl .bil = true) (h_hatch : bl .hatch = true) (h_shu : bl .shu = true)
    (h_sag : bl .sag = true) (h_snap : bl .snap = true) (h_pq : bl .pq = true) (h_kiln : bl .kiln = true)
    (h_dma : bl .dma = true) (h_veh : bl .veh = true) (h_lsw : bl .lsw = true) (h_con : bl .con = true)
    (h_disp : bl .disp = true) (h_mc : bl .mc = true) (h_lin : bl .lin = true) (h_hng : bl .hng = true)
    (h_upd : bl .upd = true) (h_adc : bl .adc = true) (h_nl : bl .nl = true) (h_diag : bl .diag = true)
    (h_rs : bl .rs = true) :
    forget bl (rollback cause s) = forget bl s := by
  unfold rollback
  simp (disch := assumption) only [forget_ite, forget_moduleRestart, forget_loadParts, forget_writeRecord, forget_setUpd, ite_self]

@[simp] theorem forget_yieldForReset {bl : Block → Bool} (s : State) (h_hng : bl .hng = true) :
    forget bl (yieldForReset s) = forget bl s := by
  unfold yieldForReset
  simp (disch := assumption) only [forget_setHng, forget_yieldRole, forget_ite, ite_self]

@[simp] theorem forget_startReclaim {bl : Block → Bool} (s : State) (h_recl : bl .recl = true) :
    forget bl (startReclaim s) = forget bl s := by
  unfold startReclaim
  simp (disch := assumption) only [forget_set_recl, forget_ite, ite_self]

@[simp] theorem forget_setDom {bl : Block → Bool} (f : Domains → Domains) (s : State) (h_dom : bl .dom = true) :
    forget bl (setDom f s) = forget bl s := by
  unfold setDom
  simp (disch := assumption) only [forget_set_dom]

@[simp] theorem forget_d3Reset {bl : Block → Bool} (cause : Nat) (s : State) (h_clk : bl .clk = true) (h_pwr : bl .pwr = true)
    (h_dom : bl .dom = true) (h_mode : bl .mode = true) (h_hold : bl .hold = true) (h_recl : bl .recl = true)
    (h_inp : bl .inp = true) (h_sie : bl .sie = true) (h_met : bl .met = true) (h_cal : bl .cal = true)
    (h_led : bl .led = true) (h_bil : bl .bil = true) (h_hatch : bl .hatch = true) (h_shu : bl .shu = true)
    (h_sag : bl .sag = true) (h_snap : bl .snap = true) (h_pq : bl .pq = true) (h_kiln : bl .kiln = true)
    (h_dma : bl .dma = true) (h_veh : bl .veh = true) (h_lsw : bl .lsw = true) (h_con : bl .con = true)
    (h_disp : bl .disp = true) (h_mc : bl .mc = true) (h_lin : bl .lin = true) (h_hng : bl .hng = true)
    (h_upd : bl .upd = true) (h_adc : bl .adc = true) (h_nl : bl .nl = true) (h_diag : bl .diag = true)
    (h_rs : bl .rs = true) :
    forget bl (d3Reset cause s) = forget bl s := by
  unfold d3Reset
  simp (disch := assumption) only [forget_rollback, forget_yieldForReset, forget_d3Clear, forget_startReclaim, forget_setHold,
      forget_setDom, forget_ite, ite_self]

@[simp] theorem forget_dcFail {bl : Block → Bool} (s : State) (h_hatch : bl .hatch = true) (h_shu : bl .shu = true)
    (h_veh : bl .veh = true) (h_diag : bl .diag = true) :
    forget bl (dcFail s) = forget bl s := by
  unfold dcFail
  simp (disch := assumption) only [forget_setVeh, forget_askShutter, forget_endSession]

@[simp] theorem forget_deenergise {bl : Block → Bool} (s : State) (h_clk : bl .clk = true) (h_hatch : bl .hatch = true)
    (h_shu : bl .shu = true) (h_pq : bl .pq = true) (h_nl : bl .nl = true) (h_diag : bl .diag = true) :
    forget bl (deenergise s) = forget bl s := by
  unfold deenergise
  simp (disch := assumption) only [forget_coilsOff, forget_ite, ite_self]

@[simp] theorem forget_degrade {bl : Block → Bool} (s : State) (h_clk : bl .clk = true) (h_hatch : bl .hatch = true)
    (h_shu : bl .shu = true) (h_veh : bl .veh = true) (h_diag : bl .diag = true) :
    forget bl (degrade s) = forget bl s := by
  unfold degrade
  simp (disch := assumption) only [forget_stopBegun, forget_askShutter, forget_endSessionOpen, forget_ite, ite_self]

@[simp] theorem forget_setAdc {bl : Block → Bool} (f : AuxAdc → AuxAdc) (s : State) (h_adc : bl .adc = true) :
    forget bl (setAdc f s) = forget bl s := by
  unfold setAdc
  simp (disch := assumption) only [forget_set_adc]

@[simp] theorem forget_takeConvert {bl : Block → Bool} (c : Conversion) (w : Nat) (s : State) (h_hatch : bl .hatch = true)
    (h_con : bl .con = true) (h_mc : bl .mc = true) (h_lin : bl .lin = true) (h_adc : bl .adc = true)
    (h_diag : bl .diag = true) :
    forget bl (takeConvert c w s) = forget bl s := by
  unfold takeConvert
  (repeat' split) <;> simp (disch := assumption) only [forget_replyTo, forget_setAdc, forget_ite, ite_self]

@[simp] theorem forget_trigNext {bl : Block → Bool} (c : Conversion) (w : Nat) (s : State) (h_adc : bl .adc = true) :
    forget bl (trigNext c w s) = forget bl s := by
  unfold trigNext
  repeat'
    first
    | (simp (disch := assumption) only [forget_setAdc]; done)
    | split
    | simp (disch := assumption) only []

@[simp] theorem forget_timeRules {bl : Block → Bool} (ch : Nat) (code : Nat) (ovr : Bool) (s : State) (h_nl : bl .nl = true) :
    forget bl (timeRules ch code ovr s) = forget bl s := by
  unfold timeRules
  simp (disch := assumption) only [forget_setNl]

@[simp] theorem forget_judgeVref {bl : Block → Bool} (inBand : Bool) (s : State) (h_hatch : bl .hatch = true) (h_adc : bl .adc = true)
    (h_diag : bl .diag = true) :
    forget bl (judgeVref inBand s) = forget bl s := by
  unfold judgeVref
  simp (disch := assumption) only [forget_diagTrigger, forget_setAdc, forget_ite, ite_self]

@[simp] theorem forget_takeCp {bl : Block → Bool} (use : AdcUse) (mV : Int) (s : State) (h_veh : bl .veh = true) :
    forget bl (takeCp use mV s) = forget bl s := by
  unfold takeCp
  simp (disch := assumption) only [forget_set_veh]

@[simp] theorem forget_sendToken {bl : Block → Bool} (op : Nat) (dst : Nat) (count : Nat) (xfer : Nat) (lease : Nat)
    (tokens : List Nat) (s : State) (h_mc : bl .mc = true) (h_lin : bl .lin = true) :
    forget bl (sendToken op dst count xfer lease tokens s) = forget bl s := by
  unfold sendToken
  simp (disch := assumption) only [forget_fabricSend]

@[simp] theorem forget_recallCheck {bl : Block → Bool} (s : State) (h_mc : bl .mc = true) (h_lin : bl .lin = true) :
    forget bl (recallCheck s) = forget bl s := by
  unfold recallCheck
  simp only [h_mc, h_lin, forget_setLin, forget_sendToken, forget_ite, ite_self, forget_foldl, implies_true]

@[simp] theorem forget_markOffer {bl : Block → Bool} (s : State) (h_lin : bl .lin = true) :
    forget bl (markOffer s) = forget bl s := by
  unfold markOffer
  simp (disch := assumption) only [forget_setLin]

@[simp] theorem forget_shareCheck {bl : Block → Bool} (s : State) (h_mc : bl .mc = true) (h_lin : bl .lin = true) :
    forget bl (shareCheck s) = forget bl s := by
  unfold shareCheck
  simp (disch := assumption) only [forget_recallCheck, forget_markOffer, forget_ite, ite_self]

@[simp] theorem forget_updateLimits {bl : Block → Bool} (s : State) (h_hatch : bl .hatch = true) (h_shu : bl .shu = true)
    (h_veh : bl .veh = true) (h_mc : bl .mc = true) (h_lin : bl .lin = true) (h_diag : bl .diag = true) :
    forget bl (updateLimits s) = forget bl s := by
  unfold updateLimits
  simp (disch := assumption) only [forget_shareCheck, forget_setVeh, forget_askShutter, forget_vehEvent, forget_ite, ite_self]

@[simp] theorem forget_freeVend {bl : Block → Bool} (s : State) (h_led : bl .led = true) (h_bil : bl .bil = true)
    (h_hatch : bl .hatch = true) (h_shu : bl .shu = true) (h_veh : bl .veh = true) (h_diag : bl .diag = true) :
    forget bl (freeVend s) = forget bl s := by
  unfold freeVend
  simp (disch := assumption) only [forget_setVeh, forget_beginSession, forget_ite, ite_self]

@[simp] theorem forget_limitsChanged {bl : Block → Bool} (s : State) (h_led : bl .led = true) (h_bil : bl .bil = true)
    (h_hatch : bl .hatch = true) (h_shu : bl .shu = true) (h_veh : bl .veh = true) (h_mc : bl .mc = true)
    (h_lin : bl .lin = true) (h_diag : bl .diag = true) :
    forget bl (limitsChanged s) = forget bl s := by
  unfold limitsChanged
  simp (disch := assumption) only [forget_updateLimits, forget_freeVend, forget_askPilot, forget_ite, ite_self]

@[simp] theorem forget_followTemp {bl : Block → Bool} (was : Bool) (s : State) (h_led : bl .led = true) (h_bil : bl .bil = true)
    (h_hatch : bl .hatch = true) (h_shu : bl .shu = true) (h_veh : bl .veh = true) (h_mc : bl .mc = true)
    (h_lin : bl .lin = true) (h_adc : bl .adc = true) (h_diag : bl .diag = true) :
    forget bl (followTemp was s) = forget bl s := by
  unfold followTemp
  (repeat' split) <;> simp (disch := assumption) only [forget_setAdc, forget_limitsChanged, forget_askShutter, forget_ite, ite_self]

@[simp] theorem forget_takeAn {bl : Block → Bool} (n : Nat) (t : Int) (bad : Bool) (s : State) (h_led : bl .led = true)
    (h_bil : bl .bil = true) (h_hatch : bl .hatch = true) (h_shu : bl .shu = true) (h_veh : bl .veh = true)
    (h_mc : bl .mc = true) (h_lin : bl .lin = true) (h_adc : bl .adc = true) (h_diag : bl .diag = true) :
    forget bl (takeAn n t bad s) = forget bl s := by
  unfold takeAn
  simp (disch := assumption) only [forget_diagTrigger, forget_setAdc, forget_followTemp, forget_ite, ite_self]

@[simp] theorem forget_takeSense {bl : Block → Bool} (n : Nat) (mA : Int) (ovr : Bool) (s : State) (h_lsw : bl .lsw = true) :
    forget bl (takeSense n mA ovr s) = forget bl s := by
  unfold takeSense
  simp (disch := assumption) only [forget_setOut]

@[simp] theorem forget_nlEvent {bl : Block → Bool} (event : Nat) (subject : Nat) (value : Nat) (s : State)
    (h_hatch : bl .hatch = true) (h_diag : bl .diag = true) :
    forget bl (nlEvent event subject value s) = forget bl s := by
  unfold nlEvent
  simp (disch := assumption) only [forget_notify]

@[simp] theorem forget_takeVbat {bl : Block → Bool} (mV : Int) (s : State) (h_hatch : bl .hatch = true) (h_nl : bl .nl = true)
    (h_diag : bl .diag = true) :
    forget bl (takeVbat mV s) = forget bl s := by
  unfold takeVbat
  simp (disch := assumption) only [forget_diagTrigger, forget_nlEvent, forget_setNl, forget_ite, ite_self]

@[simp] theorem forget_routeReading {bl : Block → Bool} (c : Conversion) (code : Nat) (ovr : Bool) (under : Bool) (valid : Bool)
    (v : Int) (s : State) (h_pwr : bl .pwr = true) (h_led : bl .led = true) (h_bil : bl .bil = true)
    (h_hatch : bl .hatch = true) (h_shu : bl .shu = true) (h_kiln : bl .kiln = true) (h_veh : bl .veh = true)
    (h_lsw : bl .lsw = true) (h_mc : bl .mc = true) (h_lin : bl .lin = true) (h_adc : bl .adc = true) (h_nl : bl .nl = true)
    (h_diag : bl .diag = true) :
    forget bl (routeReading c code ovr under valid v s) = forget bl s := by
  unfold routeReading
  (repeat' split) <;> simp (disch := assumption) only [forget_judgeVref, forget_takeCp, forget_takeAn, forget_takeSense,
      forget_takeVbat, forget_setLsw, forget_set_kiln, forget_set_pwr]

@[simp] theorem forget_meanWith {bl : Block → Bool} (ch : Nat) (v : Int) (s : State) (h_adc : bl .adc = true) :
    forget bl (meanWith ch v s) = forget bl s := by
  unfold meanWith
  simp (disch := assumption) only [forget_setAdc, forget_ite, ite_self]

@[simp] theorem forget_deliver {bl : Block → Bool} (c : Conversion) (code : Nat) (ovr : Bool) (under : Bool) (s : State)
    (h_pwr : bl .pwr = true) (h_led : bl .led = true) (h_bil : bl .bil = true) (h_hatch : bl .hatch = true)
    (h_shu : bl .shu = true) (h_kiln : bl .kiln = true) (h_veh : bl .veh = true) (h_lsw : bl .lsw = true)
    (h_con : bl .con = true) (h_mc : bl .mc = true) (h_lin : bl .lin = true) (h_adc : bl .adc = true) (h_nl : bl .nl = true)
    (h_diag : bl .diag = true) :
    forget bl (deliver c code ovr under s) = forget bl s := by
  unfold deliver
  simp (disch := assumption) only [forget_setAdc, forget_takeConvert, forget_trigNext, forget_timeRules, forget_routeReading,
      forget_meanWith, forget_ite, ite_self]

@[simp] theorem forget_takeTokenAbort {bl : Block → Bool} (m : TokenMsg) (s : State) (h_lin : bl .lin = true) :
    forget bl (takeTokenAbort m s) = forget bl s := by
  unfold takeTokenAbort
  simp (disch := assumption) only [forget_setLin]

theorem forget_traded {bl : Block → Bool} (m : TokenMsg) (s : State) (f : State → State) (h_hatch : bl .hatch = true)
    (h_diag : bl .diag = true) (h : ∀ t, forget bl (f t) = forget bl t) : forget bl (traded m s f) = forget bl s := by
  unfold traded
  split
  · exact h s
  · split
    · rfl
    · simp (disch := assumption) only [forget_linEvent]

@[simp] theorem forget_tokensMoved {bl : Block → Bool} (peer : Nat) (old : Nat) (s : State) (h_led : bl .led = true)
    (h_bil : bl .bil = true) (h_hatch : bl .hatch = true) (h_shu : bl .shu = true) (h_veh : bl .veh = true)
    (h_mc : bl .mc = true) (h_lin : bl .lin = true) (h_diag : bl .diag = true) :
    forget bl (tokensMoved peer old s) = forget bl s := by
  unfold tokensMoved
  simp (disch := assumption) only [forget_updateLimits, forget_freeVend, forget_askPilot, forget_linEvent, forget_ite, ite_self]

@[simp] theorem forget_takeTokenRequest {bl : Block → Bool} (m : TokenMsg) (s : State) (h_led : bl .led = true)
    (h_bil : bl .bil = true) (h_hatch : bl .hatch = true) (h_shu : bl .shu = true) (h_veh : bl .veh = true)
    (h_mc : bl .mc = true) (h_lin : bl .lin = true) (h_diag : bl .diag = true) :
    forget bl (takeTokenRequest m s) = forget bl s := by
  unfold takeTokenRequest
  simp (disch := assumption) only [forget_setLin, forget_setPlaces, forget_tokensMoved, forget_sendToken, forget_ite, ite_self]

@[simp] theorem forget_setLendings {bl : Block → Bool} (f : Lending → Lending) (s : State) (h_lin : bl .lin = true) :
    forget bl (setLendings f s) = forget bl s := by
  unfold setLendings
  simp (disch := assumption) only [forget_setLin]

@[simp] theorem forget_endLending {bl : Block → Bool} (xfer : Nat) (peer : Nat) (tokens : List Nat) (s : State)
    (h_led : bl .led = true) (h_bil : bl .bil = true) (h_hatch : bl .hatch = true) (h_shu : bl .shu = true)
    (h_veh : bl .veh = true) (h_mc : bl .mc = true) (h_lin : bl .lin = true) (h_diag : bl .diag = true) :
    forget bl (endLending xfer peer tokens s) = forget bl s := by
  unfold endLending
  simp (disch := assumption) only [forget_setLin, forget_tokensMoved, forget_setLendings, forget_backToPool]

@[simp] theorem forget_takeTokenReturn {bl : Block → Bool} (m : TokenMsg) (s : State) (h_led : bl .led = true)
    (h_bil : bl .bil = true) (h_hatch : bl .hatch = true) (h_shu : bl .shu = true) (h_veh : bl .veh = true)
    (h_mc : bl .mc = true) (h_lin : bl .lin = true) (h_diag : bl .diag = true) :
    forget bl (takeTokenReturn m s) = forget bl s := by
  unfold takeTokenReturn
  simp (disch := assumption) only [forget_endLending]

@[simp] theorem forget_dropBorrowed {bl : Block → Bool} (xfer : Nat) (home : Nat) (tokens : List Nat) (s : State)
    (h_led : bl .led = true) (h_bil : bl .bil = true) (h_hatch : bl .hatch = true) (h_shu : bl .shu = true)
    (h_veh : bl .veh = true) (h_mc : bl .mc = true) (h_lin : bl .lin = true) (h_diag : bl .diag = true) :
    forget bl (dropBorrowed xfer home tokens s) = forget bl s := by
  unfold dropBorrowed
  simp (disch := assumption) only [forget_setLin, forget_tokensMoved]

@[simp] theorem forget_takeTokenRecall {bl : Block → Bool} (m : TokenMsg) (s : State) (h_led : bl .led = true)
    (h_bil : bl .bil = true) (h_hatch : bl .hatch = true) (h_shu : bl .shu = true) (h_veh : bl .veh = true)
    (h_mc : bl .mc = true) (h_lin : bl .lin = true) (h_diag : bl .diag = true) :
    forget bl (takeTokenRecall m s) = forget bl s := by
  unfold takeTokenRecall
  simp (disch := assumption) only [forget_dropBorrowed]

@[simp] theorem forget_setBorrowings {bl : Block → Bool} (f : Borrowing → Borrowing) (s : State) (h_lin : bl .lin = true) :
    forget bl (setBorrowings f s) = forget bl s := by
  unfold setBorrowings
  simp (disch := assumption) only [forget_setLin]

@[simp] theorem forget_takeTokenRenewed {bl : Block → Bool} (m : TokenMsg) (s : State) (h_lin : bl .lin = true) :
    forget bl (takeTokenRenewed m s) = forget bl s := by
  unfold takeTokenRenewed
  simp (disch := assumption) only [forget_setBorrowings]

@[simp] theorem forget_takeTokenCommit {bl : Block → Bool} (m : TokenMsg) (s : State) (h_led : bl .led = true)
    (h_bil : bl .bil = true) (h_hatch : bl .hatch = true) (h_shu : bl .shu = true) (h_veh : bl .veh = true)
    (h_mc : bl .mc = true) (h_lin : bl .lin = true) (h_diag : bl .diag = true) :
    forget bl (takeTokenCommit m s) = forget bl s := by
  unfold takeTokenCommit
  simp (disch := assumption) only [forget_tokensMoved, forget_setBorrowings]

@[simp] theorem forget_takeTokenRenew {bl : Block → Bool} (m : TokenMsg) (s : State) (h_mc : bl .mc = true) (h_lin : bl .lin = true) :
    forget bl (takeTokenRenew m s) = forget bl s := by
  unfold takeTokenRenew
  simp (disch := assumption) only [forget_setLendings, forget_sendToken, forget_ite, ite_self]

@[simp] theorem forget_takeTokenGrant {bl : Block → Bool} (m : TokenMsg) (s : State) (h_hatch : bl .hatch = true)
    (h_mc : bl .mc = true) (h_lin : bl .lin = true) (h_diag : bl .diag = true) :
    forget bl (takeTokenGrant m s) = forget bl s := by
  unfold takeTokenGrant
  simp (disch := assumption) only [forget_setLin, forget_sendToken, forget_linEvent, forget_ite, ite_self]

@[simp] theorem forget_takeTokenAccept {bl : Block → Bool} (m : TokenMsg) (s : State) (h_led : bl .led = true)
    (h_bil : bl .bil = true) (h_hatch : bl .hatch = true) (h_shu : bl .shu = true) (h_veh : bl .veh = true)
    (h_mc : bl .mc = true) (h_lin : bl .lin = true) (h_diag : bl .diag = true) :
    forget bl (takeTokenAccept m s) = forget bl s := by
  unfold takeTokenAccept
  simp (disch := assumption) only [forget_setLin, forget_setPlaces, forget_tokensMoved, forget_setLendings, forget_backToPool,
      forget_sendToken, forget_ite, ite_self]

@[simp] theorem forget_takeTokenMsg {bl : Block → Bool} (op : Nat) (m : TokenMsg) (s : State)
    (h_led : bl .led = true) (h_bil : bl .bil = true) (h_hatch : bl .hatch = true) (h_shu : bl .shu = true)
        (h_veh : bl .veh = true) (h_mc : bl .mc = true) (h_lin : bl .lin = true) (h_diag : bl .diag = true) : forget bl
        (takeTokenMsg op m s) = forget bl s := by
  unfold takeTokenMsg
  refine forget_traded m s _ h_hatch h_diag fun t => ?_
  split <;> simp (disch := assumption) only [forget_takeTokenRequest, forget_takeTokenGrant, forget_takeTokenAccept,
    forget_takeTokenCommit, forget_takeTokenAbort, forget_takeTokenRenew, forget_takeTokenRenewed, forget_takeTokenReturn,
    forget_takeTokenRecall]

@[simp] theorem forget_takeOffer {bl : Block → Bool} (src : Nat) (id : Nat) (s : State) (h_hatch : bl .hatch = true)
    (h_mc : bl .mc = true) (h_lin : bl .lin = true) (h_upd : bl .upd = true) (h_diag : bl .diag = true) :
    forget bl (takeOffer src id s) = forget bl s := by
  unfold takeOffer
  simp (disch := assumption) only [forget_askChunk, forget_updEvent, forget_setUpd, forget_ite, ite_self]

@[simp] theorem forget_verifyFailed {bl : Block → Bool} (st : Nat) (id : Nat) (s : State) (h_hatch : bl .hatch = true)
    (h_upd : bl .upd = true) (h_diag : bl .diag = true) :
    forget bl (verifyFailed st id s) = forget bl s := by
  unfold verifyFailed
  simp (disch := assumption) only [forget_updEvent, forget_setUpd]

@[simp] theorem forget_takeChunk {bl : Block → Bool} (src : Nat) (id : Nat) (off : Nat) (data : List Byte) (s : State)
    (h_hatch : bl .hatch = true) (h_mc : bl .mc = true) (h_lin : bl .lin = true) (h_upd : bl .upd = true)
    (h_diag : bl .diag = true) :
    forget bl (takeChunk src id off data s) = forget bl s := by
  unfold takeChunk
  repeat'
    first
    | (simp (disch := assumption) only [forget_askChunk, forget_verifyFailed, forget_setUpd, forget_ite, ite_self]; done)
    | split
    | simp (disch := assumption) only [forget_askChunk, forget_setUpd, forget_ite]

@[simp] theorem forget_takeHave {bl : Block → Bool} (src : Nat) (s : State) (h_upd : bl .upd = true) :
    forget bl (takeHave src s) = forget bl s := by
  unfold takeHave
  simp (disch := assumption) only [forget_setUpd]

@[simp] theorem forget_takeChunkRequest {bl : Block → Bool} (src : Nat) (id : Nat) (off : Nat) (len : Nat) (s : State)
    (h_mc : bl .mc = true) (h_lin : bl .lin = true) (h_upd : bl .upd = true) :
    forget bl (takeChunkRequest src id off len s) = forget bl s := by
  unfold takeChunkRequest
  (repeat' split) <;> simp (disch := assumption) only [forget_sendChain]

@[simp] theorem forget_takeChainMsg {bl : Block → Bool} (op : Nat) (src : Nat) (id : Nat) (off : Nat) (len : Nat) (data : List Byte)
    (s : State) (h_hatch : bl .hatch = true) (h_mc : bl .mc = true) (h_lin : bl .lin = true) (h_upd : bl .upd = true)
    (h_diag : bl .diag = true) :
    forget bl (takeChainMsg op src id off len data s) = forget bl s := by
  unfold takeChainMsg
  (repeat' split) <;> simp (disch := assumption) only [forget_takeOffer, forget_takeChunk, forget_takeHave, forget_takeChunkRequest]

@[simp] theorem forget_takeRemoteReply {bl : Block → Bool} (src : Nat) (b : List Byte) (s : State) (h_hatch : bl .hatch = true)
    (h_con : bl .con = true) (h_mc : bl .mc = true) (h_lin : bl .lin = true) (h_diag : bl .diag = true) :
    forget bl (takeRemoteReply src b s) = forget bl s := by
  unfold takeRemoteReply
  repeat'
    first
    | (simp (disch := assumption) only [forget_replyTo, forget_setLin]; done)
    | split
    | simp (disch := assumption) only []

@[simp] theorem forget_extraReply {bl : Block → Bool} (snd : Sender) (c : Nat) (q : Nat) (op : Nat) (payload : List Byte)
    (again : Bool) (s : State) (h_hatch : bl .hatch = true) (h_con : bl .con = true) (h_mc : bl .mc = true)
    (h_lin : bl .lin = true) (h_diag : bl .diag = true) :
    forget bl (extraReply snd c q op payload again s) = forget bl s := by
  unfold extraReply
  simp (disch := assumption) only [forget_leave, forget_setHatch, forget_ite, ite_self]

@[simp] theorem forget_takeRequestPkt {bl : Block → Bool} (snd : Sender) (c : Nat) (q : Nat) (op : Nat) (payload : List Byte)
    (s : State) (h_hatch : bl .hatch = true) (h_con : bl .con = true) (h_mc : bl .mc = true) (h_lin : bl .lin = true)
    (h_diag : bl .diag = true) :
    forget bl (takeRequestPkt snd c q op payload s) = forget bl s := by
  unfold takeRequestPkt
  repeat'
    first
    | (simp (disch := assumption) only [forget_extraReply, forget_acceptSeq, forget_reply]; done)
    | split
    | simp (disch := assumption) only []

@[simp] theorem forget_takeDatagram {bl : Block → Bool} (snd : Sender) (peer : Nat) (b : List Byte) (s : State)
    (h_hatch : bl .hatch = true) (h_con : bl .con = true) (h_mc : bl .mc = true) (h_lin : bl .lin = true)
    (h_diag : bl .diag = true) :
    forget bl (takeDatagram snd peer b s) = forget bl s := by
  unfold takeDatagram
  simp (disch := assumption) only [forget_extraReply, forget_setHatch, forget_takeRequestPkt, forget_ite, ite_self]

@[simp] theorem forget_takeBrixo {bl : Block → Bool} (src : Nat) (b : List Byte) (s : State) (h_hatch : bl .hatch = true)
    (h_con : bl .con = true) (h_mc : bl .mc = true) (h_lin : bl .lin = true) (h_diag : bl .diag = true) :
    forget bl (takeBrixo src b s) = forget bl s := by
  unfold takeBrixo
  simp (disch := assumption) only [forget_takeRemoteReply, forget_setLin, forget_takeDatagram, forget_ite, ite_self]

@[simp] theorem forget_takeMessage {bl : Block → Bool} (type : Nat) (src : Nat) (b : List Byte) (s : State) (h_led : bl .led = true)
    (h_bil : bl .bil = true) (h_hatch : bl .hatch = true) (h_shu : bl .shu = true) (h_veh : bl .veh = true)
    (h_con : bl .con = true) (h_mc : bl .mc = true) (h_lin : bl .lin = true) (h_upd : bl .upd = true)
    (h_diag : bl .diag = true) :
    forget bl (takeMessage type src b s) = forget bl s := by
  unfold takeMessage
  (repeat' split) <;> simp (disch := assumption) only [forget_takeTokenMsg, forget_takeChainMsg, forget_takeBrixo]

@[simp] theorem forget_takeFragment {bl : Block → Bool} (p : FabricPacket) (s : State) (h_led : bl .led = true)
    (h_bil : bl .bil = true) (h_hatch : bl .hatch = true) (h_shu : bl .shu = true) (h_veh : bl .veh = true)
    (h_con : bl .con = true) (h_mc : bl .mc = true) (h_lin : bl .lin = true) (h_upd : bl .upd = true)
    (h_diag : bl .diag = true) :
    forget bl (takeFragment p s) = forget bl s := by
  unfold takeFragment
  simp (disch := assumption) only [forget_setLin, forget_takeMessage, forget_ite, ite_self]

@[simp] theorem forget_wakeSeen {bl : Block → Bool} (n : Nat) (s : State) (h_nl : bl .nl = true) :
    forget bl (wakeSeen n s) = forget bl s := by
  unfold wakeSeen
  simp (disch := assumption) only [forget_set_nl, forget_ite, ite_self]

@[simp] theorem forget_deliverHere {bl : Block → Bool} (full : Bool) (p : FabricPacket) (s : State) (h_led : bl .led = true)
    (h_bil : bl .bil = true) (h_hatch : bl .hatch = true) (h_shu : bl .shu = true) (h_veh : bl .veh = true)
    (h_con : bl .con = true) (h_mc : bl .mc = true) (h_lin : bl .lin = true) (h_upd : bl .upd = true) (h_nl : bl .nl = true)
    (h_diag : bl .diag = true) :
    forget bl (deliverHere full p s) = forget bl s := by
  unfold deliverHere
  simp (disch := assumption) only [forget_setLin, forget_takeMessage, forget_takeFragment, forget_wakeSeen, forget_ite, ite_self]

@[simp] theorem forget_diagWrite {bl : Block → Bool} (d : DiagRec) (s : State) (h_hatch : bl .hatch = true)
    (h_diag : bl .diag = true) : forget bl (diagWrite d s) = forget bl s :=
  (forget_dropTrigger _ _ h_hatch h_diag).trans (forget_diagPut d s h_hatch h_diag)

@[simp] theorem forget_dieEvent {bl : Block → Bool} (event : Nat) (cause : Nat) (s : State) (h_clk : bl .clk = true)
    (h_hatch : bl .hatch = true) (h_diag : bl .diag = true) :
    forget bl (dieEvent event cause s) = forget bl s := by
  unfold dieEvent
  simp (disch := assumption) only [forget_takeFree, forget_notify]

@[simp] theorem forget_dispDone {bl : Block → Bool} (result : Nat) (gen : Nat) (band : Nat) (frames : Nat) (mode : Nat) (start : Nat)
    (s : State) (h_hatch : bl .hatch = true) (h_diag : bl .diag = true) :
    forget bl (dispDone result gen band frames mode start s) = forget bl s := by
  unfold dispDone
  simp (disch := assumption) only [forget_notify]

@[simp] theorem forget_dispReport {bl : Block → Bool} (s : State) (h_hatch : bl .hatch = true) (h_diag : bl .diag = true) :
    forget bl (dispReport s) = forget bl s := by
  unfold dispReport
  simp (disch := assumption) only [forget_dispDone, forget_ite, ite_self]

@[simp] theorem forget_startDrive {bl : Block → Bool} (d : Drive) (s : State) (h_disp : bl .disp = true) :
    forget bl (startDrive d s) = forget bl s := by
  unfold startDrive
  simp (disch := assumption) only [forget_setDisp]

@[simp] theorem forget_startRecovery {bl : Block → Bool} (t : WaveTable) (s : State) (h_disp : bl .disp = true) :
    forget bl (startRecovery t s) = forget bl s := by
  unfold startRecovery
  repeat'
    first
    | (simp (disch := assumption) only [forget_startDrive, forget_setDisp]; done)
    | split
    | simp (disch := assumption) only []

@[simp] theorem forget_tryWaiting {bl : Block → Bool} (s : State) (h_disp : bl .disp = true) :
    forget bl (tryWaiting s) = forget bl s := by
  unfold tryWaiting
  (repeat' split) <;> simp (disch := assumption) only [forget_startDrive, forget_setDisp, forget_ite, ite_self]

@[simp] theorem forget_driveNext {bl : Block → Bool} (s : State) (h_disp : bl .disp = true) :
    forget bl (driveNext s) = forget bl s := by
  unfold driveNext
  (repeat' split) <;> simp (disch := assumption) only [forget_startRecovery, forget_tryWaiting]

@[simp] theorem forget_dispStart {bl : Block → Bool} (s : State) (h_disp : bl .disp = true) :
    forget bl (dispStart s) = forget bl s := by
  unfold dispStart
  repeat'
    first
    | (simp (disch := assumption) only [forget_driveNext, forget_cutStress, forget_setDisp, forget_ite, ite_self]; done)
    | split
    | simp (disch := assumption) only [forget_driveNext, forget_setDisp, forget_ite, ite_self]

@[simp] theorem forget_mcEventOf {bl : Block → Bool} (event : Nat) (n : McNeighbour) (s : State) (h_hatch : bl .hatch = true)
    (h_diag : bl .diag = true) :
    forget bl (mcEventOf event n s) = forget bl s := by
  unfold mcEventOf
  simp (disch := assumption) only [forget_notify]

@[simp] theorem forget_mcEvent {bl : Block → Bool} (event : Nat) (short : Nat) (s : State) (h_hatch : bl .hatch = true)
    (h_diag : bl .diag = true) :
    forget bl (mcEvent event short s) = forget bl s := by
  unfold mcEvent
  (repeat' split) <;> simp (disch := assumption) only [forget_mcEventOf, forget_notify]

@[simp] theorem forget_setMcN {bl : Block → Bool} (short : Nat) (f : McNeighbour → McNeighbour) (s : State) (h_mc : bl .mc = true) :
    forget bl (setMcN short f s) = forget bl s := by
  unfold setMcN
  simp (disch := assumption) only [forget_setMc]

@[simp] theorem forget_downgrade {bl : Block → Bool} (f : McFrame) (s : State) (h_hatch : bl .hatch = true) (h_mc : bl .mc = true)
    (h_diag : bl .diag = true) :
    forget bl (downgrade f s) = forget bl s := by
  unfold downgrade
  simp (disch := assumption) only [forget_mcEvent, forget_setMc, forget_setMcN]

@[simp] theorem forget_resumeAll {bl : Block → Bool} (s : State) (h_lsw : bl .lsw = true) :
    forget bl (resumeAll s) = forget bl s := by
  unfold resumeAll
  simp (disch := assumption) only [forget_setLsw]

@[simp] theorem forget_driveReplica {bl : Block → Bool} (s : State) (h_shu : bl .shu = true) (h_lsw : bl .lsw = true)
    (h_nl : bl .nl = true) :
    forget bl (driveReplica s) = forget bl s := by
  unfold driveReplica
  simp (disch := assumption) only [forget_resumeAll, forget_setShu, forget_setLsw, forget_set_nl, forget_ite, ite_self]

@[simp] theorem forget_pendAuth {bl : Block → Bool} (kind : Nat) (ident : List Byte) (s : State) (h_hatch : bl .hatch = true)
    (h_veh : bl .veh = true) (h_diag : bl .diag = true) :
    forget bl (pendAuth kind ident s) = forget bl s := by
  unfold pendAuth
  simp (disch := assumption) only [forget_setVeh, forget_authNotify]

@[simp] theorem forget_dropAuth {bl : Block → Bool} (s : State) (h_hatch : bl .hatch = true) (h_veh : bl .veh = true)
    (h_diag : bl .diag = true) :
    forget bl (dropAuth s) = forget bl s := by
  unfold dropAuth
  repeat'
    first
    | (simp (disch := assumption) only [forget_setVeh, forget_pendAuth]; done)
    | split
    | simp (disch := assumption) only []

@[simp] theorem forget_dropChange {bl : Block → Bool} (c : CondChange) (s : State) (h_met : bl .met = true) :
    forget bl (dropChange c s) = forget bl s := by
  unfold dropChange
  simp (disch := assumption) only [forget_setMet]

@[simp] theorem forget_dropNeighbour {bl : Block → Bool} (link : Nat) (id : Nat) (s : State) (h_hatch : bl .hatch = true)
    (h_mc : bl .mc = true) (h_lin : bl .lin = true) (h_diag : bl .diag = true) :
    forget bl (dropNeighbour link id s) = forget bl s := by
  unfold dropNeighbour
  simp (disch := assumption) only [forget_setLin, forget_diagTrigger, forget_rebuildTree, forget_sendRoute, forget_ite, ite_self]

@[simp] theorem forget_dropPending {bl : Block → Bool} (s : State) (h_mode : bl .mode = true) (h_recl : bl .recl = true)
    (h_bil : bl .bil = true) (h_shu : bl .shu = true) :
    forget bl (dropPending s) = forget bl s := by
  unfold dropPending
  simp (disch := assumption) only [forget_setBil, forget_setShu, forget_setMode, forget_set_recl]

@[simp] theorem forget_dropReq {bl : Block → Bool} (result : Nat) (q : DispReq) (s : State) (h_hatch : bl .hatch = true)
    (h_disp : bl .disp = true) (h_diag : bl .diag = true) :
    forget bl (dropReq result q s) = forget bl s := by
  unfold dropReq
  (repeat' split) <;> simp (disch := assumption) only [forget_dispDone, forget_setDisp]

@[simp] theorem forget_durableAnswer {bl : Block → Bool} (s : State) (body : List Byte) (h_led : bl .led = true) :
    forget bl (durableAnswer s body).state = forget bl s := by
  unfold durableAnswer
  simp (disch := assumption) only [forget_lsWrite, forget_answer]

@[simp] theorem forget_earthWatch {bl : Block → Bool} (s : State) (h_inp : bl .inp = true) (h_led : bl .led = true)
    (h_hatch : bl .hatch = true) (h_sag : bl .sag = true) (h_diag : bl .diag = true) :
    forget bl (earthWatch s) = forget bl s := by
  unfold earthWatch
  simp (disch := assumption) only [forget_setInp, forget_tamperOff, forget_ite, ite_self]

@[simp] theorem forget_startRound {bl : Block → Bool} (f : McFrame) (s : State) (h_mc : bl .mc = true) :
    forget bl (startRound f s) = forget bl s := by
  unfold startRound
  simp (disch := assumption) only [forget_setMc]

@[simp] theorem forget_mcRelease {bl : Block → Bool} (f : McFrame) (s : State) (h_mc : bl .mc = true) (h_lin : bl .lin = true) :
    forget bl (mcRelease f s) = forget bl s := by
  unfold mcRelease
  repeat'
    first
    | (simp (disch := assumption) only [forget_acknowledge, forget_setMc]; done)
    | split
    | simp (disch := assumption) only []

@[simp] theorem forget_endExchange {bl : Block → Bool} (f : McFrame) (s : State) (h_mc : bl .mc = true) (h_lin : bl .lin = true) :
    forget bl (endExchange f s) = forget bl s := by
  unfold endExchange
  simp (disch := assumption) only [forget_startRound, forget_mcRelease, forget_setMc, forget_ite, ite_self]

@[simp] theorem forget_endFreeze {bl : Block → Bool} (s : State) (h_hatch : bl .hatch = true) (h_diag : bl .diag = true) :
    forget bl (endFreeze s) = forget bl s := by
  unfold endFreeze
  simp only [h_hatch, h_diag, forget_diagWrite, forget_set_diag, forget_foldl, implies_true]

@[simp] theorem forget_endOfSession {bl : Block → Bool} (cause : Nat) (e : Nat) (s : State) (h_led : bl .led = true)
    (h_bil : bl .bil = true) (h_hatch : bl .hatch = true) (h_shu : bl .shu = true) (h_veh : bl .veh = true)
    (h_con : bl .con = true) (h_diag : bl .diag = true) :
    forget bl (endOfSession cause e s) = forget bl s := by
  unfold endOfSession
  simp (disch := assumption) only [forget_setVeh, forget_closeSession, forget_askPilot, forget_vehEvent]

@[simp] theorem forget_endOldSession {bl : Block → Bool} (s : State) (h_veh : bl .veh = true) :
    forget bl (endOldSession s) = forget bl s := by
  unfold endOldSession
  (repeat' split) <;> simp (disch := assumption) only [forget_setVeh]

@[simp] theorem forget_endRcm {bl : Block → Bool} (t : RcmTest) (result : Nat) (dc : Nat) (ac : Nat) (s : State)
    (h_clk : bl .clk = true) (h_recl : bl .recl = true) (h_led : bl .led = true) (h_hatch : bl .hatch = true)
    (h_shu : bl .shu = true) (h_pq : bl .pq = true) (h_veh : bl .veh = true) (h_con : bl .con = true) (h_mc : bl .mc = true)
    (h_lin : bl .lin = true) (h_hng : bl .hng = true) (h_upd : bl .upd = true) (h_nl : bl .nl = true)
    (h_diag : bl .diag = true) :
    forget bl (endRcm t result dc ac s) = forget bl s := by
  unfold endRcm
  simp (disch := assumption) only [forget_replyTo, forget_setShu, forget_tripPlain, forget_shuEvent, forget_raise, forget_ite, ite_self]

@[simp] theorem forget_energise {bl : Block → Bool} (s : State) (h_shu : bl .shu = true) (h_nl : bl .nl = true) :
    forget bl (energise s) = forget bl s := by
  unfold energise
  simp (disch := assumption) only [forget_setShu, forget_set_nl]

@[simp] theorem forget_modeChanged {bl : Block → Bool} (old : Mode) (new : Mode) (cause : Nat) (s : State)
    (h_hatch : bl .hatch = true) (h_diag : bl .diag = true) :
    forget bl (modeChanged old new cause s) = forget bl s := by
  unfold modeChanged
  simp (disch := assumption) only [forget_notify]

@[simp] theorem forget_enterMode {bl : Block → Bool} (m : Mode) (cause : Nat) (s : State) (h_mode : bl .mode = true)
    (h_hatch : bl .hatch = true) (h_con : bl .con = true) (h_mc : bl .mc = true) (h_lin : bl .lin = true)
    (h_hng : bl .hng = true) (h_nl : bl .nl = true) (h_diag : bl .diag = true) (h_rs : bl .rs = true) :
    forget bl (enterMode m cause s) = forget bl s := by
  unfold enterMode
  simp (disch := assumption) only [forget_modeChanged, forget_setMode, forget_setNl, forget_stopPort, forget_yieldRole, forget_ite,
      ite_self]

@[simp] theorem forget_setCellK {bl : Block → Bool} (k : Nat) (f : Cell → Cell) (s : State) (h_kiln : bl .kiln = true) :
    forget bl (setCellK k f s) = forget bl s := by
  unfold setCellK
  simp (disch := assumption) only [forget_setKiln]

@[simp] theorem forget_kilnEvent {bl : Block → Bool} (event : Nat) (cell : Nat) (s : State) (h_hatch : bl .hatch = true)
    (h_diag : bl .diag = true) :
    forget bl (kilnEvent event cell s) = forget bl s := by
  unfold kilnEvent
  simp (disch := assumption) only [forget_notify]

@[simp] theorem forget_failCell {bl : Block → Bool} (k : Nat) (s : State) (h_clk : bl .clk = true) (h_hatch : bl .hatch = true)
    (h_shu : bl .shu = true) (h_kiln : bl .kiln = true) (h_veh : bl .veh = true) (h_diag : bl .diag = true) :
    forget bl (failCell k s) = forget bl s := by
  unfold failCell
  repeat'
    first
    | (simp (disch := assumption) only [forget_setKiln, forget_setCellK, forget_diagTrigger, forget_degrade, forget_kilnEvent]; done)
    | split
    | simp (disch := assumption) only [forget_diagTrigger, forget_degrade, forget_kilnEvent]

@[simp] theorem forget_failFrame {bl : Block → Bool} (f : McFrame) (s : State) (h_hatch : bl .hatch = true) (h_mc : bl .mc = true)
    (h_lin : bl .lin = true) (h_diag : bl .diag = true) :
    forget bl (failFrame f s) = forget bl s := by
  unfold failFrame
  simp (disch := assumption) only [forget_mcEvent, forget_setMc, forget_setMcN, forget_endExchange, forget_ite, ite_self]

@[simp] theorem forget_fieldGone {bl : Block → Bool} (s : State) (h_con : bl .con = true) :
    forget bl (fieldGone s) = forget bl s := by
  unfold fieldGone
  simp (disch := assumption) only [forget_setCon]

@[simp] theorem forget_finalIfReached {bl : Block → Bool} (s : State) (h_hold : bl .hold = true) (h_inp : bl .inp = true)
    (h_met : bl .met = true) (h_led : bl .led = true) (h_hatch : bl .hatch = true) (h_snap : bl .snap = true)
    (h_pq : bl .pq = true) (h_hng : bl .hng = true) (h_diag : bl .diag = true) :
    forget bl (finalIfReached s) = forget bl s := by
  unfold finalIfReached
  simp (disch := assumption) only [forget_finalEntry, forget_set_hold, forget_ite, ite_self]

@[simp] theorem forget_findPeer {bl : Block → Bool} (s : State) (h_hatch : bl .hatch = true) (h_hng : bl .hng = true)
    (h_diag : bl .diag = true) :
    forget bl (findPeer s) = forget bl s := by
  unfold findPeer
  simp (disch := assumption) only [forget_hngEvent, forget_setHng, forget_ite, ite_self]

@[simp] theorem forget_finishDrive {bl : Block → Bool} (d : Drive) (s : State) (h_hatch : bl .hatch = true) (h_disp : bl .disp = true)
    (h_diag : bl .diag = true) :
    forget bl (finishDrive d s) = forget bl s := by
  unfold finishDrive
  simp (disch := assumption) only [forget_dispDone, forget_setDisp, forget_ite, ite_self]

@[simp] theorem forget_finishStop {bl : Block → Bool} (s : State) (h_clk : bl .clk = true) (h_recl : bl .recl = true)
    (h_led : bl .led = true) (h_hatch : bl .hatch = true) (h_shu : bl .shu = true) (h_pq : bl .pq = true)
    (h_nl : bl .nl = true) (h_diag : bl .diag = true) :
    forget bl (finishStop s) = forget bl s := by
  unfold finishStop
  (repeat' split) <;> simp (disch := assumption) only [forget_setShu, forget_deenergise, forget_logStop]

@[simp] theorem forget_zeroiseFlash {bl : Block → Bool} (src : Nat) (atStart : Bool) (s : State) (h_led : bl .led = true)
    (h_hatch : bl .hatch = true) (h_sag : bl .sag = true) (h_diag : bl .diag = true) :
    forget bl (zeroiseFlash src atStart s) = forget bl s := by
  unfold zeroiseFlash
  simp (disch := assumption) only [forget_setSag, forget_sagEvent, forget_logNow]

@[simp] theorem forget_zeroiseRam {bl : Block → Bool} (s : State) (h_sag : bl .sag = true) :
    forget bl (zeroiseRam s) = forget bl s := by
  unfold zeroiseRam
  simp (disch := assumption) only [forget_setSag]

@[simp] theorem forget_finishTransition {bl : Block → Bool} (t : Lifecycle) (atStart : Bool) (s : State) (h_led : bl .led = true)
    (h_hatch : bl .hatch = true) (h_sag : bl .sag = true) (h_diag : bl .diag = true) :
    forget bl (finishTransition t atStart s) = forget bl s := by
  unfold finishTransition
  simp (disch := assumption) only [forget_zeroiseFlash, forget_setSag, forget_zeroiseRam, forget_sagEvent, forget_logNow, forget_ite,
      ite_self]

@[simp] theorem forget_followEvent {bl : Block → Bool} (o : PqOpen) (phases : Nat) (low : Bool) (ends : Bool) (ext : Nat × Nat)
    (r : Refresh) (s : State) (h_hatch : bl .hatch = true) (h_pq : bl .pq = true) (h_diag : bl .diag = true) :
    forget bl (followEvent o phases low ends ext r s).2 = forget bl s := by
  unfold followEvent
  (repeat' split) <;> simp (disch := assumption) only [forget_pqReplace, forget_pqWrite, forget_ite, ite_self]

@[simp] theorem forget_followOff {bl : Block → Bool} (s : State) (h_clk : bl .clk = true) (h_hatch : bl .hatch = true)
    (h_shu : bl .shu = true) (h_pq : bl .pq = true) (h_nl : bl .nl = true) (h_diag : bl .diag = true) :
    forget bl (followOff s) = forget bl s := by
  unfold followOff
  simp (disch := assumption) only [forget_deenergise, forget_ite, ite_self]

@[simp] theorem forget_forceParam {bl : Block → Bool} (s : State) (id : Nat) (v : Int) (h_par : bl .par = true) :
    forget bl (forceParam s id v) = forget bl s := by
  unfold forceParam
  simp (disch := assumption) only [forget_forceParamAt]

@[simp] theorem forget_forgetSwitches {bl : Block → Bool} (a : Nat) (s : State) (h_inp : bl .inp = true) :
    forget bl (forgetSwitches a s) = forget bl s := by
  unfold forgetSwitches
  simp (disch := assumption) only [forget_setInp]

@[simp] theorem forget_forwardAuth {bl : Block → Bool} (kind : Nat) (ident : List Byte) (s : State) (h_hatch : bl .hatch = true)
    (h_veh : bl .veh = true) (h_diag : bl .diag = true) :
    forget bl (forwardAuth kind ident s) = forget bl s := by
  unfold forwardAuth
  simp (disch := assumption) only [forget_setVeh, forget_pendAuth, forget_ite, ite_self]

@[simp] theorem forget_forwardCard {bl : Block → Bool} (s : State) (h_hatch : bl .hatch = true) (h_veh : bl .veh = true)
    (h_con : bl .con = true) (h_diag : bl .diag = true) :
    forget bl (forwardCard s) = forget bl s := by
  unfold forwardCard
  (repeat' split) <;> simp (disch := assumption) only [forget_cardEvent, forget_setCon, forget_forwardAuth, forget_ite, ite_self]

@[simp] theorem forget_growSeg {bl : Block → Bool} (codes : List Int) (bad : Nat) (s : State) (h_pq : bl .pq = true) :
    forget bl (growSeg codes bad s) = forget bl s := by
  unfold growSeg
  simp (disch := assumption) only [forget_setPq]

@[simp] theorem forget_handshake {bl : Block → Bool} (v13 : Bool) (s : State) (h_led : bl .led = true) (h_hatch : bl .hatch = true)
    (h_sag : bl .sag = true) (h_veh : bl .veh = true) (h_diag : bl .diag = true) :
    forget bl (handshake v13 s) = forget bl s := by
  unfold handshake
  simp (disch := assumption) only [forget_setVeh, forget_answerV, forget_noteBad, forget_consume, forget_ite, ite_self]

@[simp] theorem forget_hearClaim {bl : Block → Bool} (c : Nat) (s : State) (h_hng : bl .hng = true) :
    forget bl (hearClaim c s) = forget bl s := by
  unfold hearClaim
  simp (disch := assumption) only [forget_setHng]

@[simp] theorem forget_heardBy {bl : Block → Bool} (is : McNeighbour → Bool) (zcPol : Bool) (centre : Tick) (s : State)
    (h_hatch : bl .hatch = true) (h_mc : bl .mc = true) (h_diag : bl .diag = true) :
    forget bl (heardBy is zcPol centre s) = forget bl s := by
  unfold heardBy
  repeat'
    first
    | (simp (disch := assumption) only [forget_mcEventOf, forget_setMc, forget_ite, ite_self]; done)
    | split
    | simp (disch := assumption) only []

@[simp] theorem forget_heardFrame {bl : Block → Bool} (short : Nat) (zcPol : Bool) (centre : Tick) (s : State)
    (h_hatch : bl .hatch = true) (h_mc : bl .mc = true) (h_diag : bl .diag = true) :
    forget bl (heardFrame short zcPol centre s) = forget bl s := by
  unfold heardFrame
  simp (disch := assumption) only [forget_heardBy]

@[simp] theorem forget_holdupBudget {bl : Block → Bool} (bulk : Nat) (s : State) (h_hold : bl .hold = true) (h_led : bl .led = true) :
    forget bl (holdupBudget bulk s) = forget bl s := by
  unfold holdupBudget
  simp (disch := assumption) only [forget_raise, forget_setHold, forget_ite, ite_self]

@[simp] theorem forget_stopPulses {bl : Block → Bool} (s : State) (h_cal : bl .cal = true) :
    forget bl (stopPulses s) = forget bl s := by
  unfold stopPulses
  simp (disch := assumption) only [forget_setCal]

@[simp] theorem forget_stopRadios {bl : Block → Bool} (s : State) (h_con : bl .con = true) (h_mc : bl .mc = true) :
    forget bl (stopRadios s) = forget bl s := by
  unfold stopRadios
  simp (disch := assumption) only [forget_setCon, forget_setMc]

@[simp] theorem forget_pmStop {bl : Block → Bool} (s : State) (h_clk : bl .clk = true) (h_veh : bl .veh = true) :
    forget bl (pmStop s) = forget bl s := by
  unfold pmStop
  simp (disch := assumption) only [forget_setVeh, forget_takeFree]

@[simp] theorem forget_stopPowerStage {bl : Block → Bool} (s : State) (h_clk : bl .clk = true) (h_veh : bl .veh = true) :
    forget bl (stopPowerStage s) = forget bl s := by
  unfold stopPowerStage
  simp (disch := assumption) only [forget_pmStop, forget_ite, ite_self]

@[simp] theorem forget_holdupStops {bl : Block → Bool} (s : State) (h_clk : bl .clk = true) (h_mode : bl .mode = true)
    (h_recl : bl .recl = true) (h_cal : bl .cal = true) (h_bil : bl .bil = true) (h_hatch : bl .hatch = true)
    (h_shu : bl .shu = true) (h_dma : bl .dma = true) (h_veh : bl .veh = true) (h_con : bl .con = true)
    (h_mc : bl .mc = true) (h_lin : bl .lin = true) (h_diag : bl .diag = true) (h_rs : bl .rs = true) :
    forget bl (holdupStops s) = forget bl s := by
  unfold holdupStops
  simp (disch := assumption) only [forget_loseFreeze, forget_closeConfig, forget_stopPulses, forget_stopRadios, forget_dropPending,
      forget_stopPowerStage, forget_abortHostDma, forget_stopPort]

@[simp] theorem forget_idleSample {bl : Block → Bool} (q : Nat) (v : List Int) (s : State) (h_nl : bl .nl = true) :
    forget bl (idleSample q v s) = forget bl s := by
  unfold idleSample
  simp (disch := assumption) only [forget_set_nl, forget_ite, ite_self]

@[simp] theorem forget_idleWindow {bl : Block → Bool} (preamble : Bool) (s : State) (h_clk : bl .clk = true) (h_mc : bl .mc = true) :
    forget bl (idleWindow preamble s) = forget bl s := by
  unfold idleWindow
  repeat'
    first
    | (simp (disch := assumption) only [forget_takeFree, forget_setMc, forget_ite]; done)
    | split
    | simp (disch := assumption) only [forget_setMc, forget_ite]

@[simp] theorem forget_inputFault {bl : Block → Bool} (cause : Nat) (slot : Nat) (start : Nat) (s : State)
    (h_hatch : bl .hatch = true) (h_diag : bl .diag = true) :
    forget bl (inputFault cause slot start s) = forget bl s := by
  unfold inputFault
  simp (disch := assumption) only [forget_notify]

@[simp] theorem forget_meteringStop {bl : Block → Bool} (cause : Nat) (s : State) (h_recl : bl .recl = true) (h_inp : bl .inp = true)
    (h_hatch : bl .hatch = true) (h_shu : bl .shu = true) (h_veh : bl .veh = true) (h_hng : bl .hng = true)
    (h_upd : bl .upd = true) (h_diag : bl .diag = true) :
    forget bl (meteringStop cause s) = forget bl s := by
  unfold meteringStop
  simp (disch := assumption) only [forget_setInp, forget_beginStop, forget_endSession, forget_setLatch, forget_ite, ite_self]

@[simp] theorem forget_metFault {bl : Block → Bool} (cause : Nat) (slot : Nat) (s : State) (h_recl : bl .recl = true)
    (h_inp : bl .inp = true) (h_led : bl .led = true) (h_hatch : bl .hatch = true) (h_shu : bl .shu = true)
    (h_veh : bl .veh = true) (h_hng : bl .hng = true) (h_upd : bl .upd = true) (h_diag : bl .diag = true) :
    forget bl (metFault cause slot s) = forget bl s := by
  unfold metFault
  simp (disch := assumption) only [forget_setInp, forget_trialFault, forget_inputFault, forget_setLatch, forget_raise,
      forget_meteringStop, forget_ite, ite_self]

@[simp] theorem forget_judge {bl : Block → Bool} (bad : Bool) (cause : Nat) (s : State) (h_recl : bl .recl = true)
    (h_inp : bl .inp = true) (h_led : bl .led = true) (h_hatch : bl .hatch = true) (h_shu : bl .shu = true)
    (h_veh : bl .veh = true) (h_hng : bl .hng = true) (h_upd : bl .upd = true) (h_diag : bl .diag = true) :
    forget bl (judge bad cause s) = forget bl s := by
  unfold judge
  simp (disch := assumption) only [forget_faultAbsent, forget_metFault, forget_ite, ite_self]

@[simp] theorem forget_judgeClaims {bl : Block → Bool} (s : State) (h_recl : bl .recl = true) (h_shu : bl .shu = true)
    (h_lsw : bl .lsw = true) (h_hng : bl .hng = true) (h_nl : bl .nl = true) :
    forget bl (judgeClaims s) = forget bl s := by
  unfold judgeClaims
  dsimp only
  repeat' split
  all_goals simp (disch := assumption) only [forget_setHng, forget_becomeStandby, forget_releaseStages, forget_set_recl,
      forget_driveReplica]

@[simp] theorem forget_keepHome {bl : Block → Bool} (cls : TaskClass) (part : Nat) (k : Nat) (s : State) (h_kiln : bl .kiln = true) :
    forget bl (keepHome cls part k s) = forget bl s := by
  unfold keepHome
  simp (disch := assumption) only [forget_setKiln, forget_ite, ite_self]

@[simp] theorem forget_watchPlug {bl : Block → Bool} (s : State) (h_hatch : bl .hatch = true) (h_veh : bl .veh = true)
    (h_diag : bl .diag = true) :
    forget bl (watchPlug s) = forget bl s := by
  unfold watchPlug
  simp (disch := assumption) only [forget_setVeh, forget_vehEvent, forget_ite, ite_self]

@[simp] theorem forget_unplug {bl : Block → Bool} (s : State) (h_clk : bl .clk = true) (h_hatch : bl .hatch = true)
    (h_veh : bl .veh = true) (h_diag : bl .diag = true) :
    forget bl (unplug s) = forget bl s := by
  unfold unplug
  simp (disch := assumption) only [forget_setVeh, forget_pmStop, forget_endSession, forget_vehEvent, forget_ite, ite_self]

@[simp] theorem forget_kilnCp {bl : Block → Bool} (old : Nat) (new : Nat) (s : State) (h_clk : bl .clk = true)
    (h_led : bl .led = true) (h_bil : bl .bil = true) (h_hatch : bl .hatch = true) (h_shu : bl .shu = true)
    (h_veh : bl .veh = true) (h_mc : bl .mc = true) (h_lin : bl .lin = true) (h_diag : bl .diag = true) :
    forget bl (kilnCp old new s) = forget bl s := by
  unfold kilnCp
  simp (disch := assumption) only [forget_updateLimits, forget_setVeh, forget_watchPlug, forget_freeVend, forget_askPilot,
      forget_askShutter, forget_vehEvent, forget_unplug, forget_ite, ite_self]

@[simp] theorem forget_lsRestore {bl : Block → Bool} (s : State) (h_bil : bl .bil = true) :
    forget bl (lsRestore s) = forget bl s := by
  unfold lsRestore
  simp (disch := assumption) only [forget_setBil]

@[simp] theorem forget_outageClosings {bl : Block → Bool} (outage : Bool) (new : Int) (s : State) (h_led : bl .led = true)
    (h_bil : bl .bil = true) (h_hatch : bl .hatch = true) (h_con : bl .con = true) (h_diag : bl .diag = true) :
    forget bl (outageClosings outage new s) = forget bl s := by
  unfold outageClosings
  simp (disch := assumption) only [forget_lsWrite, forget_markInterrupted, forget_closeGap, forget_ite, ite_self]

@[simp] theorem forget_kilnStart {bl : Block → Bool} (s : State) (h_dom : bl .dom = true) (h_led : bl .led = true)
    (h_bil : bl .bil = true) (h_hatch : bl .hatch = true) (h_shu : bl .shu = true) (h_veh : bl .veh = true)
    (h_con : bl .con = true) (h_mc : bl .mc = true) (h_lin : bl .lin = true) (h_diag : bl .diag = true) :
    forget bl (kilnStart s) = forget bl s := by
  unfold kilnStart
  simp (disch := assumption) only [forget_endOldSession, forget_lComplete, forget_lsRestore, forget_outageClosings, forget_setDom,
      forget_ite, ite_self]

@[simp] theorem forget_lChain {bl : Block → Bool} (n : Nat) (s : State) (h_led : bl .led = true) (h_bil : bl .bil = true)
    (h_hatch : bl .hatch = true) (h_shu : bl .shu = true) (h_veh : bl .veh = true) (h_con : bl .con = true)
    (h_diag : bl .diag = true) :
    forget bl (lChain n s) = forget bl s := by
  induction n generalizing s with
  | zero => rfl
  | succ n ih =>
    unfold lChain
    dsimp only
    split
    · split
      · exact forget_ledgerEpoch _ s h_led h_bil h_hatch h_shu h_veh h_con h_diag
      · exact (ih _).trans (forget_ledgerEpoch _ s h_led h_bil h_hatch h_shu h_veh h_con h_diag)
    · rfl

@[simp] theorem forget_spanEpoch {bl : Block → Bool} (temp : Int) (e : Nat) (s : State) (h_cal : bl .cal = true) :
    forget bl (spanEpoch temp e s) = forget bl s := by
  unfold spanEpoch
  simp (disch := assumption) only [forget_setCal]

@[simp] theorem forget_windowEpoch {bl : Block → Bool} (r : SumsRec) (s : State) (h_pq : bl .pq = true) :
    forget bl (windowEpoch r s) = forget bl s := by
  unfold windowEpoch
  repeat'
    first
    | (simp (disch := assumption) only [forget_setPq, forget_ite, ite_self]; done)
    | split
    | simp (disch := assumption) only [forget_setPq, forget_ite]

@[simp] theorem forget_quadUpdate {bl : Block → Bool} (e : Nat) (l : List Sample) (s : State) (h_sie : bl .sie = true) :
    forget bl (quadUpdate e l s) = forget bl s := by
  unfold quadUpdate
  simp (disch := assumption) only [forget_setSie]

@[simp] theorem forget_latchEpoch {bl : Block → Bool} (c : Captured) (s : State) (h_recl : bl .recl = true) (h_inp : bl .inp = true)
    (h_sie : bl .sie = true) (h_met : bl .met = true) (h_cal : bl .cal = true) (h_led : bl .led = true)
    (h_hatch : bl .hatch = true) (h_shu : bl .shu = true) (h_snap : bl .snap = true) (h_pq : bl .pq = true)
    (h_veh : bl .veh = true) (h_hng : bl .hng = true) (h_upd : bl .upd = true) (h_diag : bl .diag = true) :
    forget bl (latchEpoch c s) = forget bl s := by
  unfold latchEpoch
  simp (disch := assumption) only [forget_setPq, forget_metFault, forget_epochInc, forget_cfEpoch, forget_setLed, forget_setMet,
      forget_spanEpoch, forget_windowEpoch, forget_takeGroups, forget_quadUpdate, forget_overRangeEpoch, forget_ite, ite_self]

@[simp] theorem forget_latchOut {bl : Block → Bool} (cause : Nat) (n : Nat) (s : State) (h_hatch : bl .hatch = true)
    (h_lsw : bl .lsw = true) (h_diag : bl .diag = true) :
    forget bl (latchOut cause n s) = forget bl s := by
  unfold latchOut
  simp (disch := assumption) only [forget_diagTrigger, forget_lswEvent, forget_setOut]

@[simp] theorem forget_latchWeld {bl : Block → Bool} (s : State) (h_led : bl .led = true) (h_hatch : bl .hatch = true)
    (h_shu : bl .shu = true) (h_hng : bl .hng = true) (h_upd : bl .upd = true) (h_diag : bl .diag = true) :
    forget bl (latchWeld s) = forget bl s := by
  unfold latchWeld
  simp (disch := assumption) only [forget_setLatch, forget_shuEvent, forget_raise, forget_ite, ite_self]

@[simp] theorem forget_linStart {bl : Block → Bool} (s : State) (h_lin : bl .lin = true) :
    forget bl (linStart s) = forget bl s := by
  unfold linStart
  simp (disch := assumption) only [forget_setLin, forget_set_lin]

@[simp] theorem forget_loadRecord {bl : Block → Bool} (s : State) (h_recl : bl .recl = true) (h_inp : bl .inp = true)
    (h_cal : bl .cal = true) (h_led : bl .led = true) (h_hatch : bl .hatch = true) (h_par : bl .par = true)
    (h_shu : bl .shu = true) (h_veh : bl .veh = true) (h_hng : bl .hng = true) (h_upd : bl .upd = true)
    (h_diag : bl .diag = true) :
    forget bl (loadRecord s) = forget bl s := by
  unfold loadRecord
  (repeat' split) <;> simp (disch := assumption) only [forget_setCal, forget_metFault, forget_calDefaults, forget_raise,
      forget_applyRecord, forget_ite, ite_self]

@[simp] theorem forget_useSet {bl : Block → Bool} (c : SieveSet) (rom : Bool) (s : State) (h_sie : bl .sie = true)
    (h_par : bl .par = true) :
    forget bl (useSet c rom s) = forget bl s := by
  unfold useSet
  simp (disch := assumption) only [forget_setSie, forget_forceParam]

@[simp] theorem forget_loadSet {bl : Block → Bool} (setOk : Bool) (s : State) (h_sie : bl .sie = true) (h_led : bl .led = true)
    (h_par : bl .par = true) :
    forget bl (loadSet setOk s) = forget bl s := by
  unfold loadSet
  (repeat' split) <;> simp (disch := assumption) only [forget_setSie, forget_useSet, forget_raise]

@[simp] theorem forget_losePeer {bl : Block → Bool} (s : State) (h_hatch : bl .hatch = true) (h_hng : bl .hng = true)
    (h_diag : bl .diag = true) :
    forget bl (losePeer s) = forget bl s := by
  unfold losePeer
  simp (disch := assumption) only [forget_hngEvent, forget_setSynced, forget_setHng, forget_ite, ite_self]

@[simp] theorem forget_lowerWakeOut {bl : Block → Bool} (s : State) (h_nl : bl .nl = true) :
    forget bl (lowerWakeOut s) = forget bl s := by
  unfold lowerWakeOut
  simp (disch := assumption) only [forget_setNl, forget_ite, ite_self]

@[simp] theorem forget_mLost {bl : Block → Bool} (first : Nat) (last : Nat) (s : State) (h_met : bl .met = true)
    (h_led : bl .led = true) (h_hatch : bl .hatch = true) (h_diag : bl .diag = true) :
    forget bl (mLost first last s) = forget bl s := by
  unfold mLost
  simp (disch := assumption) only [forget_setMet, forget_logNow]

@[simp] theorem forget_mNext {bl : Block → Bool} (s : State) (h_clk : bl .clk = true) (h_met : bl .met = true)
    (h_led : bl .led = true) (h_hatch : bl .hatch = true) (h_hng : bl .hng = true) (h_diag : bl .diag = true) :
    forget bl (mNext s) = forget bl s := by
  unfold mNext
  repeat'
    first
    | (simp (disch := assumption) only [forget_mEpoch, forget_mLost, forget_ite, ite_self]; done)
    | split
    | simp (disch := assumption) only [forget_mLost, forget_ite]

@[simp] theorem forget_mChain {bl : Block → Bool} (n : Nat) (s : State) (h_clk : bl .clk = true) (h_met : bl .met = true)
    (h_led : bl .led = true) (h_hatch : bl .hatch = true) (h_hng : bl .hng = true) (h_diag : bl .diag = true) :
    forget bl (mChain n s) = forget bl s := by
  induction n generalizing s with
  | zero => rfl
  | succ n ih =>
    unfold mChain
    dsimp only
    split
    · rfl
    · exact (ih _).trans (forget_mNext s h_clk h_met h_led h_hatch h_hng h_diag)

@[simp] theorem forget_mainRow {bl : Block → Bool} (s : State) (h_sie : bl .sie = true) (h_led : bl .led = true) :
    forget bl (mainRow s) = forget bl s := by
  unfold mainRow
  simp (disch := assumption) only [forget_setSie, forget_saturated, forget_ite, ite_self]

@[simp] theorem forget_takeRoute {bl : Block → Bool} (link : Nat) (id : Nat) (b : List Byte) (s : State) (h_mc : bl .mc = true)
    (h_lin : bl .lin = true) :
    forget bl (takeRoute link id b s) = forget bl s := by
  unfold takeRoute
  (repeat' split) <;> simp (disch := assumption) only [forget_setLin, forget_sendRoute, forget_ite, ite_self]

@[simp] theorem forget_takePacket {bl : Block → Bool} (came : Option (Nat × Nat)) (full : Bool) (p : FabricPacket) (s : State)
    (h_led : bl .led = true) (h_bil : bl .bil = true) (h_hatch : bl .hatch = true) (h_shu : bl .shu = true)
    (h_veh : bl .veh = true) (h_con : bl .con = true) (h_mc : bl .mc = true) (h_lin : bl .lin = true)
    (h_upd : bl .upd = true) (h_nl : bl .nl = true) (h_diag : bl .diag = true) :
    forget bl (takePacket came full p s) = forget bl s := by
  unfold takePacket
  (repeat' split) <;> simp (disch := assumption) only [forget_deliverHere, forget_routePacket, forget_takeRoute]

@[simp] theorem forget_mcUp {bl : Block → Bool} (h : McHeader) (b : List Byte) (s : State) (h_led : bl .led = true)
    (h_bil : bl .bil = true) (h_hatch : bl .hatch = true) (h_shu : bl .shu = true) (h_veh : bl .veh = true)
    (h_con : bl .con = true) (h_mc : bl .mc = true) (h_lin : bl .lin = true) (h_upd : bl .upd = true) (h_nl : bl .nl = true)
    (h_diag : bl .diag = true) :
    forget bl (mcUp h b s) = forget bl s := by
  unfold mcUp
  (repeat' split) <;> simp (disch := assumption) only [forget_takePacket, forget_setMc, forget_ite, ite_self]

@[simp] theorem forget_oweAck {bl : Block → Bool} (dst : Nat) (seq : Nat) (bitmap : Nat) (snr : Nat) (s : State)
    (h_mc : bl .mc = true) :
    forget bl (oweAck dst seq bitmap snr s) = forget bl s := by
  unfold oweAck
  simp (disch := assumption) only [forget_setMc]

@[simp] theorem forget_mcCollect {bl : Block → Bool} (h : McHeader) (segs : List (Nat × List Byte)) (snr : Nat) (s : State)
    (h_led : bl .led = true) (h_bil : bl .bil = true) (h_hatch : bl .hatch = true) (h_shu : bl .shu = true)
    (h_veh : bl .veh = true) (h_con : bl .con = true) (h_mc : bl .mc = true) (h_lin : bl .lin = true)
    (h_upd : bl .upd = true) (h_nl : bl .nl = true) (h_diag : bl .diag = true) :
    forget bl (mcCollect h segs snr s) = forget bl s := by
  unfold mcCollect
  simp (disch := assumption) only [forget_mcUp, forget_setMc, forget_oweAck, forget_ite, ite_self]

@[simp] theorem forget_mcLearn {bl : Block → Bool} (h : HelloBlock) (s : State) (h_hatch : bl .hatch = true) (h_mc : bl .mc = true)
    (h_diag : bl .diag = true) :
    forget bl (mcLearn h s) = forget bl s := by
  unfold mcLearn
  simp (disch := assumption) only [forget_mcEventOf, forget_setMc, forget_ite, ite_self]

@[simp] theorem forget_mcOwnFrame {bl : Block → Bool} (type : Nat) (dst : Nat) (prio : Nat) (payload : List Byte) (s : State)
    (h_mc : bl .mc = true) :
    forget bl (mcOwnFrame type dst prio payload s) = forget bl s := by
  unfold mcOwnFrame
  simp (disch := assumption) only [forget_setMc, forget_mcQueue]

@[simp] theorem forget_mcWatch {bl : Block → Bool} (dst : Nat) (s : State) (h_nl : bl .nl = true) :
    forget bl (mcWatch dst s) = forget bl s := by
  unfold mcWatch
  simp (disch := assumption) only [forget_wakeSeen, forget_ite, ite_self]

@[simp] theorem forget_pushSettle {bl : Block → Bool} (s : State) (h_shu : bl .shu = true) (h_nl : bl .nl = true) :
    forget bl (pushSettle s) = forget bl s := by
  unfold pushSettle
  simp (disch := assumption) only [forget_setShu, forget_idleSample]

@[simp] theorem forget_wideStage {bl : Block → Bool} (ys : List Int) (s : State) (h_sie : bl .sie = true) (h_led : bl .led = true)
    (h_pq : bl .pq = true) :
    forget bl (wideStage ys s) = forget bl s := by
  unfold wideStage
  repeat'
    first
    | (simp (disch := assumption) only [forget_setPq, forget_saturatedAt, forget_setSie]; done)
    | split
    | simp (disch := assumption) only []

@[simp] theorem forget_midStages {bl : Block → Bool} (ys : List Int) (s : State) (h_sie : bl .sie = true) (h_led : bl .led = true)
    (h_shu : bl .shu = true) (h_pq : bl .pq = true) (h_nl : bl .nl = true) :
    forget bl (midStages ys s) = forget bl s := by
  unfold midStages
  simp (disch := assumption) only [forget_saturatedAt, forget_setSie, forget_pushSettle, forget_wideStage, forget_ite, ite_self]

@[simp] theorem forget_missBoundary {bl : Block → Bool} (s : State) (h_kiln : bl .kiln = true) :
    forget bl (missBoundary s) = forget bl s := by
  unfold missBoundary
  simp (disch := assumption) only [forget_setKiln]

@[simp] theorem forget_nextConversion {bl : Block → Bool} (s : State) (h_adc : bl .adc = true) :
    forget bl (nextConversion s) = forget bl s := by
  unfold nextConversion
  (repeat' split) <;> simp (disch := assumption) only [forget_setAdc]

@[simp] theorem forget_nextNumbers {bl : Block → Bool} (s : State) (h_led : bl .led = true) (h_pq : bl .pq = true) :
    forget bl (nextNumbers s) = forget bl s := by
  unfold nextNumbers
  simp (disch := assumption) only [forget_setPq, forget_setLed]

@[simp] theorem forget_nextRound {bl : Block → Bool} (f : McFrame) (lost : List Nat) (lower : Bool) (s : State)
    (h_hatch : bl .hatch = true) (h_mc : bl .mc = true) (h_lin : bl .lin = true) (h_diag : bl .diag = true) :
    forget bl (nextRound f lost lower s) = forget bl s := by
  unfold nextRound
  simp (disch := assumption) only [forget_failFrame, forget_startRound, forget_setMc, forget_downgrade, forget_ite, ite_self]

@[simp] theorem forget_offerBundle {bl : Block → Bool} (id : Nat) (s : State) (h_mc : bl .mc = true) (h_lin : bl .lin = true)
    (h_upd : bl .upd = true) :
    forget bl (offerBundle id s) = forget bl s := by
  unfold offerBundle
  simp only [h_mc, h_lin, h_upd, forget_sendChain, forget_ite, ite_self, forget_foldl, implies_true]

@[simp] theorem forget_offerTo {bl : Block → Bool} (dst : Nat) (s : State) (h_mc : bl .mc = true) (h_lin : bl .lin = true)
    (h_upd : bl .upd = true) :
    forget bl (offerTo dst s) = forget bl s := by
  unfold offerTo
  (repeat' split) <;> simp (disch := assumption) only [forget_sendChain]

@[simp] theorem forget_onCrossing {bl : Block → Bool} (pos : Int) (s : State) (h_pq : bl .pq = true) :
    forget bl (onCrossing pos s) = forget bl s := by
  unfold onCrossing
  simp (disch := assumption) only [forget_setPq]

@[simp] theorem forget_openDirty {bl : Block → Bool} (d : Drive) (s : State) (h_disp : bl .disp = true) :
    forget bl (openDirty d s) = forget bl s := by
  unfold openDirty
  simp (disch := assumption) only [forget_setDisp, forget_ite, ite_self]

@[simp] theorem forget_outputsOff {bl : Block → Bool} (s : State) (h_clk : bl .clk = true) (h_pwr : bl .pwr = true)
    (h_hatch : bl .hatch = true) (h_shu : bl .shu = true) (h_pq : bl .pq = true) (h_lsw : bl .lsw = true)
    (h_nl : bl .nl = true) (h_diag : bl .diag = true) :
    forget bl (outputsOff s) = forget bl s := by
  unfold outputsOff
  simp (disch := assumption) only [forget_allOff, forget_deenergise, forget_stopPwm, forget_set_pwr_lsw]

@[simp] theorem forget_pBlock {bl : Block → Bool} (b : PqBlock) (s : State) (h_pq : bl .pq = true) :
    forget bl (pBlock b s) = forget bl s := by
  unfold pBlock
  simp (disch := assumption) only [forget_setPq, forget_ite, ite_self]

@[simp] theorem forget_pWindow {bl : Block → Bool} (d : PqDue) (s : State) (h_clk : bl .clk = true) (h_pq : bl .pq = true) :
    forget bl (pWindow d s) = forget bl s := by
  unfold pWindow
  simp (disch := assumption) only [forget_setPq, forget_set_clk_pq, forget_ite, ite_self]

@[simp] theorem forget_pTask {bl : Block → Bool} (epoch : Nat) (part : Nat) (s : State) (h_clk : bl .clk = true)
    (h_pq : bl .pq = true) :
    forget bl (pTask epoch part s) = forget bl s := by
  unfold pTask
  (repeat' split) <;> simp (disch := assumption) only [forget_pWindow, forget_pBlock]

@[simp] theorem forget_pageTorn {bl : Block → Bool} (p : Nat) (s : State) (h_con : bl .con = true) :
    forget bl (pageTorn p s) = forget bl s := by
  unfold pageTorn
  simp (disch := assumption) only [forget_set_con]

@[simp] theorem forget_pairFirst {bl : Block → Bool} (peer : Nat) (s : State) (h_hng : bl .hng = true) (h_upd : bl .upd = true) :
    forget bl (pairFirst peer s) = forget bl s := by
  unfold pairFirst
  simp (disch := assumption) only [forget_setUpd, forget_writeRecord, forget_setHng, forget_ite, ite_self]

@[simp] theorem forget_pairLast {bl : Block → Bool} (peer : Nat) (s : State) (h_hng : bl .hng = true) (h_upd : bl .upd = true) :
    forget bl (pairLast peer s) = forget bl s := by
  unfold pairLast
  simp (disch := assumption) only [forget_setUpd, forget_writeRecord, forget_setHng, forget_ite, ite_self]

@[simp] theorem forget_passBundle {bl : Block → Bool} (s : State) (h_upd : bl .upd = true) :
    forget bl (passBundle s) = forget bl s := by
  unfold passBundle
  simp (disch := assumption) only [forget_setUpd]

@[simp] theorem forget_setChan {bl : Block → Bool} (c : Nat) (f : HatchChan → HatchChan) (s : State) (h_hatch : bl .hatch = true) :
    forget bl (setChan c f s) = forget bl s := by
  unfold setChan
  simp (disch := assumption) only [forget_setHatch]

theorem forget_place {bl : Block → Bool} (c flags op q : Nat) (payload : List Byte) (isReply : Bool) (s t : State)
    (h_hatch : bl .hatch = true) (h : place c flags op q payload isReply s = some t) : forget bl t = forget bl s := by
  unfold place at h
  dsimp only at h
  split at h
  · cases h
    simp (disch := assumption) only [forget_setChan]
  · cases h

@[simp] theorem forget_placeNote {bl : Block → Bool} (c : Nat) (n : Note) (s : State) (h_hatch : bl .hatch = true) :
    forget bl (placeNote c n s) = forget bl s := by
  unfold placeNote
  split
  · next t h =>
    rw [forget_setChan _ _ _ h_hatch, forget_setHatch _ _ h_hatch, forget_place _ _ _ _ _ _ _ _ h_hatch h]
  · rfl

@[simp] theorem forget_placeReply {bl : Block → Bool} (c : Nat) (r : Reply) (s : State) (h_hatch : bl .hatch = true) :
    forget bl (placeReply c r s) = forget bl s := by
  unfold placeReply
  split
  · next t h => rw [forget_setHatch _ _ h_hatch, forget_place _ _ _ _ _ _ _ _ h_hatch h]
  · rfl

@[simp] theorem forget_pollSlot {bl : Block → Bool} (period : Tick) (s : State) (h_clk : bl .clk = true) (h_con : bl .con = true) :
    forget bl (pollSlot period s) = forget bl s := by
  unfold pollSlot
  simp (disch := assumption) only [forget_setCon, forget_advanceTo]

@[simp] theorem forget_pqHoldup {bl : Block → Bool} (s : State) (h_clk : bl .clk = true) (h_hatch : bl .hatch = true)
    (h_pq : bl .pq = true) (h_diag : bl .diag = true) :
    forget bl (pqHoldup s) = forget bl s := by
  unfold pqHoldup
  repeat'
    first
    | (simp (disch := assumption) only [forget_setPq, forget_pqAdd, forget_takeFree, forget_pqEndOthers, forget_ite]; done)
    | split

@[simp] theorem forget_rfAnswer {bl : Block → Bool} (a : RfAnswer) (s : State) (h_con : bl .con = true) :
    forget bl (rfAnswer a s) = forget bl s := by
  unfold rfAnswer
  simp (disch := assumption) only [forget_setCon]

@[simp] theorem forget_present {bl : Block → Bool} (bit : Nat) (value : Nat) (cut : Bool) (s : State) (h_hatch : bl .hatch = true)
    (h_con : bl .con = true) (h_diag : bl .diag = true) :
    forget bl (present bit value cut s) = forget bl s := by
  unfold present
  simp (disch := assumption) only [forget_lbEvent, forget_fieldGone, forget_setCon, forget_rfAnswer, forget_ite, ite_self]

@[simp] theorem forget_proofResults {bl : Block → Bool} (linkOk : Bool) (claimOk : Bool) (diff : Int) (replicaOk : Bool)
    (crossOk : Bool) (rcmOk : Bool) (shorted : Bool) (s : State) (h_clk : bl .clk = true) (h_recl : bl .recl = true)
    (h_led : bl .led = true) (h_hatch : bl .hatch = true) (h_shu : bl .shu = true) (h_pq : bl .pq = true)
    (h_veh : bl .veh = true) (h_hng : bl .hng = true) (h_upd : bl .upd = true) (h_nl : bl .nl = true)
    (h_diag : bl .diag = true) :
    forget bl (proofResults linkOk claimOk diff replicaOk crossOk rcmOk shorted s) = forget bl s := by
  unfold proofResults
  (repeat' split) <;> simp (disch := assumption) only [forget_hngEvent, forget_tripPlain, forget_setSynced, forget_setHng, forget_ite,
      ite_self]

@[simp] theorem forget_putHello {bl : Block → Bool} (link : Nat) (h : HelloBlock) (s : State) (h_lin : bl .lin = true) :
    forget bl (putHello link h s) = forget bl s := by
  unfold putHello
  simp (disch := assumption) only [forget_setLin, forget_setNeighbour, forget_ite, ite_self]

@[simp] theorem forget_putImage {bl : Block → Bool} (x : HingeImage) (s : State) (h_met : bl .met = true) (h_led : bl .led = true)
    (h_bil : bl .bil = true) :
    forget bl (putImage x s) = forget bl s := by
  unfold putImage
  simp (disch := assumption) only [forget_setBil, forget_setLed, forget_setMet]

@[simp] theorem forget_putKey {bl : Block → Bool} (path : Nat) (slot : Nat) (type : Nat) (attr : Nat) (usesMax : Nat)
    (key : List Byte) (sender : Nat) (s : State) (h_led : bl .led = true) (h_hatch : bl .hatch = true)
    (h_sag : bl .sag = true) (h_diag : bl .diag = true) :
    forget bl (putKey path slot type attr usesMax key sender s).state = forget bl s := by
  unfold putKey
  repeat'
    first
    | (simp (disch := assumption) only [forget_setSag, forget_sagEvent, forget_logNowF, forget_answer, forget_refuse]; done)
    | split
    | simp (disch := assumption) only []

@[simp] theorem forget_readAs {bl : Block → Bool} (w : Nat) (s : State) (h_hatch : bl .hatch = true) :
    forget bl (readAs w s) = forget bl s := by
  unfold readAs
  simp (disch := assumption) only [forget_setHatch]

@[simp] theorem forget_readBlocks {bl : Block → Bool} (first : Nat) (n : Nat) (s : State) (h_con : bl .con = true) :
    forget bl (readBlocks first n s) = forget bl s := by
  unfold readBlocks
  simp (disch := assumption) only [forget_rfAnswer, forget_ite, ite_self]

@[simp] theorem forget_relay {bl : Block → Bool} (msg : Nat) (body : List Byte) (s : State) (h_hatch : bl .hatch = true)
    (h_veh : bl .veh = true) (h_diag : bl .diag = true) :
    forget bl (relay msg body s) = forget bl s := by
  unfold relay
  simp (disch := assumption) only [forget_setVeh, forget_answerV, forget_notify]

@[simp] theorem forget_replayJournal {bl : Block → Bool} (s : State) (h_clk : bl .clk = true) (h_met : bl .met = true)
    (h_led : bl .led = true) (h_hatch : bl .hatch = true) (h_con : bl .con = true) (h_diag : bl .diag = true) :
    forget bl (replayJournal s) = forget bl s := by
  unfold replayJournal
  simp only [h_clk, h_met, h_led, h_hatch, h_con, h_diag, forget_closeCheck, forget_writeCkpt, forget_logReplay, forget_takeFree,
      forget_setMet, forget_set_clk, forget_ite, ite_self, forget_foldl, implies_true]

@[simp] theorem forget_resetEdge {bl : Block → Bool} (mask : Nat) (sender : Nat) (s : State) (h_led : bl .led = true)
    (h_hatch : bl .hatch = true) (h_shu : bl .shu = true) (h_diag : bl .diag = true) :
    forget bl (resetEdge mask sender s).state = forget bl s := by
  unfold resetEdge
  simp (disch := assumption) only [forget_clearLatches, forget_setShu, forget_ite, ite_self]

@[simp] theorem forget_roundWindow {bl : Block → Bool} (f : McFrame) (s : State) (h_pq : bl .pq = true) (h_mc : bl .mc = true)
    (h_lin : bl .lin = true) :
    forget bl (roundWindow f s) = forget bl s := by
  unfold roundWindow
  simp (disch := assumption) only [forget_setMc, forget_setMcN, forget_endExchange, forget_burstSent, forget_ite, ite_self]

@[simp] theorem forget_watchDcStop {bl : Block → Bool} (s : State) (h_clk : bl .clk = true) (h_veh : bl .veh = true) :
    forget bl (watchDcStop s) = forget bl s := by
  unfold watchDcStop
  simp (disch := assumption) only [forget_pmStop, forget_ite, ite_self]

@[simp] theorem forget_watchCp {bl : Block → Bool} (s : State) (h_clk : bl .clk = true) (h_led : bl .led = true)
    (h_bil : bl .bil = true) (h_hatch : bl .hatch = true) (h_shu : bl .shu = true) (h_veh : bl .veh = true)
    (h_mc : bl .mc = true) (h_lin : bl .lin = true) (h_diag : bl .diag = true) :
    forget bl (watchCp s) = forget bl s := by
  unfold watchCp
  simp (disch := assumption) only [forget_kilnCp, forget_ite, ite_self]

@[simp] theorem forget_watchOffer {bl : Block → Bool} (s : State) (h_hatch : bl .hatch = true) (h_veh : bl .veh = true)
    (h_diag : bl .diag = true) :
    forget bl (watchOffer s) = forget bl s := by
  unfold watchOffer
  simp (disch := assumption) only [forget_setVeh, forget_vehEvent, forget_ite, ite_self]

@[simp] theorem forget_watchTransfer {bl : Block → Bool} (s : State) (h_hatch : bl .hatch = true) (h_veh : bl .veh = true)
    (h_diag : bl .diag = true) :
    forget bl (watchTransfer s) = forget bl s := by
  unfold watchTransfer
  simp (disch := assumption) only [forget_setVeh, forget_vehEvent, forget_ite, ite_self]

@[simp] theorem forget_watchOverdraw {bl : Block → Bool} (s : State) (h_veh : bl .veh = true) :
    forget bl (watchOverdraw s) = forget bl s := by
  unfold watchOverdraw
  simp (disch := assumption) only [forget_setVeh]

@[simp] theorem forget_vehicleEpoch {bl : Block → Bool} (e : Nat) (s : State) (h_clk : bl .clk = true) (h_led : bl .led = true)
    (h_bil : bl .bil = true) (h_hatch : bl .hatch = true) (h_shu : bl .shu = true) (h_kiln : bl .kiln = true)
    (h_veh : bl .veh = true) (h_mc : bl .mc = true) (h_lin : bl .lin = true) (h_diag : bl .diag = true) :
    forget bl (vehicleEpoch e s) = forget bl s := by
  unfold vehicleEpoch
  simp (disch := assumption) only [forget_updateLimits, forget_freeVend, forget_watchDcStop, forget_askPilot, forget_watchCp,
      forget_watchOffer, forget_watchTransfer, forget_watchOverdraw, forget_set_kiln, forget_ite, ite_self]

@[simp] theorem forget_runTask {bl : Block → Bool} (t : Machine.Task) (s : State) (h_clk : bl .clk = true) (h_met : bl .met = true)
    (h_led : bl .led = true) (h_bil : bl .bil = true) (h_hatch : bl .hatch = true) (h_shu : bl .shu = true)
    (h_pq : bl .pq = true) (h_kiln : bl .kiln = true) (h_veh : bl .veh = true) (h_con : bl .con = true)
    (h_mc : bl .mc = true) (h_lin : bl .lin = true) (h_hng : bl .hng = true) (h_diag : bl .diag = true) :
    forget bl (runTask t s) = forget bl s := by
  unfold runTask
  dsimp only
  repeat' split
  all_goals simp (disch := assumption) only [forget_mChain, forget_armBoundaries, forget_acceptResult, forget_lChain,
      forget_vehicleEpoch,
    forget_pTask]

@[simp] theorem forget_sealRefuse {bl : Block → Bool} (s : State) (h_cal : bl .cal = true) :
    forget bl (sealRefuse s).state = forget bl s := by
  unfold sealRefuse
  simp (disch := assumption) only [forget_setCal, forget_refuse]

@[simp] theorem forget_sendSchedule {bl : Block → Bool} (s : State) (h_veh : bl .veh = true) :
    forget bl (sendSchedule s) = forget bl s := by
  unfold sendSchedule
  simp (disch := assumption) only [forget_setVeh]

@[simp] theorem forget_setCf {bl : Block → Bool} (q : Bool) (o : CfOut) (s : State) (h_cal : bl .cal = true) :
    forget bl (setCf q o s) = forget bl s := by
  unfold setCf
  simp (disch := assumption) only [forget_setCal]

@[simp] theorem forget_setPm {bl : Block → Bool} (n : Nat) (f : PowerModule → PowerModule) (s : State) (h_veh : bl .veh = true) :
    forget bl (setPm n f s) = forget bl s := by
  unfold setPm
  simp (disch := assumption) only [forget_setVeh]

@[simp] theorem forget_setPwr {bl : Block → Bool} (f : Power → Power) (s : State) (h_pwr : bl .pwr = true) :
    forget bl (setPwr f s) = forget bl s := by
  unfold setPwr
  simp (disch := assumption) only [forget_set_pwr]

@[simp] theorem forget_setRs {bl : Block → Bool} (f : Rs485 → Rs485) (s : State) (h_rs : bl .rs = true) :
    forget bl (setRs f s) = forget bl s := by
  unfold setRs
  simp (disch := assumption) only [forget_set_rs]

@[simp] theorem forget_setTargets {bl : Block → Bool} (v : Nat) (i : Int) (s : State) (h_veh : bl .veh = true) :
    forget bl (setTargets v i s) = forget bl s := by
  unfold setTargets
  simp (disch := assumption) only [forget_setVeh]

@[simp] theorem forget_shBoundary {bl : Block → Bool} (e : Nat) (s : State) (h_pq : bl .pq = true) :
    forget bl (shBoundary e s) = forget bl s := by
  unfold shBoundary
  repeat'
    first
    | (simp (disch := assumption) only [forget_setPq, forget_ite]; done)
    | split
    | simp (disch := assumption) only []

@[simp] theorem forget_shuDefaults {bl : Block → Bool} (s : State) (h_par : bl .par = true) :
    forget bl (shuDefaults s) = forget bl s := by
  unfold shuDefaults
  simp (disch := assumption) only [forget_set_par]

@[simp] theorem forget_slacStep {bl : Block → Bool} (m : SlacMsg) (s : State) (h_hatch : bl .hatch = true) (h_shu : bl .shu = true)
    (h_veh : bl .veh = true) (h_diag : bl .diag = true) :
    forget bl (slacStep m s) = forget bl s := by
  unfold slacStep
  (repeat' split) <;> simp (disch := assumption) only [forget_setVeh, forget_answered, forget_askPilot]

@[simp] theorem forget_stageShort {bl : Block → Bool} (shorted : Bool) (s : State) (h_hatch : bl .hatch = true)
    (h_hng : bl .hng = true) (h_diag : bl .diag = true) :
    forget bl (stageShort shorted s) = forget bl s := by
  unfold stageShort
  simp (disch := assumption) only [forget_setSynced, forget_setHng, forget_ite, ite_self]

@[simp] theorem forget_stallOver {bl : Block → Bool} (s : State) (h_clk : bl .clk = true) :
    forget bl (stallOver s) = forget bl s := by
  unfold stallOver
  (repeat' split) <;> simp (disch := assumption) only [forget_advanceTo]

@[simp] theorem forget_startCableCheck {bl : Block → Bool} (s : State) (h_hatch : bl .hatch = true) (h_shu : bl .shu = true)
    (h_veh : bl .veh = true) (h_diag : bl .diag = true) :
    forget bl (startCableCheck s) = forget bl s := by
  unfold startCableCheck
  simp (disch := assumption) only [forget_setVeh, forget_askPilot]

@[simp] theorem forget_startCivil {bl : Block → Bool} (s : State) (h_bil : bl .bil = true) :
    forget bl (startCivil s) = forget bl s := by
  unfold startCivil
  simp (disch := assumption) only [forget_set_bil]

@[simp] theorem forget_startEvent {bl : Block → Bool} (type : Nat) (phases : Nat) (ext : Nat × Nat) (thrEnd : Nat) (r : Refresh)
    (s : State) (h_clk : bl .clk = true) (h_hatch : bl .hatch = true) (h_pq : bl .pq = true) (h_diag : bl .diag = true) :
    forget bl (startEvent type phases ext thrEnd r s).2 = forget bl s := by
  unfold startEvent
  simp (disch := assumption) only [forget_pqAdd, forget_takeFree]

@[simp] theorem forget_startupTest {bl : Block → Bool} (codes : List Int) (s : State) (h_recl : bl .recl = true)
    (h_inp : bl .inp = true) (h_led : bl .led = true) (h_hatch : bl .hatch = true) (h_shu : bl .shu = true)
    (h_veh : bl .veh = true) (h_hng : bl .hng = true) (h_upd : bl .upd = true) (h_diag : bl .diag = true) :
    forget bl (startupTest codes s) = forget bl s := by
  unfold startupTest
  simp only [h_recl, h_inp, h_led, h_hatch, h_shu, h_veh, h_hng, h_upd, h_diag, forget_setInp, forget_faultAbsent,
      forget_settleSwitch, forget_metFault, forget_raise, forget_foldl, implies_true]

@[simp] theorem forget_stepDip {bl : Block → Bool} (r : Refresh) (s : State) (h_clk : bl .clk = true) (h_hatch : bl .hatch = true)
    (h_pq : bl .pq = true) (h_diag : bl .diag = true) :
    forget bl (stepDip r s) = forget bl s := by
  unfold stepDip
  (repeat' split) <;> simp (disch := assumption) only [forget_setPq, forget_startEvent, forget_followEvent, forget_ite, ite_self]

@[simp] theorem forget_stepIntr {bl : Block → Bool} (r : Refresh) (s : State) (h_clk : bl .clk = true) (h_hatch : bl .hatch = true)
    (h_pq : bl .pq = true) (h_diag : bl .diag = true) :
    forget bl (stepIntr r s) = forget bl s := by
  unfold stepIntr
  (repeat' split) <;> simp (disch := assumption) only [forget_setPq, forget_startEvent, forget_followEvent]

@[simp] theorem forget_stepRvc {bl : Block → Bool} (r : Refresh) (s : State) (h_clk : bl .clk = true) (h_hatch : bl .hatch = true)
    (h_pq : bl .pq = true) (h_diag : bl .diag = true) :
    forget bl (stepRvc r s) = forget bl s := by
  unfold stepRvc
  repeat'
    first
    | (simp (disch := assumption) only [forget_setPq, forget_endRvc, forget_ite, ite_self]; done)
    | split
    | simp (disch := assumption) only []

@[simp] theorem forget_stepSwell {bl : Block → Bool} (r : Refresh) (s : State) (h_clk : bl .clk = true) (h_hatch : bl .hatch = true)
    (h_pq : bl .pq = true) (h_diag : bl .diag = true) :
    forget bl (stepSwell r s) = forget bl s := by
  unfold stepSwell
  (repeat' split) <;> simp (disch := assumption) only [forget_setPq, forget_startEvent, forget_followEvent, forget_ite, ite_self]

@[simp] theorem forget_stopTransfer {bl : Block → Bool} (s : State) (h_hatch : bl .hatch = true) (h_shu : bl .shu = true)
    (h_veh : bl .veh = true) (h_diag : bl .diag = true) :
    forget bl (stopTransfer s) = forget bl s := by
  unfold stopTransfer
  simp (disch := assumption) only [forget_stopBegun, forget_setVeh, forget_askShutter, forget_ite, ite_self]

@[simp] theorem forget_storeTamp {bl : Block → Bool} (old : Nat) (new : Nat) (s : State) (h_nl : bl .nl = true) :
    forget bl (storeTamp old new s) = forget bl s := by
  unfold storeTamp
  simp only [h_nl, forget_set_nl, forget_ite, ite_self, forget_foldl, implies_true]

@[simp] theorem forget_streamChecks {bl : Block → Bool} (runs : List Nat) (s : State) (h_recl : bl .recl = true)
    (h_inp : bl .inp = true) (h_led : bl .led = true) (h_hatch : bl .hatch = true) (h_shu : bl .shu = true)
    (h_veh : bl .veh = true) (h_hng : bl .hng = true) (h_upd : bl .upd = true) (h_diag : bl .diag = true) :
    forget bl (streamChecks runs s) = forget bl s := by
  unfold streamChecks
  simp only [h_recl, h_inp, h_led, h_hatch, h_shu, h_veh, h_hng, h_upd, h_diag, forget_faultAbsent, forget_metFault, forget_ite,
      ite_self, forget_foldl, implies_true]

@[simp] theorem forget_takeBits {bl : Block → Bool} (bits : List Nat) (s : State) (h_recl : bl .recl = true) (h_inp : bl .inp = true)
    (h_sie : bl .sie = true) (h_led : bl .led = true) (h_hatch : bl .hatch = true) (h_shu : bl .shu = true)
    (h_veh : bl .veh = true) (h_hng : bl .hng = true) (h_upd : bl .upd = true) (h_diag : bl .diag = true) :
    forget bl (takeBits bits s) = forget bl s := by
  unfold takeBits
  simp (disch := assumption) only [forget_setInp, forget_setSie, forget_streamChecks]

@[simp] theorem forget_takeHello {bl : Block → Bool} (link : Nat) (h : HelloBlock) (s : State) (h_hatch : bl .hatch = true)
    (h_mc : bl .mc = true) (h_lin : bl .lin = true) (h_upd : bl .upd = true) (h_diag : bl .diag = true) :
    forget bl (takeHello link h s) = forget bl s := by
  unfold takeHello
  simp (disch := assumption) only [forget_putHello, forget_conflictCheck, forget_offerTo, forget_linEvent, forget_rebuildTree,
      forget_ite, ite_self]

@[simp] theorem forget_tampOfOutage {bl : Block → Bool} (x : Nat × State) (c : Nat × Bool × Int) (h_clk : bl .clk = true)
    (h_led : bl .led = true) (h_hatch : bl .hatch = true) (h_shu : bl .shu = true) (h_sag : bl .sag = true)
    (h_veh : bl .veh = true) (h_diag : bl .diag = true) :
    forget bl (tampOfOutage x c).2 = forget bl x.2 := by
  unfold tampOfOutage
  dsimp only
  repeat' split
  all_goals simp (disch := assumption) only [forget_setSag, forget_tamperBegin, forget_tamperEnd, forget_storeEvent]

@[simp] theorem forget_takeOutage {bl : Block → Bool} (s : State) (h_clk : bl .clk = true) (h_led : bl .led = true)
    (h_hatch : bl .hatch = true) (h_shu : bl .shu = true) (h_sag : bl .sag = true) (h_veh : bl .veh = true)
    (h_nl : bl .nl = true) (h_diag : bl .diag = true) :
    forget bl (takeOutage s) = forget bl s := by
  have h_fold : ∀ (l : List (Nat × Bool × Int)) (p : Nat × State), forget bl (l.foldl tampOfOutage p).2 = forget bl p.2 :=
      by
    intro l
    induction l with
    | nil => intro p; rfl
    | cons a l ih =>
      intro p
      rw [List.foldl_cons, ih]
      exact forget_tampOfOutage _ _ h_clk h_led h_hatch h_shu h_sag h_veh h_diag
  unfold takeOutage
  dsimp only
  split
  · rfl
  · rw [forget_setNl _ _ h_nl, h_fold]

@[simp] theorem forget_takeRequest {bl : Block → Bool} (p : ShuReq → Bool) (s : State) (h_clk : bl .clk = true)
    (h_shu : bl .shu = true) :
    forget bl (takeRequest p s) = forget bl s := by
  unfold takeRequest
  (repeat' split) <;> simp (disch := assumption) only [forget_advanceTo, forget_set_shu]

@[simp] theorem forget_takeSample {bl : Block → Bool} (row : MainRow) (next : List Int) (halted : Bool) (s : State)
    (h_inp : bl .inp = true) (h_sie : bl .sie = true) (h_met : bl .met = true) (h_cal : bl .cal = true)
    (h_pq : bl .pq = true) :
    forget bl (takeSample row next halted s) = forget bl s := by
  unfold takeSample
  repeat'
    first
    | (simp (disch := assumption) only [forget_growSeg, forget_setSie, forget_cutSeg, forget_setMet, forget_onCrossing,
        forget_countInvalid, forget_forgetSwitches, forget_applyTime, forget_ite, ite_self]; done)
    | split
    | simp (disch := assumption) only [forget_growSeg, forget_cutSeg, forget_setMet, forget_countInvalid, forget_forgetSwitches,
        forget_ite, ite_self]

@[simp] theorem forget_tcCompute {bl : Block → Bool} (temp : Int) (e : Nat) (s : State) (h_cal : bl .cal = true) :
    forget bl (tcCompute temp e s) = forget bl s := by
  unfold tcCompute
  repeat'
    first
    | (simp (disch := assumption) only [forget_setCal, forget_ite]; done)
    | split
    | simp (disch := assumption) only []

@[simp] theorem forget_timeAdjust {bl : Block → Bool} (old : Int) (new : Int) (action : Nat) (sender : Nat) (s : State)
    (h_led : bl .led = true) (h_hatch : bl .hatch = true) (h_diag : bl .diag = true) :
    forget bl (timeAdjust old new action sender s) = forget bl s := by
  unfold timeAdjust
  simp (disch := assumption) only [forget_logNowF]

@[simp] theorem forget_trialMode {bl : Block → Bool} (s : State) (h_mode : bl .mode = true) (h_led : bl .led = true)
    (h_hatch : bl .hatch = true) (h_upd : bl .upd = true) (h_diag : bl .diag = true) :
    forget bl (trialMode s) = forget bl s := by
  unfold trialMode
  simp (disch := assumption) only [forget_confirmTrial, forget_updEvent, forget_setUpd, forget_writeRecord, forget_logNow, forget_ite,
      ite_self]

@[simp] theorem forget_urgentRequest {bl : Block → Bool} (c : Conversion) (busy : Nat) (conv : Bool) (s : State)
    (h_adc : bl .adc = true) :
    forget bl (urgentRequest c busy conv s) = forget bl s := by
  unfold urgentRequest
  (repeat' split) <;> simp (disch := assumption) only [forget_setAdc]

@[simp] theorem forget_v2gStep {bl : Block → Bool} (m : V2GMsg) (s : State) (h_clk : bl .clk = true) (h_led : bl .led = true)
    (h_bil : bl .bil = true) (h_hatch : bl .hatch = true) (h_shu : bl .shu = true) (h_sag : bl .sag = true)
    (h_veh : bl .veh = true) (h_mc : bl .mc = true) (h_lin : bl .lin = true) (h_diag : bl .diag = true) :
    forget bl (v2gStep m s) = forget bl s := by
  unfold v2gStep
  (repeat' split) <;> simp (disch := assumption) only [forget_updateLimits, forget_stopTransfer, forget_setVeh, forget_setTargets,
      forget_answerV, forget_handshake, forget_freeVend, forget_sendSchedule, forget_askPilot, forget_forwardAuth, forget_startCableCheck,
      forget_askShutter, forget_endSession, forget_relay, forget_set_clk, forget_ite, ite_self]

@[simp] theorem forget_viewWrite {bl : Block → Bool} (s : State) (a : Nat) (b : Byte) (h_hatch : bl .hatch = true)
    (h_dma : bl .dma = true) :
    forget bl (viewWrite s a b) = forget bl s := by
  unfold viewWrite
  simp (disch := assumption) only [forget_set_hatch, forget_set_dma, forget_ite, ite_self]

@[simp] theorem forget_viewWriteList {bl : Block → Bool} (s : State) (a : Nat) (l : List Byte) (h_hatch : bl .hatch = true)
    (h_dma : bl .dma = true) : forget bl (viewWriteList s a l) = forget bl s := by
  induction l generalizing s a with
  | nil => rfl
  | cons b l ih => exact (ih _ _).trans (forget_viewWrite s a b h_hatch h_dma)

@[simp] theorem forget_wakeOut {bl : Block → Bool} (src : Nat) (s : State) (h_nl : bl .nl = true) :
    forget bl (wakeOut src s) = forget bl s := by
  unfold wakeOut
  simp (disch := assumption) only [forget_setNl, forget_ite, ite_self]

@[simp] theorem forget_wedgeBoundary {bl : Block → Bool} (s : State) (h_kiln : bl .kiln = true) :
    forget bl (wedgeBoundary s) = forget bl s := by
  unfold wedgeBoundary
  simp (disch := assumption) only [forget_setKiln, forget_ite, ite_self]

@[simp] theorem forget_weldTest {bl : Block → Bool} (s : State) (h_led : bl .led = true) (h_hatch : bl .hatch = true)
    (h_shu : bl .shu = true) (h_hng : bl .hng = true) (h_upd : bl .upd = true) (h_diag : bl .diag = true) :
    forget bl (weldTest s) = forget bl s := by
  unfold weldTest
  simp (disch := assumption) only [forget_latchWeld, forget_ite, ite_self]

@[simp] theorem forget_writeAck {bl : Block → Bool} (c : Nat) (code : Nat) (q : Nat) (s : State) (h_hatch : bl .hatch = true) :
    forget bl (writeAck c code q s) = forget bl s := by
  unfold writeAck
  simp (disch := assumption) only [forget_setChan]

@[simp] theorem forget_writeBlocks {bl : Block → Bool} (first : Nat) (data : List Byte) (fate : Nat) (s : State)
    (h_hatch : bl .hatch = true) (h_con : bl .con = true) (h_diag : bl .diag = true) :
    forget bl (writeBlocks first data fate s) = forget bl s := by
  unfold writeBlocks
  simp (disch := assumption) only [forget_lbEvent, forget_fieldGone, forget_pageWrite, forget_rfAnswer, forget_present, forget_pageTorn,
      forget_ite, ite_self]

@[simp] theorem forget_writeReset {bl : Block → Bool} (r : Req) (mask : Nat) (d : List Nat) (s : State) (h_met : bl .met = true)
    (h_led : bl .led = true) :
    forget bl (writeReset r mask d s) = forget bl s := by
  unfold writeReset
  simp (disch := assumption) only [forget_setLed, forget_setMet, forget_ite, ite_self]

@[simp] theorem forget_writeSuper {bl : Block → Bool} (s : State) (h_led : bl .led = true) :
    forget bl (writeSuper s) = forget bl s := by
  unfold writeSuper
  simp (disch := assumption) only [forget_setLed]

@[simp] theorem forget_wrongPassword {bl : Block → Bool} (snd : Nat) (s : State) (h_hatch : bl .hatch = true) (h_shu : bl .shu = true)
    (h_diag : bl .diag = true) :
    forget bl (wrongPassword snd s) = forget bl s := by
  unfold wrongPassword
  simp (disch := assumption) only [forget_changeLog, forget_setShu, forget_shuEvent, forget_ite, ite_self]

@[simp] theorem forget_yieldWindows {bl : Block → Bool} (s : State) (h_mc : bl .mc = true) :
    forget bl (yieldWindows s) = forget bl s := by
  unfold yieldWindows
  simp (disch := assumption) only [forget_setMc]

@[simp] theorem forget_dMove {bl : Block → Bool} (ws : List Nat) (e : Nat) (s : State) (h_hatch : bl .hatch = true)
    (h_dma : bl .dma = true) : forget bl (dMove ws e s).1 = forget bl s :=
  forget_viewWriteList _ _ _ h_hatch h_dma

@[simp] theorem forget_dMoveN {bl : Block → Bool} (n : Nat) (r : Running) (s : State) (h_hatch : bl .hatch = true)
    (h_dma : bl .dma = true) : forget bl (dMoveN n r s).1 = forget bl s := by
  induction n generalizing r s with
  | zero => rfl
  | succ n ih =>
    unfold dMoveN
    split
    · exact (ih _ _).trans (forget_dMove _ _ _ h_hatch h_dma)
    · rfl

/-! The shapes of a meaning. -/

/-- A conditional command changes what its effect changes. -/
theorem forget_whenever {bl : Block → Bool} (c : Bool) (s t : State) (f : State → State) (h : whenever c s f = .next t)
    (h_f : ∀ u, forget bl (f u) = forget bl u) : forget bl t = forget bl s := by
  unfold whenever at h
  cases h
  split
  · exact h_f s
  · rfl

/-- A request changes what its chapter's body changes, and what its reply can reach. -/
theorem forget_brixo {bl : Block → Bool} (code : Nat) (r : Req) (s t : State) (f : State → Answer)
    (h : brixo code r s f = .next t) (h_hatch : bl .hatch = true) (h_con : bl .con = true) (h_mc : bl .mc = true)
    (h_lin : bl .lin = true) (h_diag : bl .diag = true) (h_f : ∀ u, forget bl (f u).state = forget bl u) :
    forget bl t = forget bl s := by
  unfold brixo at h
  split at h
  · split at h
    · cases h
      exact forget_reply _ _ _ _ _ h_hatch h_con h_mc h_lin h_diag
    · cases h
      split
      · exact (forget_reply _ _ _ _ _ h_hatch h_con h_mc h_lin h_diag).trans (h_f s)
      · exact h_f s
  · cases h
    rfl

/-- A command that is run for its effect alone changes what its meaning changes. -/
theorem forget_after {bl : Block → Bool} (o : Out) (s : State) (h : ∀ t, o = .next t → forget bl t = forget bl s) :
    forget bl (after o s) = forget bl s := by
  unfold after
  split
  · next t => exact h t rfl
  · rfl

/-- A request of Kiln served changes its queue, the clock, and what serving it changes. -/
theorem forget_serveRequest {bl : Block → Bool} (p : ShuReq → Bool) (s t : State) (f : State → State)
    (h : serveRequest p s f = .next t) (h_clk : bl .clk = true) (h_shu : bl .shu = true)
    (h_f : ∀ u, forget bl (f u) = forget bl u) : forget bl t = forget bl s :=
  forget_whenever _ s t _ h fun u => (h_f _).trans (forget_takeRequest p u h_clk h_shu)

/-- A field command changes what its effect changes, and the tag's answer. -/
theorem forget_fieldCmd {bl : Block → Bool} (dest : Nat) (s t : State) (f : State → State) (h : fieldCmd dest s f = .next t)
    (h_con : bl .con = true) (h_f : ∀ u, forget bl (f u) = forget bl u) : forget bl t = forget bl s := by
  unfold fieldCmd at h
  cases h
  split
  · exact h_f s
  · simp (disch := assumption) only [forget_rfAnswer]

end Sys2Proof.Laws
end

