-- ==== Sys2Proof/Laws/Kept.lean ====
section
/-! SUPPORT. From a frame to a field: states that agree apart from other blocks agree in this one. -/

namespace Sys2Proof.Laws

open Sys2Proof.Machine Sys2Proof.Safety

theorem kept_ident {s t : State} (h : forget (fun b => b != .ident) t = forget (fun b => b != .ident) s) : t.ident = s.ident :=
  by simpa [forget] using congrArg State.ident h

theorem kept_clk {s t : State} (h : forget (fun b => b != .clk) t = forget (fun b => b != .clk) s) : t.clk = s.clk :=
  by simpa [forget] using congrArg State.clk h

theorem kept_pwr {s t : State} (h : forget (fun b => b != .pwr) t = forget (fun b => b != .pwr) s) : t.pwr = s.pwr :=
  by simpa [forget] using congrArg State.pwr h

theorem kept_dom {s t : State} (h : forget (fun b => b != .dom) t = forget (fun b => b != .dom) s) : t.dom = s.dom :=
  by simpa [forget] using congrArg State.dom h

theorem kept_mode {s t : State} (h : forget (fun b => b != .mode) t = forget (fun b => b != .mode) s) : t.mode = s.mode :=
  by simpa [forget] using congrArg State.mode h

theorem kept_hold {s t : State} (h : forget (fun b => b != .hold) t = forget (fun b => b != .hold) s) : t.hold = s.hold :=
  by simpa [forget] using congrArg State.hold h

theorem kept_recl {s t : State} (h : forget (fun b => b != .recl) t = forget (fun b => b != .recl) s) : t.recl = s.recl :=
  by simpa [forget] using congrArg State.recl h

theorem kept_inp {s t : State} (h : forget (fun b => b != .inp) t = forget (fun b => b != .inp) s) : t.inp = s.inp :=
  by simpa [forget] using congrArg State.inp h

theorem kept_sie {s t : State} (h : forget (fun b => b != .sie) t = forget (fun b => b != .sie) s) : t.sie = s.sie :=
  by simpa [forget] using congrArg State.sie h

theorem kept_met {s t : State} (h : forget (fun b => b != .met) t = forget (fun b => b != .met) s) : t.met = s.met :=
  by simpa [forget] using congrArg State.met h

theorem kept_cal {s t : State} (h : forget (fun b => b != .cal) t = forget (fun b => b != .cal) s) : t.cal = s.cal :=
  by simpa [forget] using congrArg State.cal h

theorem kept_led {s t : State} (h : forget (fun b => b != .led) t = forget (fun b => b != .led) s) : t.led = s.led :=
  by simpa [forget] using congrArg State.led h

theorem kept_bil {s t : State} (h : forget (fun b => b != .bil) t = forget (fun b => b != .bil) s) : t.bil = s.bil :=
  by simpa [forget] using congrArg State.bil h

theorem kept_hatch {s t : State} (h : forget (fun b => b != .hatch) t = forget (fun b => b != .hatch) s) : t.hatch = s.hatch :=
  by simpa [forget] using congrArg State.hatch h

theorem kept_par {s t : State} (h : forget (fun b => b != .par) t = forget (fun b => b != .par) s) : t.par = s.par :=
  by simpa [forget] using congrArg State.par h

theorem kept_shu {s t : State} (h : forget (fun b => b != .shu) t = forget (fun b => b != .shu) s) : t.shu = s.shu :=
  by simpa [forget] using congrArg State.shu h

theorem kept_sag {s t : State} (h : forget (fun b => b != .sag) t = forget (fun b => b != .sag) s) : t.sag = s.sag :=
  by simpa [forget] using congrArg State.sag h

theorem kept_snap {s t : State} (h : forget (fun b => b != .snap) t = forget (fun b => b != .snap) s) : t.snap = s.snap :=
  by simpa [forget] using congrArg State.snap h

theorem kept_pq {s t : State} (h : forget (fun b => b != .pq) t = forget (fun b => b != .pq) s) : t.pq = s.pq :=
  by simpa [forget] using congrArg State.pq h

theorem kept_kiln {s t : State} (h : forget (fun b => b != .kiln) t = forget (fun b => b != .kiln) s) : t.kiln = s.kiln :=
  by simpa [forget] using congrArg State.kiln h

theorem kept_dma {s t : State} (h : forget (fun b => b != .dma) t = forget (fun b => b != .dma) s) : t.dma = s.dma :=
  by simpa [forget] using congrArg State.dma h

theorem kept_veh {s t : State} (h : forget (fun b => b != .veh) t = forget (fun b => b != .veh) s) : t.veh = s.veh :=
  by simpa [forget] using congrArg State.veh h

theorem kept_lsw {s t : State} (h : forget (fun b => b != .lsw) t = forget (fun b => b != .lsw) s) : t.lsw = s.lsw :=
  by simpa [forget] using congrArg State.lsw h

theorem kept_con {s t : State} (h : forget (fun b => b != .con) t = forget (fun b => b != .con) s) : t.con = s.con :=
  by simpa [forget] using congrArg State.con h

theorem kept_disp {s t : State} (h : forget (fun b => b != .disp) t = forget (fun b => b != .disp) s) : t.disp = s.disp :=
  by simpa [forget] using congrArg State.disp h

theorem kept_mc {s t : State} (h : forget (fun b => b != .mc) t = forget (fun b => b != .mc) s) : t.mc = s.mc :=
  by simpa [forget] using congrArg State.mc h

theorem kept_lin {s t : State} (h : forget (fun b => b != .lin) t = forget (fun b => b != .lin) s) : t.lin = s.lin :=
  by simpa [forget] using congrArg State.lin h

theorem kept_hng {s t : State} (h : forget (fun b => b != .hng) t = forget (fun b => b != .hng) s) : t.hng = s.hng :=
  by simpa [forget] using congrArg State.hng h

theorem kept_upd {s t : State} (h : forget (fun b => b != .upd) t = forget (fun b => b != .upd) s) : t.upd = s.upd :=
  by simpa [forget] using congrArg State.upd h

theorem kept_adc {s t : State} (h : forget (fun b => b != .adc) t = forget (fun b => b != .adc) s) : t.adc = s.adc :=
  by simpa [forget] using congrArg State.adc h

theorem kept_nl {s t : State} (h : forget (fun b => b != .nl) t = forget (fun b => b != .nl) s) : t.nl = s.nl :=
  by simpa [forget] using congrArg State.nl h

theorem kept_diag {s t : State} (h : forget (fun b => b != .diag) t = forget (fun b => b != .diag) s) : t.diag = s.diag :=
  by simpa [forget] using congrArg State.diag h

theorem kept_rs {s t : State} (h : forget (fun b => b != .rs) t = forget (fun b => b != .rs) s) : t.rs = s.rs :=
  by simpa [forget] using congrArg State.rs h

theorem kept_pending {s t : State} (h : forget (fun b => b != .pending) t = forget (fun b => b != .pending) s) : t.pending = s.pending :=
  by simpa [forget] using congrArg State.pending h

end Sys2Proof.Laws
end

