-- ==== Sys2Proof/Laws/Memory.lean ====
section
/-! SUPPORT. What the operations on the byte memory do: a byte read after it was written, the other bytes, and the
canonical form, which every operation keeps and reset has. -/

namespace Sys2Proof.Machine

/-- A memory in the form from a bound has it from every lower bound. -/
theorem memWfFrom_mono {m n : Nat} (mem : Memory) (h : m ≤ n) (hw : memWfFrom n mem = true) :
    memWfFrom m mem = true := by
  cases mem with
  | nil => rfl
  | cons c cs =>
    simp only [memWfFrom, Bool.and_eq_true, decide_eq_true_eq] at hw ⊢
    exact ⟨⟨by omega, hw.1.2⟩, hw.2⟩

/-- No entry lies below the bound of the form, so an address there reads the default. -/
theorem memRead_below {n a : Nat} (mem : Memory) (ha : a < n) (hw : memWfFrom n mem = true) :
    memRead mem a = memDefault := by
  induction mem generalizing n with
  | nil => rfl
  | cons c cs ih =>
    simp only [memWfFrom, Bool.and_eq_true, decide_eq_true_eq] at hw
    have hne : ¬ c.1 = a := by omega
    simp only [memRead, hne, if_false]
    exact ih (n := c.1 + 1) (by omega) hw.2

/-- Writing a byte at or above the bound keeps the form. -/
theorem memWrite_wfFrom {n a : Nat} (mem : Memory) (b : Byte) (ha : n ≤ a) (hw : memWfFrom n mem = true) :
    memWfFrom n (memWrite mem a b) = true := by
  induction mem generalizing n with
  | nil =>
    unfold memWrite
    split
    · rfl
    · rename_i hb
      simp [memWfFrom, ha, hb]
  | cons c cs ih =>
    simp only [memWfFrom, Bool.and_eq_true, decide_eq_true_eq] at hw
    obtain ⟨⟨h1, h2⟩, h3⟩ := hw
    unfold memWrite
    split
    · rename_i hlt
      split
      · simp [memWfFrom, h1, h2, h3]
      · rename_i hb
        have hle : a + 1 ≤ c.1 := hlt
        simp [memWfFrom, ha, hb, h2, h3, hle]
    · split
      · rename_i _ heq
        subst heq
        split
        · exact memWfFrom_mono cs (by omega) h3
        · rename_i hb
          simp [memWfFrom, ha, hb, h3]
      · rename_i hnl hne
        have := ih (n := c.1 + 1) (by omega) h3
        simp [memWfFrom, h1, h2, this]

/-- Every write of a byte keeps the canonical form. -/
theorem memWrite_wf (m : Memory) (a : Nat) (b : Byte) (h : Memory.wf m = true) : Memory.wf (memWrite m a b) = true :=
  memWrite_wfFrom m b (Nat.zero_le a) h

/-- So does every write of a list of bytes. -/
theorem memWriteList_wf (m : Memory) (a : Nat) (bs : List Byte) (h : Memory.wf m = true) :
    Memory.wf (memWriteList m a bs) = true := by
  induction bs generalizing m a with
  | nil => exact h
  | cons b bs ih => exact ih (memWrite m a b) (a + 1) (memWrite_wf m a b h)

/-- A byte reads back as it was written. -/
theorem memRead_memWrite_same {n : Nat} (mem : Memory) (a : Nat) (b : Byte) (hw : memWfFrom n mem = true) :
    memRead (memWrite mem a b) a = b := by
  induction mem generalizing n with
  | nil =>
    unfold memWrite
    split
    · rename_i hb; simp [memRead, hb]
    · simp [memRead]
  | cons c cs ih =>
    simp only [memWfFrom, Bool.and_eq_true, decide_eq_true_eq] at hw
    obtain ⟨⟨_, _⟩, h3⟩ := hw
    unfold memWrite
    split
    · rename_i hlt
      split
      · rename_i hb
        have hne : ¬ c.1 = a := by omega
        simp only [memRead, hne, if_false, hb]
        exact memRead_below cs (n := c.1 + 1) (by omega) h3
      · simp [memRead]
    · split
      · rename_i _ heq
        subst heq
        split
        · rename_i hb
          rw [hb]
          exact memRead_below cs (Nat.lt_succ_self _) h3
        · simp [memRead]
      · rename_i _ hne
        have hne' : ¬ c.1 = a := fun h => hne h.symm
        simp only [memRead, hne', if_false]
        exact ih h3

/-- Every other byte reads as before. -/
theorem memRead_memWrite_other (mem : Memory) (a x : Nat) (b : Byte) (hx : x ≠ a) :
    memRead (memWrite mem a b) x = memRead mem x := by
  have hax : ¬ a = x := fun h => hx h.symm
  induction mem with
  | nil =>
    unfold memWrite
    split
    · rfl
    · simp [memRead, hax]
  | cons c cs ih =>
    unfold memWrite
    split
    · split
      · rfl
      · simp [memRead, hax]
    · split
      · rename_i _ heq
        subst heq
        split
        · simp [memRead, hax]
        · simp [memRead, hax]
      · simp only [memRead, ih]

/-- A byte written through the engine's view keeps the canonical form. -/
theorem viewWrite_wf (s : State) (a : Nat) (b : Byte) (h : Memory.wf s.dma.mem = true) :
    Memory.wf (viewWrite s a b).dma.mem = true := by
  unfold viewWrite
  split
  · exact h
  · exact memWrite_wf _ _ _ h

/-- So does a burst. -/
theorem viewWriteList_wf (s : State) (a : Nat) (bs : List Byte) (h : Memory.wf s.dma.mem = true) :
    Memory.wf (viewWriteList s a bs).dma.mem = true := by
  induction bs generalizing s a with
  | nil => exact h
  | cons b bs ih => exact ih (viewWrite s a b) (a + 1) (viewWrite_wf s a b h)

/-- The memory is no record of the MRAM: every ring reads as before. -/
theorem mramRings_mem (s : State) (m : Memory) :
    ∀ r ∈ mramRings, r.read { s with dma := { s.dma with mem := m } } = r.read s := by
  intro r hr
  simp only [mramRings, List.mem_cons, List.not_mem_nil, or_false] at hr
  rcases hr with rfl | rfl | rfl | rfl | rfl | rfl | rfl | rfl | rfl | rfl | rfl | rfl <;> rfl

/-- Where a record of the MRAM stands depends on no byte of the memory. -/
theorem viewRecord_mem (s : State) (a : Nat) (m : Memory) :
    viewRecord { s with dma := { s.dma with mem := m } } a = viewRecord s a := by
  have key : ∀ l : List MramRing, (∀ r ∈ l, r.read { s with dma := { s.dma with mem := m } } = r.read s) →
      l.findSome? (MramRing.byteAt { s with dma := { s.dma with mem := m } } (a - mramBase))
        = l.findSome? (MramRing.byteAt s (a - mramBase)) := by
    intro l
    induction l with
    | nil => intro _; rfl
    | cons r rs ih =>
      intro h
      simp only [List.findSome?, MramRing.byteAt, h r List.mem_cons_self]
      rw [ih fun x hx => h x (List.mem_cons_of_mem _ hx)]
  unfold viewRecord mramByte
  rw [key mramRings (mramRings_mem s m)]
  rfl

/-- Outside the bulk window, and where no record of the MRAM stands, a byte written through the view reads back. -/
theorem viewRead_viewWrite_same (s : State) (a : Nat) (b : Byte) (ha : inBulk a = false) (hr : viewRecord s a = none)
    (h : Memory.wf s.dma.mem = true) : viewRead (viewWrite s a b) a = b := by
  simp only [viewRead, viewWrite, ha, Bool.false_eq_true, if_false, viewRecord_mem, hr, Option.getD_none]
  exact memRead_memWrite_same _ _ _ h

/-- Removing entries keeps the form (memory lost at a loss of power, R303). -/
theorem memFilter_wfFrom {n : Nat} (mem : Memory) (p : Host.Cell → Bool) (h : memWfFrom n mem = true) :
    memWfFrom n (mem.filter p) = true := by
  induction mem generalizing n with
  | nil => rfl
  | cons c cs ih =>
    simp only [memWfFrom, Bool.and_eq_true, decide_eq_true_eq] at h
    have ht := ih h.2
    simp only [List.filter_cons]
    split
    · simp [memWfFrom, h.1.1, h.1.2, ht]
    · exact memWfFrom_mono _ (by omega) ht

/-- Two memories in the form, the second from a bound no entry of the first reaches, join to one in the form. -/
theorem memAppend_wfFrom {n a : Nat} (l m : Memory) (hl : memWfFrom n l = true) (hm : memWfFrom a m = true) (hna : n ≤ a)
    (hb : ∀ c ∈ l, c.1 < a) : memWfFrom n (l ++ m) = true := by
  induction l generalizing n with
  | nil => exact memWfFrom_mono m hna hm
  | cons c cs ih =>
    simp only [memWfFrom, Bool.and_eq_true, decide_eq_true_eq] at hl
    have hc : c.1 + 1 ≤ a := hb c (List.mem_cons_self ..)
    have ht := ih hl.2 hc fun d hd => hb d (List.mem_cons_of_mem _ hd)
    simp [memWfFrom, hl.1.1, hl.1.2, ht]

/-- The entries of bytes lie inside their range. -/
theorem memCells_range (a : Nat) (bs : List Byte) : ∀ c ∈ memCells a bs, a ≤ c.1 ∧ c.1 < a + bs.length := by
  induction bs generalizing a with
  | nil => intro c hc; cases hc
  | cons b bs ih =>
    intro c hc
    simp only [List.length_cons]
    unfold memCells at hc
    split at hc
    · have := ih (a + 1) c hc
      omega
    · rcases List.mem_cons.mp hc with h | h
      · subst h; simp only; omega
      · have := ih (a + 1) c h
        omega

/-- The entries of bytes have the form. -/
theorem memCells_wfFrom (a : Nat) (bs : List Byte) : memWfFrom a (memCells a bs) = true := by
  induction bs generalizing a with
  | nil => rfl
  | cons b bs ih =>
    unfold memCells
    split
    · exact memWfFrom_mono _ (Nat.le_succ a) (ih (a + 1))
    · rename_i hb
      simp [memWfFrom, hb, ih (a + 1)]

/-- Reading the entries of bytes gives the bytes. -/
theorem memRead_memCells (a x : Nat) (bs : List Byte) :
    memRead (memCells a bs) x = if a ≤ x then (bs[x - a]?).getD memDefault else memDefault := by
  induction bs generalizing a with
  | nil => simp [memCells, memRead]
  | cons b bs ih =>
    unfold memCells
    by_cases hx : x = a
    · subst hx
      split
      · rename_i hb
        rw [ih]
        rw [if_neg (Nat.not_succ_le_self _), if_pos (Nat.le_refl _), Nat.sub_self]
        exact hb.symm
      · simp [memRead]
    · have hax : ¬ a = x := fun h => hx h.symm
      have hstep : (if a + 1 ≤ x then (bs[x - (a + 1)]?).getD memDefault else memDefault) =
          if a ≤ x then ((b :: bs)[x - a]?).getD memDefault else memDefault := by
        by_cases h : a + 1 ≤ x
        · have h' : a ≤ x := by omega
          have he : x - a = (x - (a + 1)) + 1 := by omega
          simp [h, h', he]
        · have h' : ¬ a ≤ x := by omega
          simp [h, h']
      split
      · rw [ih, hstep]
      · simp only [memRead, hax, if_false]
        rw [ih, hstep]

/-- Entries that do not list an address leave the reading to those behind. -/
theorem memRead_append (l m : Memory) (x : Nat) (h : ∀ c ∈ l, c.1 ≠ x) : memRead (l ++ m) x = memRead m x := by
  induction l with
  | nil => rfl
  | cons c cs ih =>
    have hc : ¬ c.1 = x := h c (List.mem_cons_self ..)
    simp only [List.cons_append, memRead, hc, if_false]
    exact ih fun d hd => h d (List.mem_cons_of_mem _ hd)

/-- A region replaced keeps the canonical form. -/
theorem memReplace_wf (m : Memory) (a n : Nat) (bs : List Byte) (h : Memory.wf m = true) :
    Memory.wf (memReplace m a n bs) = true := by
  have hlow : memWfFrom 0 (m.filter fun c => decide (c.1 < a)) = true := memFilter_wfFrom m _ h
  have hhigh : memWfFrom (a + n) (m.filter fun c => decide (a + n ≤ c.1)) = true := by
    have key : ∀ (k : Nat) (l : Memory), memWfFrom k l = true →
        memWfFrom (a + n) (l.filter fun c => decide (a + n ≤ c.1)) = true := by
      intro k l
      induction l generalizing k with
      | nil => intro _; rfl
      | cons c cs ih =>
        intro hw
        simp only [memWfFrom, Bool.and_eq_true, decide_eq_true_eq] at hw
        simp only [List.filter_cons]
        split
        · rename_i hc
          have hc' : a + n ≤ c.1 := by simpa using hc
          have ht := memFilter_wfFrom cs (fun c => decide (a + n ≤ c.1)) hw.2
          simp [memWfFrom, hc', hw.1.2, ht]
        · exact ih _ hw.2
    exact key 0 m h
  have hmid : memWfFrom a (memCells a (bs.take n)) = true := memCells_wfFrom a _
  have hlen : (bs.take n).length ≤ n := List.length_take_le n bs
  have hl : ∀ c ∈ m.filter (fun c => decide (c.1 < a)), c.1 < a := by
    intro c hc
    simpa using (List.mem_filter.mp hc).2
  have hm : ∀ c ∈ memCells a (bs.take n), c.1 < a + n := by
    intro c hc
    have := memCells_range a (bs.take n) c hc
    omega
  have h1 := memAppend_wfFrom _ _ hlow hmid (Nat.zero_le a) hl
  refine memAppend_wfFrom _ _ h1 hhigh (Nat.zero_le _) ?_
  intro c hc
  rcases List.mem_append.mp hc with hc | hc
  · have := hl c hc
    omega
  · exact hm c hc

/-- The memory after reset, with nothing listed, has the form. -/
theorem reset_mem_wf : Memory.wf State.reset.dma.mem = true := rfl

end Sys2Proof.Machine
end

