-- ==== Sys2Proof/Laws/State.lean ====
section
/-! SUPPORT. What a named update of one block leaves in every block: one lemma per update and field, by rfl. -/

namespace Sys2Proof.Laws

open Sys2Proof.Machine

/-! Operations on the timebase. -/

@[simp] theorem advanceTo_ident (t : Tick) (s : State) : (advanceTo t s).ident = s.ident := rfl
@[simp] theorem advanceTo_pwr (t : Tick) (s : State) : (advanceTo t s).pwr = s.pwr := rfl
@[simp] theorem advanceTo_dom (t : Tick) (s : State) : (advanceTo t s).dom = s.dom := rfl
@[simp] theorem advanceTo_mode (t : Tick) (s : State) : (advanceTo t s).mode = s.mode := rfl
@[simp] theorem advanceTo_hold (t : Tick) (s : State) : (advanceTo t s).hold = s.hold := rfl
@[simp] theorem advanceTo_recl (t : Tick) (s : State) : (advanceTo t s).recl = s.recl := rfl
@[simp] theorem advanceTo_inp (t : Tick) (s : State) : (advanceTo t s).inp = s.inp := rfl
@[simp] theorem advanceTo_sie (t : Tick) (s : State) : (advanceTo t s).sie = s.sie := rfl
@[simp] theorem advanceTo_met (t : Tick) (s : State) : (advanceTo t s).met = s.met := rfl
@[simp] theorem advanceTo_cal (t : Tick) (s : State) : (advanceTo t s).cal = s.cal := rfl
@[simp] theorem advanceTo_led (t : Tick) (s : State) : (advanceTo t s).led = s.led := rfl
@[simp] theorem advanceTo_bil (t : Tick) (s : State) : (advanceTo t s).bil = s.bil := rfl
@[simp] theorem advanceTo_hatch (t : Tick) (s : State) : (advanceTo t s).hatch = s.hatch := rfl
@[simp] theorem advanceTo_par (t : Tick) (s : State) : (advanceTo t s).par = s.par := rfl
@[simp] theorem advanceTo_shu (t : Tick) (s : State) : (advanceTo t s).shu = s.shu := rfl
@[simp] theorem advanceTo_sag (t : Tick) (s : State) : (advanceTo t s).sag = s.sag := rfl
@[simp] theorem advanceTo_snap (t : Tick) (s : State) : (advanceTo t s).snap = s.snap := rfl
@[simp] theorem advanceTo_pq (t : Tick) (s : State) : (advanceTo t s).pq = s.pq := rfl
@[simp] theorem advanceTo_kiln (t : Tick) (s : State) : (advanceTo t s).kiln = s.kiln := rfl
@[simp] theorem advanceTo_dma (t : Tick) (s : State) : (advanceTo t s).dma = s.dma := rfl
@[simp] theorem advanceTo_veh (t : Tick) (s : State) : (advanceTo t s).veh = s.veh := rfl
@[simp] theorem advanceTo_lsw (t : Tick) (s : State) : (advanceTo t s).lsw = s.lsw := rfl
@[simp] theorem advanceTo_con (t : Tick) (s : State) : (advanceTo t s).con = s.con := rfl
@[simp] theorem advanceTo_disp (t : Tick) (s : State) : (advanceTo t s).disp = s.disp := rfl
@[simp] theorem advanceTo_mc (t : Tick) (s : State) : (advanceTo t s).mc = s.mc := rfl
@[simp] theorem advanceTo_lin (t : Tick) (s : State) : (advanceTo t s).lin = s.lin := rfl
@[simp] theorem advanceTo_hng (t : Tick) (s : State) : (advanceTo t s).hng = s.hng := rfl
@[simp] theorem advanceTo_upd (t : Tick) (s : State) : (advanceTo t s).upd = s.upd := rfl
@[simp] theorem advanceTo_adc (t : Tick) (s : State) : (advanceTo t s).adc = s.adc := rfl
@[simp] theorem advanceTo_nl (t : Tick) (s : State) : (advanceTo t s).nl = s.nl := rfl
@[simp] theorem advanceTo_diag (t : Tick) (s : State) : (advanceTo t s).diag = s.diag := rfl
@[simp] theorem advanceTo_rs (t : Tick) (s : State) : (advanceTo t s).rs = s.rs := rfl
@[simp] theorem advanceTo_pending (t : Tick) (s : State) : (advanceTo t s).pending = s.pending := rfl
@[simp] theorem advanceTo_clk_epoch (t : Tick) (s : State) : (advanceTo t s).clk.epoch = s.clk.epoch := rfl
@[simp] theorem advanceTo_clk_epochStart (t : Tick) (s : State) : (advanceTo t s).clk.epochStart = s.clk.epochStart := rfl
@[simp] theorem advanceTo_clk_pllLocked (t : Tick) (s : State) : (advanceTo t s).clk.pllLocked = s.clk.pllLocked := rfl
@[simp] theorem advanceTo_clk_now (t : Tick) (s : State) : (advanceTo t s).clk.now = max s.clk.now t := rfl

/-! setAdc -/

@[simp] theorem setAdc_ident (f : AuxAdc → AuxAdc) (s : State) : (setAdc f s).ident = s.ident := rfl
@[simp] theorem setAdc_clk (f : AuxAdc → AuxAdc) (s : State) : (setAdc f s).clk = s.clk := rfl
@[simp] theorem setAdc_pwr (f : AuxAdc → AuxAdc) (s : State) : (setAdc f s).pwr = s.pwr := rfl
@[simp] theorem setAdc_dom (f : AuxAdc → AuxAdc) (s : State) : (setAdc f s).dom = s.dom := rfl
@[simp] theorem setAdc_mode (f : AuxAdc → AuxAdc) (s : State) : (setAdc f s).mode = s.mode := rfl
@[simp] theorem setAdc_hold (f : AuxAdc → AuxAdc) (s : State) : (setAdc f s).hold = s.hold := rfl
@[simp] theorem setAdc_recl (f : AuxAdc → AuxAdc) (s : State) : (setAdc f s).recl = s.recl := rfl
@[simp] theorem setAdc_inp (f : AuxAdc → AuxAdc) (s : State) : (setAdc f s).inp = s.inp := rfl
@[simp] theorem setAdc_sie (f : AuxAdc → AuxAdc) (s : State) : (setAdc f s).sie = s.sie := rfl
@[simp] theorem setAdc_met (f : AuxAdc → AuxAdc) (s : State) : (setAdc f s).met = s.met := rfl
@[simp] theorem setAdc_cal (f : AuxAdc → AuxAdc) (s : State) : (setAdc f s).cal = s.cal := rfl
@[simp] theorem setAdc_led (f : AuxAdc → AuxAdc) (s : State) : (setAdc f s).led = s.led := rfl
@[simp] theorem setAdc_bil (f : AuxAdc → AuxAdc) (s : State) : (setAdc f s).bil = s.bil := rfl
@[simp] theorem setAdc_hatch (f : AuxAdc → AuxAdc) (s : State) : (setAdc f s).hatch = s.hatch := rfl
@[simp] theorem setAdc_par (f : AuxAdc → AuxAdc) (s : State) : (setAdc f s).par = s.par := rfl
@[simp] theorem setAdc_shu (f : AuxAdc → AuxAdc) (s : State) : (setAdc f s).shu = s.shu := rfl
@[simp] theorem setAdc_sag (f : AuxAdc → AuxAdc) (s : State) : (setAdc f s).sag = s.sag := rfl
@[simp] theorem setAdc_snap (f : AuxAdc → AuxAdc) (s : State) : (setAdc f s).snap = s.snap := rfl
@[simp] theorem setAdc_pq (f : AuxAdc → AuxAdc) (s : State) : (setAdc f s).pq = s.pq := rfl
@[simp] theorem setAdc_kiln (f : AuxAdc → AuxAdc) (s : State) : (setAdc f s).kiln = s.kiln := rfl
@[simp] theorem setAdc_dma (f : AuxAdc → AuxAdc) (s : State) : (setAdc f s).dma = s.dma := rfl
@[simp] theorem setAdc_veh (f : AuxAdc → AuxAdc) (s : State) : (setAdc f s).veh = s.veh := rfl
@[simp] theorem setAdc_lsw (f : AuxAdc → AuxAdc) (s : State) : (setAdc f s).lsw = s.lsw := rfl
@[simp] theorem setAdc_con (f : AuxAdc → AuxAdc) (s : State) : (setAdc f s).con = s.con := rfl
@[simp] theorem setAdc_disp (f : AuxAdc → AuxAdc) (s : State) : (setAdc f s).disp = s.disp := rfl
@[simp] theorem setAdc_mc (f : AuxAdc → AuxAdc) (s : State) : (setAdc f s).mc = s.mc := rfl
@[simp] theorem setAdc_lin (f : AuxAdc → AuxAdc) (s : State) : (setAdc f s).lin = s.lin := rfl
@[simp] theorem setAdc_hng (f : AuxAdc → AuxAdc) (s : State) : (setAdc f s).hng = s.hng := rfl
@[simp] theorem setAdc_upd (f : AuxAdc → AuxAdc) (s : State) : (setAdc f s).upd = s.upd := rfl
@[simp] theorem setAdc_adc (f : AuxAdc → AuxAdc) (s : State) : (setAdc f s).adc = f s.adc := rfl
@[simp] theorem setAdc_nl (f : AuxAdc → AuxAdc) (s : State) : (setAdc f s).nl = s.nl := rfl
@[simp] theorem setAdc_diag (f : AuxAdc → AuxAdc) (s : State) : (setAdc f s).diag = s.diag := rfl
@[simp] theorem setAdc_rs (f : AuxAdc → AuxAdc) (s : State) : (setAdc f s).rs = s.rs := rfl
@[simp] theorem setAdc_pending (f : AuxAdc → AuxAdc) (s : State) : (setAdc f s).pending = s.pending := rfl

/-! setBil -/

@[simp] theorem setBil_ident (f : Billing → Billing) (s : State) : (setBil f s).ident = s.ident := rfl
@[simp] theorem setBil_clk (f : Billing → Billing) (s : State) : (setBil f s).clk = s.clk := rfl
@[simp] theorem setBil_pwr (f : Billing → Billing) (s : State) : (setBil f s).pwr = s.pwr := rfl
@[simp] theorem setBil_dom (f : Billing → Billing) (s : State) : (setBil f s).dom = s.dom := rfl
@[simp] theorem setBil_mode (f : Billing → Billing) (s : State) : (setBil f s).mode = s.mode := rfl
@[simp] theorem setBil_hold (f : Billing → Billing) (s : State) : (setBil f s).hold = s.hold := rfl
@[simp] theorem setBil_recl (f : Billing → Billing) (s : State) : (setBil f s).recl = s.recl := rfl
@[simp] theorem setBil_inp (f : Billing → Billing) (s : State) : (setBil f s).inp = s.inp := rfl
@[simp] theorem setBil_sie (f : Billing → Billing) (s : State) : (setBil f s).sie = s.sie := rfl
@[simp] theorem setBil_met (f : Billing → Billing) (s : State) : (setBil f s).met = s.met := rfl
@[simp] theorem setBil_cal (f : Billing → Billing) (s : State) : (setBil f s).cal = s.cal := rfl
@[simp] theorem setBil_led (f : Billing → Billing) (s : State) : (setBil f s).led = s.led := rfl
@[simp] theorem setBil_bil (f : Billing → Billing) (s : State) : (setBil f s).bil = f s.bil := rfl
@[simp] theorem setBil_hatch (f : Billing → Billing) (s : State) : (setBil f s).hatch = s.hatch := rfl
@[simp] theorem setBil_par (f : Billing → Billing) (s : State) : (setBil f s).par = s.par := rfl
@[simp] theorem setBil_shu (f : Billing → Billing) (s : State) : (setBil f s).shu = s.shu := rfl
@[simp] theorem setBil_sag (f : Billing → Billing) (s : State) : (setBil f s).sag = s.sag := rfl
@[simp] theorem setBil_snap (f : Billing → Billing) (s : State) : (setBil f s).snap = s.snap := rfl
@[simp] theorem setBil_pq (f : Billing → Billing) (s : State) : (setBil f s).pq = s.pq := rfl
@[simp] theorem setBil_kiln (f : Billing → Billing) (s : State) : (setBil f s).kiln = s.kiln := rfl
@[simp] theorem setBil_dma (f : Billing → Billing) (s : State) : (setBil f s).dma = s.dma := rfl
@[simp] theorem setBil_veh (f : Billing → Billing) (s : State) : (setBil f s).veh = s.veh := rfl
@[simp] theorem setBil_lsw (f : Billing → Billing) (s : State) : (setBil f s).lsw = s.lsw := rfl
@[simp] theorem setBil_con (f : Billing → Billing) (s : State) : (setBil f s).con = s.con := rfl
@[simp] theorem setBil_disp (f : Billing → Billing) (s : State) : (setBil f s).disp = s.disp := rfl
@[simp] theorem setBil_mc (f : Billing → Billing) (s : State) : (setBil f s).mc = s.mc := rfl
@[simp] theorem setBil_lin (f : Billing → Billing) (s : State) : (setBil f s).lin = s.lin := rfl
@[simp] theorem setBil_hng (f : Billing → Billing) (s : State) : (setBil f s).hng = s.hng := rfl
@[simp] theorem setBil_upd (f : Billing → Billing) (s : State) : (setBil f s).upd = s.upd := rfl
@[simp] theorem setBil_adc (f : Billing → Billing) (s : State) : (setBil f s).adc = s.adc := rfl
@[simp] theorem setBil_nl (f : Billing → Billing) (s : State) : (setBil f s).nl = s.nl := rfl
@[simp] theorem setBil_diag (f : Billing → Billing) (s : State) : (setBil f s).diag = s.diag := rfl
@[simp] theorem setBil_rs (f : Billing → Billing) (s : State) : (setBil f s).rs = s.rs := rfl
@[simp] theorem setBil_pending (f : Billing → Billing) (s : State) : (setBil f s).pending = s.pending := rfl

/-! setCon -/

@[simp] theorem setCon_ident (f : Contactless → Contactless) (s : State) : (setCon f s).ident = s.ident := rfl
@[simp] theorem setCon_clk (f : Contactless → Contactless) (s : State) : (setCon f s).clk = s.clk := rfl
@[simp] theorem setCon_pwr (f : Contactless → Contactless) (s : State) : (setCon f s).pwr = s.pwr := rfl
@[simp] theorem setCon_dom (f : Contactless → Contactless) (s : State) : (setCon f s).dom = s.dom := rfl
@[simp] theorem setCon_mode (f : Contactless → Contactless) (s : State) : (setCon f s).mode = s.mode := rfl
@[simp] theorem setCon_hold (f : Contactless → Contactless) (s : State) : (setCon f s).hold = s.hold := rfl
@[simp] theorem setCon_recl (f : Contactless → Contactless) (s : State) : (setCon f s).recl = s.recl := rfl
@[simp] theorem setCon_inp (f : Contactless → Contactless) (s : State) : (setCon f s).inp = s.inp := rfl
@[simp] theorem setCon_sie (f : Contactless → Contactless) (s : State) : (setCon f s).sie = s.sie := rfl
@[simp] theorem setCon_met (f : Contactless → Contactless) (s : State) : (setCon f s).met = s.met := rfl
@[simp] theorem setCon_cal (f : Contactless → Contactless) (s : State) : (setCon f s).cal = s.cal := rfl
@[simp] theorem setCon_led (f : Contactless → Contactless) (s : State) : (setCon f s).led = s.led := rfl
@[simp] theorem setCon_bil (f : Contactless → Contactless) (s : State) : (setCon f s).bil = s.bil := rfl
@[simp] theorem setCon_hatch (f : Contactless → Contactless) (s : State) : (setCon f s).hatch = s.hatch := rfl
@[simp] theorem setCon_par (f : Contactless → Contactless) (s : State) : (setCon f s).par = s.par := rfl
@[simp] theorem setCon_shu (f : Contactless → Contactless) (s : State) : (setCon f s).shu = s.shu := rfl
@[simp] theorem setCon_sag (f : Contactless → Contactless) (s : State) : (setCon f s).sag = s.sag := rfl
@[simp] theorem setCon_snap (f : Contactless → Contactless) (s : State) : (setCon f s).snap = s.snap := rfl
@[simp] theorem setCon_pq (f : Contactless → Contactless) (s : State) : (setCon f s).pq = s.pq := rfl
@[simp] theorem setCon_kiln (f : Contactless → Contactless) (s : State) : (setCon f s).kiln = s.kiln := rfl
@[simp] theorem setCon_dma (f : Contactless → Contactless) (s : State) : (setCon f s).dma = s.dma := rfl
@[simp] theorem setCon_veh (f : Contactless → Contactless) (s : State) : (setCon f s).veh = s.veh := rfl
@[simp] theorem setCon_lsw (f : Contactless → Contactless) (s : State) : (setCon f s).lsw = s.lsw := rfl
@[simp] theorem setCon_con (f : Contactless → Contactless) (s : State) : (setCon f s).con = f s.con := rfl
@[simp] theorem setCon_disp (f : Contactless → Contactless) (s : State) : (setCon f s).disp = s.disp := rfl
@[simp] theorem setCon_mc (f : Contactless → Contactless) (s : State) : (setCon f s).mc = s.mc := rfl
@[simp] theorem setCon_lin (f : Contactless → Contactless) (s : State) : (setCon f s).lin = s.lin := rfl
@[simp] theorem setCon_hng (f : Contactless → Contactless) (s : State) : (setCon f s).hng = s.hng := rfl
@[simp] theorem setCon_upd (f : Contactless → Contactless) (s : State) : (setCon f s).upd = s.upd := rfl
@[simp] theorem setCon_adc (f : Contactless → Contactless) (s : State) : (setCon f s).adc = s.adc := rfl
@[simp] theorem setCon_nl (f : Contactless → Contactless) (s : State) : (setCon f s).nl = s.nl := rfl
@[simp] theorem setCon_diag (f : Contactless → Contactless) (s : State) : (setCon f s).diag = s.diag := rfl
@[simp] theorem setCon_rs (f : Contactless → Contactless) (s : State) : (setCon f s).rs = s.rs := rfl
@[simp] theorem setCon_pending (f : Contactless → Contactless) (s : State) : (setCon f s).pending = s.pending := rfl

/-! setDisp -/

@[simp] theorem setDisp_ident (f : Display → Display) (s : State) : (setDisp f s).ident = s.ident := rfl
@[simp] theorem setDisp_clk (f : Display → Display) (s : State) : (setDisp f s).clk = s.clk := rfl
@[simp] theorem setDisp_pwr (f : Display → Display) (s : State) : (setDisp f s).pwr = s.pwr := rfl
@[simp] theorem setDisp_dom (f : Display → Display) (s : State) : (setDisp f s).dom = s.dom := rfl
@[simp] theorem setDisp_mode (f : Display → Display) (s : State) : (setDisp f s).mode = s.mode := rfl
@[simp] theorem setDisp_hold (f : Display → Display) (s : State) : (setDisp f s).hold = s.hold := rfl
@[simp] theorem setDisp_recl (f : Display → Display) (s : State) : (setDisp f s).recl = s.recl := rfl
@[simp] theorem setDisp_inp (f : Display → Display) (s : State) : (setDisp f s).inp = s.inp := rfl
@[simp] theorem setDisp_sie (f : Display → Display) (s : State) : (setDisp f s).sie = s.sie := rfl
@[simp] theorem setDisp_met (f : Display → Display) (s : State) : (setDisp f s).met = s.met := rfl
@[simp] theorem setDisp_cal (f : Display → Display) (s : State) : (setDisp f s).cal = s.cal := rfl
@[simp] theorem setDisp_led (f : Display → Display) (s : State) : (setDisp f s).led = s.led := rfl
@[simp] theorem setDisp_bil (f : Display → Display) (s : State) : (setDisp f s).bil = s.bil := rfl
@[simp] theorem setDisp_hatch (f : Display → Display) (s : State) : (setDisp f s).hatch = s.hatch := rfl
@[simp] theorem setDisp_par (f : Display → Display) (s : State) : (setDisp f s).par = s.par := rfl
@[simp] theorem setDisp_shu (f : Display → Display) (s : State) : (setDisp f s).shu = s.shu := rfl
@[simp] theorem setDisp_sag (f : Display → Display) (s : State) : (setDisp f s).sag = s.sag := rfl
@[simp] theorem setDisp_snap (f : Display → Display) (s : State) : (setDisp f s).snap = s.snap := rfl
@[simp] theorem setDisp_pq (f : Display → Display) (s : State) : (setDisp f s).pq = s.pq := rfl
@[simp] theorem setDisp_kiln (f : Display → Display) (s : State) : (setDisp f s).kiln = s.kiln := rfl
@[simp] theorem setDisp_dma (f : Display → Display) (s : State) : (setDisp f s).dma = s.dma := rfl
@[simp] theorem setDisp_veh (f : Display → Display) (s : State) : (setDisp f s).veh = s.veh := rfl
@[simp] theorem setDisp_lsw (f : Display → Display) (s : State) : (setDisp f s).lsw = s.lsw := rfl
@[simp] theorem setDisp_con (f : Display → Display) (s : State) : (setDisp f s).con = s.con := rfl
@[simp] theorem setDisp_disp (f : Display → Display) (s : State) : (setDisp f s).disp = f s.disp := rfl
@[simp] theorem setDisp_mc (f : Display → Display) (s : State) : (setDisp f s).mc = s.mc := rfl
@[simp] theorem setDisp_lin (f : Display → Display) (s : State) : (setDisp f s).lin = s.lin := rfl
@[simp] theorem setDisp_hng (f : Display → Display) (s : State) : (setDisp f s).hng = s.hng := rfl
@[simp] theorem setDisp_upd (f : Display → Display) (s : State) : (setDisp f s).upd = s.upd := rfl
@[simp] theorem setDisp_adc (f : Display → Display) (s : State) : (setDisp f s).adc = s.adc := rfl
@[simp] theorem setDisp_nl (f : Display → Display) (s : State) : (setDisp f s).nl = s.nl := rfl
@[simp] theorem setDisp_diag (f : Display → Display) (s : State) : (setDisp f s).diag = s.diag := rfl
@[simp] theorem setDisp_rs (f : Display → Display) (s : State) : (setDisp f s).rs = s.rs := rfl
@[simp] theorem setDisp_pending (f : Display → Display) (s : State) : (setDisp f s).pending = s.pending := rfl

/-! setHatch -/

@[simp] theorem setHatch_ident (f : Hatch → Hatch) (s : State) : (setHatch f s).ident = s.ident := rfl
@[simp] theorem setHatch_clk (f : Hatch → Hatch) (s : State) : (setHatch f s).clk = s.clk := rfl
@[simp] theorem setHatch_pwr (f : Hatch → Hatch) (s : State) : (setHatch f s).pwr = s.pwr := rfl
@[simp] theorem setHatch_dom (f : Hatch → Hatch) (s : State) : (setHatch f s).dom = s.dom := rfl
@[simp] theorem setHatch_mode (f : Hatch → Hatch) (s : State) : (setHatch f s).mode = s.mode := rfl
@[simp] theorem setHatch_hold (f : Hatch → Hatch) (s : State) : (setHatch f s).hold = s.hold := rfl
@[simp] theorem setHatch_recl (f : Hatch → Hatch) (s : State) : (setHatch f s).recl = s.recl := rfl
@[simp] theorem setHatch_inp (f : Hatch → Hatch) (s : State) : (setHatch f s).inp = s.inp := rfl
@[simp] theorem setHatch_sie (f : Hatch → Hatch) (s : State) : (setHatch f s).sie = s.sie := rfl
@[simp] theorem setHatch_met (f : Hatch → Hatch) (s : State) : (setHatch f s).met = s.met := rfl
@[simp] theorem setHatch_cal (f : Hatch → Hatch) (s : State) : (setHatch f s).cal = s.cal := rfl
@[simp] theorem setHatch_led (f : Hatch → Hatch) (s : State) : (setHatch f s).led = s.led := rfl
@[simp] theorem setHatch_bil (f : Hatch → Hatch) (s : State) : (setHatch f s).bil = s.bil := rfl
@[simp] theorem setHatch_hatch (f : Hatch → Hatch) (s : State) : (setHatch f s).hatch = f s.hatch := rfl
@[simp] theorem setHatch_par (f : Hatch → Hatch) (s : State) : (setHatch f s).par = s.par := rfl
@[simp] theorem setHatch_shu (f : Hatch → Hatch) (s : State) : (setHatch f s).shu = s.shu := rfl
@[simp] theorem setHatch_sag (f : Hatch → Hatch) (s : State) : (setHatch f s).sag = s.sag := rfl
@[simp] theorem setHatch_snap (f : Hatch → Hatch) (s : State) : (setHatch f s).snap = s.snap := rfl
@[simp] theorem setHatch_pq (f : Hatch → Hatch) (s : State) : (setHatch f s).pq = s.pq := rfl
@[simp] theorem setHatch_kiln (f : Hatch → Hatch) (s : State) : (setHatch f s).kiln = s.kiln := rfl
@[simp] theorem setHatch_dma (f : Hatch → Hatch) (s : State) : (setHatch f s).dma = s.dma := rfl
@[simp] theorem setHatch_veh (f : Hatch → Hatch) (s : State) : (setHatch f s).veh = s.veh := rfl
@[simp] theorem setHatch_lsw (f : Hatch → Hatch) (s : State) : (setHatch f s).lsw = s.lsw := rfl
@[simp] theorem setHatch_con (f : Hatch → Hatch) (s : State) : (setHatch f s).con = s.con := rfl
@[simp] theorem setHatch_disp (f : Hatch → Hatch) (s : State) : (setHatch f s).disp = s.disp := rfl
@[simp] theorem setHatch_mc (f : Hatch → Hatch) (s : State) : (setHatch f s).mc = s.mc := rfl
@[simp] theorem setHatch_lin (f : Hatch → Hatch) (s : State) : (setHatch f s).lin = s.lin := rfl
@[simp] theorem setHatch_hng (f : Hatch → Hatch) (s : State) : (setHatch f s).hng = s.hng := rfl
@[simp] theorem setHatch_upd (f : Hatch → Hatch) (s : State) : (setHatch f s).upd = s.upd := rfl
@[simp] theorem setHatch_adc (f : Hatch → Hatch) (s : State) : (setHatch f s).adc = s.adc := rfl
@[simp] theorem setHatch_nl (f : Hatch → Hatch) (s : State) : (setHatch f s).nl = s.nl := rfl
@[simp] theorem setHatch_diag (f : Hatch → Hatch) (s : State) : (setHatch f s).diag = s.diag := rfl
@[simp] theorem setHatch_rs (f : Hatch → Hatch) (s : State) : (setHatch f s).rs = s.rs := rfl
@[simp] theorem setHatch_pending (f : Hatch → Hatch) (s : State) : (setHatch f s).pending = s.pending := rfl

/-! setSag -/

@[simp] theorem setSag_ident (f : Sagger → Sagger) (s : State) : (setSag f s).ident = s.ident := rfl
@[simp] theorem setSag_clk (f : Sagger → Sagger) (s : State) : (setSag f s).clk = s.clk := rfl
@[simp] theorem setSag_pwr (f : Sagger → Sagger) (s : State) : (setSag f s).pwr = s.pwr := rfl
@[simp] theorem setSag_dom (f : Sagger → Sagger) (s : State) : (setSag f s).dom = s.dom := rfl
@[simp] theorem setSag_mode (f : Sagger → Sagger) (s : State) : (setSag f s).mode = s.mode := rfl
@[simp] theorem setSag_hold (f : Sagger → Sagger) (s : State) : (setSag f s).hold = s.hold := rfl
@[simp] theorem setSag_recl (f : Sagger → Sagger) (s : State) : (setSag f s).recl = s.recl := rfl
@[simp] theorem setSag_inp (f : Sagger → Sagger) (s : State) : (setSag f s).inp = s.inp := rfl
@[simp] theorem setSag_sie (f : Sagger → Sagger) (s : State) : (setSag f s).sie = s.sie := rfl
@[simp] theorem setSag_met (f : Sagger → Sagger) (s : State) : (setSag f s).met = s.met := rfl
@[simp] theorem setSag_cal (f : Sagger → Sagger) (s : State) : (setSag f s).cal = s.cal := rfl
@[simp] theorem setSag_led (f : Sagger → Sagger) (s : State) : (setSag f s).led = s.led := rfl
@[simp] theorem setSag_bil (f : Sagger → Sagger) (s : State) : (setSag f s).bil = s.bil := rfl
@[simp] theorem setSag_hatch (f : Sagger → Sagger) (s : State) : (setSag f s).hatch = s.hatch := rfl
@[simp] theorem setSag_par (f : Sagger → Sagger) (s : State) : (setSag f s).par = s.par := rfl
@[simp] theorem setSag_shu (f : Sagger → Sagger) (s : State) : (setSag f s).shu = s.shu := rfl
@[simp] theorem setSag_sag (f : Sagger → Sagger) (s : State) : (setSag f s).sag = f s.sag := rfl
@[simp] theorem setSag_snap (f : Sagger → Sagger) (s : State) : (setSag f s).snap = s.snap := rfl
@[simp] theorem setSag_pq (f : Sagger → Sagger) (s : State) : (setSag f s).pq = s.pq := rfl
@[simp] theorem setSag_kiln (f : Sagger → Sagger) (s : State) : (setSag f s).kiln = s.kiln := rfl
@[simp] theorem setSag_dma (f : Sagger → Sagger) (s : State) : (setSag f s).dma = s.dma := rfl
@[simp] theorem setSag_veh (f : Sagger → Sagger) (s : State) : (setSag f s).veh = s.veh := rfl
@[simp] theorem setSag_lsw (f : Sagger → Sagger) (s : State) : (setSag f s).lsw = s.lsw := rfl
@[simp] theorem setSag_con (f : Sagger → Sagger) (s : State) : (setSag f s).con = s.con := rfl
@[simp] theorem setSag_disp (f : Sagger → Sagger) (s : State) : (setSag f s).disp = s.disp := rfl
@[simp] theorem setSag_mc (f : Sagger → Sagger) (s : State) : (setSag f s).mc = s.mc := rfl
@[simp] theorem setSag_lin (f : Sagger → Sagger) (s : State) : (setSag f s).lin = s.lin := rfl
@[simp] theorem setSag_hng (f : Sagger → Sagger) (s : State) : (setSag f s).hng = s.hng := rfl
@[simp] theorem setSag_upd (f : Sagger → Sagger) (s : State) : (setSag f s).upd = s.upd := rfl
@[simp] theorem setSag_adc (f : Sagger → Sagger) (s : State) : (setSag f s).adc = s.adc := rfl
@[simp] theorem setSag_nl (f : Sagger → Sagger) (s : State) : (setSag f s).nl = s.nl := rfl
@[simp] theorem setSag_diag (f : Sagger → Sagger) (s : State) : (setSag f s).diag = s.diag := rfl
@[simp] theorem setSag_rs (f : Sagger → Sagger) (s : State) : (setSag f s).rs = s.rs := rfl
@[simp] theorem setSag_pending (f : Sagger → Sagger) (s : State) : (setSag f s).pending = s.pending := rfl

/-! setKiln -/

@[simp] theorem setKiln_ident (f : Kiln → Kiln) (s : State) : (setKiln f s).ident = s.ident := rfl
@[simp] theorem setKiln_clk (f : Kiln → Kiln) (s : State) : (setKiln f s).clk = s.clk := rfl
@[simp] theorem setKiln_pwr (f : Kiln → Kiln) (s : State) : (setKiln f s).pwr = s.pwr := rfl
@[simp] theorem setKiln_dom (f : Kiln → Kiln) (s : State) : (setKiln f s).dom = s.dom := rfl
@[simp] theorem setKiln_mode (f : Kiln → Kiln) (s : State) : (setKiln f s).mode = s.mode := rfl
@[simp] theorem setKiln_hold (f : Kiln → Kiln) (s : State) : (setKiln f s).hold = s.hold := rfl
@[simp] theorem setKiln_recl (f : Kiln → Kiln) (s : State) : (setKiln f s).recl = s.recl := rfl
@[simp] theorem setKiln_inp (f : Kiln → Kiln) (s : State) : (setKiln f s).inp = s.inp := rfl
@[simp] theorem setKiln_sie (f : Kiln → Kiln) (s : State) : (setKiln f s).sie = s.sie := rfl
@[simp] theorem setKiln_met (f : Kiln → Kiln) (s : State) : (setKiln f s).met = s.met := rfl
@[simp] theorem setKiln_cal (f : Kiln → Kiln) (s : State) : (setKiln f s).cal = s.cal := rfl
@[simp] theorem setKiln_led (f : Kiln → Kiln) (s : State) : (setKiln f s).led = s.led := rfl
@[simp] theorem setKiln_bil (f : Kiln → Kiln) (s : State) : (setKiln f s).bil = s.bil := rfl
@[simp] theorem setKiln_hatch (f : Kiln → Kiln) (s : State) : (setKiln f s).hatch = s.hatch := rfl
@[simp] theorem setKiln_par (f : Kiln → Kiln) (s : State) : (setKiln f s).par = s.par := rfl
@[simp] theorem setKiln_shu (f : Kiln → Kiln) (s : State) : (setKiln f s).shu = s.shu := rfl
@[simp] theorem setKiln_sag (f : Kiln → Kiln) (s : State) : (setKiln f s).sag = s.sag := rfl
@[simp] theorem setKiln_snap (f : Kiln → Kiln) (s : State) : (setKiln f s).snap = s.snap := rfl
@[simp] theorem setKiln_pq (f : Kiln → Kiln) (s : State) : (setKiln f s).pq = s.pq := rfl
@[simp] theorem setKiln_kiln (f : Kiln → Kiln) (s : State) : (setKiln f s).kiln = f s.kiln := rfl
@[simp] theorem setKiln_dma (f : Kiln → Kiln) (s : State) : (setKiln f s).dma = s.dma := rfl
@[simp] theorem setKiln_veh (f : Kiln → Kiln) (s : State) : (setKiln f s).veh = s.veh := rfl
@[simp] theorem setKiln_lsw (f : Kiln → Kiln) (s : State) : (setKiln f s).lsw = s.lsw := rfl
@[simp] theorem setKiln_con (f : Kiln → Kiln) (s : State) : (setKiln f s).con = s.con := rfl
@[simp] theorem setKiln_disp (f : Kiln → Kiln) (s : State) : (setKiln f s).disp = s.disp := rfl
@[simp] theorem setKiln_mc (f : Kiln → Kiln) (s : State) : (setKiln f s).mc = s.mc := rfl
@[simp] theorem setKiln_lin (f : Kiln → Kiln) (s : State) : (setKiln f s).lin = s.lin := rfl
@[simp] theorem setKiln_hng (f : Kiln → Kiln) (s : State) : (setKiln f s).hng = s.hng := rfl
@[simp] theorem setKiln_upd (f : Kiln → Kiln) (s : State) : (setKiln f s).upd = s.upd := rfl
@[simp] theorem setKiln_adc (f : Kiln → Kiln) (s : State) : (setKiln f s).adc = s.adc := rfl
@[simp] theorem setKiln_nl (f : Kiln → Kiln) (s : State) : (setKiln f s).nl = s.nl := rfl
@[simp] theorem setKiln_diag (f : Kiln → Kiln) (s : State) : (setKiln f s).diag = s.diag := rfl
@[simp] theorem setKiln_rs (f : Kiln → Kiln) (s : State) : (setKiln f s).rs = s.rs := rfl
@[simp] theorem setKiln_pending (f : Kiln → Kiln) (s : State) : (setKiln f s).pending = s.pending := rfl

/-! setVeh -/

@[simp] theorem setVeh_ident (f : Vehicle → Vehicle) (s : State) : (setVeh f s).ident = s.ident := rfl
@[simp] theorem setVeh_clk (f : Vehicle → Vehicle) (s : State) : (setVeh f s).clk = s.clk := rfl
@[simp] theorem setVeh_pwr (f : Vehicle → Vehicle) (s : State) : (setVeh f s).pwr = s.pwr := rfl
@[simp] theorem setVeh_dom (f : Vehicle → Vehicle) (s : State) : (setVeh f s).dom = s.dom := rfl
@[simp] theorem setVeh_mode (f : Vehicle → Vehicle) (s : State) : (setVeh f s).mode = s.mode := rfl
@[simp] theorem setVeh_hold (f : Vehicle → Vehicle) (s : State) : (setVeh f s).hold = s.hold := rfl
@[simp] theorem setVeh_recl (f : Vehicle → Vehicle) (s : State) : (setVeh f s).recl = s.recl := rfl
@[simp] theorem setVeh_inp (f : Vehicle → Vehicle) (s : State) : (setVeh f s).inp = s.inp := rfl
@[simp] theorem setVeh_sie (f : Vehicle → Vehicle) (s : State) : (setVeh f s).sie = s.sie := rfl
@[simp] theorem setVeh_met (f : Vehicle → Vehicle) (s : State) : (setVeh f s).met = s.met := rfl
@[simp] theorem setVeh_cal (f : Vehicle → Vehicle) (s : State) : (setVeh f s).cal = s.cal := rfl
@[simp] theorem setVeh_led (f : Vehicle → Vehicle) (s : State) : (setVeh f s).led = s.led := rfl
@[simp] theorem setVeh_bil (f : Vehicle → Vehicle) (s : State) : (setVeh f s).bil = s.bil := rfl
@[simp] theorem setVeh_hatch (f : Vehicle → Vehicle) (s : State) : (setVeh f s).hatch = s.hatch := rfl
@[simp] theorem setVeh_par (f : Vehicle → Vehicle) (s : State) : (setVeh f s).par = s.par := rfl
@[simp] theorem setVeh_shu (f : Vehicle → Vehicle) (s : State) : (setVeh f s).shu = s.shu := rfl
@[simp] theorem setVeh_sag (f : Vehicle → Vehicle) (s : State) : (setVeh f s).sag = s.sag := rfl
@[simp] theorem setVeh_snap (f : Vehicle → Vehicle) (s : State) : (setVeh f s).snap = s.snap := rfl
@[simp] theorem setVeh_pq (f : Vehicle → Vehicle) (s : State) : (setVeh f s).pq = s.pq := rfl
@[simp] theorem setVeh_kiln (f : Vehicle → Vehicle) (s : State) : (setVeh f s).kiln = s.kiln := rfl
@[simp] theorem setVeh_dma (f : Vehicle → Vehicle) (s : State) : (setVeh f s).dma = s.dma := rfl
@[simp] theorem setVeh_veh (f : Vehicle → Vehicle) (s : State) : (setVeh f s).veh = f s.veh := rfl
@[simp] theorem setVeh_lsw (f : Vehicle → Vehicle) (s : State) : (setVeh f s).lsw = s.lsw := rfl
@[simp] theorem setVeh_con (f : Vehicle → Vehicle) (s : State) : (setVeh f s).con = s.con := rfl
@[simp] theorem setVeh_disp (f : Vehicle → Vehicle) (s : State) : (setVeh f s).disp = s.disp := rfl
@[simp] theorem setVeh_mc (f : Vehicle → Vehicle) (s : State) : (setVeh f s).mc = s.mc := rfl
@[simp] theorem setVeh_lin (f : Vehicle → Vehicle) (s : State) : (setVeh f s).lin = s.lin := rfl
@[simp] theorem setVeh_hng (f : Vehicle → Vehicle) (s : State) : (setVeh f s).hng = s.hng := rfl
@[simp] theorem setVeh_upd (f : Vehicle → Vehicle) (s : State) : (setVeh f s).upd = s.upd := rfl
@[simp] theorem setVeh_adc (f : Vehicle → Vehicle) (s : State) : (setVeh f s).adc = s.adc := rfl
@[simp] theorem setVeh_nl (f : Vehicle → Vehicle) (s : State) : (setVeh f s).nl = s.nl := rfl
@[simp] theorem setVeh_diag (f : Vehicle → Vehicle) (s : State) : (setVeh f s).diag = s.diag := rfl
@[simp] theorem setVeh_rs (f : Vehicle → Vehicle) (s : State) : (setVeh f s).rs = s.rs := rfl
@[simp] theorem setVeh_pending (f : Vehicle → Vehicle) (s : State) : (setVeh f s).pending = s.pending := rfl

/-! setLsw -/

@[simp] theorem setLsw_ident (f : Lsw → Lsw) (s : State) : (setLsw f s).ident = s.ident := rfl
@[simp] theorem setLsw_clk (f : Lsw → Lsw) (s : State) : (setLsw f s).clk = s.clk := rfl
@[simp] theorem setLsw_pwr (f : Lsw → Lsw) (s : State) : (setLsw f s).pwr = s.pwr := rfl
@[simp] theorem setLsw_dom (f : Lsw → Lsw) (s : State) : (setLsw f s).dom = s.dom := rfl
@[simp] theorem setLsw_mode (f : Lsw → Lsw) (s : State) : (setLsw f s).mode = s.mode := rfl
@[simp] theorem setLsw_hold (f : Lsw → Lsw) (s : State) : (setLsw f s).hold = s.hold := rfl
@[simp] theorem setLsw_recl (f : Lsw → Lsw) (s : State) : (setLsw f s).recl = s.recl := rfl
@[simp] theorem setLsw_inp (f : Lsw → Lsw) (s : State) : (setLsw f s).inp = s.inp := rfl
@[simp] theorem setLsw_sie (f : Lsw → Lsw) (s : State) : (setLsw f s).sie = s.sie := rfl
@[simp] theorem setLsw_met (f : Lsw → Lsw) (s : State) : (setLsw f s).met = s.met := rfl
@[simp] theorem setLsw_cal (f : Lsw → Lsw) (s : State) : (setLsw f s).cal = s.cal := rfl
@[simp] theorem setLsw_led (f : Lsw → Lsw) (s : State) : (setLsw f s).led = s.led := rfl
@[simp] theorem setLsw_bil (f : Lsw → Lsw) (s : State) : (setLsw f s).bil = s.bil := rfl
@[simp] theorem setLsw_hatch (f : Lsw → Lsw) (s : State) : (setLsw f s).hatch = s.hatch := rfl
@[simp] theorem setLsw_par (f : Lsw → Lsw) (s : State) : (setLsw f s).par = s.par := rfl
@[simp] theorem setLsw_shu (f : Lsw → Lsw) (s : State) : (setLsw f s).shu = s.shu := rfl
@[simp] theorem setLsw_sag (f : Lsw → Lsw) (s : State) : (setLsw f s).sag = s.sag := rfl
@[simp] theorem setLsw_snap (f : Lsw → Lsw) (s : State) : (setLsw f s).snap = s.snap := rfl
@[simp] theorem setLsw_pq (f : Lsw → Lsw) (s : State) : (setLsw f s).pq = s.pq := rfl
@[simp] theorem setLsw_kiln (f : Lsw → Lsw) (s : State) : (setLsw f s).kiln = s.kiln := rfl
@[simp] theorem setLsw_dma (f : Lsw → Lsw) (s : State) : (setLsw f s).dma = s.dma := rfl
@[simp] theorem setLsw_veh (f : Lsw → Lsw) (s : State) : (setLsw f s).veh = s.veh := rfl
@[simp] theorem setLsw_lsw (f : Lsw → Lsw) (s : State) : (setLsw f s).lsw = f s.lsw := rfl
@[simp] theorem setLsw_con (f : Lsw → Lsw) (s : State) : (setLsw f s).con = s.con := rfl
@[simp] theorem setLsw_disp (f : Lsw → Lsw) (s : State) : (setLsw f s).disp = s.disp := rfl
@[simp] theorem setLsw_mc (f : Lsw → Lsw) (s : State) : (setLsw f s).mc = s.mc := rfl
@[simp] theorem setLsw_lin (f : Lsw → Lsw) (s : State) : (setLsw f s).lin = s.lin := rfl
@[simp] theorem setLsw_hng (f : Lsw → Lsw) (s : State) : (setLsw f s).hng = s.hng := rfl
@[simp] theorem setLsw_upd (f : Lsw → Lsw) (s : State) : (setLsw f s).upd = s.upd := rfl
@[simp] theorem setLsw_adc (f : Lsw → Lsw) (s : State) : (setLsw f s).adc = s.adc := rfl
@[simp] theorem setLsw_nl (f : Lsw → Lsw) (s : State) : (setLsw f s).nl = s.nl := rfl
@[simp] theorem setLsw_diag (f : Lsw → Lsw) (s : State) : (setLsw f s).diag = s.diag := rfl
@[simp] theorem setLsw_rs (f : Lsw → Lsw) (s : State) : (setLsw f s).rs = s.rs := rfl
@[simp] theorem setLsw_pending (f : Lsw → Lsw) (s : State) : (setLsw f s).pending = s.pending := rfl

/-! setInp -/

@[simp] theorem setInp_ident (f : Inputs → Inputs) (s : State) : (setInp f s).ident = s.ident := rfl
@[simp] theorem setInp_clk (f : Inputs → Inputs) (s : State) : (setInp f s).clk = s.clk := rfl
@[simp] theorem setInp_pwr (f : Inputs → Inputs) (s : State) : (setInp f s).pwr = s.pwr := rfl
@[simp] theorem setInp_dom (f : Inputs → Inputs) (s : State) : (setInp f s).dom = s.dom := rfl
@[simp] theorem setInp_mode (f : Inputs → Inputs) (s : State) : (setInp f s).mode = s.mode := rfl
@[simp] theorem setInp_hold (f : Inputs → Inputs) (s : State) : (setInp f s).hold = s.hold := rfl
@[simp] theorem setInp_recl (f : Inputs → Inputs) (s : State) : (setInp f s).recl = s.recl := rfl
@[simp] theorem setInp_inp (f : Inputs → Inputs) (s : State) : (setInp f s).inp = f s.inp := rfl
@[simp] theorem setInp_sie (f : Inputs → Inputs) (s : State) : (setInp f s).sie = s.sie := rfl
@[simp] theorem setInp_met (f : Inputs → Inputs) (s : State) : (setInp f s).met = s.met := rfl
@[simp] theorem setInp_cal (f : Inputs → Inputs) (s : State) : (setInp f s).cal = s.cal := rfl
@[simp] theorem setInp_led (f : Inputs → Inputs) (s : State) : (setInp f s).led = s.led := rfl
@[simp] theorem setInp_bil (f : Inputs → Inputs) (s : State) : (setInp f s).bil = s.bil := rfl
@[simp] theorem setInp_hatch (f : Inputs → Inputs) (s : State) : (setInp f s).hatch = s.hatch := rfl
@[simp] theorem setInp_par (f : Inputs → Inputs) (s : State) : (setInp f s).par = s.par := rfl
@[simp] theorem setInp_shu (f : Inputs → Inputs) (s : State) : (setInp f s).shu = s.shu := rfl
@[simp] theorem setInp_sag (f : Inputs → Inputs) (s : State) : (setInp f s).sag = s.sag := rfl
@[simp] theorem setInp_snap (f : Inputs → Inputs) (s : State) : (setInp f s).snap = s.snap := rfl
@[simp] theorem setInp_pq (f : Inputs → Inputs) (s : State) : (setInp f s).pq = s.pq := rfl
@[simp] theorem setInp_kiln (f : Inputs → Inputs) (s : State) : (setInp f s).kiln = s.kiln := rfl
@[simp] theorem setInp_dma (f : Inputs → Inputs) (s : State) : (setInp f s).dma = s.dma := rfl
@[simp] theorem setInp_veh (f : Inputs → Inputs) (s : State) : (setInp f s).veh = s.veh := rfl
@[simp] theorem setInp_lsw (f : Inputs → Inputs) (s : State) : (setInp f s).lsw = s.lsw := rfl
@[simp] theorem setInp_con (f : Inputs → Inputs) (s : State) : (setInp f s).con = s.con := rfl
@[simp] theorem setInp_disp (f : Inputs → Inputs) (s : State) : (setInp f s).disp = s.disp := rfl
@[simp] theorem setInp_mc (f : Inputs → Inputs) (s : State) : (setInp f s).mc = s.mc := rfl
@[simp] theorem setInp_lin (f : Inputs → Inputs) (s : State) : (setInp f s).lin = s.lin := rfl
@[simp] theorem setInp_hng (f : Inputs → Inputs) (s : State) : (setInp f s).hng = s.hng := rfl
@[simp] theorem setInp_upd (f : Inputs → Inputs) (s : State) : (setInp f s).upd = s.upd := rfl
@[simp] theorem setInp_adc (f : Inputs → Inputs) (s : State) : (setInp f s).adc = s.adc := rfl
@[simp] theorem setInp_nl (f : Inputs → Inputs) (s : State) : (setInp f s).nl = s.nl := rfl
@[simp] theorem setInp_diag (f : Inputs → Inputs) (s : State) : (setInp f s).diag = s.diag := rfl
@[simp] theorem setInp_rs (f : Inputs → Inputs) (s : State) : (setInp f s).rs = s.rs := rfl
@[simp] theorem setInp_pending (f : Inputs → Inputs) (s : State) : (setInp f s).pending = s.pending := rfl

/-! setSie -/

@[simp] theorem setSie_ident (f : Sieve → Sieve) (s : State) : (setSie f s).ident = s.ident := rfl
@[simp] theorem setSie_clk (f : Sieve → Sieve) (s : State) : (setSie f s).clk = s.clk := rfl
@[simp] theorem setSie_pwr (f : Sieve → Sieve) (s : State) : (setSie f s).pwr = s.pwr := rfl
@[simp] theorem setSie_dom (f : Sieve → Sieve) (s : State) : (setSie f s).dom = s.dom := rfl
@[simp] theorem setSie_mode (f : Sieve → Sieve) (s : State) : (setSie f s).mode = s.mode := rfl
@[simp] theorem setSie_hold (f : Sieve → Sieve) (s : State) : (setSie f s).hold = s.hold := rfl
@[simp] theorem setSie_recl (f : Sieve → Sieve) (s : State) : (setSie f s).recl = s.recl := rfl
@[simp] theorem setSie_inp (f : Sieve → Sieve) (s : State) : (setSie f s).inp = s.inp := rfl
@[simp] theorem setSie_sie (f : Sieve → Sieve) (s : State) : (setSie f s).sie = f s.sie := rfl
@[simp] theorem setSie_met (f : Sieve → Sieve) (s : State) : (setSie f s).met = s.met := rfl
@[simp] theorem setSie_cal (f : Sieve → Sieve) (s : State) : (setSie f s).cal = s.cal := rfl
@[simp] theorem setSie_led (f : Sieve → Sieve) (s : State) : (setSie f s).led = s.led := rfl
@[simp] theorem setSie_bil (f : Sieve → Sieve) (s : State) : (setSie f s).bil = s.bil := rfl
@[simp] theorem setSie_hatch (f : Sieve → Sieve) (s : State) : (setSie f s).hatch = s.hatch := rfl
@[simp] theorem setSie_par (f : Sieve → Sieve) (s : State) : (setSie f s).par = s.par := rfl
@[simp] theorem setSie_shu (f : Sieve → Sieve) (s : State) : (setSie f s).shu = s.shu := rfl
@[simp] theorem setSie_sag (f : Sieve → Sieve) (s : State) : (setSie f s).sag = s.sag := rfl
@[simp] theorem setSie_snap (f : Sieve → Sieve) (s : State) : (setSie f s).snap = s.snap := rfl
@[simp] theorem setSie_pq (f : Sieve → Sieve) (s : State) : (setSie f s).pq = s.pq := rfl
@[simp] theorem setSie_kiln (f : Sieve → Sieve) (s : State) : (setSie f s).kiln = s.kiln := rfl
@[simp] theorem setSie_dma (f : Sieve → Sieve) (s : State) : (setSie f s).dma = s.dma := rfl
@[simp] theorem setSie_veh (f : Sieve → Sieve) (s : State) : (setSie f s).veh = s.veh := rfl
@[simp] theorem setSie_lsw (f : Sieve → Sieve) (s : State) : (setSie f s).lsw = s.lsw := rfl
@[simp] theorem setSie_con (f : Sieve → Sieve) (s : State) : (setSie f s).con = s.con := rfl
@[simp] theorem setSie_disp (f : Sieve → Sieve) (s : State) : (setSie f s).disp = s.disp := rfl
@[simp] theorem setSie_mc (f : Sieve → Sieve) (s : State) : (setSie f s).mc = s.mc := rfl
@[simp] theorem setSie_lin (f : Sieve → Sieve) (s : State) : (setSie f s).lin = s.lin := rfl
@[simp] theorem setSie_hng (f : Sieve → Sieve) (s : State) : (setSie f s).hng = s.hng := rfl
@[simp] theorem setSie_upd (f : Sieve → Sieve) (s : State) : (setSie f s).upd = s.upd := rfl
@[simp] theorem setSie_adc (f : Sieve → Sieve) (s : State) : (setSie f s).adc = s.adc := rfl
@[simp] theorem setSie_nl (f : Sieve → Sieve) (s : State) : (setSie f s).nl = s.nl := rfl
@[simp] theorem setSie_diag (f : Sieve → Sieve) (s : State) : (setSie f s).diag = s.diag := rfl
@[simp] theorem setSie_rs (f : Sieve → Sieve) (s : State) : (setSie f s).rs = s.rs := rfl
@[simp] theorem setSie_pending (f : Sieve → Sieve) (s : State) : (setSie f s).pending = s.pending := rfl

/-! setMet -/

@[simp] theorem setMet_ident (f : Energy → Energy) (s : State) : (setMet f s).ident = s.ident := rfl
@[simp] theorem setMet_clk (f : Energy → Energy) (s : State) : (setMet f s).clk = s.clk := rfl
@[simp] theorem setMet_pwr (f : Energy → Energy) (s : State) : (setMet f s).pwr = s.pwr := rfl
@[simp] theorem setMet_dom (f : Energy → Energy) (s : State) : (setMet f s).dom = s.dom := rfl
@[simp] theorem setMet_mode (f : Energy → Energy) (s : State) : (setMet f s).mode = s.mode := rfl
@[simp] theorem setMet_hold (f : Energy → Energy) (s : State) : (setMet f s).hold = s.hold := rfl
@[simp] theorem setMet_recl (f : Energy → Energy) (s : State) : (setMet f s).recl = s.recl := rfl
@[simp] theorem setMet_inp (f : Energy → Energy) (s : State) : (setMet f s).inp = s.inp := rfl
@[simp] theorem setMet_sie (f : Energy → Energy) (s : State) : (setMet f s).sie = s.sie := rfl
@[simp] theorem setMet_met (f : Energy → Energy) (s : State) : (setMet f s).met = f s.met := rfl
@[simp] theorem setMet_cal (f : Energy → Energy) (s : State) : (setMet f s).cal = s.cal := rfl
@[simp] theorem setMet_led (f : Energy → Energy) (s : State) : (setMet f s).led = s.led := rfl
@[simp] theorem setMet_bil (f : Energy → Energy) (s : State) : (setMet f s).bil = s.bil := rfl
@[simp] theorem setMet_hatch (f : Energy → Energy) (s : State) : (setMet f s).hatch = s.hatch := rfl
@[simp] theorem setMet_par (f : Energy → Energy) (s : State) : (setMet f s).par = s.par := rfl
@[simp] theorem setMet_shu (f : Energy → Energy) (s : State) : (setMet f s).shu = s.shu := rfl
@[simp] theorem setMet_sag (f : Energy → Energy) (s : State) : (setMet f s).sag = s.sag := rfl
@[simp] theorem setMet_snap (f : Energy → Energy) (s : State) : (setMet f s).snap = s.snap := rfl
@[simp] theorem setMet_pq (f : Energy → Energy) (s : State) : (setMet f s).pq = s.pq := rfl
@[simp] theorem setMet_kiln (f : Energy → Energy) (s : State) : (setMet f s).kiln = s.kiln := rfl
@[simp] theorem setMet_dma (f : Energy → Energy) (s : State) : (setMet f s).dma = s.dma := rfl
@[simp] theorem setMet_veh (f : Energy → Energy) (s : State) : (setMet f s).veh = s.veh := rfl
@[simp] theorem setMet_lsw (f : Energy → Energy) (s : State) : (setMet f s).lsw = s.lsw := rfl
@[simp] theorem setMet_con (f : Energy → Energy) (s : State) : (setMet f s).con = s.con := rfl
@[simp] theorem setMet_disp (f : Energy → Energy) (s : State) : (setMet f s).disp = s.disp := rfl
@[simp] theorem setMet_mc (f : Energy → Energy) (s : State) : (setMet f s).mc = s.mc := rfl
@[simp] theorem setMet_lin (f : Energy → Energy) (s : State) : (setMet f s).lin = s.lin := rfl
@[simp] theorem setMet_hng (f : Energy → Energy) (s : State) : (setMet f s).hng = s.hng := rfl
@[simp] theorem setMet_upd (f : Energy → Energy) (s : State) : (setMet f s).upd = s.upd := rfl
@[simp] theorem setMet_adc (f : Energy → Energy) (s : State) : (setMet f s).adc = s.adc := rfl
@[simp] theorem setMet_nl (f : Energy → Energy) (s : State) : (setMet f s).nl = s.nl := rfl
@[simp] theorem setMet_diag (f : Energy → Energy) (s : State) : (setMet f s).diag = s.diag := rfl
@[simp] theorem setMet_rs (f : Energy → Energy) (s : State) : (setMet f s).rs = s.rs := rfl
@[simp] theorem setMet_pending (f : Energy → Energy) (s : State) : (setMet f s).pending = s.pending := rfl

/-! setCal -/

@[simp] theorem setCal_ident (f : Cal → Cal) (s : State) : (setCal f s).ident = s.ident := rfl
@[simp] theorem setCal_clk (f : Cal → Cal) (s : State) : (setCal f s).clk = s.clk := rfl
@[simp] theorem setCal_pwr (f : Cal → Cal) (s : State) : (setCal f s).pwr = s.pwr := rfl
@[simp] theorem setCal_dom (f : Cal → Cal) (s : State) : (setCal f s).dom = s.dom := rfl
@[simp] theorem setCal_mode (f : Cal → Cal) (s : State) : (setCal f s).mode = s.mode := rfl
@[simp] theorem setCal_hold (f : Cal → Cal) (s : State) : (setCal f s).hold = s.hold := rfl
@[simp] theorem setCal_recl (f : Cal → Cal) (s : State) : (setCal f s).recl = s.recl := rfl
@[simp] theorem setCal_inp (f : Cal → Cal) (s : State) : (setCal f s).inp = s.inp := rfl
@[simp] theorem setCal_sie (f : Cal → Cal) (s : State) : (setCal f s).sie = s.sie := rfl
@[simp] theorem setCal_met (f : Cal → Cal) (s : State) : (setCal f s).met = s.met := rfl
@[simp] theorem setCal_cal (f : Cal → Cal) (s : State) : (setCal f s).cal = f s.cal := rfl
@[simp] theorem setCal_led (f : Cal → Cal) (s : State) : (setCal f s).led = s.led := rfl
@[simp] theorem setCal_bil (f : Cal → Cal) (s : State) : (setCal f s).bil = s.bil := rfl
@[simp] theorem setCal_hatch (f : Cal → Cal) (s : State) : (setCal f s).hatch = s.hatch := rfl
@[simp] theorem setCal_par (f : Cal → Cal) (s : State) : (setCal f s).par = s.par := rfl
@[simp] theorem setCal_shu (f : Cal → Cal) (s : State) : (setCal f s).shu = s.shu := rfl
@[simp] theorem setCal_sag (f : Cal → Cal) (s : State) : (setCal f s).sag = s.sag := rfl
@[simp] theorem setCal_snap (f : Cal → Cal) (s : State) : (setCal f s).snap = s.snap := rfl
@[simp] theorem setCal_pq (f : Cal → Cal) (s : State) : (setCal f s).pq = s.pq := rfl
@[simp] theorem setCal_kiln (f : Cal → Cal) (s : State) : (setCal f s).kiln = s.kiln := rfl
@[simp] theorem setCal_dma (f : Cal → Cal) (s : State) : (setCal f s).dma = s.dma := rfl
@[simp] theorem setCal_veh (f : Cal → Cal) (s : State) : (setCal f s).veh = s.veh := rfl
@[simp] theorem setCal_lsw (f : Cal → Cal) (s : State) : (setCal f s).lsw = s.lsw := rfl
@[simp] theorem setCal_con (f : Cal → Cal) (s : State) : (setCal f s).con = s.con := rfl
@[simp] theorem setCal_disp (f : Cal → Cal) (s : State) : (setCal f s).disp = s.disp := rfl
@[simp] theorem setCal_mc (f : Cal → Cal) (s : State) : (setCal f s).mc = s.mc := rfl
@[simp] theorem setCal_lin (f : Cal → Cal) (s : State) : (setCal f s).lin = s.lin := rfl
@[simp] theorem setCal_hng (f : Cal → Cal) (s : State) : (setCal f s).hng = s.hng := rfl
@[simp] theorem setCal_upd (f : Cal → Cal) (s : State) : (setCal f s).upd = s.upd := rfl
@[simp] theorem setCal_adc (f : Cal → Cal) (s : State) : (setCal f s).adc = s.adc := rfl
@[simp] theorem setCal_nl (f : Cal → Cal) (s : State) : (setCal f s).nl = s.nl := rfl
@[simp] theorem setCal_diag (f : Cal → Cal) (s : State) : (setCal f s).diag = s.diag := rfl
@[simp] theorem setCal_rs (f : Cal → Cal) (s : State) : (setCal f s).rs = s.rs := rfl
@[simp] theorem setCal_pending (f : Cal → Cal) (s : State) : (setCal f s).pending = s.pending := rfl

/-! setLed -/

@[simp] theorem setLed_ident (f : Ledger → Ledger) (s : State) : (setLed f s).ident = s.ident := rfl
@[simp] theorem setLed_clk (f : Ledger → Ledger) (s : State) : (setLed f s).clk = s.clk := rfl
@[simp] theorem setLed_pwr (f : Ledger → Ledger) (s : State) : (setLed f s).pwr = s.pwr := rfl
@[simp] theorem setLed_dom (f : Ledger → Ledger) (s : State) : (setLed f s).dom = s.dom := rfl
@[simp] theorem setLed_mode (f : Ledger → Ledger) (s : State) : (setLed f s).mode = s.mode := rfl
@[simp] theorem setLed_hold (f : Ledger → Ledger) (s : State) : (setLed f s).hold = s.hold := rfl
@[simp] theorem setLed_recl (f : Ledger → Ledger) (s : State) : (setLed f s).recl = s.recl := rfl
@[simp] theorem setLed_inp (f : Ledger → Ledger) (s : State) : (setLed f s).inp = s.inp := rfl
@[simp] theorem setLed_sie (f : Ledger → Ledger) (s : State) : (setLed f s).sie = s.sie := rfl
@[simp] theorem setLed_met (f : Ledger → Ledger) (s : State) : (setLed f s).met = s.met := rfl
@[simp] theorem setLed_cal (f : Ledger → Ledger) (s : State) : (setLed f s).cal = s.cal := rfl
@[simp] theorem setLed_led (f : Ledger → Ledger) (s : State) : (setLed f s).led = f s.led := rfl
@[simp] theorem setLed_bil (f : Ledger → Ledger) (s : State) : (setLed f s).bil = s.bil := rfl
@[simp] theorem setLed_hatch (f : Ledger → Ledger) (s : State) : (setLed f s).hatch = s.hatch := rfl
@[simp] theorem setLed_par (f : Ledger → Ledger) (s : State) : (setLed f s).par = s.par := rfl
@[simp] theorem setLed_shu (f : Ledger → Ledger) (s : State) : (setLed f s).shu = s.shu := rfl
@[simp] theorem setLed_sag (f : Ledger → Ledger) (s : State) : (setLed f s).sag = s.sag := rfl
@[simp] theorem setLed_snap (f : Ledger → Ledger) (s : State) : (setLed f s).snap = s.snap := rfl
@[simp] theorem setLed_pq (f : Ledger → Ledger) (s : State) : (setLed f s).pq = s.pq := rfl
@[simp] theorem setLed_kiln (f : Ledger → Ledger) (s : State) : (setLed f s).kiln = s.kiln := rfl
@[simp] theorem setLed_dma (f : Ledger → Ledger) (s : State) : (setLed f s).dma = s.dma := rfl
@[simp] theorem setLed_veh (f : Ledger → Ledger) (s : State) : (setLed f s).veh = s.veh := rfl
@[simp] theorem setLed_lsw (f : Ledger → Ledger) (s : State) : (setLed f s).lsw = s.lsw := rfl
@[simp] theorem setLed_con (f : Ledger → Ledger) (s : State) : (setLed f s).con = s.con := rfl
@[simp] theorem setLed_disp (f : Ledger → Ledger) (s : State) : (setLed f s).disp = s.disp := rfl
@[simp] theorem setLed_mc (f : Ledger → Ledger) (s : State) : (setLed f s).mc = s.mc := rfl
@[simp] theorem setLed_lin (f : Ledger → Ledger) (s : State) : (setLed f s).lin = s.lin := rfl
@[simp] theorem setLed_hng (f : Ledger → Ledger) (s : State) : (setLed f s).hng = s.hng := rfl
@[simp] theorem setLed_upd (f : Ledger → Ledger) (s : State) : (setLed f s).upd = s.upd := rfl
@[simp] theorem setLed_adc (f : Ledger → Ledger) (s : State) : (setLed f s).adc = s.adc := rfl
@[simp] theorem setLed_nl (f : Ledger → Ledger) (s : State) : (setLed f s).nl = s.nl := rfl
@[simp] theorem setLed_diag (f : Ledger → Ledger) (s : State) : (setLed f s).diag = s.diag := rfl
@[simp] theorem setLed_rs (f : Ledger → Ledger) (s : State) : (setLed f s).rs = s.rs := rfl
@[simp] theorem setLed_pending (f : Ledger → Ledger) (s : State) : (setLed f s).pending = s.pending := rfl

/-! setPq -/

@[simp] theorem setPq_ident (f : Pq → Pq) (s : State) : (setPq f s).ident = s.ident := rfl
@[simp] theorem setPq_clk (f : Pq → Pq) (s : State) : (setPq f s).clk = s.clk := rfl
@[simp] theorem setPq_pwr (f : Pq → Pq) (s : State) : (setPq f s).pwr = s.pwr := rfl
@[simp] theorem setPq_dom (f : Pq → Pq) (s : State) : (setPq f s).dom = s.dom := rfl
@[simp] theorem setPq_mode (f : Pq → Pq) (s : State) : (setPq f s).mode = s.mode := rfl
@[simp] theorem setPq_hold (f : Pq → Pq) (s : State) : (setPq f s).hold = s.hold := rfl
@[simp] theorem setPq_recl (f : Pq → Pq) (s : State) : (setPq f s).recl = s.recl := rfl
@[simp] theorem setPq_inp (f : Pq → Pq) (s : State) : (setPq f s).inp = s.inp := rfl
@[simp] theorem setPq_sie (f : Pq → Pq) (s : State) : (setPq f s).sie = s.sie := rfl
@[simp] theorem setPq_met (f : Pq → Pq) (s : State) : (setPq f s).met = s.met := rfl
@[simp] theorem setPq_cal (f : Pq → Pq) (s : State) : (setPq f s).cal = s.cal := rfl
@[simp] theorem setPq_led (f : Pq → Pq) (s : State) : (setPq f s).led = s.led := rfl
@[simp] theorem setPq_bil (f : Pq → Pq) (s : State) : (setPq f s).bil = s.bil := rfl
@[simp] theorem setPq_hatch (f : Pq → Pq) (s : State) : (setPq f s).hatch = s.hatch := rfl
@[simp] theorem setPq_par (f : Pq → Pq) (s : State) : (setPq f s).par = s.par := rfl
@[simp] theorem setPq_shu (f : Pq → Pq) (s : State) : (setPq f s).shu = s.shu := rfl
@[simp] theorem setPq_sag (f : Pq → Pq) (s : State) : (setPq f s).sag = s.sag := rfl
@[simp] theorem setPq_snap (f : Pq → Pq) (s : State) : (setPq f s).snap = s.snap := rfl
@[simp] theorem setPq_pq (f : Pq → Pq) (s : State) : (setPq f s).pq = f s.pq := rfl
@[simp] theorem setPq_kiln (f : Pq → Pq) (s : State) : (setPq f s).kiln = s.kiln := rfl
@[simp] theorem setPq_dma (f : Pq → Pq) (s : State) : (setPq f s).dma = s.dma := rfl
@[simp] theorem setPq_veh (f : Pq → Pq) (s : State) : (setPq f s).veh = s.veh := rfl
@[simp] theorem setPq_lsw (f : Pq → Pq) (s : State) : (setPq f s).lsw = s.lsw := rfl
@[simp] theorem setPq_con (f : Pq → Pq) (s : State) : (setPq f s).con = s.con := rfl
@[simp] theorem setPq_disp (f : Pq → Pq) (s : State) : (setPq f s).disp = s.disp := rfl
@[simp] theorem setPq_mc (f : Pq → Pq) (s : State) : (setPq f s).mc = s.mc := rfl
@[simp] theorem setPq_lin (f : Pq → Pq) (s : State) : (setPq f s).lin = s.lin := rfl
@[simp] theorem setPq_hng (f : Pq → Pq) (s : State) : (setPq f s).hng = s.hng := rfl
@[simp] theorem setPq_upd (f : Pq → Pq) (s : State) : (setPq f s).upd = s.upd := rfl
@[simp] theorem setPq_adc (f : Pq → Pq) (s : State) : (setPq f s).adc = s.adc := rfl
@[simp] theorem setPq_nl (f : Pq → Pq) (s : State) : (setPq f s).nl = s.nl := rfl
@[simp] theorem setPq_diag (f : Pq → Pq) (s : State) : (setPq f s).diag = s.diag := rfl
@[simp] theorem setPq_rs (f : Pq → Pq) (s : State) : (setPq f s).rs = s.rs := rfl
@[simp] theorem setPq_pending (f : Pq → Pq) (s : State) : (setPq f s).pending = s.pending := rfl

/-! setHng -/

@[simp] theorem setHng_ident (f : Hinge → Hinge) (s : State) : (setHng f s).ident = s.ident := rfl
@[simp] theorem setHng_clk (f : Hinge → Hinge) (s : State) : (setHng f s).clk = s.clk := rfl
@[simp] theorem setHng_pwr (f : Hinge → Hinge) (s : State) : (setHng f s).pwr = s.pwr := rfl
@[simp] theorem setHng_dom (f : Hinge → Hinge) (s : State) : (setHng f s).dom = s.dom := rfl
@[simp] theorem setHng_mode (f : Hinge → Hinge) (s : State) : (setHng f s).mode = s.mode := rfl
@[simp] theorem setHng_hold (f : Hinge → Hinge) (s : State) : (setHng f s).hold = s.hold := rfl
@[simp] theorem setHng_recl (f : Hinge → Hinge) (s : State) : (setHng f s).recl = s.recl := rfl
@[simp] theorem setHng_inp (f : Hinge → Hinge) (s : State) : (setHng f s).inp = s.inp := rfl
@[simp] theorem setHng_sie (f : Hinge → Hinge) (s : State) : (setHng f s).sie = s.sie := rfl
@[simp] theorem setHng_met (f : Hinge → Hinge) (s : State) : (setHng f s).met = s.met := rfl
@[simp] theorem setHng_cal (f : Hinge → Hinge) (s : State) : (setHng f s).cal = s.cal := rfl
@[simp] theorem setHng_led (f : Hinge → Hinge) (s : State) : (setHng f s).led = s.led := rfl
@[simp] theorem setHng_bil (f : Hinge → Hinge) (s : State) : (setHng f s).bil = s.bil := rfl
@[simp] theorem setHng_hatch (f : Hinge → Hinge) (s : State) : (setHng f s).hatch = s.hatch := rfl
@[simp] theorem setHng_par (f : Hinge → Hinge) (s : State) : (setHng f s).par = s.par := rfl
@[simp] theorem setHng_shu (f : Hinge → Hinge) (s : State) : (setHng f s).shu = s.shu := rfl
@[simp] theorem setHng_sag (f : Hinge → Hinge) (s : State) : (setHng f s).sag = s.sag := rfl
@[simp] theorem setHng_snap (f : Hinge → Hinge) (s : State) : (setHng f s).snap = s.snap := rfl
@[simp] theorem setHng_pq (f : Hinge → Hinge) (s : State) : (setHng f s).pq = s.pq := rfl
@[simp] theorem setHng_kiln (f : Hinge → Hinge) (s : State) : (setHng f s).kiln = s.kiln := rfl
@[simp] theorem setHng_dma (f : Hinge → Hinge) (s : State) : (setHng f s).dma = s.dma := rfl
@[simp] theorem setHng_veh (f : Hinge → Hinge) (s : State) : (setHng f s).veh = s.veh := rfl
@[simp] theorem setHng_lsw (f : Hinge → Hinge) (s : State) : (setHng f s).lsw = s.lsw := rfl
@[simp] theorem setHng_con (f : Hinge → Hinge) (s : State) : (setHng f s).con = s.con := rfl
@[simp] theorem setHng_disp (f : Hinge → Hinge) (s : State) : (setHng f s).disp = s.disp := rfl
@[simp] theorem setHng_mc (f : Hinge → Hinge) (s : State) : (setHng f s).mc = s.mc := rfl
@[simp] theorem setHng_lin (f : Hinge → Hinge) (s : State) : (setHng f s).lin = s.lin := rfl
@[simp] theorem setHng_hng (f : Hinge → Hinge) (s : State) : (setHng f s).hng = f s.hng := rfl
@[simp] theorem setHng_upd (f : Hinge → Hinge) (s : State) : (setHng f s).upd = s.upd := rfl
@[simp] theorem setHng_adc (f : Hinge → Hinge) (s : State) : (setHng f s).adc = s.adc := rfl
@[simp] theorem setHng_nl (f : Hinge → Hinge) (s : State) : (setHng f s).nl = s.nl := rfl
@[simp] theorem setHng_diag (f : Hinge → Hinge) (s : State) : (setHng f s).diag = s.diag := rfl
@[simp] theorem setHng_rs (f : Hinge → Hinge) (s : State) : (setHng f s).rs = s.rs := rfl
@[simp] theorem setHng_pending (f : Hinge → Hinge) (s : State) : (setHng f s).pending = s.pending := rfl

/-! setRs -/

@[simp] theorem setRs_ident (f : Rs485 → Rs485) (s : State) : (setRs f s).ident = s.ident := rfl
@[simp] theorem setRs_clk (f : Rs485 → Rs485) (s : State) : (setRs f s).clk = s.clk := rfl
@[simp] theorem setRs_pwr (f : Rs485 → Rs485) (s : State) : (setRs f s).pwr = s.pwr := rfl
@[simp] theorem setRs_dom (f : Rs485 → Rs485) (s : State) : (setRs f s).dom = s.dom := rfl
@[simp] theorem setRs_mode (f : Rs485 → Rs485) (s : State) : (setRs f s).mode = s.mode := rfl
@[simp] theorem setRs_hold (f : Rs485 → Rs485) (s : State) : (setRs f s).hold = s.hold := rfl
@[simp] theorem setRs_recl (f : Rs485 → Rs485) (s : State) : (setRs f s).recl = s.recl := rfl
@[simp] theorem setRs_inp (f : Rs485 → Rs485) (s : State) : (setRs f s).inp = s.inp := rfl
@[simp] theorem setRs_sie (f : Rs485 → Rs485) (s : State) : (setRs f s).sie = s.sie := rfl
@[simp] theorem setRs_met (f : Rs485 → Rs485) (s : State) : (setRs f s).met = s.met := rfl
@[simp] theorem setRs_cal (f : Rs485 → Rs485) (s : State) : (setRs f s).cal = s.cal := rfl
@[simp] theorem setRs_led (f : Rs485 → Rs485) (s : State) : (setRs f s).led = s.led := rfl
@[simp] theorem setRs_bil (f : Rs485 → Rs485) (s : State) : (setRs f s).bil = s.bil := rfl
@[simp] theorem setRs_hatch (f : Rs485 → Rs485) (s : State) : (setRs f s).hatch = s.hatch := rfl
@[simp] theorem setRs_par (f : Rs485 → Rs485) (s : State) : (setRs f s).par = s.par := rfl
@[simp] theorem setRs_shu (f : Rs485 → Rs485) (s : State) : (setRs f s).shu = s.shu := rfl
@[simp] theorem setRs_sag (f : Rs485 → Rs485) (s : State) : (setRs f s).sag = s.sag := rfl
@[simp] theorem setRs_snap (f : Rs485 → Rs485) (s : State) : (setRs f s).snap = s.snap := rfl
@[simp] theorem setRs_pq (f : Rs485 → Rs485) (s : State) : (setRs f s).pq = s.pq := rfl
@[simp] theorem setRs_kiln (f : Rs485 → Rs485) (s : State) : (setRs f s).kiln = s.kiln := rfl
@[simp] theorem setRs_dma (f : Rs485 → Rs485) (s : State) : (setRs f s).dma = s.dma := rfl
@[simp] theorem setRs_veh (f : Rs485 → Rs485) (s : State) : (setRs f s).veh = s.veh := rfl
@[simp] theorem setRs_lsw (f : Rs485 → Rs485) (s : State) : (setRs f s).lsw = s.lsw := rfl
@[simp] theorem setRs_con (f : Rs485 → Rs485) (s : State) : (setRs f s).con = s.con := rfl
@[simp] theorem setRs_disp (f : Rs485 → Rs485) (s : State) : (setRs f s).disp = s.disp := rfl
@[simp] theorem setRs_mc (f : Rs485 → Rs485) (s : State) : (setRs f s).mc = s.mc := rfl
@[simp] theorem setRs_lin (f : Rs485 → Rs485) (s : State) : (setRs f s).lin = s.lin := rfl
@[simp] theorem setRs_hng (f : Rs485 → Rs485) (s : State) : (setRs f s).hng = s.hng := rfl
@[simp] theorem setRs_upd (f : Rs485 → Rs485) (s : State) : (setRs f s).upd = s.upd := rfl
@[simp] theorem setRs_adc (f : Rs485 → Rs485) (s : State) : (setRs f s).adc = s.adc := rfl
@[simp] theorem setRs_nl (f : Rs485 → Rs485) (s : State) : (setRs f s).nl = s.nl := rfl
@[simp] theorem setRs_diag (f : Rs485 → Rs485) (s : State) : (setRs f s).diag = s.diag := rfl
@[simp] theorem setRs_rs (f : Rs485 → Rs485) (s : State) : (setRs f s).rs = f s.rs := rfl
@[simp] theorem setRs_pending (f : Rs485 → Rs485) (s : State) : (setRs f s).pending = s.pending := rfl

/-! setDom -/

@[simp] theorem setDom_ident (f : Domains → Domains) (s : State) : (setDom f s).ident = s.ident := rfl
@[simp] theorem setDom_clk (f : Domains → Domains) (s : State) : (setDom f s).clk = s.clk := rfl
@[simp] theorem setDom_pwr (f : Domains → Domains) (s : State) : (setDom f s).pwr = s.pwr := rfl
@[simp] theorem setDom_dom (f : Domains → Domains) (s : State) : (setDom f s).dom = f s.dom := rfl
@[simp] theorem setDom_mode (f : Domains → Domains) (s : State) : (setDom f s).mode = s.mode := rfl
@[simp] theorem setDom_hold (f : Domains → Domains) (s : State) : (setDom f s).hold = s.hold := rfl
@[simp] theorem setDom_recl (f : Domains → Domains) (s : State) : (setDom f s).recl = s.recl := rfl
@[simp] theorem setDom_inp (f : Domains → Domains) (s : State) : (setDom f s).inp = s.inp := rfl
@[simp] theorem setDom_sie (f : Domains → Domains) (s : State) : (setDom f s).sie = s.sie := rfl
@[simp] theorem setDom_met (f : Domains → Domains) (s : State) : (setDom f s).met = s.met := rfl
@[simp] theorem setDom_cal (f : Domains → Domains) (s : State) : (setDom f s).cal = s.cal := rfl
@[simp] theorem setDom_led (f : Domains → Domains) (s : State) : (setDom f s).led = s.led := rfl
@[simp] theorem setDom_bil (f : Domains → Domains) (s : State) : (setDom f s).bil = s.bil := rfl
@[simp] theorem setDom_hatch (f : Domains → Domains) (s : State) : (setDom f s).hatch = s.hatch := rfl
@[simp] theorem setDom_par (f : Domains → Domains) (s : State) : (setDom f s).par = s.par := rfl
@[simp] theorem setDom_shu (f : Domains → Domains) (s : State) : (setDom f s).shu = s.shu := rfl
@[simp] theorem setDom_sag (f : Domains → Domains) (s : State) : (setDom f s).sag = s.sag := rfl
@[simp] theorem setDom_snap (f : Domains → Domains) (s : State) : (setDom f s).snap = s.snap := rfl
@[simp] theorem setDom_pq (f : Domains → Domains) (s : State) : (setDom f s).pq = s.pq := rfl
@[simp] theorem setDom_kiln (f : Domains → Domains) (s : State) : (setDom f s).kiln = s.kiln := rfl
@[simp] theorem setDom_dma (f : Domains → Domains) (s : State) : (setDom f s).dma = s.dma := rfl
@[simp] theorem setDom_veh (f : Domains → Domains) (s : State) : (setDom f s).veh = s.veh := rfl
@[simp] theorem setDom_lsw (f : Domains → Domains) (s : State) : (setDom f s).lsw = s.lsw := rfl
@[simp] theorem setDom_con (f : Domains → Domains) (s : State) : (setDom f s).con = s.con := rfl
@[simp] theorem setDom_disp (f : Domains → Domains) (s : State) : (setDom f s).disp = s.disp := rfl
@[simp] theorem setDom_mc (f : Domains → Domains) (s : State) : (setDom f s).mc = s.mc := rfl
@[simp] theorem setDom_lin (f : Domains → Domains) (s : State) : (setDom f s).lin = s.lin := rfl
@[simp] theorem setDom_hng (f : Domains → Domains) (s : State) : (setDom f s).hng = s.hng := rfl
@[simp] theorem setDom_upd (f : Domains → Domains) (s : State) : (setDom f s).upd = s.upd := rfl
@[simp] theorem setDom_adc (f : Domains → Domains) (s : State) : (setDom f s).adc = s.adc := rfl
@[simp] theorem setDom_nl (f : Domains → Domains) (s : State) : (setDom f s).nl = s.nl := rfl
@[simp] theorem setDom_diag (f : Domains → Domains) (s : State) : (setDom f s).diag = s.diag := rfl
@[simp] theorem setDom_rs (f : Domains → Domains) (s : State) : (setDom f s).rs = s.rs := rfl
@[simp] theorem setDom_pending (f : Domains → Domains) (s : State) : (setDom f s).pending = s.pending := rfl

/-! setMode -/

@[simp] theorem setMode_ident (f : ModeState → ModeState) (s : State) : (setMode f s).ident = s.ident := rfl
@[simp] theorem setMode_clk (f : ModeState → ModeState) (s : State) : (setMode f s).clk = s.clk := rfl
@[simp] theorem setMode_pwr (f : ModeState → ModeState) (s : State) : (setMode f s).pwr = s.pwr := rfl
@[simp] theorem setMode_dom (f : ModeState → ModeState) (s : State) : (setMode f s).dom = s.dom := rfl
@[simp] theorem setMode_mode (f : ModeState → ModeState) (s : State) : (setMode f s).mode = f s.mode := rfl
@[simp] theorem setMode_hold (f : ModeState → ModeState) (s : State) : (setMode f s).hold = s.hold := rfl
@[simp] theorem setMode_recl (f : ModeState → ModeState) (s : State) : (setMode f s).recl = s.recl := rfl
@[simp] theorem setMode_inp (f : ModeState → ModeState) (s : State) : (setMode f s).inp = s.inp := rfl
@[simp] theorem setMode_sie (f : ModeState → ModeState) (s : State) : (setMode f s).sie = s.sie := rfl
@[simp] theorem setMode_met (f : ModeState → ModeState) (s : State) : (setMode f s).met = s.met := rfl
@[simp] theorem setMode_cal (f : ModeState → ModeState) (s : State) : (setMode f s).cal = s.cal := rfl
@[simp] theorem setMode_led (f : ModeState → ModeState) (s : State) : (setMode f s).led = s.led := rfl
@[simp] theorem setMode_bil (f : ModeState → ModeState) (s : State) : (setMode f s).bil = s.bil := rfl
@[simp] theorem setMode_hatch (f : ModeState → ModeState) (s : State) : (setMode f s).hatch = s.hatch := rfl
@[simp] theorem setMode_par (f : ModeState → ModeState) (s : State) : (setMode f s).par = s.par := rfl
@[simp] theorem setMode_shu (f : ModeState → ModeState) (s : State) : (setMode f s).shu = s.shu := rfl
@[simp] theorem setMode_sag (f : ModeState → ModeState) (s : State) : (setMode f s).sag = s.sag := rfl
@[simp] theorem setMode_snap (f : ModeState → ModeState) (s : State) : (setMode f s).snap = s.snap := rfl
@[simp] theorem setMode_pq (f : ModeState → ModeState) (s : State) : (setMode f s).pq = s.pq := rfl
@[simp] theorem setMode_kiln (f : ModeState → ModeState) (s : State) : (setMode f s).kiln = s.kiln := rfl
@[simp] theorem setMode_dma (f : ModeState → ModeState) (s : State) : (setMode f s).dma = s.dma := rfl
@[simp] theorem setMode_veh (f : ModeState → ModeState) (s : State) : (setMode f s).veh = s.veh := rfl
@[simp] theorem setMode_lsw (f : ModeState → ModeState) (s : State) : (setMode f s).lsw = s.lsw := rfl
@[simp] theorem setMode_con (f : ModeState → ModeState) (s : State) : (setMode f s).con = s.con := rfl
@[simp] theorem setMode_disp (f : ModeState → ModeState) (s : State) : (setMode f s).disp = s.disp := rfl
@[simp] theorem setMode_mc (f : ModeState → ModeState) (s : State) : (setMode f s).mc = s.mc := rfl
@[simp] theorem setMode_lin (f : ModeState → ModeState) (s : State) : (setMode f s).lin = s.lin := rfl
@[simp] theorem setMode_hng (f : ModeState → ModeState) (s : State) : (setMode f s).hng = s.hng := rfl
@[simp] theorem setMode_upd (f : ModeState → ModeState) (s : State) : (setMode f s).upd = s.upd := rfl
@[simp] theorem setMode_adc (f : ModeState → ModeState) (s : State) : (setMode f s).adc = s.adc := rfl
@[simp] theorem setMode_nl (f : ModeState → ModeState) (s : State) : (setMode f s).nl = s.nl := rfl
@[simp] theorem setMode_diag (f : ModeState → ModeState) (s : State) : (setMode f s).diag = s.diag := rfl
@[simp] theorem setMode_rs (f : ModeState → ModeState) (s : State) : (setMode f s).rs = s.rs := rfl
@[simp] theorem setMode_pending (f : ModeState → ModeState) (s : State) : (setMode f s).pending = s.pending := rfl

/-! setHold -/

@[simp] theorem setHold_ident (f : Holdup → Holdup) (s : State) : (setHold f s).ident = s.ident := rfl
@[simp] theorem setHold_clk (f : Holdup → Holdup) (s : State) : (setHold f s).clk = s.clk := rfl
@[simp] theorem setHold_pwr (f : Holdup → Holdup) (s : State) : (setHold f s).pwr = s.pwr := rfl
@[simp] theorem setHold_dom (f : Holdup → Holdup) (s : State) : (setHold f s).dom = s.dom := rfl
@[simp] theorem setHold_mode (f : Holdup → Holdup) (s : State) : (setHold f s).mode = s.mode := rfl
@[simp] theorem setHold_hold (f : Holdup → Holdup) (s : State) : (setHold f s).hold = f s.hold := rfl
@[simp] theorem setHold_recl (f : Holdup → Holdup) (s : State) : (setHold f s).recl = s.recl := rfl
@[simp] theorem setHold_inp (f : Holdup → Holdup) (s : State) : (setHold f s).inp = s.inp := rfl
@[simp] theorem setHold_sie (f : Holdup → Holdup) (s : State) : (setHold f s).sie = s.sie := rfl
@[simp] theorem setHold_met (f : Holdup → Holdup) (s : State) : (setHold f s).met = s.met := rfl
@[simp] theorem setHold_cal (f : Holdup → Holdup) (s : State) : (setHold f s).cal = s.cal := rfl
@[simp] theorem setHold_led (f : Holdup → Holdup) (s : State) : (setHold f s).led = s.led := rfl
@[simp] theorem setHold_bil (f : Holdup → Holdup) (s : State) : (setHold f s).bil = s.bil := rfl
@[simp] theorem setHold_hatch (f : Holdup → Holdup) (s : State) : (setHold f s).hatch = s.hatch := rfl
@[simp] theorem setHold_par (f : Holdup → Holdup) (s : State) : (setHold f s).par = s.par := rfl
@[simp] theorem setHold_shu (f : Holdup → Holdup) (s : State) : (setHold f s).shu = s.shu := rfl
@[simp] theorem setHold_sag (f : Holdup → Holdup) (s : State) : (setHold f s).sag = s.sag := rfl
@[simp] theorem setHold_snap (f : Holdup → Holdup) (s : State) : (setHold f s).snap = s.snap := rfl
@[simp] theorem setHold_pq (f : Holdup → Holdup) (s : State) : (setHold f s).pq = s.pq := rfl
@[simp] theorem setHold_kiln (f : Holdup → Holdup) (s : State) : (setHold f s).kiln = s.kiln := rfl
@[simp] theorem setHold_dma (f : Holdup → Holdup) (s : State) : (setHold f s).dma = s.dma := rfl
@[simp] theorem setHold_veh (f : Holdup → Holdup) (s : State) : (setHold f s).veh = s.veh := rfl
@[simp] theorem setHold_lsw (f : Holdup → Holdup) (s : State) : (setHold f s).lsw = s.lsw := rfl
@[simp] theorem setHold_con (f : Holdup → Holdup) (s : State) : (setHold f s).con = s.con := rfl
@[simp] theorem setHold_disp (f : Holdup → Holdup) (s : State) : (setHold f s).disp = s.disp := rfl
@[simp] theorem setHold_mc (f : Holdup → Holdup) (s : State) : (setHold f s).mc = s.mc := rfl
@[simp] theorem setHold_lin (f : Holdup → Holdup) (s : State) : (setHold f s).lin = s.lin := rfl
@[simp] theorem setHold_hng (f : Holdup → Holdup) (s : State) : (setHold f s).hng = s.hng := rfl
@[simp] theorem setHold_upd (f : Holdup → Holdup) (s : State) : (setHold f s).upd = s.upd := rfl
@[simp] theorem setHold_adc (f : Holdup → Holdup) (s : State) : (setHold f s).adc = s.adc := rfl
@[simp] theorem setHold_nl (f : Holdup → Holdup) (s : State) : (setHold f s).nl = s.nl := rfl
@[simp] theorem setHold_diag (f : Holdup → Holdup) (s : State) : (setHold f s).diag = s.diag := rfl
@[simp] theorem setHold_rs (f : Holdup → Holdup) (s : State) : (setHold f s).rs = s.rs := rfl
@[simp] theorem setHold_pending (f : Holdup → Holdup) (s : State) : (setHold f s).pending = s.pending := rfl

/-! setPwr -/

@[simp] theorem setPwr_ident (f : Power → Power) (s : State) : (setPwr f s).ident = s.ident := rfl
@[simp] theorem setPwr_clk (f : Power → Power) (s : State) : (setPwr f s).clk = s.clk := rfl
@[simp] theorem setPwr_pwr (f : Power → Power) (s : State) : (setPwr f s).pwr = f s.pwr := rfl
@[simp] theorem setPwr_dom (f : Power → Power) (s : State) : (setPwr f s).dom = s.dom := rfl
@[simp] theorem setPwr_mode (f : Power → Power) (s : State) : (setPwr f s).mode = s.mode := rfl
@[simp] theorem setPwr_hold (f : Power → Power) (s : State) : (setPwr f s).hold = s.hold := rfl
@[simp] theorem setPwr_recl (f : Power → Power) (s : State) : (setPwr f s).recl = s.recl := rfl
@[simp] theorem setPwr_inp (f : Power → Power) (s : State) : (setPwr f s).inp = s.inp := rfl
@[simp] theorem setPwr_sie (f : Power → Power) (s : State) : (setPwr f s).sie = s.sie := rfl
@[simp] theorem setPwr_met (f : Power → Power) (s : State) : (setPwr f s).met = s.met := rfl
@[simp] theorem setPwr_cal (f : Power → Power) (s : State) : (setPwr f s).cal = s.cal := rfl
@[simp] theorem setPwr_led (f : Power → Power) (s : State) : (setPwr f s).led = s.led := rfl
@[simp] theorem setPwr_bil (f : Power → Power) (s : State) : (setPwr f s).bil = s.bil := rfl
@[simp] theorem setPwr_hatch (f : Power → Power) (s : State) : (setPwr f s).hatch = s.hatch := rfl
@[simp] theorem setPwr_par (f : Power → Power) (s : State) : (setPwr f s).par = s.par := rfl
@[simp] theorem setPwr_shu (f : Power → Power) (s : State) : (setPwr f s).shu = s.shu := rfl
@[simp] theorem setPwr_sag (f : Power → Power) (s : State) : (setPwr f s).sag = s.sag := rfl
@[simp] theorem setPwr_snap (f : Power → Power) (s : State) : (setPwr f s).snap = s.snap := rfl
@[simp] theorem setPwr_pq (f : Power → Power) (s : State) : (setPwr f s).pq = s.pq := rfl
@[simp] theorem setPwr_kiln (f : Power → Power) (s : State) : (setPwr f s).kiln = s.kiln := rfl
@[simp] theorem setPwr_dma (f : Power → Power) (s : State) : (setPwr f s).dma = s.dma := rfl
@[simp] theorem setPwr_veh (f : Power → Power) (s : State) : (setPwr f s).veh = s.veh := rfl
@[simp] theorem setPwr_lsw (f : Power → Power) (s : State) : (setPwr f s).lsw = s.lsw := rfl
@[simp] theorem setPwr_con (f : Power → Power) (s : State) : (setPwr f s).con = s.con := rfl
@[simp] theorem setPwr_disp (f : Power → Power) (s : State) : (setPwr f s).disp = s.disp := rfl
@[simp] theorem setPwr_mc (f : Power → Power) (s : State) : (setPwr f s).mc = s.mc := rfl
@[simp] theorem setPwr_lin (f : Power → Power) (s : State) : (setPwr f s).lin = s.lin := rfl
@[simp] theorem setPwr_hng (f : Power → Power) (s : State) : (setPwr f s).hng = s.hng := rfl
@[simp] theorem setPwr_upd (f : Power → Power) (s : State) : (setPwr f s).upd = s.upd := rfl
@[simp] theorem setPwr_adc (f : Power → Power) (s : State) : (setPwr f s).adc = s.adc := rfl
@[simp] theorem setPwr_nl (f : Power → Power) (s : State) : (setPwr f s).nl = s.nl := rfl
@[simp] theorem setPwr_diag (f : Power → Power) (s : State) : (setPwr f s).diag = s.diag := rfl
@[simp] theorem setPwr_rs (f : Power → Power) (s : State) : (setPwr f s).rs = s.rs := rfl
@[simp] theorem setPwr_pending (f : Power → Power) (s : State) : (setPwr f s).pending = s.pending := rfl

/-! setNl -/

@[simp] theorem setNl_ident (f : Nightlatch → Nightlatch) (s : State) : (setNl f s).ident = s.ident := rfl
@[simp] theorem setNl_clk (f : Nightlatch → Nightlatch) (s : State) : (setNl f s).clk = s.clk := rfl
@[simp] theorem setNl_pwr (f : Nightlatch → Nightlatch) (s : State) : (setNl f s).pwr = s.pwr := rfl
@[simp] theorem setNl_dom (f : Nightlatch → Nightlatch) (s : State) : (setNl f s).dom = s.dom := rfl
@[simp] theorem setNl_mode (f : Nightlatch → Nightlatch) (s : State) : (setNl f s).mode = s.mode := rfl
@[simp] theorem setNl_hold (f : Nightlatch → Nightlatch) (s : State) : (setNl f s).hold = s.hold := rfl
@[simp] theorem setNl_recl (f : Nightlatch → Nightlatch) (s : State) : (setNl f s).recl = s.recl := rfl
@[simp] theorem setNl_inp (f : Nightlatch → Nightlatch) (s : State) : (setNl f s).inp = s.inp := rfl
@[simp] theorem setNl_sie (f : Nightlatch → Nightlatch) (s : State) : (setNl f s).sie = s.sie := rfl
@[simp] theorem setNl_met (f : Nightlatch → Nightlatch) (s : State) : (setNl f s).met = s.met := rfl
@[simp] theorem setNl_cal (f : Nightlatch → Nightlatch) (s : State) : (setNl f s).cal = s.cal := rfl
@[simp] theorem setNl_led (f : Nightlatch → Nightlatch) (s : State) : (setNl f s).led = s.led := rfl
@[simp] theorem setNl_bil (f : Nightlatch → Nightlatch) (s : State) : (setNl f s).bil = s.bil := rfl
@[simp] theorem setNl_hatch (f : Nightlatch → Nightlatch) (s : State) : (setNl f s).hatch = s.hatch := rfl
@[simp] theorem setNl_par (f : Nightlatch → Nightlatch) (s : State) : (setNl f s).par = s.par := rfl
@[simp] theorem setNl_shu (f : Nightlatch → Nightlatch) (s : State) : (setNl f s).shu = s.shu := rfl
@[simp] theorem setNl_sag (f : Nightlatch → Nightlatch) (s : State) : (setNl f s).sag = s.sag := rfl
@[simp] theorem setNl_snap (f : Nightlatch → Nightlatch) (s : State) : (setNl f s).snap = s.snap := rfl
@[simp] theorem setNl_pq (f : Nightlatch → Nightlatch) (s : State) : (setNl f s).pq = s.pq := rfl
@[simp] theorem setNl_kiln (f : Nightlatch → Nightlatch) (s : State) : (setNl f s).kiln = s.kiln := rfl
@[simp] theorem setNl_dma (f : Nightlatch → Nightlatch) (s : State) : (setNl f s).dma = s.dma := rfl
@[simp] theorem setNl_veh (f : Nightlatch → Nightlatch) (s : State) : (setNl f s).veh = s.veh := rfl
@[simp] theorem setNl_lsw (f : Nightlatch → Nightlatch) (s : State) : (setNl f s).lsw = s.lsw := rfl
@[simp] theorem setNl_con (f : Nightlatch → Nightlatch) (s : State) : (setNl f s).con = s.con := rfl
@[simp] theorem setNl_disp (f : Nightlatch → Nightlatch) (s : State) : (setNl f s).disp = s.disp := rfl
@[simp] theorem setNl_mc (f : Nightlatch → Nightlatch) (s : State) : (setNl f s).mc = s.mc := rfl
@[simp] theorem setNl_lin (f : Nightlatch → Nightlatch) (s : State) : (setNl f s).lin = s.lin := rfl
@[simp] theorem setNl_hng (f : Nightlatch → Nightlatch) (s : State) : (setNl f s).hng = s.hng := rfl
@[simp] theorem setNl_upd (f : Nightlatch → Nightlatch) (s : State) : (setNl f s).upd = s.upd := rfl
@[simp] theorem setNl_adc (f : Nightlatch → Nightlatch) (s : State) : (setNl f s).adc = s.adc := rfl
@[simp] theorem setNl_nl (f : Nightlatch → Nightlatch) (s : State) : (setNl f s).nl = f s.nl := rfl
@[simp] theorem setNl_diag (f : Nightlatch → Nightlatch) (s : State) : (setNl f s).diag = s.diag := rfl
@[simp] theorem setNl_rs (f : Nightlatch → Nightlatch) (s : State) : (setNl f s).rs = s.rs := rfl
@[simp] theorem setNl_pending (f : Nightlatch → Nightlatch) (s : State) : (setNl f s).pending = s.pending := rfl

/-! setDiag -/

@[simp] theorem setDiag_ident (f : Diag → Diag) (s : State) : (setDiag f s).ident = s.ident := rfl
@[simp] theorem setDiag_clk (f : Diag → Diag) (s : State) : (setDiag f s).clk = s.clk := rfl
@[simp] theorem setDiag_pwr (f : Diag → Diag) (s : State) : (setDiag f s).pwr = s.pwr := rfl
@[simp] theorem setDiag_dom (f : Diag → Diag) (s : State) : (setDiag f s).dom = s.dom := rfl
@[simp] theorem setDiag_mode (f : Diag → Diag) (s : State) : (setDiag f s).mode = s.mode := rfl
@[simp] theorem setDiag_hold (f : Diag → Diag) (s : State) : (setDiag f s).hold = s.hold := rfl
@[simp] theorem setDiag_recl (f : Diag → Diag) (s : State) : (setDiag f s).recl = s.recl := rfl
@[simp] theorem setDiag_inp (f : Diag → Diag) (s : State) : (setDiag f s).inp = s.inp := rfl
@[simp] theorem setDiag_sie (f : Diag → Diag) (s : State) : (setDiag f s).sie = s.sie := rfl
@[simp] theorem setDiag_met (f : Diag → Diag) (s : State) : (setDiag f s).met = s.met := rfl
@[simp] theorem setDiag_cal (f : Diag → Diag) (s : State) : (setDiag f s).cal = s.cal := rfl
@[simp] theorem setDiag_led (f : Diag → Diag) (s : State) : (setDiag f s).led = s.led := rfl
@[simp] theorem setDiag_bil (f : Diag → Diag) (s : State) : (setDiag f s).bil = s.bil := rfl
@[simp] theorem setDiag_hatch (f : Diag → Diag) (s : State) : (setDiag f s).hatch = s.hatch := rfl
@[simp] theorem setDiag_par (f : Diag → Diag) (s : State) : (setDiag f s).par = s.par := rfl
@[simp] theorem setDiag_shu (f : Diag → Diag) (s : State) : (setDiag f s).shu = s.shu := rfl
@[simp] theorem setDiag_sag (f : Diag → Diag) (s : State) : (setDiag f s).sag = s.sag := rfl
@[simp] theorem setDiag_snap (f : Diag → Diag) (s : State) : (setDiag f s).snap = s.snap := rfl
@[simp] theorem setDiag_pq (f : Diag → Diag) (s : State) : (setDiag f s).pq = s.pq := rfl
@[simp] theorem setDiag_kiln (f : Diag → Diag) (s : State) : (setDiag f s).kiln = s.kiln := rfl
@[simp] theorem setDiag_dma (f : Diag → Diag) (s : State) : (setDiag f s).dma = s.dma := rfl
@[simp] theorem setDiag_veh (f : Diag → Diag) (s : State) : (setDiag f s).veh = s.veh := rfl
@[simp] theorem setDiag_lsw (f : Diag → Diag) (s : State) : (setDiag f s).lsw = s.lsw := rfl
@[simp] theorem setDiag_con (f : Diag → Diag) (s : State) : (setDiag f s).con = s.con := rfl
@[simp] theorem setDiag_disp (f : Diag → Diag) (s : State) : (setDiag f s).disp = s.disp := rfl
@[simp] theorem setDiag_mc (f : Diag → Diag) (s : State) : (setDiag f s).mc = s.mc := rfl
@[simp] theorem setDiag_lin (f : Diag → Diag) (s : State) : (setDiag f s).lin = s.lin := rfl
@[simp] theorem setDiag_hng (f : Diag → Diag) (s : State) : (setDiag f s).hng = s.hng := rfl
@[simp] theorem setDiag_upd (f : Diag → Diag) (s : State) : (setDiag f s).upd = s.upd := rfl
@[simp] theorem setDiag_adc (f : Diag → Diag) (s : State) : (setDiag f s).adc = s.adc := rfl
@[simp] theorem setDiag_nl (f : Diag → Diag) (s : State) : (setDiag f s).nl = s.nl := rfl
@[simp] theorem setDiag_diag (f : Diag → Diag) (s : State) : (setDiag f s).diag = f s.diag := rfl
@[simp] theorem setDiag_rs (f : Diag → Diag) (s : State) : (setDiag f s).rs = s.rs := rfl
@[simp] theorem setDiag_pending (f : Diag → Diag) (s : State) : (setDiag f s).pending = s.pending := rfl

/-! setUpd -/

@[simp] theorem setUpd_ident (f : Update → Update) (s : State) : (setUpd f s).ident = s.ident := rfl
@[simp] theorem setUpd_clk (f : Update → Update) (s : State) : (setUpd f s).clk = s.clk := rfl
@[simp] theorem setUpd_pwr (f : Update → Update) (s : State) : (setUpd f s).pwr = s.pwr := rfl
@[simp] theorem setUpd_dom (f : Update → Update) (s : State) : (setUpd f s).dom = s.dom := rfl
@[simp] theorem setUpd_mode (f : Update → Update) (s : State) : (setUpd f s).mode = s.mode := rfl
@[simp] theorem setUpd_hold (f : Update → Update) (s : State) : (setUpd f s).hold = s.hold := rfl
@[simp] theorem setUpd_recl (f : Update → Update) (s : State) : (setUpd f s).recl = s.recl := rfl
@[simp] theorem setUpd_inp (f : Update → Update) (s : State) : (setUpd f s).inp = s.inp := rfl
@[simp] theorem setUpd_sie (f : Update → Update) (s : State) : (setUpd f s).sie = s.sie := rfl
@[simp] theorem setUpd_met (f : Update → Update) (s : State) : (setUpd f s).met = s.met := rfl
@[simp] theorem setUpd_cal (f : Update → Update) (s : State) : (setUpd f s).cal = s.cal := rfl
@[simp] theorem setUpd_led (f : Update → Update) (s : State) : (setUpd f s).led = s.led := rfl
@[simp] theorem setUpd_bil (f : Update → Update) (s : State) : (setUpd f s).bil = s.bil := rfl
@[simp] theorem setUpd_hatch (f : Update → Update) (s : State) : (setUpd f s).hatch = s.hatch := rfl
@[simp] theorem setUpd_par (f : Update → Update) (s : State) : (setUpd f s).par = s.par := rfl
@[simp] theorem setUpd_shu (f : Update → Update) (s : State) : (setUpd f s).shu = s.shu := rfl
@[simp] theorem setUpd_sag (f : Update → Update) (s : State) : (setUpd f s).sag = s.sag := rfl
@[simp] theorem setUpd_snap (f : Update → Update) (s : State) : (setUpd f s).snap = s.snap := rfl
@[simp] theorem setUpd_pq (f : Update → Update) (s : State) : (setUpd f s).pq = s.pq := rfl
@[simp] theorem setUpd_kiln (f : Update → Update) (s : State) : (setUpd f s).kiln = s.kiln := rfl
@[simp] theorem setUpd_dma (f : Update → Update) (s : State) : (setUpd f s).dma = s.dma := rfl
@[simp] theorem setUpd_veh (f : Update → Update) (s : State) : (setUpd f s).veh = s.veh := rfl
@[simp] theorem setUpd_lsw (f : Update → Update) (s : State) : (setUpd f s).lsw = s.lsw := rfl
@[simp] theorem setUpd_con (f : Update → Update) (s : State) : (setUpd f s).con = s.con := rfl
@[simp] theorem setUpd_disp (f : Update → Update) (s : State) : (setUpd f s).disp = s.disp := rfl
@[simp] theorem setUpd_mc (f : Update → Update) (s : State) : (setUpd f s).mc = s.mc := rfl
@[simp] theorem setUpd_lin (f : Update → Update) (s : State) : (setUpd f s).lin = s.lin := rfl
@[simp] theorem setUpd_hng (f : Update → Update) (s : State) : (setUpd f s).hng = s.hng := rfl
@[simp] theorem setUpd_upd (f : Update → Update) (s : State) : (setUpd f s).upd = f s.upd := rfl
@[simp] theorem setUpd_adc (f : Update → Update) (s : State) : (setUpd f s).adc = s.adc := rfl
@[simp] theorem setUpd_nl (f : Update → Update) (s : State) : (setUpd f s).nl = s.nl := rfl
@[simp] theorem setUpd_diag (f : Update → Update) (s : State) : (setUpd f s).diag = s.diag := rfl
@[simp] theorem setUpd_rs (f : Update → Update) (s : State) : (setUpd f s).rs = s.rs := rfl
@[simp] theorem setUpd_pending (f : Update → Update) (s : State) : (setUpd f s).pending = s.pending := rfl

/-! setLin -/

@[simp] theorem setLin_ident (f : Lintel → Lintel) (s : State) : (setLin f s).ident = s.ident := rfl
@[simp] theorem setLin_clk (f : Lintel → Lintel) (s : State) : (setLin f s).clk = s.clk := rfl
@[simp] theorem setLin_pwr (f : Lintel → Lintel) (s : State) : (setLin f s).pwr = s.pwr := rfl
@[simp] theorem setLin_dom (f : Lintel → Lintel) (s : State) : (setLin f s).dom = s.dom := rfl
@[simp] theorem setLin_mode (f : Lintel → Lintel) (s : State) : (setLin f s).mode = s.mode := rfl
@[simp] theorem setLin_hold (f : Lintel → Lintel) (s : State) : (setLin f s).hold = s.hold := rfl
@[simp] theorem setLin_recl (f : Lintel → Lintel) (s : State) : (setLin f s).recl = s.recl := rfl
@[simp] theorem setLin_inp (f : Lintel → Lintel) (s : State) : (setLin f s).inp = s.inp := rfl
@[simp] theorem setLin_sie (f : Lintel → Lintel) (s : State) : (setLin f s).sie = s.sie := rfl
@[simp] theorem setLin_met (f : Lintel → Lintel) (s : State) : (setLin f s).met = s.met := rfl
@[simp] theorem setLin_cal (f : Lintel → Lintel) (s : State) : (setLin f s).cal = s.cal := rfl
@[simp] theorem setLin_led (f : Lintel → Lintel) (s : State) : (setLin f s).led = s.led := rfl
@[simp] theorem setLin_bil (f : Lintel → Lintel) (s : State) : (setLin f s).bil = s.bil := rfl
@[simp] theorem setLin_hatch (f : Lintel → Lintel) (s : State) : (setLin f s).hatch = s.hatch := rfl
@[simp] theorem setLin_par (f : Lintel → Lintel) (s : State) : (setLin f s).par = s.par := rfl
@[simp] theorem setLin_shu (f : Lintel → Lintel) (s : State) : (setLin f s).shu = s.shu := rfl
@[simp] theorem setLin_sag (f : Lintel → Lintel) (s : State) : (setLin f s).sag = s.sag := rfl
@[simp] theorem setLin_snap (f : Lintel → Lintel) (s : State) : (setLin f s).snap = s.snap := rfl
@[simp] theorem setLin_pq (f : Lintel → Lintel) (s : State) : (setLin f s).pq = s.pq := rfl
@[simp] theorem setLin_kiln (f : Lintel → Lintel) (s : State) : (setLin f s).kiln = s.kiln := rfl
@[simp] theorem setLin_dma (f : Lintel → Lintel) (s : State) : (setLin f s).dma = s.dma := rfl
@[simp] theorem setLin_veh (f : Lintel → Lintel) (s : State) : (setLin f s).veh = s.veh := rfl
@[simp] theorem setLin_lsw (f : Lintel → Lintel) (s : State) : (setLin f s).lsw = s.lsw := rfl
@[simp] theorem setLin_con (f : Lintel → Lintel) (s : State) : (setLin f s).con = s.con := rfl
@[simp] theorem setLin_disp (f : Lintel → Lintel) (s : State) : (setLin f s).disp = s.disp := rfl
@[simp] theorem setLin_mc (f : Lintel → Lintel) (s : State) : (setLin f s).mc = s.mc := rfl
@[simp] theorem setLin_lin (f : Lintel → Lintel) (s : State) : (setLin f s).lin = f s.lin := rfl
@[simp] theorem setLin_hng (f : Lintel → Lintel) (s : State) : (setLin f s).hng = s.hng := rfl
@[simp] theorem setLin_upd (f : Lintel → Lintel) (s : State) : (setLin f s).upd = s.upd := rfl
@[simp] theorem setLin_adc (f : Lintel → Lintel) (s : State) : (setLin f s).adc = s.adc := rfl
@[simp] theorem setLin_nl (f : Lintel → Lintel) (s : State) : (setLin f s).nl = s.nl := rfl
@[simp] theorem setLin_diag (f : Lintel → Lintel) (s : State) : (setLin f s).diag = s.diag := rfl
@[simp] theorem setLin_rs (f : Lintel → Lintel) (s : State) : (setLin f s).rs = s.rs := rfl
@[simp] theorem setLin_pending (f : Lintel → Lintel) (s : State) : (setLin f s).pending = s.pending := rfl

/-! setMc -/

@[simp] theorem setMc_ident (f : Carrier → Carrier) (s : State) : (setMc f s).ident = s.ident := rfl
@[simp] theorem setMc_clk (f : Carrier → Carrier) (s : State) : (setMc f s).clk = s.clk := rfl
@[simp] theorem setMc_pwr (f : Carrier → Carrier) (s : State) : (setMc f s).pwr = s.pwr := rfl
@[simp] theorem setMc_dom (f : Carrier → Carrier) (s : State) : (setMc f s).dom = s.dom := rfl
@[simp] theorem setMc_mode (f : Carrier → Carrier) (s : State) : (setMc f s).mode = s.mode := rfl
@[simp] theorem setMc_hold (f : Carrier → Carrier) (s : State) : (setMc f s).hold = s.hold := rfl
@[simp] theorem setMc_recl (f : Carrier → Carrier) (s : State) : (setMc f s).recl = s.recl := rfl
@[simp] theorem setMc_inp (f : Carrier → Carrier) (s : State) : (setMc f s).inp = s.inp := rfl
@[simp] theorem setMc_sie (f : Carrier → Carrier) (s : State) : (setMc f s).sie = s.sie := rfl
@[simp] theorem setMc_met (f : Carrier → Carrier) (s : State) : (setMc f s).met = s.met := rfl
@[simp] theorem setMc_cal (f : Carrier → Carrier) (s : State) : (setMc f s).cal = s.cal := rfl
@[simp] theorem setMc_led (f : Carrier → Carrier) (s : State) : (setMc f s).led = s.led := rfl
@[simp] theorem setMc_bil (f : Carrier → Carrier) (s : State) : (setMc f s).bil = s.bil := rfl
@[simp] theorem setMc_hatch (f : Carrier → Carrier) (s : State) : (setMc f s).hatch = s.hatch := rfl
@[simp] theorem setMc_par (f : Carrier → Carrier) (s : State) : (setMc f s).par = s.par := rfl
@[simp] theorem setMc_shu (f : Carrier → Carrier) (s : State) : (setMc f s).shu = s.shu := rfl
@[simp] theorem setMc_sag (f : Carrier → Carrier) (s : State) : (setMc f s).sag = s.sag := rfl
@[simp] theorem setMc_snap (f : Carrier → Carrier) (s : State) : (setMc f s).snap = s.snap := rfl
@[simp] theorem setMc_pq (f : Carrier → Carrier) (s : State) : (setMc f s).pq = s.pq := rfl
@[simp] theorem setMc_kiln (f : Carrier → Carrier) (s : State) : (setMc f s).kiln = s.kiln := rfl
@[simp] theorem setMc_dma (f : Carrier → Carrier) (s : State) : (setMc f s).dma = s.dma := rfl
@[simp] theorem setMc_veh (f : Carrier → Carrier) (s : State) : (setMc f s).veh = s.veh := rfl
@[simp] theorem setMc_lsw (f : Carrier → Carrier) (s : State) : (setMc f s).lsw = s.lsw := rfl
@[simp] theorem setMc_con (f : Carrier → Carrier) (s : State) : (setMc f s).con = s.con := rfl
@[simp] theorem setMc_disp (f : Carrier → Carrier) (s : State) : (setMc f s).disp = s.disp := rfl
@[simp] theorem setMc_mc (f : Carrier → Carrier) (s : State) : (setMc f s).mc = f s.mc := rfl
@[simp] theorem setMc_lin (f : Carrier → Carrier) (s : State) : (setMc f s).lin = s.lin := rfl
@[simp] theorem setMc_hng (f : Carrier → Carrier) (s : State) : (setMc f s).hng = s.hng := rfl
@[simp] theorem setMc_upd (f : Carrier → Carrier) (s : State) : (setMc f s).upd = s.upd := rfl
@[simp] theorem setMc_adc (f : Carrier → Carrier) (s : State) : (setMc f s).adc = s.adc := rfl
@[simp] theorem setMc_nl (f : Carrier → Carrier) (s : State) : (setMc f s).nl = s.nl := rfl
@[simp] theorem setMc_diag (f : Carrier → Carrier) (s : State) : (setMc f s).diag = s.diag := rfl
@[simp] theorem setMc_rs (f : Carrier → Carrier) (s : State) : (setMc f s).rs = s.rs := rfl
@[simp] theorem setMc_pending (f : Carrier → Carrier) (s : State) : (setMc f s).pending = s.pending := rfl

/-! setShu -/

@[simp] theorem setShu_ident (f : Shutter → Shutter) (s : State) : (setShu f s).ident = s.ident := rfl
@[simp] theorem setShu_clk (f : Shutter → Shutter) (s : State) : (setShu f s).clk = s.clk := rfl
@[simp] theorem setShu_pwr (f : Shutter → Shutter) (s : State) : (setShu f s).pwr = s.pwr := rfl
@[simp] theorem setShu_dom (f : Shutter → Shutter) (s : State) : (setShu f s).dom = s.dom := rfl
@[simp] theorem setShu_mode (f : Shutter → Shutter) (s : State) : (setShu f s).mode = s.mode := rfl
@[simp] theorem setShu_hold (f : Shutter → Shutter) (s : State) : (setShu f s).hold = s.hold := rfl
@[simp] theorem setShu_recl (f : Shutter → Shutter) (s : State) : (setShu f s).recl = s.recl := rfl
@[simp] theorem setShu_inp (f : Shutter → Shutter) (s : State) : (setShu f s).inp = s.inp := rfl
@[simp] theorem setShu_sie (f : Shutter → Shutter) (s : State) : (setShu f s).sie = s.sie := rfl
@[simp] theorem setShu_met (f : Shutter → Shutter) (s : State) : (setShu f s).met = s.met := rfl
@[simp] theorem setShu_cal (f : Shutter → Shutter) (s : State) : (setShu f s).cal = s.cal := rfl
@[simp] theorem setShu_led (f : Shutter → Shutter) (s : State) : (setShu f s).led = s.led := rfl
@[simp] theorem setShu_bil (f : Shutter → Shutter) (s : State) : (setShu f s).bil = s.bil := rfl
@[simp] theorem setShu_hatch (f : Shutter → Shutter) (s : State) : (setShu f s).hatch = s.hatch := rfl
@[simp] theorem setShu_par (f : Shutter → Shutter) (s : State) : (setShu f s).par = s.par := rfl
@[simp] theorem setShu_shu (f : Shutter → Shutter) (s : State) : (setShu f s).shu = f s.shu := rfl
@[simp] theorem setShu_sag (f : Shutter → Shutter) (s : State) : (setShu f s).sag = s.sag := rfl
@[simp] theorem setShu_snap (f : Shutter → Shutter) (s : State) : (setShu f s).snap = s.snap := rfl
@[simp] theorem setShu_pq (f : Shutter → Shutter) (s : State) : (setShu f s).pq = s.pq := rfl
@[simp] theorem setShu_kiln (f : Shutter → Shutter) (s : State) : (setShu f s).kiln = s.kiln := rfl
@[simp] theorem setShu_dma (f : Shutter → Shutter) (s : State) : (setShu f s).dma = s.dma := rfl
@[simp] theorem setShu_veh (f : Shutter → Shutter) (s : State) : (setShu f s).veh = s.veh := rfl
@[simp] theorem setShu_lsw (f : Shutter → Shutter) (s : State) : (setShu f s).lsw = s.lsw := rfl
@[simp] theorem setShu_con (f : Shutter → Shutter) (s : State) : (setShu f s).con = s.con := rfl
@[simp] theorem setShu_disp (f : Shutter → Shutter) (s : State) : (setShu f s).disp = s.disp := rfl
@[simp] theorem setShu_mc (f : Shutter → Shutter) (s : State) : (setShu f s).mc = s.mc := rfl
@[simp] theorem setShu_lin (f : Shutter → Shutter) (s : State) : (setShu f s).lin = s.lin := rfl
@[simp] theorem setShu_hng (f : Shutter → Shutter) (s : State) : (setShu f s).hng = s.hng := rfl
@[simp] theorem setShu_upd (f : Shutter → Shutter) (s : State) : (setShu f s).upd = s.upd := rfl
@[simp] theorem setShu_adc (f : Shutter → Shutter) (s : State) : (setShu f s).adc = s.adc := rfl
@[simp] theorem setShu_nl (f : Shutter → Shutter) (s : State) : (setShu f s).nl = s.nl := rfl
@[simp] theorem setShu_diag (f : Shutter → Shutter) (s : State) : (setShu f s).diag = s.diag := rfl
@[simp] theorem setShu_rs (f : Shutter → Shutter) (s : State) : (setShu f s).rs = s.rs := rfl
@[simp] theorem setShu_pending (f : Shutter → Shutter) (s : State) : (setShu f s).pending = s.pending := rfl

end Sys2Proof.Laws
end

