-- ==== Sys2Proof/Machine/Pads.lean ====
section
/-! DEFINITION. What the pads show (25) as a view of the state: the pads of the functions that a variant leaves out (R555, R66), the
interrupt, safety and wake outputs, the coil switches and the supply outputs. -/

namespace Sys2Proof.Machine

/-- The pads of this view. -/
inductive Pad where
  | modC (n : Nat) | modD (n : Nat) | can | hgTx | hgRx | peerClaim
  | hirq | safeOk | wakeOut | km (n : Nat) | v12Out | v3v3Out
  deriving DecidableEq, Repr

/-- What stands on a pad. -/
inductive PadState where
  | low | high
  /-- a square wave of a frequency in Hz -/
  | square (hz : Nat)
  /-- a switched supply: frequency in Hz and duty in % -/
  | chopped (hz percent : Nat)
  | pullDown | pullUp | highZ
  /-- held at common mode without transitions -/
  | commonMode
  /-- terminated and ignored -/
  | ignored
  /-- in the hands of its function -/
  | active
  deriving DecidableEq, Repr

/-- A modulator of MET.MOD_ENABLE on a variant that has it (R66). -/
def modPad (s : State) (n : Nat) : Bool := enabled s.ident.variant .td && modEnabled s n

/-- What a pad shows. -/
def padState (s : State) : Pad → PadState
  | .modC n => if modPad s n then .square 12800000 else .low
  | .modD n => if modPad s n then .active else .pullDown
  | .can => if enabled s.ident.variant .td then .active else .highZ
  | .hgTx => if enabled s.ident.variant .hinge then .active else .commonMode
  | .hgRx => if enabled s.ident.variant .hinge then .active else .ignored
  | .peerClaim => if enabled s.ident.variant .hinge then .pullUp else .highZ
  | .hirq => if hirqLow s then .low else .high
  | .safeOk => if !safeOk s then .low else if param s 0x0613 = 1 then .square 1000 else .high
  | .wakeOut => if s.pwr.rails && s.nl.wakeOut then .high else .low
  | .km n =>
    if coilLevel s n = 0 then .low else if coilLevel s n = 100 then .high else .chopped 20000 (coilLevel s n)
  | .v12Out => if s.pwr.v12Out then .high else .low
  | .v3v3Out => if s.pwr.v3v3Out then .high else .low

end Sys2Proof.Machine
end

