-- ==== Sys2Proof/WellFormed.lean ====
section
/-! DEFINITION. Well-formedness of a command: every operand fits the field the spec gives it. -/

namespace Sys2Proof

/-- A request header is well formed: eight channels (R275), an 8-bit SEQ (R276). -/
def Req.wf (r : Req) : Bool := decide (r.chan < 8) && decide (r.seq < 256)

/-- A signed value fits `w` bits, two's complement. -/
def fitsS (w : Nat) (x : Int) : Bool := decide (-(2 ^ (w - 1)) ≤ x) && decide (x < 2 ^ (w - 1))

/-- The fields of a token message fit R473. -/
def TokenMsg.wf (m : TokenMsg) : Bool :=
  decide (m.src < 2 ^ 16) && decide (m.count ≤ 64) && decide (m.xferId < 2 ^ 32) && decide (m.tableId < 2 ^ 32)
    && decide (m.leaseMs < 2 ^ 32) && decide (m.tokens.length ≤ 64) && m.tokens.all fun t => decide (t < 2 ^ 16)

/-- The fields of a fabric block fit R464. -/
def HelloBlock.wf (h : HelloBlock) : Bool :=
  decide (h.moduleId < 2 ^ 64) && decide (h.rootId < 2 ^ 64) && decide (h.short < 2 ^ 16) && decide (h.depth < 2 ^ 8)
    && decide (h.rootPrio < 2 ^ 8) && decide (h.pathCost < 2 ^ 16) && decide (h.spare < 2 ^ 16) && decide (h.tableId < 2 ^ 32)
    && decide (h.leadAddr < 2 ^ 16) && decide (h.leadSpare < 2 ^ 16)

/-- The fields of a fabric packet fit R467. -/
def FabricPacket.wf (p : FabricPacket) : Bool :=
  decide (p.ttl < 2 ^ 8) && decide (p.dst < 2 ^ 16) && decide (p.src < 2 ^ 16) && decide (p.type < 2 ^ 8) && decide (p.prio < 2 ^ 8)
    && decide (p.msgId < 2 ^ 16) && decide (p.fragNo < 5) && decide (p.fragCount ≤ 5) && decide (p.payload.length ≤ 1004)

/-- The fields of a mains-carrier frame header fit R451. -/
def McHeader.wf (h : McHeader) : Bool :=
  decide (h.src < 2 ^ 16) && decide (h.dst < 2 ^ 16) && decide (h.seq < 2 ^ 16) && decide (h.nseg ≤ 32) && decide (h.len ≤ 1024)
    && decide (h.retry < 4) && decide (h.tmi < 2 ^ 8) && decide (h.down < 5) && decide (h.prio < 2 ^ 8)

/-- A replicated journal entry has the layout of R173 (R484). -/
def Machine.HingeMsg.wf (m : Machine.HingeMsg) : Bool :=
  decide (m.entry.incHw.length = 12) && decide (m.entry.incKiln.length = 24) && decide (m.entry.bal.length = 3)

/-- Every operand of a command fits its field. -/
def Instr.wf : Instr → Bool
  | .mainsApplied _ => true
  | .railsGood => true
  | .d1Start _ _ _ => true
  | .d2Start _ _ _ => true
  | .d3LeavesReset _ _ _ _ _ _ badHelpers badSlots badCounts => decide (badHelpers < 2) && decide (badSlots < 2 ^ 64) && decide (badCounts < 2 ^ 64)
  | .readyRises => true
  | .vholdReachesThreshold => true
  | .holdupCapMeasured _ => true
  | .vholdChargeTimeout => true
  | .firstModeEntered _ => true
  | .interimToService => true
  | .sysModeGet r => r.wf
  | .sysModeRequest r target => r.wf && decide (target < 2 ^ 8)
  | .modeChangeEffective => true
  | .sysReset r scope => r.wf && decide (scope < 2 ^ 8)
  | .sysResetBegin => true
  | .sysHoldupInfo r => r.wf
  | .watchDelayExpiry => true
  | .watchWake src => decide (src < 7)
  | .mainsFailDetection _ => true
  | .mainsAbsentDecision => true
  | .finalSignedReading => true
  | .holdupDisplayDecision => true
  | .holdupSequenceEnd => true
  | .hrstLow _ => true
  | .watchdogExpiry => true
  | .enginePoolFault => true
  | .timebaseFault => true
  | .spyholeReset => true
  | .reclaimTimerExpiry => true
  | .railWarning => true
  | .statusFrame _ _ hall peZ peNpe dieTemp => fitsS 16 hall && decide (peZ < 2 ^ 16) && decide (peNpe < 2 ^ 16) && fitsS 16 dieTemp
  | .sample400k _ => true
  | .mainPathSample => true
  | .epochStateCapture => true
  | .epochLatch => true
  | .journalAppendComplete _ _ => true
  | .journalNotDurable => true
  | .meteringStopOpen => true
  | .meteringFaultEnd cause slot _ => decide (cause < 10) && decide (slot < 2 ^ 8)
  | .peWindowEval => true
  | .magField => true
  | .magFieldEnd => true
  | .overrangeClose k => decide (k < 10)
  | .gainMismatch c => decide (c < 4)
  | .sieveSaturationClose k => decide (k < 10)
  | .metInputStatus r => r.wf
  | .metInputSelftest r mask => r.wf && decide (mask < 2 ^ 16)
  | .selftestEnd _ => true
  | .metSieveStatus r => r.wf
  | .metSieveHalt r action => r.wf && decide (action < 2 ^ 8)
  | .sieveStop => true
  | .sieveRestart => true
  | .metSieveSetLoad r _ => r.wf
  | .metEnergyRead r => r.wf
  | .metDeltaRead r mask rst => r.wf && decide (mask < 2 ^ 64) && decide (rst < 2 ^ 8)
  | .delayedReadAndReset => true
  | .metMeasRead r => r.wf
  | .metSumsRead r epoch => r.wf && decide (epoch < 2 ^ 64)
  | .neutralMismatch => true
  | .reverseFlow x => decide (x < 3)
  | .cfPulseEdge _ => true
  | .cfPulseEnd _ => true
  | .metCalMeasure r mask n => r.wf && decide (mask < 2 ^ 16) && decide (n < 2 ^ 16)
  | .calMeasureSpanEnd => true
  | .metCalCommit r => r.wf
  | .metTempTableLoad r _ => r.wf
  | .metTempStatus r => r.wf
  | .metLrId r => r.wf
  | .paramEffective id => decide (id < 2 ^ 16)
  | .urmsHalfSegmentEnd => true
  | .pqArm => true
  | .metPqSummary r last => r.wf && decide (last < 2 ^ 64)
  | .metPqHarmRead r last channel => r.wf && decide (last < 2 ^ 64) && decide (channel < 2 ^ 8)
  | .metPqShRead r last channel => r.wf && decide (last < 2 ^ 64) && decide (channel < 2 ^ 8)
  | .metPqEventRead r first count => r.wf && decide (first < 2 ^ 32) && decide (count < 2 ^ 8)
  | .ledSnapshotRead r => r.wf
  | .ledSeriesRead r series start max => r.wf && decide (series < 2 ^ 8) && decide (start < 2 ^ 32) && decide (max < 2 ^ 16)
  | .ledWaveCapture r mask n => r.wf && decide (mask < 2 ^ 16) && decide (n < 2 ^ 8)
  | .waveCaptureCopy => true
  | .ledSignReading r _ => r.wf
  | .signatureComplete => true
  | .periodicReadingDue => true
  | .ledStatus r => r.wf
  | .bilTimeSet r newS newF how => r.wf && fitsS 64 newS && decide (newF < 2 ^ 16) && decide (how < 2 ^ 8)
  | .timeChangeEffective => true
  | .slewComplete => true
  | .bilTimeGet r => r.wf
  | .bilTzLoad r _ => r.wf
  | .bilCalendarLoad r _ => r.wf
  | .bilTariffRead r => r.wf
  | .civilBoundary => true
  | .bilBillingClose r => r.wf
  | .commandBillingClose => true
  | .bilBillingRead r period => r.wf && decide (period < 2 ^ 32)
  | .bilCreditTransfer r _ => r.wf
  | .bilCreditStatus r => r.wf
  | .bilEmergencyActivate r => r.wf
  | .bilDisconnect r action => r.wf && decide (action < 2 ^ 8)
  | .km1FeedbackMismatch duration => decide (duration < 2 ^ 32)
  | .speedMonitor _ coreMv tjMax load => decide (coreMv < 2 ^ 16) && fitsS 16 tjMax && decide (load < 2 ^ 16)
  | .speedRestored => true
  | .kilnTaskRelease _ epoch part cell => decide (epoch < 2 ^ 64) && decide (part < 2 ^ 8) && decide (cell < 16)
  | .kilnTaskRun cell => decide (cell < 16)
  | .kilnSteal cell => decide (cell < 16)
  | .kilnDeadlineMiss _ epoch => decide (epoch < 2 ^ 64)
  | .shedChanged => true
  | .cellHandshakeTimeout cell => decide (cell < 16)
  | .cellMemoryError cell => decide (cell < 16)
  | .crossCheck runner checker third _ withThird => decide (runner < 16) && decide (checker < 16) && decide (third < 16) && decide (withThird < 3)
  | .semaphoreRead n reader => decide (n < 32) && decide (reader < 2 ^ 8)
  | .semaphoreRelease n writer value => decide (n < 32) && decide (writer < 2 ^ 8) && decide (value < 2 ^ 32)
  | .semHostTimeout n => decide (n < 16)
  | .wedgeRegisterWrite n value _ => decide (n < 7) && decide (value < 2 ^ 32)
  | .kilnStatus r => r.wf
  | .wedgeStatus r => r.wf
  | .h2mDataWrite c word => decide (c < 8) && decide (word < 2 ^ 32)
  | .hatchPacketTake c => decide (c < 8)
  | .h2mAckRead c => decide (c < 8)
  | .h2mFlush c => decide (c < 8)
  | .h2mOverflowClear c => decide (c < 8)
  | .m2hDataRead c => decide (c < 8)
  | .m2hAckWrite c value => decide (c < 8) && decide (value < 2 ^ 32)
  | .m2hUnderflowClear c => decide (c < 8)
  | .irqStatusClear value => decide (value < 2 ^ 32)
  | .registerWrite addr value => decide (addr < 2 ^ 24) && decide (value < 2 ^ 32)
  | .hatchQueuePlacement c => decide (c < 8)
  | .paramGet r id => r.wf && decide (id < 2 ^ 16)
  | .paramSet r id size _ => r.wf && decide (id < 2 ^ 16) && decide (size < 2 ^ 8)
  | .hatchStatus r => r.wf
  | .brixoEthDatagram port peer _ _ => decide (port < 2) && decide (peer < 2 ^ 144)
  | .ipReassemblyTimeout => true
  | .dctrlWrite c value => decide (c < 4) && decide (value < 2 ^ 32)
  | .dmaChannelAbort c => decide (c < 4)
  | .descriptorStagingWrite c word value => decide (c < 4) && decide (word < 12) && decide (value < 2 ^ 32)
  | .descriptorCommit c value => decide (c < 4) && decide (value < 2 ^ 32)
  | .dstatClear c value => decide (c < 4) && decide (value < 2 ^ 32)
  | .dmaDescriptorStart c _ => decide (c < 8)
  | .dmaBurst _ => true
  | .dmaWriteBack c _ => decide (c < 8)
  | .dmaStatus r => r.wf
  | .dmaAbort r c => r.wf && decide (c < 2 ^ 8)
  | .cpStateChange hi lo => fitsS 16 hi && fitsS 16 lo
  | .ppStateChange ohm => decide (ohm < 2 ^ 16)
  | .slacMessage _ => true
  | .slacTimeout => true
  | .v2gMessage _ => true
  | .authTimeout => true
  | .overdraw => true
  | .vehStatus r => r.wf
  | .vehAuthorise r reqId decision bpt => r.wf && decide (reqId < 2 ^ 32) && decide (decision < 2 ^ 8) && decide (bpt < 2 ^ 8)
  | .vehLimitsSet r iMax pMax n _ => r.wf && decide (iMax < 2 ^ 32) && decide (pMax < 2 ^ 32) && decide (n < 2 ^ 8)
  | .vehStop r reason => r.wf && decide (reason < 2 ^ 8)
  | .vehAvailability r state => r.wf && decide (state < 2 ^ 8)
  | .vehCertLoad r what _ => r.wf && decide (what < 2 ^ 8)
  | .vehRelayAnswer r relayId _ => r.wf && decide (relayId < 2 ^ 32)
  | .sessionClose => true
  | .canFrameReceived _ => true
  | .canFrameSend => true
  | .powerModuleLost n => decide (n < 8)
  | .cableCheckReady => true
  | .cableCheckTimeout => true
  | .prechargeComplete => true
  | .prechargeTimeout => true
  | .dcDischargeEnd => true
  | .shutterEvaluationCycle _ => true
  | .channelDisagreement => true
  | .channelLinkLoss => true
  | .close => true
  | .openOrderly cause => decide (cause < 2 ^ 8)
  | .openNow cause => decide (cause < 2 ^ 8)
  | .pwm duty => decide (duty < 2 ^ 16)
  | .limit mA _ => decide (mA < 2 ^ 32)
  | .reclaim => true
  | .reset mask => decide (mask < 2 ^ 32)
  | .rcmTest => true
  | .orderlyStopWaitEnd => true
  | .kmPullinEnd => true
  | .openCoil chan => decide (chan < 4)
  | .kfbTimeout => true
  | .estopLineOpen _ chan => decide (chan < 4)
  | .estopDiscrep chan => decide (chan < 4)
  | .estopTestPulse _ chan => decide (chan < 4)
  | .rcmSelftestStepEnd _ => true
  | .rcmSelftestAge => true
  | .iPermHoldEnd => true
  | .weldTest => true
  | .coilSupplyLow chan => decide (chan < 4)
  | .sresetRelease lowMs => decide (lowMs < 2 ^ 32)
  | .sresetStuck => true
  | .pendingResetLapse => true
  | .cpStateAHeld => true
  | .shuStatus r => r.wf
  | .shuReset r mask => r.wf && decide (mask < 2 ^ 32)
  | .shuConfigOpen r len _ => r.wf && decide (len < 2 ^ 8)
  | .shuConfigClose r => r.wf
  | .shuPasswordSet r len _ => r.wf && decide (len < 2 ^ 8)
  | .shuRcmTest r => r.wf
  | .shuLogRead r first count => r.wf && decide (first < 2 ^ 32) && decide (count < 2 ^ 8)
  | .configSessionIdle => true
  | .lockoutEnd => true
  | .lswStatus r => r.wf
  | .lswControl r mask action ms => r.wf && decide (mask < 2 ^ 8) && decide (action < 2 ^ 8) && decide (ms < 2 ^ 16)
  | .lswThermalOff n tj => decide (n < 8) && fitsS 16 tj
  | .lswIlimTimeout n => decide (n < 8)
  | .lswLatchRelease n tj => decide (n < 8) && fitsS 16 tj
  | .lswRetryRefill n => decide (n < 8)
  | .lswPulseEnd n => decide (n < 8)
  | .lswOpenLoad n cur => decide (n < 8) && decide (cur < 2 ^ 16)
  | .lswOffStateShort n => decide (n < 8)
  | .vauxUndervoltage mV => decide (mV < 2 ^ 16)
  | .vauxRecovery mV => decide (mV < 2 ^ 16)
  | .vauxPowerCycle mV => decide (mV < 2 ^ 16)
  | .vauxGndOpen => true
  | .vauxGndRestored => true
  | .loadDump mV => decide (mV < 2 ^ 16)
  | .sagStatus r => r.wf
  | .sagSlotInfo r slot => r.wf && decide (slot < 2 ^ 8)
  | .sagKeyGenerate r slot type attr usesMax => r.wf && decide (slot < 2 ^ 8) && decide (type < 2 ^ 8) && decide (attr < 2 ^ 32) && decide (usesMax < 2 ^ 32)
  | .sagKeyWrite r slot type attr usesMax _ => r.wf && decide (slot < 2 ^ 8) && decide (type < 2 ^ 8) && decide (attr < 2 ^ 32) && decide (usesMax < 2 ^ 32)
  | .sagKeyImport r slot type attr usesMax unwrapSlot _ => r.wf && decide (slot < 2 ^ 8) && decide (type < 2 ^ 8) && decide (attr < 2 ^ 32) && decide (usesMax < 2 ^ 32) && decide (unwrapSlot < 2 ^ 8)
  | .sagKeyDerive r src slot type attr usesMax _ => r.wf && decide (src < 2 ^ 8) && decide (slot < 2 ^ 8) && decide (type < 2 ^ 8) && decide (attr < 2 ^ 32) && decide (usesMax < 2 ^ 32)
  | .sagKeyErase r slot => r.wf && decide (slot < 2 ^ 8)
  | .sagPubkeyExport r slot which gen => r.wf && decide (slot < 2 ^ 8) && decide (which < 2 ^ 8) && decide (gen < 2 ^ 16)
  | .sagCertAttach r slot _ => r.wf && decide (slot < 2 ^ 8)
  | .sagLifecycleSet r target _ => r.wf && decide (target < 2 ^ 8)
  | .lifecycleRestart => true
  | .sagTamperAck r mask => r.wf && decide (mask < 2 ^ 8)
  | .sagUnlockChallenge r => r.wf
  | .tampSample levels => decide (levels < 8)
  | .earthLoading => true
  | .meshBreach _ => true
  | .dbgEnableWrite value => decide (value < 2 ^ 32)
  | .spyholeDebugAccess _ addr data => decide (addr < 2 ^ 24) && decide (data < 2 ^ 32)
  | .pollCycle _ => true
  | .lowPowerDetectPulse change => decide (change < 2 ^ 16)
  | .conStatus r => r.wf
  | .conTune r iAnt phase => r.wf && decide (iAnt < 2 ^ 16) && fitsS 16 phase
  | .conListLoad r _ => r.wf
  | .conLbRead r page _ => r.wf && decide (page < 2 ^ 8)
  | .conLbWrite r page _ _ => r.wf && decide (page < 2 ^ 8)
  | .conLbConfig r action readPw writePw _ => r.wf && decide (action < 2 ^ 8) && decide (readPw < 2 ^ 32) && decide (writePw < 2 ^ 32)
  | .inventory maskLen mask => decide (maskLen < 65) && decide (mask < 2 ^ 64)
  | .stayQuiet dest => decide (dest < 4)
  | .select dest => decide (dest < 4)
  | .resetToReady dest => decide (dest < 4)
  | .getSystemInformation dest => decide (dest < 4)
  | .readSingleBlock dest block => decide (dest < 4) && decide (block < 2 ^ 16)
  | .readMultipleBlocks dest block n => decide (dest < 4) && decide (block < 2 ^ 16) && decide (n < 2 ^ 16)
  | .writeSingleBlock dest block _ fate => decide (dest < 4) && decide (block < 2 ^ 16) && decide (fate < 5)
  | .writeMultipleBlocks dest block _ fate => decide (dest < 4) && decide (block < 2 ^ 16) && decide (fate < 5)
  | .lbUnsupportedCommand dest => decide (dest < 4)
  | .lbFieldDrop => true
  | .lbBrixoRequest => true
  | .letterboxSummaryWrite n => decide (n < 7)
  | .dispStatus r => r.wf
  | .dispImageWrite r offset len _ => r.wf && decide (offset < 2 ^ 32) && decide (len < 2 ^ 16)
  | .dispUpdate r mode x y w h crc => r.wf && decide (mode < 2 ^ 8) && decide (x < 2 ^ 16) && decide (y < 2 ^ 16) && decide (w < 2 ^ 16) && decide (h < 2 ^ 16) && decide (crc < 2 ^ 32)
  | .dispClean r => r.wf
  | .imageCopyComplete => true
  | .dispRailsGood => true
  | .dispFrameEnd => true
  | .dispRailsDown => true
  | .dispRailFault => true
  | .waitingUpdateCheck => true
  | .waitingUpdateTimeout => true
  | .transomRefresh => true
  | .supplyZeroCrossing _ _ => true
  | .mcFrameBegin => true
  | .mcDataFrame h _ snr _ _ => h.wf && decide (snr < 2 ^ 8)
  | .mcAckFrame src dst seq bitmap snr _ _ => decide (src < 2 ^ 16) && decide (dst < 2 ^ 16) && decide (seq < 2 ^ 16) && decide (bitmap < 2 ^ 32) && decide (snr < 2 ^ 8)
  | .toneMapRequest h _ _ _ => h.wf
  | .toneMapReply h tmi _ snr _ _ => h.wf && decide (tmi < 2 ^ 8) && decide (snr < 2 ^ 8)
  | .beacon h _ _ => h.wf
  | .mcAckWindowExpiry => true
  | .mcIncompleteFrameDiscard src seq => decide (src < 2 ^ 16) && decide (seq < 2 ^ 16)
  | .toneMapRefreshDue short => decide (short < 2 ^ 16)
  | .mcNeighbourLost id => decide (id < 2 ^ 64)
  | .beaconTimer => true
  | .mcStatus r => r.wf
  | .mcNeighbourRead r first count => r.wf && decide (first < 2 ^ 8) && decide (count < 2 ^ 8)
  | .mcTonemapRefresh r short => r.wf && decide (short < 2 ^ 16)
  | .helloTimer => true
  | .helloReceived link h => decide (link < 7) && h.wf
  | .linkDown link id => decide (link < 7) && decide (id < 2 ^ 64)
  | .linkRetransmitTimeout link id => decide (link < 7) && decide (id < 2 ^ 64)
  | .routeTimer => true
  | .addressConflictClear => true
  | .fabricPacketReceived link id q acked _ p => decide (link < 7) && decide (id < 2 ^ 64) && decide (q < 2 ^ 16) && decide (acked < 65) && p.wf
  | .fragmentReassemblyTimeout src msg => decide (src < 2 ^ 16) && decide (msg < 2 ^ 16)
  | .ethernetFrame port src dst => decide (port < 3) && decide (src < 2 ^ 48) && decide (dst < 2 ^ 48)
  | .borrowTick => true
  | .tokenLendable token => decide (token < 2 ^ 16)
  | .tokenRequest m => m.wf
  | .tokenGrant m => m.wf
  | .tokenAccept m => m.wf
  | .tokenCommit m => m.wf
  | .tokenAbort m => m.wf
  | .tokenRenew m => m.wf
  | .tokenRenewed m => m.wf
  | .tokenReturn m => m.wf
  | .tokenRecall m => m.wf
  | .tokenAcceptTimeout xfer peer => decide (xfer < 2 ^ 32) && decide (peer < 2 ^ 16)
  | .tokenCommitWait xfer home => decide (xfer < 2 ^ 32) && decide (home < 2 ^ 16)
  | .leaseHalf xfer home => decide (xfer < 2 ^ 32) && decide (home < 2 ^ 16)
  | .leaseRelease xfer home => decide (xfer < 2 ^ 32) && decide (home < 2 ^ 16)
  | .leaseExpiry xfer home => decide (xfer < 2 ^ 32) && decide (home < 2 ^ 16)
  | .recallReturnTimer xfer home => decide (xfer < 2 ^ 32) && decide (home < 2 ^ 16)
  | .reissueClockExpiry xfer peer => decide (xfer < 2 ^ 32) && decide (peer < 2 ^ 16)
  | .quarantineEnd => true
  | .linStatus r => r.wf
  | .linTokenStatus r => r.wf
  | .linForward r dst _ => r.wf && decide (dst < 2 ^ 16)
  | .linForwardTimeout => true
  | .peerClaimFrame _ claim _ _ => decide (claim < 2 ^ 32)
  | .peerClaimSilence => true
  | .hingeHeartbeat peerId role claim _ _ => decide (peerId < 2 ^ 64) && decide (role < 3) && decide (claim < 2 ^ 32)
  | .hingeEpochMessage m => m.wf
  | .hingeTakeover => true
  | .yieldWithdraw => true
  | .hingeIsolated => true
  | .hingeRoleResume => true
  | .hingeResync msgs _ blocks => msgs.all (·.wf) && decide (blocks < 2 ^ 32)
  | .hingeProofTest _ _ diff _ _ _ _ => fitsS 32 diff
  | .hngStatus r => r.wf
  | .hngSwitch r => r.wf
  | .hngForce r _ => r.wf
  | .hngProofRun r => r.wf
  | .updStatus r => r.wf
  | .updStageBegin r _ => r.wf
  | .updStageWrite r offset len _ => r.wf && decide (offset < 2 ^ 32) && decide (len < 2 ^ 16)
  | .updVerify r => r.wf
  | .verifyComplete => true
  | .updActivate r _ => r.wf
  | .activationRestart peer => decide (peer < 4)
  | .updConfirm r => r.wf
  | .autoConfirm => true
  | .trialTimeout => true
  | .chainOffer src id => decide (src < 2 ^ 16) && decide (id < 2 ^ 32)
  | .chainRequest src id off len => decide (src < 2 ^ 16) && decide (id < 2 ^ 32) && decide (off < 2 ^ 32) && decide (len < 2 ^ 16)
  | .chainChunk src id off _ => decide (src < 2 ^ 16) && decide (id < 2 ^ 32) && decide (off < 2 ^ 32)
  | .chainHave src id => decide (src < 2 ^ 16) && decide (id < 2 ^ 32)
  | .chainFetchTimeout => true
  | .adcConversionComplete ch _ code _ _ => decide (ch < 24) && decide (code < 4096)
  | .urgentAdcRequest kind busy _ => decide (kind < 3) && decide (busy < 25)
  | .adcTrigEdge _ busy _ => decide (busy < 25)
  | .iTempRaiseStep => true
  | .rtcDiscipline ppb => fitsS 32 ppb
  | .idleCheckArm => true
  | .idleCurrentBlock => true
  | .watchRule k => decide (k < 4)
  | .wakeOutPulseEnd => true
  | .auxRead r mask => r.wf && decide (mask < 2 ^ 32)
  | .auxConvert r ch n => r.wf && decide (ch < 2 ^ 8) && decide (n < 2 ^ 8)
  | .auxTrigRead r most => r.wf && decide (most < 2 ^ 8)
  | .nlStatus r => r.wf
  | .nlWakeAck r => r.wf
  | .diagTokenRefill n => decide (n < 18)
  | .diagStatus r => r.wf
  | .diagRead r first most => r.wf && decide (first < 2 ^ 16) && decide (most < 2 ^ 8)
  | .diagFreeze r action => r.wf && decide (action < 2 ^ 8)
  | .diagClear r => r.wf
  | .freezeTimeout => true
  | .rs485ByteReceived byte _ _ => decide (byte < 2 ^ 8)
  | .rs485FrameEnd => true
  | .sysRs485Send r len _ => r.wf && decide (len < 2 ^ 16)
  | .rs485SendComplete => true
  | .railsFall => true
  | .vbatApplied => true
  | .hspiCsFalling _ _ => true
  | .v12OutOverload => true
  | .v12OutRestart => true
  | .vauxInReversed => true
  | .addressTableAgeing mac => decide (mac < 2 ^ 48)
  | .hingeEpochAck e => decide (e < 2 ^ 64)

end Sys2Proof
end

