-- ==== Sys2Proof/Tests/Slice0.lean ====
section
/-! SUPPORT. Tests on small states: ill-formed commands that the check refuses, worked examples of the manual, and for each
obligation with hypotheses a state and operands that meet the hypotheses of each of its clauses. -/

open Sys2Proof Sys2Proof.Machine Sys2Proof.Safety
namespace Sys2Proof.Tests

set_option maxRecDepth 4000
set_option Elab.async false

/-- A request of the host over SPI. -/
def rq : Req := ⟨.hostSpi, 0, 1, true, true⟩

/-- A parameter written long ago. -/
def withParam (id : Nat) (v : Int) (s : State) : State :=
  { s with par := { s.par with cells := (id, ⟨v, 0, v, 0, 1, none, true⟩) :: s.par.cells } }

/-- A module in the field that serves, with nothing in progress. -/
def running : State :=
  { State.reset with
    clk.now := 10000000000, clk.epoch := 1000, pwr.mains := true, pwr.rails := true, pwr.d0OnRails := true
    dom.d0 := true, dom.d1 := true, dom.d2 := true, dom.d3 := true, dom.d4 := true, dom.ready := true
    dom.kilnDue := false, mode.mode := .service, sag.lifecycle := .field, sag.root := 2, snap.published := true
    snap.epoch := 990 }

def cap0 : Captured := ⟨0, {}, .service, false, 0, 0, [], 0, 0, false, 0, 0, 0, false⟩
def entry0 : JournalEntry :=
  { epoch := 5, kind := 0, gate := 0, nSamples := 320, flags := 0, kSpan := 0, incHw := List.replicate 12 0, kEpoch := 0
    incKiln := List.replicate 24 0, bal := [0, 0, 0], state := {}, valid := true }
def sample0 : Sample :=
  ⟨List.replicate 14 0, [0, 0, 0], List.replicate 3 0, List.replicate 3 0, [], [], 0, 0, 0, 0, 0, 0, 0, false⟩
def fault0 : MetFault := ⟨1, 0, 10, some 5, 12, [], []⟩
def over0 : OverRange := ⟨0, 1, 2, 3, 100, true⟩
def row0 : MainRow := ⟨List.replicate 14 0, 0, 0⟩
def sums0 : SumsRec :=
  ⟨5, none, 0, none, {}, {}, [], [], [], 0, 0, false, false, 0, ⟨0, 7, [], 50, 0, 0, 0, 0, 0, 0, 0, 0, 0, 0, 0, 0, 0⟩⟩
def meas0 : Meas := ⟨5, 0, [⟨0, 0, 0, 0, 0, 0, 0⟩], 0, 0, 0, 0, 0, 0, 0, 0, 0, 0, 0⟩
def span0 : CalSpan := ⟨1, 1, 5, 1, [], 0, [], [], 0, false, none⟩
def seg0 : PqSeg := ⟨[1, 1, 1], 5, 0, 3⟩
def chan0 : PqChan := ⟨0, 0, 0, 0, 0, [], [], []⟩
def window0 : PqWindow := ⟨⟨1, 5, 0, 0, 10, none⟩, 0, 0, 0, [chan0], 0, 0, 0, 0, 0⟩
def sh0 : PqSh := ⟨0, 1, 5, 0, 0, [], []⟩
def event0 : Event := ⟨1, 0x0301, 0, 0, 5, 0, []⟩
def reading0 : Reading :=
  { no := 1, kind := 1, alg := 1, flags := 0, civil := 0, frac := 0, epoch := 5, keyGen := 0, keySlot := 0, mode := 3
    lrHash4 := [], calCount := 0, reg := [], digest := [], signature := none, dest := none, statement := none }
def slot0 : Slot :=
  { slot := 0, type := 5, root := 2, attr := 0xFFF, gen := 1, usesMax := 0, usesLeft := 0, created := 0, key := [], cmacOk := true }
def inc0 : EpochInc := ⟨5, List.replicate 12 0, none, List.replicate 12 0, List.replicate 36 0, 0, 0, 0, 3, false⟩
def table0 : List Byte := withCrc (le 2 1 ++ le 1 2 ++ zeros 5 ++ zeros 72)
def zone0 : List Byte := withCrc (le 2 1 ++ le 1 1 ++ zeros 5 ++ zeros 16)
def calendar0 : List Byte :=
  withCrc (le 4 1 ++ le 2 1 ++ le 1 1 ++ le 1 1 ++ le 1 1 ++ zeros 23 ++ (le 1 1 ++ le 1 1 ++ zeros 2) ++ zeros 8
    ++ (le 1 1 ++ zeros 3 ++ (zeros 2 ++ le 1 1 ++ zeros 1) ++ zeros 44))
def bill0 : BillRec := ⟨1, 0, 1, 0, 0, 0, 5, [], [], [], ⟨0, 0, 0⟩, ⟨0, 0, 0⟩, 0, 0⟩

def task0 : Task := ⟨.m, 5, 0, 100, 1, false⟩
def task1 : Task := ⟨.l, 5, 0, 200, 1, false⟩
def withCell (k : Nat) (c : Cell) (s : State) : State := { s with kiln := { s.kiln with cells := s.kiln.cells.set k c } }
def withSem (n owner : Nat) (s : State) : State :=
  { s with kiln := { s.kiln with sems := s.kiln.sems.set n ⟨some owner, 5⟩ } }
def withChan (c : Nat) (ch : HatchChan) (s : State) : State :=
  { s with hatch := { s.hatch with chans := s.hatch.chans.set c ch } }
def packet0 : List Nat := (List.range 3).map fun k => fieldAt (inlinePacket 0 0 0x0130 1 []) (4 * k) 4
def out0 : OutPacket := ⟨[7, 8], 2, 3, false, false⟩
def note0 : Note := ⟨0, 0, 0x0168, []⟩
def reply0 : Machine.Reply := ⟨.hostSpi, 0, 1, 0x0130, [], false, true, 0⟩
/-- A descriptor of the module: one byte from 0x20000000 to 0x20001000. -/
def words0 : List Nat := [2 ^ 31, 0x20000000, 0x20001000, 65537, 1, 1, 1, 1, 1, 1, 1, 0]
def run0 : Running := ⟨0, words0, 0, 0, []⟩
def run1 : Running := ⟨0, words0, 1, 0x20001000, [0]⟩
def withDma (c : Nat) (d : DmaChan) (s : State) : State := { s with dma := { s.dma with chans := s.dma.chans.set c d } }
def session0 : OpenSession :=
  { startEpoch := 5, startCivil := 0, fineImp := 0, fineExp := 0, authKind := 1, authRef := [], rateMask := 0, peakW := 0
    cost := 0, costResidue := 0, flags := 0 }
def auth0 : AuthReq := ⟨3, 1, [], 100⟩
def pm0 : PowerModule := ⟨true, 5, none, 0, 0, 0⟩

def rqLb : Req := ⟨.letterbox, 0, 1, true, true⟩
def rqSpy : Req := ⟨.spyhole, 0, 1, true, true⟩
def pub0 : PubKey := ⟨0, 5, 1, Config.certSubject [], []⟩
def waves0 : WaveTable := ⟨1, 1, 0, [-10], 50, [[0, 0, 0, 0]], [[0, 0, 0, 0]], []⟩
def update0 : DispReq := ⟨1, 1, ⟨0, 0, 8, 8⟩, 1, some 0, 0, some 5, 0⟩
def drive0 : Drive := ⟨.update, update0, 0, waves0, true, 0⟩
def frame0 : McFrame := ⟨1, 7, 1, 0, [], 0, [0], 0, false⟩
def header0 : McHeader := ⟨1, 7, 1, 1, 10, 0, 0, 0, 0⟩
def carrier0 : McNeighbour :=
  { moduleId := 9, short := 7, phase := 0, reversed := false, phases := [], map := none, tmi := 0, down := 0, snr := 0
    segSent := 0, segLost := 0, heardEpoch := 0, heardAt := 0, refreshed := 0, refreshFails := 0, givenTmi := 0
    wanted := false }
def partial0 : McPartial := ⟨7, 1, 2, 10, 0, [], 5⟩
def hello0 : HelloBlock := ⟨9, 9, 5, 1, 128, 1, 3, 0, 0, 0⟩
def node0 : Neighbour := ⟨0, hello0, 5, false, [], 0, none, [], [], 5⟩
def fabric0 : FabricPacket := ⟨8, false, false, 5, 1, 1, 0, 1, 0, 1, []⟩
def frags0 : Fragments := ⟨5, 1, 2, [], 5⟩
def datagram0 : List Byte := inlinePacket 0 0 0x0130 1 []
def forward0 : Forward := ⟨rq, 5, 0, 1, 100⟩
/-- A node with address 1 in the fabric. -/
def node : State := withParam 0x0C00 1 running
def lending0 : Lending := ⟨3, 5, [1], false, false, 100⟩
def borrowing0 : Borrowing :=
  { xferId := 3, home := 5, tokens := [1], leaseMs := 60000, committed := false, inUse := true, leaseEnd := 30000000000
    renewSent := none, acceptSent := 5, resends := 4, returnAt := none }
def tokens0 : TokenMsg := ⟨5, 1, 3, 0, 60000, [1]⟩
/-- A unit of a Hinge pair. -/
def paired : State := withParam 0x0D00 1 running
def hinge0 : HingeMsg := ⟨entry0, 5, [], [], [], [], [], [], none, 0⟩
def staging0 : Staging := ⟨1, zeros 704, 704, List.replicate 704 (some 0), 1, some (5, 5), [5]⟩
def conversion0 : Conversion := ⟨3, .schedule, false⟩
def withOut (n : Nat) (c : LswChan) (s : State) : State := { s with lsw := { s.lsw with chans := s.lsw.chans.set n c } }

/-! Well-formedness. -/

def badChan : Req := ⟨.hostSpi, 8, 1, true, true⟩
def badSeq : Req := ⟨.hostSpi, 0, 256, true, true⟩
def badHinge : HingeMsg := { hinge0 with entry := { entry0 with bal := [] } }

/-- Each check of the records inside a command refuses a record that breaks it alone. -/
theorem test_wf_records_refused :
    badChan.wf = false ∧ badSeq.wf = false ∧ rq.wf = true ∧ tokens0.wf = true ∧ hello0.wf = true ∧ fabric0.wf = true ∧
    header0.wf = true ∧ hinge0.wf = true ∧
    ([{ tokens0 with src := 2 ^ 16 }, { tokens0 with count := 65 }, { tokens0 with xferId := 2 ^ 32 },
      { tokens0 with tableId := 2 ^ 32 }, { tokens0 with leaseMs := 2 ^ 32 },
        { tokens0 with tokens := List.replicate 65 0 },
      { tokens0 with tokens := [2 ^ 16] }] : List TokenMsg).all (fun m => !m.wf) = true ∧
    ([{ hello0 with moduleId := 2 ^ 64 }, { hello0 with rootId := 2 ^ 64 }, { hello0 with short := 2 ^ 16 },
      { hello0 with depth := 256 }, { hello0 with rootPrio := 256 }, { hello0 with pathCost := 2 ^ 16 },
      { hello0 with spare := 2 ^ 16 }, { hello0 with tableId := 2 ^ 32 }, { hello0 with leadAddr := 2 ^ 16 },
      { hello0 with leadSpare := 2 ^ 16 }] : List HelloBlock).all (fun h => !h.wf) = true ∧
    ([{ fabric0 with ttl := 256 }, { fabric0 with dst := 2 ^ 16 }, { fabric0 with src := 2 ^ 16 },
      { fabric0 with type := 256 }, { fabric0 with prio := 256 }, { fabric0 with msgId := 2 ^ 16 },
      { fabric0 with fragNo := 5 }, { fabric0 with fragCount := 6 },
      { fabric0 with payload := List.replicate 1005 0 }] : List FabricPacket).all (fun p => !p.wf) = true ∧
    ([{ header0 with src := 2 ^ 16 }, { header0 with dst := 2 ^ 16 }, { header0 with seq := 2 ^ 16 },
      { header0 with nseg := 33 }, { header0 with len := 1025 }, { header0 with retry := 4 }, { header0 with tmi := 256 },
      { header0 with down := 5 }, { header0 with prio := 256 }] : List McHeader).all (fun h => !h.wf) = true ∧
    ([{ hinge0 with entry := { entry0 with incHw := [] } }, { hinge0 with entry := { entry0 with incKiln := [] } },
      badHinge] : List HingeMsg).all (fun m => !m.wf) = true := by decide +kernel

/-- Commands whose operands fit: the counterparts of the ill-formed ones below. -/
theorem test_wf_good_1 :
    ([.d3LeavesReset 0 false 0 0 0 false 0 0 0, .sysModeGet rq, .sysModeRequest rq 0, .sysReset rq 0, .sysHoldupInfo rq,
      .watchWake 0, .statusFrame false false 0 0 0 0, .meteringFaultEnd 0 0 [], .overrangeClose 0, .gainMismatch 0,
      .sieveSaturationClose 0, .metInputStatus rq, .metInputSelftest rq 0, .metSieveStatus rq, .metSieveHalt rq 0,
      .metSieveSetLoad rq [], .metEnergyRead rq, .metDeltaRead rq 0 0, .metMeasRead rq, .metSumsRead rq 0, .reverseFlow 0,
      .metCalMeasure rq 0 0, .metCalCommit rq, .metTempTableLoad rq [], .metTempStatus rq, .metLrId rq, .paramEffective 0,
      .metPqSummary rq 0, .metPqHarmRead rq 0 0, .metPqShRead rq 0 0, .metPqEventRead rq 0 0, .ledSnapshotRead rq,
      .ledSeriesRead rq 0 0 0, .ledWaveCapture rq 0 0, .ledSignReading rq [], .ledStatus rq] : List Instr).all (fun c =>
      c.wf) = true := by decide +kernel

/-- Commands whose operands fit: the counterparts of the ill-formed ones below. -/
theorem test_wf_good_2 :
    ([.bilTimeSet rq 0 0 0, .bilTimeGet rq, .bilTzLoad rq [], .bilCalendarLoad rq [], .bilTariffRead rq, .bilBillingClose
      rq, .bilBillingRead rq 0, .bilCreditTransfer rq [], .bilCreditStatus rq, .bilEmergencyActivate rq, .bilDisconnect rq
      0, .km1FeedbackMismatch 0, .speedMonitor [] 0 0 0, .kilnTaskRelease .m 0 0 0, .kilnTaskRun 0, .kilnSteal 0,
      .kilnDeadlineMiss .m 0, .cellHandshakeTimeout 0, .cellMemoryError 0, .crossCheck 0 0 0 false 0, .semaphoreRead 0 0,
      .semaphoreRelease 0 0 0, .semHostTimeout 0, .wedgeRegisterWrite 0 0 .hostSpi, .kilnStatus rq, .wedgeStatus rq,
      .h2mDataWrite 0 0, .hatchPacketTake 0, .h2mAckRead 0, .h2mFlush 0, .h2mOverflowClear 0, .m2hDataRead 0, .m2hAckWrite 0
      0, .m2hUnderflowClear 0, .irqStatusClear 0, .registerWrite 0 0] : List Instr).all (fun c => c.wf) = true := by
      decide +kernel

/-- Commands whose operands fit: the counterparts of the ill-formed ones below. -/
theorem test_wf_good_3 :
    ([.hatchQueuePlacement 0, .paramGet rq 0, .paramSet rq 0 0 [], .hatchStatus rq, .brixoEthDatagram 0 0 [] false,
      .dctrlWrite 0 0, .dmaChannelAbort 0, .descriptorStagingWrite 0 0 0, .descriptorCommit 0 0, .dstatClear 0 0,
      .dmaDescriptorStart 0 [], .dmaWriteBack 0 false, .dmaStatus rq, .dmaAbort rq 0, .cpStateChange 0 0, .ppStateChange 0,
      .vehStatus rq, .vehAuthorise rq 0 0 0, .vehLimitsSet rq 0 0 0 [], .vehStop rq 0, .vehAvailability rq 0, .vehCertLoad
      rq 0 [], .vehRelayAnswer rq 0 [], .powerModuleLost 0, .openOrderly 0, .openNow 0, .pwm 0, .limit 0 false, .reset 0,
      .openCoil 0, .estopLineOpen false 0, .estopDiscrep 0, .estopTestPulse false 0, .coilSupplyLow 0, .sresetRelease 0,
      .shuStatus rq] : List Instr).all (fun c => c.wf) = true := by decide +kernel

/-- Commands whose operands fit: the counterparts of the ill-formed ones below. -/
theorem test_wf_good_4 :
    ([.shuReset rq 0, .shuConfigOpen rq 0 [], .shuConfigClose rq, .shuPasswordSet rq 0 [], .shuRcmTest rq, .shuLogRead rq 0
      0, .lswStatus rq, .lswControl rq 0 0 0, .lswThermalOff 0 0, .lswIlimTimeout 0, .lswLatchRelease 0 0, .lswRetryRefill
      0, .lswPulseEnd 0, .lswOpenLoad 0 0, .lswOffStateShort 0, .vauxUndervoltage 0, .vauxRecovery 0, .vauxPowerCycle 0,
      .loadDump 0, .sagStatus rq, .sagSlotInfo rq 0, .sagKeyGenerate rq 0 0 0 0, .sagKeyWrite rq 0 0 0 0 [], .sagKeyImport
      rq 0 0 0 0 0 [], .sagKeyDerive rq 0 0 0 0 0 [], .sagKeyErase rq 0, .sagPubkeyExport rq 0 0 0, .sagCertAttach rq 0 [],
      .sagLifecycleSet rq 0 [], .sagTamperAck rq 0, .sagUnlockChallenge rq, .tampSample 0, .dbgEnableWrite 0,
      .spyholeDebugAccess false 0 0, .lowPowerDetectPulse 0, .conStatus rq] : List Instr).all (fun c => c.wf) = true := by
      decide +kernel

/-- Commands whose operands fit: the counterparts of the ill-formed ones below. -/
theorem test_wf_good_5 :
    ([.conTune rq 0 0, .conListLoad rq [], .conLbRead rq 0 false, .conLbWrite rq 0 [] false, .conLbConfig rq 0 0 0 false,
      .inventory 0 0, .stayQuiet 0, .select 0, .resetToReady 0, .getSystemInformation 0, .readSingleBlock 0 0,
      .readMultipleBlocks 0 0 0, .writeSingleBlock 0 0 [] 0, .writeMultipleBlocks 0 0 [] 0, .lbUnsupportedCommand 0,
      .letterboxSummaryWrite 0, .dispStatus rq, .dispImageWrite rq 0 0 [], .dispUpdate rq 0 0 0 0 0 0, .dispClean rq,
      .mcDataFrame header0 [] 0 false 0, .mcAckFrame 0 0 0 0 0 false 0, .toneMapRequest header0 [] false 0, .toneMapReply
      header0 0 0 0 false 0, .beacon hello0 false 0, .mcIncompleteFrameDiscard 0 0, .toneMapRefreshDue 0, .mcNeighbourLost
      0, .mcStatus rq, .mcNeighbourRead rq 0 0, .mcTonemapRefresh rq 0, .helloReceived 0 hello0, .linkDown 0 0,
      .linkRetransmitTimeout 0 0, .fabricPacketReceived 0 0 0 0 false fabric0, .fragmentReassemblyTimeout 0 0] : List
      Instr).all (fun c => c.wf) = true := by decide +kernel

/-- Commands whose operands fit: the counterparts of the ill-formed ones below. -/
theorem test_wf_good_6 :
    ([.ethernetFrame 0 0 0, .tokenLendable 0, .tokenRequest tokens0, .tokenGrant tokens0, .tokenAccept tokens0, .tokenCommit
      tokens0, .tokenAbort tokens0, .tokenRenew tokens0, .tokenRenewed tokens0, .tokenReturn tokens0, .tokenRecall tokens0,
      .tokenAcceptTimeout 0 0, .tokenCommitWait 0 0, .leaseHalf 0 0, .leaseRelease 0 0, .leaseExpiry 0 0, .recallReturnTimer
      0 0, .reissueClockExpiry 0 0, .linStatus rq, .linTokenStatus rq, .linForward rq 0 [], .peerClaimFrame false 0 false
      false, .hingeHeartbeat 0 0 0 false false, .hingeEpochMessage hinge0, .hingeResync [] none 0, .hingeProofTest false
      false 0 false false false false, .hngStatus rq, .hngSwitch rq, .hngForce rq false, .hngProofRun rq, .updStatus rq,
      .updStageBegin rq [], .updStageWrite rq 0 0 [], .updVerify rq, .updActivate rq false, .activationRestart 0] : List
      Instr).all (fun c => c.wf) = true := by decide +kernel

/-- Commands whose operands fit: the counterparts of the ill-formed ones below. -/
theorem test_wf_good_7 :
    ([.updConfirm rq, .chainOffer 0 0, .chainRequest 0 0 0 0, .chainChunk 0 0 0 [], .chainHave 0 0, .adcConversionComplete 0
      false 0 false false, .urgentAdcRequest 0 0 false, .adcTrigEdge false 0 false, .rtcDiscipline 0, .watchRule 0, .auxRead
      rq 0, .auxConvert rq 0 0, .auxTrigRead rq 0, .nlStatus rq, .nlWakeAck rq, .diagTokenRefill 0, .diagStatus rq,
      .diagRead rq 0 0, .diagFreeze rq 0, .diagClear rq, .rs485ByteReceived 0 false false, .sysRs485Send rq 0 [],
      .addressTableAgeing 0, .hingeEpochAck 0] : List Instr).all (fun c => c.wf) = true := by decide +kernel

/-- Commands with one operand one past its field: the check refuses each. -/
theorem test_wf_refused_1 :
    ([.d3LeavesReset 0 false 0 0 0 false 2 0 0, .d3LeavesReset 0 false 0 0 0 false 0 (2 ^ 64) 0, .d3LeavesReset 0 false 0 0
      0 false 0 0 (2 ^ 64), .sysModeGet badChan, .sysModeRequest rq (2 ^ 8), .sysModeRequest badChan 0, .sysReset rq (2 ^
      8), .sysReset badChan 0, .sysHoldupInfo badChan, .watchWake 7, .statusFrame false false 0 (2 ^ 16) 0 0, .statusFrame
      false false 0 0 (2 ^ 16) 0, .statusFrame false false (2 ^ 15) 0 0 0, .statusFrame false false (-(2 ^ 15) - 1) 0 0 0,
      .statusFrame false false 0 0 0 (2 ^ 15), .statusFrame false false 0 0 0 (-(2 ^ 15) - 1), .meteringFaultEnd 10 0 [],
      .meteringFaultEnd 0 (2 ^ 8) [], .overrangeClose 10, .gainMismatch 4, .sieveSaturationClose 10, .metInputStatus
      badChan, .metInputSelftest rq (2 ^ 16), .metInputSelftest badChan 0, .metSieveStatus badChan, .metSieveHalt rq (2 ^
      8), .metSieveHalt badChan 0, .metSieveSetLoad badChan [], .metEnergyRead badChan, .metDeltaRead rq (2 ^ 64) 0,
      .metDeltaRead rq 0 (2 ^ 8), .metDeltaRead badChan 0 0, .metMeasRead badChan, .metSumsRead rq (2 ^ 64), .metSumsRead
      badChan 0, .reverseFlow 3] : List Instr).all (fun c => !c.wf) = true := by decide +kernel

/-- Commands with one operand one past its field: the check refuses each. -/
theorem test_wf_refused_2 :
    ([.metCalMeasure rq (2 ^ 16) 0, .metCalMeasure rq 0 (2 ^ 16), .metCalMeasure badChan 0 0, .metCalCommit badChan,
      .metTempTableLoad badChan [], .metTempStatus badChan, .metLrId badChan, .paramEffective (2 ^ 16), .metPqSummary rq (2
      ^ 64), .metPqSummary badChan 0, .metPqHarmRead rq (2 ^ 64) 0, .metPqHarmRead rq 0 (2 ^ 8), .metPqHarmRead badChan 0 0,
      .metPqShRead rq (2 ^ 64) 0, .metPqShRead rq 0 (2 ^ 8), .metPqShRead badChan 0 0, .metPqEventRead rq (2 ^ 32) 0,
      .metPqEventRead rq 0 (2 ^ 8), .metPqEventRead badChan 0 0, .ledSnapshotRead badChan, .ledSeriesRead rq (2 ^ 8) 0 0,
      .ledSeriesRead rq 0 (2 ^ 32) 0, .ledSeriesRead rq 0 0 (2 ^ 16), .ledSeriesRead badChan 0 0 0, .ledWaveCapture rq (2 ^
      16) 0, .ledWaveCapture rq 0 (2 ^ 8), .ledWaveCapture badChan 0 0, .ledSignReading badChan [], .ledStatus badChan,
      .bilTimeSet rq 0 (2 ^ 16) 0, .bilTimeSet rq 0 0 (2 ^ 8), .bilTimeSet rq (2 ^ 63) 0 0, .bilTimeSet rq (-(2 ^ 63) - 1) 0
      0, .bilTimeSet badChan 0 0 0, .bilTimeGet badChan, .bilTzLoad badChan []] : List Instr).all (fun c => !c.wf) = true :=
      by decide +kernel

/-- Commands with one operand one past its field: the check refuses each. -/
theorem test_wf_refused_3 :
    ([.bilCalendarLoad badChan [], .bilTariffRead badChan, .bilBillingClose badChan, .bilBillingRead rq (2 ^ 32),
      .bilBillingRead badChan 0, .bilCreditTransfer badChan [], .bilCreditStatus badChan, .bilEmergencyActivate badChan,
      .bilDisconnect rq (2 ^ 8), .bilDisconnect badChan 0, .km1FeedbackMismatch (2 ^ 32), .speedMonitor [] (2 ^ 16) 0 0,
      .speedMonitor [] 0 0 (2 ^ 16), .speedMonitor [] 0 (2 ^ 15) 0, .speedMonitor [] 0 (-(2 ^ 15) - 1) 0, .kilnTaskRelease
      .m (2 ^ 64) 0 0, .kilnTaskRelease .m 0 (2 ^ 8) 0, .kilnTaskRelease .m 0 0 16, .kilnTaskRun 16, .kilnSteal 16,
      .kilnDeadlineMiss .m (2 ^ 64), .cellHandshakeTimeout 16, .cellMemoryError 16, .crossCheck 16 0 0 false 0, .crossCheck
      0 16 0 false 0, .crossCheck 0 0 16 false 0, .crossCheck 0 0 0 false 3, .semaphoreRead 32 0, .semaphoreRead 0 (2 ^ 8),
      .semaphoreRelease 32 0 0, .semaphoreRelease 0 (2 ^ 8) 0, .semaphoreRelease 0 0 (2 ^ 32), .semHostTimeout 16,
      .wedgeRegisterWrite 7 0 .hostSpi, .wedgeRegisterWrite 0 (2 ^ 32) .hostSpi, .kilnStatus badChan] : List Instr).all (fun
      c => !c.wf) = true := by decide +kernel

/-- Commands with one operand one past its field: the check refuses each. -/
theorem test_wf_refused_4 :
    ([.wedgeStatus badChan, .h2mDataWrite 8 0, .h2mDataWrite 0 (2 ^ 32), .hatchPacketTake 8, .h2mAckRead 8, .h2mFlush 8,
      .h2mOverflowClear 8, .m2hDataRead 8, .m2hAckWrite 8 0, .m2hAckWrite 0 (2 ^ 32), .m2hUnderflowClear 8, .irqStatusClear
      (2 ^ 32), .registerWrite (2 ^ 24) 0, .registerWrite 0 (2 ^ 32), .hatchQueuePlacement 8, .paramGet rq (2 ^ 16),
      .paramGet badChan 0, .paramSet rq (2 ^ 16) 0 [], .paramSet rq 0 (2 ^ 8) [], .paramSet badChan 0 0 [], .hatchStatus
      badChan, .brixoEthDatagram 2 0 [] false, .brixoEthDatagram 0 (2 ^ 144) [] false, .dctrlWrite 4 0, .dctrlWrite 0 (2 ^
      32), .dmaChannelAbort 4, .descriptorStagingWrite 4 0 0, .descriptorStagingWrite 0 12 0, .descriptorStagingWrite 0 0 (2
      ^ 32), .descriptorCommit 4 0, .descriptorCommit 0 (2 ^ 32), .dstatClear 4 0, .dstatClear 0 (2 ^ 32),
      .dmaDescriptorStart 8 [], .dmaWriteBack 8 false, .dmaStatus badChan] : List Instr).all (fun c => !c.wf) = true := by
      decide +kernel

/-- Commands with one operand one past its field: the check refuses each. -/
theorem test_wf_refused_5 :
    ([.dmaAbort rq (2 ^ 8), .dmaAbort badChan 0, .cpStateChange (2 ^ 15) 0, .cpStateChange (-(2 ^ 15) - 1) 0, .cpStateChange
      0 (2 ^ 15), .cpStateChange 0 (-(2 ^ 15) - 1), .ppStateChange (2 ^ 16), .vehStatus badChan, .vehAuthorise rq (2 ^ 32) 0
      0, .vehAuthorise rq 0 (2 ^ 8) 0, .vehAuthorise rq 0 0 (2 ^ 8), .vehAuthorise badChan 0 0 0, .vehLimitsSet rq (2 ^ 32)
      0 0 [], .vehLimitsSet rq 0 (2 ^ 32) 0 [], .vehLimitsSet rq 0 0 (2 ^ 8) [], .vehLimitsSet badChan 0 0 0 [], .vehStop rq
      (2 ^ 8), .vehStop badChan 0, .vehAvailability rq (2 ^ 8), .vehAvailability badChan 0, .vehCertLoad rq (2 ^ 8) [],
      .vehCertLoad badChan 0 [], .vehRelayAnswer rq (2 ^ 32) [], .vehRelayAnswer badChan 0 [], .powerModuleLost 8,
      .openOrderly (2 ^ 8), .openNow (2 ^ 8), .pwm (2 ^ 16), .limit (2 ^ 32) false, .reset (2 ^ 32), .openCoil 4,
      .estopLineOpen false 4, .estopDiscrep 4, .estopTestPulse false 4, .coilSupplyLow 4, .sresetRelease (2 ^ 32)] : List
      Instr).all (fun c => !c.wf) = true := by decide +kernel

/-- Commands with one operand one past its field: the check refuses each. -/
theorem test_wf_refused_6 :
    ([.shuStatus badChan, .shuReset rq (2 ^ 32), .shuReset badChan 0, .shuConfigOpen rq (2 ^ 8) [], .shuConfigOpen badChan 0
      [], .shuConfigClose badChan, .shuPasswordSet rq (2 ^ 8) [], .shuPasswordSet badChan 0 [], .shuRcmTest badChan,
      .shuLogRead rq (2 ^ 32) 0, .shuLogRead rq 0 (2 ^ 8), .shuLogRead badChan 0 0, .lswStatus badChan, .lswControl rq (2 ^
      8) 0 0, .lswControl rq 0 (2 ^ 8) 0, .lswControl rq 0 0 (2 ^ 16), .lswControl badChan 0 0 0, .lswThermalOff 8 0,
      .lswThermalOff 0 (2 ^ 15), .lswThermalOff 0 (-(2 ^ 15) - 1), .lswIlimTimeout 8, .lswLatchRelease 8 0, .lswLatchRelease
      0 (2 ^ 15), .lswLatchRelease 0 (-(2 ^ 15) - 1), .lswRetryRefill 8, .lswPulseEnd 8, .lswOpenLoad 8 0, .lswOpenLoad 0 (2
      ^ 16), .lswOffStateShort 8, .vauxUndervoltage (2 ^ 16), .vauxRecovery (2 ^ 16), .vauxPowerCycle (2 ^ 16), .loadDump (2
      ^ 16), .sagStatus badChan, .sagSlotInfo rq (2 ^ 8), .sagSlotInfo badChan 0] : List Instr).all (fun c => !c.wf) = true
      := by decide +kernel

/-- Commands with one operand one past its field: the check refuses each. -/
theorem test_wf_refused_7 :
    ([.sagKeyGenerate rq (2 ^ 8) 0 0 0, .sagKeyGenerate rq 0 (2 ^ 8) 0 0, .sagKeyGenerate rq 0 0 (2 ^ 32) 0, .sagKeyGenerate
      rq 0 0 0 (2 ^ 32), .sagKeyGenerate badChan 0 0 0 0, .sagKeyWrite rq (2 ^ 8) 0 0 0 [], .sagKeyWrite rq 0 (2 ^ 8) 0 0
      [], .sagKeyWrite rq 0 0 (2 ^ 32) 0 [], .sagKeyWrite rq 0 0 0 (2 ^ 32) [], .sagKeyWrite badChan 0 0 0 0 [],
      .sagKeyImport rq (2 ^ 8) 0 0 0 0 [], .sagKeyImport rq 0 (2 ^ 8) 0 0 0 [], .sagKeyImport rq 0 0 (2 ^ 32) 0 0 [],
      .sagKeyImport rq 0 0 0 (2 ^ 32) 0 [], .sagKeyImport rq 0 0 0 0 (2 ^ 8) [], .sagKeyImport badChan 0 0 0 0 0 [],
      .sagKeyDerive rq (2 ^ 8) 0 0 0 0 [], .sagKeyDerive rq 0 (2 ^ 8) 0 0 0 [], .sagKeyDerive rq 0 0 (2 ^ 8) 0 0 [],
      .sagKeyDerive rq 0 0 0 (2 ^ 32) 0 [], .sagKeyDerive rq 0 0 0 0 (2 ^ 32) [], .sagKeyDerive badChan 0 0 0 0 0 [],
      .sagKeyErase rq (2 ^ 8), .sagKeyErase badChan 0, .sagPubkeyExport rq (2 ^ 8) 0 0, .sagPubkeyExport rq 0 (2 ^ 8) 0,
      .sagPubkeyExport rq 0 0 (2 ^ 16), .sagPubkeyExport badChan 0 0 0, .sagCertAttach rq (2 ^ 8) [], .sagCertAttach badChan
      0 [], .sagLifecycleSet rq (2 ^ 8) [], .sagLifecycleSet badChan 0 [], .sagTamperAck rq (2 ^ 8), .sagTamperAck badChan
      0, .sagUnlockChallenge badChan, .tampSample 8] : List Instr).all (fun c => !c.wf) = true := by decide +kernel

/-- Commands with one operand one past its field: the check refuses each. -/
theorem test_wf_refused_8 :
    ([.dbgEnableWrite (2 ^ 32), .spyholeDebugAccess false (2 ^ 24) 0, .spyholeDebugAccess false 0 (2 ^ 32),
      .lowPowerDetectPulse (2 ^ 16), .conStatus badChan, .conTune rq (2 ^ 16) 0, .conTune rq 0 (2 ^ 15), .conTune rq 0 (-(2
      ^ 15) - 1), .conTune badChan 0 0, .conListLoad badChan [], .conLbRead rq (2 ^ 8) false, .conLbRead badChan 0 false,
      .conLbWrite rq (2 ^ 8) [] false, .conLbWrite badChan 0 [] false, .conLbConfig rq (2 ^ 8) 0 0 false, .conLbConfig rq 0
      (2 ^ 32) 0 false, .conLbConfig rq 0 0 (2 ^ 32) false, .conLbConfig badChan 0 0 0 false, .inventory 65 0, .inventory 0
      (2 ^ 64), .stayQuiet 4, .select 4, .resetToReady 4, .getSystemInformation 4, .readSingleBlock 4 0, .readSingleBlock 0
      (2 ^ 16), .readMultipleBlocks 4 0 0, .readMultipleBlocks 0 (2 ^ 16) 0, .readMultipleBlocks 0 0 (2 ^ 16),
      .writeSingleBlock 4 0 [] 0, .writeSingleBlock 0 (2 ^ 16) [] 0, .writeSingleBlock 0 0 [] 5, .writeMultipleBlocks 4 0 []
      0, .writeMultipleBlocks 0 (2 ^ 16) [] 0, .writeMultipleBlocks 0 0 [] 5, .lbUnsupportedCommand 4] : List Instr).all
      (fun c => !c.wf) = true := by decide +kernel

/-- Commands with one operand one past its field: the check refuses each. -/
theorem test_wf_refused_9 :
    ([.letterboxSummaryWrite 7, .dispStatus badChan, .dispImageWrite rq (2 ^ 32) 0 [], .dispImageWrite rq 0 (2 ^ 16) [],
      .dispImageWrite badChan 0 0 [], .dispUpdate rq (2 ^ 8) 0 0 0 0 0, .dispUpdate rq 0 (2 ^ 16) 0 0 0 0, .dispUpdate rq 0
      0 (2 ^ 16) 0 0 0, .dispUpdate rq 0 0 0 (2 ^ 16) 0 0, .dispUpdate rq 0 0 0 0 (2 ^ 16) 0, .dispUpdate rq 0 0 0 0 0 (2 ^
      32), .dispUpdate badChan 0 0 0 0 0 0, .dispClean badChan, .mcDataFrame header0 [] (2 ^ 8) false 0, .mcDataFrame
      { header0 with retry := 4 } [] 0 false 0, .mcAckFrame (2 ^ 16) 0 0 0 0 false 0, .mcAckFrame 0 (2 ^ 16) 0 0 0 false 0,
      .mcAckFrame 0 0 (2 ^ 16) 0 0 false 0, .mcAckFrame 0 0 0 (2 ^ 32) 0 false 0, .mcAckFrame 0 0 0 0 (2 ^ 8) false 0,
      .toneMapRequest { header0 with retry := 4 } [] false 0, .toneMapReply header0 (2 ^ 8) 0 0 false 0, .toneMapReply
      header0 0 0 (2 ^ 8) false 0, .toneMapReply { header0 with retry := 4 } 0 0 0 false 0, .beacon
      { hello0 with depth := 256 } false 0, .mcIncompleteFrameDiscard (2 ^ 16) 0, .mcIncompleteFrameDiscard 0 (2 ^ 16),
      .toneMapRefreshDue (2 ^ 16), .mcNeighbourLost (2 ^ 64), .mcStatus badChan, .mcNeighbourRead rq (2 ^ 8) 0,
      .mcNeighbourRead rq 0 (2 ^ 8), .mcNeighbourRead badChan 0 0, .mcTonemapRefresh rq (2 ^ 16), .mcTonemapRefresh badChan
      0, .helloReceived 7 hello0] : List Instr).all (fun c => !c.wf) = true := by decide +kernel

/-- Commands with one operand one past its field: the check refuses each. -/
theorem test_wf_refused_10 :
    ([.helloReceived 0 { hello0 with depth := 256 }, .linkDown 7 0, .linkDown 0 (2 ^ 64), .linkRetransmitTimeout 7 0,
      .linkRetransmitTimeout 0 (2 ^ 64), .fabricPacketReceived 7 0 0 0 false fabric0, .fabricPacketReceived 0 (2 ^ 64) 0 0
      false fabric0, .fabricPacketReceived 0 0 (2 ^ 16) 0 false fabric0, .fabricPacketReceived 0 0 0 65 false fabric0,
      .fabricPacketReceived 0 0 0 0 false { fabric0 with fragNo := 5 }, .fragmentReassemblyTimeout (2 ^ 16) 0,
      .fragmentReassemblyTimeout 0 (2 ^ 16), .ethernetFrame 3 0 0, .ethernetFrame 0 (2 ^ 48) 0, .ethernetFrame 0 0 (2 ^ 48),
      .tokenLendable (2 ^ 16), .tokenRequest { tokens0 with count := 65 }, .tokenGrant { tokens0 with count := 65 },
      .tokenAccept { tokens0 with count := 65 }, .tokenCommit { tokens0 with count := 65 }, .tokenAbort
      { tokens0 with count := 65 }, .tokenRenew { tokens0 with count := 65 }, .tokenRenewed { tokens0 with count := 65 },
      .tokenReturn { tokens0 with count := 65 }, .tokenRecall { tokens0 with count := 65 }, .tokenAcceptTimeout (2 ^ 32) 0,
      .tokenAcceptTimeout 0 (2 ^ 16), .tokenCommitWait (2 ^ 32) 0, .tokenCommitWait 0 (2 ^ 16), .leaseHalf (2 ^ 32) 0,
      .leaseHalf 0 (2 ^ 16), .leaseRelease (2 ^ 32) 0, .leaseRelease 0 (2 ^ 16), .leaseExpiry (2 ^ 32) 0, .leaseExpiry 0 (2
      ^ 16), .recallReturnTimer (2 ^ 32) 0] : List Instr).all (fun c => !c.wf) = true := by decide +kernel

/-- Commands with one operand one past its field: the check refuses each. -/
theorem test_wf_refused_11 :
    ([.recallReturnTimer 0 (2 ^ 16), .reissueClockExpiry (2 ^ 32) 0, .reissueClockExpiry 0 (2 ^ 16), .linStatus badChan,
      .linTokenStatus badChan, .linForward rq (2 ^ 16) [], .linForward badChan 0 [], .peerClaimFrame false (2 ^ 32) false
      false, .hingeHeartbeat (2 ^ 64) 0 0 false false, .hingeHeartbeat 0 3 0 false false, .hingeHeartbeat 0 0 (2 ^ 32) false
      false, .hingeEpochMessage badHinge, .hingeResync [] none (2 ^ 32), .hingeResync [badHinge] none 0, .hingeProofTest
      false false (2 ^ 31) false false false false, .hingeProofTest false false (-(2 ^ 31) - 1) false false false false,
      .hngStatus badChan, .hngSwitch badChan, .hngForce badChan false, .hngProofRun badChan, .updStatus badChan,
      .updStageBegin badChan [], .updStageWrite rq (2 ^ 32) 0 [], .updStageWrite rq 0 (2 ^ 16) [], .updStageWrite badChan 0
      0 [], .updVerify badChan, .updActivate badChan false, .activationRestart 4, .updConfirm badChan, .chainOffer (2 ^ 16)
      0, .chainOffer 0 (2 ^ 32), .chainRequest (2 ^ 16) 0 0 0, .chainRequest 0 (2 ^ 32) 0 0, .chainRequest 0 0 (2 ^ 32) 0,
      .chainRequest 0 0 0 (2 ^ 16), .chainChunk (2 ^ 16) 0 0 []] : List Instr).all (fun c => !c.wf) = true := by
      decide +kernel

/-- Commands with one operand one past its field: the check refuses each. -/
theorem test_wf_refused_12 :
    ([.chainChunk 0 (2 ^ 32) 0 [], .chainChunk 0 0 (2 ^ 32) [], .chainHave (2 ^ 16) 0, .chainHave 0 (2 ^ 32),
      .adcConversionComplete 24 false 0 false false, .adcConversionComplete 0 false 4096 false false, .urgentAdcRequest 3 0
      false, .urgentAdcRequest 0 25 false, .adcTrigEdge false 25 false, .rtcDiscipline (2 ^ 31), .rtcDiscipline (-(2 ^ 31) -
      1), .watchRule 4, .auxRead rq (2 ^ 32), .auxRead badChan 0, .auxConvert rq (2 ^ 8) 0, .auxConvert rq 0 (2 ^ 8),
      .auxConvert badChan 0 0, .auxTrigRead rq (2 ^ 8), .auxTrigRead badChan 0, .nlStatus badChan, .nlWakeAck badChan,
      .diagTokenRefill 18, .diagStatus badChan, .diagRead rq (2 ^ 16) 0, .diagRead rq 0 (2 ^ 8), .diagRead badChan 0 0,
      .diagFreeze rq (2 ^ 8), .diagFreeze badChan 0, .diagClear badChan, .rs485ByteReceived (2 ^ 8) false false,
      .sysRs485Send rq (2 ^ 16) [], .sysRs485Send badChan 0 [], .addressTableAgeing (2 ^ 48), .hingeEpochAck (2 ^ 64)] :
      List Instr).all (fun c => !c.wf) = true := by decide +kernel

/-! Worked examples of the manual. -/

/-- R187: 0x0003 is newer than 0xFFFE, and 0x8003 is older than 0x0003. -/
theorem test_serial_newer : serialNewer 16 0x0003 0xFFFE = true ∧ serialNewer 16 0x8003 0x0003 = false := by decide +kernel

/-- R42 and the feeder example of chapter 20: 32 A is a duty of 53.3 %, 17 A of 28.3 %. -/
theorem test_duty : dutyOf 32000 = 533 ∧ dutyOf 17000 = 283 := by decide +kernel

/-- Chapter 11, the host's first exchange: SYS_MODE_GET with SEQ 1 is 0x01300010, 0x00010000 and the CRC word. -/
theorem test_request_words : packet0.take 2 = [0x01300010, 0x00010000] ∧ packet0.length = 3 := by decide +kernel

/-- The host takes that request: SYS_MODE_GET answers at once, and the ACK entry is 0x80000001. -/
theorem test_packet_taken :
    (match exec (.hatchPacketTake 0) (withChan 0 { inbox := [packet0] } running) with
      | .next t => (chanOf t 0).acks
      | _ => []) = [0x80000001] := by decide +kernel

/-- The descriptor of chapter 12's worked example. -/
def capture0 : List Nat :=
  [0xC2C00005, 0x10000000, 0x4000F000, 0x00030028, 3, 96, 4, 4, 480, 3840, 160, 0]

/-- Chapter 12's worked example: 360 words; the source ends at offset 11 436 and the destination at 1 440; the last element
goes to 0x4000F59C; SWAP 3 turns 1A 2F 02 00 into 00 02 2F 1A. -/
theorem test_capture_descriptor :
    dTotal capture0 = 360 ∧ dExtremes capture0 false = (0x10000000, 0x10000000 + 11435) ∧
    dExtremes capture0 true = (0x4000F000, 0x4000F000 + 1439) ∧ dAddr capture0 true 359 = 0x4000F59C ∧
    dFieldsOk capture0 = true ∧ dRegionsOk true capture0 = true ∧ dSwap capture0 = 3 ∧
    dSwapBytes 3 [0x1A, 0x2F, 0x02, 0x00] = [0x00, 0x02, 0x2F, 0x1A] := by decide +kernel

/-- R535's example: a bucket emptied at 0 s holds one token again at 15 s, none before. -/
theorem test_bucket_refill :
    (refill (advanceTo (Tick.s 15) State.reset) { tokens := 0, since := some 0 }).tokens = 1 ∧
    (refill (advanceTo (Tick.s 14) State.reset) { tokens := 0, since := some 0 }).tokens = 0 := by decide +kernel

/-- R254: of two reads of a free semaphore the first obtains ACQUIRED, the second HELD with the first reader as owner. -/
theorem test_semaphore_two_reads :
    (match exec (.semaphoreRead 0 3) running with
      | .next t => (match exec (.semaphoreRead 0 0x10) t with
        | .next u => (t.kiln.semRead, u.kiln.semRead)
        | _ => (0, 0))
      | _ => (0, 0)) = (2 ^ 30 + 3 * 65536, 2 * 2 ^ 30 + 3 * 65536) := by decide +kernel

/-- Chapter 11, the host's first exchange: command 0x32 at address 0x000100 puts the three words of SYS_MODE_GET into queue
  0;
the same bytes under a command that R269 does not list are ignored. -/
theorem test_spi_write :
    let wire (c : Byte) : List Byte := [c, 0, 1, 0] ++ packet0.flatMap (le 4)
    (match exec (.hspiCsFalling (wire 0x32) 56) running, exec (.hspiCsFalling (wire 0x33) 56) running with
      | .next t, .next u => ((chanOf t 0).inbox, (chanOf u 0).inbox)
      | _, _ => ([], [])) = ([packet0], []) := by decide +kernel

/-- R269, R271: a byte written to the bulk window by 0x02 is read back by 0x6B, which takes 8 dummy clocks and 2 for the
  byte. -/
theorem test_spi_read :
    (match exec (.hspiCsFalling ([0x02, 1, 0, 5] ++ [0xA7]) 40) running with
      | .next t => (match exec (.hspiCsFalling [0x6B, 1, 0, 5] 10) t with
        | .next u => u.hatch.spiOut
        | _ => [])
      | _ => []) = [0xA7] := by decide +kernel

/-- R469: with no credit in the channel a packet waits, and PRIO 0 leaves first once one returns. -/
theorem test_credit_and_priority :
    let late : FabricPacket := { fabric0 with prio := 2 }
    let full : List (Nat × FabricPacket) := (List.range 8).map fun k => (k, fabric0)
    nextHeld { node0 with held := [late, fabric0], unacked := full } = none ∧
    nextHeld { node0 with held := [late, fabric0], unacked := full.drop 1 } = some fabric0 := by decide +kernel


/-! Witnesses: for each clause of an obligation, a state and operands that meet all its hypotheses together. -/

theorem witness_CommitCycleCompletes :
    (∃ (s : State), s.dom.d2 = true) ∧
    (∃ (s : State) (c : _), s.led.captured.find? (·.epoch == s.met.epoch) = some c ∧ s.dom.d2 = true ∧ s.led.writing = none
      ∧ s.met.samples.length = 320) ∧
    (∃ (s : State) (j : _) (c : _), s.led.writing = some (j, c) ∧ ((s.hold.stage = .finalCommit → sampleNow s ≤
      s.hold.tdSample))) ∧
    (∃ (s : State) (j : _) (c : _), s.led.writing = some (j, c) ∧ s.hold.stage = .finalCommit ∧ s.hold.tdSample < sampleNow
      s) :=
  ⟨⟨{ running with dom.d2 := true }, by decide +kernel⟩,
    ⟨{ running with led.captured := [cap0], met.samples := List.replicate 320 sample0 }, cap0, by decide +kernel⟩,
    ⟨{ running with led.writing := some (entry0, cap0) }, entry0, cap0, by decide +kernel⟩,
    ⟨{ running with led.writing := some (entry0, cap0), hold.stage := .finalCommit, met.epoch := 5 }, entry0, cap0, by
      decide +kernel⟩⟩

theorem witness_PowerUpCompletes :
    (∃ (s : State), s.pwr.mains = false ∧ s.pwr.rails = false) ∧
    (∃ (s : State) (cause : _), s.pwr.mains = true ∧ s.pwr.rails = false ∧ cause = (if s.pwr.vbat = true ∧ s.pwr.vbatThrough
      = true then 0 else 1)) ∧
    (∃ (s : State), s.dom.d4 = true ∧ s.dom.d1 = false) ∧
    (∃ (s : State), s.pwr.charging = true ∧ s.pwr.drawStart = none ∧ s.hold.measured = false) ∧
    (∃ (s : State) (at0 : _), s.pwr.drawStart = some at0) ∧
    (∃ (s : State), s.pwr.charging = true ∧ s.pwr.drawStart = none ∧ s.hold.measured = false) ∧
    (∃ (s : State), s.dom.d4 = true ∧ s.dom.d1 = true ∧ s.dom.d2 = false) ∧
    (∃ (s : State), s.dom.d4 = true ∧ s.dom.d3 = false ∧ ((s.dom.d2 = true ∨ s.dom.kilnDue = false))) ∧
    (∃ (s : State), s.dom.d3 = true ∧ s.dom.ready = false) ∧
    (∃ (s : State), s.dom.d3 = true ∧ s.dom.d2 = true ∧ s.mode.mode = .none ∧ s.sag.lifecycle ≠ .blank) ∧
    (∃ (s : State), s.mode.interim = true ∧ s.mode.mode = .commission ∧ s.hold.measured = true ∧ s.hold.cMeasEpoch <
      s.clk.epoch ∧ s.hold.refuseService = false ∧ s.mode.request = none) :=
  ⟨⟨{ running with pwr.mains := false, pwr.rails := false }, by decide +kernel⟩,
    ⟨{ running with pwr.mains := true, pwr.rails := false }, _, by decide +kernel, by decide +kernel, rfl⟩,
    ⟨{ running with dom.d4 := true, dom.d1 := false }, by decide +kernel⟩,
    ⟨{ running with pwr.charging := true, pwr.drawStart := none, hold.measured := false }, by decide +kernel⟩,
    ⟨{ running with pwr.drawStart := some 5 }, 5, by decide +kernel⟩,
    ⟨{ running with pwr.charging := true, pwr.drawStart := none, hold.measured := false }, by decide +kernel⟩,
    ⟨{ running with dom.d4 := true, dom.d1 := true, dom.d2 := false }, by decide +kernel⟩,
    ⟨{ running with dom.d4 := true, dom.d3 := false }, by decide +kernel⟩,
    ⟨{ running with dom.d3 := true, dom.ready := false }, by decide +kernel⟩,
    ⟨{ running with dom.d3 := true, dom.d2 := true, mode.mode := .none }, by decide +kernel⟩,
    ⟨{ running with
        mode.interim := true, mode.mode := .commission, hold.measured := true, hold.refuseService := false,
        mode.request := none }, by decide +kernel⟩⟩

theorem witness_ModeCommandsComplete :
    (∃ (s : State) (r : Req) (a : _), Taken 0x0130 r s ∧ a = asOf s) ∧
    (∃ (s : State) (r : Req) (target : _) (m : _), Taken 0x0131 r s ∧ modeOf target = some m ∧ modeRefusal s m = none ∧
      s.mode.mode ≠ .recovery) ∧
    (∃ (s : State) (r : Req) (target : _) (m : _), Taken 0x0131 r s ∧ modeOf target = some m ∧ modeRefusal s m = none ∧
      s.mode.mode = .recovery) ∧
    (∃ (s : State) (m : _) (e : _), s.mode.exitDue = none ∧ s.mode.request = some (m, e) ∧ e ≤ s.clk.epoch ∧ inHoldup s =
      false ∧ ((m = .watch → watchOk s = true))) ∧
    (∃ (s : State) (e : _), s.mode.exitDue = some e ∧ e ≤ s.clk.epoch) ∧
    (∃ (s : State) (r : Req) (scope : _), Taken 0x0132 r s ∧ inHoldup s = false ∧ (scope = 1 ∨ scope = 2 ∧ outputsActive s =
      false)) ∧
    (∃ (s : State) (scope : _) (r : _), s.mode.resetScope = some (scope, r) ∧ replyQueued s 0x0132 r = false ∧ inHoldup s =
      false) ∧
    (∃ (s : State) (r : Req), Taken 0x0133 r s) ∧
    (∃ (s : State), s.mode.mode = .service ∧ watchOk s = true ∧ s.mode.request = none ∧ s.mode.idleSince + Tick.s (param s
      0x0101) ≤ s.clk.epochStart) ∧
    (∃ (s : State) (src : _), s.mode.mode = .watch ∧ bitN (param s 0x0102) src = true ∧ ((src = 6 ∨ bitN s.nl.wakeDue src =
      true))) :=
  ⟨⟨running, rq, _, ⟨by decide +kernel, by decide +kernel⟩, rfl⟩,
    ⟨running, rq, 2, .commission, ⟨by decide +kernel, by decide +kernel⟩, by decide +kernel⟩,
    ⟨{ running with mode.mode := .recovery }, rq, 2, .commission, ⟨by decide +kernel, by decide +kernel⟩, by
      decide +kernel⟩,
    ⟨{ running with mode.request := some (.commission, 900) }, .commission, 900, by decide +kernel⟩,
    ⟨{ running with mode.exitDue := some 5 }, 5, by decide +kernel⟩,
    ⟨running, rq, 1, ⟨by decide +kernel, by decide +kernel⟩, by decide +kernel⟩,
    ⟨{ running with mode.resetScope := some (1, rq) }, 1, rq, by decide +kernel⟩,
    ⟨running, rq, ⟨by decide +kernel, by decide +kernel⟩⟩,
    ⟨{ running with shu.cpState := 1, clk.epochStart := 10 ^ 15 }, by decide +kernel⟩,
    ⟨{ running with mode.mode := .watch, nl.wakeDue := 4 }, 2, by decide +kernel⟩⟩

theorem witness_HoldupCompletes :
    (∃ (s : State), s.pwr.rails = true ∧ inHoldup s = false ∧ s.dom.d2 = true ∧ s.sag.lifecycle ≠ .blank) ∧
    (∃ (s : State), inHoldup s = true ∧ s.hold.stage = .waitAbsent ∧ s.dom.d2 = true) ∧
    (∃ (s : State), inHoldup s = true ∧ s.hold.stage = .signedReading ∧ serving s = true ∧ s.hold.d3Lost = false) ∧
    (∃ (s : State), inHoldup s = true ∧ s.hold.stage = .display) ∧
    (∃ (s : State), inHoldup s = true ∧ s.hold.stage = .ended ∧ s.disp.drive = none ∧ s.pwr.mains = true ∧ s.pwr.rails =
      true) :=
  ⟨⟨{ running with pwr.rails := true, dom.d2 := true }, by decide +kernel⟩,
    ⟨{ running with mode.mode := .holdup, hold.stage := .waitAbsent, dom.d2 := true }, by decide +kernel⟩,
    ⟨{ running with mode.mode := .holdup, hold.stage := .signedReading, hold.d3Lost := false }, by decide +kernel⟩,
    ⟨{ running with mode.mode := .holdup, hold.stage := .display }, by decide +kernel⟩,
    ⟨{ running with
        mode.mode := .holdup, hold.stage := .ended, disp.drive := none, pwr.mains := true,
        pwr.rails := true }, by decide +kernel⟩⟩

theorem witness_ResetsComplete :
    (∃ (s : State) (us : _), s.dom.d4 = true ∧ 10 ≤ us) ∧
    (∃ (s : State), s.dom.d3 = true) ∧
    (∃ (s : State), s.dom.d3 = true) ∧
    (∃ (s : State), s.dom.d2 = true) ∧
    (∃ (s : State), s.dom.d4 = true ∧ inFactory s = true) ∧
    (∃ (s : State) (at0 : _), s.recl.deadline = some at0 ∧ s.dom.d1 = true) ∧
    (∃ (s : State), s.dom.d1 = true ∧ mayTake isReclaim s = true) ∧
    (∃ (s : State), s.pwr.rails = true) :=
  ⟨⟨running, 10, by decide +kernel⟩,
    ⟨{ running with dom.d3 := true }, by decide +kernel⟩,
    ⟨{ running with dom.d3 := true }, by decide +kernel⟩,
    ⟨{ running with dom.d2 := true }, by decide +kernel⟩,
    ⟨{ running with dom.d4 := true, sag.lifecycle := .factory }, by decide +kernel⟩,
    ⟨{ running with recl.deadline := some 5, dom.d1 := true }, 5, by decide +kernel⟩,
    ⟨{ running with dom.d1 := true }, by decide +kernel⟩,
    ⟨{ running with pwr.rails := true }, by decide +kernel⟩⟩

theorem witness_InputEventsComplete :
    (∃ (s : State), s.dom.d2 = true) ∧
    (∃ (s : State), s.dom.d2 = true) ∧
    (∃ (s : State), s.dom.d2 = true) ∧
    (∃ (s : State) (at0 : _), s.inp.stopBy = some at0) ∧
    (∃ (s : State) (cause : _) (slot : _) (f : _) (at0 : _) (codes : _), s.inp.faults.find? (faultIs cause slot) = some f ∧
      s.dom.d2 = true ∧ f.absentSince = some at0 ∧ ((cause = 3 ∨ cause = 7 → bitN (refPassed startCodes codes) slot =
      true))) ∧
    (∃ (s : State), s.dom.d2 = true ∧ s.inp.peZ < param s 0x0609 ∧ s.inp.peNpe < 10 * param s 0x060A) ∧
    (∃ (s : State), s.dom.d2 = true ∧ (¬ (s.inp.peZ < param s 0x0609 ∧ s.inp.peNpe < 10 * param s 0x060A))) ∧
    (∃ (s : State) (at0 : _), s.dom.d2 = true ∧ s.inp.magSince = none ∧ s.inp.magHigh = some at0) ∧
    (∃ (s : State) (since : _) (at0 : _), s.inp.magSince = some since ∧ s.inp.magLow = some at0 ∧ s.dom.d2 = true) ∧
    (∃ (s : State) (k : _) (o : _), s.inp.overRange.find? (·.slot == k) = some o ∧ 100 ≤ o.quiet) ∧
    (∃ (s : State) (c : Nat), (s.inp.gainMismatch[c]?) = some false ∧ (s.inp.gmBad[c]?) = some 100) ∧
    (∃ (s : State) (c : Nat), (s.inp.gainMismatch[c]?) = some true ∧ (s.inp.gmGood[c]?) = some 100) ∧
    (∃ (s : State), s.dom.d2 = true ∧ 100 ≤ s.led.notDurable ∧ s.inp.faults.any (faultIs 9 255) = false) :=
  ⟨⟨{ running with dom.d2 := true }, by decide +kernel⟩,
    ⟨{ running with dom.d2 := true }, by decide +kernel⟩,
    ⟨{ running with dom.d2 := true }, by decide +kernel⟩,
    ⟨{ running with inp.stopBy := some 5 }, 5, by decide +kernel⟩,
    ⟨{ running with inp.faults := [fault0] }, 1, 0, fault0, 5, [], by decide +kernel⟩,
    ⟨{ running with inp.peZ := 0, inp.peNpe := 0 }, by decide +kernel⟩,
    ⟨{ running with inp.peZ := 200 }, by decide +kernel⟩,
    ⟨{ running with inp.magHigh := some 5 }, 5, by decide +kernel⟩,
    ⟨{ running with inp.magSince := some 5, inp.magLow := some 5 }, 5, 5, by decide +kernel⟩,
    ⟨{ running with inp.overRange := [over0] }, 0, over0, by decide +kernel⟩,
    ⟨{ running with inp.gainMismatch := [false], inp.gmBad := [100] }, 0, by decide +kernel⟩,
    ⟨{ running with inp.gainMismatch := [true], inp.gmGood := [100] }, 0, by decide +kernel⟩,
    ⟨{ running with led.notDurable := 100 }, by decide +kernel⟩⟩

theorem witness_InputCommandsComplete :
    (∃ (s : State) (r : Req) (v : _), Taken 0x0240 r s ∧ v = asOf s) ∧
    (∃ (s : State) (r : Req) (mask : _), Taken 0x0241 r s ∧ setupMode s = true ∧ 0 < mask ∧ mask < 0x400 ∧ s.inp.selfTest =
      none ∧ kmOpen s = true ∧ belowStart s = true) ∧
    (∃ (s : State) (test : _), s.inp.selfTest = some test ∧ s.dom.d2 = true) ∧
    (∃ (s : State) (r : Req) (v : _), Taken 0x0260 r s ∧ v = asOf s) ∧
    (∃ (s : State) (r : Req), Taken 0x0261 r s ∧ s.mode.mode = .factory ∧ kmOpen s = true ∧ s.sie.halted = false) ∧
    (∃ (s : State) (r : Req), Taken 0x0261 r s ∧ s.mode.mode = .factory ∧ s.sie.halted = true) ∧
    (∃ (s : State) (r : Req) (data : List Byte), Taken 0x0262 r s ∧ s.mode.mode = .factory ∧ s.sie.halted = true ∧
      data.length = 2728) :=
  ⟨⟨running, rq, _, ⟨by decide +kernel, by decide +kernel⟩, rfl⟩,
    ⟨{ running with mode.mode := .commission }, rq, 1, ⟨by decide +kernel, by decide +kernel⟩, by decide +kernel⟩,
    ⟨{ running with inp.selfTest := some ⟨1, 5, 5, 10, none⟩ }, ⟨1, 5, 5, 10, none⟩, by decide +kernel⟩,
    ⟨running, rq, _, ⟨by decide +kernel, by decide +kernel⟩, rfl⟩,
    ⟨{ running with mode.mode := .factory, sie.halted := false }, rq, ⟨by decide +kernel, by decide +kernel⟩, by
      decide +kernel⟩,
    ⟨{ running with mode.mode := .factory, sie.halted := true }, rq, ⟨by decide +kernel, by decide +kernel⟩, by
      decide +kernel⟩,
    ⟨{ running with mode.mode := .factory, sie.halted := true }, rq, List.replicate 2728 0, ⟨by decide +kernel, by
      decide +kernel⟩, by decide +kernel⟩⟩

theorem witness_SampleCommandsComplete :
    (∃ (s : State), s.dom.d2 = true ∧ s.sie.halted = false) ∧
    (∃ (s : State), accumulates s = true ∧ s.met.samples.length < 320 ∧ 2 ≤ s.sie.rows.length ∧ haltedAt s s.met.epoch =
      false ∧ ((s.hold.stage = .finalCommit → sampleNow s < s.hold.tdSample))) ∧
    (∃ (s : State), s.dom.d2 = true ∧ s.hold.stage = .finalCommit ∧ s.met.samples.length < 320 ∧ 2 ≤ s.sie.rows.length ∧
      sampleNow s = s.hold.tdSample ∧ s.led.writing = none) ∧
    (∃ (s : State) (e : _), s.sie.haltAt = some e ∧ e ≤ s.met.epoch) ∧
    (∃ (s : State) (e : _), s.sie.resumeAt = some e ∧ s.sie.halted = true ∧ e ≤ s.clk.epoch) ∧
    (∃ (s : State) (k : _) (o : _), s.sie.satOpen.find? (·.1 == k) = some o ∧ o.2.2 + 100 < s.met.epoch) :=
  ⟨⟨{ running with dom.d2 := true, sie.halted := false }, by decide +kernel⟩,
    ⟨{ running with sie.rows := [row0, row0] }, by decide +kernel⟩,
    ⟨{ running with sie.rows := [row0, row0], hold.stage := .finalCommit }, by decide +kernel⟩,
    ⟨{ running with sie.haltAt := some 0 }, 0, by decide +kernel⟩,
    ⟨{ running with sie.resumeAt := some 0, sie.halted := true }, 0, by decide +kernel⟩,
    ⟨{ running with sie.satOpen := [(0, 1, 100)], met.epoch := 1000 }, 0, (0, 1, 100), by decide +kernel⟩⟩

theorem witness_EnergyCommandsComplete :
    (∃ (s : State) (r : Req), Taken 0x0200 r s) ∧
    (∃ (s : State) (r : Req), Taken 0x0202 r s) ∧
    (∃ (s : State) (r : Req) (e : _) (x : _), Taken 0x0203 r s ∧ s.met.ring.find? (fun x => x.epoch == e && decide
      (s.met.epoch ≤ e + 512)) = some x) ∧
    (∃ (s : State) (c : _), changeOf s 0 = some c ∧ s.dom.d3 = true) ∧
    (∃ (s : State) (x : _) (c : _), changeOf s (x + 1) = some c ∧ s.dom.d3 = true) ∧
    (∃ (s : State) (q : _) (c : _) (rest : _), (cfOut q s).edges = c :: rest ∧ cfRuns s = true) ∧
    (∃ (s : State) (q : _) (c : _), (cfOut q s).high = some c ∧ s.dom.d2 = true) :=
  ⟨⟨running, rq, ⟨by decide +kernel, by decide +kernel⟩⟩,
    ⟨running, rq, ⟨by decide +kernel, by decide +kernel⟩⟩,
    ⟨{ running with met.ring := [sums0] }, rq, 5, sums0, ⟨by decide +kernel, by decide +kernel⟩, by decide +kernel⟩,
    ⟨{ running with met.changes := [⟨0, true, 5⟩] }, ⟨0, true, 5⟩, by decide +kernel⟩,
    ⟨{ running with met.changes := [⟨1, true, 5⟩] }, 0, ⟨1, true, 5⟩, by decide +kernel⟩,
    ⟨{ running with cal.cfP.edges := [7] }, false, 7, [], by decide +kernel⟩,
    ⟨{ running with cal.cfP.high := some 7 }, false, 7, by decide +kernel⟩⟩

theorem witness_CalibrationCommandsComplete :
    (∃ (s : State) (r : Req) (mask : _) (n : _), Taken 0x0280 r s ∧ setupMode s = true ∧ mask ≠ 0 ∧ mask < 2 ^ 14 ∧ n ≠ 0 ∧
      n ≤ 6000 ∧ s.cal.span = none) ∧
    (∃ (s : State) (sp : _), s.cal.span = some sp ∧ s.dom.d2 = true ∧ sp.nEpochs ≤ sp.done) ∧
    (∃ (s : State) (r : Req) (at0 : _), Taken 0x0281 r s ∧ sealSet s = false ∧ inHoldup s = false ∧ s.cal.lastSpanTemp =
      some at0) ∧
    (∃ (s : State) (r : Req) (data : _), Taken 0x0282 r s ∧ sealSet s = false ∧ inHoldup s = false ∧ data.length = 12 + 36 *
      fieldAt data 2 1 ∧ crc32c (data.take (8 + 36 * fieldAt data 2 1)) = fieldAt data (8 + 36 * fieldAt data 2 1) 4 ∧
      tableOk data = true) ∧
    (∃ (s : State) (r : Req) (v : _), Taken 0x0283 r s ∧ v = (asOf s).cal) ∧
    (∃ (s : State) (r : Req), Taken 0x0284 r s) :=
  ⟨⟨{ running with mode.mode := .commission }, rq, 1, 1, ⟨by decide +kernel, by decide +kernel⟩, by decide +kernel⟩,
    ⟨{ running with cal.span := some span0 }, span0, by decide +kernel⟩,
    ⟨{ running with sag.lifecycle := .factory, mode.mode := .factory, cal.lastSpanTemp := some 0 }, rq, 0, ⟨by
      decide +kernel, by decide +kernel⟩, by decide +kernel⟩,
    ⟨{ running with sag.lifecycle := .factory, mode.mode := .factory }, rq, table0, ⟨by decide +kernel, by decide +kernel⟩,
      by decide +kernel⟩,
    ⟨running, rq, _, ⟨by decide +kernel, by decide +kernel⟩, rfl⟩,
    ⟨running, rq, ⟨by decide +kernel, by decide +kernel⟩⟩⟩

theorem witness_QualityCommandsComplete :
    (∃ (s : State) (b : _) (rest : _), s.pq.segDone = b :: rest ∧ s.dom.d2 = true ∧ s.pq.prevSeg = none) ∧
    (∃ (s : State) (a : _) (b : _) (rest : _), s.pq.segDone = b :: rest ∧ s.dom.d2 = true ∧ s.pq.prevSeg = some a ∧
      s.pq.armed = false) ∧
    (∃ (s : State) (at0 : _), s.pq.closedSince = some at0 ∧ s.dom.d2 = true ∧ s.pq.armed = false ∧ s.shu.kfb1 = true ∧
      s.shu.kfb2 = true) ∧
    (∃ (s : State) (r : Req) (last : _) (w : _), Taken 0x02C0 r s ∧ namedWindow s last = some w) ∧
    (∃ (s : State) (r : Req) (last : _) (channel : _) (w : _) (c : _), Taken 0x02C1 r s ∧ channel < 8 ∧ namedWindow s last =
      some w ∧ w.chans[channel]? = some c) ∧
    (∃ (s : State) (r : Req) (last : _) (channel : _) (b : _), Taken 0x02C2 r s ∧ channel < 8 ∧ shPublished s channel = some
      b ∧ (last = 0 ∨ last = b.lastEpoch)) ∧
    (∃ (s : State) (r : Req) (count : _), Taken 0x02C3 r s ∧ count ≠ 0 ∧ count ≤ 64) :=
  ⟨⟨{ running with pq.segDone := [seg0] }, seg0, [], by decide +kernel⟩,
    ⟨{ running with pq.segDone := [seg0], pq.prevSeg := some seg0 }, seg0, seg0, [], by decide +kernel⟩,
    ⟨{ running with pq.closedSince := some 5, shu.kfb1 := true, shu.kfb2 := true }, 5, by decide +kernel⟩,
    ⟨{ running with pq.windows := [window0], snap.groups.through5 := 5 }, rq, 0, window0, ⟨by decide +kernel, by
      decide +kernel⟩, by decide +kernel⟩,
    ⟨{ running with pq.windows := [window0], snap.groups.through5 := 5 }, rq, 0, 0, window0, chan0, ⟨by decide +kernel, by
      decide +kernel⟩, by decide +kernel⟩,
    ⟨{ running with pq.sh := [[sh0]], snap.groups.through5 := 5 }, rq, 0, 0, sh0, ⟨by decide +kernel, by decide +kernel⟩, by
      decide +kernel⟩,
    ⟨running, rq, 1, ⟨by decide +kernel, by decide +kernel⟩, by decide +kernel⟩⟩

theorem witness_LedgerCommandsComplete :
    (∃ (s : State) (r : Req) (mask : _), Taken 0x0201 r s ∧ mask ≠ 0 ∧ mask < 2 ^ 36) ∧
    (∃ (s : State) (r : Req) (mask : _), Taken 0x0201 r s ∧ admits s .network r.sender = true ∧ mask ≠ 0 ∧ mask < 2 ^ 36 ∧
      isStandby s = false ∧ s.mode.mode ≠ .recovery ∧ s.led.rstInEpoch < 8 ∧ s.led.delayed = [] ∧ (deltas s mask).all (· ==
      0) = false) ∧
    (∃ (s : State) (r : Req) (mask : _), Taken 0x0201 r s ∧ admits s .network r.sender = true ∧ mask ≠ 0 ∧ mask < 2 ^ 36 ∧
      isStandby s = false ∧ s.mode.mode ≠ .recovery ∧ (8 ≤ s.led.rstInEpoch ∨ s.led.delayed ≠ [])) ∧
    (∃ (s : State) (q : _) (rest : _), s.led.delayed = q :: rest ∧ s.led.rstInEpoch < 8 ∧ (deltas s q.mask).all (· == 0) =
      false) ∧
    (∃ (s : State) (r : Req), Taken 0x0300 r s) ∧
    (∃ (s : State) (r : Req) (series : _) (start : _) (n : _) (q : _) (a : _) (b : _), Taken 0x0301 r s ∧ series ≠ 0 ∧
      series < 6 ∧ seriesOf s series = some q ∧ ((q.recs.filter fun x => decide (start ≤ x.1)).take (min n (4048 / Nat.max 1
      q.size))).head? = some a ∧ ((q.recs.filter fun x => decide (start ≤ x.1)).take (min n (4048 / Nat.max 1
      q.size))).getLast? = some b) ∧
    (∃ (s : State) (r : Req) (mask : _) (n : _), Taken 0x0302 r s ∧ mask ≠ 0 ∧ mask < 1024 ∧ n ≠ 0 ∧ n ≤ 40) ∧
    (∃ (s : State) (q : _) (rest : _), s.led.captureWait = q :: rest ∧ s.dom.d3 = true ∧ semOwner s 0 = none) ∧
    (∃ (s : State) (r : Req), Taken 0x0303 r s ∧ inHoldup s = false ∧ s.mode.mode ≠ .recovery ∧ isStandby s = false ∧
      canSign s = true ∧ (unsigned s).length < 64) ∧
    (∃ (s : State) (p : _) (rest : _), unsigned s = p :: rest ∧ inHoldup s = false ∧ s.dom.d3 = true ∧ canSign s = true) ∧
    (∃ (s : State) (p : _), inHoldup s = true ∧ (unsigned s).find? (·.kind == 3) = some p ∧ s.dom.d3 = true ∧ canSign s =
      true) ∧
    (∃ (s : State), s.dom.d3 = true ∧ param s 0x0302 ≠ 0 ∧ s.snap.published = true ∧ bitN s.snap.flags 7 = false ∧ isStandby
      s = false ∧ s.mode.mode ≠ .recovery ∧ s.led.lastPeriodic = none) ∧
    (∃ (s : State) (r : Req), Taken 0x0304 r s) :=
  ⟨⟨running, rq, 1, ⟨by decide +kernel, by decide +kernel⟩, by decide +kernel⟩,
    ⟨{ running with snap.fine := List.replicate 36 (2 ^ 65) }, rq, 1, ⟨by decide +kernel, by decide +kernel⟩, by
      decide +kernel⟩,
    ⟨{ running with led.rstInEpoch := 8 }, rq, 1, ⟨by decide +kernel, by decide +kernel⟩, by decide +kernel⟩,
    ⟨{ running with snap.fine := List.replicate 36 (2 ^ 65), led.delayed := [⟨rq, 1⟩] }, ⟨rq, 1⟩, [], by decide +kernel⟩,
    ⟨running, rq, ⟨by decide +kernel, by decide +kernel⟩⟩,
    ⟨{ running with led.events := [event0] }, rq, 4, 0, 1, _, _, _, ⟨by decide +kernel, by decide +kernel⟩, by
      decide +kernel, by decide +kernel, rfl, rfl, rfl⟩,
    ⟨running, rq, 1, 1, ⟨by decide +kernel, by decide +kernel⟩, by decide +kernel⟩,
    ⟨{ running with led.captureWait := [(none, 1, 1)] }, (none, 1, 1), [], by decide +kernel⟩,
    ⟨{ running with sag.slots := [slot0] }, rq, ⟨by decide +kernel, by decide +kernel⟩, by decide +kernel⟩,
    ⟨{ running with sag.slots := [slot0], led.readings := [reading0] }, reading0, [], by decide +kernel⟩,
    ⟨{ running with
        mode.mode := .holdup, sag.slots := [slot0], led.readings := [{ reading0 with kind := 3 }] },
      { reading0 with kind := 3 }, by decide +kernel⟩,
    ⟨{ running with snap.flags := 0 }, by decide +kernel⟩,
    ⟨running, rq, ⟨by decide +kernel, by decide +kernel⟩⟩⟩

theorem witness_CivilTimeCommandsComplete :
    (∃ (s : State) (r : Req) (how : _), Taken 0x0400 r s ∧ bitN (param s 0x0422) r.sender.code = true ∧ how ≤ 1 ∧
      billRefusal s = none ∧ s.bil.timeUnset = true) ∧
    (∃ (s : State) (c : _), s.bil.change = some c ∧ c.epoch ≤ s.clk.epoch ∧ c.step = false) ∧
    (∃ (s : State) (c : _), s.bil.change = some c ∧ c.epoch ≤ s.clk.epoch ∧ c.step = true ∧ s.bil.through + 1 ≠ s.clk.epoch)
      ∧
    (∃ (s : State) (c : _), s.bil.change = some c ∧ c.epoch ≤ s.clk.epoch ∧ c.step = true ∧ s.bil.through + 1 = s.clk.epoch)
      ∧
    (∃ (s : State), s.bil.slewLeft.natAbs ≤ 2048) ∧
    (∃ (s : State) (r : Req), Taken 0x0401 r s) ∧
    (∃ (s : State) (r : Req) (o : _), Taken 0x0402 r s ∧ billRefusal s = none ∧ o.length = 12 + 16 * (tzOf o).entries.length
      ∧ crcAt o (8 + 16 * (tzOf o).entries.length) = true ∧ tzOk o (tzOf o) = true) ∧
    (∃ (s : State) (r : Req) (o : _), Taken 0x0403 r s ∧ billRefusal s = none ∧ o.length = (calOffsets o).2.2.2 + 4 ∧ crcAt
      o (calOffsets o).2.2.2 = true ∧ calFits (calOf o) = true) ∧
    (∃ (s : State) (e : _) (at0 : _) (x : _), s.bil.boundary = some (e, at0) ∧ incFor s e = some x ∧ s.dom.d3 = true) :=
  ⟨⟨{ running with bil.timeUnset := true }, rq, 0, ⟨by decide +kernel, by decide +kernel⟩, by decide +kernel⟩,
    ⟨{ running with bil.change := some ⟨5, 0, false⟩ }, ⟨5, 0, false⟩, by decide +kernel⟩,
    ⟨{ running with bil.change := some ⟨5, 0, true⟩ }, ⟨5, 0, true⟩, by decide +kernel⟩,
    ⟨{ running with bil.change := some ⟨5, 0, true⟩, bil.through := 999 }, ⟨5, 0, true⟩, by decide +kernel⟩,
    ⟨running, by decide +kernel⟩,
    ⟨running, rq, ⟨by decide +kernel, by decide +kernel⟩⟩,
    ⟨running, rq, zone0, ⟨by decide +kernel, by decide +kernel⟩, by decide +kernel⟩,
    ⟨running, rq, calendar0, ⟨by decide +kernel, by decide +kernel⟩, by decide +kernel⟩,
    ⟨{ running with bil.boundary := some (5, 0), met.incs := [inc0] }, 5, 0, inc0, by decide +kernel⟩⟩

theorem witness_BillingCommandsComplete :
    (∃ (s : State) (r : Req), Taken 0x0404 r s) ∧
    (∃ (s : State) (r : Req), Taken 0x0405 r s ∧ billRefusal s = none ∧ s.bil.timeUnset = false) ∧
    (∃ (s : State) (c : _) (rest : _), s.bil.closeDue = c :: rest ∧ s.dom.d3 = true ∧ c.2 ≤ s.bil.through + 1 ∧
      s.bil.boundary = none) ∧
    (∃ (s : State) (r : Req) (period : _) (b : _), Taken 0x0406 r s ∧ period ≠ 0 ∧ s.bil.history.find? (·.period == period)
      = some b) ∧
    (∃ (s : State) (r : Req) (b : _), Taken 0x0406 r s ∧ s.bil.history.getLast? = some b) ∧
    (∃ (s : State) (r : Req), Taken 0x0407 r s ∧ creditMode s ≠ 0 ∧ billRefusal s = none) ∧
    (∃ (s : State) (r : Req), Taken 0x0408 r s ∧ creditMode s ≠ 0) ∧
    (∃ (s : State) (r : Req), Taken 0x0409 r s ∧ creditMode s ≠ 0 ∧ billRefusal s = none ∧ s.bil.credit < paramI s 0x040C ∧
      s.bil.emergency = false ∧ 0 < paramI s 0x040D) ∧
    (∃ (s : State) (r : Req), Taken 0x040A r s ∧ billRefusal s = none) ∧
    (∃ (s : State) (r : Req), Taken 0x040A r s ∧ billRefusal s = none ∧ s.bil.causeCommand = true) ∧
    (∃ (s : State) (duration : _), s.dom.d3 = true ∧ 200 < duration ∧ feedbackWrong s = true) :=
  ⟨⟨running, rq, ⟨by decide +kernel, by decide +kernel⟩⟩,
    ⟨{ running with bil.timeUnset := false }, rq, ⟨by decide +kernel, by decide +kernel⟩, by decide +kernel⟩,
    ⟨{ running with bil.closeDue := [(none, 0)] }, (none, 0), [], by decide +kernel⟩,
    ⟨{ running with bil.history := [bill0] }, rq, 1, bill0, ⟨by decide +kernel, by decide +kernel⟩, by decide +kernel⟩,
    ⟨{ running with bil.history := [bill0] }, rq, bill0, ⟨by decide +kernel, by decide +kernel⟩, by decide +kernel⟩,
    ⟨withParam 0x0409 1 running, rq, ⟨by decide +kernel, by decide +kernel⟩, by decide +kernel⟩,
    ⟨withParam 0x0409 1 running, rq, ⟨by decide +kernel, by decide +kernel⟩, by decide +kernel⟩,
    ⟨withParam 0x0409 1 (withParam 0x040D 1 running), rq, ⟨by decide +kernel, by decide +kernel⟩, by decide +kernel⟩,
    ⟨running, rq, ⟨by decide +kernel, by decide +kernel⟩, by decide +kernel⟩,
    ⟨{ running with bil.causeCommand := true }, rq, ⟨by decide +kernel, by decide +kernel⟩, by decide +kernel⟩,
    ⟨{ running with shu.driveA1 := true, shu.driveB1 := true }, 201, by decide +kernel⟩⟩

theorem witness_KilnCommandsComplete :
    (∃ (s : State), s.dom.d3 = true) ∧
    (∃ (s : State), s.dom.d3 = true ∧ s.kiln.speedLow = true ∧ s.kiln.speedGood = 100) ∧
    (∃ (s : State) (cls : _) (e : _) (part : _) (k : _) (c : _), periodicClass cls = true ∧ e < s.clk.epoch ∧ c =
      releaseCell s cls part k ∧ s.dom.d3 = true ∧ (cell s c).healthy = true ∧ cellMasked s c = false ∧ mayWake s c = true ∧
      homeOk s cls part c = true) ∧
    (∃ (s : State) (cls : _) (k : _), periodicClass cls = false ∧ s.dom.d3 = true ∧ (cell s k).healthy = true ∧ cellMasked s
      k = false ∧ mayWake s k = true) ∧
    (∃ (s : State) (k : _) (task : _), firstTask (cell s k).ready = some task ∧ s.dom.d3 = true ∧ (cell s k).healthy = true
      ∧ cellMasked s k = false ∧ mayWake s k = true ∧ canRun s task = true) ∧
    (∃ (s : State) (k : _) (n : _) (v : _) (task : _) (u : _), s.dom.d3 = true ∧ (cell s k).healthy = true ∧ cellMasked s k
      = false ∧ (cell s k).ready = [] ∧ stealsDenied s = false ∧ mayWake s k = true ∧ stealRound s k = (n, some (v, task)) ∧
      u = setCellK v (fun c => { c with ready := c.ready.erase task }) (setCellK k (fun c =>
      { c with tries := (stealTick s, 15 - triesLeft s k + n) }) s)) ∧
    (∃ (s : State) (k : _), stealRound s k = (triesLeft s k, none) ∧ s.dom.d3 = true ∧ (cell s k).healthy = true ∧
      cellMasked s k = false ∧ (cell s k).ready = [] ∧ stealsDenied s = false ∧ mayWake s k = true) ∧
    (∃ (s : State) (cls : _) (e : _), (cls = .m ∨ cls = .l ∨ cls = .v) ∧ e < s.clk.epoch ∧ accepted s cls e = false) ∧
    (∃ (s : State) (e : _), e < s.clk.epoch ∧ accepted s .p e = false) ∧
    (∃ (s : State), s.dom.d3 = true ∧ 3 ≤ s.kiln.missRun ∧ s.kiln.step < param s 0x0109) ∧
    (∃ (s : State), s.dom.d3 = true ∧ s.kiln.missRun < 3 ∧ 100 ≤ s.kiln.cleanRun ∧ 0 < s.kiln.step) ∧
    (∃ (s : State) (k : _), s.dom.d3 = true ∧ (cell s k).healthy = true ∧ (cell s k).ready ≠ [] ∧ cellMasked s k = false) ∧
    (∃ (s : State) (k : _), s.dom.d3 = true ∧ (cell s k).healthy = true) ∧
    (∃ (s : State) (a : _) (b : _), s.dom.d3 = true ∧ s.kiln.xLast + param s 0x0108 ≤ s.clk.epoch ∧ (cell s a).healthy =
      true ∧ nextHealthy s a = some b) ∧
    (∃ (s : State) (r : Req) (a : _), Taken 0x0150 r s ∧ a = asOf s) :=
  ⟨⟨{ running with dom.d3 := true }, by decide +kernel⟩,
    ⟨{ running with dom.d3 := true, kiln.speedLow := true, kiln.speedGood := 100 }, by decide +kernel⟩,
    ⟨running, .m, 5, 0, 0, _, by decide +kernel, by decide +kernel, rfl, by decide +kernel⟩,
    ⟨running, .c, 0, by decide +kernel⟩,
    ⟨withCell 0 { ready := [task0] } running, 0, task0, by decide +kernel⟩,
    ⟨withCell 1 { ready := [task0, task1] } running, 0, 1, 1, task1, _, by decide +kernel, by decide +kernel, by
      decide +kernel, by decide +kernel, by decide +kernel, by decide +kernel, by decide +kernel, rfl⟩,
    ⟨running, 0, by decide +kernel⟩,
    ⟨running, .v, 5, by decide +kernel⟩,
    ⟨running, 5, by decide +kernel⟩,
    ⟨{ running with kiln.missRun := 3 }, by decide +kernel⟩,
    ⟨{ running with kiln.cleanRun := 100, kiln.step := 1 }, by decide +kernel⟩,
    ⟨withCell 0 { ready := [task0] } running, 0, by decide +kernel⟩,
    ⟨running, 0, by decide +kernel⟩,
    ⟨running, 0, 1, by decide +kernel⟩,
    ⟨running, rq, _, ⟨by decide +kernel, by decide +kernel⟩, rfl⟩⟩

theorem witness_SemaphoreWedgeCommandsComplete :
    (∃ (s : State) (n : _) (reader : _), s.dom.d3 = true ∧ semPermitted s n reader = true ∧ semOwner s n = none) ∧
    (∃ (s : State) (n : _) (reader : _) (o : _), s.dom.d3 = true ∧ semPermitted s n reader = true ∧ semOwner s n = some o) ∧
    (∃ (s : State) (n : _) (writer : _) (value : _), s.dom.d3 = true ∧ bitN value 0 = true ∧ semOwner s n = some writer) ∧
    (∃ (s : State) (n : _), s.dom.d3 = true ∧ semOwner s n = some 0x10) ∧
    (∃ (s : State) (n : _) (value : _) (writer : _), wedgeWritable s.mode.mode writer n = true ∧ ((n = 6 → wedgeOffOk s
      (value &&& 0xFFFF) = true))) ∧
    (∃ (s : State) (r : Req), Taken 0x0F40 r s) :=
  ⟨⟨running, 15, 0x10, by decide +kernel⟩,
    ⟨withSem 0 0x10 running, 0, 3, 0x10, by decide +kernel⟩,
    ⟨withSem 0 0x10 running, 0, 0x10, 1, by decide +kernel⟩,
    ⟨withSem 0 0x10 running, 0, by decide +kernel⟩,
    ⟨running, 3, 0, .hostSpi, by decide +kernel⟩,
    ⟨running, rq, ⟨by decide +kernel, by decide +kernel⟩⟩⟩

theorem witness_HatchWordCommandsComplete :
    (∃ (s : State) (c : _), serving s = true ∧ c < 8 ∧ (chanOf s c).skip = 0 ∧ inWords (chanOf s c) < 16) ∧
    (∃ (s : State) (c : _), serving s = true ∧ c < 8 ∧ (chanOf s c).skip = 0 ∧ 16 ≤ inWords (chanOf s c)) ∧
    (∃ (s : State) (c : _) (ws : _) (rest : _), (chanOf s c).inbox = ws :: rest ∧ serving s = true ∧ c < 8 ∧ (chanOf s
      c).acks.length < 8 ∧ formOk c (ofWords ws) = true ∧ crcOk (setChan c (fun ch => { ch with inbox := rest }) s) c
      (ofWords ws) = true ∧ pendingN s .hostSpi c < 8) ∧
    (∃ (s : State) (c : _), serving s = true ∧ c < 8) ∧
    (∃ (s : State) (c : _), serving s = false ∧ c < 8) ∧
    (∃ (s : State), serving s = true) ∧
    (∃ (s : State), serving s = true) ∧
    (∃ (s : State) (c : _), serving s = true ∧ c < 8 ∧ (chanOf s c).outbox = []) ∧
    (∃ (s : State) (c : _) (p : _) (w : _) (ws : _) (rest : _), serving s = true ∧ c < 8 ∧ (chanOf s c).outbox = p :: rest ∧
      p.words = w :: ws ∧ ws ≠ []) ∧
    (∃ (s : State) (c : _) (value : _) (p : _), (chanOf s c).await = some p ∧ serving s = true ∧ bitN value 31 = true ∧
      value % 256 = p.seq ∧ p.reply = false) ∧
    (∃ (s : State) (c : _) (value : _) (p : _), (chanOf s c).await = some p ∧ serving s = true ∧ bitN value 31 = true ∧
      value % 256 = p.seq ∧ p.reply = true) ∧
    (∃ (s : State), serving s = true) ∧
    (∃ (s : State), serving s = true) ∧
    (∃ (s : State), serving s = true) ∧
    (∃ (s : State) (addr : _), serving s = true ∧ 0x10000 ≤ addr ∧ addr < 0x18000) ∧
    (∃ (s : State) (c : _) (n : _), serving s = true ∧ c < 8 ∧ firstNote s.hatch.notes c [0] = some n) ∧
    (∃ (s : State) (c : _) (p : _), serving s = true ∧ c < 8 ∧ firstNote s.hatch.notes c [0] = none ∧ s.hatch.replies.find?
      (·.chan = c) = some p) :=
  ⟨⟨running, 7, by decide +kernel⟩,
    ⟨withChan 7 { part := List.replicate 16 0 } running, 7, by decide +kernel⟩,
    ⟨withChan 0 { inbox := [packet0] } running, 0, packet0, [], by decide +kernel⟩,
    ⟨running, 7, by decide +kernel⟩,
    ⟨{ running with dom.ready := false }, 7, by decide +kernel⟩,
    ⟨running, by decide +kernel⟩,
    ⟨running, by decide +kernel⟩,
    ⟨running, 7, by decide +kernel⟩,
    ⟨withChan 0 { outbox := [out0] } running, 0, out0, 7, [8], [], by decide +kernel⟩,
    ⟨withChan 0 { await := some out0 } running, 0, 2 ^ 31 + 3, out0, by decide +kernel⟩,
    ⟨withChan 0 { await := some { out0 with reply := true } } running, 0, 2 ^ 31 + 3, { out0 with reply := true }, by
      decide +kernel⟩,
    ⟨running, by decide +kernel⟩,
    ⟨running, by decide +kernel⟩,
    ⟨running, by decide +kernel⟩,
    ⟨running, 0x10000, by decide +kernel⟩,
    ⟨{ running with hatch.notes := [note0] }, 0, note0, by decide +kernel⟩,
    ⟨{ running with hatch.replies := [reply0] }, 0, reply0, by decide +kernel⟩⟩

theorem witness_ParameterCommandsComplete :
    (∃ (s : State) (r : Req) (id : _) (p : _), Taken 0x0110 r s ∧ paramRow id = some p ∧ enabled s.ident.variant p.fn = true
      ∧ (paramView s p).written = true) ∧
    (∃ (s : State) (r : Req) (id : _) (p : _), Taken 0x0110 r s ∧ paramRow id = some p ∧ enabled s.ident.variant p.fn = true
      ∧ (paramView s p).written = false) ∧
    (∃ (s : State) (r : Req) (id : _) (p : _) (value : _), Taken 0x0111 r s ∧ paramRow id = some p ∧ enabled s.ident.variant
      p.fn = true ∧ p.readOnly = false ∧ modeAllows s p (p.ty.read value) = true ∧ (p.isSealed && sealSet s) = false ∧
      shuRefusal s id r.sender = none ∧ standbyRefusal s id = none ∧ value.length = p.ty.size ∧ valueOk s p (p.ty.read
      value) = true ∧ setBusy s p (p.ty.read value).toNat = false) ∧
    (∃ (id : Nat), id ≠ 0x0106) ∧
    (∃ (s : State), serving s = true ∧ s.mode.mode = .commission ∧ param s 0x0106 = 0) ∧
    (∃ (s : State) (r : Req) (id : _) (p : _), Taken 0x0110 r s ∧ paramRow id = some p ∧ enabled s.ident.variant p.fn =
      false) ∧
    (∃ (s : State) (r : Req), Taken 0x0112 r s) ∧
    (∃ (s : State) (port : _) (peer : _) (data : List Byte), serving s = true ∧ port < 2 ∧ bitN (param s 0x010A) port = true
      ∧ ((fromIpv4 peer = true → param s 0x0C09 ≠ 0)) ∧ (s.hatch.ipParts ++ data).length ≤ 4108) ∧
    (∃ (s : State) (port : _) (peer : _) (data : List Byte), serving s = true ∧ port < 2 ∧ bitN (param s 0x010A) port = true
      ∧ ((fromIpv4 peer = true → param s 0x0C09 ≠ 0)) ∧ (s.hatch.ipParts ++ data).length ≤ 4108) ∧
    (∃ (s : State) (at0 : _), s.hatch.ipSince = some at0) :=
  ⟨⟨withParam 0x0102 3 running, rq, 0x0102, _, ⟨by decide +kernel, by decide +kernel⟩, rfl, by decide +kernel⟩,
    ⟨running, rq, 0x0102, _, ⟨by decide +kernel, by decide +kernel⟩, rfl, by decide +kernel⟩,
    ⟨running, rq, 0x0102, _, [3, 0], ⟨by decide +kernel, by decide +kernel⟩, rfl, by decide +kernel⟩,
    ⟨1, by decide +kernel⟩,
    ⟨{ running with mode.mode := .commission }, by decide +kernel⟩,
    ⟨{ running with ident.variant := .t3 }, rq, 0x0D00, _, ⟨by decide +kernel, by decide +kernel⟩, rfl, by decide +kernel⟩,
    ⟨running, rq, ⟨by decide +kernel, by decide +kernel⟩⟩,
    ⟨withParam 0x010A 1 running, 0, 0, [], by decide +kernel⟩,
    ⟨withParam 0x010A 1 running, 0, 0, [], by decide +kernel⟩,
    ⟨{ running with hatch.ipSince := some 5 }, 5, by decide +kernel⟩⟩

theorem witness_DmaCommandsComplete :
    (∃ (s : State) (c : _) (value : _), dmaOpen s = true ∧ c < 4 ∧ bitN value 8 = false) ∧
    (∃ (s : State) (c : _), dmaOpen s = true ∧ c < 4) ∧
    (∃ (s : State) (c : _) (word : _), dmaOpen s = true ∧ c < 4 ∧ 1 ≤ word ∧ word ≤ 11 ∧ dOwn (((dmaChan s c).ring[(dmaChan
      s c).dsel]?).getD []) = false) ∧
    (∃ (s : State) (c : _), dmaOpen s = true ∧ c < 4 ∧ dOwn (((dmaChan s c).ring[(dmaChan s c).dsel]?).getD []) = false ∧
      (dmaChan s c).run = none) ∧
    (∃ (s : State) (c : _), dmaOpen s = true ∧ c < 4) ∧
    (∃ (s : State) (c : _) (ws : _), s.dom.d3 = true ∧ 4 ≤ c ∧ c < s.dma.chans.length ∧ c < 8 ∧ (dmaChan s c).run = none ∧
      dOwn ws = true ∧ dFieldsOk ws = true ∧ dRegionsOk false ws = true) ∧
    (∃ (s : State) (u : _) (c : _) (r : _), u = stallOver s ∧ dmaGrant u = some c ∧ (dmaChan u c).run = some r ∧ c <
      s.dma.chans.length) ∧
    (∃ (s : State) (c : _) (r : _), (dmaChan s c).run = some r ∧ c < 8 ∧ r.moved = dTotal r.words ∧ c < s.dma.chans.length)
      ∧
    (∃ (s : State) (r : Req), Taken 0x1100 r s) ∧
    (∃ (s : State) (r : Req) (c : _), Taken 0x1101 r s ∧ c < 4 ∧ semOwner s (1 + c) = none) :=
  ⟨⟨running, 3, 1, by decide +kernel⟩,
    ⟨running, 3, by decide +kernel⟩,
    ⟨running, 3, 11, by decide +kernel⟩,
    ⟨running, 3, by decide +kernel⟩,
    ⟨running, 3, by decide +kernel⟩,
    ⟨running, 4, words0, by decide +kernel⟩,
    ⟨withDma 4 { run := some run0 } running, _, 4, run0, rfl, by decide +kernel⟩,
    ⟨withDma 4 { run := some run1 } running, 4, run1, by decide +kernel⟩,
    ⟨running, rq, ⟨by decide +kernel, by decide +kernel⟩⟩,
    ⟨running, rq, 3, ⟨by decide +kernel, by decide +kernel⟩, by decide +kernel⟩⟩

theorem witness_VehicleEventsComplete :
    (∃ (s : State), s.dom.d1 = true) ∧
    (∃ (s : State), serving s = true ∧ inHoldup s = false ∧ isStandby s = false ∧ param s 0x0502 ≠ 0) ∧
    (∃ (s : State), modemOn s = true ∧ ((s.veh.fallback = true → s.shu.cpState = 2))) ∧
    (∃ (s : State) (a : _), modemOn s = true ∧ ((s.veh.fallback = true → s.shu.cpState = 2)) ∧ s.veh.atten = some a ∧ a ≤
      param s 0x0509) ∧
    (∃ (s : State) (at0 : _), s.veh.slacStart = some at0 ∧ modemOn s = true ∧ s.veh.slacMatched = false) ∧
    (∃ (s : State), modemOn s = true ∧ s.veh.slacMatched = true) ∧
    (∃ (s : State) (q : _), s.veh.req = some q ∧ serving s = true ∧ s.veh.kept = []) ∧
    (∃ (s : State) (at0 : _), s.veh.overSince = some at0 ∧ serving s = true ∧ s.veh.lastFall = none ∧ s.veh.transfer = true
      ∧ sessionOpen s = true) ∧
    (∃ (s : State) (cause : _) (e : _), s.veh.endCause = some cause ∧ closingEpoch s = some e ∧ serving s = true ∧
      sessionOpen s = true ∧ lDone e s = true ∧ closeStands s e = false) :=
  ⟨⟨{ running with dom.d1 := true }, by decide +kernel⟩,
    ⟨running, by decide +kernel⟩,
    ⟨{ running with shu.cpState := 2 }, by decide +kernel⟩,
    ⟨{ running with shu.cpState := 2, veh.atten := some 0 }, 0, by decide +kernel⟩,
    ⟨{ running with shu.cpState := 2, veh.slacStart := some 5 }, 5, by decide +kernel⟩,
    ⟨{ running with shu.cpState := 2, veh.slacMatched := true }, by decide +kernel⟩,
    ⟨{ running with veh.req := some auth0 }, auth0, by decide +kernel⟩,
    ⟨{ running with veh.overSince := some 5, veh.transfer := true, bil.session := some session0 }, 5, by decide +kernel⟩,
    ⟨{ running with
        veh.endCause := some 3, bil.session := some session0, bil.through := 990, led.journal := [entry0] }, 3, 5, by
      decide +kernel⟩⟩

theorem witness_VehicleCommandsComplete :
    (∃ (s : State) (r : Req) (a : _), Taken 0x0500 r s ∧ a = asOf s) ∧
    (∃ (s : State) (r : Req) (id : _) (q : _) (bpt : _), Taken 0x0501 r s ∧ bpt ≤ 1 ∧ vehGate s = none ∧ s.veh.req = some q
      ∧ q.id = id ∧ id ≠ 0) ∧
    (∃ (s : State) (r : Req) (bpt : _), Taken 0x0501 r s ∧ bpt ≤ 1 ∧ vehGate s = none ∧ s.mode.mode = .service ∧ connected s
      = true ∧ ppValid s = true ∧ authRefusal s bpt = none) ∧
    (∃ (s : State) (r : Req) (entries : List (Nat × Nat)), Taken 0x0502 r s ∧ vehGate s = none ∧ entries.length ≤ 24 ∧
      entries.any (fun e => decide (param s 0x0510 < e.2)) = false) ∧
    (∃ (s : State) (r : Req) (iMax : _), Taken 0x0502 r s ∧ vehGate s = none ∧ iMax ≠ 0xFFFFFFFF ∧ aboveStatic s iMax =
      false) ∧
    (∃ (s : State) (r : Req) (reason : _), Taken 0x0503 r s ∧ vehGate s = none ∧ (reason = 1 ∨ reason = 2) ∧ connected s =
      true ∧ sessionOpen s = true) ∧
    (∃ (s : State) (r : Req) (state : _), Taken 0x0504 r s ∧ vehGate s = none ∧ state ≤ 1) ∧
    (∃ (s : State) (r : Req) (what : _), Taken 0x0505 r s ∧ vehGate s = none ∧ what ≠ 0 ∧ what ≤ 4) ∧
    (∃ (s : State) (r : Req) (id : _), Taken 0x0506 r s ∧ vehGate s = none ∧ s.veh.relay = some id) :=
  ⟨⟨running, rq, _, ⟨by decide +kernel, by decide +kernel⟩, rfl⟩,
    ⟨{ running with veh.req := some auth0 }, rq, 3, auth0, 1, ⟨by decide +kernel, by decide +kernel⟩, by decide +kernel⟩,
    ⟨{ withParam 0x0502 0 running with shu.cpState := 2 }, rq, 0, ⟨by decide +kernel, by decide +kernel⟩, by
      decide +kernel⟩,
    ⟨running, rq, [(0, 0)], ⟨by decide +kernel, by decide +kernel⟩, by decide +kernel⟩,
    ⟨running, rq, 0, ⟨by decide +kernel, by decide +kernel⟩, by decide +kernel⟩,
    ⟨{ running with shu.cpState := 2, bil.session := some session0 }, rq, 1, ⟨by decide +kernel, by decide +kernel⟩, by
      decide +kernel⟩,
    ⟨running, rq, 1, ⟨by decide +kernel, by decide +kernel⟩, by decide +kernel⟩,
    ⟨running, rq, 4, ⟨by decide +kernel, by decide +kernel⟩, by decide +kernel⟩,
    ⟨{ running with veh.relay := some 4 }, rq, 4, ⟨by decide +kernel, by decide +kernel⟩, by decide +kernel⟩⟩

theorem witness_DcSupplyEventsComplete :
    (∃ (s : State) (f : CanFrame), dcOn s = true ∧ f.id = 0x0C0 ∧ f.data.length = 8) ∧
    (∃ (s : State) (f : CanFrame) (p : PowerModule), dcOn s = true ∧ 0x180 ≤ f.id ∧ f.id < 0x180 + param s 0x0511 ∧
      f.data.length = 16 ∧ fieldAt f.data 2 2 = 0 ∧ s.veh.pm[f.id - 0x180]? = some p ∧ p.alive ≠ some (fieldAt f.data 1 1))
      ∧
    (∃ (s : State), dcOn s = true ∧ isStandby s = false) ∧
    (∃ (s : State) (n : Nat) (p : PowerModule), s.veh.pm[n]? = some p ∧ dcOn s = true ∧ p.online = true) ∧
    (∃ (s : State) (at0 : _), dcOn s = true ∧ s.veh.dcPhase = 1 ∧ s.veh.dcEnd = some at0 ∧ s.veh.monitor = 1 ∧ atTestVoltage
      s = true) ∧
    (∃ (s : State) (at0 : _), s.veh.dcEnd = some at0 ∧ dcOn s = true ∧ s.veh.dcPhase = 1) ∧
    (∃ (s : State) (at0 : _), dcOn s = true ∧ s.veh.dcPhase = 2 ∧ s.veh.dcEnd = some at0 ∧ ((s.shu.mod1 : Int) -
      s.veh.vTarget).natAbs ≤ 20000) ∧
    (∃ (s : State) (at0 : _), s.veh.dcEnd = some at0 ∧ dcOn s = true ∧ s.veh.dcPhase = 2) ∧
    (∃ (s : State) (at0 : _), s.veh.dcEnd = some at0 ∧ dcOn s = true ∧ s.veh.dcPhase = 4 ∧ s.shu.mod1 < 60000) :=
  ⟨⟨running, ⟨0x0C0, zeros 8⟩, by decide +kernel⟩,
    ⟨{ withParam 0x0511 1 running with veh.pm := [pm0] }, ⟨0x180, zeros 16⟩, pm0, by decide +kernel⟩,
    ⟨running, by decide +kernel⟩,
    ⟨{ running with veh.pm := [pm0] }, 0, pm0, by decide +kernel⟩,
    ⟨{ running with veh.dcPhase := 1, veh.dcEnd := some 5, veh.monitor := 1 }, 5, by decide +kernel⟩,
    ⟨{ running with veh.dcPhase := 1, veh.dcEnd := some 5 }, 5, by decide +kernel⟩,
    ⟨{ running with veh.dcPhase := 2, veh.dcEnd := some 5 }, 5, by decide +kernel⟩,
    ⟨{ running with veh.dcPhase := 2, veh.dcEnd := some 5 }, 5, by decide +kernel⟩,
    ⟨{ running with veh.dcPhase := 4, veh.dcEnd := some 5 }, 5, by decide +kernel⟩⟩

theorem witness_ShutterRequestsComplete :
    (∃ (s : State) (u : _), u = takeRequest (· == .close) s ∧ s.dom.d1 = true ∧ mayTake (· == .close) s = true ∧
      u.hng.isolated = false ∧ stagesDrive u = true ∧ closeBlock u = 0) ∧
    (∃ (s : State) (cause : _), s.dom.d1 = true ∧ mayTake (isOrderly cause) s = true ∧ kmOpen s = false) ∧
    (∃ (s : State) (cause : _), s.dom.d1 = true ∧ mayTake (isOrderly cause) s = true ∧ kmOpen s = true) ∧
    (∃ (s : State) (cause : _), s.dom.d1 = true ∧ mayTake (isOpenNow cause) s = true) ∧
    (∃ (s : State) (duty : _), s.dom.d1 = true ∧ mayTake (· == .pwm duty) s = true ∧ s.recl.required = false ∧ duty ≠ 0 ∧
      duty ≠ 0xFFFF ∧ s.shu.stop = none ∧ s.shu.latches = 0) ∧
    (∃ (s : State), s.dom.d1 = true ∧ mayTake (· == .pwm 0) s = true ∧ s.recl.required = false) ∧
    (∃ (s : State), s.dom.d1 = true ∧ mayTake (· == .pwm 0xFFFF) s = true ∧ s.recl.required = false ∧ s.shu.stop = none) ∧
    (∃ (s : State) (mA : _), s.dom.d1 = true ∧ mayTake (· == .limit mA false) s = true ∧ s.recl.required = false) ∧
    (∃ (s : State) (mA : _), s.dom.d1 = true ∧ mayTake (· == .limit mA true) s = true ∧ s.recl.required = false) ∧
    (∃ (s : State) (mask : _), s.dom.d3 = true ∧ s.dom.d1 = true ∧ mayTake (isReset mask) s = true ∧ bitN s.shu.latches 13 =
      false ∧ (resetEdge mask 0 (takeRequest (isReset mask) s)).cleared ≠ 0) ∧
    (∃ (s : State), s.dom.d1 = true ∧ mayTake (· == .rcmTest) s = true ∧ coilOn s = false ∧ s.shu.rcmTest = none) ∧
    (∃ (s : State) (p : _), s.shu.stop = some p ∧ s.dom.d1 = true ∧ p.kind ≠ .metering) ∧
    (∃ (s : State) (at0 : _), s.shu.pullInEnd = some at0) :=
  ⟨⟨{ running with
        shu.cpState := 3, inp.peOk := true, shu.vaux := 12000, shu.rcmPass := some 9999999999,
        shu.rcmPassEpoch := 1000 }, _, rfl, by decide +kernel⟩,
    ⟨{ running with shu.driveA1 := true, shu.driveB1 := true }, 3, by decide +kernel⟩,
    ⟨running, 3, by decide +kernel⟩,
    ⟨running, 3, by decide +kernel⟩,
    ⟨running, 533, by decide +kernel⟩,
    ⟨{ running with dom.d1 := true, recl.required := false }, by decide +kernel⟩,
    ⟨{ running with dom.d1 := true, recl.required := false, shu.stop := none }, by decide +kernel⟩,
    ⟨running, 6000, by decide +kernel⟩,
    ⟨running, 6000, by decide +kernel⟩,
    ⟨{ running with shu.latches := 1, shu.lastRelease := some 9999999999 }, 1, by decide +kernel⟩,
    ⟨{ running with dom.d1 := true, shu.rcmTest := none }, by decide +kernel⟩,
    ⟨{ running with
        shu.stop := some { kind := .kiln, start := 5, hadCoil := true, bound := 9, perm := (0, 0) } },
      { kind := .kiln, start := 5, hadCoil := true, bound := 9, perm := (0, 0) }, by decide +kernel⟩,
    ⟨{ running with shu.pullInEnd := some 5 }, 5, by decide +kernel⟩⟩

theorem witness_ShutterTripsComplete :
    (∃ (s : State), s.dom.d1 = true) ∧
    (∃ (s : State), s.dom.d1 = true ∧ maskWithout lChannel s.shu.latches = lChannel) ∧
    (∃ (s : State), s.dom.d1 = true ∧ 3 ≤ s.shu.linkBad ∧ maskWithout lChannel s.shu.latches = lChannel) ∧
    (∃ (s : State) (chan : _), chan ≤ 3 ∧ s.dom.d1 = true ∧ coilOn s = true ∧ s.shu.pullInEnd.isSome = true ∧ maskWithout
      lKmFeedback s.shu.latches = lKmFeedback) ∧
    (∃ (s : State) (at0 : _), s.shu.kfbBy = some at0 ∧ s.dom.d1 = true ∧ coilOn s = true ∧ maskWithout lKmFeedback
      s.shu.latches = lKmFeedback) ∧
    (∃ (s : State) (chan : _), chan ≤ 3 ∧ s.dom.d1 = true ∧ maskWithout lEstop s.shu.latches = lEstop) ∧
    (∃ (s : State) (chan : _) (at0 : _), chan ≤ 3 ∧ s.dom.d1 = true ∧ s.shu.discrepSince = some at0 ∧ maskWithout lDiscrep
      s.shu.latches = lDiscrep) ∧
    (∃ (s : State) (chan : _), chan ≤ 3 ∧ s.dom.d1 = true ∧ maskWithout lDiscrep s.shu.latches = lDiscrep) ∧
    (∃ (s : State) (chan : _) (at0 : _), chan ≤ 3 ∧ s.dom.d1 = true ∧ coilOn s = true ∧ s.shu.supplyLow = some at0 ∧
      maskWithout lCoilSupply s.shu.latches = lCoilSupply) :=
  ⟨⟨{ running with dom.d1 := true }, by decide +kernel⟩,
    ⟨{ running with dom.d1 := true }, by decide +kernel⟩,
    ⟨{ running with shu.linkBad := 3 }, by decide +kernel⟩,
    ⟨{ running with shu.driveA1 := true, shu.driveB1 := true, shu.pullInEnd := some 5 }, 3, by decide +kernel⟩,
    ⟨{ running with shu.driveA1 := true, shu.driveB1 := true, shu.kfbBy := some 5 }, 5, by decide +kernel⟩,
    ⟨running, 3, by decide +kernel⟩,
    ⟨{ running with shu.discrepSince := some 5 }, 3, 5, by decide +kernel⟩,
    ⟨running, 3, by decide +kernel⟩,
    ⟨{ running with shu.driveA1 := true, shu.driveB1 := true, shu.supplyLow := some 5 }, 3, 5, by decide +kernel⟩⟩

theorem witness_ShutterTimersComplete :
    (∃ (s : State) (test : _) (m : RcmReading), s.shu.rcmTest = some test ∧ s.dom.d1 = true ∧ m.excitationOk = true ∧
      test.step = 1 ∧ rcmStepOk s 1 m.dcA m.acA = true ∧ rcmStepOk s 1 m.dcB m.acB = true) ∧
    (∃ (s : State) (test : _) (m : RcmReading), s.shu.rcmTest = some test ∧ s.dom.d1 = true ∧ m.excitationOk = true ∧
      test.step = 3 ∧ rcmStepOk s 3 m.dcA m.acA = true ∧ rcmStepOk s 3 m.dcB m.acB = true) ∧
    (∃ (s : State) (at0 : _), s.shu.rcmPass = some at0 ∧ s.dom.d1 = true ∧ s.shu.rcmTest = none) ∧
    (∃ (s : State) (v : _) (at0 : _), s.shu.permHold = some (v, at0)) ∧
    (∃ (s : State) (at0 : _), s.shu.weldAt = some at0 ∧ s.dom.d1 = true ∧ coilOn s = false) ∧
    (∃ (s : State) (lowMs : _), s.dom.d1 = true ∧ bitN s.shu.latches 13 = false ∧ 50 ≤ lowMs ∧ lowMs ≤ 5000) ∧
    (∃ (s : State), s.dom.d1 = true ∧ bitN s.shu.latches 13 = false) ∧
    (∃ (s : State) (p : _), s.shu.pendingReset = some p) ∧
    (∃ (s : State) (at0 : _), s.shu.stateASince = some at0 ∧ s.dom.d1 = true ∧ s.shu.cpState = 1) ∧
    (∃ (s : State) (snd : _) (at0 : _), s.shu.session = some (snd, at0)) ∧
    (∃ (s : State) (at0 : _), s.shu.lockoutEnd = some at0) :=
  ⟨⟨{ running with shu.rcmTest := some ⟨1, 1, 0, none⟩ }, ⟨1, 1, 0, none⟩, ⟨9, 9, 9, 9, true⟩, by decide +kernel⟩,
    ⟨{ running with shu.rcmTest := some ⟨3, 1, 0, none⟩ }, ⟨3, 1, 0, none⟩, ⟨0, 480, 0, 480, true⟩, by decide +kernel⟩,
    ⟨{ running with shu.rcmPass := some 5 }, 5, by decide +kernel⟩,
    ⟨{ running with shu.permHold := some (1, 5) }, 1, 5, by decide +kernel⟩,
    ⟨{ running with shu.weldAt := some 5 }, 5, by decide +kernel⟩,
    ⟨running, 50, by decide +kernel⟩,
    ⟨{ running with dom.d1 := true }, by decide +kernel⟩,
    ⟨{ running with shu.pendingReset := some ⟨1, 5, 1⟩ }, ⟨1, 5, 1⟩, by decide +kernel⟩,
    ⟨{ running with shu.stateASince := some 5, shu.cpState := 1 }, 5, by decide +kernel⟩,
    ⟨{ running with shu.session := some (.hostSpi, 5) }, .hostSpi, 5, by decide +kernel⟩,
    ⟨{ running with shu.lockoutEnd := some 5 }, 5, by decide +kernel⟩⟩

theorem witness_ShutterCommandsComplete :
    (∃ (s : State) (r : Req) (a : _), Taken 0x0600 r s ∧ a = asOf s) ∧
    (∃ (s : State) (r : Req) (mask : _), Taken 0x0601 r s ∧ mask < 0x10000 ∧ bitN s.shu.latches 13 = false ∧ (resetEdge mask
      r.sender.code s).waiting = 0 ∧ (resetEdge mask r.sender.code s).cleared ≠ 0) ∧
    (∃ (s : State) (r : Req) (len : _) (pw : _) (salt : _) (digest : _), Taken 0x0602 r s ∧ configMode s = true ∧
      s.shu.session = none ∧ s.shu.password = some (salt, digest) ∧ passwordOk len pw = true ∧ s.shu.lockoutEnd = none ∧
      digestOf salt len pw = digest) ∧
    (∃ (s : State) (r : Req) (at0 : _), Taken 0x0603 r s ∧ s.shu.session = some (r.sender, at0)) ∧
    (∃ (s : State) (r : Req) (len : _) (pw : _) (at0 : _), Taken 0x0604 r s ∧ s.shu.session = some (r.sender, at0) ∧
      passwordOk len pw = true) ∧
    (∃ (s : State) (r : Req), Taken 0x0605 r s ∧ inHoldup s = false ∧ coilOn s = false ∧ s.shu.rcmTest = none) ∧
    (∃ (s : State) (r : Req) (first : _) (n : _) (e : _), Taken 0x0606 r s ∧ n ≠ 0 ∧ n ≤ 60 ∧ ((s.shu.changeLog.filter fun e
      => decide (first ≤ e.index)).take n).head? = some e) :=
  ⟨⟨running, rq, _, ⟨by decide +kernel, by decide +kernel⟩, rfl⟩,
    ⟨{ running with shu.latches := 1 }, rq, 0, ⟨by decide +kernel, by decide +kernel⟩, by decide +kernel⟩,
    ⟨{ running with shu.password := some ([], digestOf [] 12 (List.replicate 12 65)) }, rq, 12, List.replicate 12 65, [],
      digestOf [] 12 (List.replicate 12 65), ⟨by decide +kernel, by decide +kernel⟩, by decide +kernel, by decide +kernel,
      rfl, by decide +kernel, by decide +kernel, rfl⟩,
    ⟨{ running with shu.session := some (.hostSpi, 5) }, rq, 5, ⟨by decide +kernel, by decide +kernel⟩, by decide +kernel⟩,
    ⟨{ running with shu.session := some (.hostSpi, 5) }, rq, 12, List.replicate 12 65, 5, ⟨by decide +kernel, by
      decide +kernel⟩, by decide +kernel⟩,
    ⟨{ running with shu.rcmTest := none }, rq, ⟨by decide +kernel, by decide +kernel⟩, by decide +kernel⟩,
    ⟨{ running with shu.changeLog := [⟨1, 1, 1, 0, 5, 0, [], []⟩] }, rq, 0, 60, ⟨1, 1, 1, 0, 5, 0, [], []⟩, ⟨by
      decide +kernel, by decide +kernel⟩, by decide +kernel⟩⟩

theorem witness_LoadSwitchCommandsComplete :
    (∃ (s : State) (r : Req) (a : _), Taken 0x0700 r s ∧ a = asOf s) ∧
    (∃ (s : State) (r : Req) (mask : _), Taken 0x0701 r s ∧ inHoldup s = false ∧ isStandby s = false ∧ s.hng.isolated =
      false ∧ mask % 256 ≠ 0 ∧ lockHeld s = false) ∧
    (∃ (s : State) (r : Req) (mask : _), Taken 0x0701 r s ∧ inHoldup s = false ∧ isStandby s = false ∧ s.hng.isolated =
      false ∧ mask % 256 ≠ 0 ∧ lockHeld s = false ∧ exclusiveMask s mask = 0) ∧
    (∃ (s : State) (n : _) (tj : _), n < 8 ∧ (lswChan s n).on = true ∧ 175 ≤ tj ∧ n < s.lsw.chans.length) ∧
    (∃ (s : State) (n : _) (at0 : _), n < 8 ∧ (lswChan s n).on = true ∧ (lswChan s n).ilim = some at0 ∧ n <
      s.lsw.chans.length) ∧
    (∃ (s : State) (n : _) (tj : _) (at0 : _), (lswChan s n).latch = some at0 ∧ n < 8 ∧ tj < 145 ∧ n < s.lsw.chans.length) ∧
    (∃ (s : State) (n : _), n < 8 ∧ (lswChan s n).on = true ∧ (lswChan s n).latch = none ∧ n < s.lsw.chans.length) ∧
    (∃ (s : State) (n : _) (at0 : _), (lswChan s n).pulseEnd = some at0 ∧ n < s.lsw.chans.length) ∧
    (∃ (s : State) (n : _) (i : _), n < 8 ∧ (lswChan s n).on = true ∧ i < param s 0x0705 ∧ n < s.lsw.chans.length) ∧
    (∃ (s : State) (n : _), n < 8 ∧ s.dom.d4 = true ∧ (lswChan s n).on = false ∧ n < s.lsw.chans.length) ∧
    (∃ (mV : _), mV < 10000) ∧
    (∃ (s : State) (mV : _), s.lsw.under = true ∧ 11000 ≤ mV) ∧
    (∃ (mV : _), mV < 4000) ∧
    (∃ (s : State), s.dom.d4 = true ∧ s.lsw.gndOpen = false) ∧
    (∃ (s : State), s.lsw.gndOpen = true) ∧
    (∃ (s : State) (mV : _), s.dom.d4 = true ∧ 36000 < mV) :=
  ⟨⟨running, rq, _, ⟨by decide +kernel, by decide +kernel⟩, rfl⟩,
    ⟨running, rq, 1, ⟨by decide +kernel, by decide +kernel⟩, by decide +kernel⟩,
    ⟨running, rq, 1, ⟨by decide +kernel, by decide +kernel⟩, by decide +kernel⟩,
    ⟨withOut 7 { on := true } running, 7, 175, by decide +kernel⟩,
    ⟨withOut 7 { on := true, ilim := some 5 } running, 7, 5, by decide +kernel⟩,
    ⟨withOut 7 { latch := some 5 } running, 7, 144, 5, by decide +kernel⟩,
    ⟨withOut 7 { on := true } running, 7, by decide +kernel⟩,
    ⟨withOut 7 { pulseEnd := some 5 } running, 7, 5, by decide +kernel⟩,
    ⟨withOut 7 { on := true } (withParam 0x0705 10 running), 7, 0, by decide +kernel⟩,
    ⟨running, 7, by decide +kernel⟩,
    ⟨9999, by decide +kernel⟩,
    ⟨{ running with lsw.under := true }, 11000, by decide +kernel⟩,
    ⟨3999, by decide +kernel⟩,
    ⟨{ running with dom.d4 := true, lsw.gndOpen := false }, by decide +kernel⟩,
    ⟨{ running with lsw.gndOpen := true }, by decide +kernel⟩,
    ⟨running, 36001, by decide +kernel⟩⟩

theorem witness_KeyCommandsComplete :
    (∃ (s : State) (r : Req), Taken 0x0800 r s ∧ r.sender = .letterbox) ∧
    (∃ (s : State) (r : Req), Taken 0x0800 r s ∧ r.sender ≠ .letterbox) ∧
    (∃ (s : State) (r : Req) (slot : _) (p : _), Taken 0x0801 r s ∧ slot < 64 ∧ slotOf s slot = some p) ∧
    (∃ (s : State) (r : Req) (slot : _), Taken 0x0801 r s ∧ slot < 64 ∧ slotOf s slot = none) ∧
    (∃ (s : State) (r : Req) (slot : _) (ty : _) (attr : _), Taken 0x0802 r s ∧ s.sag.root ≠ 0 ∧ headerOk slot ty attr =
      true ∧ ty < 8 ∧ slotOf s slot = none) ∧
    (∃ (s : State) (r : Req) (slot : _) (ty : _) (attr : _) (key : List Byte), Taken 0x0803 r s ∧ inFactory s = true ∧
      r.sender = .hostSpi ∧ s.sag.root ≠ 0 ∧ headerOk slot ty attr = true ∧ keyLen ty = some key.length ∧ slotOf s slot =
      none) ∧
    (∃ (s : State) (r : Req) (slot : _) (ty : _) (attr : _) (u : _), Taken 0x0804 r s ∧ fieldOrFactory s = true ∧ s.sag.root
      ≠ 0 ∧ headerOk slot ty attr = true ∧ slotRefusal (noteBad u s) u aUnwrap = none) ∧
    (∃ (s : State) (r : Req) (src : _) (slot : _) (ty : _) (attr : _) (info : List Byte), Taken 0x0805 r s ∧ fieldOrFactory
      s = true ∧ s.sag.root ≠ 0 ∧ headerOk slot ty attr = true ∧ ty ≤ 3 ∧ info.length ≤ 64 ∧ slotRefusal (noteBad src s) src
      aDerive = none ∧ attr &&& maskWithout (((slotOf s src).map (·.attr)).getD 0) (2 ^ aDerive) = attr ∧ slotOf s slot =
      none) ∧
    (∃ (s : State) (r : Req) (slot : _) (p : _), Taken 0x0806 r s ∧ s.sag.root ≠ 0 ∧ slotOf s slot = some p ∧ bitN p.attr
      aImmutable = false) ∧
    (∃ (s : State) (r : Req) (slot : _) (which : _) (gen : _) (p : _) (k : _) (cert : _), Taken 0x0807 r s ∧ slot < 64 ∧
      which ≤ 1 ∧ slotOf s slot = some p ∧ slotBar (noteBad slot s) slot aExportPub = none ∧ (s.sag.pubs.find? fun k =>
      k.slot == slot && k.gen == (if which = 0 then p.gen else gen)) = some k ∧ cert = (if r.sender = .letterbox then []
      else k.cert)) ∧
    (∃ (s : State) (r : Req) (slot : _) (p : _) (k : _) (cert : _), Taken 0x0808 r s ∧ cert.length ≤ 2048 ∧ slotOf s slot =
      some p ∧ slotBar (noteBad slot s) slot aExportPub = none ∧ (s.sag.pubs.find? fun k => k.slot == slot && k.gen ==
      p.gen) = some k ∧ Config.certSubject cert = k.pub) :=
  ⟨⟨running, rqLb, ⟨by decide +kernel, by decide +kernel⟩, by decide +kernel⟩,
    ⟨running, rq, ⟨by decide +kernel, by decide +kernel⟩, by decide +kernel⟩,
    ⟨{ running with sag.slots := [slot0] }, rq, 0, slot0, ⟨by decide +kernel, by decide +kernel⟩, by decide +kernel⟩,
    ⟨running, rq, 63, ⟨by decide +kernel, by decide +kernel⟩, by decide +kernel⟩,
    ⟨running, rq, 63, 5, 1, ⟨by decide +kernel, by decide +kernel⟩, by decide +kernel⟩,
    ⟨{ running with sag.lifecycle := .factory, mode.mode := .factory }, rq, 63, 1, 1, zeros 16, ⟨by decide +kernel, by
      decide +kernel⟩, by decide +kernel⟩,
    ⟨{ running with sag.slots := [slot0] }, rq, 63, 1, 1, 0, ⟨by decide +kernel, by decide +kernel⟩, by decide +kernel⟩,
    ⟨{ running with sag.slots := [slot0] }, rq, 0, 63, 1, 1, zeros 64, ⟨by decide +kernel, by decide +kernel⟩, by
      decide +kernel⟩,
    ⟨{ running with sag.slots := [{ slot0 with attr := 0 }] }, rq, 0, { slot0 with attr := 0 }, ⟨by decide +kernel, by
      decide +kernel⟩, by decide +kernel⟩,
    ⟨{ running with sag.slots := [slot0], sag.pubs := [pub0] }, rq, 0, 0, 0, slot0, pub0, _, ⟨by decide +kernel, by
      decide +kernel⟩, by decide +kernel, by decide +kernel, by decide +kernel, by decide +kernel, rfl, rfl⟩,
    ⟨{ running with sag.slots := [slot0], sag.pubs := [pub0] }, rq, 0, slot0, pub0, [], ⟨by decide +kernel, by
      decide +kernel⟩, by decide +kernel, by decide +kernel, by decide +kernel, rfl, rfl⟩⟩

theorem witness_LifecycleTamperCommandsComplete :
    (∃ (s : State) (r : Req) (code : _) (target : _) (unlock : _), Taken 0x0809 r s ∧ lifecycleOf code = some target ∧
      s.sag.lcPending = none ∧ lcRefusal s target r.sender unlock = none) ∧
    (∃ (s : State) (target : _), s.sag.lcPending = some target ∧ s.dom.d3 = true) ∧
    (∃ (s : State) (r : Req) (mask : _), Taken 0x080A r s ∧ mask &&& s.sag.blocking &&& s.sag.tamperActive = 0) ∧
    (∃ (s : State) (r : Req), Taken 0x080B r s ∧ s.sag.lifecycle = .returned) ∧
    (∃ (s : State), s.dom.d0 = true) ∧
    (∃ (s : State) (at0 : _), s.inp.npeSince = some at0 ∧ s.dom.d2 = true ∧ bitN s.sag.tamperActive 4 = false) ∧
    (∃ (s : State), s.dom.d0 = true ∧ (s.pwr.d0OnRails && !inHoldup s) = false) ∧
    (∃ (s : State), s.dom.d0 = true ∧ s.pwr.d0OnRails = true ∧ inHoldup s = false) ∧
    (∃ (s : State), debugAllowed s = true) ∧
    (∃ (s : State), s.dom.d3 = true ∧ debugAllowed s = true ∧ s.sag.debugOpen = true) ∧
    (∃ (s : State), s.dom.d3 = true ∧ (debugAllowed s && s.sag.debugOpen) = false) :=
  ⟨⟨{ running with sag.lifecycle := .blank }, rq, 1, .factory, [], ⟨by decide +kernel, by decide +kernel⟩, by
    decide +kernel⟩,
    ⟨{ running with sag.lcPending := some .field }, .field, by decide +kernel⟩,
    ⟨running, rq, 1, ⟨by decide +kernel, by decide +kernel⟩, by decide +kernel⟩,
    ⟨{ running with sag.lifecycle := .returned }, rqSpy, ⟨by decide +kernel, by decide +kernel⟩, by decide +kernel⟩,
    ⟨{ running with dom.d0 := true }, by decide +kernel⟩,
    ⟨{ running with inp.npeSince := some 5, dom.d2 := true }, 5, by decide +kernel⟩,
    ⟨{ running with pwr.d0OnRails := false }, by decide +kernel⟩,
    ⟨{ running with dom.d0 := true, pwr.d0OnRails := true }, by decide +kernel⟩,
    ⟨{ running with sag.lifecycle := .factory }, by decide +kernel⟩,
    ⟨{ running with sag.lifecycle := .factory, sag.debugOpen := true }, by decide +kernel⟩,
    ⟨{ running with dom.d3 := true }, by decide +kernel⟩⟩

theorem witness_ReaderCommandsComplete :
    (∃ (s : State), readerState s = 1) ∧
    (∃ (s : State) (change : _), readerState s = 2 ∧ 30 < change ∧ bitN (param s 0x0102) 1 = true) ∧
    (∃ (s : State) (r : Req), Taken 0x0900 r s ∧ r.sender = .letterbox) ∧
    (∃ (s : State) (r : Req), Taken 0x0901 r s ∧ readerState s ≠ 0) ∧
    (∃ (s : State) (r : Req) (o : _), Taken 0x0902 r s ∧ o.length = 8 + 8 * fieldAt o 2 2 ∧ crcAt o (4 + 8 * fieldAt o 2 2)
      = true ∧ fieldAt o 2 2 ≤ 500 ∧ ascending ((List.range (fieldAt o 2 2)).map fun k => padTo 8 (o.drop (4 + 8 * k))) =
      true) ∧
    (∃ (s : State) (r : Req) (page : _), Taken 0x0903 r s ∧ page ≤ 14) ∧
    (∃ (s : State) (r : Req) (page : _), Taken 0x0904 r s ∧ conGate s = false ∧ 6 ≤ page ∧ page ≤ 11) ∧
    (∃ (s : State) (r : Req) (a : Nat) (b : Nat), Taken 0x0905 r s ∧ conGate s = false ∧ a ≠ 0 ∧ b ≠ 0) ∧
    (∃ (s : State) (n : _), s.dom.d3 = true ∧ s.snap.published = true ∧ summaryCalled s = true ∧ 6 ≤ n) ∧
    (∃ (s : State), serving s = true ∧ serialNewer 16 (pageGen s 14) s.con.baseline = true) :=
  ⟨⟨running, by decide +kernel⟩,
    ⟨{ running with mode.mode := .watch }, 31, by decide +kernel⟩,
    ⟨running, rqLb, ⟨by decide +kernel, by decide +kernel⟩, by decide +kernel⟩,
    ⟨running, rq, ⟨by decide +kernel, by decide +kernel⟩, by decide +kernel⟩,
    ⟨running, rq, withCrc (zeros 4), ⟨by decide +kernel, by decide +kernel⟩, by decide +kernel⟩,
    ⟨running, rq, 14, ⟨by decide +kernel, by decide +kernel⟩, by decide +kernel⟩,
    ⟨running, rq, 6, ⟨by decide +kernel, by decide +kernel⟩, by decide +kernel⟩,
    ⟨running, rq, 1, 1, ⟨by decide +kernel, by decide +kernel⟩, by decide +kernel⟩,
    ⟨running, 6, by decide +kernel⟩,
    ⟨{ running with con.baseline := 65535 }, by decide +kernel⟩⟩

theorem witness_LetterboxFieldCommandsComplete :
    (∃ (s : State) (n : _) (mask : _), s.con.rf ≠ 1 ∧ s.con.uid % 2 ^ n = mask) ∧
    (∃ (s : State) (dest : _), reaches s (if dest = 0 then 1 else dest) = true) ∧
    (∃ (s : State) (dest : _), reaches s dest = true) ∧
    (∃ (s : State) (dest : _) (block : _), reaches s dest = true ∧ block < 960 ∧ fieldReads s (block / 60) = true) ∧
    (∃ (s : State) (dest : _) (block : _) (n : _), reaches s dest = true ∧ n ≠ 0 ∧ block + n ≤ 960 ∧ ((List.range n).any fun
      k => !fieldReads s ((block + k) / 60)) = false) ∧
    (∃ (s : State) (dest : _) (block : _), reaches s dest = true ∧ block ≠ 957 ∧ block ≠ 958 ∧ fieldWrites s (block / 60) =
      true) ∧
    (∃ (s : State) (dest : _) (block : _) (data : List Byte), reaches s dest = true ∧ 2 ≤ data.length / 4 ∧ block / 60 =
      (block + data.length / 4 - 1) / 60 ∧ fieldWrites s (block / 60) = true) ∧
    (∃ (s : State) (dest : _), reaches s dest = true) :=
  ⟨⟨running, 0, 0, by decide +kernel⟩,
    ⟨running, 0, by decide +kernel⟩,
    ⟨running, 1, by decide +kernel⟩,
    ⟨running, 1, 959, by decide +kernel⟩,
    ⟨running, 1, 0, 1, by decide +kernel⟩,
    ⟨running, 1, 720, by decide +kernel⟩,
    ⟨running, 1, 720, zeros 8, by decide +kernel⟩,
    ⟨running, 1, by decide +kernel⟩⟩

theorem witness_DisplayCommandsComplete :
    (∃ (s : State) (r : Req), Taken 0x0A00 r s) ∧
    (∃ (s : State) (r : Req) (offset : _) (len : _), Taken 0x0A01 r s ∧ len ≠ 0 ∧ len ≤ 4088 ∧ offset + len ≤ imageBytes s ∧
      s.disp.copying = none) ∧
    (∃ (s : State) (r : Req) (mode : _) (x : _) (y : _) (w : _) (h : _) (crc : _) (tab : _) (band : _), Taken 0x0A02 r s ∧
      dispMode s = true ∧ mode ≠ 0 ∧ mode ≤ 3 ∧ w ≠ 0 ∧ h ≠ 0 ∧ x + w ≤ panelW s ∧ y + h ≤ panelH s ∧ crc32c (padTo
      (imageBytes s) s.disp.staging) = crc ∧ s.disp.table = some tab ∧ bandOf tab (dispTemp s) = some band ∧ fits s
      (framesOf s tab band mode ⟨x, y, w, h⟩) = true ∧ s.disp.waiting = none ∧ s.disp.copying = none) ∧
    (∃ (s : State) (r : Req) (tab : _), Taken 0x0A03 r s ∧ dispMode s = true ∧ s.disp.table = some tab) ∧
    (∃ (s : State) (q : _) (k : _), s.disp.copying = some q ∧ freeSlot s = some k ∧ s.dom.d3 = true ∧ inHoldup s = false) ∧
    (∃ (s : State) (d : _), s.disp.drive = some d ∧ d.rising = true ∧ (¬(1 ≤ d.step ∧ d.step ≤ 3))) ∧
    (∃ (s : State) (d : _), s.disp.drive = some d ∧ d.rising = true ∧ 1 ≤ d.step ∧ d.step ≤ 3) ∧
    (∃ (s : State) (d : _), s.disp.drive = some d ∧ d.rising = false ∧ s.disp.paused = false ∧ s.disp.dirty.frameDone + 1 <
      s.disp.dirty.nTotal) ∧
    (∃ (s : State) (d : _), s.disp.drive = some d ∧ d.rising = false ∧ s.disp.paused = false ∧ s.disp.dirty.nTotal ≤
      s.disp.dirty.frameDone + 1) ∧
    (∃ (s : State) (at0 : _), s.disp.railsDown = some at0) ∧
    (∃ (s : State) (d : _), s.disp.railsUp = true ∧ s.disp.drive = some d) ∧
    (∃ (s : State) (q : _), s.disp.waiting = some q ∧ ((∀ at0, q.failedAt = some at0 → q.checked < s.clk.epoch))) ∧
    (∃ (s : State) (q : _) (at0 : _), s.disp.waiting = some q ∧ q.failedAt = some at0) ∧
    (∃ (s : State) (tab : _), s.disp.table = some tab ∧ s.disp.transomAt = none ∧ s.dom.d3 = true ∧ inHoldup s = false ∧
      driveFree s = true ∧ s.disp.recovery = 0 ∧ fits s (framesOf s tab (bandNear tab (dispTemp s)) 2 (transomRect s)) =
      true) :=
  ⟨⟨running, rq, ⟨by decide +kernel, by decide +kernel⟩⟩,
    ⟨running, rq, 0, 4, ⟨by decide +kernel, by decide +kernel⟩, by decide +kernel⟩,
    ⟨{ withParam 0x0A00 8 (withParam 0x0A01 8 running) with disp.table := some waves0 }, rq, 1, 0, 0, 8, 8, crc32c (padTo 16
      []), waves0, 0, ⟨by decide +kernel, by decide +kernel⟩, by decide +kernel⟩,
    ⟨{ running with disp.table := some waves0 }, rq, waves0, ⟨by decide +kernel, by decide +kernel⟩, by decide +kernel⟩,
    ⟨{ running with disp.copying := some update0 }, update0, 0, by decide +kernel⟩,
    ⟨{ running with disp.drive := some drive0 }, drive0, by decide +kernel⟩,
    ⟨{ running with disp.drive := some { drive0 with step := 3 } }, { drive0 with step := 3 }, by decide +kernel⟩,
    ⟨{ running with disp.drive := some { drive0 with rising := false }, disp.dirty.nTotal := 5 },
      { drive0 with rising := false }, by decide +kernel⟩,
    ⟨{ running with disp.drive := some { drive0 with rising := false }, disp.dirty.nTotal := 1 },
      { drive0 with rising := false }, by decide +kernel⟩,
    ⟨{ running with disp.railsDown := some 5 }, 5, by decide +kernel⟩,
    ⟨{ running with disp.railsUp := true, disp.drive := some drive0 }, drive0, by decide +kernel⟩,
    ⟨{ running with disp.waiting := some update0 }, update0, by decide +kernel, (fun _ _ => by decide +kernel)⟩,
    ⟨{ running with disp.waiting := some update0 }, update0, 5, by decide +kernel⟩,
    ⟨{ withParam 0x0A00 8 (withParam 0x0A01 8 running) with disp.table := some waves0 }, waves0, by decide +kernel⟩⟩

theorem witness_CarrierCommandsComplete :
    (∃ (s : State), serving s = true ∧ inHoldup s = false) ∧
    (∃ (s : State) (f : _), nextFrame s = some f ∧ mcTx s = true ∧ s.mc.current = none ∧ s.mc.ackDue = none ∧ s.mc.quiet = 2
      ∧ s.mc.backoff = some 0 ∧ s.mc.reserved = 0) ∧
    (∃ (s : State) (h : McHeader), s.mode.mode ≠ .watch ∧ mcRx s = true ∧ h.dst ≠ ownShort s ∧ h.dst ≠ 0xFFFF) ∧
    (∃ (s : State) (h : McHeader), s.mode.mode ≠ .watch ∧ mcRx s = true ∧ h.dst = ownShort s) ∧
    (∃ (s : State) (f : McFrame) (bitmap : _) (z : _) (c : _), mcRx s = true ∧ (heardFrame f.dst z c s).mc.current = some f
      ∧ (heardFrame f.dst z c s).mc.awaiting = true ∧ ((List.range (divCeil f.payload.length 32)).filter fun n => !bitN
      bitmap n) = [] ∧ f.downgraded = false ∧ ownShort (heardFrame f.dst z c s) = ownShort s) ∧
    (∃ (s : State) (h : McHeader) (z : _) (c : _), mcRx s = true ∧ h.dst = ownShort (heardFrame h.src z c s)) ∧
    (∃ (s : State) (h : McHeader) (z : _) (c : _), mcRx s = true ∧ h.dst = ownShort (heardFrame h.src z c s)) ∧
    (∃ (s : State) (h : HelloBlock), mcRx s = true ∧ h.moduleId ≠ s.ident.moduleId ∧ s.mc.neighbours.length < 64) ∧
    (∃ (s : State) (f : _), s.mc.current = some f ∧ mcTx s = true ∧ s.mc.awaiting = true ∧ s.mc.reserved = 0 ∧ f.retry <
      param s 0x0B04 ∧ f.silent + 1 ≠ 3) ∧
    (∃ (s : State) (src : _) (seq : _) (p : _), (s.mc.rx.find? fun p => p.src == src && p.seq == seq) = some p ∧ serving s =
      true) ∧
    (∃ (s : State) (short : _) (n : _), mcFind s short = some n ∧ mcRx s = true) ∧
    (∃ (s : State) (id : _) (n : _) (k : _), s.mc.neighbours.zipIdx.find? (·.1.moduleId == id) = some (n, k) ∧ mcRx s =
      true) ∧
    (∃ (s : State), mcTx s = true) ∧
    (∃ (s : State) (r : Req), Taken 0x0B00 r s) ∧
    (∃ (s : State) (r : Req) (first : _) (n : _), Taken 0x0B01 r s ∧ first < 64 ∧ n ≠ 0 ∧ n ≤ 32) ∧
    (∃ (s : State) (r : Req) (short : _) (n : _), Taken 0x0B02 r s ∧ mcFind s short = some n ∧ mcTx s = true) :=
  ⟨⟨running, by decide +kernel⟩,
    ⟨{ running with mc.queue := [frame0], mc.quiet := 2, mc.backoff := some 0 }, frame0, by decide +kernel⟩,
    ⟨running, header0, by decide +kernel⟩,
    ⟨running, { header0 with dst := ownShort running }, by decide +kernel⟩,
    ⟨{ running with mc.current := some frame0, mc.awaiting := true }, frame0, 1, false, 0, by decide +kernel⟩,
    ⟨running, { header0 with dst := ownShort running }, false, 0, by decide +kernel⟩,
    ⟨running, { header0 with dst := ownShort running }, false, 0, by decide +kernel⟩,
    ⟨running, hello0, by decide +kernel⟩,
    ⟨{ running with mc.current := some frame0, mc.awaiting := true }, frame0, by decide +kernel⟩,
    ⟨{ running with mc.rx := [partial0] }, 7, 1, partial0, by decide +kernel⟩,
    ⟨{ running with mc.neighbours := [carrier0] }, 7, carrier0, by decide +kernel⟩,
    ⟨{ running with mc.neighbours := [carrier0] }, 9, carrier0, 0, by decide +kernel⟩,
    ⟨running, by decide +kernel⟩,
    ⟨running, rq, ⟨by decide +kernel, by decide +kernel⟩⟩,
    ⟨running, rq, 63, 32, ⟨by decide +kernel, by decide +kernel⟩, by decide +kernel⟩,
    ⟨{ running with mc.neighbours := [carrier0] }, rq, 7, carrier0, ⟨by decide +kernel, by decide +kernel⟩, by
      decide +kernel⟩⟩

theorem witness_LintelCommandsComplete :
    (∃ (s : State), fabricRuns s = true) ∧
    (∃ (s : State) (l : _), fabricRuns s = true ∧ linkOn s l = true) ∧
    (∃ (s : State) (l : _) (id : _) (n : _), neighbour s l id = some n ∧ fabricRuns s = true ∧ l < 6) ∧
    (∃ (s : State) (l : _) (id : _) (n : _), neighbour s l id = some n ∧ fabricRuns s = true ∧ n.unacked ≠ []) ∧
    (∃ (s : State), fabricRuns s = true) ∧
    (∃ (s : State), s.lin.conflict = true ∧ fabricRuns s = true) ∧
    (∃ (s : State) (l : _) (id : _) (n : _) (q : _) (acked : _), neighbour s l id = some n ∧ fabricRuns s = true ∧ linkOn s
      l = true ∧ l < 6 ∧ ((∀ last, n.rxSeq = some last → q = (last + 1) % 65536)) ∧ n.unacked.take acked = []) ∧
    (∃ (s : State) (l : _) (id : _) (n : _) (q : _) (acked : _) (last : _), neighbour s l id = some n ∧ fabricRuns s = true
      ∧ linkOn s l = true ∧ l < 6 ∧ n.rxSeq = some last ∧ q ≠ (last + 1) % 65536 ∧ n.unacked.take acked ≠ []) ∧
    (∃ (s : State) (src : _) (msg : _) (f : _), (s.lin.frags.find? fun f => f.src == src && f.msgId == msg) = some f ∧
      fabricRuns s = true) ∧
    (∃ (s : State) (port : _) (dst : _), s.dom.d3 = true ∧ dst = ownMac s ∧ bitN dst 40 = false ∧ port ≠ 2) ∧
    (∃ (s : State) (mac : _) (e : _), s.lin.macTable.find? (·.1 == mac) = some e ∧ s.dom.d3 = true) ∧
    (∃ (s : State) (r : Req), Taken 0x0C00 r s) ∧
    (∃ (s : State) (r : Req), Taken 0x0C01 r s) ∧
    (∃ (s : State) (r : Req) (dst : _) (b : _), Taken 0x0C02 r s ∧ dst ≠ 0 ∧ dst ≤ 0x1000 ∧ b.length ≤ 4108 ∧ datagramOk b =
      true ∧ fieldAt b (8 + (packetOf b).len) 4 = crc32c (crcHead b ++ (b.drop 8).take (packetOf b).len) ∧ ownAddr s ≠ 0 ∧
      routable s dst = true) ∧
    (∃ (s : State) (f : _) (rest : _), s.lin.forwards = f :: rest ∧ serving s = true) :=
  ⟨⟨running, by decide +kernel⟩,
    ⟨running, 0, by decide +kernel⟩,
    ⟨{ running with lin.neighbours := [node0] }, 0, 9, node0, by decide +kernel⟩,
    ⟨{ running with lin.neighbours := [{ node0 with unacked := [(0, fabric0)] }] }, 0, 9,
      { node0 with unacked := [(0, fabric0)] }, by decide +kernel⟩,
    ⟨running, by decide +kernel⟩,
    ⟨{ running with lin.conflict := true }, by decide +kernel⟩,
    ⟨{ running with lin.neighbours := [node0] }, 0, 9, node0, 1, 0, by decide +kernel, by decide +kernel, by decide +kernel,
      by decide +kernel, (fun _ h => by cases h), by decide +kernel⟩,
    ⟨{ running with lin.neighbours := [{ node0 with rxSeq := some 5, unacked := [(0, fabric0)] }] }, 0, 9,
      { node0 with rxSeq := some 5, unacked := [(0, fabric0)] }, 5, 1, 5, by decide +kernel⟩,
    ⟨{ running with lin.frags := [frags0] }, 5, 1, frags0, by decide +kernel⟩,
    ⟨running, 0, ownMac running, by decide +kernel⟩,
    ⟨{ running with lin.macTable := [(7, 0, 5)] }, 7, (7, 0, 5), by decide +kernel⟩,
    ⟨running, rq, ⟨by decide +kernel, by decide +kernel⟩⟩,
    ⟨running, rq, ⟨by decide +kernel, by decide +kernel⟩⟩,
    ⟨{ node with lin.neighbours := [node0], lin.parent := some (0, 9) }, rq, 5, datagram0, ⟨by decide +kernel, by
      decide +kernel⟩, by decide +kernel⟩,
    ⟨{ running with lin.forwards := [forward0] }, forward0, [], by decide +kernel⟩⟩

theorem witness_TokenCommandsComplete :
    (∃ (s : State) (a : _), trades s = true ∧ tokensHeld s < wantTokens s ∧ s.lin.askedAt = none ∧ s.lin.asked = [] ∧
      lenders s = [a]) ∧
    (∃ (s : State) (n : _) (at0 : _), s.lin.home.find? (·.1 == n) = some (n, .out at0) ∧ fabricRuns s = true) ∧
    (∃ (s : State), hearsTokens s = true) ∧
    (∃ (s : State), hearsTokens s = true) ∧
    (∃ (s : State), hearsTokens s = true) ∧
    (∃ (s : State), hearsTokens s = true) ∧
    (∃ (s : State), hearsTokens s = true) ∧
    (∃ (s : State), hearsTokens s = true) ∧
    (∃ (s : State), hearsTokens s = true) ∧
    (∃ (s : State), hearsTokens s = true) ∧
    (∃ (s : State), hearsTokens s = true) ∧
    (∃ (s : State) (x : _) (peer : _) (l : _), (s.lin.lendings.find? fun l => l.is x peer && !l.lent) = some l ∧ fabricRuns
      s = true) ∧
    (∃ (s : State) (x : _) (home : _) (b : _), (s.lin.borrowings.find? fun b => b.is x home && !b.committed) = some b ∧
      fabricRuns s = true ∧ 4 ≤ b.resends) ∧
    (∃ (s : State) (x : _) (home : _) (b : _), borrowedLive s x home = some b ∧ fabricRuns s = true ∧ b.renewSent = none ∧
      max s.clk.now (b.leaseEnd - Tick.ms b.leaseMs / 2) + Tick.s 8 < b.leaseEnd ∧ tokensHeld (advanceTo (b.leaseEnd -
      Tick.ms b.leaseMs / 2) s) ≤ wantTokens (advanceTo (b.leaseEnd - Tick.ms b.leaseMs / 2) s) ∧ b.tokens ≠ []) ∧
    (∃ (s : State) (x : _) (home : _) (b : _), borrowedLive s x home = some b ∧ fabricRuns s = true) ∧
    (∃ (s : State) (x : _) (home : _) (b : _), (s.lin.borrowings.find? fun b => b.is x home && b.committed) = some b ∧
      fabricRuns s = true) ∧
    (∃ (s : State) (x : _) (home : _) (b : _) (at0 : _), (s.lin.borrowings.find? fun b => b.is x home && b.returnAt.isSome)
      = some b ∧ b.returnAt = some at0 ∧ fabricRuns s = true) ∧
    (∃ (s : State) (x : _) (peer : _) (l : _), (s.lin.lendings.find? fun l => l.is x peer && l.lent) = some l ∧ fabricRuns s
      = true) ∧
    (∃ (s : State) (at0 : _), s.lin.quarantine = some at0 ∧ fabricRuns s = true) :=
  ⟨⟨{ withParam 0x0502 0 node with
        shu.cpState := 2, lin.plan := (100, 0, 0, 6, 0, 30),
        lin.neighbours := [{ node0 with hello := { hello0 with tableId := tableId node } }] }, 5, by decide +kernel⟩,
    ⟨{ node with lin.home := [(1, .out 5)] }, 1, 5, by decide +kernel⟩,
    ⟨node, by decide +kernel⟩,
    ⟨node, by decide +kernel⟩,
    ⟨node, by decide +kernel⟩,
    ⟨node, by decide +kernel⟩,
    ⟨node, by decide +kernel⟩,
    ⟨node, by decide +kernel⟩,
    ⟨node, by decide +kernel⟩,
    ⟨node, by decide +kernel⟩,
    ⟨node, by decide +kernel⟩,
    ⟨{ node with lin.lendings := [lending0] }, 3, 5, lending0, by decide +kernel⟩,
    ⟨{ node with lin.borrowings := [borrowing0] }, 3, 5, borrowing0, by decide +kernel⟩,
    ⟨{ withParam 0x0502 0 node with
        shu.cpState := 2, lin.borrowings := [{ borrowing0 with committed := true }] }, 3, 5,
      { borrowing0 with committed := true }, by decide +kernel⟩,
    ⟨{ node with lin.borrowings := [{ borrowing0 with committed := true }] }, 3, 5, { borrowing0 with committed := true },
      by decide +kernel⟩,
    ⟨{ node with lin.borrowings := [{ borrowing0 with committed := true }] }, 3, 5, { borrowing0 with committed := true },
      by decide +kernel⟩,
    ⟨{ node with lin.borrowings := [{ borrowing0 with returnAt := some 5 }] }, 3, 5, { borrowing0 with returnAt := some 5 },
      5, by decide +kernel⟩,
    ⟨{ node with lin.lendings := [{ lending0 with lent := true }] }, 3, 5, { lending0 with lent := true }, by
      decide +kernel⟩,
    ⟨{ node with lin.quarantine := some 5 }, 5, by decide +kernel⟩⟩

theorem witness_HingeMessagesComplete :
    (∃ (s : State) (claim : _), hingeOn s = true ∧ s.dom.d4 = true ∧ s.hng.role ≠ .active ∧ claim ≠ 0 ∧ claim ≠ ownClaim s)
      ∧
    (∃ (s : State) (at0 : _), hingeOn s = true ∧ s.dom.d4 = true ∧ s.hng.role ≠ .active ∧ s.hng.lineHeard = some at0) ∧
    (∃ (s : State), hingeOn s = true ∧ s.dom.d4 = true ∧ s.hng.role ≠ .active) ∧
    (∃ (s : State), hingeOn s = true ∧ s.hng.role = .standby ∧ s.dom.d2 = true ∧ inHoldup s = false) ∧
    (∃ (s : State) (trig : _), takeoverTrigger s = some trig ∧ hingeOn s = true ∧ s.hng.role = .standby ∧ s.dom.d1 = true ∧
      inHoldup s = false) ∧
    (∃ (s : State), s.hng.yielding = true) ∧
    (∃ (s : State), hingeOn s = true ∧ s.hng.role = .active ∧ s.hng.isolated = false) ∧
    (∃ (s : State), hingeOn s = true ∧ s.hng.role = .none ∧ s.dom.d2 = true ∧ inHoldup s = false ∧ s.hng.wasActive = false)
      ∧
    (∃ (s : State) (e : _), hingeOn s = true ∧ s.hng.role = .active ∧ e ≤ s.hng.sentEpoch) :=
  ⟨⟨{ paired with hng.role := .standby }, 2, by decide +kernel⟩,
    ⟨{ paired with hng.role := .standby, hng.lineHeard := some 5 }, 5, by decide +kernel⟩,
    ⟨{ paired with hng.role := .standby }, by decide +kernel⟩,
    ⟨{ paired with hng.role := .standby }, by decide +kernel⟩,
    ⟨{ paired with hng.role := .standby, hng.synced := true, hng.asked := 2 }, 2, by decide +kernel⟩,
    ⟨{ running with hng.yielding := true }, by decide +kernel⟩,
    ⟨{ paired with hng.role := .active }, by decide +kernel⟩,
    ⟨paired, by decide +kernel⟩,
    ⟨{ paired with hng.role := .active }, 0, by decide +kernel⟩⟩

theorem witness_HingeCommandsComplete :
    (∃ (s : State), hingeOn s = true ∧ s.hng.role = .standby ∧ s.hng.resync = true ∧ s.dom.d2 = true ∧ inHoldup s = false) ∧
    (∃ (s : State) (diff : Int), hingeOn s = true ∧ s.hng.role = .active ∧ s.dom.d3 = true ∧ inHoldup s = false ∧
      (s.hng.proofAsked = true ∨ proofDue s = true) ∧ diff.natAbs ≤ 10 * param s 0x0D03) ∧
    (∃ (s : State) (r : Req), Taken 0x0D00 r s) ∧
    (∃ (s : State) (r : Req), Taken 0x0D01 r s ∧ hingeOn s = true ∧ s.hng.role ≠ .none ∧ inHoldup s = false ∧ s.hng.synced =
      true) ∧
    (∃ (s : State) (r : Req), Taken 0x0D02 r s ∧ hingeOn s = true ∧ s.hng.role = .standby ∧ max (s.hng.linkHeard.getD 0)
      (s.hng.lineHeard.getD 0) + Tick.s 1 ≤ s.clk.now) ∧
    (∃ (s : State) (r : Req), Taken 0x0D03 r s ∧ hingeOn s = true ∧ s.hng.synced = true) :=
  ⟨⟨{ paired with hng.role := .standby, hng.resync := true }, by decide +kernel⟩,
    ⟨{ paired with hng.role := .active, hng.proofAsked := true }, 0, by decide +kernel⟩,
    ⟨running, rq, ⟨by decide +kernel, by decide +kernel⟩⟩,
    ⟨{ paired with hng.role := .active, hng.synced := true }, rq, ⟨by decide +kernel, by decide +kernel⟩, by
      decide +kernel⟩,
    ⟨{ paired with hng.role := .standby }, rq, ⟨by decide +kernel, by decide +kernel⟩, by decide +kernel⟩,
    ⟨{ paired with hng.synced := true }, rq, ⟨by decide +kernel, by decide +kernel⟩, by decide +kernel⟩⟩

theorem witness_UpdateCommandsComplete :
    (∃ (s : State) (r : Req), Taken 0x0E00 r s) ∧
    (∃ (s : State) (r : Req) (m : _), Taken 0x0E01 r s ∧ s.upd.stage ≠ 1 ∧ s.upd.stage ≠ 2 ∧ s.upd.verifying = false ∧
      bundleLen m ≤ 10 * 2 ^ 20) ∧
    (∃ (s : State) (r : Req) (off : _) (data : List Byte) (g : _), Taken 0x0E02 r s ∧ s.upd.staging = some g ∧ s.upd.stage =
      1 ∧ g.source = 1 ∧ s.upd.verifying = false ∧ off % 4 = 0 ∧ data ≠ [] ∧ data.length ≤ 4088 ∧ off + data.length ≤
      g.total) ∧
    (∃ (s : State) (r : Req) (g : _), Taken 0x0E03 r s ∧ s.upd.staging = some g ∧ g.total ≤ nextMissing g) ∧
    (∃ (s : State) (g : _), s.upd.staging = some g ∧ s.upd.verifying = true ∧ serving s = true ∧ inHoldup s = false) ∧
    (∃ (s : State) (r : Req), Taken 0x0E04 r s ∧ activateMode s = true ∧ sessionOpen s = false ∧ kmOpen s = true ∧
      s.upd.stage = 2 ∧ pairBundle s = false) ∧
    (∃ (s : State) (r : Req), Taken 0x0E04 r s ∧ activateMode s = true ∧ sessionOpen s = false ∧ kmOpen s = true ∧
      s.upd.stage = 2 ∧ pairBundle s = true ∧ hingeOn s = true ∧ s.hng.synced = true ∧ s.hng.role = .active) ∧
    (∃ (s : State) (at0 : _), s.upd.restartAt = some at0 ∧ inHoldup s = false) ∧
    (∃ (s : State), s.upd.restartAt = none ∧ hingeOn s = true ∧ inHoldup s = false ∧ s.upd.record.state = 0 ∧ s.upd.pairWait
      = true ∧ s.hng.role ≠ .active ∧ sessionOpen s = false ∧ kmOpen s = true) ∧
    (∃ (s : State) (r : Req), Taken 0x0E05 r s ∧ s.upd.record.state = 1 ∧ trialOver s = false ∧ s.mode.mode ≠ .none) ∧
    (∃ (s : State) (at0 : _), s.upd.trialSince = some at0 ∧ s.upd.record.state = 1 ∧ param s 0x0E03 = 1 ∧ s.inp.faults = []
      ∧ s.shu.latches = 0 ∧ trialOver s = false) ∧
    (∃ (s : State), s.upd.record.state = 1 ∧ s.dom.d2 = true ∧ inHoldup s = false) ∧
    (∃ (s : State), chainOn s = true ∧ ownAddr s ≠ 0) ∧
    (∃ (s : State), chainOn s = true ∧ ownAddr s ≠ 0) ∧
    (∃ (s : State), chainOn s = true ∧ ownAddr s ≠ 0) ∧
    (∃ (s : State), chainOn s = true ∧ ownAddr s ≠ 0) ∧
    (∃ (s : State) (g : _) (n : _) (at0 : _), s.upd.staging = some g ∧ g.fetch = some (n, at0) ∧ chainWrites s = true ∧
      chainOn s = true ∧ g.offerers = [n]) :=
  ⟨⟨running, rq, ⟨by decide +kernel, by decide +kernel⟩⟩,
    ⟨{ running with upd.stage := 0 }, rq, zeros 704, ⟨by decide +kernel, by decide +kernel⟩, by decide +kernel⟩,
    ⟨{ running with upd.staging := some staging0, upd.stage := 1 }, rq, 700, zeros 4, staging0, ⟨by decide +kernel, by
      decide +kernel⟩, by decide +kernel⟩,
    ⟨{ running with upd.staging := some staging0 }, rq, staging0, ⟨by decide +kernel, by decide +kernel⟩, by
      decide +kernel⟩,
    ⟨{ running with upd.staging := some staging0, upd.verifying := true }, staging0, by decide +kernel⟩,
    ⟨{ running with upd.staging := some staging0, upd.stage := 2 }, rq, ⟨by decide +kernel, by decide +kernel⟩, by
      decide +kernel⟩,
    ⟨{ paired with
        upd.staging := some { staging0 with manifest := [0, 0, 1] }, upd.stage := 2, hng.synced := true,
        hng.role := .active }, rq, ⟨by decide +kernel, by decide +kernel⟩, by decide +kernel⟩,
    ⟨{ running with upd.restartAt := some 5 }, 5, by decide +kernel⟩,
    ⟨{ paired with upd.pairWait := true, hng.role := .standby }, by decide +kernel⟩,
    ⟨{ running with upd.record.state := 1 }, rq, ⟨by decide +kernel, by decide +kernel⟩, by decide +kernel⟩,
    ⟨{ withParam 0x0E03 1 running with upd.trialSince := some 5, upd.record.state := 1 }, 5, by decide +kernel⟩,
    ⟨{ running with upd.record.state := 1, dom.d2 := true }, by decide +kernel⟩,
    ⟨withParam 0x0E01 1 node, by decide +kernel⟩,
    ⟨withParam 0x0E01 1 node, by decide +kernel⟩,
    ⟨withParam 0x0E01 1 node, by decide +kernel⟩,
    ⟨withParam 0x0E01 1 node, by decide +kernel⟩,
    ⟨{ withParam 0x0E01 1 node with
        upd.stage := 1, upd.staging := some { staging0 with source := 2, bytes := List.replicate 704 none } },
      { staging0 with source := 2, bytes := List.replicate 704 none }, 5, 5, by decide +kernel⟩⟩

theorem witness_AuxSensingCommandsComplete :
    (∃ (s : State), s.dom.d3 = true ∧ s.adc.running = none) ∧
    (∃ (s : State) (c : _), s.dom.d3 = true ∧ s.adc.running = some c) ∧
    (∃ (s : State), s.dom.d3 = true ∧ s.adc.running = none) ∧
    (∃ (s : State) (ch : _), s.dom.d3 = true ∧ bitN (param s 0x1007) 0 = true ∧ s.adc.trig = none ∧ trigChannel s 0 = some
      ch ∧ s.adc.running = none) ∧
    (∃ (s : State) (a : _) (i : _), tempTarget s = some a ∧ s.adc.iTemp = some i ∧ serving s = true ∧ i < a) ∧
    (∃ (s : State) (r : Req) (mask : _), Taken 0x1000 r s ∧ mask ≠ 0 ∧ mask < 2 ^ 24) ∧
    (∃ (s : State) (r : Req) (ch : _) (n : _), Taken 0x1001 r s ∧ ch < 24 ∧ n ≠ 0 ∧ n ≤ 64 ∧ s.adc.converts.length < 4) ∧
    (∃ (s : State) (r : Req) (n : _), Taken 0x1002 r s ∧ n ≠ 0 ∧ n ≤ 64) :=
  ⟨⟨{ running with dom.d3 := true, adc.running := none }, by decide +kernel⟩,
    ⟨{ running with adc.running := some conversion0 }, conversion0, by decide +kernel⟩,
    ⟨{ running with dom.d3 := true, adc.running := none }, by decide +kernel⟩,
    ⟨withParam 0x1007 1 (withParam 0x1008 3 running), 3, by decide +kernel⟩,
    ⟨{ withParam 0x1002 2 running with adc.iTemp := some 0 }, _, 0, rfl, by decide +kernel⟩,
    ⟨running, rq, 2 ^ 24 - 1, ⟨by decide +kernel, by decide +kernel⟩, by decide +kernel⟩,
    ⟨running, rq, 23, 64, ⟨by decide +kernel, by decide +kernel⟩, by decide +kernel⟩,
    ⟨running, rq, 64, ⟨by decide +kernel, by decide +kernel⟩, by decide +kernel⟩⟩

theorem witness_NightlatchCommandsComplete :
    (∃ (s : State), s.pwr.rails = true ∧ s.dom.d2 = true) ∧
    (∃ (s : State), s.dom.d0 = true ∧ s.dom.d2 = true ∧ idleMode s = true ∧ coilOn s = false ∧ s.nl.armed = false) ∧
    (∃ (s : State), idleArmed s = true ∧ s.dom.d2 = true ∧ 100 ≤ s.nl.accN) ∧
    (∃ (s : State) (i : _) (r : _) (at0 : _), s.nl.rules[i]? = some r ∧ r.since = some at0 ∧ s.dom.d3 = true ∧ ruleAction s
      i ≠ 0) ∧
    (∃ (s : State) (at0 : _), s.nl.wakePulse = some at0) ∧
    (∃ (s : State) (r : Req), Taken 0x1003 r s) ∧
    (∃ (s : State) (r : Req), Taken 0x1004 r s) ∧
    (∃ (s : State), s.pwr.rails = true) :=
  ⟨⟨{ running with pwr.rails := true, dom.d2 := true }, by decide +kernel⟩,
    ⟨{ running with dom.d0 := true, dom.d2 := true, nl.armed := false }, by decide +kernel⟩,
    ⟨{ running with nl.armed := true, nl.accN := 100 }, by decide +kernel⟩,
    ⟨{ withParam 0x100D 256 running with nl.rules := [⟨false, some 5⟩] }, 0, ⟨false, some 5⟩, 5, by decide +kernel⟩,
    ⟨{ running with nl.wakePulse := some 5 }, 5, by decide +kernel⟩,
    ⟨running, rq, ⟨by decide +kernel, by decide +kernel⟩⟩,
    ⟨running, rq, ⟨by decide +kernel, by decide +kernel⟩⟩,
    ⟨{ running with pwr.rails := true }, by decide +kernel⟩⟩

theorem witness_RecorderPortCommandsComplete :
    (∃ (s : State) (n : Nat) (b : Bucket) (at0 : _), s.diag.buckets[n]? = some b ∧ b.since = some at0 ∧ s.dom.d3 = true) ∧
    (∃ (s : State) (r : Req), Taken 0x0F00 r s) ∧
    (∃ (s : State) (r : Req) (first : _) (n : _) (es : _), Taken 0x0F01 r s ∧ n ≠ 0 ∧ n ≤ 63 ∧ es = (s.diag.ring.drop
      first).take (if r.sender = .letterbox then min 3 n else n)) ∧
    (∃ (s : State) (r : Req), Taken 0x0F02 r s ∧ s.diag.freeze = none ∧ inHoldup s = false) ∧
    (∃ (s : State) (r : Req), Taken 0x0F03 r s ∧ inHoldup s = false ∧ s.diag.freeze = none ∧ s.diag.queue = [] ∧ param s
      0x0F04 ≠ 1) ∧
    (∃ (s : State) (f : _), s.diag.freeze = some f ∧ s.dom.d3 = true) ∧
    (∃ (s : State), portRuns s = true ∧ s.rs.driver = false ∧ s.rs.rx.length < 256) ∧
    (∃ (s : State) (at0 : _), s.rs.last = some at0 ∧ portRuns s = true) ∧
    (∃ (s : State) (r : Req) (data : List Byte), Taken 0x0160 r s ∧ data ≠ [] ∧ data.length ≤ 256 ∧ portRuns s = true ∧
      s.rs.send = none) ∧
    (∃ (s : State) (r : _) (d : _), s.rs.send = some (r, d) ∧ portRuns s = true ∧ s.rs.driver = true) ∧
    (∃ (s : State), s.pwr.vbat = false ∧ s.pwr.rails = false) ∧
    (∃ (s : State), s.pwr.v12Out = true) ∧
    (∃ (s : State) (at0 : _), s.pwr.v12Tripped = some at0 ∧ s.pwr.rails = true) :=
  ⟨⟨{ running with diag.buckets := [{ since := some 5 }] }, 0, { since := some 5 }, 5, by decide +kernel⟩,
    ⟨running, rq, ⟨by decide +kernel, by decide +kernel⟩⟩,
    ⟨running, rq, 0, 63, _, ⟨by decide +kernel, by decide +kernel⟩, by decide +kernel, by decide +kernel, rfl⟩,
    ⟨{ running with diag.freeze := none }, rq, ⟨by decide +kernel, by decide +kernel⟩, by decide +kernel⟩,
    ⟨withParam 0x0F04 0 running, rq, ⟨by decide +kernel, by decide +kernel⟩, by decide +kernel⟩,
    ⟨{ running with diag.freeze := some (.hostSpi, 5) }, (.hostSpi, 5), by decide +kernel⟩,
    ⟨withParam 0x010C 19200 running, by decide +kernel⟩,
    ⟨{ withParam 0x010C 19200 running with rs.last := some 5 }, 5, by decide +kernel⟩,
    ⟨withParam 0x010C 19200 running, rq, zeros 256, ⟨by decide +kernel, by decide +kernel⟩, by decide +kernel⟩,
    ⟨{ withParam 0x010C 19200 running with rs.send := some (rq, []), rs.driver := true }, rq, [], by decide +kernel⟩,
    ⟨{ running with pwr.vbat := false, pwr.rails := false }, by decide +kernel⟩,
    ⟨{ running with pwr.v12Out := true }, by decide +kernel⟩,
    ⟨{ running with pwr.v12Tripped := some 5 }, 5, by decide +kernel⟩⟩

theorem witness_StepIdlesOnEmptyQueue :
    ∃ (s : State), s.pending = [] :=
  ⟨running, by decide +kernel⟩

theorem witness_QueueAndIdentityKept :
    ∃ (c : Instr) (s : State) (t : State), exec c s = .next t :=
  ⟨.reclaim, running, _, rfl⟩

theorem witness_StepKeepsMemoryOk :
    ∃ (s : State) (t : State), MemoryOk s ∧ step s = .next t :=
  ⟨{ running with pending := [.dmaStatus rq] }, _, by unfold MemoryOk; decide +kernel, rfl⟩

theorem witness_StepKeepsShape :
    ∃ (s : State) (t : State), Shape s ∧ step s = .next t :=
  ⟨{ running with pending := [.dmaStatus rq] }, _, by unfold Shape; decide +kernel, rfl⟩

theorem witness_StepNeverTurnsTimeBack :
    ∃ (s : State) (t : State), step s = .next t :=
  ⟨{ running with pending := [.watchdogExpiry] }, _, rfl⟩

theorem witness_MemoryFrame :
    (∃ (c : Instr) (s : State) (t : State), exec c s = .next t ∧ (∀ b, c ≠ .dmaBurst b) ∧ c ≠ .railsFall ∧ c ≠
      .waveCaptureCopy) ∧
    (∃ (s : State) (t : State), exec (.dmaBurst true) s = .next t) ∧
    (∃ (s : State) (t : State) (a : _), exec .waveCaptureCopy s = .next t ∧ (¬ (captureBase ≤ a ∧ a < captureBase +
      captureSize))) ∧
    (∃ (s : State) (q : _) (rest : _), s.led.captureWait = q :: rest ∧ s.dom.d3 = true ∧ semOwner s 0 = none) ∧
    (∃ (s : State) (t : State), exec .railsFall s = .next t ∧ s.pwr.rails = true) :=
  ⟨⟨.reclaim, running, _, rfl, (fun _ h => by cases h), (fun h => by cases h), (fun h => by cases h)⟩,
    ⟨withDma 4 { run := some run0 } running, _, rfl⟩,
    ⟨{ running with led.captureWait := [(none, 1, 1)] }, _, 0x0FFFFFFF, rfl, by decide +kernel⟩,
    ⟨{ running with led.captureWait := [(none, 1, 1)] }, (none, 1, 1), [], by decide +kernel⟩,
    ⟨running, _, rfl, by decide +kernel⟩⟩

theorem witness_DmaBurstStores :
    (∃ (s : State) (t : State) (c : _) (r : _) (a : _), dmaGrant s = some c ∧ (dmaChan s c).run = some r ∧ exec (.dmaBurst
      false) s = .next t ∧ ((∀ k, k < 16 → r.moved + k < dTotal r.words → ¬ (dAddr r.words true (r.moved + k) ≤ a ∧ a <
      dAddr r.words true (r.moved + k) + dSize r.words)))) ∧
    (∃ (s : State) (t : State) (c : _) (r : _), dmaGrant s = some c ∧ (dmaChan s c).run = some r ∧ r.moved + 1 = dTotal
      r.words ∧ MemoryOk s ∧ Shape s ∧ ((∀ k, k < dSize r.words → viewRecord s (dAddr r.words true r.moved + k) = none)) ∧
      exec (.dmaBurst false) s = .next t) :=
  ⟨⟨withDma 4 { run := some run0 } running, _, 4, run0, 0, by decide +kernel, by decide +kernel, rfl, by decide +kernel⟩,
    ⟨withDma 4 { run := some run0 } running, _, 4, run0, by decide +kernel, by decide +kernel, by decide +kernel,
      by unfold MemoryOk; decide +kernel, by unfold Shape; decide +kernel, by decide +kernel, rfl⟩⟩

theorem witness_PacketRoundTrip :
    ∃ (c : _) (flags : _) (op : _) (q : _) (payload : List Byte), c < 256 ∧ flags < 16 ∧ op < 65536 ∧ q < 256 ∧
      payload.length ≤ 4096 :=
  ⟨255, 15, 65535, 255, zeros 4096, by decide +kernel⟩

theorem witness_FrameMeasurement :
    ∃ (c : Instr) (s : State) (t : State), chapterOf c ≤ 7 ∧ exec c s = .next t :=
  ⟨.reclaimTimerExpiry, running, _, by decide +kernel, rfl⟩

theorem witness_FrameRecordsInterfaces :
    ∃ (c : Instr) (s : State) (t : State), 8 ≤ chapterOf c ∧ chapterOf c ≤ 12 ∧ exec c s = .next t :=
  ⟨.dmaStatus rq, running, _, by decide +kernel, by decide +kernel, rfl⟩

theorem witness_FrameVehicleShutterKeys :
    ∃ (c : Instr) (s : State) (t : State), 13 ≤ chapterOf c ∧ chapterOf c ≤ 17 ∧ exec c s = .next t :=
  ⟨.close, running, _, by decide +kernel, by decide +kernel, rfl⟩

theorem witness_FrameDisplayFabricUpdate :
    ∃ (c : Instr) (s : State) (t : State), 18 ≤ chapterOf c ∧ exec c s = .next t :=
  ⟨.nlWakeAck rq, running, _, by decide +kernel, rfl⟩

theorem witness_SnapshotReadLayout :
    ∃ (s : State) (r : Req), Taken 0x0300 r s ∧ Shape s :=
  ⟨running, rq, ⟨by decide +kernel, by decide +kernel⟩, by unfold Shape; decide +kernel⟩

theorem witness_SemaphoreTimeout :
    ∃ (s : State) (n : Nat) (q : Sem), s.dom.d3 = true ∧ s.kiln.sems[n]? = some q ∧ q.owner = some 0x10 :=
  ⟨withSem 15 0x10 running, 15, ⟨some 0x10, 5⟩, by decide +kernel⟩

theorem witness_WedgeStallHoldsChannel :
    (∃ (s : State) (c : _) (r : _), dmaGrant s = some c ∧ (dmaChan s c).run = some r ∧ c < s.dma.chans.length) ∧
    (∃ (s : State) (c : _), inHoldup s = false ∧ bitN ((s.kiln.wedge[if c < 4 then 3 else 4]?).getD 0) (c % 4) = true) ∧
    (∃ (s : State) (c : _), bitN ((s.kiln.wedge[if c < 4 then 3 else 4]?).getD 0) (c % 4) = false) ∧
    (∃ (s : State) (c : _), s.clk.now < (dmaChan s c).stallEnd) ∧
    (∃ (s : State) (t : State) (c : _) (d : _) (e : _), s.clk.now < (dmaChan s c).stallEnd ∧ dmaGrant s = some d ∧ exec
      (.dmaBurst e) s = .next t) ∧
    (∃ (s : State) (d : _), d < 8 ∧ dmaReady s d = true) :=
  ⟨⟨withDma 7 { run := some run0 } running, 7, run0, by decide +kernel⟩,
    ⟨{ running with kiln.wedge := [0, 0, 0, 0, 0x10001, 0, 0] }, 4, by decide +kernel⟩,
    ⟨running, 4, by decide +kernel⟩,
    ⟨withDma 4 { stallEnd := 20000000000 } running, 4, by decide +kernel⟩,
    ⟨withDma 4 { stallEnd := 20000000000 } (withDma 7 { run := some run0 } running), _, 4, 7, false, by decide +kernel, by
      decide +kernel, rfl⟩,
    ⟨withDma 7 { run := some run0 } running, 7, by decide +kernel⟩⟩

theorem witness_CalendarLoadChecks :
    (∃ (s : State) (r : Req) (o : _), Taken 0x0403 r s ∧ billRefusal s = none ∧ o.length = (calOffsets o).2.2.2 + 4 ∧ (crcAt
      o (calOffsets o).2.2.2 = false ∨ calFits (calOf o) = false)) ∧
    (∃ (s : State) (r : Req) (o : _), Taken 0x0403 r s ∧ billRefusal s = none ∧ o.length = (calOffsets o).2.2.2 + 4 ∧ crcAt
      o (calOffsets o).2.2.2 = true ∧ calFits (calOf o) = true) :=
  ⟨⟨running, rq, zeros 36, ⟨by decide +kernel, by decide +kernel⟩, by decide +kernel⟩,
    ⟨running, rq, calendar0, ⟨by decide +kernel, by decide +kernel⟩, by decide +kernel⟩⟩

end Sys2Proof.Tests
end

/-! What each command may change: every meaning keeps all blocks but the ones that `touches` lists for it. The frames of the
shared operations are those of Laws.Frame; here they are put together, one lemma for each meaning. -/

namespace Sys2Proof.Frames

open Sys2Proof Sys2Proof.Machine Sys2Proof.Safety Sys2Proof.Laws

/-! Rules for the shapes of a meaning. -/

/-- A conditional state agrees with another, blocks forgotten, when each branch does. The decision procedure is a plain
argument, so that the rule still applies once the condition has been rewritten. -/
@[simp] theorem forget_ite_eq_iff (bl : Block → Bool) (c : Prop) {_ : Decidable c} (a b x : State) :
    forget bl (if c then a else b) = x ↔ (c → forget bl a = x) ∧ (¬ c → forget bl b = x) := by
  split <;> simp_all

/-- The same of the state that a conditional answer leaves. -/
@[simp] theorem forget_ite_state_eq_iff (bl : Block → Bool) (c : Prop) {_ : Decidable c} (a b : Answer) (x : State) :
    forget bl (if c then a else b).state = x ↔ (c → forget bl a.state = x) ∧ (¬ c → forget bl b.state = x) := by
  split <;> simp_all

/-- A billing command is refused, which leaves the state, or does its work. -/
@[simp] theorem forget_billing_iff (bl : Block → Bool) (s : State) (f : State → Answer) :
    forget bl (billing s f).state = forget bl s ↔ (billRefusal s = none → forget bl (f s).state = forget bl s) := by
  unfold billing
  split <;> simp_all

/-- Two stretches of a meaning, each of which keeps the rest, keep it together. -/
theorem forget_via {bl : Block → Bool} {a c : State} (b : State) (hc : forget bl c = forget bl b)
    (hb : forget bl b = forget bl a) : forget bl c = forget bl a :=
  hc.trans hb

/-- What is forgotten twice is forgotten as by the larger mask alone. -/
theorem forget_forget_of_le {m m' : Block → Bool} (hle : ∀ b, m b = true → m' b = true) (s : State) :
    forget m' (forget m s) = forget m' s := by
  have key : ∀ {α : Type} (b : Block) (x y : α),
      (if m' b then x else if m b then x else y) = if m' b then x else y := by
    intro α b x y
    cases hm : m b
    · simp
    · simp [hle b hm]
  simp only [forget, key]

/-- States that differ at most in some blocks agree when a mask over these blocks is forgotten. -/
theorem forget_of_onlyChanges {l : List Block} {m : Block → Bool} {s t : State} (hle : l.all m = true)
    (h : onlyChanges l s t) : forget m t = forget m s := by
  have hm : ∀ b, l.contains b = true → m b = true :=
    fun b hb => List.all_eq_true.mp hle b (List.contains_iff_mem.mp hb)
  unfold onlyChanges at h
  rw [← forget_forget_of_le hm t, h, forget_forget_of_le hm s]

/-- An outcome is a next state that differs from this one at most in the listed blocks. -/
def Within (l : List Block) (s : State) (o : Out) : Prop := ∀ t, o = .next t → onlyChanges l s t

section Shapes

variable {l : List Block} {s : State}

theorem within_next {t : State} (h : forget l.contains t = forget l.contains s) : Within l s (.next t) := by
  intro _ ht
  cases ht
  exact h

theorem within_self : Within l s (.next s) := within_next rfl

theorem within_whenever {c : Bool} {f : State → State} (hf : ∀ u, forget l.contains (f u) = forget l.contains u) :
    Within l s (whenever c s f) :=
  fun t h => forget_whenever c s t f h hf

theorem within_serveRequest {p : ShuReq → Bool} {f : State → State} (hclk : l.contains .clk = true)
    (hshu : l.contains .shu = true) (hf : ∀ u, forget l.contains (f u) = forget l.contains u) :
    Within l s (serveRequest p s f) :=
  fun t h => forget_serveRequest p s t f h hclk hshu hf

theorem within_fieldCmd {dest : Nat} {f : State → State} (hcon : l.contains .con = true)
    (hf : ∀ u, forget l.contains (f u) = forget l.contains u) : Within l s (fieldCmd dest s f) :=
  fun t h => forget_fieldCmd dest s t f h hcon hf

theorem within_received {dst : Nat} {f : State → State}
    (hwatch : forget l.contains (mcWatch dst s) = forget l.contains s)
    (hf : ∀ u, forget l.contains (f u) = forget l.contains u) : Within l s (received dst s f) := by
  unfold received
  split
  · exact within_next (by simp [hwatch])
  · exact within_whenever hf

theorem within_brixo {code : Nat} {r : Req} {f : State → Answer} (hreply : replyParts.all l.contains = true)
    (hf : ∀ u, forget l.contains (f u).state = forget l.contains u) : Within l s (brixo code r s f) :=
  have hb : ∀ b ∈ replyParts, l.contains b = true := List.all_eq_true.mp hreply
  fun t h => forget_brixo code r s t f h (hb _ (by decide)) (hb _ (by decide)) (hb _ (by decide)) (hb _ (by decide))
    (hb _ (by decide)) hf

/-- A command run for its effect alone keeps what it keeps as a command. -/
theorem forget_after_of_within {l' : List Block} {o : Out} (hle : l.all l'.contains = true) (h : Within l s o) :
    forget l'.contains (after o s) = forget l'.contains s :=
  forget_after o s fun t ht => forget_of_onlyChanges hle (h t ht)

end Shapes

/-! Chapter 1: architecture. -/

theorem execEpochStateCapture_within (s : State) :
    Within [.clk, .pwr, .dom, .inp, .cal, .led, .bil, .snap, .pq, .kiln] s (execEpochStateCapture s) :=
  within_whenever fun u => by
    simp (disch := decide) only [forget_shBoundary, forget_wedgeBoundary, forget_missBoundary, forget_tcCompute,
        forget_setInp, forget_sets_5_clk, forget_setLed, forget_advanceTo]

theorem execEpochLatch_within (s : State) :
    Within [.recl, .inp, .sie, .met, .cal, .led, .hatch, .shu, .snap, .pq, .veh, .hng, .upd, .diag]
      s (execEpochLatch s) := by
  unfold execEpochLatch
  split
  · exact within_whenever fun u => by simp (disch := decide)
  · exact within_self

theorem execRailsFall_within (s : State) : Within restartParts s (execRailsFall s) :=
  within_whenever fun u => by simp (disch := decide)

/-! Chapter 2: modes, power and reset. -/

theorem execMainsApplied_within (elapsed : Nat) (s : State) :
    Within [.clk, .pwr, .mode] s (execMainsApplied elapsed s) :=
  within_whenever fun u => by
    dsimp only
    split <;> simp (disch := decide)

theorem execRailsGood_within (s : State) : Within [.pwr, .dom, .bil, .nl] s (execRailsGood s) :=
  within_whenever fun u => by
    simp (disch := decide) only [forget_set_bil_nl, forget_setNl, forget_set_pwr_dom_nl, forget_ite_eq_iff,
        implies_true, and_self]

theorem execD1Start_within (okA okB equal : Bool) (s : State) :
    Within [.dom, .led, .hatch, .par, .shu, .hng, .upd, .diag] s (execD1Start okA okB equal s) :=
  within_whenever fun u => by simp (disch := decide)

theorem execVholdReachesThreshold_within (s : State) : Within [.pwr] s (execVholdReachesThreshold s) :=
  within_whenever fun u => by simp (disch := decide)

theorem execHoldupCapMeasured_within (drop : Nat) (s : State) :
    Within [.clk, .pwr, .hold, .led] s (execHoldupCapMeasured drop s) := by
  unfold execHoldupCapMeasured
  split
  · exact within_self
  · dsimp only
    exact within_next (by simp (disch := decide))

theorem execVholdChargeTimeout_within (s : State) : Within [.clk, .hold, .led] s (execVholdChargeTimeout s) :=
  within_whenever fun u => by simp (disch := decide)

theorem execFirstModeEntered_within (versionsOk : Bool) (s : State) :
    Within restartParts s (execFirstModeEntered versionsOk s) :=
  within_whenever fun u => by simp (disch := decide)

theorem execInterimToService_within (s : State) :
    Within (replyParts ++ [.mode, .hng, .nl, .rs]) s (execInterimToService s) :=
  within_whenever fun u => by simp (disch := decide)

theorem execSysModeGet_within (r : Req) (s : State) :
    Within (replyParts ++ [.clk, .dom, .mode, .recl, .inp, .sie, .cal, .bil, .shu, .sag, .kiln, .veh, .lsw, .hng])
      s (execSysModeGet r s) :=
  within_brixo rfl fun u => by simp (disch := decide)

theorem execSysModeRequest_within (r : Req) (target : Nat) (s : State) :
    Within (replyParts ++ [.mode]) s (execSysModeRequest r target s) :=
  within_brixo rfl fun u => by (repeat' split) <;> simp (disch := decide)

theorem execModeChangeEffective_within (s : State) : Within restartParts s (execModeChangeEffective s) := by
  unfold execModeChangeEffective
  split
  · exact within_whenever fun u => by simp (disch := decide)
  · split
    · exact within_self
    · exact within_whenever fun u => by simp (disch := decide)

theorem execSysReset_within (r : Req) (scope : Nat) (s : State) :
    Within (replyParts ++ [.mode]) s (execSysReset r scope s) :=
  within_brixo rfl fun u => by simp (disch := decide)

theorem execSysResetBegin_within (s : State) : Within restartParts s (execSysResetBegin s) := by
  unfold execSysResetBegin
  split
  · exact within_self
  · exact within_whenever fun u => by simp (disch := decide)

theorem execSysHoldupInfo_within (r : Req) (s : State) : Within replyParts s (execSysHoldupInfo r s) :=
  within_brixo rfl fun u => by simp (disch := decide)

theorem execWatchDelayExpiry_within (s : State) :
    Within (replyParts ++ [.mode, .hng, .nl, .rs]) s (execWatchDelayExpiry s) :=
  within_whenever fun u => by simp (disch := decide)

theorem execWatchWake_within (src : Nat) (s : State) :
    Within (replyParts ++ [.clk, .mode, .hng, .nl, .rs]) s (execWatchWake src s) :=
  within_whenever fun u => by simp (disch := decide)

theorem execMainsFailDetection_within (bulk : Nat) (s : State) :
    Within (replyParts ++ [.clk, .pwr, .mode, .hold, .recl, .cal, .led, .bil, .shu, .pq, .dma, .veh, .lsw, .nl, .rs])
      s (execMainsFailDetection bulk s) :=
  within_whenever fun u => by simp (disch := decide)

theorem execMainsAbsentDecision_within (s : State) :
    Within [.clk, .hold, .inp, .met, .led, .hatch, .snap, .pq, .hng, .diag] s (execMainsAbsentDecision s) :=
  within_whenever fun u => by simp (disch := decide)

theorem execFinalSignedReading_within (s : State) :
    Within (replyParts ++ [.clk, .hold, .inp, .met, .led, .bil, .shu, .sag, .pq, .veh, .hng])
      s (execFinalSignedReading s) :=
  within_whenever fun u => by
    dsimp only
    (repeat' split) <;> simp (disch := decide)

theorem execHoldupSequenceEnd_within (s : State) : Within restartParts s (execHoldupSequenceEnd s) := by
  unfold execHoldupSequenceEnd
  dsimp only
  exact within_whenever fun u => by simp (disch := decide)

theorem execHrstLow_within (us : Nat) (s : State) : Within restartParts s (execHrstLow us s) :=
  within_whenever fun u => by simp (disch := decide)

theorem execWatchdogExpiry_within (s : State) : Within restartParts s (execWatchdogExpiry s) :=
  within_whenever fun u => by simp (disch := decide)

theorem execEnginePoolFault_within (s : State) : Within restartParts s (execEnginePoolFault s) :=
  within_whenever fun u => by simp (disch := decide)

theorem execTimebaseFault_within (s : State) :
    Within [.clk, .dom, .recl, .inp, .sie, .met, .cal, .led, .hatch, .shu, .pq, .veh, .hng, .upd, .diag]
      s (execTimebaseFault s) :=
  within_whenever fun u => by simp (disch := decide)

theorem execSpyholeReset_within (s : State) : Within restartParts s (execSpyholeReset s) :=
  within_whenever fun u => by simp (disch := decide)

theorem execReclaimTimerExpiry_within (s : State) :
    Within [.clk, .recl, .hatch, .shu, .veh, .diag] s (execReclaimTimerExpiry s) := by
  unfold execReclaimTimerExpiry
  split
  · exact within_self
  · exact within_whenever fun u => by simp (disch := decide)

theorem execReclaim_within (s : State) : Within [.clk, .recl, .hatch, .shu, .veh, .diag] s (execReclaim s) :=
  within_serveRequest rfl rfl fun u => by simp (disch := decide)

/-! Chapter 3: measurement inputs. -/

theorem execStatusFrame_within (ok supplyGood : Bool) (hall : Int) (peZ peNpe : Nat) (dieTemp : Int) (s : State) :
    Within [.recl, .inp, .led, .hatch, .shu, .sag, .veh, .hng, .upd, .diag]
      s (execStatusFrame ok supplyGood hall peZ peNpe dieTemp s) :=
  within_whenever fun u => by simp (disch := decide)

theorem execSample400k_within (bits : List Nat) (s : State) :
    Within [.recl, .inp, .sie, .cal, .led, .hatch, .shu, .pq, .veh, .hng, .upd, .nl, .diag]
      s (execSample400k bits s) :=
  within_whenever fun u => by simp (disch := decide)

theorem execMeteringStopOpen_within (s : State) :
    Within [.clk, .recl, .inp, .led, .hatch, .shu, .pq, .nl, .diag] s (execMeteringStopOpen s) := by
  unfold execMeteringStopOpen
  split
  · exact within_self
  · dsimp only
    exact within_next (by simp (disch := decide))

theorem execMeteringFaultEnd_within (cause slot : Nat) (codes : List Int) (s : State) :
    Within [.clk, .inp, .led, .hatch, .diag] s (execMeteringFaultEnd cause slot codes s) := by
  unfold execMeteringFaultEnd
  split
  · exact within_self
  · split
    · exact within_self
    · exact within_whenever fun u => by simp (disch := decide)

theorem execPeWindowEval_within (s : State) : Within [.inp] s (execPeWindowEval s) :=
  within_whenever fun u => by simp (disch := decide)

theorem execMagField_within (s : State) :
    Within [.clk, .inp, .led, .hatch, .shu, .sag, .veh, .diag] s (execMagField s) := by
  unfold execMagField
  split
  · exact within_self
  · exact within_whenever fun u => by simp (disch := decide)

theorem execMagFieldEnd_within (s : State) :
    Within [.clk, .inp, .led, .hatch, .sag, .diag] s (execMagFieldEnd s) := by
  unfold execMagFieldEnd
  split
  · exact within_whenever fun u => by simp (disch := decide)
  · exact within_self

theorem execOverrangeClose_within (k : Nat) (s : State) : Within [.inp, .led] s (execOverrangeClose k s) := by
  unfold execOverrangeClose
  split
  · exact within_self
  · exact within_whenever fun u => by simp (disch := decide)

theorem execGainMismatch_within (c : Nat) (s : State) : Within [.inp, .led] s (execGainMismatch c s) := by
  unfold execGainMismatch
  dsimp only
  split
  · exact within_next (by simp (disch := decide))
  · split
    · exact within_next (by simp (disch := decide))
    · exact within_self

theorem execMetInputStatus_within (r : Req) (s : State) :
    Within (replyParts ++ [.clk, .dom, .mode, .recl, .inp, .sie, .cal, .bil, .shu, .sag, .kiln, .veh, .lsw, .hng])
      s (execMetInputStatus r s) :=
  within_brixo rfl fun u => by simp (disch := decide)

theorem execMetInputSelftest_within (r : Req) (mask : Nat) (s : State) :
    Within (replyParts ++ [.inp]) s (execMetInputSelftest r mask s) :=
  within_brixo rfl fun u => by simp (disch := decide)

theorem execSelftestEnd_within (codes : List Int) (s : State) :
    Within (replyParts ++ [.clk, .inp, .led]) s (execSelftestEnd codes s) := by
  unfold execSelftestEnd
  split
  · exact within_self
  · exact within_whenever fun u => by simp (disch := decide)

/-! Chapter 4: the Sieve filter chain. -/

theorem execSieveSaturationClose_within (k : Nat) (s : State) :
    Within [.sie, .led] s (execSieveSaturationClose k s) := by
  unfold execSieveSaturationClose
  split
  · exact within_self
  · exact within_whenever fun u => by simp (disch := decide)

theorem execMetSieveStatus_within (r : Req) (s : State) :
    Within (replyParts ++ [.clk, .dom, .mode, .recl, .inp, .sie, .cal, .bil, .shu, .sag, .kiln, .veh, .lsw, .hng])
      s (execMetSieveStatus r s) :=
  within_brixo rfl fun u => by simp (disch := decide)

theorem execMetSieveHalt_within (r : Req) (action : Nat) (s : State) :
    Within (replyParts ++ [.sie]) s (execMetSieveHalt r action s) :=
  within_brixo rfl fun u => by simp (disch := decide)

theorem execSieveStop_within (s : State) : Within [.sie, .cal] s (execSieveStop s) := by
  unfold execSieveStop
  split
  · exact within_self
  · exact within_whenever fun u => by simp (disch := decide)

theorem execSieveRestart_within (s : State) : Within [.inp, .sie, .met, .led, .par] s (execSieveRestart s) := by
  unfold execSieveRestart
  split
  · exact within_self
  · refine within_whenever fun u => ?_
    dsimp only
    split <;> simp (disch := decide)

theorem execMetSieveSetLoad_within (r : Req) (data : List Byte) (s : State) :
    Within (replyParts ++ [.sie, .upd]) s (execMetSieveSetLoad r data s) :=
  within_brixo rfl fun u => by
    dsimp only
    (repeat' split) <;> simp (disch := decide)

/-! Chapter 5: energy computation. -/

theorem execMainPathSample_within (s : State) :
    Within [.hold, .inp, .sie, .met, .cal, .led, .hatch, .snap, .pq, .hng, .diag] s (execMainPathSample s) :=
  within_whenever fun u => by (repeat' split) <;> simp (disch := decide)

theorem execMetEnergyRead_within (r : Req) (s : State) : Within replyParts s (execMetEnergyRead r s) :=
  within_brixo rfl fun u => by simp (disch := decide)

theorem execMetMeasRead_within (r : Req) (s : State) : Within replyParts s (execMetMeasRead r s) :=
  within_brixo rfl fun u => by simp (disch := decide)

theorem execMetSumsRead_within (r : Req) (epoch : Nat) (s : State) :
    Within replyParts s (execMetSumsRead r epoch s) :=
  within_brixo rfl fun u => by split <;> simp (disch := decide)

theorem execNeutralMismatch_within (s : State) :
    Within [.clk, .met, .led, .hatch, .shu, .sag, .veh, .diag] s (execNeutralMismatch s) := by
  unfold execNeutralMismatch
  split
  · exact within_self
  · exact within_whenever fun u => by simp (disch := decide)

theorem execReverseFlow_within (x : Nat) (s : State) :
    Within [.clk, .met, .led, .hatch, .shu, .sag, .veh, .diag] s (execReverseFlow x s) := by
  unfold execReverseFlow
  split
  · exact within_self
  · exact within_whenever fun u => by simp (disch := decide)

/-! Chapter 6: calibration and compensation. -/

theorem execCfPulseEdge_within (q : Bool) (s : State) : Within [.clk, .cal] s (execCfPulseEdge q s) := by
  unfold execCfPulseEdge
  dsimp only
  split
  · exact within_self
  · exact within_whenever fun u => by simp (disch := decide)

theorem execCfPulseEnd_within (q : Bool) (s : State) : Within [.clk, .cal] s (execCfPulseEnd q s) := by
  unfold execCfPulseEnd
  dsimp only
  split
  · exact within_self
  · exact within_whenever fun u => by simp (disch := decide)

theorem execMetCalMeasure_within (r : Req) (mask n : Nat) (s : State) :
    Within (replyParts ++ [.cal]) s (execMetCalMeasure r mask n s) :=
  within_brixo rfl fun u => by simp (disch := decide)

theorem execCalMeasureSpanEnd_within (s : State) : Within (replyParts ++ [.cal]) s (execCalMeasureSpanEnd s) := by
  unfold execCalMeasureSpanEnd
  split
  · exact within_self
  · exact within_whenever fun u => by simp (disch := decide)

theorem execMetCalCommit_within (r : Req) (s : State) :
    Within (replyParts ++ [.inp, .cal, .led]) s (execMetCalCommit r s) :=
  within_brixo rfl fun u => by (repeat' split) <;> simp (disch := decide)

theorem execMetTempTableLoad_within (r : Req) (data : List Byte) (s : State) :
    Within (replyParts ++ [.cal]) s (execMetTempTableLoad r data s) :=
  within_brixo rfl fun u => by simp (disch := decide)

theorem execMetTempStatus_within (r : Req) (s : State) :
    Within (replyParts ++ [.clk, .dom, .mode, .recl, .inp, .sie, .cal, .bil, .shu, .sag, .kiln, .veh, .lsw, .hng])
      s (execMetTempStatus r s) :=
  within_brixo rfl fun u => by simp (disch := decide)

theorem execMetLrId_within (r : Req) (s : State) : Within replyParts s (execMetLrId r s) :=
  within_brixo rfl fun u => by simp (disch := decide)

/-! Chapter 7: power quality. -/

theorem execUrmsHalfSegmentEnd_within (s : State) :
    Within [.clk, .hatch, .shu, .pq, .diag] s (execUrmsHalfSegmentEnd s) := by
  unfold execUrmsHalfSegmentEnd
  split
  · exact within_self
  · exact within_whenever fun u => by
      dsimp only
      split <;> simp (disch := decide) only [forget_setPq, forget_set_shu, forget_stepRvc, forget_stepIntr,
          forget_stepSwell, forget_stepDip, forget_ite_eq_iff, implies_true, and_self]

theorem execPqArm_within (s : State) : Within [.clk, .pq] s (execPqArm s) := by
  unfold execPqArm
  split
  · exact within_self
  · exact within_whenever fun u => by simp (disch := decide)

theorem execMetPqSummary_within (r : Req) (last : Nat) (s : State) :
    Within (replyParts ++ [.clk]) s (execMetPqSummary r last s) :=
  within_brixo rfl fun u => by
    dsimp only
    (repeat' split) <;> simp (disch := decide)

theorem execMetPqHarmRead_within (r : Req) (last channel : Nat) (s : State) :
    Within replyParts s (execMetPqHarmRead r last channel s) :=
  within_brixo rfl fun u => by (repeat' split) <;> simp (disch := decide)

theorem execMetPqShRead_within (r : Req) (last channel : Nat) (s : State) :
    Within replyParts s (execMetPqShRead r last channel s) :=
  within_brixo rfl fun u => by (repeat' split) <;> simp (disch := decide)

theorem execMetPqEventRead_within (r : Req) (first count : Nat) (s : State) :
    Within replyParts s (execMetPqEventRead r first count s) :=
  within_brixo rfl fun u => by simp (disch := decide)

/-! Chapter 8: ledger consistency. -/

theorem execD2Start_within (codes : List Int) (setOk : Bool) (lost : Nat) (s : State) :
    Within [.clk, .pwr, .dom, .mode, .recl, .inp, .sie, .met, .cal, .led, .bil, .hatch, .par, .shu, .pq, .veh, .con,
        .hng, .upd, .diag]
      s (execD2Start codes setOk lost s) :=
  within_whenever fun u => by
    extract_lets alone cold counted numbered replayed was super clock started logged lost timed loaded aligned tested
      marked trial
    refine forget_via started (forget_via logged (forget_via timed (forget_via tested ?_ ?_) ?_) ?_) ?_
    · simp (disch := decide) only [trial, marked, forget_writeRecord, forget_setLed, forget_setBil, forget_setPwr,
        forget_ite_eq_iff, implies_true, and_self]
    · simp (disch := decide) only [tested, aligned, loaded, forget_startupTest, forget_setCal, forget_setSie,
        forget_loadRecord, forget_loadSet, forget_closeOutage, forget_closePrevious]
    · dsimp only [timed]
      split <;> simp (disch := decide) only [forget_raise, forget_setLed]
    · simp (disch := decide) only [logged, forget_raise, forget_ite_eq_iff, implies_true, and_self]
    · simp (disch := decide) only [started, super, replayed, numbered, counted, forget_setDom, forget_startCivil,
        forget_writeSuper, forget_replayJournal, forget_nextNumbers, forget_setMode, forget_set_clk]

theorem execRailWarning_within (s : State) :
    Within [.dom, .inp, .met, .cal, .led, .hatch, .snap, .pq, .hng, .diag] s (execRailWarning s) :=
  within_whenever fun u => by
    simp (disch := decide) only [forget_set_dom, forget_setCal, forget_finalEntry]

theorem execJournalAppendComplete_within (firstOk retryOk : Bool) (s : State) :
    Within [.hold, .inp, .met, .led, .hatch, .snap, .pq, .hng, .diag]
      s (execJournalAppendComplete firstOk retryOk s) := by
  unfold execJournalAppendComplete
  split
  · exact within_self
  · split
    · exact within_next (by simp (disch := decide))
    · split
      · exact within_next (by simp (disch := decide))
      · exact within_next (by simp (disch := decide))

theorem execJournalNotDurable_within (s : State) :
    Within [.recl, .inp, .led, .hatch, .shu, .veh, .hng, .upd, .diag] s (execJournalNotDurable s) :=
  within_whenever fun u => by simp (disch := decide)

theorem execMetDeltaRead_within (r : Req) (mask reset : Nat) (s : State) :
    Within (replyParts ++ [.met, .led]) s (execMetDeltaRead r mask reset s) :=
  within_brixo rfl fun u => by simp (disch := decide)

theorem execDelayedReadAndReset_within (s : State) :
    Within (replyParts ++ [.met, .led]) s (execDelayedReadAndReset s) := by
  unfold execDelayedReadAndReset
  split
  · exact within_self
  · exact within_whenever fun u => by simp (disch := decide)

theorem execLedSnapshotRead_within (r : Req) (s : State) : Within replyParts s (execLedSnapshotRead r s) :=
  within_brixo rfl fun u => by simp (disch := decide)

theorem execLedSeriesRead_within (r : Req) (series start max' : Nat) (s : State) :
    Within (replyParts ++ [.clk]) s (execLedSeriesRead r series start max' s) :=
  within_brixo rfl fun u => by
    dsimp only
    (repeat' split) <;> simp (disch := decide)

theorem execLedWaveCapture_within (r : Req) (mask n : Nat) (s : State) :
    Within (replyParts ++ [.led]) s (execLedWaveCapture r mask n s) :=
  within_brixo rfl fun u => by simp (disch := decide)

theorem execWaveCaptureCopy_within (s : State) : Within (replyParts ++ [.led, .dma]) s (execWaveCaptureCopy s) := by
  unfold execWaveCaptureCopy
  split
  · exact within_self
  · exact within_whenever fun u => by simp (disch := decide) only [forget_replyTo, forget_set_dma, forget_setLed]

theorem execLedSignReading_within (r : Req) (challenge : List Byte) (s : State) :
    Within (replyParts ++ [.led]) s (execLedSignReading r challenge s) :=
  within_brixo rfl fun u => by simp (disch := decide)

theorem execSignatureComplete_within (s : State) :
    Within (replyParts ++ [.led, .bil, .sag]) s (execSignatureComplete s) := by
  unfold execSignatureComplete
  dsimp only
  split
  · exact within_self
  · exact within_whenever fun u => by simp (disch := decide)

theorem execPeriodicReadingDue_within (s : State) : Within [.led] s (execPeriodicReadingDue s) := by
  unfold execPeriodicReadingDue
  dsimp only
  exact within_whenever fun u => by simp (disch := decide)

theorem execLedStatus_within (r : Req) (s : State) : Within replyParts s (execLedStatus r s) :=
  within_brixo rfl fun u => by simp (disch := decide)

/-! Chapter 9: billing, tariffs and prepayment. -/

theorem execBilTimeSet_within (r : Req) (newS : Int) (newF how : Nat) (s : State) :
    Within (replyParts ++ [.led, .bil]) s (execBilTimeSet r newS newF how s) :=
  within_brixo rfl fun u => by
    split
    · rfl
    · split
      · rfl
      · refine forget_billing _ _ fun v => ?_
        simp (disch := decide) only [forget_durableAnswer, forget_setBil, forget_timeAdjust, forget_ite_eq_iff,
            implies_true, and_self]

theorem execTimeChangeEffective_within (s : State) :
    Within [.led, .bil, .hatch, .con, .nl, .diag] s (execTimeChangeEffective s) := by
  unfold execTimeChangeEffective
  split
  · exact within_self
  · exact within_whenever fun u => by simp (disch := decide)

theorem execSlewComplete_within (s : State) : Within [.bil] s (execSlewComplete s) :=
  within_whenever fun u => by simp (disch := decide)

theorem execBilTimeGet_within (r : Req) (s : State) : Within replyParts s (execBilTimeGet r s) :=
  within_brixo rfl fun u => by simp (disch := decide)

theorem execBilTzLoad_within (r : Req) (object : List Byte) (s : State) :
    Within (replyParts ++ [.led, .bil]) s (execBilTzLoad r object s) :=
  within_brixo rfl fun u => by simp (disch := decide)

theorem execBilCalendarLoad_within (r : Req) (object : List Byte) (s : State) :
    Within (replyParts ++ [.led, .bil]) s (execBilCalendarLoad r object s) :=
  within_brixo rfl fun u => by simp (disch := decide)

theorem execBilTariffRead_within (r : Req) (s : State) : Within replyParts s (execBilTariffRead r s) :=
  within_brixo rfl fun u => by simp (disch := decide)

theorem execCivilBoundary_within (s : State) :
    Within [.led, .bil, .hatch, .shu, .veh, .con, .diag] s (execCivilBoundary s) :=
  within_whenever fun u => by simp (disch := decide)

theorem execBilBillingClose_within (r : Req) (s : State) :
    Within (replyParts ++ [.led, .bil]) s (execBilBillingClose r s) :=
  within_brixo rfl fun u => by simp (disch := decide)

theorem execCommandBillingClose_within (s : State) :
    Within (replyParts ++ [.led, .bil]) s (execCommandBillingClose s) := by
  unfold execCommandBillingClose
  split
  · exact within_self
  · exact within_whenever fun u => by simp (disch := decide)

theorem execBilBillingRead_within (r : Req) (period : Nat) (s : State) :
    Within replyParts s (execBilBillingRead r period s) :=
  within_brixo rfl fun u => by
    dsimp only
    split <;> simp (disch := decide)

theorem execBilCreditTransfer_within (r : Req) (object : List Byte) (s : State) :
    Within (replyParts ++ [.led, .bil, .shu, .sag, .veh]) s (execBilCreditTransfer r object s) :=
  within_brixo rfl fun u => by
    split
    · rfl
    · refine forget_billing _ _ fun v => ?_
      dsimp only
      split <;> simp (disch := decide) only [forget_refuse, forget_logNowF, forget_consume, forget_setBil,
          forget_putCredit, forget_creditRestore, forget_creditWatch, forget_durableAnswer, forget_ite_eq_iff,
          implies_true, and_self]

theorem execBilCreditStatus_within (r : Req) (s : State) : Within replyParts s (execBilCreditStatus r s) :=
  within_brixo rfl fun u => by simp (disch := decide)

theorem execBilEmergencyActivate_within (r : Req) (s : State) :
    Within (replyParts ++ [.led, .bil]) s (execBilEmergencyActivate r s) :=
  within_brixo rfl fun u => by simp (disch := decide)

theorem execBilDisconnect_within (r : Req) (action : Nat) (s : State) :
    Within (replyParts ++ [.led, .bil, .shu, .veh]) s (execBilDisconnect r action s) :=
  within_brixo rfl fun u => by
    simp (disch := decide) only [forget_refuse, forget_billing_iff, forget_durableAnswer, forget_askShutter,
        forget_stopBegun, forget_endSession, forget_disconnectEvent, forget_setBil, forget_ite_state_eq_iff,
        forget_ite_eq_iff, implies_true, and_self]

theorem execKm1FeedbackMismatch_within (duration : Nat) (s : State) :
    Within [.led, .bil, .hatch, .diag] s (execKm1FeedbackMismatch duration s) :=
  within_whenever fun u => by simp (disch := decide)

/-! Chapter 10: the Kiln engine pool. -/

theorem execSpeedMonitor_within (rates : List Nat) (coreMv : Nat) (tjMax : Int) (load : Nat) (s : State) :
    Within [.hatch, .kiln, .diag] s (execSpeedMonitor rates coreMv tjMax load s) :=
  within_whenever fun u => by
    dsimp only
    (repeat' split) <;> simp (disch := decide)

theorem execSpeedRestored_within (s : State) : Within [.hatch, .kiln, .diag] s (execSpeedRestored s) :=
  within_whenever fun u => by simp (disch := decide)

theorem execKilnTaskRelease_within (cls : TaskClass) (epoch part k : Nat) (s : State) :
    Within [.clk, .kiln] s (execKilnTaskRelease cls epoch part k s) := by
  unfold execKilnTaskRelease
  dsimp only
  exact within_whenever fun u => by simp (disch := decide)

theorem execKilnTaskRun_within (k : Nat) (s : State) :
    Within (replyParts ++ [.clk, .met, .led, .bil, .shu, .pq, .kiln, .veh, .hng]) s (execKilnTaskRun k s) := by
  unfold execKilnTaskRun
  split
  · exact within_self
  · exact within_whenever fun u => by simp (disch := decide)

theorem execKilnSteal_within (k : Nat) (s : State) :
    Within (replyParts ++ [.clk, .met, .led, .bil, .shu, .pq, .kiln, .veh, .hng]) s (execKilnSteal k s) :=
  within_whenever fun u => by
    dsimp only
    split <;> simp (disch := decide)

theorem execKilnDeadlineMiss_within (cls : TaskClass) (epoch : Nat) (s : State) :
    Within [.clk, .led, .kiln] s (execKilnDeadlineMiss cls epoch s) :=
  within_whenever fun u => by simp (disch := decide)

theorem execShedChanged_within (s : State) : Within [.hatch, .kiln, .diag] s (execShedChanged s) := by
  unfold execShedChanged
  dsimp only
  split
  · exact within_next (by simp (disch := decide))
  · split
    · exact within_next (by simp (disch := decide))
    · exact within_self

theorem execCellHandshakeTimeout_within (k : Nat) (s : State) :
    Within [.clk, .hatch, .shu, .kiln, .veh, .diag] s (execCellHandshakeTimeout k s) :=
  within_whenever fun u => by simp (disch := decide)

theorem execCellMemoryError_within (k : Nat) (s : State) :
    Within [.clk, .hatch, .shu, .kiln, .veh, .diag] s (execCellMemoryError k s) :=
  within_whenever fun u => by simp (disch := decide)

theorem execCrossCheck_within (runner checker third : Nat) (agrees : Bool) (withThird : Nat) (s : State) :
    Within [.clk, .hatch, .shu, .kiln, .veh, .diag] s (execCrossCheck runner checker third agrees withThird s) :=
  within_whenever fun u => by simp (disch := decide)

theorem execSemaphoreRead_within (n reader : Nat) (s : State) : Within [.kiln] s (execSemaphoreRead n reader s) :=
  within_whenever fun u => by (repeat' split) <;> simp (disch := decide)

theorem execSemaphoreRelease_within (n writer value : Nat) (s : State) :
    Within [.kiln] s (execSemaphoreRelease n writer value s) :=
  within_whenever fun u => by simp (disch := decide)

theorem execSemHostTimeout_within (n : Nat) (s : State) :
    Within [.clk, .hatch, .kiln, .diag] s (execSemHostTimeout n s) :=
  within_whenever fun u => by simp (disch := decide)

theorem execWedgeRegisterWrite_within (n value : Nat) (writer : Sender) (s : State) :
    Within [.kiln] s (execWedgeRegisterWrite n value writer s) :=
  within_whenever fun u => by simp (disch := decide)

theorem execKilnStatus_within (r : Req) (s : State) :
    Within (replyParts ++ [.clk, .dom, .mode, .recl, .inp, .sie, .cal, .bil, .shu, .sag, .kiln, .veh, .lsw, .hng])
      s (execKilnStatus r s) :=
  within_brixo rfl fun u => by simp (disch := decide)

theorem execWedgeStatus_within (r : Req) (s : State) : Within replyParts s (execWedgeStatus r s) :=
  within_brixo rfl fun u => by simp (disch := decide)

/-! Chapter 11: the Brixo command interface. -/

theorem execD3LeavesReset_within (cells : Nat) (rootOk : Bool) (corrected attempts worst : Nat) (hashOk : Bool)
    (badHelpers badSlots badCounts : Nat) (s : State) :
    Within restartParts
      s (execD3LeavesReset cells rootOk corrected attempts worst hashOk badHelpers badSlots badCounts s) :=
  within_whenever fun u => by
    dsimp only
    (repeat' split) <;> simp (disch := decide)

/-- The replies ABORTED that READY's rise sends (R272). -/
theorem forget_abortReplies {bl : Block → Bool} (l : List Pending) (s : State) (h_hatch : bl .hatch = true)
    (h_con : bl .con = true) (h_mc : bl .mc = true) (h_lin : bl .lin = true) (h_diag : bl .diag = true) :
    forget bl (l.foldl (fun s p => reply { sender := p.sender, chan := p.chan, seq := p.seq } p.opcode stAborted [] s) s)
      = forget bl s :=
  forget_foldl _ _ _ _ fun t _ => forget_reply _ _ _ _ t h_hatch h_con h_mc h_lin h_diag

/-- The triggers that the recorder kept while D3 was in reset. -/
theorem forget_diagTriggers {bl : Block → Bool} (l : List (Nat × Nat)) (s : State) (h_hatch : bl .hatch = true)
    (h_diag : bl .diag = true) : forget bl (l.foldl (fun s u => diagTrigger u.1 u.2 s) s) = forget bl s :=
  forget_foldl _ _ _ _ fun t u => forget_diagTrigger u.1 u.2 t h_hatch h_diag

theorem execReadyRises_within (s : State) :
    Within (replyParts ++ [.clk, .dom, .led, .shu, .sag, .veh, .nl]) s (execReadyRises s) :=
  within_whenever fun u => by
    simp (disch := decide) only [forget_abortReplies, forget_diagTriggers, forget_setDom, forget_setDiag,
        forget_diagTrigger, forget_dispReport, forget_linEvent, forget_setCon, forget_coverFollow,
        forget_takeOutage, forget_ite_eq_iff, implies_true, and_self]

theorem execParamEffective_within (id : Nat) (s : State) :
    Within (replyParts ++ [.inp, .cal, .led, .bil, .par, .hng, .nl, .rs]) s (execParamEffective id s) := by
  unfold execParamEffective
  split
  · exact within_whenever fun u => by simp (disch := decide)
  · exact within_next (by simp (disch := decide))

theorem execH2mDataWrite_within (c word : Nat) (s : State) : Within [.hatch] s (execH2mDataWrite c word s) :=
  within_whenever fun u => by simp (disch := decide)

theorem execHatchPacketTake_within (c : Nat) (s : State) : Within replyParts s (execHatchPacketTake c s) := by
  unfold execHatchPacketTake
  split
  · exact within_self
  · exact within_whenever fun u => by simp (disch := decide)

theorem execH2mAckRead_within (c : Nat) (s : State) : Within [.hatch] s (execH2mAckRead c s) :=
  within_whenever fun u => by simp (disch := decide)

theorem execH2mFlush_within (c : Nat) (s : State) : Within [.hatch] s (execH2mFlush c s) :=
  within_whenever fun u => by simp (disch := decide)

theorem execH2mOverflowClear_within (c : Nat) (s : State) : Within [.hatch] s (execH2mOverflowClear c s) :=
  within_whenever fun u => by simp (disch := decide)

theorem execM2hDataRead_within (c : Nat) (s : State) : Within [.hatch] s (execM2hDataRead c s) :=
  within_whenever fun u => by (repeat' split) <;> simp (disch := decide)

theorem execM2hAckWrite_within (c value : Nat) (s : State) : Within [.hatch] s (execM2hAckWrite c value s) := by
  unfold execM2hAckWrite
  split
  · exact within_self
  · exact within_whenever fun u => by simp (disch := decide)

theorem execM2hUnderflowClear_within (c : Nat) (s : State) : Within [.hatch] s (execM2hUnderflowClear c s) :=
  within_whenever fun u => by simp (disch := decide)

theorem execIrqStatusClear_within (value : Nat) (s : State) : Within [.hatch] s (execIrqStatusClear value s) :=
  within_whenever fun u => by simp (disch := decide)

theorem execRegisterWrite_within (addr value : Nat) (s : State) :
    Within [.hatch, .dma] s (execRegisterWrite addr value s) :=
  within_whenever fun u => by simp (disch := decide)

theorem execHatchQueuePlacement_within (c : Nat) (s : State) : Within [.hatch] s (execHatchQueuePlacement c s) :=
  within_whenever fun u => by (repeat' split) <;> simp (disch := decide)

theorem execParamGet_within (r : Req) (id : Nat) (s : State) : Within replyParts s (execParamGet r id s) :=
  within_brixo rfl fun u => by split <;> simp (disch := decide)

theorem execParamSet_within (r : Req) (id size : Nat) (value : List Byte) (s : State) :
    Within (replyParts ++ [.inp, .cal, .led, .bil, .par, .shu, .hng, .nl, .rs]) s (execParamSet r id size value s) :=
  within_brixo rfl fun u => by (repeat' split) <;> simp (disch := decide)

theorem execHatchStatus_within (r : Req) (s : State) : Within replyParts s (execHatchStatus r s) :=
  within_brixo rfl fun u => by simp (disch := decide)

theorem execBrixoEthDatagram_within (port peer : Nat) (data : List Byte) (last : Bool) (s : State) :
    Within replyParts s (execBrixoEthDatagram port peer data last s) :=
  within_whenever fun u => by simp (disch := decide)

theorem execIpReassemblyTimeout_within (s : State) : Within [.clk, .hatch] s (execIpReassemblyTimeout s) := by
  unfold execIpReassemblyTimeout
  split
  · exact within_self
  · exact within_next (by simp (disch := decide))

/-! Chapter 12: DMA. -/

theorem execDctrlWrite_within (c value : Nat) (s : State) :
    Within [.hatch, .dma, .diag] s (execDctrlWrite c value s) :=
  within_whenever fun u => by simp (disch := decide)

theorem execDmaChannelAbort_within (c : Nat) (s : State) : Within [.hatch, .dma, .diag] s (execDmaChannelAbort c s) :=
  within_whenever fun u => by simp (disch := decide)

theorem execDescriptorStagingWrite_within (c word value : Nat) (s : State) :
    Within [.dma] s (execDescriptorStagingWrite c word value s) :=
  within_whenever fun u => by simp (disch := decide)

theorem execDescriptorCommit_within (c value : Nat) (s : State) : Within [.dma] s (execDescriptorCommit c value s) :=
  within_whenever fun u => by simp (disch := decide)

theorem execDstatClear_within (c value : Nat) (s : State) : Within [.dma] s (execDstatClear c value s) :=
  within_whenever fun u => by simp (disch := decide)

theorem execDmaDescriptorStart_within (c : Nat) (words : List Nat) (s : State) :
    Within [.hatch, .dma, .diag] s (execDmaDescriptorStart c words s) := by
  unfold execDmaDescriptorStart
  dsimp only
  exact within_whenever fun u => by simp (disch := decide)

theorem execDmaBurst_within (memError : Bool) (s : State) :
    Within [.clk, .hatch, .dma, .diag] s (execDmaBurst memError s) := by
  unfold execDmaBurst
  dsimp only
  split
  · exact within_next (by simp (disch := decide))
  · split
    · exact within_next (by simp (disch := decide))
    · split
      · refine within_next ?_
        simp (disch := decide) only [forget_dmaBack, forget_setDma, forget_set_dma, forget_stallOver]
      · refine within_next ?_
        simp (disch := decide) only [forget_setDma, forget_dMoveN, forget_set_dma, forget_stallOver]

theorem execDmaWriteBack_within (c : Nat) (faulty : Bool) (s : State) :
    Within [.hatch, .dma, .diag] s (execDmaWriteBack c faulty s) := by
  unfold execDmaWriteBack
  split
  · exact within_self
  · exact within_whenever fun u => by simp (disch := decide)

theorem execDmaStatus_within (r : Req) (s : State) : Within replyParts s (execDmaStatus r s) :=
  within_brixo rfl fun u => by simp (disch := decide)

theorem execDmaAbort_within (r : Req) (c : Nat) (s : State) : Within (replyParts ++ [.dma]) s (execDmaAbort r c s) :=
  within_brixo rfl fun u => by simp (disch := decide)

/-! Chapter 13: the vehicle interface. -/

theorem execCpStateChange_within (hi lo : Int) (s : State) :
    Within [.clk, .mode, .led, .bil, .hatch, .shu, .veh, .mc, .lin, .nl, .diag] s (execCpStateChange hi lo s) :=
  within_whenever fun u => by simp (disch := decide)

theorem execPpStateChange_within (ohm : Nat) (s : State) :
    Within [.led, .bil, .hatch, .shu, .veh, .mc, .lin, .diag] s (execPpStateChange ohm s) := by
  unfold execPpStateChange
  dsimp only
  exact within_whenever fun u => by simp (disch := decide)

theorem execSlacMessage_within (m : SlacMsg) (s : State) :
    Within [.hatch, .shu, .veh, .diag] s (execSlacMessage m s) :=
  within_whenever fun u => by simp (disch := decide)

theorem execSlacTimeout_within (s : State) : Within [.clk, .hatch, .shu, .veh, .diag] s (execSlacTimeout s) := by
  unfold execSlacTimeout
  split
  · exact within_self
  · exact within_whenever fun u => by simp (disch := decide)

theorem execV2gMessage_within (m : V2GMsg) (s : State) :
    Within [.clk, .led, .bil, .hatch, .shu, .sag, .veh, .mc, .lin, .diag] s (execV2gMessage m s) :=
  within_whenever fun u => by simp (disch := decide)

theorem execAuthTimeout_within (s : State) : Within [.clk, .hatch, .veh, .diag] s (execAuthTimeout s) := by
  unfold execAuthTimeout
  split
  · exact within_self
  · exact within_whenever fun u => by simp (disch := decide)

theorem execOverdraw_within (s : State) : Within [.clk, .hatch, .shu, .veh, .diag] s (execOverdraw s) := by
  unfold execOverdraw
  split
  · exact within_self
  · dsimp only
    exact within_whenever fun u => by simp (disch := decide)

theorem execVehStatus_within (r : Req) (s : State) :
    Within (replyParts ++ [.clk, .dom, .mode, .recl, .inp, .sie, .cal, .bil, .shu, .sag, .kiln, .veh, .lsw, .hng])
      s (execVehStatus r s) :=
  within_brixo rfl fun u => by simp (disch := decide)

theorem execVehAuthorise_within (r : Req) (reqId decision bpt : Nat) (s : State) :
    Within (replyParts ++ [.led, .bil, .shu, .veh]) s (execVehAuthorise r reqId decision bpt s) :=
  within_brixo rfl fun u => by (repeat' split) <;> simp (disch := decide)

theorem execVehLimitsSet_within (r : Req) (iMax pMax n : Nat) (entries : List (Nat × Nat)) (s : State) :
    Within (replyParts ++ [.veh]) s (execVehLimitsSet r iMax pMax n entries s) :=
  within_brixo rfl fun u => by split <;> simp (disch := decide)

theorem execVehStop_within (r : Req) (reason : Nat) (s : State) :
    Within (replyParts ++ [.shu, .veh]) s (execVehStop r reason s) :=
  within_brixo rfl fun u => by split <;> simp (disch := decide)

theorem execVehAvailability_within (r : Req) (state : Nat) (s : State) :
    Within (replyParts ++ [.shu, .veh]) s (execVehAvailability r state s) :=
  within_brixo rfl fun u => by split <;> simp (disch := decide)

theorem execVehCertLoad_within (r : Req) (what : Nat) (certs : List (List Byte)) (s : State) :
    Within (replyParts ++ [.veh]) s (execVehCertLoad r what certs s) :=
  within_brixo rfl fun u => by split <;> simp (disch := decide)

theorem execVehRelayAnswer_within (r : Req) (relayId : Nat) (body : List Byte) (s : State) :
    Within (replyParts ++ [.veh]) s (execVehRelayAnswer r relayId body s) :=
  within_brixo rfl fun u => by split <;> simp (disch := decide)

theorem execSessionClose_within (s : State) :
    Within [.led, .bil, .hatch, .shu, .veh, .con, .diag] s (execSessionClose s) := by
  unfold execSessionClose
  split
  · exact within_whenever fun u => by simp (disch := decide)
  · exact within_self

theorem execCanFrameReceived_within (f : CanFrame) (s : State) : Within [.veh] s (execCanFrameReceived f s) :=
  within_whenever fun u => by simp (disch := decide)

theorem execCanFrameSend_within (s : State) : Within [.veh] s (execCanFrameSend s) :=
  within_whenever fun u => by simp (disch := decide)

theorem execPowerModuleLost_within (n : Nat) (s : State) :
    Within [.clk, .hatch, .shu, .veh, .mc, .lin, .diag] s (execPowerModuleLost n s) := by
  unfold execPowerModuleLost
  split
  · exact within_self
  · exact within_whenever fun u => by simp (disch := decide)

theorem execCableCheckReady_within (s : State) : Within [.hatch, .shu, .veh, .diag] s (execCableCheckReady s) :=
  within_whenever fun u => by simp (disch := decide)

theorem execCableCheckTimeout_within (s : State) :
    Within [.clk, .hatch, .shu, .veh, .diag] s (execCableCheckTimeout s) := by
  unfold execCableCheckTimeout
  split
  · exact within_self
  · exact within_whenever fun u => by simp (disch := decide)

theorem execPrechargeComplete_within (s : State) : Within [.veh] s (execPrechargeComplete s) :=
  within_whenever fun u => by simp (disch := decide)

theorem execPrechargeTimeout_within (s : State) :
    Within [.clk, .hatch, .shu, .veh, .diag] s (execPrechargeTimeout s) := by
  unfold execPrechargeTimeout
  split
  · exact within_self
  · exact within_whenever fun u => by simp (disch := decide)

theorem execDcDischargeEnd_within (s : State) :
    Within [.clk, .led, .hatch, .shu, .veh, .hng, .upd, .diag] s (execDcDischargeEnd s) := by
  unfold execDcDischargeEnd
  split
  · exact within_self
  · exact within_whenever fun u => by simp (disch := decide)

/-! Chapter 14: Shutter safety. -/

theorem execShutterEvaluationCycle_within (i : CycleIn) (s : State) :
    Within [.clk, .recl, .led, .hatch, .shu, .pq, .veh, .hng, .upd, .nl, .diag] s (execShutterEvaluationCycle i s) :=
  within_whenever fun u => by
    dsimp only
    split <;> simp (disch := decide)

theorem execChannelDisagreement_within (s : State) :
    Within [.clk, .recl, .led, .hatch, .shu, .pq, .veh, .hng, .upd, .nl, .diag] s (execChannelDisagreement s) :=
  within_whenever fun u => by split <;> simp (disch := decide)

theorem execChannelLinkLoss_within (s : State) :
    Within [.clk, .recl, .led, .hatch, .shu, .pq, .veh, .hng, .upd, .nl, .diag] s (execChannelLinkLoss s) :=
  within_whenever fun u => by simp (disch := decide)

theorem execClose_within (s : State) : Within [.clk, .hatch, .shu, .nl, .diag] s (execClose s) :=
  within_serveRequest rfl rfl fun u => by simp (disch := decide)

theorem execOpenOrderly_within (cause : Nat) (s : State) :
    Within [.clk, .recl, .hatch, .shu, .veh, .diag] s (execOpenOrderly cause s) :=
  within_serveRequest rfl rfl fun u => by simp (disch := decide)

theorem execOpenNow_within (cause : Nat) (s : State) :
    Within [.clk, .hatch, .shu, .pq, .nl, .diag] s (execOpenNow cause s) :=
  within_serveRequest rfl rfl fun u => by simp (disch := decide)

theorem execPwm_within (duty : Nat) (s : State) : Within [.clk, .hatch, .shu, .diag] s (execPwm duty s) :=
  within_serveRequest rfl rfl fun u => by simp (disch := decide)

theorem execLimit_within (mA : Nat) (dc : Bool) (s : State) :
    Within [.clk, .hatch, .shu, .diag] s (execLimit mA dc s) :=
  within_serveRequest rfl rfl fun u => by simp (disch := decide)

theorem execReset_within (mask : Nat) (s : State) :
    Within [.clk, .led, .hatch, .shu, .diag] s (execReset mask s) := by
  unfold execReset
  split
  · exact within_self
  · exact within_serveRequest rfl rfl fun u => by simp (disch := decide)

theorem execRcmTest_within (s : State) : Within [.clk, .hatch, .shu, .diag] s (execRcmTest s) :=
  within_serveRequest rfl rfl fun u => by simp (disch := decide)

theorem execOrderlyStopWaitEnd_within (s : State) :
    Within [.clk, .recl, .led, .hatch, .shu, .pq, .nl, .diag] s (execOrderlyStopWaitEnd s) := by
  unfold execOrderlyStopWaitEnd
  split
  · exact within_self
  · exact within_whenever fun u => by simp (disch := decide)

theorem execKmPullinEnd_within (s : State) : Within [.clk, .shu] s (execKmPullinEnd s) := by
  unfold execKmPullinEnd
  split
  · exact within_self
  · exact within_next (by simp (disch := decide))

theorem execOpenCoil_within (chan : Nat) (s : State) :
    Within [.clk, .recl, .led, .hatch, .shu, .pq, .veh, .hng, .upd, .nl, .diag] s (execOpenCoil chan s) :=
  within_whenever fun u => by simp (disch := decide)

theorem execKfbTimeout_within (s : State) :
    Within [.clk, .recl, .led, .hatch, .shu, .pq, .veh, .hng, .upd, .nl, .diag] s (execKfbTimeout s) := by
  unfold execKfbTimeout
  split
  · exact within_self
  · exact within_whenever fun u => by simp (disch := decide)

theorem execEstopLineOpen_within (lineB : Bool) (chan : Nat) (s : State) :
    Within [.clk, .recl, .led, .hatch, .shu, .pq, .veh, .hng, .upd, .nl, .diag] s (execEstopLineOpen lineB chan s) :=
  within_whenever fun u => by simp (disch := decide)

theorem execEstopDiscrep_within (chan : Nat) (s : State) :
    Within [.clk, .recl, .led, .hatch, .shu, .pq, .veh, .hng, .upd, .nl, .diag] s (execEstopDiscrep chan s) := by
  unfold execEstopDiscrep
  split
  · exact within_self
  · exact within_whenever fun u => by simp (disch := decide)

theorem execEstopTestPulse_within (shorted : Bool) (chan : Nat) (s : State) :
    Within [.clk, .recl, .led, .hatch, .shu, .pq, .veh, .hng, .upd, .nl, .diag]
      s (execEstopTestPulse shorted chan s) :=
  within_whenever fun u => by simp (disch := decide)

theorem execRcmSelftestStepEnd_within (m : RcmReading) (s : State) :
    Within (replyParts ++ [.clk, .recl, .led, .shu, .pq, .veh, .hng, .upd, .nl]) s (execRcmSelftestStepEnd m s) := by
  unfold execRcmSelftestStepEnd
  split
  · exact within_self
  · exact within_whenever fun u => by simp (disch := decide)

theorem execRcmSelftestAge_within (s : State) : Within [.clk, .shu] s (execRcmSelftestAge s) := by
  unfold execRcmSelftestAge
  split
  · exact within_self
  · exact within_whenever fun u => by simp (disch := decide)

theorem execIPermHoldEnd_within (s : State) : Within [.clk, .shu] s (execIPermHoldEnd s) := by
  unfold execIPermHoldEnd
  split
  · exact within_self
  · exact within_next (by simp (disch := decide))

theorem execWeldTest_within (s : State) :
    Within [.clk, .led, .hatch, .shu, .hng, .upd, .diag] s (execWeldTest s) := by
  unfold execWeldTest
  split
  · exact within_self
  · exact within_whenever fun u => by simp (disch := decide)

theorem execCoilSupplyLow_within (chan : Nat) (s : State) :
    Within [.clk, .recl, .led, .hatch, .shu, .pq, .veh, .hng, .upd, .nl, .diag] s (execCoilSupplyLow chan s) := by
  unfold execCoilSupplyLow
  split
  · exact within_self
  · exact within_whenever fun u => by simp (disch := decide)

theorem execSresetRelease_within (lowMs : Nat) (s : State) :
    Within [.led, .hatch, .shu, .diag] s (execSresetRelease lowMs s) :=
  within_whenever fun u => by simp (disch := decide)

theorem execSresetStuck_within (s : State) : Within [.led, .hatch, .shu, .hng, .upd, .diag] s (execSresetStuck s) :=
  within_whenever fun u => by simp (disch := decide)

theorem execPendingResetLapse_within (s : State) :
    Within [.clk, .hatch, .shu, .diag] s (execPendingResetLapse s) := by
  unfold execPendingResetLapse
  split
  · exact within_self
  · exact within_next (by simp (disch := decide))

theorem execCpStateAHeld_within (s : State) : Within [.clk, .led, .hatch, .shu, .diag] s (execCpStateAHeld s) := by
  unfold execCpStateAHeld
  split
  · exact within_self
  · exact within_whenever fun u => by simp (disch := decide)

theorem execShuStatus_within (r : Req) (s : State) :
    Within (replyParts ++ [.clk, .dom, .mode, .recl, .inp, .sie, .cal, .bil, .shu, .sag, .kiln, .veh, .lsw, .hng])
      s (execShuStatus r s) :=
  within_brixo rfl fun u => by simp (disch := decide)

theorem execShuReset_within (r : Req) (mask : Nat) (s : State) :
    Within (replyParts ++ [.led, .shu]) s (execShuReset r mask s) :=
  within_brixo rfl fun u => by simp (disch := decide)

theorem execShuConfigOpen_within (r : Req) (len : Nat) (password : List Byte) (s : State) :
    Within (replyParts ++ [.shu]) s (execShuConfigOpen r len password s) :=
  within_brixo rfl fun u => by (repeat' split) <;> simp (disch := decide)

theorem execShuConfigClose_within (r : Req) (s : State) : Within (replyParts ++ [.shu]) s (execShuConfigClose r s) :=
  within_brixo rfl fun u => by simp (disch := decide)

theorem execShuPasswordSet_within (r : Req) (len : Nat) (password : List Byte) (s : State) :
    Within (replyParts ++ [.clk, .shu]) s (execShuPasswordSet r len password s) :=
  within_brixo rfl fun u => by
    dsimp only
    split <;> simp (disch := decide)

theorem execShuRcmTest_within (r : Req) (s : State) : Within (replyParts ++ [.shu]) s (execShuRcmTest r s) :=
  within_brixo rfl fun u => by simp (disch := decide)

theorem execShuLogRead_within (r : Req) (first count : Nat) (s : State) :
    Within replyParts s (execShuLogRead r first count s) :=
  within_brixo rfl fun u => by simp (disch := decide)

theorem execConfigSessionIdle_within (s : State) : Within [.clk, .shu] s (execConfigSessionIdle s) := by
  unfold execConfigSessionIdle
  split
  · exact within_self
  · exact within_next (by simp (disch := decide))

theorem execLockoutEnd_within (s : State) : Within [.clk, .shu] s (execLockoutEnd s) := by
  unfold execLockoutEnd
  split
  · exact within_self
  · exact within_next (by simp (disch := decide))

/-! Chapter 15: load switches. -/

theorem execLswStatus_within (r : Req) (s : State) :
    Within (replyParts ++ [.clk, .dom, .mode, .recl, .inp, .sie, .cal, .bil, .shu, .sag, .kiln, .veh, .lsw, .hng])
      s (execLswStatus r s) :=
  within_brixo rfl fun u => by simp (disch := decide)

theorem execLswControl_within (r : Req) (mask action ms : Nat) (s : State) :
    Within (replyParts ++ [.lsw]) s (execLswControl r mask action ms s) :=
  within_brixo rfl fun u => by simp [forget_foldl]

theorem execLswThermalOff_within (n : Nat) (tj : Int) (s : State) :
    Within [.hatch, .lsw, .diag] s (execLswThermalOff n tj s) :=
  within_whenever fun u => by simp (disch := decide)

theorem execLswIlimTimeout_within (n : Nat) (s : State) :
    Within [.clk, .hatch, .lsw, .diag] s (execLswIlimTimeout n s) :=
  within_whenever fun u => by split <;> simp (disch := decide)

theorem execLswLatchRelease_within (n : Nat) (tj : Int) (s : State) :
    Within [.clk, .hatch, .lsw, .diag] s (execLswLatchRelease n tj s) := by
  unfold execLswLatchRelease
  split
  · exact within_self
  · exact within_whenever fun u => by simp (disch := decide)

theorem execLswRetryRefill_within (n : Nat) (s : State) : Within [.clk, .lsw] s (execLswRetryRefill n s) :=
  within_whenever fun u => by simp (disch := decide)

theorem execLswPulseEnd_within (n : Nat) (s : State) : Within [.clk, .lsw] s (execLswPulseEnd n s) := by
  unfold execLswPulseEnd
  split
  · exact within_self
  · exact within_next (by simp (disch := decide))

theorem execLswOpenLoad_within (n i : Nat) (s : State) :
    Within [.clk, .hatch, .lsw, .diag] s (execLswOpenLoad n i s) :=
  within_whenever fun u => by simp (disch := decide)

theorem execLswOffStateShort_within (n : Nat) (s : State) :
    Within [.hatch, .lsw, .diag] s (execLswOffStateShort n s) :=
  within_whenever fun u => by simp (disch := decide)

theorem execVauxUndervoltage_within (mV : Nat) (s : State) : Within [.lsw] s (execVauxUndervoltage mV s) :=
  within_whenever fun u => by simp (disch := decide)

theorem execVauxRecovery_within (mV : Nat) (s : State) : Within [.lsw] s (execVauxRecovery mV s) :=
  within_whenever fun u => by simp (disch := decide)

theorem execVauxPowerCycle_within (mV : Nat) (s : State) : Within [.lsw] s (execVauxPowerCycle mV s) :=
  within_whenever fun u => by simp (disch := decide)

theorem execVauxGndOpen_within (s : State) : Within [.clk, .hatch, .lsw, .diag] s (execVauxGndOpen s) :=
  within_whenever fun u => by simp (disch := decide)

theorem execVauxGndRestored_within (s : State) : Within [.clk, .hatch, .lsw, .diag] s (execVauxGndRestored s) :=
  within_whenever fun u => by simp (disch := decide)

theorem execLoadDump_within (mV : Nat) (s : State) : Within [.clk, .hatch, .lsw, .diag] s (execLoadDump mV s) :=
  within_whenever fun u => by simp (disch := decide)

theorem execVauxInReversed_within (s : State) :
    Within [.clk, .hatch, .shu, .pq, .lsw, .nl, .diag] s (execVauxInReversed s) :=
  within_next (by simp (disch := decide))

/-! Chapter 16: Sagger keys. -/

theorem execSagStatus_within (r : Req) (s : State) : Within (replyParts ++ [.sag]) s (execSagStatus r s) :=
  within_brixo rfl fun u => by simp (disch := decide)

theorem execSagSlotInfo_within (r : Req) (slot : Nat) (s : State) :
    Within (replyParts ++ [.led, .sag]) s (execSagSlotInfo r slot s) :=
  within_brixo rfl fun u => by (repeat' split) <;> simp (disch := decide)

theorem execSagKeyGenerate_within (r : Req) (slot type attr usesMax : Nat) (s : State) :
    Within (replyParts ++ [.clk, .led, .sag]) s (execSagKeyGenerate r slot type attr usesMax s) :=
  within_brixo rfl fun u => by simp (disch := decide)

theorem execSagKeyWrite_within (r : Req) (slot type attr usesMax : Nat) (key : List Byte) (s : State) :
    Within (replyParts ++ [.led, .sag]) s (execSagKeyWrite r slot type attr usesMax key s) :=
  within_brixo rfl fun u => by simp (disch := decide)

theorem execSagKeyImport_within (r : Req) (slot type attr usesMax unwrapSlot : Nat) (wrapped : List Byte) (s : State)
    :
    Within (replyParts ++ [.led, .sag]) s (execSagKeyImport r slot type attr usesMax unwrapSlot wrapped s) :=
  within_brixo rfl fun u => by
    dsimp only
    (repeat' split) <;> simp (disch := decide)

theorem execSagKeyDerive_within (r : Req) (src slot type attr usesMax : Nat) (info : List Byte) (s : State) :
    Within (replyParts ++ [.led, .sag]) s (execSagKeyDerive r src slot type attr usesMax info s) :=
  within_brixo rfl fun u => by (repeat' split) <;> simp (disch := decide)

theorem execSagKeyErase_within (r : Req) (slot : Nat) (s : State) :
    Within (replyParts ++ [.sag]) s (execSagKeyErase r slot s) :=
  within_brixo rfl fun u => by (repeat' split) <;> simp (disch := decide)

theorem execSagPubkeyExport_within (r : Req) (slot which gen : Nat) (s : State) :
    Within (replyParts ++ [.led, .sag]) s (execSagPubkeyExport r slot which gen s) :=
  within_brixo rfl fun u => by
    dsimp only
    (repeat' split) <;> simp (disch := decide)

theorem execSagCertAttach_within (r : Req) (slot : Nat) (cert : List Byte) (s : State) :
    Within (replyParts ++ [.led, .sag]) s (execSagCertAttach r slot cert s) :=
  within_brixo rfl fun u => by
    dsimp only
    (repeat' split) <;> simp (disch := decide)

theorem execSagLifecycleSet_within (r : Req) (target : Nat) (unlock : List Byte) (s : State) :
    Within (replyParts ++ [.sag]) s (execSagLifecycleSet r target unlock s) :=
  within_brixo rfl fun u => by (repeat' split) <;> simp (disch := decide)

theorem execLifecycleRestart_within (s : State) : Within restartParts s (execLifecycleRestart s) := by
  unfold execLifecycleRestart
  split
  · exact within_self
  · exact within_whenever fun u => by simp (disch := decide)

theorem execSagTamperAck_within (r : Req) (mask : Nat) (s : State) :
    Within (replyParts ++ [.sag]) s (execSagTamperAck r mask s) :=
  within_brixo rfl fun u => by simp (disch := decide)

theorem execSagUnlockChallenge_within (r : Req) (s : State) :
    Within (replyParts ++ [.clk, .sag]) s (execSagUnlockChallenge r s) :=
  within_brixo rfl fun u => by simp (disch := decide)

theorem execTampSample_within (levels : Nat) (s : State) :
    Within [.clk, .led, .hatch, .shu, .sag, .veh, .nl, .diag] s (execTampSample levels s) :=
  within_whenever fun u => by simp (disch := decide)

theorem execEarthLoading_within (s : State) :
    Within [.clk, .led, .hatch, .shu, .sag, .veh, .diag] s (execEarthLoading s) := by
  unfold execEarthLoading
  split
  · exact within_self
  · exact within_whenever fun u => by simp (disch := decide)

theorem execMeshBreach_within (potting : Bool) (s : State) :
    Within [.led, .hatch, .sag, .diag] s (execMeshBreach potting s) :=
  within_whenever fun u => by simp (disch := decide)

theorem execDbgEnableWrite_within (value : Nat) (s : State) : Within [.sag] s (execDbgEnableWrite value s) :=
  within_whenever fun u => by simp (disch := decide)

theorem execSpyholeDebugAccess_within (read : Bool) (_addr _data : Nat) (s : State) :
    Within [.clk, .sag] s (execSpyholeDebugAccess read _addr _data s) :=
  within_whenever fun u => by simp (disch := decide)

/-! Chapter 17: contactless. -/

theorem execPollCycle_within (inField : List (List Byte)) (s : State) :
    Within [.clk, .hatch, .veh, .con, .diag] s (execPollCycle inField s) :=
  within_whenever fun u => by simp [forget_foldl]

theorem execLowPowerDetectPulse_within (change : Nat) (s : State) :
    Within [.clk, .con, .nl] s (execLowPowerDetectPulse change s) :=
  within_whenever fun u => by simp (disch := decide)

theorem execConStatus_within (r : Req) (s : State) : Within replyParts s (execConStatus r s) :=
  within_brixo rfl fun u => by simp (disch := decide)

theorem execConTune_within (r : Req) (iAnt : Nat) (phase : Int) (s : State) :
    Within replyParts s (execConTune r iAnt phase s) :=
  within_brixo rfl fun u => by simp (disch := decide)

theorem execConListLoad_within (r : Req) (object : List Byte) (s : State) :
    Within replyParts s (execConListLoad r object s) :=
  within_brixo rfl fun u => by simp (disch := decide)

theorem execConLbRead_within (r : Req) (page : Nat) (available : Bool) (s : State) :
    Within replyParts s (execConLbRead r page available s) :=
  within_brixo rfl fun u => by simp (disch := decide)

theorem execConLbWrite_within (r : Req) (page : Nat) (data : List Byte) (available : Bool) (s : State) :
    Within replyParts s (execConLbWrite r page data available s) :=
  within_brixo rfl fun u => by simp (disch := decide)

theorem execConLbConfig_within (r : Req) (action readPw writePw : Nat) (available : Bool) (s : State) :
    Within replyParts s (execConLbConfig r action readPw writePw available s) :=
  within_brixo rfl fun u => by (repeat' split) <;> simp (disch := decide)

theorem execInventory_within (maskLen mask : Nat) (s : State) :
    Within [.clk, .con] s (execInventory maskLen mask s) := by
  unfold execInventory
  split
  · dsimp only
    exact within_next (by simp (disch := decide))
  · exact within_next (by simp (disch := decide))

theorem execStayQuiet_within (dest : Nat) (s : State) : Within [.con] s (execStayQuiet dest s) :=
  within_next (by simp (disch := decide))

theorem execSelect_within (dest : Nat) (s : State) : Within [.con] s (execSelect dest s) :=
  within_next (by simp (disch := decide))

theorem execResetToReady_within (dest : Nat) (s : State) : Within [.con] s (execResetToReady dest s) :=
  within_fieldCmd rfl fun u => by simp (disch := decide)

theorem execGetSystemInformation_within (dest : Nat) (s : State) :
    Within [.con] s (execGetSystemInformation dest s) :=
  within_fieldCmd rfl fun u => by simp (disch := decide)

theorem execReadSingleBlock_within (dest block : Nat) (s : State) :
    Within [.con] s (execReadSingleBlock dest block s) :=
  within_fieldCmd rfl fun u => by simp (disch := decide)

theorem execReadMultipleBlocks_within (dest block n : Nat) (s : State) :
    Within [.con] s (execReadMultipleBlocks dest block n s) :=
  within_fieldCmd rfl fun u => by simp (disch := decide)

theorem execWriteSingleBlock_within (dest block : Nat) (data : List Byte) (fate : Nat) (s : State) :
    Within [.hatch, .con, .diag] s (execWriteSingleBlock dest block data fate s) :=
  within_fieldCmd rfl fun u => by simp (disch := decide)

theorem execWriteMultipleBlocks_within (dest block : Nat) (data : List Byte) (fate : Nat) (s : State) :
    Within [.hatch, .con, .diag] s (execWriteMultipleBlocks dest block data fate s) :=
  within_fieldCmd rfl fun u => by simp (disch := decide)

theorem execLbUnsupportedCommand_within (dest : Nat) (s : State) :
    Within [.con] s (execLbUnsupportedCommand dest s) :=
  within_fieldCmd rfl fun u => by simp (disch := decide)

theorem execLbFieldDrop_within (s : State) : Within [.con] s (execLbFieldDrop s) :=
  within_next (by simp (disch := decide))

theorem execLbBrixoRequest_within (s : State) : Within replyParts s (execLbBrixoRequest s) :=
  within_whenever fun u => by simp (disch := decide)

/-- A run of pages written to the Letterbox. -/
theorem forget_pageWrites {bl : Block → Bool} (data : Nat → List Byte) (pages : List Nat) (s : State)
    (h_con : bl .con = true) : forget bl (pages.foldl (fun s p => pageWrite p (data p) s) s) = forget bl s :=
  forget_foldl _ _ _ _ fun t p => forget_pageWrite p _ t h_con

theorem execLetterboxSummaryWrite_within (n : Nat) (s : State) :
    Within [.hold, .hatch, .con, .diag] s (execLetterboxSummaryWrite n s) :=
  within_whenever fun u => by
    simp (disch := decide) only [forget_pageWrites, forget_setCon, forget_lbEvent, forget_set_hold,
        forget_ite_eq_iff, implies_true, and_self]

/-! Chapter 18: the window display. -/

theorem execHoldupDisplayDecision_within (s : State) :
    Within [.hold, .hatch, .disp, .diag] s (execHoldupDisplayDecision s) :=
  within_whenever fun u => by
    dsimp only
    split <;> simp (disch := decide)

theorem execDispStatus_within (r : Req) (s : State) : Within replyParts s (execDispStatus r s) :=
  within_brixo rfl fun u => by simp (disch := decide)

theorem execDispImageWrite_within (r : Req) (offset len : Nat) (data : List Byte) (s : State) :
    Within (replyParts ++ [.disp]) s (execDispImageWrite r offset len data s) :=
  within_brixo rfl fun u => by simp (disch := decide)

theorem execDispUpdate_within (r : Req) (mode x y w h crc : Nat) (s : State) :
    Within (replyParts ++ [.disp, .nl]) s (execDispUpdate r mode x y w h crc s) :=
  within_brixo rfl fun u => by
    dsimp only
    (repeat' split) <;> simp (disch := decide)

theorem execDispClean_within (r : Req) (s : State) : Within (replyParts ++ [.disp]) s (execDispClean r s) :=
  within_brixo rfl fun u => by (repeat' split) <;> simp (disch := decide)

theorem execImageCopyComplete_within (s : State) : Within [.disp] s (execImageCopyComplete s) := by
  unfold execImageCopyComplete
  split
  · exact within_self
  · split
    · exact within_self
    · exact within_whenever fun u => by simp (disch := decide)

theorem execDispRailsGood_within (s : State) : Within [.clk, .disp] s (execDispRailsGood s) := by
  unfold execDispRailsGood
  split
  · exact within_self
  · exact within_whenever fun u => by simp (disch := decide)

theorem execDispFrameEnd_within (s : State) : Within [.clk, .hatch, .disp, .diag] s (execDispFrameEnd s) := by
  unfold execDispFrameEnd
  split
  · exact within_self
  · refine within_whenever fun u => ?_
    dsimp only
    split <;> simp (disch := decide)

theorem execDispRailsDown_within (s : State) : Within [.clk, .disp] s (execDispRailsDown s) := by
  unfold execDispRailsDown
  split
  · exact within_self
  · exact within_next (by simp (disch := decide))

theorem execDispRailFault_within (s : State) : Within [.hatch, .disp, .diag] s (execDispRailFault s) :=
  within_whenever fun u => by
    dsimp only
    split <;> simp (disch := decide)

theorem execWaitingUpdateCheck_within (s : State) : Within [.disp] s (execWaitingUpdateCheck s) := by
  unfold execWaitingUpdateCheck
  split
  · exact within_self
  · exact within_whenever fun u => by simp (disch := decide)

theorem execWaitingUpdateTimeout_within (s : State) :
    Within [.clk, .hatch, .disp, .diag] s (execWaitingUpdateTimeout s) := by
  unfold execWaitingUpdateTimeout
  split
  · exact within_self
  · split
    · exact within_self
    · exact within_next (by simp (disch := decide))

theorem execTransomRefresh_within (s : State) : Within [.disp] s (execTransomRefresh s) := by
  unfold execTransomRefresh
  extract_lets _ due
  split
  · exact within_self
  · exact within_whenever fun u => by simp (disch := decide)

/-! Chapter 19: the mains carrier. -/

theorem execSupplyZeroCrossing_within (rising preamble : Bool) (s : State) :
    Within [.clk, .pq, .mc, .lin] s (execSupplyZeroCrossing rising preamble s) :=
  within_whenever fun u => by
    dsimp only
    (repeat' split) <;> simp (disch := decide)

theorem execMcFrameBegin_within (s : State) : Within [.mc] s (execMcFrameBegin s) := by
  unfold execMcFrameBegin
  split
  · exact within_self
  · exact within_whenever fun u => by simp (disch := decide)

theorem execMcDataFrame_within (h : McHeader) (segs : List (Nat × List Byte)) (snr : Nat) (zcPol : Bool) (centre :
    Tick) (s : State) :
    Within (replyParts ++ [.led, .bil, .shu, .veh, .upd, .nl]) s (execMcDataFrame h segs snr zcPol centre s) :=
  within_received (by simp (disch := decide)) fun u => by simp (disch := decide)

theorem execMcAckFrame_within (src dst seq bitmap snr : Nat) (zcPol : Bool) (centre : Tick) (s : State) :
    Within [.hatch, .mc, .lin, .nl, .diag] s (execMcAckFrame src dst seq bitmap snr zcPol centre s) :=
  within_received (by simp (disch := decide)) fun u => by
    dsimp only
    split <;> simp (disch := decide)

theorem execToneMapRequest_within (h : McHeader) (snrs : List Nat) (zcPol : Bool) (centre : Tick) (s : State) :
    Within [.hatch, .mc, .nl, .diag] s (execToneMapRequest h snrs zcPol centre s) :=
  within_received (by simp (disch := decide)) fun u => by simp (disch := decide)

theorem execToneMapReply_within (h : McHeader) (tmi map : Nat) (snr : Nat) (zcPol : Bool) (centre : Tick) (s : State)
    :
    Within [.hatch, .mc, .nl, .diag] s (execToneMapReply h tmi map snr zcPol centre s) :=
  within_received (by simp (disch := decide)) fun u => by
    dsimp only
    (repeat' split) <;> simp (disch := decide)

theorem execBeacon_within (h : HelloBlock) (zcPol : Bool) (centre : Tick) (s : State) :
    Within [.hatch, .mc, .lin, .upd, .diag] s (execBeacon h zcPol centre s) :=
  within_whenever fun u => by simp (disch := decide)

theorem execMcAckWindowExpiry_within (s : State) : Within [.hatch, .mc, .lin, .diag] s (execMcAckWindowExpiry s) := by
  unfold execMcAckWindowExpiry
  split
  · exact within_self
  · exact within_whenever fun u => by simp (disch := decide)

theorem execMcIncompleteFrameDiscard_within (src seq : Nat) (s : State) :
    Within [.clk, .mc] s (execMcIncompleteFrameDiscard src seq s) := by
  unfold execMcIncompleteFrameDiscard
  split
  · exact within_self
  · exact within_whenever fun u => by simp (disch := decide)

theorem execToneMapRefreshDue_within (short : Nat) (s : State) :
    Within [.clk, .mc] s (execToneMapRefreshDue short s) := by
  unfold execToneMapRefreshDue
  split
  · exact within_self
  · refine within_whenever fun u => ?_
    dsimp only
    split <;> simp (disch := decide)

theorem execMcNeighbourLost_within (id : Nat) (s : State) :
    Within [.clk, .hatch, .mc, .lin, .diag] s (execMcNeighbourLost id s) := by
  unfold execMcNeighbourLost
  split
  · exact within_self
  · exact within_whenever fun u => by simp (disch := decide)

theorem execBeaconTimer_within (s : State) : Within [.clk, .mc] s (execBeaconTimer s) :=
  within_whenever fun u => by simp (disch := decide)

theorem execMcStatus_within (r : Req) (s : State) : Within replyParts s (execMcStatus r s) :=
  within_brixo rfl fun u => by simp (disch := decide)

theorem execMcNeighbourRead_within (r : Req) (first count : Nat) (s : State) :
    Within replyParts s (execMcNeighbourRead r first count s) :=
  within_brixo rfl fun u => by simp (disch := decide)

theorem execMcTonemapRefresh_within (r : Req) (short : Nat) (s : State) :
    Within replyParts s (execMcTonemapRefresh r short s) :=
  within_brixo rfl fun u => by simp (disch := decide)

/-! Chapter 20: the Lintel fabric. -/

theorem execHelloTimer_within (s : State) : Within [.clk, .lin] s (execHelloTimer s) :=
  within_whenever fun u => by simp (disch := decide)

theorem execHelloReceived_within (link : Nat) (h : HelloBlock) (s : State) :
    Within [.hatch, .mc, .lin, .upd, .diag] s (execHelloReceived link h s) :=
  within_whenever fun u => by simp (disch := decide)

theorem execLinkDown_within (link id : Nat) (s : State) :
    Within [.clk, .hatch, .mc, .lin, .diag] s (execLinkDown link id s) := by
  unfold execLinkDown
  split
  · exact within_self
  · exact within_whenever fun u => by simp (disch := decide)

theorem execLinkRetransmitTimeout_within (link id : Nat) (s : State) :
    Within [.clk, .lin] s (execLinkRetransmitTimeout link id s) := by
  unfold execLinkRetransmitTimeout
  split
  · exact within_self
  · exact within_whenever fun u => by simp (disch := decide)

theorem execRouteTimer_within (s : State) : Within [.clk, .mc, .lin] s (execRouteTimer s) :=
  within_whenever fun u => by simp (disch := decide)

theorem execAddressConflictClear_within (s : State) : Within [.clk, .mc, .lin] s (execAddressConflictClear s) :=
  within_whenever fun u => by simp (disch := decide)

theorem execFabricPacketReceived_within (link id q acked : Nat) (full : Bool) (p : FabricPacket) (s : State) :
    Within (replyParts ++ [.led, .bil, .shu, .veh, .upd, .nl])
      s (execFabricPacketReceived link id q acked full p s) := by
  unfold execFabricPacketReceived
  split
  · exact within_self
  · exact within_whenever fun u => by simp (disch := decide)

theorem execFragmentReassemblyTimeout_within (src msg : Nat) (s : State) :
    Within [.clk, .lin] s (execFragmentReassemblyTimeout src msg s) := by
  unfold execFragmentReassemblyTimeout
  split
  · exact within_self
  · exact within_whenever fun u => by simp (disch := decide)

theorem execEthernetFrame_within (port src dst : Nat) (s : State) :
    Within [.lin] s (execEthernetFrame port src dst s) :=
  within_whenever fun u => by simp (disch := decide)

theorem execBorrowTick_within (s : State) : Within [.clk, .mc, .lin] s (execBorrowTick s) := by
  unfold execBorrowTick
  dsimp only
  exact within_whenever fun u => by split <;> simp (disch := decide)

theorem execTokenLendable_within (token : Nat) (s : State) : Within [.clk, .lin] s (execTokenLendable token s) := by
  unfold execTokenLendable
  split
  · exact within_whenever fun u => by simp (disch := decide)
  · exact within_self

theorem execTokenRequest_within (m : TokenMsg) (s : State) :
    Within [.led, .bil, .hatch, .shu, .veh, .mc, .lin, .diag] s (execTokenRequest m s) :=
  within_whenever fun u => by simp (disch := decide)

theorem execTokenGrant_within (m : TokenMsg) (s : State) :
    Within [.led, .bil, .hatch, .shu, .veh, .mc, .lin, .diag] s (execTokenGrant m s) :=
  within_whenever fun u => by simp (disch := decide)

theorem execTokenAccept_within (m : TokenMsg) (s : State) :
    Within [.led, .bil, .hatch, .shu, .veh, .mc, .lin, .diag] s (execTokenAccept m s) :=
  within_whenever fun u => by simp (disch := decide)

theorem execTokenCommit_within (m : TokenMsg) (s : State) :
    Within [.led, .bil, .hatch, .shu, .veh, .mc, .lin, .diag] s (execTokenCommit m s) :=
  within_whenever fun u => by simp (disch := decide)

theorem execTokenAbort_within (m : TokenMsg) (s : State) :
    Within [.led, .bil, .hatch, .shu, .veh, .mc, .lin, .diag] s (execTokenAbort m s) :=
  within_whenever fun u => by simp (disch := decide)

theorem execTokenRenew_within (m : TokenMsg) (s : State) :
    Within [.led, .bil, .hatch, .shu, .veh, .mc, .lin, .diag] s (execTokenRenew m s) :=
  within_whenever fun u => by simp (disch := decide)

theorem execTokenRenewed_within (m : TokenMsg) (s : State) :
    Within [.led, .bil, .hatch, .shu, .veh, .mc, .lin, .diag] s (execTokenRenewed m s) :=
  within_whenever fun u => by simp (disch := decide)

theorem execTokenReturn_within (m : TokenMsg) (s : State) :
    Within [.led, .bil, .hatch, .shu, .veh, .mc, .lin, .diag] s (execTokenReturn m s) :=
  within_whenever fun u => by simp (disch := decide)

theorem execTokenRecall_within (m : TokenMsg) (s : State) :
    Within [.led, .bil, .hatch, .shu, .veh, .mc, .lin, .diag] s (execTokenRecall m s) :=
  within_whenever fun u => by simp (disch := decide)

theorem execTokenAcceptTimeout_within (xfer peer : Nat) (s : State) :
    Within [.clk, .led, .bil, .hatch, .shu, .veh, .mc, .lin, .diag] s (execTokenAcceptTimeout xfer peer s) := by
  unfold execTokenAcceptTimeout
  split
  · exact within_self
  · exact within_whenever fun u => by simp (disch := decide)

theorem execTokenCommitWait_within (xfer home : Nat) (s : State) :
    Within [.clk, .mc, .lin] s (execTokenCommitWait xfer home s) := by
  unfold execTokenCommitWait
  split
  · exact within_self
  · exact within_whenever fun u => by simp (disch := decide)

theorem execLeaseHalf_within (xfer home : Nat) (s : State) :
    Within [.clk, .led, .bil, .hatch, .shu, .veh, .mc, .lin, .diag] s (execLeaseHalf xfer home s) := by
  unfold execLeaseHalf
  split
  · exact within_self
  · dsimp only
    exact within_whenever fun u => by simp (disch := decide)

theorem execLeaseRelease_within (xfer home : Nat) (s : State) :
    Within [.clk, .led, .bil, .hatch, .shu, .veh, .mc, .lin, .diag] s (execLeaseRelease xfer home s) := by
  unfold execLeaseRelease
  split
  · exact within_self
  · exact within_whenever fun u => by simp (disch := decide)

theorem execLeaseExpiry_within (xfer home : Nat) (s : State) :
    Within [.clk, .led, .bil, .hatch, .shu, .veh, .mc, .lin, .diag] s (execLeaseExpiry xfer home s) := by
  unfold execLeaseExpiry
  split
  · exact within_self
  · exact within_whenever fun u => by simp (disch := decide)

theorem execRecallReturnTimer_within (xfer home : Nat) (s : State) :
    Within [.clk, .mc, .lin] s (execRecallReturnTimer xfer home s) := by
  unfold execRecallReturnTimer
  split
  · exact within_self
  · exact within_whenever fun u => by simp (disch := decide)

theorem execReissueClockExpiry_within (xfer peer : Nat) (s : State) :
    Within [.clk, .led, .bil, .hatch, .shu, .veh, .mc, .lin, .diag] s (execReissueClockExpiry xfer peer s) := by
  unfold execReissueClockExpiry
  split
  · exact within_self
  · exact within_whenever fun u => by simp (disch := decide)

theorem execQuarantineEnd_within (s : State) :
    Within [.clk, .led, .bil, .hatch, .shu, .veh, .mc, .lin, .diag] s (execQuarantineEnd s) := by
  unfold execQuarantineEnd
  split
  · exact within_self
  · exact within_whenever fun u => by simp (disch := decide)

theorem execLinStatus_within (r : Req) (s : State) : Within replyParts s (execLinStatus r s) :=
  within_brixo rfl fun u => by simp (disch := decide)

theorem execLinTokenStatus_within (r : Req) (s : State) : Within replyParts s (execLinTokenStatus r s) :=
  within_brixo rfl fun u => by simp (disch := decide)

theorem execLinForward_within (r : Req) (dst : Nat) (packet : List Byte) (s : State) :
    Within replyParts s (execLinForward r dst packet s) :=
  within_brixo rfl fun u => by simp (disch := decide)

theorem execLinForwardTimeout_within (s : State) : Within (replyParts ++ [.clk]) s (execLinForwardTimeout s) := by
  unfold execLinForwardTimeout
  split
  · exact within_self
  · exact within_whenever fun u => by simp (disch := decide)

theorem execAddressTableAgeing_within (mac : Nat) (s : State) :
    Within [.clk, .lin] s (execAddressTableAgeing mac s) := by
  unfold execAddressTableAgeing
  split
  · exact within_self
  · exact within_whenever fun u => by simp (disch := decide)

/-! Chapter 21: Hinge redundancy. -/

theorem execPeerClaimFrame_within (present : Bool) (claim : Nat) (yields ok : Bool) (s : State) :
    Within [.recl, .hatch, .shu, .lsw, .hng, .nl, .diag] s (execPeerClaimFrame present claim yields ok s) :=
  within_whenever fun u => by simp (disch := decide)

theorem execPeerClaimSilence_within (s : State) :
    Within [.clk, .recl, .hatch, .shu, .lsw, .hng, .nl, .diag] s (execPeerClaimSilence s) :=
  within_whenever fun u => by split <;> simp (disch := decide)

theorem execHingeHeartbeat_within (peerId role claim : Nat) (syncs yields : Bool) (s : State) :
    Within [.recl, .hatch, .shu, .lsw, .hng, .nl, .diag] s (execHingeHeartbeat peerId role claim syncs yields s) :=
  within_whenever fun u => by simp (disch := decide)

theorem execHingeEpochMessage_within (m : HingeMsg) (s : State) :
    Within [.met, .led, .bil, .hatch, .veh, .hng, .diag] s (execHingeEpochMessage m s) :=
  within_whenever fun u => by simp (disch := decide)

theorem execHingeTakeover_within (s : State) :
    Within [.clk, .met, .led, .bil, .hatch, .hng, .diag] s (execHingeTakeover s) := by
  unfold execHingeTakeover
  split
  · exact within_self
  · exact within_whenever fun u => by simp (disch := decide)

theorem execYieldWithdraw_within (s : State) : Within [.clk, .hng] s (execYieldWithdraw s) :=
  within_whenever fun u => by simp (disch := decide)

theorem execHingeIsolated_within (s : State) : Within [.clk, .hatch, .hng, .diag] s (execHingeIsolated s) :=
  within_whenever fun u => by simp (disch := decide)

theorem execHingeRoleResume_within (s : State) :
    Within [.clk, .recl, .hatch, .shu, .lsw, .hng, .nl, .diag] s (execHingeRoleResume s) :=
  within_whenever fun u => by simp (disch := decide)

theorem execHingeResync_within (msgs : List HingeMsg) (image : Option HingeImage) (blocks : Nat) (s : State) :
    Within [.met, .led, .bil, .hatch, .veh, .hng, .diag] s (execHingeResync msgs image blocks s) :=
  within_whenever fun u => by
    dsimp only
    split <;> simp [forget_foldl]

theorem execHingeProofTest_within (linkOk claimOk : Bool) (diff : Int) (replicaOk crossOk rcmOk shorted : Bool) (s :
    State) :
    Within [.clk, .recl, .led, .hatch, .shu, .pq, .veh, .hng, .upd, .nl, .diag]
      s (execHingeProofTest linkOk claimOk diff replicaOk crossOk rcmOk shorted s) :=
  within_whenever fun u => by simp (disch := decide)

theorem execHngStatus_within (r : Req) (s : State) :
    Within (replyParts ++ [.clk, .dom, .mode, .recl, .inp, .sie, .cal, .bil, .shu, .sag, .kiln, .veh, .lsw, .hng])
      s (execHngStatus r s) :=
  within_brixo rfl fun u => by simp (disch := decide)

theorem execHngSwitch_within (r : Req) (s : State) : Within (replyParts ++ [.hng]) s (execHngSwitch r s) :=
  within_brixo rfl fun u => by simp (disch := decide)

theorem execHngForce_within (r : Req) (driven : Bool) (s : State) :
    Within (replyParts ++ [.hng]) s (execHngForce r driven s) :=
  within_brixo rfl fun u => by simp (disch := decide)

theorem execHngProofRun_within (r : Req) (s : State) : Within (replyParts ++ [.hng]) s (execHngProofRun r s) :=
  within_brixo rfl fun u => by simp (disch := decide)

theorem execHingeEpochAck_within (e : Nat) (s : State) : Within [.hng] s (execHingeEpochAck e s) :=
  within_whenever fun u => by simp (disch := decide)

/-! Chapter 22: firmware update. -/

theorem execUpdStatus_within (r : Req) (s : State) : Within replyParts s (execUpdStatus r s) :=
  within_brixo rfl fun u => by simp (disch := decide)

theorem execUpdStageBegin_within (r : Req) (manifest : List Byte) (s : State) :
    Within (replyParts ++ [.upd]) s (execUpdStageBegin r manifest s) :=
  within_brixo rfl fun u => by simp (disch := decide)

theorem execUpdStageWrite_within (r : Req) (offset len : Nat) (data : List Byte) (s : State) :
    Within (replyParts ++ [.upd]) s (execUpdStageWrite r offset len data s) :=
  within_brixo rfl fun u => by split <;> simp (disch := decide)

theorem execUpdVerify_within (r : Req) (s : State) : Within (replyParts ++ [.upd]) s (execUpdVerify r s) :=
  within_brixo rfl fun u => by
    dsimp only
    (repeat' split) <;> simp (disch := decide)

theorem execVerifyComplete_within (s : State) : Within [.hatch, .mc, .lin, .upd, .diag] s (execVerifyComplete s) := by
  unfold execVerifyComplete
  split
  · exact within_self
  · exact within_whenever fun u => by split <;> simp (disch := decide)

theorem execUpdActivate_within (r : Req) (peerHolds : Bool) (s : State) :
    Within (replyParts ++ [.upd]) s (execUpdActivate r peerHolds s) :=
  within_brixo rfl fun u => by simp (disch := decide)

theorem execActivationRestart_within (peer : Nat) (s : State) :
    Within restartParts s (execActivationRestart peer s) := by
  unfold execActivationRestart
  split
  · exact within_whenever fun u => by simp (disch := decide)
  · exact within_whenever fun u => by simp (disch := decide)

theorem execUpdConfirm_within (r : Req) (s : State) :
    Within (replyParts ++ [.mode, .led, .upd]) s (execUpdConfirm r s) :=
  within_brixo rfl fun u => by simp (disch := decide)

theorem execAutoConfirm_within (s : State) :
    Within [.clk, .mode, .led, .hatch, .upd, .diag] s (execAutoConfirm s) := by
  unfold execAutoConfirm
  split
  · exact within_self
  · exact within_whenever fun u => by simp (disch := decide)

theorem execTrialTimeout_within (s : State) : Within restartParts s (execTrialTimeout s) :=
  within_whenever fun u => by simp (disch := decide)

theorem execChainOffer_within (src id : Nat) (s : State) :
    Within [.hatch, .mc, .lin, .upd, .diag] s (execChainOffer src id s) :=
  within_next (by simp (disch := decide))

theorem execChainRequest_within (src id off len : Nat) (s : State) :
    Within [.hatch, .mc, .lin, .upd, .diag] s (execChainRequest src id off len s) :=
  within_next (by simp (disch := decide))

theorem execChainChunk_within (src id off : Nat) (data : List Byte) (s : State) :
    Within [.hatch, .mc, .lin, .upd, .diag] s (execChainChunk src id off data s) :=
  within_next (by simp (disch := decide))

theorem execChainHave_within (src id : Nat) (s : State) :
    Within [.hatch, .mc, .lin, .upd, .diag] s (execChainHave src id s) :=
  within_next (by simp (disch := decide))

theorem execChainFetchTimeout_within (s : State) : Within [.clk, .mc, .lin, .upd] s (execChainFetchTimeout s) := by
  unfold execChainFetchTimeout
  split
  · exact within_self
  · split
    · exact within_self
    · exact within_whenever fun u => by simp (disch := decide)

/-! Chapter 23: auxiliary sensing and Nightlatch. -/

theorem execAdcConversionComplete_within (ch : Nat) (conv : Bool) (code : Nat) (ovr under : Bool) (s : State) :
    Within (replyParts ++ [.pwr, .led, .bil, .shu, .kiln, .veh, .lsw, .adc, .nl])
      s (execAdcConversionComplete ch conv code ovr under s) :=
  within_whenever fun u => by split <;> simp (disch := decide)

theorem execUrgentAdcRequest_within (kind busy : Nat) (conv : Bool) (s : State) :
    Within [.adc] s (execUrgentAdcRequest kind busy conv s) :=
  within_whenever fun u => by simp (disch := decide)

theorem execAdcTrigEdge_within (rising : Bool) (busy : Nat) (conv : Bool) (s : State) :
    Within [.adc] s (execAdcTrigEdge rising busy conv s) :=
  within_whenever fun u => by (repeat' split) <;> simp (disch := decide)

theorem execITempRaiseStep_within (s : State) :
    Within [.clk, .led, .bil, .hatch, .shu, .veh, .mc, .lin, .adc, .diag] s (execITempRaiseStep s) := by
  unfold execITempRaiseStep
  split
  · exact within_whenever fun u => by simp (disch := decide)
  · exact within_self

theorem execRtcDiscipline_within (ppb : Int) (s : State) : Within [.nl] s (execRtcDiscipline ppb s) :=
  within_whenever fun u => by simp (disch := decide)

theorem execIdleCheckArm_within (s : State) : Within [.clk, .nl] s (execIdleCheckArm s) :=
  within_whenever fun u => by simp (disch := decide)

theorem execIdleCurrentBlock_within (s : State) :
    Within [.clk, .led, .hatch, .shu, .sag, .veh, .nl, .diag] s (execIdleCurrentBlock s) :=
  within_whenever fun u => by
    dsimp only
    split <;> simp (disch := decide)

theorem execWatchRule_within (i : Nat) (s : State) : Within [.clk, .hatch, .nl, .diag] s (execWatchRule i s) := by
  unfold execWatchRule
  split
  · exact within_self
  · split
    · exact within_self
    · exact within_whenever fun u => by
        simp (disch := decide) only [forget_wakeSeen, forget_nlEvent, forget_set_nl, forget_advanceTo,
            forget_ite_eq_iff, implies_true, and_self]

theorem execWakeOutPulseEnd_within (s : State) : Within [.clk, .nl] s (execWakeOutPulseEnd s) := by
  unfold execWakeOutPulseEnd
  split
  · exact within_self
  · exact within_next (by simp (disch := decide))

theorem execAuxRead_within (r : Req) (mask : Nat) (s : State) : Within replyParts s (execAuxRead r mask s) :=
  within_brixo rfl fun u => by simp (disch := decide)

theorem execAuxConvert_within (r : Req) (ch n : Nat) (s : State) :
    Within (replyParts ++ [.adc]) s (execAuxConvert r ch n s) :=
  within_brixo rfl fun u => by simp (disch := decide)

theorem execAuxTrigRead_within (r : Req) (most : Nat) (s : State) :
    Within (replyParts ++ [.adc]) s (execAuxTrigRead r most s) :=
  within_brixo rfl fun u => by simp (disch := decide)

theorem execNlStatus_within (r : Req) (s : State) : Within replyParts s (execNlStatus r s) :=
  within_brixo rfl fun u => by simp (disch := decide)

theorem execNlWakeAck_within (r : Req) (s : State) : Within (replyParts ++ [.nl]) s (execNlWakeAck r s) :=
  within_brixo rfl fun u => by simp (disch := decide)

/-! Chapter 24: the event recorder. -/

theorem execDiagTokenRefill_within (n : Nat) (s : State) : Within [.clk, .diag] s (execDiagTokenRefill n s) := by
  unfold execDiagTokenRefill
  split
  · exact within_self
  · split
    · exact within_self
    · exact within_whenever fun u => by simp (disch := decide)

theorem execDiagStatus_within (r : Req) (s : State) : Within replyParts s (execDiagStatus r s) :=
  within_brixo rfl fun u => by simp (disch := decide)

theorem execDiagRead_within (r : Req) (first most : Nat) (s : State) :
    Within replyParts s (execDiagRead r first most s) :=
  within_brixo rfl fun u => by simp (disch := decide)

theorem execDiagFreeze_within (r : Req) (action : Nat) (s : State) :
    Within replyParts s (execDiagFreeze r action s) :=
  within_brixo rfl fun u => by (repeat' split) <;> simp (disch := decide)

theorem execDiagClear_within (r : Req) (s : State) : Within replyParts s (execDiagClear r s) :=
  within_brixo rfl fun u => by simp (disch := decide)

theorem execFreezeTimeout_within (s : State) : Within [.clk, .hatch, .diag] s (execFreezeTimeout s) := by
  unfold execFreezeTimeout
  split
  · exact within_self
  · exact within_whenever fun u => by simp (disch := decide)

/-! Chapter 25: electrical. -/

theorem execRs485ByteReceived_within (byte : Nat) (parity framing : Bool) (s : State) :
    Within [.rs] s (execRs485ByteReceived byte parity framing s) :=
  within_whenever fun u => by simp (disch := decide)

theorem execRs485FrameEnd_within (s : State) : Within [.clk, .hatch, .diag, .rs] s (execRs485FrameEnd s) := by
  unfold execRs485FrameEnd
  split
  · exact within_self
  · exact within_whenever fun u => by simp (disch := decide)

theorem execSysRs485Send_within (r : Req) (len : Nat) (data : List Byte) (s : State) :
    Within (replyParts ++ [.rs]) s (execSysRs485Send r len data s) :=
  within_brixo rfl fun u => by simp (disch := decide)

theorem execRs485SendComplete_within (s : State) :
    Within (replyParts ++ [.clk, .rs]) s (execRs485SendComplete s) := by
  unfold execRs485SendComplete
  split
  · exact within_self
  · exact within_whenever fun u => by simp (disch := decide)

theorem execVbatApplied_within (s : State) : Within [.pwr, .dom, .nl] s (execVbatApplied s) :=
  within_whenever fun u => by simp (disch := decide)

theorem execV12OutOverload_within (s : State) : Within [.pwr] s (execV12OutOverload s) :=
  within_whenever fun u => by simp (disch := decide)

theorem execV12OutRestart_within (s : State) : Within [.clk, .pwr] s (execV12OutRestart s) := by
  unfold execV12OutRestart
  split
  · exact within_self
  · exact within_whenever fun u => by simp (disch := decide) only [forget_set_pwr, forget_advanceTo]

/-! The host SPI port (11): a transaction runs the register commands above. -/

/-- The blocks that a transaction of the host SPI port reaches. -/
abbrev spiParts : List Block := [.clk, .hatch, .kiln, .dma, .nl, .diag]

@[simp] theorem forget_chanRead (c o : Nat) (s : State) :
    forget spiParts.contains (chanRead c o s).2 = forget spiParts.contains s := by
  have hack := forget_after_of_within (l' := spiParts) (by decide) (execH2mAckRead_within c s)
  have hdata := forget_after_of_within (l' := spiParts) (by decide) (execM2hDataRead_within c s)
  unfold chanRead
  dsimp only
  split <;> simp (disch := decide) only [hack, hdata, forget_takeFree]

@[simp] theorem forget_regRead (a : Nat) (s : State) :
    forget spiParts.contains (regRead a s).2 = forget spiParts.contains s := by
  have hsem :=
    forget_after_of_within (l' := spiParts) (by decide) (execSemaphoreRead_within ((a - 0x0200) / 4) 0x10 s)
  unfold regRead
  (repeat' split) <;> simp only [hsem, forget_chanRead]

@[simp] theorem forget_chanWrite (c o w : Nat) (s : State) :
    forget spiParts.contains (chanWrite c o w s) = forget spiParts.contains s := by
  have hdata (u) := forget_after_of_within (l' := spiParts) (by decide) (execH2mDataWrite_within c w u)
  have hflush (u) := forget_after_of_within (l' := spiParts) (by decide) (execH2mFlush_within c u)
  have hover (u) := forget_after_of_within (l' := spiParts) (by decide) (execH2mOverflowClear_within c u)
  have hunder (u) := forget_after_of_within (l' := spiParts) (by decide) (execM2hUnderflowClear_within c u)
  have hack (u) := forget_after_of_within (l' := spiParts) (by decide) (execM2hAckWrite_within c w u)
  unfold chanWrite
  split <;> simp only [hdata, hflush, hover, hunder, hack, forget_ite_eq_iff, implies_true, and_self]

@[simp] theorem forget_dmaWrite (c o w : Nat) (s : State) :
    forget spiParts.contains (dmaWrite c o w s) = forget spiParts.contains s := by
  unfold dmaWrite
  split
  · exact forget_after_of_within (by decide) (execDctrlWrite_within c w s)
  · exact forget_after_of_within (by decide) (execDstatClear_within c w s)
  · exact forget_after_of_within (by decide) (execRegisterWrite_within _ w s)
  · rfl
  · exact forget_after_of_within (by decide) (execDescriptorCommit_within c w s)
  · exact forget_after_of_within (by decide) (execDescriptorStagingWrite_within c _ w s)

@[simp] theorem forget_regWrite (a w : Nat) (s : State) :
    forget spiParts.contains (regWrite a w s) = forget spiParts.contains s := by
  have hirq := forget_after_of_within (l' := spiParts) (by decide) (execIrqStatusClear_within w s)
  have hreg := forget_after_of_within (l' := spiParts) (by decide) (execRegisterWrite_within a w s)
  have hsem :=
    forget_after_of_within (l' := spiParts) (by decide) (execSemaphoreRelease_within ((a - 0x0200) / 4) 0x10 w s)
  have hwedge :=
    forget_after_of_within (l' := spiParts) (by decide) (execWedgeRegisterWrite_within ((a - 0x0800) / 4) w .hostSpi s)
  unfold regWrite
  simp only [hirq, hreg, hsem, hwedge, forget_chanWrite, forget_dmaWrite, forget_ite_eq_iff, implies_true, and_self]

@[simp] theorem forget_spiRead (fuel a n : Nat) (s : State) :
    forget spiParts.contains (spiRead fuel a n s).2 = forget spiParts.contains s := by
  induction fuel generalizing a n s with
  | zero => rfl
  | succ fuel ih =>
    unfold spiRead
    split
    · rfl
    · split
      · exact (ih _ _ _).trans (forget_regRead a s)
      · exact ih _ _ _

@[simp] theorem forget_spiWrite (fuel a : Nat) (bs : List Byte) (s : State) :
    forget spiParts.contains (spiWrite fuel a bs s) = forget spiParts.contains s := by
  induction fuel generalizing a bs s with
  | zero => rfl
  | succ fuel ih =>
    unfold spiWrite
    split
    · split
      · rfl
      · exact (ih _ _ _).trans (forget_regWrite a _ s)
    · split
      · rfl
      · exact (ih _ _ _).trans (forget_after_of_within (by decide) (execRegisterWrite_within a _ s))

@[simp] theorem forget_spiTransaction (wire : List Byte) (clocks : Nat) (s : State) :
    forget spiParts.contains (spiTransaction wire clocks s) = forget spiParts.contains s := by
  unfold spiTransaction
  dsimp only
  (repeat' split) <;> simp (disch := decide)

theorem execHspiCsFalling_within (wire : List Byte) (clocks : Nat) (s : State) :
    Within spiParts s (execHspiCsFalling wire clocks s) :=
  within_whenever fun u => by simp (disch := decide)

/-! Every command. -/

/-- Every command answers within the blocks listed for it. -/
theorem exec_within (c : Instr) (s : State) : Within (touches c) s (exec c s) := by
  cases c with
  | mainsApplied => exact execMainsApplied_within _ s
  | railsGood => exact execRailsGood_within s
  | d1Start => exact execD1Start_within _ _ _ s
  | d2Start => exact execD2Start_within _ _ _ s
  | d3LeavesReset => exact execD3LeavesReset_within _ _ _ _ _ _ _ _ _ s
  | readyRises => exact execReadyRises_within s
  | vholdReachesThreshold => exact execVholdReachesThreshold_within s
  | holdupCapMeasured => exact execHoldupCapMeasured_within _ s
  | vholdChargeTimeout => exact execVholdChargeTimeout_within s
  | firstModeEntered => exact execFirstModeEntered_within _ s
  | interimToService => exact execInterimToService_within s
  | sysModeGet => exact execSysModeGet_within _ s
  | sysModeRequest => exact execSysModeRequest_within _ _ s
  | modeChangeEffective => exact execModeChangeEffective_within s
  | sysReset => exact execSysReset_within _ _ s
  | sysResetBegin => exact execSysResetBegin_within s
  | sysHoldupInfo => exact execSysHoldupInfo_within _ s
  | watchDelayExpiry => exact execWatchDelayExpiry_within s
  | watchWake => exact execWatchWake_within _ s
  | mainsFailDetection => exact execMainsFailDetection_within _ s
  | mainsAbsentDecision => exact execMainsAbsentDecision_within s
  | finalSignedReading => exact execFinalSignedReading_within s
  | holdupDisplayDecision => exact execHoldupDisplayDecision_within s
  | holdupSequenceEnd => exact execHoldupSequenceEnd_within s
  | hrstLow => exact execHrstLow_within _ s
  | watchdogExpiry => exact execWatchdogExpiry_within s
  | enginePoolFault => exact execEnginePoolFault_within s
  | timebaseFault => exact execTimebaseFault_within s
  | spyholeReset => exact execSpyholeReset_within s
  | reclaimTimerExpiry => exact execReclaimTimerExpiry_within s
  | railWarning => exact execRailWarning_within s
  | statusFrame => exact execStatusFrame_within _ _ _ _ _ _ s
  | sample400k => exact execSample400k_within _ s
  | mainPathSample => exact execMainPathSample_within s
  | epochStateCapture => exact execEpochStateCapture_within s
  | epochLatch => exact execEpochLatch_within s
  | journalAppendComplete => exact execJournalAppendComplete_within _ _ s
  | journalNotDurable => exact execJournalNotDurable_within s
  | meteringStopOpen => exact execMeteringStopOpen_within s
  | meteringFaultEnd => exact execMeteringFaultEnd_within _ _ _ s
  | peWindowEval => exact execPeWindowEval_within s
  | magField => exact execMagField_within s
  | magFieldEnd => exact execMagFieldEnd_within s
  | overrangeClose => exact execOverrangeClose_within _ s
  | gainMismatch => exact execGainMismatch_within _ s
  | sieveSaturationClose => exact execSieveSaturationClose_within _ s
  | metInputStatus => exact execMetInputStatus_within _ s
  | metInputSelftest => exact execMetInputSelftest_within _ _ s
  | selftestEnd => exact execSelftestEnd_within _ s
  | metSieveStatus => exact execMetSieveStatus_within _ s
  | metSieveHalt => exact execMetSieveHalt_within _ _ s
  | sieveStop => exact execSieveStop_within s
  | sieveRestart => exact execSieveRestart_within s
  | metSieveSetLoad => exact execMetSieveSetLoad_within _ _ s
  | metEnergyRead => exact execMetEnergyRead_within _ s
  | metDeltaRead => exact execMetDeltaRead_within _ _ _ s
  | delayedReadAndReset => exact execDelayedReadAndReset_within s
  | metMeasRead => exact execMetMeasRead_within _ s
  | metSumsRead => exact execMetSumsRead_within _ _ s
  | neutralMismatch => exact execNeutralMismatch_within s
  | reverseFlow => exact execReverseFlow_within _ s
  | cfPulseEdge => exact execCfPulseEdge_within _ s
  | cfPulseEnd => exact execCfPulseEnd_within _ s
  | metCalMeasure => exact execMetCalMeasure_within _ _ _ s
  | calMeasureSpanEnd => exact execCalMeasureSpanEnd_within s
  | metCalCommit => exact execMetCalCommit_within _ s
  | metTempTableLoad => exact execMetTempTableLoad_within _ _ s
  | metTempStatus => exact execMetTempStatus_within _ s
  | metLrId => exact execMetLrId_within _ s
  | paramEffective => exact execParamEffective_within _ s
  | urmsHalfSegmentEnd => exact execUrmsHalfSegmentEnd_within s
  | pqArm => exact execPqArm_within s
  | metPqSummary => exact execMetPqSummary_within _ _ s
  | metPqHarmRead => exact execMetPqHarmRead_within _ _ _ s
  | metPqShRead => exact execMetPqShRead_within _ _ _ s
  | metPqEventRead => exact execMetPqEventRead_within _ _ _ s
  | ledSnapshotRead => exact execLedSnapshotRead_within _ s
  | ledSeriesRead => exact execLedSeriesRead_within _ _ _ _ s
  | ledWaveCapture => exact execLedWaveCapture_within _ _ _ s
  | waveCaptureCopy => exact execWaveCaptureCopy_within s
  | ledSignReading => exact execLedSignReading_within _ _ s
  | signatureComplete => exact execSignatureComplete_within s
  | periodicReadingDue => exact execPeriodicReadingDue_within s
  | ledStatus => exact execLedStatus_within _ s
  | bilTimeSet => exact execBilTimeSet_within _ _ _ _ s
  | timeChangeEffective => exact execTimeChangeEffective_within s
  | slewComplete => exact execSlewComplete_within s
  | bilTimeGet => exact execBilTimeGet_within _ s
  | bilTzLoad => exact execBilTzLoad_within _ _ s
  | bilCalendarLoad => exact execBilCalendarLoad_within _ _ s
  | bilTariffRead => exact execBilTariffRead_within _ s
  | civilBoundary => exact execCivilBoundary_within s
  | bilBillingClose => exact execBilBillingClose_within _ s
  | commandBillingClose => exact execCommandBillingClose_within s
  | bilBillingRead => exact execBilBillingRead_within _ _ s
  | bilCreditTransfer => exact execBilCreditTransfer_within _ _ s
  | bilCreditStatus => exact execBilCreditStatus_within _ s
  | bilEmergencyActivate => exact execBilEmergencyActivate_within _ s
  | bilDisconnect => exact execBilDisconnect_within _ _ s
  | km1FeedbackMismatch => exact execKm1FeedbackMismatch_within _ s
  | speedMonitor => exact execSpeedMonitor_within _ _ _ _ s
  | speedRestored => exact execSpeedRestored_within s
  | kilnTaskRelease => exact execKilnTaskRelease_within _ _ _ _ s
  | kilnTaskRun => exact execKilnTaskRun_within _ s
  | kilnSteal => exact execKilnSteal_within _ s
  | kilnDeadlineMiss => exact execKilnDeadlineMiss_within _ _ s
  | shedChanged => exact execShedChanged_within s
  | cellHandshakeTimeout => exact execCellHandshakeTimeout_within _ s
  | cellMemoryError => exact execCellMemoryError_within _ s
  | crossCheck => exact execCrossCheck_within _ _ _ _ _ s
  | semaphoreRead => exact execSemaphoreRead_within _ _ s
  | semaphoreRelease => exact execSemaphoreRelease_within _ _ _ s
  | semHostTimeout => exact execSemHostTimeout_within _ s
  | wedgeRegisterWrite => exact execWedgeRegisterWrite_within _ _ _ s
  | kilnStatus => exact execKilnStatus_within _ s
  | wedgeStatus => exact execWedgeStatus_within _ s
  | h2mDataWrite => exact execH2mDataWrite_within _ _ s
  | hatchPacketTake => exact execHatchPacketTake_within _ s
  | h2mAckRead => exact execH2mAckRead_within _ s
  | h2mFlush => exact execH2mFlush_within _ s
  | h2mOverflowClear => exact execH2mOverflowClear_within _ s
  | m2hDataRead => exact execM2hDataRead_within _ s
  | m2hAckWrite => exact execM2hAckWrite_within _ _ s
  | m2hUnderflowClear => exact execM2hUnderflowClear_within _ s
  | irqStatusClear => exact execIrqStatusClear_within _ s
  | registerWrite => exact execRegisterWrite_within _ _ s
  | hatchQueuePlacement => exact execHatchQueuePlacement_within _ s
  | paramGet => exact execParamGet_within _ _ s
  | paramSet => exact execParamSet_within _ _ _ _ s
  | hatchStatus => exact execHatchStatus_within _ s
  | brixoEthDatagram => exact execBrixoEthDatagram_within _ _ _ _ s
  | ipReassemblyTimeout => exact execIpReassemblyTimeout_within s
  | dctrlWrite => exact execDctrlWrite_within _ _ s
  | dmaChannelAbort => exact execDmaChannelAbort_within _ s
  | descriptorStagingWrite => exact execDescriptorStagingWrite_within _ _ _ s
  | descriptorCommit => exact execDescriptorCommit_within _ _ s
  | dstatClear => exact execDstatClear_within _ _ s
  | dmaDescriptorStart => exact execDmaDescriptorStart_within _ _ s
  | dmaBurst => exact execDmaBurst_within _ s
  | dmaWriteBack => exact execDmaWriteBack_within _ _ s
  | dmaStatus => exact execDmaStatus_within _ s
  | dmaAbort => exact execDmaAbort_within _ _ s
  | cpStateChange => exact execCpStateChange_within _ _ s
  | ppStateChange => exact execPpStateChange_within _ s
  | slacMessage => exact execSlacMessage_within _ s
  | slacTimeout => exact execSlacTimeout_within s
  | v2gMessage => exact execV2gMessage_within _ s
  | authTimeout => exact execAuthTimeout_within s
  | overdraw => exact execOverdraw_within s
  | vehStatus => exact execVehStatus_within _ s
  | vehAuthorise => exact execVehAuthorise_within _ _ _ _ s
  | vehLimitsSet => exact execVehLimitsSet_within _ _ _ _ _ s
  | vehStop => exact execVehStop_within _ _ s
  | vehAvailability => exact execVehAvailability_within _ _ s
  | vehCertLoad => exact execVehCertLoad_within _ _ _ s
  | vehRelayAnswer => exact execVehRelayAnswer_within _ _ _ s
  | sessionClose => exact execSessionClose_within s
  | canFrameReceived => exact execCanFrameReceived_within _ s
  | canFrameSend => exact execCanFrameSend_within s
  | powerModuleLost => exact execPowerModuleLost_within _ s
  | cableCheckReady => exact execCableCheckReady_within s
  | cableCheckTimeout => exact execCableCheckTimeout_within s
  | prechargeComplete => exact execPrechargeComplete_within s
  | prechargeTimeout => exact execPrechargeTimeout_within s
  | dcDischargeEnd => exact execDcDischargeEnd_within s
  | shutterEvaluationCycle => exact execShutterEvaluationCycle_within _ s
  | channelDisagreement => exact execChannelDisagreement_within s
  | channelLinkLoss => exact execChannelLinkLoss_within s
  | close => exact execClose_within s
  | openOrderly => exact execOpenOrderly_within _ s
  | openNow => exact execOpenNow_within _ s
  | pwm => exact execPwm_within _ s
  | limit => exact execLimit_within _ _ s
  | reclaim => exact execReclaim_within s
  | reset => exact execReset_within _ s
  | rcmTest => exact execRcmTest_within s
  | orderlyStopWaitEnd => exact execOrderlyStopWaitEnd_within s
  | kmPullinEnd => exact execKmPullinEnd_within s
  | openCoil => exact execOpenCoil_within _ s
  | kfbTimeout => exact execKfbTimeout_within s
  | estopLineOpen => exact execEstopLineOpen_within _ _ s
  | estopDiscrep => exact execEstopDiscrep_within _ s
  | estopTestPulse => exact execEstopTestPulse_within _ _ s
  | rcmSelftestStepEnd => exact execRcmSelftestStepEnd_within _ s
  | rcmSelftestAge => exact execRcmSelftestAge_within s
  | iPermHoldEnd => exact execIPermHoldEnd_within s
  | weldTest => exact execWeldTest_within s
  | coilSupplyLow => exact execCoilSupplyLow_within _ s
  | sresetRelease => exact execSresetRelease_within _ s
  | sresetStuck => exact execSresetStuck_within s
  | pendingResetLapse => exact execPendingResetLapse_within s
  | cpStateAHeld => exact execCpStateAHeld_within s
  | shuStatus => exact execShuStatus_within _ s
  | shuReset => exact execShuReset_within _ _ s
  | shuConfigOpen => exact execShuConfigOpen_within _ _ _ s
  | shuConfigClose => exact execShuConfigClose_within _ s
  | shuPasswordSet => exact execShuPasswordSet_within _ _ _ s
  | shuRcmTest => exact execShuRcmTest_within _ s
  | shuLogRead => exact execShuLogRead_within _ _ _ s
  | configSessionIdle => exact execConfigSessionIdle_within s
  | lockoutEnd => exact execLockoutEnd_within s
  | lswStatus => exact execLswStatus_within _ s
  | lswControl => exact execLswControl_within _ _ _ _ s
  | lswThermalOff => exact execLswThermalOff_within _ _ s
  | lswIlimTimeout => exact execLswIlimTimeout_within _ s
  | lswLatchRelease => exact execLswLatchRelease_within _ _ s
  | lswRetryRefill => exact execLswRetryRefill_within _ s
  | lswPulseEnd => exact execLswPulseEnd_within _ s
  | lswOpenLoad => exact execLswOpenLoad_within _ _ s
  | lswOffStateShort => exact execLswOffStateShort_within _ s
  | vauxUndervoltage => exact execVauxUndervoltage_within _ s
  | vauxRecovery => exact execVauxRecovery_within _ s
  | vauxPowerCycle => exact execVauxPowerCycle_within _ s
  | vauxGndOpen => exact execVauxGndOpen_within s
  | vauxGndRestored => exact execVauxGndRestored_within s
  | loadDump => exact execLoadDump_within _ s
  | sagStatus => exact execSagStatus_within _ s
  | sagSlotInfo => exact execSagSlotInfo_within _ _ s
  | sagKeyGenerate => exact execSagKeyGenerate_within _ _ _ _ _ s
  | sagKeyWrite => exact execSagKeyWrite_within _ _ _ _ _ _ s
  | sagKeyImport => exact execSagKeyImport_within _ _ _ _ _ _ _ s
  | sagKeyDerive => exact execSagKeyDerive_within _ _ _ _ _ _ _ s
  | sagKeyErase => exact execSagKeyErase_within _ _ s
  | sagPubkeyExport => exact execSagPubkeyExport_within _ _ _ _ s
  | sagCertAttach => exact execSagCertAttach_within _ _ _ s
  | sagLifecycleSet => exact execSagLifecycleSet_within _ _ _ s
  | lifecycleRestart => exact execLifecycleRestart_within s
  | sagTamperAck => exact execSagTamperAck_within _ _ s
  | sagUnlockChallenge => exact execSagUnlockChallenge_within _ s
  | tampSample => exact execTampSample_within _ s
  | earthLoading => exact execEarthLoading_within s
  | meshBreach => exact execMeshBreach_within _ s
  | dbgEnableWrite => exact execDbgEnableWrite_within _ s
  | spyholeDebugAccess _ addr data => exact execSpyholeDebugAccess_within _ addr data s
  | pollCycle => exact execPollCycle_within _ s
  | lowPowerDetectPulse => exact execLowPowerDetectPulse_within _ s
  | conStatus => exact execConStatus_within _ s
  | conTune => exact execConTune_within _ _ _ s
  | conListLoad => exact execConListLoad_within _ _ s
  | conLbRead => exact execConLbRead_within _ _ _ s
  | conLbWrite => exact execConLbWrite_within _ _ _ _ s
  | conLbConfig => exact execConLbConfig_within _ _ _ _ _ s
  | inventory => exact execInventory_within _ _ s
  | stayQuiet => exact execStayQuiet_within _ s
  | select => exact execSelect_within _ s
  | resetToReady => exact execResetToReady_within _ s
  | getSystemInformation => exact execGetSystemInformation_within _ s
  | readSingleBlock => exact execReadSingleBlock_within _ _ s
  | readMultipleBlocks => exact execReadMultipleBlocks_within _ _ _ s
  | writeSingleBlock => exact execWriteSingleBlock_within _ _ _ _ s
  | writeMultipleBlocks => exact execWriteMultipleBlocks_within _ _ _ _ s
  | lbUnsupportedCommand => exact execLbUnsupportedCommand_within _ s
  | lbFieldDrop => exact execLbFieldDrop_within s
  | lbBrixoRequest => exact execLbBrixoRequest_within s
  | letterboxSummaryWrite => exact execLetterboxSummaryWrite_within _ s
  | dispStatus => exact execDispStatus_within _ s
  | dispImageWrite => exact execDispImageWrite_within _ _ _ _ s
  | dispUpdate => exact execDispUpdate_within _ _ _ _ _ _ _ s
  | dispClean => exact execDispClean_within _ s
  | imageCopyComplete => exact execImageCopyComplete_within s
  | dispRailsGood => exact execDispRailsGood_within s
  | dispFrameEnd => exact execDispFrameEnd_within s
  | dispRailsDown => exact execDispRailsDown_within s
  | dispRailFault => exact execDispRailFault_within s
  | waitingUpdateCheck => exact execWaitingUpdateCheck_within s
  | waitingUpdateTimeout => exact execWaitingUpdateTimeout_within s
  | transomRefresh => exact execTransomRefresh_within s
  | supplyZeroCrossing => exact execSupplyZeroCrossing_within _ _ s
  | mcFrameBegin => exact execMcFrameBegin_within s
  | mcDataFrame => exact execMcDataFrame_within _ _ _ _ _ s
  | mcAckFrame => exact execMcAckFrame_within _ _ _ _ _ _ _ s
  | toneMapRequest => exact execToneMapRequest_within _ _ _ _ s
  | toneMapReply => exact execToneMapReply_within _ _ _ _ _ _ s
  | beacon => exact execBeacon_within _ _ _ s
  | mcAckWindowExpiry => exact execMcAckWindowExpiry_within s
  | mcIncompleteFrameDiscard => exact execMcIncompleteFrameDiscard_within _ _ s
  | toneMapRefreshDue => exact execToneMapRefreshDue_within _ s
  | mcNeighbourLost => exact execMcNeighbourLost_within _ s
  | beaconTimer => exact execBeaconTimer_within s
  | mcStatus => exact execMcStatus_within _ s
  | mcNeighbourRead => exact execMcNeighbourRead_within _ _ _ s
  | mcTonemapRefresh => exact execMcTonemapRefresh_within _ _ s
  | helloTimer => exact execHelloTimer_within s
  | helloReceived => exact execHelloReceived_within _ _ s
  | linkDown => exact execLinkDown_within _ _ s
  | linkRetransmitTimeout => exact execLinkRetransmitTimeout_within _ _ s
  | routeTimer => exact execRouteTimer_within s
  | addressConflictClear => exact execAddressConflictClear_within s
  | fabricPacketReceived => exact execFabricPacketReceived_within _ _ _ _ _ _ s
  | fragmentReassemblyTimeout => exact execFragmentReassemblyTimeout_within _ _ s
  | ethernetFrame => exact execEthernetFrame_within _ _ _ s
  | borrowTick => exact execBorrowTick_within s
  | tokenLendable => exact execTokenLendable_within _ s
  | tokenRequest => exact execTokenRequest_within _ s
  | tokenGrant => exact execTokenGrant_within _ s
  | tokenAccept => exact execTokenAccept_within _ s
  | tokenCommit => exact execTokenCommit_within _ s
  | tokenAbort => exact execTokenAbort_within _ s
  | tokenRenew => exact execTokenRenew_within _ s
  | tokenRenewed => exact execTokenRenewed_within _ s
  | tokenReturn => exact execTokenReturn_within _ s
  | tokenRecall => exact execTokenRecall_within _ s
  | tokenAcceptTimeout => exact execTokenAcceptTimeout_within _ _ s
  | tokenCommitWait => exact execTokenCommitWait_within _ _ s
  | leaseHalf => exact execLeaseHalf_within _ _ s
  | leaseRelease => exact execLeaseRelease_within _ _ s
  | leaseExpiry => exact execLeaseExpiry_within _ _ s
  | recallReturnTimer => exact execRecallReturnTimer_within _ _ s
  | reissueClockExpiry => exact execReissueClockExpiry_within _ _ s
  | quarantineEnd => exact execQuarantineEnd_within s
  | linStatus => exact execLinStatus_within _ s
  | linTokenStatus => exact execLinTokenStatus_within _ s
  | linForward => exact execLinForward_within _ _ _ s
  | linForwardTimeout => exact execLinForwardTimeout_within s
  | peerClaimFrame => exact execPeerClaimFrame_within _ _ _ _ s
  | peerClaimSilence => exact execPeerClaimSilence_within s
  | hingeHeartbeat => exact execHingeHeartbeat_within _ _ _ _ _ s
  | hingeEpochMessage => exact execHingeEpochMessage_within _ s
  | hingeTakeover => exact execHingeTakeover_within s
  | yieldWithdraw => exact execYieldWithdraw_within s
  | hingeIsolated => exact execHingeIsolated_within s
  | hingeRoleResume => exact execHingeRoleResume_within s
  | hingeResync => exact execHingeResync_within _ _ _ s
  | hingeProofTest => exact execHingeProofTest_within _ _ _ _ _ _ _ s
  | hngStatus => exact execHngStatus_within _ s
  | hngSwitch => exact execHngSwitch_within _ s
  | hngForce => exact execHngForce_within _ _ s
  | hngProofRun => exact execHngProofRun_within _ s
  | updStatus => exact execUpdStatus_within _ s
  | updStageBegin => exact execUpdStageBegin_within _ _ s
  | updStageWrite => exact execUpdStageWrite_within _ _ _ _ s
  | updVerify => exact execUpdVerify_within _ s
  | verifyComplete => exact execVerifyComplete_within s
  | updActivate => exact execUpdActivate_within _ _ s
  | activationRestart => exact execActivationRestart_within _ s
  | updConfirm => exact execUpdConfirm_within _ s
  | autoConfirm => exact execAutoConfirm_within s
  | trialTimeout => exact execTrialTimeout_within s
  | chainOffer => exact execChainOffer_within _ _ s
  | chainRequest => exact execChainRequest_within _ _ _ _ s
  | chainChunk => exact execChainChunk_within _ _ _ _ s
  | chainHave => exact execChainHave_within _ _ s
  | chainFetchTimeout => exact execChainFetchTimeout_within s
  | adcConversionComplete => exact execAdcConversionComplete_within _ _ _ _ _ s
  | urgentAdcRequest => exact execUrgentAdcRequest_within _ _ _ s
  | adcTrigEdge => exact execAdcTrigEdge_within _ _ _ s
  | iTempRaiseStep => exact execITempRaiseStep_within s
  | rtcDiscipline => exact execRtcDiscipline_within _ s
  | idleCheckArm => exact execIdleCheckArm_within s
  | idleCurrentBlock => exact execIdleCurrentBlock_within s
  | watchRule => exact execWatchRule_within _ s
  | wakeOutPulseEnd => exact execWakeOutPulseEnd_within s
  | auxRead => exact execAuxRead_within _ _ s
  | auxConvert => exact execAuxConvert_within _ _ _ s
  | auxTrigRead => exact execAuxTrigRead_within _ _ s
  | nlStatus => exact execNlStatus_within _ s
  | nlWakeAck => exact execNlWakeAck_within _ s
  | diagTokenRefill => exact execDiagTokenRefill_within _ s
  | diagStatus => exact execDiagStatus_within _ s
  | diagRead => exact execDiagRead_within _ _ _ s
  | diagFreeze => exact execDiagFreeze_within _ _ s
  | diagClear => exact execDiagClear_within _ s
  | freezeTimeout => exact execFreezeTimeout_within s
  | rs485ByteReceived => exact execRs485ByteReceived_within _ _ _ s
  | rs485FrameEnd => exact execRs485FrameEnd_within s
  | sysRs485Send => exact execSysRs485Send_within _ _ _ s
  | rs485SendComplete => exact execRs485SendComplete_within s
  | railsFall => exact execRailsFall_within s
  | vbatApplied => exact execVbatApplied_within s
  | hspiCsFalling => exact execHspiCsFalling_within _ _ s
  | v12OutOverload => exact execV12OutOverload_within s
  | v12OutRestart => exact execV12OutRestart_within s
  | vauxInReversed => exact execVauxInReversed_within s
  | addressTableAgeing => exact execAddressTableAgeing_within _ s
  | hingeEpochAck => exact execHingeEpochAck_within _ s

/-! The queue of waiting commands and the identity. -/

/-- No command lists the queue of waiting commands or the identity among the blocks it may change. -/
theorem touches_spares_pending_ident (c : Instr) :
    (touches c).all (fun b => b != .pending) = true ∧ (touches c).all (fun b => b != .ident) = true := by
  cases c <;> exact ⟨rfl, rfl⟩

/-- Settles O46: every command answers within the blocks listed for it, and no list holds the queue of waiting commands (the
model's own, log entries 5 and 51) or the identity fixed at manufacture (R1, R172). -/
theorem queueAndIdentityKept : Obligations.QueueAndIdentityKept := by
  unfold Obligations.QueueAndIdentityKept
  intro c s t hstep
  obtain ⟨hpending, hident⟩ := touches_spares_pending_ident c
  have hframe : onlyChanges (touches c) s t := exec_within c s t hstep
  exact ⟨kept_pending (forget_of_onlyChanges hpending hframe), kept_ident (forget_of_onlyChanges hident hframe)⟩

end Sys2Proof.Frames

/-! Modes, power and reset (02): which next state each event of a start, each mode command and each stage of the hold-up
sequence answers. What an operation leaves in blocks that it does not touch comes from its frame (Laws.Frame, Laws.Kept); what
it leaves in a block that it does change is said once here. -/

namespace Sys2Proof.ModesPower

open Sys2Proof Sys2Proof.Machine Sys2Proof.Safety Sys2Proof.Laws Sys2Proof.Frames

/-! Rules for the shapes of a meaning. -/

/-- A command whose own condition holds answers its effect. -/
theorem exists_next_of_whenever {c : Bool} {s : State} {f : State → State} {P : State → Prop} (hc : c = true)
    (h : ∀ t, t = f s → P t) : ∃ t, whenever c s f = .next t ∧ P t :=
  ⟨f s, by rw [whenever, if_pos hc], h _ rfl⟩

/-- A request taken by firmware is answered with its chapter's status and fields, from the state that the chapter leaves. -/
theorem brixo_of_answer {code : Nat} {r : Req} {s t : State} {f : State → Answer} {st : Nat} {body : List Byte}
    (htaken : Taken code r s) (hf : f s = answer t st body) :
    brixo code r s f = .next (reply r code st body t) := by
  obtain ⟨hserving, hcheck⟩ := htaken
  simp [brixo, hserving, hcheck, hf, answer]

/-! What the shared operations of a start, a mode change and a restart leave in the blocks that they do change. -/

@[simp] theorem capacitance_pwr (uF : Nat) (flagged : Bool) (s : State) : (capacitance uF flagged s).pwr = s.pwr :=
  kept_pwr (by simp (disch := decide))

@[simp] theorem capacitance_hold_measured (uF : Nat) (flagged : Bool) (s : State) :
    (capacitance uF flagged s).hold.measured = true := by
  unfold capacitance
  dsimp only
  split <;> rfl

@[simp] theorem capacitance_hold_cMeas (uF : Nat) (flagged : Bool) (s : State) :
    (capacitance uF flagged s).hold.cMeas = uF := by
  unfold capacitance
  dsimp only
  split <;> rfl

@[simp] theorem capacitance_hold_outOfRange (uF : Nat) (flagged : Bool) (s : State) :
    (capacitance uF flagged s).hold.outOfRange = flagged := by
  unfold capacitance
  dsimp only
  split <;> rfl

/-- Of the reset domains Kiln's start changes only the mark that a module start is due to it (R49). -/
theorem kilnStart_dom (s : State) : (kilnStart s).dom = { s.dom with kilnDue := false } := by
  unfold kilnStart
  extract_lets restored first completed closed
  have hrestored : restored.dom = s.dom := kept_dom (by simp (disch := decide) [restored])
  have hclosed : closed.dom = s.dom := kept_dom (by simp (disch := decide) [closed, completed, restored])
  split
  case isTrue hdone =>
    have hdue : s.dom.kilnDue = false := by simpa [hrestored] using hdone
    rw [hrestored, ← hdue]
  case isFalse => rw [setDom_dom, hclosed]

/-- A mode in force is new in this epoch, ends a waiting request and an interim, and restarts the WATCH delay (R31, R32). -/
theorem enterMode_mode (m : Mode) (cause : Nat) (s : State) :
    (enterMode m cause s).mode = { s.mode with
      mode := m, since := s.clk.epoch, request := none, interim := false, idleSince := s.clk.now } := by
  unfold enterMode
  extract_lets old entered told
  have htold : told.mode = entered.mode := kept_mode (by simp (disch := decide) [told])
  calc _ = told.mode := kept_mode (by simp (disch := decide))
    _ = _ := htold

/-- The end of a trial may make an exit from RECOVERY due, but the mode in force stays (R504). -/
theorem confirmTrial_mode (s : State) : (confirmTrial s).mode.mode = s.mode.mode ∧
    (confirmTrial s).mode.since = s.mode.since := by
  unfold confirmTrial
  extract_lets manifest recorded confirmed logged
  have hmode : (updEvent 4 logged.upd.bundleId (lrChanged logged)).mode = confirmed.mode :=
    kept_mode (by simp (disch := decide) [logged])
  rw [hmode]
  exact ⟨rfl, rfl⟩

theorem trialMode_mode (s : State) : (trialMode s).mode.mode = s.mode.mode ∧
    (trialMode s).mode.since = s.mode.since := by
  unfold trialMode
  extract_lets rolled timed
  split
  · have hmode : (updEvent 5 rolled.upd.bundleId (writeRecord (fun a => { a with state := 0 }) rolled)).mode = s.mode :=
      kept_mode (by simp (disch := decide) [rolled])
    exact ⟨by rw [hmode], by rw [hmode]⟩
  · have hmode : timed.mode = s.mode := kept_mode (by simp (disch := decide) [timed])
    split
    · split
      · rw [← hmode]
        exact confirmTrial_mode timed
      · exact ⟨by rw [hmode], by rw [hmode]⟩
    · exact ⟨rfl, rfl⟩

/-- A module restart leaves the domains as the rails alone hold them, with its cause (R39, R47). -/
theorem restartAll_dom (cause : Nat) (s : State) : (restartAll cause s).dom =
    { d0 := (coldClear s).dom.d0, d4 := (coldClear s).pwr.rails, cause := cause, startCause := cause } := rfl

theorem restartAll_mode (cause : Nat) (s : State) : (restartAll cause s).mode.mode = .none := rfl

/-- The causes above 4 roll no trial back, so the D3 reset ends as a D3 reset (R39, R504). -/
theorem d3Reset_dom_of_gt {cause : Nat} (hcause : 4 < cause) (s : State) :
    (d3Reset cause s).dom.d3 = false ∧ (d3Reset cause s).dom.ready = false ∧ (d3Reset cause s).dom.cause = cause := by
  unfold d3Reset
  extract_lets cleared lost down
  rw [if_neg (by simp only [Bool.and_eq_true, decide_eq_true_eq]; omega)]
  exact ⟨rfl, rfl, rfl⟩

/-- The final commit moves the stage on, or leaves HOLDUP as it was (R184). -/
theorem finalIfReached_hold (s : State) : (finalIfReached s).hold = s.hold ∨
    (finalIfReached s).hold = { s.hold with stage := .signedReading } := by
  unfold finalIfReached
  extract_lets final
  split
  · have hfinal : final.hold = s.hold := kept_hold (by simp (disch := decide) [final])
    exact .inr (congrArg (fun h : Holdup => { h with stage := .signedReading }) hfinal)
  · exact .inl rfl

theorem outputsOff_pwr (s : State) :
    (outputsOff s).pwr = { s.pwr with v12Out := false, v12Tripped := none, v3v3Out := false } := by
  have hoff : (allOff (stopPwm (deenergise s))).pwr = s.pwr := kept_pwr (by simp (disch := decide))
  unfold outputsOff
  dsimp only
  rw [hoff]

theorem dropPending_mode (s : State) :
    (dropPending s).mode = { s.mode with resetScope := none, exitDue := none } := rfl

theorem holdupStops_mode (s : State) :
    (holdupStops s).mode = { s.mode with resetScope := none, exitDue := none } := by
  have hbefore : (closeConfig (loseFreeze (abortHostDma (stopPulses s)))).mode = s.mode :=
    kept_mode (by simp (disch := decide))
  calc (holdupStops s).mode
      = (dropPending (closeConfig (loseFreeze (abortHostDma (stopPulses s))))).mode := by
        unfold holdupStops
        exact kept_mode (by simp (disch := decide) only [forget_stopPowerStage, forget_stopRadios, forget_stopPort])
    _ = _ := by rw [dropPending_mode, hbefore]

theorem holdupBudget_hold (bulk : Nat) (s : State) :
    (holdupBudget bulk s).hold = { s.hold with frames := nFrames s (bulk * bulk) } := by
  unfold holdupBudget
  extract_lets energy planned
  have hhold : (if energy < 180000000 then raise 0x0102 (le 4 (energy / 1000000) ++ le 4 180) planned else planned).hold
    = planned.hold := kept_hold (by simp (disch := decide))
  exact hhold

/-! Power-up (R8, R32, R35–R38, R178, R272, R281, R358). -/

theorem execMainsApplied_next {s : State} (n : Nat) (hmains : s.pwr.mains = false) (hrails : s.pwr.rails = false) :
    ∃ t, execMainsApplied n s = .next t ∧ t.pwr.mains = true ∧ t.clk.now = s.clk.now + Tick.s n ∧
      t.mode.startAt = t.clk.now := by
  unfold execMainsApplied
  refine exists_next_of_whenever (by simp [hmains]) fun t ht => ?_
  simp [ht, hrails]

theorem execRailsGood_next {s : State} {cause : Nat} (hmains : s.pwr.mains = true) (hrails : s.pwr.rails = false)
    (hcause : cause = (if s.pwr.vbat = true ∧ s.pwr.vbatThrough = true then 0 else 1)) :
    ∃ t, execRailsGood s = .next t ∧ t.pwr.rails = true ∧ t.pwr.v12Out = true ∧ t.pwr.v3v3Out = true ∧
      t.dom = { d0 := true, d4 := true, cause := cause, startCause := cause } := by
  unfold execRailsGood
  refine exists_next_of_whenever (by simp [hmains, hrails]) fun t ht => ?_
  extract_lets through kept found supplied started clocked at ht
  have hpwr : t.pwr = started.pwr := by rw [ht]; exact kept_pwr (by simp (disch := decide) [clocked])
  have hdom : t.dom = started.dom := by rw [ht]; exact kept_dom (by simp (disch := decide) [clocked])
  have hfound : found = cause := by simp [found, through, hcause]
  rw [hpwr, hdom]
  exact ⟨rfl, rfl, rfl, by simp only [started, hfound]⟩

theorem execD1Start_next {s : State} (a b e : Bool) (hd4 : s.dom.d4 = true) (hd1 : s.dom.d1 = false) :
    ∃ t, execD1Start a b e s = .next t ∧ t.dom.d1 = true ∧ t.dom.d2 = s.dom.d2 := by
  unfold execD1Start
  refine exists_next_of_whenever (by simp [hd4, hd1]) fun t ht => ?_
  extract_lets started good one copied logged latched at ht
  have hdom : t.dom = started.dom := by
    rw [ht]
    exact kept_dom (by simp (disch := decide) [latched, logged, copied])
  rw [hdom]
  exact ⟨rfl, rfl⟩

theorem execVholdReachesThreshold_next {s : State} (hcharging : s.pwr.charging = true) (hdraw : s.pwr.drawStart = none)
    (hmeasured : s.hold.measured = false) : execVholdReachesThreshold s =
    .next { s with pwr := { s.pwr with charging := false, drawStart := some s.clk.now, vhold := 29500 } } := by
  unfold execVholdReachesThreshold
  rw [whenever, if_pos (by simp [hcharging, hdraw, hmeasured])]
  rfl

theorem execHoldupCapMeasured_next {s : State} {at0 : Tick} (drop : Nat) (hdraw : s.pwr.drawStart = some at0) :
    ∃ t, execHoldupCapMeasured drop s = .next t ∧ t.pwr.drawStart = none ∧ t.pwr.charging = true ∧
      t.hold.measured = true ∧ (0 < drop → t.hold.cMeas = max 500 (min 10000 (1000000 / drop))) := by
  unfold execHoldupCapMeasured
  rw [hdraw]
  dsimp only
  refine ⟨_, rfl, by simp, by simp, by simp, fun hdrop => ?_⟩
  simp [Nat.ne_of_gt hdrop, clampN]

theorem execVholdChargeTimeout_next {s : State} (hcharging : s.pwr.charging = true) (hdraw : s.pwr.drawStart = none)
    (hmeasured : s.hold.measured = false) : ∃ t, execVholdChargeTimeout s = .next t ∧
      t.hold.measured = true ∧ t.hold.cMeas = 0 ∧ t.hold.outOfRange = true := by
  unfold execVholdChargeTimeout
  refine exists_next_of_whenever (by simp [hcharging, hdraw, hmeasured]) fun t ht => ?_
  simp [ht]

theorem execD2Start_next {s : State} (codes : List Int) (ok : Bool) (lost : Nat) (hd4 : s.dom.d4 = true)
    (hd1 : s.dom.d1 = true) (hd2 : s.dom.d2 = false) :
    ∃ t, execD2Start codes ok lost s = .next t ∧ t.dom.d2 = true ∧ t.led.replayStart = true := by
  unfold execD2Start
  refine exists_next_of_whenever (by simp [hd4, hd1, hd2]) fun t ht => ?_
  extract_lets alone cold counted numbered replayed was super clock started logged last timed loaded aligned tested
      marked trial at ht
  have hlogged : logged.dom = started.dom := kept_dom (by simp (disch := decide) [logged])
  have htimed : timed.dom = logged.dom := kept_dom (by
    dsimp only [timed]
    split <;> simp (disch := decide) only [forget_raise, forget_setLed])
  have htested : tested.dom = timed.dom := kept_dom (by
    simp (disch := decide) only [tested, aligned, loaded, forget_startupTest, forget_setCal, forget_setSie,
      forget_loadRecord, forget_loadSet, forget_closeOutage, forget_closePrevious])
  have hdom : t.dom = tested.dom := by
    rw [ht]
    exact kept_dom (by simp (disch := decide) [trial, marked])
  have hled : t.led = marked.led := by
    rw [ht]
    exact kept_led (by simp (disch := decide) [trial])
  rw [hdom, htested, htimed, hlogged, hled]
  exact ⟨rfl, rfl⟩

theorem execD3LeavesReset_next {s : State} (cells : Nat) (ok : Bool) (a b c helpers slots counts : Nat)
    (hd4 : s.dom.d4 = true) (hd3 : s.dom.d3 = false) (hkiln : s.dom.d2 = true ∨ s.dom.kilnDue = false) :
    ∃ t, execD3LeavesReset cells ok a b c true helpers slots counts s = .next t ∧ t.dom.d3 = true ∧
      t.dom.ready = false := by
  unfold execD3LeavesReset
  refine exists_next_of_whenever (by simp [hd4, hd3, hkiln]) fun t ht => ?_
  extract_lets released erased moved started told tested opened checked shown at ht
  have hchecked : checked.dom = started.dom := kept_dom (by
    simp (disch := decide) [checked, opened, tested, told])
  have hshown : shown.dom = (kilnStart checked).dom := kept_dom (by simp (disch := decide) [shown])
  have hdom : t.dom = shown.dom := by simp [ht]
  rw [hdom, hshown, kilnStart_dom, hchecked]
  exact ⟨rfl, rfl⟩

theorem execReadyRises_next {s : State} (hd3 : s.dom.d3 = true) (hready : s.dom.ready = false) :
    ∃ t, execReadyRises s = .next t ∧ t.dom.ready = true ∧ t.dom.d2 = s.dom.d2 := by
  unfold execReadyRises
  refine exists_next_of_whenever (by simp [hd3, hready]) fun t ht => ?_
  extract_lets raised todo aborted unseen seen told reported shared based at ht
  have hdom : t.dom = raised.dom := by
    rw [ht]
    exact kept_dom (by
      simp (disch := decide) only [based, shared, reported, told, seen, aborted, forget_abortReplies,
        forget_diagTriggers, forget_setDiag, forget_diagTrigger, forget_dispReport, forget_linEvent, forget_setCon,
        forget_coverFollow, forget_takeOutage, forget_ite_eq_iff, implies_true, and_self])
  rw [hdom]
  exact ⟨rfl, rfl⟩

theorem execFirstModeEntered_next {s : State} (hd3 : s.dom.d3 = true) (hd2 : s.dom.d2 = true)
    (hmode : s.mode.mode = .none) (hlife : s.sag.lifecycle ≠ .blank) :
    ∃ t, execFirstModeEntered true s = .next t ∧ t.mode.mode = (firstMode s).1 ∧ t.mode.interim = (firstMode s).2 ∧
      t.mode.since = s.clk.epoch := by
  unfold execFirstModeEntered
  refine exists_next_of_whenever (by simp [hd3, hd2, hmode, hlife]) fun t ht => ?_
  rw [if_neg (by simp)] at ht
  extract_lets m waited at ht
  have hepoch : waited.clk.epoch = s.clk.epoch := by
    simp only [waited]
    split <;> rfl
  obtain ⟨htrial, hsince⟩ := trialMode_mode (enterMode m.1 1 waited)
  rw [ht]
  exact ⟨by simp [htrial, enterMode_mode, m], rfl, by simp [hsince, enterMode_mode, hepoch]⟩

theorem execInterimToService_next {s : State} (hinterim : s.mode.interim = true) (hmode : s.mode.mode = .commission)
    (hmeasured : s.hold.measured = true) (hepoch : s.hold.cMeasEpoch < s.clk.epoch)
    (hrefuse : s.hold.refuseService = false) (hrequest : s.mode.request = none) :
    ∃ t, execInterimToService s = .next t ∧ t.mode.mode = .service ∧ t.mode.interim = false := by
  unfold execInterimToService
  refine exists_next_of_whenever (by simp [hinterim, hmode, hmeasured, hepoch, hrefuse, hrequest]) fun t ht => ?_
  rw [ht, enterMode_mode]
  exact ⟨rfl, rfl⟩

/-- Settles O2: each event of a start answers its next state. The instant clk.now is the model's own (log entry 3), and that
every D2 start marks a replay is its choice (log entry 60). -/
theorem powerUpCompletes : Obligations.PowerUpCompletes := by
  unfold Obligations.PowerUpCompletes
  refine ⟨?_, ?_, ?_, ?_, ?_, ?_, ?_, ?_, ?_, ?_, ?_⟩
  · exact fun _ n => execMainsApplied_next n
  · exact fun _ _ => execRailsGood_next
  · exact fun _ a b e => execD1Start_next a b e
  · exact fun _ => execVholdReachesThreshold_next
  · exact fun _ _ drop => execHoldupCapMeasured_next drop
  · exact fun _ => execVholdChargeTimeout_next
  · exact fun _ codes ok lost => execD2Start_next codes ok lost
  · exact fun _ cells ok a b c helpers slots counts => execD3LeavesReset_next cells ok a b c helpers slots counts
  · exact fun _ => execReadyRises_next
  · exact fun _ => execFirstModeEntered_next
  · exact fun _ => execInterimToService_next

/-! Mode commands and supervision (R31–R33, R50–R55). -/

theorem execSysModeGet_next {s a : State} {r : Req} (htaken : Taken 0x0130 r s) (ha : a = asOf s) :
    execSysModeGet r s = .next (reply r 0x0130 stOk (le 1 a.mode.mode.code ++ le 1 a.sag.lifecycle.code ++
      le 1 a.dom.cause ++ le 1 (b2n a.mode.recoveryPending) ++ le 8 a.mode.since ++ le 4 a.mode.powerCycles ++
      le 2 (reclaimLeft a) ++ zeros 2) s) := by
  rw [ha]
  exact brixo_of_answer htaken rfl

theorem execSysModeRequest_next {s : State} {r : Req} {target : Nat} {m : Mode} (htaken : Taken 0x0131 r s)
    (htarget : modeOf target = some m) (hgrant : modeRefusal s m = none) (hmode : s.mode.mode ≠ .recovery) :
    ∃ t, execSysModeRequest r target s = .next (reply r 0x0131 stOk (le 8 (s.clk.epoch + 1)) t) ∧
      t.mode.request = some (m, s.clk.epoch + 1) ∧ t.mode.recoveryPending = (m == .recovery) := by
  refine ⟨_, brixo_of_answer htaken (by simp only [htarget, hgrant]; rfl), ?_⟩
  rw [if_neg (by simpa using hmode)]
  exact ⟨rfl, rfl⟩

theorem execSysModeRequest_recovery_next {s : State} {r : Req} {target : Nat} {m : Mode} (htaken : Taken 0x0131 r s)
    (htarget : modeOf target = some m) (hgrant : modeRefusal s m = none) (hmode : s.mode.mode = .recovery) :
    ∃ t, execSysModeRequest r target s = .next (reply r 0x0131 stOk (le 8 (s.clk.epoch + 1)) t) ∧
      t.mode.exitDue = some (s.clk.epoch + 1) ∧ t.mode.recoveryPending = false := by
  refine ⟨_, brixo_of_answer htaken (by simp only [htarget, hgrant]; rfl), ?_⟩
  rw [if_pos (by simpa using hmode)]
  exact ⟨rfl, rfl⟩

theorem execModeChangeEffective_request_next {s : State} {m : Mode} {e : Nat} (hexit : s.mode.exitDue = none)
    (hrequest : s.mode.request = some (m, e)) (hdue : e ≤ s.clk.epoch) (hholdup : inHoldup s = false)
    (hwatch : m = .watch → watchOk s = true) :
    ∃ t, execModeChangeEffective s = .next t ∧ t.mode.mode = m ∧ t.mode.request = none ∧
      t.mode.since = s.clk.epoch := by
  unfold execModeChangeEffective
  rw [hexit, hrequest]
  refine exists_next_of_whenever (by simp [hdue, hholdup]) fun t ht => ?_
  rw [if_neg (by simpa using hwatch)] at ht
  rw [ht, enterMode_mode]
  exact ⟨rfl, rfl, rfl⟩

theorem execModeChangeEffective_exit_next {s : State} {e : Nat} (hexit : s.mode.exitDue = some e)
    (hdue : e ≤ s.clk.epoch) : ∃ t, execModeChangeEffective s = .next t ∧ t.dom.cause = 6 ∧ t.dom.d1 = false ∧
      t.dom.d2 = false ∧ t.dom.d3 = false ∧ t.mode.mode = .none := by
  unfold execModeChangeEffective
  rw [hexit]
  refine exists_next_of_whenever (by simp [hdue]) fun t ht => ?_
  rw [ht, moduleRestart, restartAll_dom, restartAll_mode]
  exact ⟨rfl, rfl, rfl, rfl, rfl⟩

theorem execSysReset_next {s : State} {r : Req} {scope : Nat} (htaken : Taken 0x0132 r s) (hholdup : inHoldup s = false)
    (hscope : scope = 1 ∨ scope = 2 ∧ outputsActive s = false) :
    ∃ t, execSysReset r scope s = .next (reply r 0x0132 stOk (le 8 (s.clk.epoch + 1)) t) ∧
      t.mode.resetScope = some (scope, r) := by
  have hgrant : ¬ (scope = 2 && outputsActive s) = true ∧ ¬ (scope != 1 && scope != 2) = true := by
    obtain rfl | ⟨rfl, hoff⟩ := hscope
    · simp
    · simp [hoff]
  obtain ⟨hoff, hknown⟩ := hgrant
  refine ⟨setMode (fun m => { m with resetScope := some (scope, r) }) s, brixo_of_answer htaken ?_, rfl⟩
  rw [hholdup, if_neg Bool.false_ne_true, if_neg hknown, if_neg hoff]

theorem execSysResetBegin_next {s : State} {scope : Nat} {r : Req} (hreset : s.mode.resetScope = some (scope, r))
    (hsent : replyQueued s 0x0132 r = false) (hholdup : inHoldup s = false) :
    ∃ t, execSysResetBegin s = .next t ∧ t.dom.d3 = false ∧ t.dom.ready = false ∧
      t.dom.cause = (if scope = 1 then 5 else 6) ∧ (scope ≠ 1 → t.dom.d2 = false ∧ t.dom.d1 = false) := by
  unfold execSysResetBegin
  rw [hreset]
  refine exists_next_of_whenever (by simp [hsent, hholdup]) fun t ht => ?_
  extract_lets waited at ht
  rw [ht]
  split
  case isTrue hone =>
    obtain ⟨hd3, hready, hcause⟩ := d3Reset_dom_of_gt (cause := 5) (by decide) waited
    exact ⟨hd3, hready, hcause, fun hscope => absurd hone hscope⟩
  case isFalse =>
    rw [moduleRestart, restartAll_dom]
    exact ⟨rfl, rfl, rfl, fun _ => ⟨rfl, rfl⟩⟩

theorem execSysHoldupInfo_next {s : State} {r : Req} (htaken : Taken 0x0133 r s) :
    execSysHoldupInfo r s = .next (reply r 0x0133 stOk (le 4 s.hold.cMeas ++
      le 8 s.hold.cMeasEpoch ++ le 4 (holdupEh s.hold.cMeas s.pwr.vhold / 1000000) ++
      le 4 (holdupEp (predictedVb2 s) / 1000000) ++ le 4 180 ++ le 2 (min 65535 (framesFit s)) ++ zeros 2 ++
      le 8 s.hold.tdEpoch ++ le 2 (min 65535 s.hold.tdMs) ++ le 2 (min 65535 s.hold.frames)) s) :=
  brixo_of_answer htaken rfl

theorem execWatchDelayExpiry_next {s : State} (hmode : s.mode.mode = .service) (hwatch : watchOk s = true)
    (hrequest : s.mode.request = none)
    (hidle : s.mode.idleSince + Tick.s (param s 0x0101) ≤ s.clk.epochStart) :
    ∃ t, execWatchDelayExpiry s = .next t ∧ t.mode.mode = .watch ∧ t.mode.since = s.clk.epoch := by
  unfold execWatchDelayExpiry
  refine exists_next_of_whenever (by simp [hmode, hwatch, hrequest, hidle]) fun t ht => ?_
  rw [ht, enterMode_mode]
  exact ⟨rfl, rfl⟩

theorem execWatchWake_next {s : State} {src : Nat} (hmode : s.mode.mode = .watch)
    (henabled : bitN (param s 0x0102) src = true) (hseen : src = 6 ∨ bitN s.nl.wakeDue src = true) :
    ∃ t, execWatchWake src s = .next t ∧ t.mode.mode = .service ∧ t.mode.since = s.clk.epoch := by
  unfold execWatchWake
  refine exists_next_of_whenever (by simp [hmode, henabled, hseen]) fun t ht => ?_
  have hkept : t.mode = (enterMode .service 3 s).mode := by
    rw [ht]
    exact kept_mode (by simp (disch := decide) only [forget_nlEvent, forget_takeFree, forget_wakeOut])
  rw [hkept, enterMode_mode]
  exact ⟨rfl, rfl⟩

/-- Settles O3: each mode command and event of supervision answers its next state. The restart's cause on an exit from RECOVERY,
the epoch that SYS_RESET answers (log entry 59) and the entry to WATCH at the delay's end (log entry 56) are the model's
choices. -/
theorem modeCommandsComplete : Obligations.ModeCommandsComplete := by
  unfold Obligations.ModeCommandsComplete
  refine ⟨?_, ?_, ?_, ?_, ?_, ?_, ?_, ?_, ?_, ?_⟩
  · exact fun _ _ _ => execSysModeGet_next
  · exact fun _ _ _ _ => execSysModeRequest_next
  · exact fun _ _ _ _ => execSysModeRequest_recovery_next
  · exact fun _ _ _ => execModeChangeEffective_request_next
  · exact fun _ _ => execModeChangeEffective_exit_next
  · exact fun _ _ _ => execSysReset_next
  · exact fun _ _ _ => execSysResetBegin_next
  · exact fun _ _ => execSysHoldupInfo_next
  · exact fun _ => execWatchDelayExpiry_next
  · exact fun _ _ => execWatchWake_next

/-! Mains failure and HOLDUP (R44–R48, R184, R440). -/

theorem execMainsFailDetection_next {s : State} (bulk : Nat) (hrails : s.pwr.rails = true) (hholdup : inHoldup s = false)
    (hd2 : s.dom.d2 = true) (hlife : s.sag.lifecycle ≠ .blank) :
    ∃ t, execMainsFailDetection bulk s = .next t ∧ t.mode.mode = .holdup ∧ t.pwr.mains = false ∧
      t.hold.stage = .waitAbsent ∧ t.hold.tf = s.clk.now ∧ t.pwr.v12Out = false ∧ t.pwr.v3v3Out = false := by
  unfold execMainsFailDetection
  refine exists_next_of_whenever (by simp [hrails, hholdup]) fun t ht => ?_
  extract_lets failed old entered began kept stopped planned at ht
  rw [if_neg (by simp [failed, hd2]), if_neg (by simpa [failed] using hlife)] at ht
  have hmode : t.mode = stopped.mode := by
    rw [ht]
    exact kept_mode (by simp (disch := decide) [planned])
  have hpwr : t.pwr = (outputsOff (pqHoldup kept)).pwr := by
    rw [ht]
    exact kept_pwr (by simp (disch := decide) [planned, stopped])
  have hhold : t.hold = planned.hold := by
    rw [ht]
    exact kept_hold (by simp (disch := decide))
  have hstopped : stopped.hold = began.hold := kept_hold (by simp (disch := decide) [stopped, kept])
  have hmodeOff : (outputsOff (pqHoldup kept)).mode = entered.mode := kept_mode (by simp (disch := decide) [kept, began])
  have hpwrOff : (pqHoldup kept).pwr = failed.pwr := kept_pwr (by simp (disch := decide) [kept, began, entered])
  rw [hmode, hpwr, hhold, holdupStops_mode, hmodeOff, outputsOff_pwr, hpwrOff, holdupBudget_hold, hstopped]
  exact ⟨rfl, rfl, rfl, rfl, rfl, rfl⟩

theorem execMainsAbsentDecision_next {s : State} (hholdup : inHoldup s = true) (hstage : s.hold.stage = .waitAbsent)
    (hd2 : s.dom.d2 = true) : ∃ t, execMainsAbsentDecision s = .next t ∧
      (t.hold.stage = .finalCommit ∨ t.hold.stage = .signedReading) ∧ t.hold.td.isSome = true ∧
      t.hold.tdEpoch = t.hold.tdSample / 320 := by
  unfold execMainsAbsentDecision
  refine exists_next_of_whenever (by simp [hholdup, hstage, hd2]) fun t ht => ?_
  extract_lets gone waited sample at ht
  rw [ht]
  obtain hsame | hfinal := finalIfReached_hold _
  · rw [hsame]
    exact ⟨.inl rfl, rfl, rfl⟩
  · rw [hfinal]
    exact ⟨.inr rfl, rfl, rfl⟩

theorem execFinalSignedReading_next {s : State} (hholdup : inHoldup s = true) (hstage : s.hold.stage = .signedReading)
    (hserving : serving s = true) (hkept : s.hold.d3Lost = false) :
    ∃ t, execFinalSignedReading s = .next t ∧ t.hold.stage = .letterbox := by
  unfold execFinalSignedReading
  refine exists_next_of_whenever (by simp [hholdup, hstage, hserving, hkept]) fun t ht => ?_
  simp [ht]

theorem execHoldupDisplayDecision_next {s : State} (hholdup : inHoldup s = true) (hstage : s.hold.stage = .display) :
    ∃ t, execHoldupDisplayDecision s = .next t ∧ t.hold.stage = .ended := by
  unfold execHoldupDisplayDecision
  refine exists_next_of_whenever (by simp [hholdup, hstage]) fun t ht => ?_
  extract_lets stored ended at ht
  have hhold : t.hold = ended.hold := by
    rw [ht]
    refine kept_hold ?_
    dsimp only
    (repeat' split) <;> simp (disch := decide)
  rw [hhold]

theorem execHoldupSequenceEnd_next {s : State} (hholdup : inHoldup s = true) (hstage : s.hold.stage = .ended)
    (hdrive : s.disp.drive = none) (hmains : s.pwr.mains = true) :
    ∃ t, execHoldupSequenceEnd s = .next t ∧ t.dom.cause = 7 ∧ t.dom.d2 = false ∧ t.dom.d3 = false ∧
      t.mode.mode = .none := by
  unfold execHoldupSequenceEnd
  extract_lets done cut
  refine exists_next_of_whenever (by simp [done, hholdup, hstage, hdrive]) fun t ht => ?_
  rw [if_pos hmains] at ht
  rw [ht, restartAll_dom, restartAll_mode]
  exact ⟨rfl, rfl, rfl, rfl⟩

/-- Settles O4: each stage of the hold-up sequence hands over to the next at its own command. The instant
clk.now is the model's own (log entry 3). -/
theorem holdupCompletes : Obligations.HoldupCompletes := by
  unfold Obligations.HoldupCompletes
  refine ⟨?_, ?_, ?_, ?_, ?_⟩
  · exact fun _ bulk => execMainsFailDetection_next bulk
  · exact fun _ => execMainsAbsentDecision_next
  · exact fun _ => execFinalSignedReading_next
  · exact fun _ => execHoldupDisplayDecision_next
  · exact fun _ hholdup hstage hdrive hmains _ => execHoldupSequenceEnd_next hholdup hstage hdrive hmains

end Sys2Proof.ModesPower

/-! Measurement inputs and the Sieve filter chain (03, 04): which next state each event and each command of the inputs answers.
What an operation leaves in blocks that it does not touch comes from its frame (Laws.Frame, Laws.Kept); what it leaves in a block
that it does change is said once here. -/

namespace Sys2Proof.MeasurementInputs

open Sys2Proof Sys2Proof.Machine Sys2Proof.Safety Sys2Proof.Laws Sys2Proof.Frames Sys2Proof.ModesPower

/-! Entries that wait for the journal (R188). -/

/-- An entry raised between two states waits, where the rest of the way leaves the ledger. -/
theorem waits_of_raiseF {code flags sender : Nat} {data : List Byte} {s t u : State}
    (hafter : t.led = (raiseF code flags sender data u).led) (hbefore : u.led = s.led) : Waits code s t :=
  ⟨[mkEvent u code flags sender data], by rw [hafter, ← hbefore]; rfl, by simp [mkEvent]⟩

/-! Bits of a mask. -/

theorem bitN_add_two_pow (x i : Nat) : bitN (x + 2 ^ i) i = !bitN x i := by
  have hquot : (x + 2 ^ i) / 2 ^ i = x / 2 ^ i + 1 := Nat.add_div_right x (Nat.two_pow_pos i)
  rw [bitN, bitN, hquot]
  rcases Nat.mod_two_eq_zero_or_one (x / 2 ^ i) with heven | hodd
  · simp [heven, Nat.add_mod]
  · simp [hodd, Nat.add_mod]

theorem bitN_sub_two_pow {x i : Nat} (hset : bitN x i = true) : bitN (x - 2 ^ i) i = false := by
  have hquot : (x - 2 ^ i) / 2 ^ i = x / 2 ^ i - 1 := by simpa using Nat.sub_mul_div x (2 ^ i) 1
  simp only [bitN, hquot, beq_iff_eq, beq_eq_false_iff_ne] at hset ⊢
  omega

theorem bitN_setBitN_same (x i : Nat) (b : Bool) : bitN (setBitN x i b) i = b := by
  cases hx : bitN x i with
  | false => cases b <;> simp [setBitN, hx, bitN_add_two_pow]
  | true => cases b <;> simp [setBitN, hx, bitN_sub_two_pow hx]

/-! Metering faults (R73, R74): what a fault leaves in the inputs, and its entry. -/

/-- The inputs with the faults, the bound of their stop and the earth timer set aside: the readings and counts that a status
frame brings. -/
def readings (i : Inputs) : Inputs := { i with faults := [], stopBy := none, npeSince := none }

/-- Shutter's stop on a fault sets at most its own bound in the inputs. -/
theorem meteringStop_inp (cause : Nat) (s : State) :
    ∃ bound, (meteringStop cause s).inp = { s.inp with stopBy := bound } := by
  unfold meteringStop
  split
  · exact ⟨s.inp.stopBy, rfl⟩
  · extract_lets stopped
    have hlatch : (setLatch lMetering stopped).inp = stopped.inp := kept_inp (by simp (disch := decide))
    rw [hlatch]
    simp only [stopped]
    split
    · have hstop : (beginStop .metering (Tick.s 1) (endSession 3 s)).inp = s.inp := kept_inp (by simp (disch := decide))
      exact ⟨s.inp.stopBy.or (some (s.clk.now + Tick.s 1)), by rw [setInp_inp, hstop]⟩
    · exact ⟨s.inp.stopBy, rfl⟩

/-- A fault that was not active joins the active ones. -/
theorem metFault_inp_of_new {cause slot : Nat} {s : State} (hnew : s.inp.faults.any (faultIs cause slot) = false) :
    ∃ f bound, faultIs cause slot f = true ∧
      (metFault cause slot s).inp = { s.inp with faults := s.inp.faults ++ [f], stopBy := bound } := by
  have hinactive : ¬ s.inp.faults.any (faultIs cause slot) = true := by simp [hnew]
  unfold metFault
  rw [if_neg hinactive]
  extract_lets f added stopped logged
  obtain ⟨bound, hbound⟩ := meteringStop_inp cause added
  have hinp : (inputFault cause slot f.firstEpoch logged).inp = (meteringStop cause added).inp :=
    kept_inp (by simp (disch := decide) [logged, stopped])
  exact ⟨f, bound, by simp [f, faultIs], by rw [hinp, hbound]; rfl⟩

/-- A fault that was not active has its entry (R73). -/
theorem metFault_waits_of_new {cause slot : Nat} {s : State} (hnew : s.inp.faults.any (faultIs cause slot) = false) :
    Waits (if cause = 4 then 0x0206 else 0x0205) s (metFault cause slot s) := by
  have hinactive : ¬ s.inp.faults.any (faultIs cause slot) = true := by simp [hnew]
  unfold metFault
  rw [if_neg hinactive]
  extract_lets f added stopped logged
  have hled : (inputFault cause slot f.firstEpoch logged).led = logged.led := kept_led (by simp (disch := decide))
  exact waits_of_raiseF (u := stopped) hled (kept_led (by simp (disch := decide) [stopped, added]))

@[simp] theorem readings_metFault (cause slot : Nat) (s : State) :
    readings (metFault cause slot s).inp = readings s.inp := by
  cases hactive : s.inp.faults.any (faultIs cause slot) with
  | false =>
    obtain ⟨f, bound, -, hinp⟩ := metFault_inp_of_new hactive
    rw [hinp]
    rfl
  | true =>
    have hlatch : (if cause = 8 then setLatch lMetering s else s).inp = s.inp := kept_inp (by simp (disch := decide))
    unfold metFault
    rw [if_pos hactive, setInp_inp, hlatch]
    rfl

@[simp] theorem readings_faultAbsent (cause slot : Nat) (s : State) :
    readings (faultAbsent cause slot s).inp = readings s.inp := rfl

@[simp] theorem readings_judge (bad : Bool) (cause : Nat) (s : State) : readings (judge bad cause s).inp = readings s.inp := by
  unfold judge
  split <;> simp

@[simp] theorem readings_earthWatch (s : State) : readings (earthWatch s).inp = readings s.inp := by
  unfold earthWatch
  split
  · rfl
  · extract_lets cleared
    split
    · have hinp : (tamperOff 4 cleared).inp = cleared.inp := kept_inp (by simp (disch := decide))
      rw [hinp]
      rfl
    · rfl

theorem inputFault_clk (cause slot start : Nat) (s : State) : (inputFault cause slot start s).clk = s.clk :=
  kept_clk (by simp (disch := decide))

theorem inputFault_inp (cause slot start : Nat) (s : State) : (inputFault cause slot start s).inp = s.inp :=
  kept_inp (by simp (disch := decide))

theorem inputFault_led (cause slot start : Nat) (s : State) : (inputFault cause slot start s).led = s.led :=
  kept_led (by simp (disch := decide))

/-! Tamper sources (R396). -/

theorem tamperBegin_active (src : Nat) (s : State) : bitN (tamperBegin src s).sag.tamperActive src = true := by
  unfold tamperBegin
  extract_lets g marked told src' blocked
  have htold : told.sag = marked.sag := kept_sag (by simp (disch := decide) [told])
  have hactive : bitN told.sag.tamperActive src = true := by
    rw [htold]
    exact bitN_setBitN_same g.tamperActive src true
  split
  · split
    · have hblocked : (askShutter (.openOrderly 0) (endSessionOpen blocked)).sag = blocked.sag :=
        kept_sag (by simp (disch := decide))
      rw [hblocked]
      exact hactive
    · exact hactive
  · exact hactive

theorem tamperEnd_inactive (src : Nat) (s : State) : bitN (tamperEnd src s).sag.tamperActive src = false := by
  have hsag : (tamperEnd src s).sag = { s.sag with tamperActive := setBitN s.sag.tamperActive src false } := by
    unfold tamperEnd
    exact kept_sag (s := { s with sag := { s.sag with tamperActive := setBitN s.sag.tamperActive src false } })
      (by simp (disch := decide))
  rw [hsag]
  exact bitN_setBitN_same s.sag.tamperActive src false

theorem endSession_clk (cause : Nat) (s : State) : (endSession cause s).clk = s.clk :=
  kept_clk (by simp (disch := decide))

/-- Of the timebase the end of a session takes at most a free value. -/
theorem endSessionOpen_now (s : State) : (endSessionOpen s).clk.now = s.clk.now := by
  unfold endSessionOpen
  split
  · exact (congrArg Clock.now (endSession_clk (Config.freeNat (takeFree s).1 % 256) (takeFree s).2) :)
  · rfl

theorem tamperBegin_now (src : Nat) (s : State) : (tamperBegin src s).clk.now = s.clk.now := by
  unfold tamperBegin
  extract_lets g marked told src' blocked
  have htold : told.clk = s.clk := kept_clk (by simp (disch := decide) [told, marked])
  have hnow : told.clk.now = s.clk.now := congrArg Clock.now htold
  split
  · split
    · have hasked : (askShutter (.openOrderly 0) (endSessionOpen blocked)).clk = (endSessionOpen blocked).clk :=
        kept_clk (by simp (disch := decide))
      rw [hasked, endSessionOpen_now]
      exact hnow
    · exact hnow
  · exact hnow

/-! The orderly stop (R343). -/

theorem deenergise_shu_stop (s : State) : (deenergise s).shu.stop = s.shu.stop := by
  unfold deenergise coilsOff
  split
  · extract_lets a b was disarmed
    have hshu : disarmed.shu = s.shu := kept_shu (by simp (disch := decide) [disarmed])
    rw [← hshu]
  · rfl

theorem finishStop_shu_stop (s : State) : (finishStop s).shu.stop = none := by
  unfold finishStop
  split
  next hnone => exact hnone
  next p hsome =>
    extract_lets big
    have hlogged : (logStop p big (deenergise (setShu (fun x => { x with stop := none }) s))).shu =
        (deenergise (setShu (fun x => { x with stop := none }) s)).shu := kept_shu (by simp (disch := decide))
    rw [hlogged, deenergise_shu_stop]
    rfl

theorem finishStop_inp (s : State) : (finishStop s).inp = s.inp :=
  kept_inp (by simp (disch := decide))

/-! Measurement-input events (R63, R64, R68–R70, R73, R74, R175, R176). -/

theorem execStatusFrame_bad_next {s : State} (good : Bool) (hall : Int) (z np : Nat) (temp : Int) (hd2 : s.dom.d2 = true) :
    ∃ t, execStatusFrame false good hall z np temp s = .next t ∧ t.inp.badFrames = s.inp.badFrames + 1 := by
  unfold execStatusFrame
  refine exists_next_of_whenever hd2 fun t ht => ?_
  rw [if_pos (by rfl)] at ht
  extract_lets counted at ht
  have hread : readings t.inp = readings counted.inp := by
    rw [ht]
    split
    · exact readings_metFault 2 255 counted
    · rfl
  exact congrArg Inputs.badFrames hread

theorem execStatusFrame_good_next {s : State} (good : Bool) (hall : Int) (z np : Nat) (temp : Int)
    (hd2 : s.dom.d2 = true) : ∃ t, execStatusFrame true good hall z np temp s = .next t ∧
      t.inp.badFrames = 0 ∧ t.inp.hall = hall ∧ t.inp.hallPeak = max s.inp.hallPeak hall.natAbs ∧ t.inp.peZ = z ∧
      t.inp.peNpe = np ∧ t.inp.dieTemp = temp ∧ t.inp.tempN = s.inp.tempN + 1 ∧ t.inp.tempSum = s.inp.tempSum + temp := by
  unfold execStatusFrame
  refine exists_next_of_whenever hd2 fun t ht => ?_
  rw [if_neg (by simp)] at ht
  extract_lets taken watched judged at ht
  have hread : readings t.inp = readings taken.inp := by
    have hjudged : readings judged.inp = readings taken.inp := by simp [judged, watched]
    rw [ht]
    split
    · split
      · rw [readings_metFault, hjudged]
      · exact hjudged
    · rw [readings_faultAbsent, hjudged]
  exact ⟨congrArg Inputs.badFrames hread, congrArg Inputs.hall hread, congrArg Inputs.hallPeak hread,
    congrArg Inputs.peZ hread, congrArg Inputs.peNpe hread, congrArg Inputs.dieTemp hread, congrArg Inputs.tempN hread,
    congrArg Inputs.tempSum hread⟩

theorem execRailWarning_next {s : State} (hd2 : s.dom.d2 = true) : ∃ t, execRailWarning s = .next t ∧ t.dom.d2 = false ∧
    t.dom.d3 = s.dom.d3 ∧ t.cal.cfP = {} ∧ t.cal.cfQ = {} := by
  unfold execRailWarning
  refine exists_next_of_whenever hd2 fun t ht => ?_
  have hdom : (finalEntry 5 s).dom = s.dom := kept_dom (by simp (disch := decide))
  rw [ht]
  exact ⟨rfl, (congrArg Domains.d3 hdom :), rfl, rfl⟩

theorem execMeteringStopOpen_next {s : State} {at0 : Tick} (hbound : s.inp.stopBy = some at0) :
    ∃ t, execMeteringStopOpen s = .next t ∧ t.inp.stopBy = none ∧ t.shu.stop = none := by
  unfold execMeteringStopOpen
  rw [hbound]
  refine ⟨_, rfl, ?_, finishStop_shu_stop _⟩
  rw [finishStop_inp]
  rfl

theorem execMeteringFaultEnd_next {s : State} {cause slot : Nat} {f : MetFault} {at0 : Tick} {codes : List Int}
    (hfault : s.inp.faults.find? (faultIs cause slot) = some f) (hd2 : s.dom.d2 = true) (habsent : f.absentSince = some at0)
    (hpassed : cause = 3 ∨ cause = 7 → bitN (refPassed startCodes codes) slot = true) :
    ∃ t, execMeteringFaultEnd cause slot codes s = .next t ∧ t.clk.now = max s.clk.now (at0 + Tick.s 1) ∧
      t.inp.faults = s.inp.faults.filter (fun g => !faultIs cause slot g) ∧
      Waits (if cause = 4 then 0x0206 else 0x0205) s t := by
  have hcause : f.cause = cause := by
    have his := List.find?_some hfault
    simp only [faultIs, Bool.and_eq_true, beq_iff_eq] at his
    exact his.1
  have htested : (!(cause == 3 || cause == 7) || bitN (refPassed startCodes codes) slot) = true := by
    by_cases hmod : cause = 3 ∨ cause = 7
    · simp [hpassed hmod]
    · simp [not_or.mp hmod]
  unfold execMeteringFaultEnd
  simp only [hfault, habsent]
  refine exists_next_of_whenever (by rw [hd2, htested]; rfl) fun t ht => ?_
  rw [ht, inputFault_clk, inputFault_inp, ← hcause]
  exact ⟨rfl, rfl, waits_of_raiseF (inputFault_led 0 slot f.firstEpoch _) rfl⟩

theorem execPeWindowEval_pass_next {s : State} (hd2 : s.dom.d2 = true) (hz : s.inp.peZ < param s 0x0609)
    (hnpe : s.inp.peNpe < 10 * param s 0x060A) :
    ∃ t, execPeWindowEval s = .next t ∧ t.inp.peFail = 0 ∧ t.inp.pePass = min 10 (s.inp.pePass + 1) := by
  unfold execPeWindowEval
  refine exists_next_of_whenever hd2 fun t ht => ?_
  simp [ht, hz, hnpe]

theorem execPeWindowEval_fail_next {s : State} (hd2 : s.dom.d2 = true)
    (hfail : ¬ (s.inp.peZ < param s 0x0609 ∧ s.inp.peNpe < 10 * param s 0x060A)) :
    ∃ t, execPeWindowEval s = .next t ∧ t.inp.pePass = 0 ∧ t.inp.peFail = min 3 (s.inp.peFail + 1) := by
  unfold execPeWindowEval
  refine exists_next_of_whenever hd2 fun t ht => ?_
  simp [ht, hfail]

theorem execMagField_next {s : State} {at0 : Tick} (hd2 : s.dom.d2 = true) (hclosed : s.inp.magSince = none)
    (hhigh : s.inp.magHigh = some at0) :
    ∃ t, execMagField s = .next t ∧ t.clk.now = max s.clk.now (at0 + Tick.ms (param s 0x024B)) ∧
      t.inp.magSince = some t.clk.now ∧ bitN t.sag.tamperActive 0 = true ∧ Waits 0x0204 s t := by
  unfold execMagField
  rw [hhigh]
  refine exists_next_of_whenever (by simp [hd2, hclosed]) fun t ht => ?_
  extract_lets waited opened at ht
  have hnow : t.clk.now = opened.clk.now := by rw [ht, tamperBegin_now]; rfl
  have hinp : t.inp = opened.inp := by rw [ht]; exact kept_inp (by simp (disch := decide))
  have hled : t.led = (raise 0x0204 (le 2 opened.inp.magPeak ++ zeros 2) opened).led := by
    rw [ht]
    exact kept_led (by simp (disch := decide))
  refine ⟨by rw [hnow]; rfl, by rw [hinp, hnow]; rfl, by rw [ht]; exact tamperBegin_active 0 _, ?_⟩
  exact waits_of_raiseF (u := opened) hled rfl

theorem execMagFieldEnd_next {s : State} {since at0 : Tick} (hopen : s.inp.magSince = some since)
    (hlow : s.inp.magLow = some at0) (hd2 : s.dom.d2 = true) :
    ∃ t, execMagFieldEnd s = .next t ∧ t.clk.now = max s.clk.now (at0 + Tick.ms (param s 0x024B)) ∧
      t.inp.magSince = none ∧ bitN t.sag.tamperActive 0 = false ∧ Waits 0x0204 s t := by
  unfold execMagFieldEnd
  rw [hopen, hlow]
  refine exists_next_of_whenever hd2 fun t ht => ?_
  extract_lets waited logged at ht
  have hclk : t.clk = waited.clk := by rw [ht]; exact kept_clk (by simp (disch := decide) [logged])
  have hinp : t.inp = { logged.inp with magSince := none, magHigh := none, magPeak := 0 } := by
    rw [ht]
    exact kept_inp (s := setInp (fun i => { i with magSince := none, magHigh := none, magPeak := 0 }) logged)
      (by simp (disch := decide))
  have hled : t.led = logged.led := by rw [ht]; exact kept_led (by simp (disch := decide))
  refine ⟨by rw [hclk]; rfl, by rw [hinp], by rw [ht]; exact tamperEnd_inactive 0 _, ?_⟩
  exact waits_of_raiseF (u := waited) hled rfl

theorem execOverrangeClose_next {s : State} {k : Nat} {o : OverRange}
    (hopen : s.inp.overRange.find? (·.slot == k) = some o) (hquiet : 100 ≤ o.quiet) :
    ∃ t, execOverrangeClose k s = .next t ∧ t.inp.overRange = s.inp.overRange.filter (·.slot != k) ∧
      Waits (if k % 2 = 1 && k < 8 || k = 8 then 0x0201 else 0x0202) s t := by
  unfold execOverrangeClose
  rw [hopen]
  refine exists_next_of_whenever (decide_eq_true hquiet) fun t ht => ?_
  rw [ht]
  exact ⟨rfl, waits_of_raiseF rfl rfl⟩

theorem execGainMismatch_set_next {s : State} {c : Nat} (hclear : s.inp.gainMismatch[c]? = some false)
    (hbad : s.inp.gmBad[c]? = some 100) :
    ∃ t, execGainMismatch c s = .next t ∧ t.inp.gainMismatch = s.inp.gainMismatch.set c true ∧ Waits 0x0203 s t := by
  unfold execGainMismatch
  rw [hclear, hbad]
  exact ⟨_, rfl, rfl, waits_of_raiseF (u := setInp (fun i => { i with gainMismatch := i.gainMismatch.set c true }) s) rfl rfl⟩

theorem execGainMismatch_clear_next {s : State} {c : Nat} (hset : s.inp.gainMismatch[c]? = some true)
    (hgood : s.inp.gmGood[c]? = some 100) : execGainMismatch c s =
      .next (setInp (fun i => { i with gainMismatch := i.gainMismatch.set c false }) s) := by
  unfold execGainMismatch
  simp [hset, hgood]

theorem execJournalNotDurable_next {s : State} (hd2 : s.dom.d2 = true) (hlate : 100 ≤ s.led.notDurable)
    (hnew : s.inp.faults.any (faultIs 9 255) = false) :
    ∃ t, execJournalNotDurable s = .next t ∧ t.inp.faults.any (faultIs 9 255) = true ∧ Waits 0x0205 s t := by
  unfold execJournalNotDurable
  refine exists_next_of_whenever (by simp [hd2, hlate]) fun t ht => ?_
  obtain ⟨f, bound, hf, hinp⟩ := metFault_inp_of_new hnew
  rw [ht, hinp]
  exact ⟨by simp [hf], metFault_waits_of_new hnew⟩

/-- Settles O6: each event of the measurement inputs answers its next state. The instant clk.now is the model's own (log entry
3). -/
theorem inputEventsComplete : Obligations.InputEventsComplete := by
  unfold Obligations.InputEventsComplete
  refine ⟨?_, ?_, ?_, ?_, ?_, ?_, ?_, ?_, ?_, ?_, ?_, ?_, ?_⟩
  · exact fun _ good hall z np temp => execStatusFrame_bad_next good hall z np temp
  · exact fun _ good hall z np temp => execStatusFrame_good_next good hall z np temp
  · exact fun _ => execRailWarning_next
  · intro s at0 hbound
    obtain ⟨t, hnext, hnone, hstop⟩ := execMeteringStopOpen_next hbound
    exact ⟨t, hnext, hnone, fun _ => hstop⟩
  · exact fun _ _ _ _ _ _ => execMeteringFaultEnd_next
  · exact fun _ => execPeWindowEval_pass_next
  · exact fun _ => execPeWindowEval_fail_next
  · exact fun _ _ => execMagField_next
  · exact fun _ _ _ => execMagFieldEnd_next
  · exact fun _ _ _ => execOverrangeClose_next
  · exact fun _ _ => execGainMismatch_set_next
  · exact fun _ _ => execGainMismatch_clear_next
  · exact fun _ => execJournalNotDurable_next

/-! The commands of the inputs and of Sieve (R72, R78, R79, R90, R92, R96). -/

@[simp] theorem le_length (n v : Nat) : (le n v).length = n := by
  induction n generalizing v with
  | zero => rfl
  | succ n ih => simp [le, ih]

@[simp] theorem leI_length (n : Nat) (v : Int) : (leI n v).length = n := le_length n _

/-- Fields of one width in a row. -/
theorem length_flatMap_le {α : Type} (n : Nat) (f : α → Nat) (l : List α) :
    (l.flatMap fun a => le n (f a)).length = n * l.length := by
  induction l with
  | nil => rfl
  | cons a l ih => rw [List.flatMap_cons, List.length_append, le_length, ih, List.length_cons, Nat.mul_succ, Nat.add_comm]

/-- A request that its chapter answers later leaves the state that the chapter leaves. -/
theorem brixo_of_later {code : Nat} {r : Req} {s t : State} {f : State → Answer} (htaken : Taken code r s)
    (hf : f s = later t) : brixo code r s f = .next t := by
  obtain ⟨hserving, hcheck⟩ := htaken
  simp [brixo, hserving, hcheck, hf, later]

theorem reply_sie (r : Req) (code st : Nat) (body : List Byte) (s : State) : (reply r code st body s).sie = s.sie :=
  kept_sie (by simp (disch := decide))

/-- A request taken by firmware leaves Sieve as its chapter leaves it, answered at once or later. -/
theorem brixo_next_sie {code : Nat} {r : Req} {s : State} {f : State → Answer} (htaken : Taken code r s) :
    ∃ t, brixo code r s f = .next t ∧ t.sie = (f s).state.sie := by
  obtain ⟨hserving, hcheck⟩ := htaken
  cases hstatus : (f s).status with
  | none => exact ⟨(f s).state, by simp [brixo, hserving, hcheck, hstatus], rfl⟩
  | some st =>
    exact ⟨reply r code st (f s).body (f s).state, by simp [brixo, hserving, hcheck, hstatus], reply_sie _ _ _ _ _⟩

theorem execMetInputStatus_next {s v : State} {r : Req} (htaken : Taken 0x0240 r s) (hv : v = asOf s) :
    ∃ t body, execMetInputStatus r s = .next (reply r 0x0240 stOk body t) ∧
    t.inp.hallPeak = 0 ∧ t.inp.ovrSeen = 0 ∧ t.inp.faults = s.inp.faults ∧
    body.take 22 = (List.range 10).flatMap (fun k => le 2 (chStatus s { v with inp := { v.inp with
      weightEnds := s.inp.weightEnds } } (shownEpoch s) k)) ++ leI 2 v.inp.hall ∧
    body.drop 24 = le 2 (if 10000 < v.inp.peZ then 0xFFFF else v.inp.peZ) ++ le 2 v.inp.peNpe ++ le 1 (b2n v.inp.peOk) ++
      le 1 ((v.inp.faults.head?.map (·.cause)).getD 0) ++ leI 2 v.inp.dieTemp ++ le 2 (v.inp.startupTest ||| 0x300) ++
      zeros 2 ++ le 8 ((v.inp.faults.head?.map (·.firstEpoch)).getD 0) := by
  rw [hv]
  refine ⟨_, _, brixo_of_answer htaken rfl, rfl, rfl, rfl, ?_, ?_⟩
  · simp only [List.append_assoc]
    rw [← List.append_assoc]
    refine List.take_left' ?_
    rw [List.length_append, length_flatMap_le, List.length_range, leI_length]
  · simp only [List.append_assoc]
    rw [← List.append_assoc, ← List.append_assoc]
    refine List.drop_left' ?_
    rw [List.length_append, List.length_append, length_flatMap_le, List.length_range, leI_length, le_length]

theorem execMetInputSelftest_next {s : State} {r : Req} {mask : Nat} (htaken : Taken 0x0241 r s)
    (hmode : setupMode s = true) (hpos : 0 < mask) (hmask : mask < 0x400) (hidle : s.inp.selfTest = none)
    (hopen : kmOpen s = true) (hbelow : belowStart s = true) : ∃ t, execMetInputSelftest r mask s = .next t ∧
      t.inp.selfTest = some ⟨mask, s.clk.epoch, nowPos s, s.clk.now + Tick.ms 100, some r⟩ := by
  have hgood : ¬ (mask = 0 || 0x400 ≤ mask) = true := by
    simp only [Bool.or_eq_true, decide_eq_true_eq]
    omega
  exact ⟨_, brixo_of_later htaken (by rw [hmode, hidle, hopen, hbelow, if_neg hgood]; rfl), rfl⟩

theorem execSelftestEnd_next {s : State} {test : SelfTest} (codes : List Int) (htest : s.inp.selfTest = some test)
    (hd2 : s.dom.d2 = true) : ∃ t, execSelftestEnd codes s = .next t ∧ t.inp.selfTest = none ∧
      t.clk.now = max s.clk.now test.endAt ∧ Waits 0x020F s t := by
  unfold execSelftestEnd
  rw [htest]
  refine exists_next_of_whenever hd2 fun t ht => ?_
  extract_lets ended n switched p logged at ht
  have hinp : t.inp = switched.inp := by rw [ht]; exact kept_inp (by simp (disch := decide) [logged])
  have hclk : t.clk = switched.clk := by rw [ht]; exact kept_clk (by simp (disch := decide) [logged])
  have hled : t.led = logged.led := by rw [ht]; exact kept_led (by simp (disch := decide))
  rw [hinp, hclk]
  exact ⟨rfl, rfl, waits_of_raiseF (u := switched) hled rfl⟩

theorem execMetSieveStatus_next {s v : State} {r : Req} (htaken : Taken 0x0260 r s) (hv : v = asOf s) :
    ∃ t body, execMetSieveStatus r s = .next (reply r 0x0260 stOk body t) ∧ t.sie.satMask = 0 ∧
      t.sie.halted = s.sie.halted ∧ body.take 8 = le 2 (coef v).id ++ le 2 (coef v).version ++ le 4 (coef v).crc ∧
      body.drop 24 = le 8 v.sie.satEpoch := by
  rw [hv]
  refine ⟨_, _, brixo_of_answer htaken rfl, rfl, rfl, ?_, ?_⟩
  · simp only [List.append_assoc]
    rw [← List.append_assoc, ← List.append_assoc]
    refine List.take_left' ?_
    simp only [List.length_append, le_length]
  · refine List.drop_left' ?_
    simp only [List.length_append, le_length, zeros, List.length_replicate]

theorem execMetSieveHalt_halt_next {s : State} {r : Req} (htaken : Taken 0x0261 r s) (hmode : s.mode.mode = .factory)
    (hopen : kmOpen s = true) (hruns : s.sie.halted = false) :
    ∃ t, execMetSieveHalt r 1 s = .next (reply r 0x0261 stOk (le 8 (s.clk.epoch + 1)) t) ∧
      t.sie.haltAt = some (s.clk.epoch + 1) := by
  refine ⟨_, brixo_of_answer htaken (by rw [hmode, hopen]; rfl), ?_⟩
  simp [hruns]

theorem execMetSieveHalt_resume_next {s : State} {r : Req} (htaken : Taken 0x0261 r s) (hmode : s.mode.mode = .factory)
    (hhalted : s.sie.halted = true) :
    ∃ t, execMetSieveHalt r 0 s = .next (reply r 0x0261 stOk (le 8 (s.clk.epoch + 1)) t) ∧
      t.sie.resumeAt = some (s.clk.epoch + 1) := by
  refine ⟨_, brixo_of_answer htaken (by rw [hmode]; rfl), ?_⟩
  simp [hhalted]

/-- A set is stored only when its CRC, its reserved fields and the checks of R90 are good; a bad CRC leaves Sieve as it is. -/
theorem execMetSieveSetLoad_next {s : State} {r : Req} {data : List Byte} (htaken : Taken 0x0262 r s)
    (hmode : s.mode.mode = .factory) (hhalted : s.sie.halted = true) (hlength : data.length = 2728) :
    ∃ t, execMetSieveSetLoad r data s = .next t ∧
      (crc32c (data.take 2724) = (parseSet data).crc → fieldAt data 10 2 = 0 → fieldAt data 16 8 = 0 →
        setCheck (parseSet data) = none → t.sie.flashSet = some (parseSet data)) ∧
      (crc32c (data.take 2724) ≠ (parseSet data).crc → t.sie = s.sie) := by
  obtain ⟨t, hnext, hsie⟩ : ∃ t, execMetSieveSetLoad r data s = .next t ∧ t.sie = _ := brixo_next_sie htaken
  refine ⟨t, hnext, fun hcrc hfirst hsecond hset => ?_, fun hbad => ?_⟩
  · simp [hsie, hmode, hhalted, hlength, hcrc, hfirst, hsecond, hset, answer]
  · simp [hsie, hmode, hhalted, hlength, hbad]

/-- Settles O7: each command of the inputs and of Sieve answers its reply and its next state. The instant clk.now is the model's
own (log entry 3), and that MET_INPUT_STATUS shows the oldest of several faults is its choice (log entry 72). -/
theorem inputCommandsComplete : Obligations.InputCommandsComplete := by
  unfold Obligations.InputCommandsComplete
  refine ⟨?_, ?_, ?_, ?_, ?_, ?_, ?_⟩
  · exact fun _ _ _ => execMetInputStatus_next
  · exact fun _ _ _ => execMetInputSelftest_next
  · exact fun _ _ codes => execSelftestEnd_next codes
  · exact fun _ _ _ => execMetSieveStatus_next
  · exact fun _ _ => execMetSieveHalt_halt_next
  · exact fun _ _ => execMetSieveHalt_resume_next
  · exact fun _ _ _ => execMetSieveSetLoad_next

/-! One 400 kSPS sample (R62, R70, R80–R84, R130): after the new bits have entered, no stage changes the count of samples or the
delay lines of stage 1. -/

/-- The 400 kSPS samples counted since Sieve started, and the delay lines of stage 1. -/
def stage1Lines (x : Sieve) : Nat × List (List Bool) := (x.n400, x.bits)

theorem stage1Lines_ite (c : Prop) [Decidable c] {a b : State} (h : stage1Lines a.sie = stage1Lines b.sie) :
    stage1Lines (if c then a else b).sie = stage1Lines b.sie := by
  split
  · exact h
  · rfl

@[simp] theorem stage1Lines_addMark (j ovr sat : Nat) (s : State) :
    stage1Lines (addMark j ovr sat s).sie = stage1Lines s.sie := by
  unfold addMark
  split <;> rfl

theorem stage1Lines_foldl {α : Type} (f : State → α → State) (l : List α) (s : State)
    (hf : ∀ u a, stage1Lines (f u a).sie = stage1Lines u.sie) : stage1Lines (l.foldl f s).sie = stage1Lines s.sie := by
  induction l generalizing s with
  | nil => rfl
  | cons a l ih => rw [List.foldl_cons, ih, hf]

@[simp] theorem stage1Lines_saturated (mask e : Nat) (s : State) :
    stage1Lines (saturated mask e s).sie = stage1Lines s.sie := by
  unfold saturated
  split
  · rfl
  · extract_lets seen
    refine stage1Lines_foldl _ (maskIdx 10 mask) seen fun u k => ?_
    split <;> rfl

@[simp] theorem stage1Lines_saturatedAt (mask j : Nat) (s : State) :
    stage1Lines (saturatedAt mask j s).sie = stage1Lines s.sie := by
  unfold saturatedAt
  simp

theorem correctAll_sie (e : Nat) (x1 : List Int) (s : State) : (correctAll e x1 s).1.sie = s.sie :=
  kept_sie (by simp (disch := decide))

theorem blendBoundary_sie (j : Nat) (s : State) : (blendBoundary j s).sie = s.sie :=
  kept_sie (by simp (disch := decide))

theorem spanSample_sie (e eb : Nat) (xc : List Int) (q : Nat → Bool) (cross low : Nat → Int) (s : State) :
    (spanSample e eb xc q cross low s).sie = s.sie :=
  kept_sie (by simp (disch := decide))

@[simp] theorem stage1Lines_blendAll (n : Nat) (x1 : List Int) (s : State) :
    stage1Lines (blendAll n x1 s).1.sie = stage1Lines s.sie := by
  unfold blendAll
  extract_lets e jb eb full
  split
  next u xc hcorrect =>
  have hcorrected : u.sie = s.sie := by rw [← correctAll_sie e x1 s, hcorrect]
  extract_lets bounded mode new look cur ws ys sensor steps outs q cross low ovr counted lined spanned marked isat
  have hbounded : bounded.sie = u.sie := kept_sie (by simp (disch := decide) [bounded])
  have hlined : stage1Lines lined.sie = stage1Lines bounded.sie := by
    simp only [lined, counted, stage1Lines, setSie_sie, setInp_sie]
  have hspanned : spanned.sie = lined.sie := spanSample_sie e eb xc q cross low lined
  have hmarked : stage1Lines marked.sie = stage1Lines spanned.sie :=
    stage1Lines_ite (4 ≤ n) (stage1Lines_addMark (n - 4) ovr 0 spanned)
  rw [stage1Lines_saturatedAt, hmarked, hspanned, hlined, hbounded, hcorrected]

@[simp] theorem stage1Lines_wideStage (ys : List Int) (s : State) :
    stage1Lines (wideStage ys s).sie = stage1Lines s.sie := by
  unfold wideStage
  extract_lets jb sh wide stored
  have hstored : stage1Lines stored.sie = stage1Lines s.sie := by
    rw [stage1Lines_saturatedAt]
    simp only [stage1Lines, setSie_sie]
  split
  · rw [setPq_sie, hstored]
  · exact hstored

theorem pushSettle_sie (s : State) : (pushSettle s).sie = s.sie :=
  kept_sie (by simp (disch := decide))

@[simp] theorem stage1Lines_midStages (ys : List Int) (s : State) :
    stage1Lines (midStages ys s).sie = stage1Lines s.sie := by
  unfold midStages
  extract_lets c lines widened n o2 halved oS
  have hwidened : stage1Lines widened.sie = stage1Lines s.sie := by
    rw [stage1Lines_wideStage]
    simp only [stage1Lines, setSie_sie]
  have hhalved : stage1Lines halved.sie = stage1Lines widened.sie := by
    refine stage1Lines_ite _ ?_
    rw [stage1Lines_saturatedAt]
    simp only [stage1Lines, setSie_sie]
  rw [← hwidened, ← hhalved]
  refine stage1Lines_ite _ ?_
  rw [stage1Lines_saturatedAt, pushSettle_sie]
  simp only [stage1Lines, setSie_sie]

@[simp] theorem stage1Lines_mainRow (s : State) : stage1Lines (mainRow s).sie = stage1Lines s.sie := by
  unfold mainRow
  extract_lets n c h3 o m marked here row
  refine stage1Lines_ite _ ?_
  have hmarked : stage1Lines marked.sie = stage1Lines s.sie := stage1Lines_saturated m _ s
  rw [← hmarked]
  simp only [stage1Lines, setSie_sie]

/-- The new bits enter the delay lines of the 14 streams, and nothing else of Sieve changes. -/
theorem takeBits_sie (bits : List Nat) (s : State) :
    ∃ lines, (takeBits bits s).sie = { s.sie with bits := lines } ∧ lines.length = 14 := by
  unfold takeBits
  extract_lets old lines runs
  refine ⟨lines, ?_, by simp [lines]⟩
  have hchecked (longest : List Nat) (u : State) : (streamChecks longest u).sie = u.sie :=
    kept_sie (by simp (disch := decide))
  rw [hchecked, setInp_sie, setSie_sie]

theorem execSample400k_next {s : State} (bits : List Nat) (hd2 : s.dom.d2 = true) (hruns : s.sie.halted = false) :
    ∃ t, execSample400k bits s = .next t ∧ t.sie.n400 = s.sie.n400 + 1 ∧ t.sie.bits.length = 14 ∧
      t.met.samples = s.met.samples := by
  have hmet := fun t ht => kept_met (forget_of_onlyChanges (by decide) (execSample400k_within bits s t ht))
  suffices hlines : ∃ t, execSample400k bits s = .next t ∧ t.sie.n400 = s.sie.n400 + 1 ∧ t.sie.bits.length = 14 by
    obtain ⟨t, hnext, hcount, hlength⟩ := hlines
    exact ⟨t, hnext, hcount, hlength, by rw [hmet t hnext]⟩
  unfold execSample400k
  refine exists_next_of_whenever hd2 fun t ht => ?_
  obtain ⟨lines, htaken, hlength⟩ := takeBits_sie bits s
  extract_lets taken n counted at ht
  rw [if_neg (by simp [taken, htaken, hruns])] at ht
  have hlines : stage1Lines t.sie = stage1Lines counted.sie := by
    rw [ht]
    split
    next x1 sat1 _ =>
    extract_lets m1 marked
    have hmarked : stage1Lines marked.sie = stage1Lines counted.sie :=
      stage1Lines_ite (4 ≤ n) (stage1Lines_saturatedAt m1 (n - 4) counted)
    split
    next u ys hblend =>
    have hblended : stage1Lines u.sie = stage1Lines marked.sie := by rw [← stage1Lines_blendAll n x1 marked, hblend]
    rw [stage1Lines_mainRow, stage1Lines_midStages, hblended, hmarked]
  have hcounted : stage1Lines counted.sie = (s.sie.n400 + 1, lines) := by
    simp only [counted, n, stage1Lines, setSie_sie, taken, htaken]
  obtain ⟨hcount, hbits⟩ := Prod.mk.inj (hlines.trans hcounted)
  exact ⟨hcount, by rw [hbits, hlength]⟩

/-! One main-path sample (R100). -/

/-- A sample of the main path joins the samples of the same epoch; the rows behind it stay in the path. -/
theorem takeSample_met_rows (row : MainRow) (next : List Int) (halted : Bool) (s : State) :
    (takeSample row next halted s).met.samples.length = s.met.samples.length + 1 ∧
      (takeSample row next halted s).met.epoch = s.met.epoch ∧
      (takeSample row next halted s).sie.rows = s.sie.rows := by
  unfold takeSample
  extract_lets e a prev cross found crossed refHit timed referred cut invalid settling due smp grown counted switched
  have hreferred : forget [Block.inp, .cal, .pq].contains referred = forget [Block.inp, .cal, .pq].contains crossed := by
    simp only [referred]
    generalize refHit = hit
    cases hit <;> simp (disch := decide) [timed]
  have hframe : forget [Block.inp, .cal, .pq].contains switched = forget [Block.inp, .cal, .pq].contains crossed := by
    simp (disch := decide) [switched, counted, grown, cut, hreferred]
  have hmet : switched.met = crossed.met := kept_met (forget_of_onlyChanges (by decide) hframe)
  have hsie : switched.sie = crossed.sie := kept_sie (forget_of_onlyChanges (by decide) hframe)
  rw [setMet_met, setMet_sie, hmet, hsie]
  exact ⟨by simp [crossed], rfl, rfl⟩

theorem takeSample_sampleNow (row : MainRow) (next : List Int) (halted : Bool) (s : State) :
    sampleNow (takeSample row next halted s) = sampleNow s + 1 := by
  obtain ⟨hlength, hepoch, -⟩ := takeSample_met_rows row next halted s
  rw [sampleNow, hlength, hepoch, sampleNow]
  omega

theorem takeSample_hold (row : MainRow) (next : List Int) (halted : Bool) (s : State) :
    (takeSample row next halted s).hold = s.hold :=
  kept_hold (by simp (disch := decide))

theorem takeSample_led (row : MainRow) (next : List Int) (halted : Bool) (s : State) :
    (takeSample row next halted s).led = s.led :=
  kept_led (by simp (disch := decide))

/-- The final commit is not written while a sample through that at t_d is still in the path (R184). -/
theorem finalIfReached_of_not_reached {s : State} (h : s.hold.stage = .finalCommit → sampleNow s ≤ s.hold.tdSample) :
    finalIfReached s = s := by
  unfold finalIfReached
  refine if_neg ?_
  simp only [Bool.and_eq_true, beq_iff_eq, decide_eq_true_eq]
  rintro ⟨⟨hstage, hpast⟩, -⟩
  have := h hstage
  omega

/-- The final commit is written once the sample at t_d has left the path and no other write is under way (R184). -/
theorem finalIfReached_stage_of_reached {s : State} (hstage : s.hold.stage = .finalCommit)
    (hpast : s.hold.tdSample < sampleNow s) (hfree : s.led.writing = none) :
    (finalIfReached s).hold.stage = .signedReading := by
  unfold finalIfReached
  rw [if_pos (by simp [hstage, hpast, hfree])]

/-- The next sample of the epoch is taken, a row of zeros while Sieve is halted (R92, R100); the final commit follows where it is
due. -/
theorem execMainPathSample_taken {s : State} (hacc : accumulates s = true) (hroom : s.met.samples.length < 320)
    (hrows : 2 ≤ s.sie.rows.length) : ∃ row next halted u,
      execMainPathSample s = .next (finalIfReached (takeSample row next halted u)) ∧ u.met = s.met ∧ u.hold = s.hold ∧
      u.led = s.led ∧ (haltedAt s s.met.epoch = false → u.sie.rows = s.sie.rows.drop 1) := by
  have hdue : (accumulates s && decide (s.met.samples.length < 320)) = true := by simp [hacc, hroom]
  cases hhalted : haltedAt s s.met.epoch with
  | true =>
    refine ⟨⟨List.replicate 10 0, 0, 0⟩, List.replicate 10 0, true, s, ?_, rfl, rfl, rfl, by simp⟩
    rw [execMainPathSample, whenever, if_pos hdue, hhalted]
    rfl
  | false =>
    obtain ⟨row, next, rest, hpath⟩ : ∃ row next rest, s.sie.rows = row :: next :: rest := by
      match s.sie.rows, hrows with
      | row :: next :: rest, _ => exact ⟨row, next, rest, rfl⟩
    refine ⟨row, next.codes, false, setSie (fun i => { i with rows := next :: rest }) s, ?_, rfl, rfl, rfl, fun _ => ?_⟩
    · rw [execMainPathSample, whenever, if_pos hdue, hhalted, hpath]
      rfl
    · rw [hpath]
      rfl

theorem execMainPathSample_next {s : State} (hacc : accumulates s = true) (hroom : s.met.samples.length < 320)
    (hrows : 2 ≤ s.sie.rows.length) (hruns : haltedAt s s.met.epoch = false)
    (hbefore : s.hold.stage = .finalCommit → sampleNow s < s.hold.tdSample) :
    ∃ t, execMainPathSample s = .next t ∧ t.met.samples.length = s.met.samples.length + 1 ∧
      t.sie.rows = s.sie.rows.drop 1 ∧ t.met.epoch = s.met.epoch := by
  obtain ⟨row, next, halted, u, hnext, hmet, hhold, -, hpath⟩ := execMainPathSample_taken hacc hroom hrows
  have hnow : sampleNow u = sampleNow s := by rw [sampleNow, hmet, sampleNow]
  have hwaits : finalIfReached (takeSample row next halted u) = takeSample row next halted u := by
    apply finalIfReached_of_not_reached
    rw [takeSample_hold, takeSample_sampleNow, hhold, hnow]
    exact hbefore
  obtain ⟨hlength, hepoch, hleft⟩ := takeSample_met_rows row next halted u
  rw [hmet] at hlength hepoch
  exact ⟨_, by rw [hnext, hwaits], hlength, by rw [hleft, hpath hruns], hepoch⟩

theorem execMainPathSample_final_next {s : State} (hd2 : s.dom.d2 = true) (hstage : s.hold.stage = .finalCommit)
    (hroom : s.met.samples.length < 320) (hrows : 2 ≤ s.sie.rows.length) (hlast : sampleNow s = s.hold.tdSample)
    (hfree : s.led.writing = none) : ∃ t, execMainPathSample s = .next t ∧ t.hold.stage = .signedReading := by
  have hacc : accumulates s = true := by simp [accumulates, hd2, hstage, hlast]
  obtain ⟨row, next, halted, u, hnext, hmet, hhold, hled, -⟩ := execMainPathSample_taken hacc hroom hrows
  have hnow : sampleNow u = s.hold.tdSample := by rw [sampleNow, hmet, ← hlast, sampleNow]
  refine ⟨_, hnext, finalIfReached_stage_of_reached ?_ ?_ ?_⟩
  · rw [takeSample_hold, hhold, hstage]
  · rw [takeSample_hold, takeSample_sampleNow, hhold, hnow]
    exact Nat.lt_succ_self _
  · rw [takeSample_led, hled, hfree]

/-! Halting and restarting Sieve (R83, R92). -/

theorem execSieveStop_next {s : State} {e : Nat} (hhalt : s.sie.haltAt = some e) (hended : e ≤ s.met.epoch) :
    ∃ t, execSieveStop s = .next t ∧ t.sie.halted = true ∧ t.sie.haltFirst = e ∧ t.sie.haltAt = none ∧
      t.sie.rows = [] ∧ t.cal.cfP.edges = [] ∧ t.cal.cfQ.edges = [] := by
  unfold execSieveStop
  rw [hhalt]
  refine exists_next_of_whenever (decide_eq_true hended) fun t ht => ?_
  rw [ht]
  exact ⟨rfl, rfl, rfl, rfl, rfl, rfl⟩

/-- A set that comes into force changes in Sieve the set alone (R94). -/
theorem useSet_sie (c : SieveSet) (rom : Bool) (s : State) :
    (useSet c rom s).sie = { s.sie with inForce := some c, romFallback := rom } := rfl

theorem useSet_led (c : SieveSet) (rom : Bool) (s : State) : (useSet c rom s).led = s.led :=
  kept_led (by simp (disch := decide))

theorem execSieveRestart_next {s : State} {e : Nat} (hresume : s.sie.resumeAt = some e) (hhalted : s.sie.halted = true)
    (hdue : e ≤ s.clk.epoch) : ∃ t, execSieveRestart s = .next t ∧ t.sie.halted = false ∧ t.sie.resumeAt = none ∧
      t.sie.haltEnd = e ∧ Waits 0x0209 s t := by
  unfold execSieveRestart
  rw [hresume]
  refine exists_next_of_whenever (by simp [hhalted, hdue]) fun t ht => ?_
  extract_lets first cleared running loaded at ht
  have hloaded : loaded = running ∨ ∃ c, loaded = useSet c false running := by
    simp only [loaded]
    split
    · split
      · exact .inr ⟨_, rfl⟩
      · exact .inl rfl
    · exact .inl rfl
  have hled : loaded.led = running.led := by
    obtain hsame | ⟨c, hset⟩ := hloaded
    · rw [hsame]
    · rw [hset, useSet_led]
  have hsie : loaded.sie.halted = running.sie.halted ∧ loaded.sie.resumeAt = running.sie.resumeAt ∧
      loaded.sie.haltEnd = running.sie.haltEnd := by
    obtain hsame | ⟨c, hset⟩ := hloaded
    · rw [hsame]
      exact ⟨rfl, rfl, rfl⟩
    · rw [hset, useSet_sie]
      exact ⟨rfl, rfl, rfl⟩
  obtain ⟨hruns, hresumed, hend⟩ := hsie
  rw [ht]
  exact ⟨hruns, hresumed, hend, waits_of_raiseF (u := loaded) rfl hled⟩

theorem execSieveSaturationClose_next {s : State} {k : Nat} {o : Nat × Nat × Nat}
    (hopen : s.sie.satOpen.find? (·.1 == k) = some o) (hquiet : o.2.2 + 100 < s.met.epoch) :
    ∃ t, execSieveSaturationClose k s = .next t ∧ t.sie.satOpen = s.sie.satOpen.filter (·.1 != k) ∧ Waits 0x0207 s t := by
  unfold execSieveSaturationClose
  rw [hopen]
  refine exists_next_of_whenever (decide_eq_true hquiet) fun t ht => ?_
  rw [ht]
  exact ⟨rfl, waits_of_raiseF rfl rfl⟩

/-- Settles O8: each sample and each halt, restart and closing of Sieve answers its next state. That a halt empties the edges of the
pulse outputs is the model's choice (log entry 28). -/
theorem sampleCommandsComplete : Obligations.SampleCommandsComplete := by
  unfold Obligations.SampleCommandsComplete
  refine ⟨?_, ?_, ?_, ?_, ?_, ?_⟩
  · exact fun _ bits => execSample400k_next bits
  · exact fun _ => execMainPathSample_next
  · exact fun _ => execMainPathSample_final_next
  · exact fun _ _ => execSieveStop_next
  · exact fun _ _ => execSieveRestart_next
  · exact fun _ _ _ => execSieveSaturationClose_next

end Sys2Proof.MeasurementInputs

/-! Energy computation (05, and the pulse outputs of 06): which next state each read of energy and measurements, each change of
a supervised condition and each edge of a pulse output answers. -/

namespace Sys2Proof.EnergyComputation

open Sys2Proof Sys2Proof.Machine Sys2Proof.Safety Sys2Proof.Laws Sys2Proof.ModesPower Sys2Proof.MeasurementInputs

/-! Reads of the published snapshot and of the stored sums (R125, R127, R128). -/

theorem execMetEnergyRead_next {s : State} {r : Req} (htaken : Taken 0x0200 r s) :
    execMetEnergyRead r s = .next (reply r 0x0200 stOk (le 8 (throughOf s 3) ++ le 1 s.snap.totalRule ++
      le 1 s.snap.phases ++ zeros 2 ++ s.snap.fine.flatMap (fun f => le 8 (cumOf f))) s) :=
  brixo_of_answer htaken rfl

theorem execMetMeasRead_next {s : State} {r : Req} (htaken : Taken 0x0202 r s) :
    ∃ body, execMetMeasRead r s = .next (reply r 0x0202 stOk body s) ∧
      body.take 12 = le 8 (throughOf s 2) ++ le 4 (s.snap.groups.meas.getD noMeas).freq := by
  refine ⟨_, brixo_of_answer htaken rfl, ?_⟩
  simp only [List.append_assoc]
  rw [← List.append_assoc]
  exact List.take_left' (by rw [List.length_append, le_length, le_length])

theorem execMetSumsRead_next {s : State} {r : Req} {e : Nat} {x : SumsRec} (htaken : Taken 0x0203 r s)
    (hheld : s.met.ring.find? (fun x => x.epoch == e && decide (s.met.epoch ≤ e + 512)) = some x) :
    execMetSumsRead r e s = .next (reply r 0x0203 stOk (le 8 x.epoch ++ le 2 (x.xIdx.getD 0xFFFF) ++ leI 1 x.xFrac ++
      le 1 (x.ref.getD 0xFF) ++ le 2 x.validMask ++ zeros 2 ++ x.phase.flatMap (fun p => p.flatMap (leI 8)) ++
      x.neutral.flatMap (leI 8) ++ x.dc.flatMap (leI 8)) s) :=
  brixo_of_answer htaken (by simp only [hheld])

/-! Neutral mismatch and reversed flow (R119, R120). -/

theorem ledEvent_led (e : Event) (s : State) : (ledEvent e s).led = s.led :=
  kept_led (by simp (disch := decide))

/-- An entry that Kiln writes between two states is durable at once under the next INDEX (R188), where the rest of the way
leaves the ledger. -/
theorem stored_of_logNowF {code flags sender : Nat} {data : List Byte} {s t u : State}
    (hafter : t.led = (logNowF code flags sender data u).led) (hbefore : u.led = s.led) : Safety.Stored code s t :=
  ⟨{ mkEvent u code flags sender data with index := u.led.nextEvent },
    by rw [hafter, ← hbefore, logNowF, storeEvent, ledEvent_led], rfl, by rw [← hbefore]⟩

/-- The entry of a change of a supervised condition: the change no longer waits, and whether it ends the condition is in the
entry's flags (R119, R120). -/
def recordChange (code : Nat) (data : List Byte) (c : CondChange) (s : State) : State :=
  logNowF code (b2n (!c.begins)) 0xFF data (dropChange c s)

theorem recordChange_met (code : Nat) (data : List Byte) (c : CondChange) (s : State) :
    (recordChange code data c s).met = { s.met with changes := s.met.changes.erase c } :=
  (kept_met (by simp (disch := decide) [recordChange]) : _ = (dropChange c s).met)

/-- What stands of a recorded change in every state that keeps the metering and the ledger of its record: the change is gone
from those that wait, the conditions themselves stand, and the entry is durable. -/
theorem recordChange_kept {code : Nat} {data : List Byte} {c : CondChange} {s t : State}
    (hmet : t.met = (recordChange code data c s).met) (hled : t.led = (recordChange code data c s).led) :
    t.met.changes = s.met.changes.erase c ∧ t.met.neutral = s.met.neutral ∧ t.met.reverse = s.met.reverse ∧
      Safety.Stored code s t := by
  rw [recordChange_met] at hmet
  rw [hmet]
  exact ⟨rfl, rfl, rfl, stored_of_logNowF (u := dropChange c s) hled rfl⟩

/-- The tamper response to a change of the neutral mismatch (R119). -/
def neutralResponse (begins : Bool) (s : State) : State :=
  if begins then tamperBegin 1 s else tamperEnd 1 s

theorem neutralResponse_met (begins : Bool) (s : State) : (neutralResponse begins s).met = s.met :=
  kept_met (by simp (disch := decide) [neutralResponse])

theorem neutralResponse_led (begins : Bool) (s : State) : (neutralResponse begins s).led = s.led :=
  kept_led (by simp (disch := decide) [neutralResponse])

theorem neutralResponse_active (begins : Bool) (s : State) :
    bitN (neutralResponse begins s).sag.tamperActive 1 = begins := by
  cases begins with
  | true => exact tamperBegin_active 1 s
  | false => exact tamperEnd_inactive 1 s

theorem execNeutralMismatch_next {s : State} {c : CondChange} (hchange : changeOf s 0 = some c) (hd3 : s.dom.d3 = true) :
    ∃ t, execNeutralMismatch s = .next t ∧ t.met.changes = s.met.changes.erase c ∧ t.met.neutral = s.met.neutral ∧
      Safety.Stored 0x020B s t ∧ bitN t.sag.tamperActive 1 = c.begins := by
  unfold execNeutralMismatch
  rw [hchange]
  refine exists_next_of_whenever hd3 fun t ht => ?_
  have hresponse : t = neutralResponse c.begins (recordChange 0x020B (le 4 c.value.toNat) c s) := ht
  rw [hresponse]
  obtain ⟨hchanges, hneutral, -, hstored⟩ :=
    recordChange_kept (neutralResponse_met c.begins _) (neutralResponse_led c.begins _)
  exact ⟨hchanges, hneutral, hstored, neutralResponse_active c.begins _⟩

/-- The tamper response to a change of a phase's flow: the source begins with the first phase that has the condition, and ends
when no phase has it (R120). -/
def reverseResponse (begins : Bool) (s : State) : State :=
  if begins then (if reverseLogged s then s else tamperBegin 2 s)
  else if reverseLogged s && s.met.reverse = 0 then tamperEnd 2 s else s

theorem reverseResponse_met (begins : Bool) (s : State) : (reverseResponse begins s).met = s.met :=
  kept_met (by simp (disch := decide) [reverseResponse])

theorem reverseResponse_led (begins : Bool) (s : State) : (reverseResponse begins s).led = s.led :=
  kept_led (by simp (disch := decide) [reverseResponse])

theorem reverseResponse_active (s : State) : bitN (reverseResponse true s).sag.tamperActive 2 = true := by
  rw [reverseResponse, if_pos rfl]
  split
  case isTrue hlogged => exact hlogged
  case isFalse => exact tamperBegin_active 2 s

theorem reverseResponse_inactive {s : State} (hnone : s.met.reverse = 0) :
    bitN (reverseResponse false s).sag.tamperActive 2 = false := by
  rw [reverseResponse, if_neg Bool.false_ne_true]
  split
  case isTrue => exact tamperEnd_inactive 2 s
  case isFalse hkept => simpa [hnone, reverseLogged] using hkept

theorem execReverseFlow_next {s : State} {x : Nat} {c : CondChange} (hchange : changeOf s (x + 1) = some c)
    (hd3 : s.dom.d3 = true) : ∃ t, execReverseFlow x s = .next t ∧ t.met.changes = s.met.changes.erase c ∧
      t.met.reverse = s.met.reverse ∧ Safety.Stored 0x020C s t ∧ (c.begins = true → bitN t.sag.tamperActive 2 = true) ∧
      (c.begins = false → s.met.reverse = 0 → bitN t.sag.tamperActive 2 = false) := by
  unfold execReverseFlow
  rw [hchange]
  refine exists_next_of_whenever hd3 fun t ht => ?_
  have hresponse : t = reverseResponse c.begins (recordChange 0x020C (le 1 x ++ zeros 3 ++ leI 4 c.value) c s) := ht
  rw [hresponse]
  obtain ⟨hchanges, -, hreverse, hstored⟩ :=
    recordChange_kept (reverseResponse_met c.begins _) (reverseResponse_led c.begins _)
  refine ⟨hchanges, hreverse, hstored, fun hbegins => ?_, fun hends hnone => ?_⟩
  · rw [hbegins]
    exact reverseResponse_active _
  · rw [hends]
    exact reverseResponse_inactive (by rw [recordChange_met, hnone])

/-! Pulse outputs (R141). -/

@[simp] theorem cfOut_setCf (q : Bool) (o : CfOut) (s : State) : cfOut q (setCf q o s) = o := by
  cases q <;> rfl

@[simp] theorem setCf_clk (q : Bool) (o : CfOut) (s : State) : (setCf q o s).clk = s.clk := rfl

theorem execCfPulseEdge_next {s : State} {q : Bool} {c : Tick} {rest : List Tick} (hedges : (cfOut q s).edges = c :: rest)
    (hruns : cfRuns s = true) : ∃ t, execCfPulseEdge q s = .next t ∧ (cfOut q t).edges = rest ∧
      (cfOut q t).prev = some c ∧ (cfOut q t).high.isSome = true ∧ t.clk.now = max s.clk.now c := by
  unfold execCfPulseEdge
  dsimp only
  rw [hedges]
  refine exists_next_of_whenever hruns fun t ht => ?_
  rw [ht, cfOut_setCf, setCf_clk]
  exact ⟨rfl, rfl, rfl, rfl⟩

theorem execCfPulseEnd_next {s : State} {q : Bool} {c : Tick} (hhigh : (cfOut q s).high = some c) (hd2 : s.dom.d2 = true) :
    ∃ t, execCfPulseEnd q s = .next t ∧ (cfOut q t).high = none ∧ (cfOut q t).edges = (cfOut q s).edges ∧
      t.clk.now = max s.clk.now c := by
  unfold execCfPulseEnd
  dsimp only
  rw [hhigh]
  refine exists_next_of_whenever hd2 fun t ht => ?_
  rw [ht, cfOut_setCf, setCf_clk]
  exact ⟨rfl, rfl, rfl⟩

/-- Settles O9: each read, each change of a supervised condition and each edge of a pulse output answers its reply and its next
state. The instant clk.now is the model's own (log entry 3). -/
theorem energyCommandsComplete : Obligations.EnergyCommandsComplete := by
  unfold Obligations.EnergyCommandsComplete
  refine ⟨?_, ?_, ?_, ?_, ?_, ?_, ?_⟩
  · exact fun _ _ => execMetEnergyRead_next
  · exact fun _ _ => execMetMeasRead_next
  · exact fun _ _ _ _ => execMetSumsRead_next
  · exact fun _ _ => execNeutralMismatch_next
  · exact fun _ _ _ => execReverseFlow_next
  · exact fun _ _ _ _ => execCfPulseEdge_next
  · exact fun _ _ _ => execCfPulseEnd_next

end Sys2Proof.EnergyComputation

/-! Calibration and compensation (06): which next state each measurement span, commit of the calibration record and load of the
temperature table answers, and what the reads of the compensation and of the legally relevant identification answer. -/

namespace Sys2Proof.CalibrationCompensation

open Sys2Proof Sys2Proof.Machine Sys2Proof.Safety Sys2Proof.Laws Sys2Proof.ModesPower Sys2Proof.MeasurementInputs
  Sys2Proof.EnergyComputation

/-! Measurement spans (R147). -/

theorem execMetCalMeasure_next {s : State} {r : Req} {mask n : Nat} (htaken : Taken 0x0280 r s) (hsetup : setupMode s = true)
    (hsome : mask ≠ 0) (hmask : mask < 2 ^ 14) (hn : n ≠ 0) (hlong : n ≤ 6000) (hfree : s.cal.span = none) :
    ∃ t, execMetCalMeasure r mask n s = .next t ∧
      (t.cal.span.map fun x => (x.mask, x.nEpochs, x.first, x.done)) = some (mask, n, s.clk.epoch + 1, 0) := by
  have hgood : ¬ (mask = 0 || 2 ^ 14 ≤ mask || n = 0 || 6000 < n) = true := by
    simp only [Bool.or_eq_true, decide_eq_true_eq]
    omega
  exact ⟨_, brixo_of_later htaken (by rw [hsetup, hfree, if_neg hgood]; rfl), rfl⟩

theorem replyTo_cal (r : Option Req) (code st : Nat) (body : List Byte) (s : State) : (replyTo r code st body s).cal = s.cal :=
  kept_cal (by simp (disch := decide))

theorem execCalMeasureSpanEnd_next {s : State} {sp : CalSpan} (hspan : s.cal.span = some sp) (hd2 : s.dom.d2 = true)
    (hdone : sp.nEpochs ≤ sp.done) : ∃ t, execCalMeasureSpanEnd s = .next t ∧ t.cal.span = none ∧
      t.cal.lastSpanTemp = some (divRound sp.tempSum sp.nEpochs) := by
  unfold execCalMeasureSpanEnd
  rw [hspan]
  refine exists_next_of_whenever (by simp [hd2, hdone]) fun t ht => ?_
  rw [ht, replyTo_cal]
  exact ⟨rfl, rfl⟩

/-! The calibration record and the temperature table (R133, R134, R138). -/

/-- The record that a commit at the temperature of the last span writes: the values in force under the next count (R133). -/
def nextRecord (s : State) (tCal : Int) : CalRecord :=
  recordNow s (satInc 0xFFFFFFFF ((s.cal.inForce.map (·.count)).getD 0)) tCal

/-- A record comes into force in the copy that does not hold the one in force. -/
def putInForce (n : CalRecord) (c : Cal) : Cal :=
  { (if c.inForce.isSome && c.inForce == c.copyA then { c with copyB := some n } else { c with copyA := some n }) with
    inForce := some n }

theorem putInForce_copies (n : CalRecord) (c : Cal) : (putInForce n c).inForce = some n ∧
    ((putInForce n c).copyA = (putInForce n c).inForce ∨ (putInForce n c).copyB = (putInForce n c).inForce) := by
  unfold putInForce
  split
  · exact ⟨rfl, .inr rfl⟩
  · exact ⟨rfl, .inl rfl⟩

/-- A record comes into force, with its entry in the event log. -/
def commitRecord (sender : Nat) (n : CalRecord) (s : State) : State :=
  logNowF 0x0210 0 sender (le 4 n.count ++ le 4 n.crc ++ leI 2 n.tCal) (faultAbsent 8 255 (setCal (putInForce n) s))

theorem commitRecord_cal (sender : Nat) (n : CalRecord) (s : State) : (commitRecord sender n s).cal = putInForce n s.cal :=
  (kept_cal (by simp (disch := decide) [commitRecord]) : _ = (setCal (putInForce n) s).cal)

theorem commitRecord_stored (sender : Nat) (n : CalRecord) (s : State) : Stored 0x0210 s (commitRecord sender n s) :=
  stored_of_logNowF rfl rfl

theorem execMetCalCommit_next {s : State} {r : Req} {at0 : Int} (htaken : Taken 0x0281 r s) (hseal : sealSet s = false)
    (hholdup : inHoldup s = false) (hspan : s.cal.lastSpanTemp = some at0) :
    ∃ t, execMetCalCommit r s = .next (reply r 0x0281 stOk [] t) ∧
      t.cal.inForce = some (nextRecord s at0) ∧
      (t.cal.copyA = t.cal.inForce ∨ t.cal.copyB = t.cal.inForce) ∧ Stored 0x0210 s t := by
  refine ⟨commitRecord r.sender.code (nextRecord s at0) s,
    brixo_of_answer htaken (by rw [hholdup, hseal, hspan]; rfl), ?_⟩
  obtain ⟨hinForce, hcopies⟩ := putInForce_copies (nextRecord s at0) s.cal
  rw [commitRecord_cal]
  exact ⟨hinForce, hcopies, commitRecord_stored _ _ _⟩

theorem execMetTempTableLoad_next {s : State} {r : Req} {data : List Byte} (htaken : Taken 0x0282 r s)
    (hseal : sealSet s = false) (hholdup : inHoldup s = false) (hlength : data.length = 12 + 36 * fieldAt data 2 1)
    (hcrc : crc32c (data.take (8 + 36 * fieldAt data 2 1)) = fieldAt data (8 + 36 * fieldAt data 2 1) 4)
    (hok : tableOk data = true) : ∃ t,
      execMetTempTableLoad r data s = .next (reply r 0x0282 stOk (le 4 (parseTable data).crc) t) ∧
      t.cal.table = some (parseTable data) ∧ t.cal.atOnce = true :=
  ⟨setCal (fun c => { c with table := some (parseTable data), atOnce := true }) s,
    brixo_of_answer htaken (by simp [hholdup, hseal, hlength, hcrc, hok]), rfl, rfl⟩

/-! Reads (R143, R148). -/

theorem execMetTempStatus_next {s : State} {r : Req} {v : Cal} (htaken : Taken 0x0283 r s) (hv : v = (asOf s).cal) :
    ∃ t, execMetTempStatus r s = .next (reply r 0x0283 stOk (leI 2 s.snap.temp ++
      le 1 (packBits [paramE s 0x02A3 (shownEpoch s) == 1, v.clamped, calDirty s, s.cal.overrate]) ++ zeros 1 ++
      v.dg.flatMap (leI 2) ++ v.dt.flatMap (leI 2) ++ le 2 ((v.table.map (·.version)).getD 0)) t) ∧
      t.cal.overrate = false := by
  rw [hv]
  exact ⟨_, brixo_of_answer htaken rfl, rfl⟩

theorem execMetLrId_next {s : State} {r : Req} (htaken : Taken 0x0284 r s) :
    execMetLrId r s = .next (reply r 0x0284 stOk (le 1 (lrVersionOf s).1 ++ le 1 (lrVersionOf s).2.1 ++
      le 1 (lrVersionOf s).2.2 ++ le 1 (b2n (sealSet s)) ++ padTo 32 s.cal.lrHash ++ le 4 (calCount s) ++
      le 4 ((s.cal.inForce.map CalRecord.crc).getD 0) ++ le 4 s.cal.sealRefused) s) :=
  brixo_of_answer htaken rfl

/-- Settles O10: each measurement span, commit, table load and read of the calibration answers its reply and its next state. That
CAL_CIVIL of a committed record is the civil second at the end of the commit's epoch is the model's choice (log entry 74). -/
theorem calibrationCommandsComplete : Obligations.CalibrationCommandsComplete := by
  unfold Obligations.CalibrationCommandsComplete
  refine ⟨?_, ?_, ?_, ?_, ?_, ?_⟩
  · exact fun _ _ _ _ => execMetCalMeasure_next
  · exact fun _ _ => execCalMeasureSpanEnd_next
  · exact fun _ _ _ => execMetCalCommit_next
  · exact fun _ _ _ => execMetTempTableLoad_next
  · exact fun _ _ _ => execMetTempStatus_next
  · exact fun _ _ => execMetLrId_next

end Sys2Proof.CalibrationCompensation

/-! Power quality (07): which next state each half-period segment and the arming of the event machines answer, and what the reads
of the held windows, the supraharmonic blocks and the event ring answer. -/

namespace Sys2Proof.PowerQuality

open Sys2Proof Sys2Proof.Machine Sys2Proof.Safety Sys2Proof.Laws Sys2Proof.ModesPower

/-! Half-period segments and arming (R157, R158). -/

/-- A segment with none before it has no neighbour to form Urms½ with: it only becomes the previous one (R157). -/
theorem execUrmsHalfSegmentEnd_of_first {s : State} {b : PqSeg} {rest : List PqSeg} (hdone : s.pq.segDone = b :: rest)
    (hd2 : s.dom.d2 = true) (hfirst : s.pq.prevSeg = none) :
    execUrmsHalfSegmentEnd s = .next (setPq (fun q => { q with segDone := rest, prevSeg := some b }) s) := by
  simp only [execUrmsHalfSegmentEnd, hdone, whenever, hd2, hfirst, if_true]

/-- While the event machines are not armed, a segment with one before it refreshes Urms½ alone (R157, R158). -/
theorem execUrmsHalfSegmentEnd_of_unarmed {s : State} {a b : PqSeg} {rest : List PqSeg} (hdone : s.pq.segDone = b :: rest)
    (hd2 : s.dom.d2 = true) (hprev : s.pq.prevSeg = some a) (hunarmed : s.pq.armed = false) :
    ∃ t, execUrmsHalfSegmentEnd s = .next t ∧ t.pq.segDone = rest ∧ t.pq.prevSeg = some b ∧
      t.pq.events = s.pq.events ∧ t.pq.wait = s.pq.wait ∧ t.shu.urmsHalf.length = s.shu.urmsHalf.length := by
  unfold execUrmsHalfSegmentEnd
  rw [hdone]
  refine exists_next_of_whenever hd2 fun t ht => ?_
  have hpq : t.pq = { s.pq with segDone := rest, prevSeg := some b } := by
    simp [ht, hprev, hunarmed]
  have hlength : t.shu.urmsHalf.length = s.shu.urmsHalf.length := by
    simp [ht, hprev, hunarmed]
  rw [hpq]
  exact ⟨rfl, rfl, rfl, rfl, hlength⟩

theorem execPqArm_next {s : State} {at0 : Tick} (hclosed : s.pq.closedSince = some at0) (hd2 : s.dom.d2 = true)
    (hunarmed : s.pq.armed = false) (hkfb1 : s.shu.kfb1 = true) (hkfb2 : s.shu.kfb2 = true) :
    ∃ t, execPqArm s = .next t ∧ t.pq.armed = true ∧ t.clk.now = max s.clk.now (at0 + Tick.ms (param s 0x02C6)) ∧
      t.pq.closedSince = s.pq.closedSince := by
  unfold execPqArm
  rw [hclosed]
  refine exists_next_of_whenever (by rw [hd2, hunarmed, hkfb1, hkfb2]; rfl) fun t ht => ?_
  rw [ht]
  exact ⟨rfl, rfl, hclosed⟩

/-! Reads of the held windows, the supraharmonic blocks and the event ring (R167–R170). -/

/-- SH_NEXT of a summary, a free value where no slot is in the rotation, and the state that the draw leaves (R168). -/
def nextSlotField (s : State) : Nat × State :=
  match nextShSlot s s.pq.shSlot with
  | some k => (k, s)
  | none => (Config.freeNat (takeFree s).1 % 256, (takeFree s).2)

theorem nextSlotField_pq (s : State) : (nextSlotField s).2.pq = s.pq := by
  unfold nextSlotField
  split <;> rfl

theorem execMetPqSummary_next {s : State} {r : Req} {last : Nat} {w : PqWindow} (htaken : Taken 0x02C0 r s)
    (hheld : namedWindow s last = some w) :
    ∃ t body, execMetPqSummary r last s = .next (reply r 0x02C0 stOk body t) ∧ t.pq = s.pq ∧
      body.take 24 = le 8 w.due.firstEpoch ++ le 8 w.due.lastEpoch ++ le 4 (posField w.due.startPos) ++
        le 4 (posField w.due.endPos) := by
  refine ⟨(nextSlotField s).2, _, brixo_of_answer htaken (by simp only [hheld]; rfl), nextSlotField_pq s, ?_⟩
  -- The four named fields are the layout's first 24 bytes, so the rest of the reply falls outside.
  simp [List.take_append, List.take_of_length_le]

theorem execMetPqHarmRead_next {s : State} {r : Req} {last channel : Nat} {w : PqWindow} {c : PqChan}
    (htaken : Taken 0x02C1 r s) (hchannel : channel < 8) (hheld : namedWindow s last = some w)
    (hc : w.chans[channel]? = some c) :
    execMetPqHarmRead r last channel s = .next (reply r 0x02C1 stOk (le 8 w.due.firstEpoch ++ le 8 w.due.lastEpoch ++
      le 1 channel ++ le 1 w.due.nw ++ le 2 w.flags ++ padTo 512 (c.mag.flatMap (le 4)) ++
      padTo 256 (c.ph.flatMap (leI 2)) ++ padTo 512 (c.ih.flatMap (le 4))) s) :=
  brixo_of_answer htaken (by simp only [if_neg (Nat.not_le.mpr hchannel), hheld, hc, Option.getD_some])

theorem execMetPqShRead_next {s : State} {r : Req} {last channel : Nat} {b : PqSh} (htaken : Taken 0x02C2 r s)
    (hchannel : channel < 8) (hpublished : shPublished s channel = some b) (hnamed : last = 0 ∨ last = b.lastEpoch) :
    execMetPqShRead r last channel s = .next (reply r 0x02C2 stOk (le 8 b.firstEpoch ++ le 8 b.lastEpoch ++
      le 1 channel ++ le 1 b.shift ++ le 2 b.flags ++ padTo 2960 (b.b200.flatMap (le 4)) ++
      padTo 296 (b.b2k.flatMap (le 4))) s) := by
  have hname : ¬ (last != 0 && last != b.lastEpoch) = true := by
    obtain rfl | rfl := hnamed
    · simp only [bne_self_eq_false, Bool.false_and, Bool.false_eq_true, not_false_eq_true]
    · simp only [bne_self_eq_false, Bool.and_false, Bool.false_eq_true, not_false_eq_true]
  exact brixo_of_answer htaken (by simp only [if_neg (Nat.not_le.mpr hchannel), hpublished, if_neg hname])

theorem execMetPqEventRead_next {s : State} {r : Req} {first count : Nat} (htaken : Taken 0x02C3 r s) (hsome : count ≠ 0)
    (hfew : count ≤ 64) :
    execMetPqEventRead r first count s = .next (reply r 0x02C3 stOk
      (ringBody first count (s.pq.events.map fun e => (e.index, e.bytes))) s) := by
  have hcount : ¬ (count = 0 || 64 < count) = true := by
    simp only [Bool.or_eq_true, decide_eq_true_eq]
    omega
  exact brixo_of_answer htaken (if_neg hcount)

/-- Settles O11: each half-period segment, the arming and each read of power quality answers its reply and its next state. The
instant clk.now is the model's own (log entry 3). -/
theorem qualityCommandsComplete : Obligations.QualityCommandsComplete := by
  unfold Obligations.QualityCommandsComplete
  refine ⟨?_, ?_, ?_, ?_, ?_, ?_, ?_⟩
  · exact fun _ _ _ => execUrmsHalfSegmentEnd_of_first
  · exact fun _ _ _ _ => execUrmsHalfSegmentEnd_of_unarmed
  · exact fun _ _ => execPqArm_next
  · exact fun _ _ _ _ => execMetPqSummary_next
  · exact fun _ _ _ _ _ _ => execMetPqHarmRead_next
  · exact fun _ _ _ _ _ => execMetPqShRead_next
  · exact fun _ _ _ _ => execMetPqEventRead_next

end Sys2Proof.PowerQuality

/-! Ledger consistency (08): which next state each read-and-reset, waveform capture, reading and signature of the ledger answers,
and what the reads of the snapshot, the stored series and the ledger's status answer. -/

namespace Sys2Proof.LedgerConsistency

open Sys2Proof Sys2Proof.Machine Sys2Proof.Safety Sys2Proof.Laws Sys2Proof.ModesPower Sys2Proof.MeasurementInputs

/-! The layout of a snapshot read (R18, R173, R198). -/

@[simp] theorem header_length (s : State) (st : Nat) : (header s st).length = 12 := by
  simp [header, zeros]

theorem withCrc_length (l : List Byte) : (withCrc l).length = l.length + 4 := by
  rw [withCrc, List.length_append, le_length]

theorem snapHeader_length {p : Snapshot} (hthrough : p.through.length = 8) : (snapHeader p).length = 96 := by
  have hvalues : (p.through.flatMap (le 8)).length = 8 * 8 := hthrough ▸ length_flatMap_le 8 id p.through
  simp only [snapHeader, withCrc_length, List.length_append, le_length, leI_length, hvalues]

@[simp] theorem packedState_bytes_length (p : PackedState) : p.bytes.length = 16 := by
  simp only [PackedState.bytes, List.length_append, le_length]

/-- The bytes of the 12 group 0 registers, in the order of the journal (R198). -/
def group0Bytes (p : Snapshot) : List Byte := hwRegs.flatMap fun n => le 8 (cumOf ((p.fine[n]?).getD 0))

@[simp] theorem group0Bytes_length (p : Snapshot) : (group0Bytes p).length = 96 := length_flatMap_le 8 _ hwRegs

theorem execLedSnapshotRead_next {s : State} {r : Req} (htaken : Taken 0x0300 r s) :
    execLedSnapshotRead r s =
      .next (reply r 0x0300 stOk (snapHeader s.snap ++ s.snap.state.bytes ++ group0Bytes s.snap) s) :=
  brixo_of_answer htaken rfl

/-- Settles O57: the three parts of the reply lie one after the other behind its header, each of a fixed length; the snapshot
header's length is that of the 8 values of THROUGH. -/
theorem snapshotReadLayout : Obligations.SnapshotReadLayout := by
  unfold Obligations.SnapshotReadLayout
  intro s r htaken hshape
  obtain ⟨-, -, -, hthrough⟩ := hshape
  have hhead : (header s stOk).length = 12 := header_length s stOk
  have hsnap : (snapHeader s.snap).length = 96 := snapHeader_length hthrough
  have hstate : s.snap.state.bytes.length = 16 := packedState_bytes_length _
  refine ⟨_, execLedSnapshotRead_next htaken, hhead, ?_, ?_, ?_, ?_⟩
  · simp only [List.length_append, hhead, hsnap, hstate, group0Bytes_length]
  · rw [List.drop_left' hhead, List.append_assoc, List.take_left' hsnap]
  · rw [← List.append_assoc, ← List.append_assoc, List.append_assoc,
      List.drop_left' (by rw [List.length_append, hhead, hsnap]), List.take_left' hstate]
  · rw [← List.append_assoc, List.drop_left' (by simp only [List.length_append, hhead, hsnap, hstate])]
    rfl

/-! Deltas and the durable read-and-reset (R181, R182). -/

theorem replyTo_led (r : Option Req) (code st : Nat) (body : List Byte) (s : State) : (replyTo r code st body s).led = s.led :=
  kept_led (by simp (disch := decide))

/-- A reset of some delta that is not 0 takes its number and counts in its epoch; the requests that wait stay (R181, R182). -/
theorem writeReset_led {r : Req} {mask : Nat} {d : List Nat} {s : State} (hsome : d.all (· == 0) = false) :
    (writeReset r mask d s).led.nextRst = satInc max64 s.led.nextRst ∧
      (writeReset r mask d s).led.rstInEpoch = s.led.rstInEpoch + 1 ∧
      (writeReset r mask d s).led.delayed = s.led.delayed := by
  simp only [writeReset, hsome, Bool.false_eq_true, if_false, setMet_led, setLed_led, and_self]

/-- The check of MET_DELTA_READ on its operands passes a mask of the 36 registers (R126). -/
theorem deltaMask_ok {mask reset : Nat} (hsome : mask ≠ 0) (hmask : mask < 2 ^ 36) (hreset : reset ≤ 1) :
    ¬ (mask = 0 || 2 ^ 36 ≤ mask || 1 < reset) = true := by
  simp only [Bool.or_eq_true, decide_eq_true_eq]
  omega

theorem execMetDeltaRead_read_next {s : State} {r : Req} {mask : Nat} (htaken : Taken 0x0201 r s) (hsome : mask ≠ 0)
    (hmask : mask < 2 ^ 36) :
    execMetDeltaRead r mask 0 s = .next (reply r 0x0201 stOk (deltaBody s mask (deltas s mask)) s) :=
  brixo_of_answer htaken (by rw [if_neg (deltaMask_ok hsome hmask (by decide))]; rfl)

section ReadAndReset

variable {s : State} {r : Req} {mask : Nat} (htaken : Taken 0x0201 r s) (hadmitted : admits s .network r.sender = true)
  (hsome : mask ≠ 0) (hmask : mask < 2 ^ 36) (hactive : isStandby s = false) (hmode : s.mode.mode ≠ .recovery)
include htaken hadmitted hsome hmask hactive hmode

theorem execMetDeltaRead_reset_next (hfew : s.led.rstInEpoch < 8) (hnone : s.led.delayed = [])
    (hdelta : (deltas s mask).all (· == 0) = false) :
    ∃ t, execMetDeltaRead r mask 1 s = .next (reply r 0x0201 stOk (deltaBody s mask (deltas s mask)) t) ∧
      t.led.nextRst = satInc max64 s.led.nextRst ∧ t.led.rstInEpoch = s.led.rstInEpoch + 1 := by
  obtain ⟨hnext, hcount, -⟩ := writeReset_led (r := r) (mask := mask) (s := s) hdelta
  refine ⟨writeReset r mask (deltas s mask) s, brixo_of_answer htaken ?_, hnext, hcount⟩
  rw [if_neg (deltaMask_ok hsome hmask (Nat.le_refl 1))]
  simp [hadmitted, hactive, hmode, hnone, Nat.not_le.mpr hfew]

/-- A ninth reset in an epoch, or one behind others that wait, waits in order of arrival (R182). -/
theorem execMetDeltaRead_wait_next (hwait : 8 ≤ s.led.rstInEpoch ∨ s.led.delayed ≠ []) :
    execMetDeltaRead r mask 1 s = .next (setLed (fun l => { l with delayed := l.delayed ++ [⟨r, mask⟩] }) s) := by
  refine brixo_of_later htaken ?_
  rw [if_neg (deltaMask_ok hsome hmask (Nat.le_refl 1))]
  simp [hadmitted, hactive, hmode, hwait]

end ReadAndReset

theorem execDelayedReadAndReset_next {s : State} {q : DelayedReset} {rest : List DelayedReset} (hwait : s.led.delayed = q :: rest)
    (hfew : s.led.rstInEpoch < 8) (hdelta : (deltas s q.mask).all (· == 0) = false) :
    ∃ t, execDelayedReadAndReset s = .next t ∧ t.led.delayed = rest ∧ t.led.nextRst = satInc max64 s.led.nextRst ∧
      t.led.rstInEpoch = s.led.rstInEpoch + 1 := by
  unfold execDelayedReadAndReset
  rw [hwait]
  refine exists_next_of_whenever (decide_eq_true hfew) fun t ht => ?_
  obtain ⟨hnext, hcount, hrest⟩ := writeReset_led (r := q.req) (mask := q.mask)
    (s := setLed (fun l => { l with delayed := rest }) s) hdelta
  rw [ht, replyTo_led]
  exact ⟨hrest, hnext, hcount⟩

/-! Stored series and the ledger's status (R193, R199, R200). -/

/-- The records of a series that one reply holds: from a starting index on, as many as were asked for and as fit (R199). -/
def recsFrom (q : Series) (start n : Nat) : List (Nat × Nat × List Byte) :=
  (q.recs.filter fun x => decide (start ≤ x.1)).take (min n (4048 / Nat.max 1 q.size))

theorem execLedSeriesRead_next {s : State} {r : Req} {series start n : Nat} {q : Series} {a b : Nat × Nat × List Byte}
    (htaken : Taken 0x0301 r s) (hsome : series ≠ 0) (hseries : series < 6) (hq : seriesOf s series = some q)
    (ha : (recsFrom q start n).head? = some a) (hb : (recsFrom q start n).getLast? = some b) :
    execLedSeriesRead r series start n s = .next (reply r 0x0301 stOk (le 1 series ++ zeros 1 ++ le 2 q.size ++
      le 2 (recsFrom q start n).length ++ zeros 2 ++ le 4 a.1 ++ le 4 (a.1 + (recsFrom q start n).length) ++ le 4 q.head ++
      le 8 a.2.1 ++ le 8 b.2.1 ++ (recsFrom q start n).flatMap (·.2.2)) s) := by
  have hnamed : ¬ (series = 0 || 7 < series) = true := by
    simp only [Bool.or_eq_true, decide_eq_true_eq]
    omega
  have hopen : decide (6 ≤ series) = false := decide_eq_false (Nat.not_le.mpr hseries)
  refine brixo_of_answer htaken ?_
  unfold recsFrom at ha hb ⊢
  rw [if_neg hnamed, hopen, hq]
  simp only [ha, hb, Bool.false_and, Bool.false_eq_true, if_false, Option.map_some, Option.getD_some]

theorem execLedStatus_next {s : State} {r : Req} (htaken : Taken 0x0304 r s) :
    execLedStatus r s = .next (reply r 0x0304 stOk (le 8 (((newestCkpt s).map (·.epoch)).getD 0)
      ++ le 8 (((s.led.journal.find? (·.valid)).map (·.epoch)).getD 0) ++ le 8 s.led.lastClose ++
      le 1 (b2n s.led.closeClean) ++ le 1 (min 255 (unsigned s).length) ++ zeros 2 ++ le 4 s.led.nextReading ++
      le 4 s.led.nextEvent ++ le 8 s.led.nextRst ++ le 4 (s.snap.epoch / 100) ++ le 4 s.mode.powerCycles ++
      le 4 s.led.retries) s) :=
  brixo_of_answer htaken rfl

/-! Waveform capture (R194). -/

theorem execLedWaveCapture_next {s : State} {r : Req} {mask n : Nat} (htaken : Taken 0x0302 r s) (hsome : mask ≠ 0)
    (hmask : mask < 1024) (hn : n ≠ 0) (hlong : n ≤ 40) : execLedWaveCapture r mask n s =
      .next (setLed (fun l => { l with captureWait := l.captureWait ++ [(some r, mask, n)] }) s) := by
  have hgood : ¬ (mask % 1024 = 0 || 1024 ≤ mask || n = 0 || 40 < n) = true := by
    simp only [Bool.or_eq_true, decide_eq_true_eq]
    omega
  exact brixo_of_later htaken (if_neg hgood)

theorem execWaveCaptureCopy_next {s : State} {q : Option Req × Nat × Nat} {rest : List (Option Req × Nat × Nat)}
    (hwait : s.led.captureWait = q :: rest) (hd3 : s.dom.d3 = true) (hfree : semOwner s 0 = none) :
    ∃ t, execWaveCaptureCopy s = .next t ∧ t.led.captureWait = rest ∧
      (t.led.capture.map fun x => (x.mask, x.rows)) =
        some (q.2.1, (keepLast q.2.2 s.led.waveRing).flatMap fun e => e.2.map (captureRow q.2.1)) := by
  unfold execWaveCaptureCopy
  rw [hwait]
  refine exists_next_of_whenever (by rw [hd3, hfree]; rfl) fun t ht => ?_
  rw [ht, replyTo_led]
  exact ⟨rfl, rfl⟩

/-! Readings and their signatures (R190, R197). -/

theorem pushRing_getLast? {α : Type} {n : Nat} (hpos : 0 < n) (l : List α) (a : α) : (pushRing n l a).getLast? = some a := by
  have hkept : ¬ (l ++ [a]).length ≤ (l ++ [a]).length - n := by
    rw [List.length_append, List.length_singleton]
    omega
  rw [pushRing, keepLast, List.getLast?_drop, if_neg hkept, List.getLast?_concat]

/-- A reading takes the next number and stands last in the store, of the kind asked for; the mark of the last periodic reading
stays (R190). -/
theorem formReading_led (kind : Nat) (digest : List Byte) (dest : Option Req) (stmt : Option Nat) (v : EpochVals) (s : State) :
    (formReading kind digest dest stmt v s).led.nextReading = satInc 0xFFFFFFFF s.led.nextReading ∧
      ((formReading kind digest dest stmt v s).led.readings.getLast?).map (·.kind) = some kind ∧
      (formReading kind digest dest stmt v s).led.lastPeriodic = s.led.lastPeriodic := by
  simp only [formReading, setLed_led, pushRing_getLast? (Nat.succ_pos 255), Option.map_some, and_self]

theorem execLedSignReading_next {s : State} {r : Req} {challenge : List Byte} (htaken : Taken 0x0303 r s)
    (hholdup : inHoldup s = false) (hmode : s.mode.mode ≠ .recovery) (hactive : isStandby s = false) (hkey : canSign s = true)
    (hroom : (unsigned s).length < 64) :
    execLedSignReading r challenge s = .next (snapReading 1 (padTo 32 challenge) (some r) none s) :=
  brixo_of_later htaken (by simp [hholdup, hmode, hactive, hkey, Nat.not_le.mpr hroom])

section Signature

variable {s : State} {p : Reading} (hd3 : s.dom.d3 = true) (hkey : canSign s = true)
include hd3 hkey

theorem execSignatureComplete_next {rest : List Reading} (hwait : unsigned s = p :: rest) (hholdup : inHoldup s = false) :
    execSignatureComplete s = .next (completeReading p s) := by
  simp [execSignatureComplete, whenever, hwait, hholdup, hd3, hkey]

/-- In HOLDUP only the final reading, of KIND 3, is signed (R190). -/
theorem execSignatureComplete_holdup_next (hholdup : inHoldup s = true)
    (hfinal : (unsigned s).find? (·.kind == 3) = some p) : execSignatureComplete s = .next (completeReading p s) := by
  simp [execSignatureComplete, whenever, hfinal, hholdup, hd3, hkey]

end Signature

theorem execPeriodicReadingDue_next {s : State} (hd3 : s.dom.d3 = true) (hperiod : param s 0x0302 ≠ 0)
    (hpublished : s.snap.published = true) (htime : bitN s.snap.flags 7 = false) (hactive : isStandby s = false)
    (hmode : s.mode.mode ≠ .recovery) (hfirst : s.led.lastPeriodic = none) : ∃ t, execPeriodicReadingDue s = .next t ∧
      t.led.nextReading = satInc 0xFFFFFFFF s.led.nextReading ∧ (t.led.readings.getLast?).map (·.kind) = some 2 ∧
      t.led.lastPeriodic = some (s.snap.civilS / (60 * (param s 0x0302 : Int)) * (param s 0x0302 : Int)) := by
  unfold execPeriodicReadingDue
  refine exists_next_of_whenever (by simp [hd3, hperiod, hpublished, htime, hactive, hmode, hfirst]) fun t ht => ?_
  rw [ht]
  exact formReading_led _ _ _ _ _ _

/-- Settles O12: each command of the ledger answers its reply and its next state. HEAD_INDEX of the readings series is the model's
choice (log entry 55). -/
theorem ledgerCommandsComplete : Obligations.LedgerCommandsComplete := by
  unfold Obligations.LedgerCommandsComplete
  refine ⟨?_, ?_, ?_, ?_, ?_, ?_, ?_, ?_, ?_, ?_, ?_, ?_, ?_⟩
  · exact fun _ _ _ => execMetDeltaRead_read_next
  · exact fun _ _ _ => execMetDeltaRead_reset_next
  · exact fun _ _ _ => execMetDeltaRead_wait_next
  · exact fun _ _ _ => execDelayedReadAndReset_next
  · exact fun _ _ => execLedSnapshotRead_next
  · exact fun _ _ _ _ _ _ _ _ => execLedSeriesRead_next
  · exact fun _ _ _ _ => execLedWaveCapture_next
  · exact fun _ _ _ => execWaveCaptureCopy_next
  · exact fun _ _ _ => execLedSignReading_next
  · exact fun _ _ _ hwait hholdup hd3 hkey => execSignatureComplete_next hd3 hkey hwait hholdup
  · exact fun _ _ hholdup hfinal hd3 hkey => execSignatureComplete_holdup_next hd3 hkey hholdup hfinal
  · exact fun _ => execPeriodicReadingDue_next
  · exact fun _ _ => execLedStatus_next

end Sys2Proof.LedgerConsistency

/-! Billing, tariffs and prepayment (09): which next state each setting of civil time, each table, each close of a period and each
command of credit answers, and what the reads answer. What an operation leaves in the billing block that it does not touch comes
from its frame (Laws.Frame, Laws.Kept); what it changes there is said once here. -/

namespace Sys2Proof.BillingTariffs

open Sys2Proof Sys2Proof.Machine Sys2Proof.Safety Sys2Proof.Laws Sys2Proof.ModesPower Sys2Proof.MeasurementInputs
  Sys2Proof.EnergyComputation

/-! Operations that leave the billing block. -/

@[simp] theorem reply_bil (r : Req) (code st : Nat) (body : List Byte) (s : State) : (reply r code st body s).bil = s.bil :=
  kept_bil (by simp (disch := decide))

@[simp] theorem replyTo_bil (r : Option Req) (code st : Nat) (body : List Byte) (s : State) :
    (replyTo r code st body s).bil = s.bil :=
  kept_bil (by simp (disch := decide))

@[simp] theorem logNowF_bil (code flags sender : Nat) (data : List Byte) (s : State) :
    (logNowF code flags sender data s).bil = s.bil :=
  kept_bil (by simp (disch := decide))

@[simp] theorem logNow_bil (code : Nat) (data : List Byte) (s : State) : (logNow code data s).bil = s.bil :=
  logNowF_bil code 0 0xFF data s

@[simp] theorem disconnectEvent_bil (state cause : Nat) (s : State) : (disconnectEvent state cause s).bil = s.bil :=
  logNow_bil _ _ s

@[simp] theorem notify_bil (cls code : Nat) (body : List Byte) (s : State) : (notify cls code body s).bil = s.bil :=
  kept_bil (by simp (disch := decide))

@[simp] theorem snapReading_bil (kind : Nat) (digest : List Byte) (dest : Option Req) (stmt : Option Nat) (s : State) :
    (snapReading kind digest dest stmt s).bil = s.bil :=
  kept_bil (by simp (disch := decide))

@[simp] theorem wantSummary_bil (s : State) : (wantSummary s).bil = s.bil := rfl

@[simp] theorem consume_bil (k : Nat) (s : State) : (consume k s).bil = s.bil := rfl

/-- An orderly stop that Kiln asks for reaches the vehicle and Shutter alone (R233, R336). -/
@[simp] theorem askStop_bil (q : ShuReq) (cause : Nat) (s : State) :
    (askShutter q (stopBegun (endSession cause s))).bil = s.bil :=
  kept_bil (by simp (disch := decide))

/-! The ledger state (R234). -/

@[simp] theorem lsWrite_bil (s : State) : (lsWrite s).bil = s.bil := rfl

theorem lsWrite_saved (s : State) : LsSaved (lsWrite s) := by
  unfold lsWrite
  extract_lets seq c
  refine ⟨c, ?_, rfl, rfl⟩
  rw [setLed_led]
  split
  · exact .inl rfl
  · exact .inr rfl

theorem lsWrite_events (s : State) : (lsWrite s).led.events = s.led.events := by
  unfold lsWrite
  extract_lets seq c
  rw [setLed_led]
  split <;> rfl

/-- The copy written before a reply leaves the entry that is already durable (R188, R234). -/
theorem stored_lsWrite {code : Nat} {s t : State} (hstored : Safety.Stored code s t) : Safety.Stored code s (lsWrite t) := by
  obtain ⟨e, hevents, hcode, hindex⟩ := hstored
  exact ⟨e, (lsWrite_events t).trans hevents, hcode, hindex⟩

/-- A request that the mode and the role let pass does its work (R237, R484). -/
theorem billing_of_admitted {s : State} (hadmitted : billRefusal s = none) (f : State → Answer) : billing s f = f s := by
  rw [billing, hadmitted]

/-! Civil time (R204, R205). -/

/-- A setting accepted as a step: its entry, and the change that waits for the next epoch (R204). -/
def bookStep (sender : Nat) (new : Int) (s : State) : State :=
  setBil (fun b => { b with change := some ⟨s.clk.epoch + 1, new - civilNow s, true⟩ })
    (timeAdjust (civilNow s) new 2 sender s)

theorem timeAdjust_clk (old new : Int) (action sender : Nat) (s : State) : (timeAdjust old new action sender s).clk = s.clk :=
  kept_clk (by simp (disch := decide))

/-- Under TIME_UNSET every accepted setting is a step (R204). -/
theorem execBilTimeSet_next {s : State} {r : Req} {newS : Int} {newF how : Nat} (htaken : Taken 0x0400 r s)
    (hsender : bitN (param s 0x0422) r.sender.code = true) (hhow : how ≤ 1) (hadmitted : billRefusal s = none)
    (hunset : s.bil.timeUnset = true) : ∃ t, execBilTimeSet r newS newF how s = .next (reply r 0x0400 stOk
      (le 8 (s.clk.epoch + 1) ++ le 1 2 ++ zeros 3 ++ leI 8 (civilSec (civilNow s))) t) ∧
      t.bil.change = some ⟨s.clk.epoch + 1, newS * 204800000 + newF * 3125 - civilNow s, true⟩ ∧ LsSaved t := by
  refine ⟨lsWrite (bookStep r.sender.code (newS * 204800000 + newF * 3125) s), brixo_of_answer htaken ?_, rfl,
    lsWrite_saved _⟩
  rw [hsender, if_neg (by decide), if_neg (Nat.not_lt.mpr hhow), billing_of_admitted hadmitted]
  simp [hunset, durableAnswer, bookStep, timeAdjust_clk]

theorem doStep_nl (d : StepDue) (s : State) : (doStep d s).nl = s.nl :=
  kept_nl (by simp (disch := decide))

section TimeChange

variable {s : State} {c : TimeChange} (hchange : s.bil.change = some c) (hreached : c.epoch ≤ s.clk.epoch)
include hchange hreached

theorem execTimeChangeEffective_slew_next (hslew : c.step = false) : execTimeChangeEffective s =
    .next (setBil (fun b => { b with change := none, slewLeft := c.delta }) s) := by
  simp [execTimeChangeEffective, whenever, hchange, hreached, hslew]

/-- A step whose epoch attribution has not reached waits for it (log entry 35). -/
theorem execTimeChangeEffective_step_next (hstep : c.step = true) (hlate : s.bil.through + 1 ≠ s.clk.epoch) :
    ∃ t, execTimeChangeEffective s = .next t ∧ t.bil.change = none ∧ t.bil.slewLeft = 0 ∧
      t.bil.civil = s.bil.civil + c.delta ∧ t.bil.timeUnset = false ∧ t.nl.rtcValid = true ∧
      t.bil.stepDue.length = s.bil.stepDue.length + 1 := by
  unfold execTimeChangeEffective
  rw [hchange]
  refine exists_next_of_whenever (decide_eq_true hreached) fun t ht => ?_
  simp [ht, hstep, hlate]

/-- A step is a setting of the clock, whether its closings follow at once or wait (R204, log entry 35). -/
theorem execTimeChangeEffective_rtcValid (hstep : c.step = true) :
    ∃ t, execTimeChangeEffective s = .next t ∧ t.nl.rtcValid = true := by
  unfold execTimeChangeEffective
  rw [hchange]
  refine exists_next_of_whenever (decide_eq_true hreached) fun t ht => ?_
  rw [ht, hstep]
  dsimp only
  split
  · contradiction
  · split
    · rw [doStep_nl]
    · rfl

end TimeChange

theorem execSlewComplete_next {s : State} (hleft : s.bil.slewLeft.natAbs ≤ 2048) : execSlewComplete s =
    .next (setBil (fun b => { b with civil := b.civil + b.slewLeft, slewLeft := 0 }) s) := by
  rw [execSlewComplete, whenever, if_pos (decide_eq_true hleft)]

theorem execBilTimeGet_next {s : State} {r : Req} (htaken : Taken 0x0401 r s) :
    execBilTimeGet r s = .next (reply r 0x0401 stOk (leI 8 s.snap.civilS ++
      le 2 s.snap.civilF ++ leI 2 (offsetAt s.bil s.snap.civilS / 60) ++
      le 1 (packBits [bitN s.snap.flags 7, s.bil.slewLeft != 0, isDst s.bil s.snap.civilS]) ++ zeros 3 ++
      leI 4 (s.bil.slewLeft / 204800) ++ leI 8 s.bil.mBill) s) :=
  brixo_of_answer htaken rfl

/-! Tables (R202, R212). -/

/-- A zone table comes into force, with its entry (R202). -/
def loadZone (sender : Nat) (z : TzTable) (s : State) : State :=
  logNowF 0x0402 0 sender (le 2 z.version ++ zeros 2 ++ le 4 z.crc) (setBil (fun b => { b with tz := some z }) s)

theorem execBilTzLoad_next {s : State} {r : Req} {o : List Byte} (htaken : Taken 0x0402 r s)
    (hadmitted : billRefusal s = none) (hlength : o.length = 12 + 16 * (tzOf o).entries.length)
    (hcrc : crcAt o (8 + 16 * (tzOf o).entries.length) = true) (hok : tzOk o (tzOf o) = true) :
    ∃ t, execBilTzLoad r o s = .next (reply r 0x0402 stOk (le 2 (tzOf o).version) t) ∧ t.bil.tz = some (tzOf o) ∧
      Safety.Stored 0x0402 s t ∧ LsSaved t := by
  refine ⟨lsWrite (loadZone r.sender.code (tzOf o) s), brixo_of_answer htaken ?_, ?_, stored_lsWrite ?_, lsWrite_saved _⟩
  · rw [billing_of_admitted hadmitted]
    simp only [hlength, hcrc, hok, bne_self_eq_false, Bool.not_true, Bool.false_eq_true, if_false]
    rfl
  · simp [loadZone]
  · exact stored_of_logNowF rfl rfl

/-- The calendar of an object as it waits: ACTIVATE_AT 0 names the next minute (R210). -/
def waitingCalendar (o : List Byte) (s : State) : Calendar :=
  { calOf o with
    activateAt := if (calOf o).activateAt = 0 then minuteAfter (civilNow s) else (calOf o).activateAt }

/-- A calendar becomes the passive one, whichever was waiting, with its entry (R212). -/
def loadCalendar (sender : Nat) (c : Calendar) (s : State) : State :=
  logNowF 0x0403 0 sender (le 4 c.id ++ leI 8 c.activateAt) (setBil (fun b => { b with passive := some c }) s)

theorem loadCalendar_bil (sender : Nat) (c : Calendar) (s : State) :
    (loadCalendar sender c s).bil = { s.bil with passive := some c } := by
  rw [loadCalendar, logNowF_bil, setBil_bil]

section CalendarLoad

variable {s : State} {r : Req} {o : List Byte} (htaken : Taken 0x0403 r s) (hadmitted : billRefusal s = none)
  (hlength : o.length = (calOffsets o).2.2.2 + 4)
include htaken hadmitted hlength

theorem execBilCalendarLoad_next (hcrc : crcAt o (calOffsets o).2.2.2 = true) (hfits : calFits (calOf o) = true) :
    execBilCalendarLoad r o s = .next (reply r 0x0403 stOk
      (le 4 (waitingCalendar o s).id ++ leI 8 (waitingCalendar o s).activateAt)
      (lsWrite (loadCalendar r.sender.code (waitingCalendar o s) s))) := by
  refine brixo_of_answer htaken ?_
  rw [billing_of_admitted hadmitted]
  simp only [hlength, hcrc, hfits, bne_self_eq_false, Bool.not_true, Bool.or_self, Bool.false_eq_true, if_false]
  rfl

theorem execBilCalendarLoad_invalid_next (hbad : crcAt o (calOffsets o).2.2.2 = false ∨ calFits (calOf o) = false) :
    execBilCalendarLoad r o s = .next (reply r 0x0403 stCalendarInvalid [] s) := by
  have hcheck : (!crcAt o (calOffsets o).2.2.2 || !calFits (calOf o)) = true := by
    rcases hbad with hcrc | hfits
    · simp [hcrc]
    · simp [hfits]
  refine brixo_of_answer htaken ?_
  rw [billing_of_admitted hadmitted]
  simp only [hlength, hcheck, bne_self_eq_false, Bool.false_eq_true, if_false, if_true]
  rfl

end CalendarLoad

/-- Settles O60: a calendar is refused for its CRC or a check before anything is written, and one that passes takes the place of
the waiting calendar, the active one standing. ACTIVATE_AT 0 means the next minute by R210; that the refusal carries no fields is
deduced (log entry 11). -/
theorem calendarLoadChecks : Obligations.CalendarLoadChecks := by
  unfold Obligations.CalendarLoadChecks
  refine ⟨fun _ _ _ => execBilCalendarLoad_invalid_next, fun s r o htaken hadmitted hlength hcrc hfits =>
    ⟨_, execBilCalendarLoad_next htaken hadmitted hlength hcrc hfits, ?_⟩⟩
  rw [reply_bil, lsWrite_bil, loadCalendar_bil]
  exact ⟨rfl, rfl⟩

/-! What a change of credit leaves in the billing block (R231, R233). -/

/-- The watch on the floor sets at most the mark of a stop in progress. -/
theorem creditWatch_bil (s : State) : ∃ stopping, (creditWatch s).bil = { s.bil with stopping := stopping } := by
  unfold creditWatch
  split
  · exact ⟨true, askStop_bil _ _ _⟩
  · exact ⟨s.bil.stopping, rfl⟩

/-- A restoration ends at most the exhaustion cause. -/
theorem creditRestore_bil (s : State) : ∃ exhausted, (creditRestore s).bil = { s.bil with causeExhausted := exhausted } := by
  unfold creditRestore
  split
  · refine ⟨false, ?_⟩
    dsimp only
    split
    · rfl
    · rw [disconnectEvent_bil, setBil_bil]
  · exact ⟨s.bil.causeExhausted, rfl⟩

theorem creditRestore_creditWatch_bil (s : State) : ∃ stopping exhausted,
    (creditRestore (creditWatch s)).bil = { s.bil with stopping := stopping, causeExhausted := exhausted } := by
  obtain ⟨stopping, hwatch⟩ := creditWatch_bil s
  obtain ⟨exhausted, hrestore⟩ := creditRestore_bil (creditWatch s)
  exact ⟨stopping, exhausted, by rw [hrestore, hwatch]⟩

@[simp] theorem putCredit_bil (v : Int) (s : State) : (putCredit v s).bil = { s.bil with credit := v } := by
  unfold putCredit
  dsimp only
  split
  · rw [notify_bil, setBil_bil]
  · rfl

/-! Boundaries (R222). -/

/-- At the end of an epoch THROUGH names it; the boundaries stand as they were. -/
theorem reached_bil (e : Nat) (s : State) : (reached e s).bil.boundary = s.bil.boundary ∧
    (reached e s).bil.nextT = s.bil.nextT ∧ (reached e s).bil.through = e := by
  unfold reached
  extract_lets was attributed watched
  obtain ⟨stopping, exhausted, hwatched⟩ := creditRestore_creditWatch_bil attributed
  have hbil : (if lsThrough watched + 100 ≤ e || was != watched.bil.causeExhausted then lsWrite watched else watched).bil
      = watched.bil := by
    split <;> rfl
  rw [hbil, hwatched]
  exact ⟨rfl, rfl, rfl⟩

/-- A boundary's work ends with none waiting, the next one a minute on, and its epoch attributed. -/
theorem boundaryWork_bil (e : Nat) (t : Int) (x : EpochInc) (s : State) : (boundaryWork e t x s).bil.boundary = none ∧
    (boundaryWork e t x s).bil.nextT = t + 60 ∧ (boundaryWork e t x s).bil.through = e := by
  unfold boundaryWork
  extract_lets
  rw [lsWrite_bil]
  exact reached_bil e _

theorem execCivilBoundary_next {s : State} {e : Nat} {at0 : Int} {x : EpochInc} (hboundary : s.bil.boundary = some (e, at0))
    (hinc : incFor s e = some x) (hd3 : s.dom.d3 = true) : ∃ t, execCivilBoundary s = .next t ∧
      t.bil.boundary = none ∧ t.bil.nextT = at0 + 60 ∧ t.bil.through = e := by
  refine exists_next_of_whenever hd3 fun t ht => ?_
  have hwork : t = atEpoch e (boundaryWork e at0 x) s := by
    rw [ht, processBoundary]
    simp only [hboundary, hinc]
  rw [hwork, atEpoch]
  exact boundaryWork_bil e at0 x _

/-! Tariff and billing periods (R220, R238). -/

theorem execBilTariffRead_next {s : State} {r : Req} (htaken : Taken 0x0404 r s) :
    ∃ body, execBilTariffRead r s = .next (reply r 0x0404 stOk body s) ∧
      body.take 20 = le 8 s.snap.groups.through4 ++ le 1 s.snap.groups.bil.rate ++ zeros 3 ++
        le 4 ((s.snap.groups.bil.active.map (·.id)).getD 0) ++ le 4 s.snap.groups.bil.periodNo := by
  refine ⟨_, brixo_of_answer htaken rfl, ?_⟩
  -- The named fields are the layout's first 20 bytes, so the rest of the reply falls outside.
  simp [List.take_append, List.take_of_length_le, zeros]

theorem execBilBillingClose_next {s : State} {r : Req} (htaken : Taken 0x0405 r s) (hadmitted : billRefusal s = none)
    (hset : s.bil.timeUnset = false) : ∃ t, execBilBillingClose r s = .next t ∧
      t.bil.closeDue = s.bil.closeDue ++ [(some r, s.clk.epoch + 1)] ∧ LsSaved t :=
  ⟨_, brixo_of_later htaken (by rw [billing_of_admitted hadmitted, hset]; rfl), rfl, lsWrite_saved _⟩

theorem pushRing_length {α : Type} (n : Nat) (l : List α) (a : α) : (pushRing n l a).length = min n (l.length + 1) := by
  simp only [pushRing, keepLast, List.length_drop, List.length_append, List.length_singleton]
  omega

/-- A close appends its record to the history and opens the next period (R220). -/
theorem closeBilling_bil (endCivil : Int) (cause e : Nat) (s : State) : (closeBilling endCivil cause e s).bil = { s.bil with
    history := pushRing 12 s.bil.history (billRecord endCivil cause e s)
    maxImp := {}, maxExp := {}, periodNo := s.bil.periodNo + 1, periodFlags := 0, mBill := endCivil } := by
  unfold closeBilling
  simp only [notify_bil, wantSummary_bil, setBil_bil, logNow_bil, snapReading_bil]

theorem execCommandBillingClose_next {s : State} {c : Option Req × Nat} {rest : List (Option Req × Nat)}
    (hdue : s.bil.closeDue = c :: rest) (hd3 : s.dom.d3 = true) (hreached : c.2 ≤ s.bil.through + 1)
    (hboundary : s.bil.boundary = none) : ∃ t, execCommandBillingClose s = .next t ∧ t.bil.closeDue = rest ∧
      t.bil.periodNo = s.bil.periodNo + 1 ∧ t.bil.history.length = min 12 (s.bil.history.length + 1) := by
  unfold execCommandBillingClose
  rw [hdue]
  refine exists_next_of_whenever (by simp [hd3, hreached, hboundary]) fun t ht => ?_
  rw [ht, commandClose]
  simp only [replyTo_bil, lsWrite_bil, atEpoch, closeBilling_bil, pushRing_length, setBil_bil, hdue, List.drop_one,
    List.tail_cons, and_self]

theorem execBilBillingRead_next {s : State} {r : Req} {period : Nat} {b : BillRec} (htaken : Taken 0x0406 r s)
    (hperiod : period ≠ 0) (hheld : s.bil.history.find? (·.period == period) = some b) :
    execBilBillingRead r period s = .next (reply r 0x0406 stOk b.bytes s) :=
  brixo_of_answer htaken (by simp only [if_neg hperiod, hheld])

theorem execBilBillingRead_newest_next {s : State} {r : Req} {b : BillRec} (htaken : Taken 0x0406 r s)
    (hnewest : s.bil.history.getLast? = some b) :
    execBilBillingRead r 0 s = .next (reply r 0x0406 stOk b.bytes s) :=
  brixo_of_answer htaken (by simp only [if_true, hnewest])

/-! Credit (R228–R233, R238). -/

/-- Credit that is no longer negative ends emergency credit, and the amount stands (R232). -/
theorem endEmergency_credit (s : State) :
    (if 0 ≤ s.bil.credit then setBil (fun b => { b with emergency := false }) s else s).bil.credit = s.bil.credit := by
  split <;> rfl

section CreditTransfer

variable {s : State} {r : Req} {o : List Byte} (htaken : Taken 0x0407 r s) (hmode : creditMode s ≠ 0)
  (hadmitted : billRefusal s = none)
include htaken hmode hadmitted

theorem execBilCreditTransfer_accepted_next (haccepted : transferRefusal s o = none) :
    ∃ t, execBilCreditTransfer r o s = .next t ∧ t.bil.credit = s.bil.credit + toI 8 (fieldAt o 24 8) := by
  refine ⟨_, brixo_of_answer htaken (by rw [if_neg hmode, billing_of_admitted hadmitted, haccepted]; rfl), ?_⟩
  rw [reply_bil, lsWrite_bil]
  obtain ⟨stopping, exhausted, hbil⟩ := creditRestore_creditWatch_bil _
  rw [hbil]
  dsimp only
  rw [logNowF_bil, endEmergency_credit, putCredit_bil, setBil_bil, consume_bil]
  rfl

theorem execBilCreditTransfer_refused_next {st : Nat} {recorded : Bool}
    (hrefused : transferRefusal s o = some (st, recorded)) :
    ∃ t, execBilCreditTransfer r o s = .next t ∧ t.bil = s.bil := by
  refine ⟨_, brixo_of_answer htaken (by rw [if_neg hmode, billing_of_admitted hadmitted, hrefused]; rfl), ?_⟩
  rw [reply_bil]
  split
  · exact logNowF_bil _ _ _ _ s
  · rfl

theorem execBilCreditTransfer_next : ∃ t, execBilCreditTransfer r o s = .next t ∧
    (transferRefusal s o = none → t.bil.credit = s.bil.credit + toI 8 (fieldAt o 24 8)) ∧
    (transferRefusal s o ≠ none → t.bil = s.bil) := by
  cases hcheck : transferRefusal s o with
  | none =>
    obtain ⟨t, hnext, hcredit⟩ := execBilCreditTransfer_accepted_next htaken hmode hadmitted hcheck
    exact ⟨t, hnext, fun _ => hcredit, fun h => absurd rfl h⟩
  | some refusal =>
    obtain ⟨t, hnext, hbil⟩ := execBilCreditTransfer_refused_next htaken hmode hadmitted hcheck
    exact ⟨t, hnext, nofun, fun _ => hbil⟩

end CreditTransfer

theorem execBilCreditStatus_next {s : State} {r : Req} (htaken : Taken 0x0408 r s) (hmode : creditMode s ≠ 0) :
    execBilCreditStatus r s = .next (reply r 0x0408 stOk
      (leI 8 s.snap.groups.bil.credit ++ le 1 (creditMode s) ++ le 1 (creditState s) ++
      le 1 (packBits [s.bil.emergency, s.bil.friendly, decide (s.snap.groups.bil.credit < paramI s 0x040C),
        s.bil.mismatch && feedbackWrong s]) ++ zeros 1 ++ leI 8 (creditFloor s) ++ le 8 s.bil.windowH) s) :=
  brixo_of_answer htaken (if_neg hmode)

theorem execBilEmergencyActivate_next {s : State} {r : Req} (htaken : Taken 0x0409 r s) (hmode : creditMode s ≠ 0)
    (hadmitted : billRefusal s = none) (hlow : s.bil.credit < paramI s 0x040C) (hidle : s.bil.emergency = false)
    (hamount : 0 < paramI s 0x040D) : ∃ t body, execBilEmergencyActivate r s =
      .next (reply r 0x0409 stOk body t) ∧ t.bil.emergency = true ∧ t.bil.credit = s.bil.credit := by
  have havailable : ¬ (paramI s 0x040C ≤ s.bil.credit || s.bil.emergency || paramI s 0x040D ≤ 0) = true := by
    simp only [hidle, Bool.or_false, Bool.or_eq_true, decide_eq_true_eq]
    omega
  refine ⟨_, _, brixo_of_answer htaken
    (by rw [if_neg hmode, billing_of_admitted hadmitted, if_neg havailable]; rfl), ?_⟩
  rw [lsWrite_bil]
  obtain ⟨exhausted, hbil⟩ := creditRestore_bil _
  rw [hbil]
  dsimp only
  rw [logNowF_bil]
  exact ⟨rfl, rfl⟩

section Disconnect

variable {s : State} {r : Req} (htaken : Taken 0x040A r s) (hadmitted : billRefusal s = none)
include htaken hadmitted

theorem execBilDisconnect_disconnect_next : ∃ t, execBilDisconnect r 1 s =
    .next (reply r 0x040A stOk (le 1 (creditState t)) t) ∧ t.bil.causeCommand = true := by
  refine ⟨_, brixo_of_answer htaken (by rw [if_neg (by decide), billing_of_admitted hadmitted, if_pos rfl]; rfl), ?_⟩
  rw [lsWrite_bil]
  split
  · rw [askStop_bil]
    rfl
  · split
    · rfl
    · rw [disconnectEvent_bil]
      rfl

theorem execBilDisconnect_reconnect_next (hcause : s.bil.causeCommand = true) : ∃ t, execBilDisconnect r 0 s =
    .next (reply r 0x040A stOk (le 1 (creditState t)) t) ∧ t.bil.causeCommand = false := by
  refine ⟨_, brixo_of_answer htaken
    (by rw [if_neg (by decide), billing_of_admitted hadmitted, if_neg (by decide), if_pos hcause]; rfl), ?_⟩
  rw [lsWrite_bil]
  split
  · rfl
  · rw [disconnectEvent_bil]
    rfl

end Disconnect

theorem execKm1FeedbackMismatch_next {s : State} {duration : Nat} (hd3 : s.dom.d3 = true) (hlong : 200 < duration)
    (hwrong : feedbackWrong s = true) :
    ∃ t, execKm1FeedbackMismatch duration s = .next t ∧ t.bil.mismatch = true := by
  refine exists_next_of_whenever (by simp [hd3, hlong, hwrong]) fun t ht => ?_
  rw [ht, logNow_bil]
  rfl

/-- Settles O13: each setting of civil time, each table and each boundary answers its reply and its next state. That a step's
closings wait for attribution, and that a boundary acts when attribution reaches it, is the model's choice (log entry 35). -/
theorem civilTimeCommandsComplete : Obligations.CivilTimeCommandsComplete := by
  unfold Obligations.CivilTimeCommandsComplete
  refine ⟨?_, ?_, ?_, ?_, ?_, ?_, ?_, ?_, ?_⟩
  · exact fun _ _ _ _ _ => execBilTimeSet_next
  · exact fun _ _ => execTimeChangeEffective_slew_next
  · exact fun _ _ => execTimeChangeEffective_step_next
  · exact fun _ _ hchange hreached hstep _ => execTimeChangeEffective_rtcValid hchange hreached hstep
  · exact fun _ => execSlewComplete_next
  · exact fun _ _ => execBilTimeGet_next
  · exact fun _ _ _ => execBilTzLoad_next
  · intro s r o htaken hadmitted hlength hcrc hfits
    refine ⟨_, waitingCalendar o s, execBilCalendarLoad_next htaken hadmitted hlength hcrc hfits, ?_, rfl,
      stored_lsWrite (stored_of_logNowF rfl rfl), lsWrite_saved _⟩
    rw [lsWrite_bil, loadCalendar_bil]
  · exact fun _ _ _ _ => execCivilBoundary_next

/-- Settles O14: each read and close of tariff and billing, each command of credit and each disconnection answers its reply and
its next state. A commanded close follows attribution by the model's choice (log entry 35); the floor in force is deduced (log
entry 36). -/
theorem billingCommandsComplete : Obligations.BillingCommandsComplete := by
  unfold Obligations.BillingCommandsComplete
  refine ⟨?_, ?_, ?_, ?_, ?_, ?_, ?_, ?_, ?_, ?_, ?_⟩
  · exact fun _ _ => execBilTariffRead_next
  · exact fun _ _ => execBilBillingClose_next
  · exact fun _ _ _ => execCommandBillingClose_next
  · exact fun _ _ _ _ => execBilBillingRead_next
  · exact fun _ _ _ => execBilBillingRead_newest_next
  · exact fun _ _ _ => execBilCreditTransfer_next
  · exact fun _ _ => execBilCreditStatus_next
  · exact fun _ _ => execBilEmergencyActivate_next
  · exact fun _ _ => execBilDisconnect_disconnect_next
  · exact fun _ _ => execBilDisconnect_reconnect_next
  · exact fun _ _ => execKm1FeedbackMismatch_next

end Sys2Proof.BillingTariffs

/-! The Kiln engine pool (10): which next state each command and event of speed, tasks, cells, cross-checks, semaphores and Wedge
registers answers. What happens to one cell or one semaphore is said once, here; that recorded triggers and events leave the pool
comes from their frames (Laws.Frame, Laws.Kept). -/

namespace Sys2Proof.KilnEnginePool

open Sys2Proof Sys2Proof.Machine Sys2Proof.Safety Sys2Proof.Laws Sys2Proof.ModesPower

/-- A command whose own condition holds answers the state that its effect leaves. -/
theorem next_of_whenever {c : Bool} {s t : State} {f : State → State} (hc : c = true) (hf : f s = t) :
    whenever c s f = .next t := by
  rw [whenever, if_pos hc, hf]

/-! Operations that leave the pool. -/

@[simp] theorem diagTrigger_kiln (n subject : Nat) (s : State) : (diagTrigger n subject s).kiln = s.kiln :=
  kept_kiln (by simp (disch := decide))

@[simp] theorem kilnEvent_kiln (event k : Nat) (s : State) : (kilnEvent event k s).kiln = s.kiln :=
  kept_kiln (by simp (disch := decide))

/-! One cell (R239). -/

theorem getElem?_modAt_same {α : Type} (l : List α) (i : Nat) (f : α → α) : (modAt l i f)[i]? = (l[i]?).map f := by
  simp [modAt, List.getElem?_mapIdx]

/-- A healthy cell is one of the pool: a number beyond it reads as a failed cell. -/
theorem getElem?_of_healthy {s : State} {k : Nat} (hhealthy : (cell s k).healthy = true) :
    s.kiln.cells[k]? = some (cell s k) := by
  cases hcell : s.kiln.cells[k]? with
  | none => simp [cell, hcell] at hhealthy
  | some c => rw [cell, hcell, Option.getD_some]

/-- A healthy cell reads after a change as the change leaves it. -/
theorem cell_setCellK_same {s : State} {k : Nat} (f : Cell → Cell) (hhealthy : (cell s k).healthy = true) :
    cell (setCellK k f s) k = f (cell s k) := by
  rw [cell, setCellK, setKiln_kiln, getElem?_modAt_same, getElem?_of_healthy hhealthy, Option.map_some, Option.getD_some]

/-! Speed (R240). -/

theorem map_rate_measured (rates : List Nat) (cells : List Cell) :
    (cells.mapIdx fun i c => { c with rate := (rates[i]?).getD c.rate }).map (·.rate) =
      cells.mapIdx fun i c => (rates[i]?).getD c.rate :=
  List.ext_getElem (by simp) (by simp)

/-- Beyond what the monitors measured, an epoch's judgement changes SPEED_LOW and its count alone. -/
theorem execSpeedMonitor_next {s : State} (rates : List Nat) (coreMv : Nat) (tjMax : Int) (load : Nat) (hd3 : s.dom.d3 = true) :
    ∃ t, execSpeedMonitor rates coreMv tjMax load s = .next t ∧ t.kiln.coreMv = coreMv ∧ t.kiln.tjMax = tjMax ∧
      t.kiln.load = load ∧ t.kiln.cells.map (·.rate) = s.kiln.cells.mapIdx fun i c => (rates[i]?).getD c.rate := by
  refine exists_next_of_whenever hd3 fun t ht => ?_
  have hrates := map_rate_measured rates s.kiln.cells
  rw [ht]
  extract_lets measured restarted
  split
  · exact ⟨rfl, rfl, rfl, hrates⟩
  · split
    · split
      · exact ⟨rfl, rfl, rfl, hrates⟩
      · rw [kilnEvent_kiln, diagTrigger_kiln]
        exact ⟨rfl, rfl, rfl, hrates⟩
    · exact ⟨rfl, rfl, rfl, hrates⟩

theorem execSpeedRestored_next {s : State} (hd3 : s.dom.d3 = true) (hlow : s.kiln.speedLow = true)
    (hgood : s.kiln.speedGood = 100) : ∃ t, execSpeedRestored s = .next t ∧ t.kiln.speedLow = false := by
  refine exists_next_of_whenever (by simp [hd3, hlow, hgood]) fun t ht => ?_
  rw [ht, kilnEvent_kiln, diagTrigger_kiln, setKiln_kiln]

/-! Tasks (R241, R244, R245). -/

/-- A task enters its cell's queue, and the cell becomes its home where a home is kept (R245). -/
def enqueued (task : Machine.Task) (s : State) : State :=
  setCellK task.home (fun c => { c with ready := c.ready ++ [task] })
    (keepHome task.cls task.part task.home { s with clk := { s.clk with free := s.clk.free + 1 } })

theorem cell_keepHome (cls : TaskClass) (part c : Nat) (s : State) (k : Nat) :
    cell (keepHome cls part c s) k = cell s k := by
  unfold keepHome
  split <;> rfl

theorem enqueued_now (task : Machine.Task) (s : State) : (enqueued task s).clk.now = s.clk.now := by
  rw [enqueued, setCellK, setKiln_clk, kept_clk (forget_keepHome _ _ _ _ rfl)]

/-- The task stands last in the queue of its cell. -/
theorem enqueued_ready {task : Machine.Task} {s : State} (hhealthy : (cell s task.home).healthy = true) :
    (cell (enqueued task s) task.home).ready = (cell s task.home).ready ++ [task] := by
  rw [enqueued, cell_setCellK_same _ (by rwa [cell_keepHome]), cell_keepHome]
  rfl

/-- Deadlines of the periodic classes are counted from an epoch's end, not from the instant of release (R241). -/
theorem deadlineOf_advanceTo {cls : TaskClass} (hperiodic : periodicClass cls = true) (t : Tick) (s : State) (e : Nat) :
    deadlineOf (advanceTo t s) cls e = deadlineOf s cls e := by
  cases cls with
  | m | l | v | p => rfl
  | s | c | b => cases hperiodic

/-- A periodic task is released 1.5 ms after its epoch's end, to the cell that is its home. -/
theorem execKilnTaskRelease_periodic_next {s : State} {cls : TaskClass} {e part k c : Nat} (hperiodic : periodicClass cls = true)
    (hended : e < s.clk.epoch) (hc : c = releaseCell s cls part k) (hd3 : s.dom.d3 = true)
    (hhealthy : (cell s c).healthy = true) (hunmasked : cellMasked s c = false) (hwake : mayWake s c = true)
    (hhome : homeOk s cls part c = true) : ∃ t, execKilnTaskRelease cls e part k s = .next t ∧
      t.clk.now = max s.clk.now (epochEnd s e + Tick.us 1500) ∧
      (cell t c).ready = (cell s c).ready ++ [⟨cls, e, part, deadlineOf s cls e, c, false⟩] := by
  unfold execKilnTaskRelease
  rw [← hc]
  refine exists_next_of_whenever (by simp [hd3, hended, hhealthy, hunmasked, hwake, hhome]) fun t ht => ?_
  have henqueued : t = enqueued ⟨cls, e, part, deadlineOf s cls e, c, false⟩
      (advanceTo (epochEnd s e + Tick.us 1500) s) := by
    rw [ht, if_pos hperiodic, ← deadlineOf_advanceTo hperiodic]
    rfl
  rw [henqueued]
  exact ⟨enqueued_now _ _, enqueued_ready hhealthy⟩

/-- A task of class S, C or B goes to the cell that firmware names, and no instant is awaited (log entry 53). -/
theorem execKilnTaskRelease_other_next {s : State} {cls : TaskClass} {e part k : Nat} (hother : periodicClass cls = false)
    (hd3 : s.dom.d3 = true) (hhealthy : (cell s k).healthy = true) (hunmasked : cellMasked s k = false)
    (hwake : mayWake s k = true) : ∃ t, execKilnTaskRelease cls e part k s = .next t ∧ t.clk.now = s.clk.now ∧
      (cell t k).ready = (cell s k).ready ++ [⟨cls, e, part, deadlineOf s cls e, k, false⟩] := by
  have hcell : releaseCell s cls part k = k := by simp [releaseCell, hother]
  unfold execKilnTaskRelease
  rw [hcell]
  refine exists_next_of_whenever (by simp [hd3, hother, hhealthy, hunmasked, hwake, homeOk]) fun t ht => ?_
  have henqueued : t = enqueued ⟨cls, e, part, deadlineOf s cls e, k, false⟩ s := by
    rw [ht, hother]
    rfl
  rw [henqueued]
  exact ⟨enqueued_now _ _, enqueued_ready hhealthy⟩

theorem execKilnTaskRun_next {s : State} {k : Nat} {task : Machine.Task} (hfirst : firstTask (cell s k).ready = some task)
    (hd3 : s.dom.d3 = true) (hhealthy : (cell s k).healthy = true) (hunmasked : cellMasked s k = false)
    (hwake : mayWake s k = true) (hrun : canRun s task = true) : execKilnTaskRun k s =
      .next (runTask task (setCellK k (fun c => { c with ready := c.ready.erase task }) s)) := by
  unfold execKilnTaskRun
  rw [hfirst]
  exact next_of_whenever (by simp [hd3, hhealthy, hunmasked, hwake, hrun]) rfl

/-! Stealing (R246, R247). -/

section Steal

variable {s : State} {k : Nat} (hd3 : s.dom.d3 = true) (hhealthy : (cell s k).healthy = true)
  (hunmasked : cellMasked s k = false) (hempty : (cell s k).ready = []) (hallowed : stealsDenied s = false)
  (hwake : mayWake s k = true)
include hd3 hhealthy hunmasked hempty hallowed hwake

theorem execKilnSteal_found_next {n v : Nat} {task : Machine.Task} {u : State}
    (hround : stealRound s k = (n, some (v, task)))
    (hu : u = setCellK v (fun c => { c with ready := c.ready.erase task })
      (setCellK k (fun c => { c with tries := (stealTick s, 15 - triesLeft s k + n) }) s)) :
    execKilnSteal k s = .next (if canRun u task = true then runTask task u
      else setCellK k (fun c => { c with ready := [{ task with stolen := true }] }) u) :=
  next_of_whenever (by simp [hd3, hhealthy, hunmasked, hempty, hallowed, hwake]) (by simp only [hround, hu])

theorem execKilnSteal_none_next (hround : stealRound s k = (triesLeft s k, none)) : execKilnSteal k s =
    .next (setCellK k (fun c => { c with tries := (stealTick s, 15 - triesLeft s k + triesLeft s k) }) s) :=
  next_of_whenever (by simp [hd3, hhealthy, hunmasked, hempty, hallowed, hwake]) (by simp only [hround])

end Steal

/-! Misses and shedding (R241, R249). -/

theorem execKilnDeadlineMiss_counted_next {s : State} {cls : TaskClass} {e : Nat} (hcls : cls = .m ∨ cls = .l ∨ cls = .v)
    (hended : e < s.clk.epoch) (hnone : accepted s cls e = false) : ∃ t, execKilnDeadlineMiss cls e s = .next t ∧
      t.kiln.missNow = true ∧ t.kiln.lastMiss = e ∧ t.led.overload = true ∧
      t.clk.now = max s.clk.now (deadlineOf s cls e) := by
  have hcounted : periodicClass cls = true ∧ (cls == .p) = false := by
    rcases hcls with rfl | rfl | rfl <;> exact ⟨rfl, rfl⟩
  obtain ⟨hperiodic, hnotP⟩ := hcounted
  refine exists_next_of_whenever (by simp [hperiodic, hended, hnone]) fun t ht => ?_
  rw [ht, hnotP]
  exact ⟨rfl, rfl, rfl, rfl⟩

/-- A missed class P task marks the snapshot and counts for no shedding. -/
theorem execKilnDeadlineMiss_quality_next {s : State} {e : Nat} (hended : e < s.clk.epoch) (hnone : accepted s .p e = false) :
    ∃ t, execKilnDeadlineMiss .p e s = .next t ∧ t.kiln = s.kiln ∧ t.led.overload = true ∧
      t.clk.now = max s.clk.now (deadlineOf s .p e) :=
  exists_next_of_whenever (by simp [periodicClass, hended, hnone]) fun t ht => by
    rw [ht]
    exact ⟨rfl, rfl, rfl⟩

theorem execShedChanged_up_next {s : State} (hd3 : s.dom.d3 = true) (hmisses : 3 ≤ s.kiln.missRun)
    (hroom : s.kiln.step < param s 0x0109) : ∃ t, execShedChanged s = .next t ∧ t.kiln.step = s.kiln.step + 1 ∧
      t.kiln.missRun = 0 := by
  refine ⟨_, if_pos (by simp [hd3, hmisses, hroom]), ?_⟩
  rw [kilnEvent_kiln, diagTrigger_kiln, setKiln_kiln]
  exact ⟨rfl, rfl⟩

theorem execShedChanged_down_next {s : State} (hd3 : s.dom.d3 = true) (hmisses : s.kiln.missRun < 3)
    (hclean : 100 ≤ s.kiln.cleanRun) (hstep : 0 < s.kiln.step) : ∃ t, execShedChanged s = .next t ∧
      t.kiln.step = s.kiln.step - 1 ∧ t.kiln.cleanRun = 0 := by
  refine ⟨_, (if_neg (by simp [Nat.not_le.mpr hmisses])).trans (if_pos (by simp [hd3, hclean, hstep])), ?_⟩
  rw [kilnEvent_kiln, diagTrigger_kiln, setKiln_kiln]
  exact ⟨rfl, rfl⟩

/-! Cell failure and cross-checks (R250, R251). -/

theorem execCellHandshakeTimeout_next {s : State} {k : Nat} (hd3 : s.dom.d3 = true) (hhealthy : (cell s k).healthy = true)
    (hholds : (cell s k).ready ≠ []) (hunmasked : cellMasked s k = false) :
    execCellHandshakeTimeout k s = .next (failCell k s) :=
  next_of_whenever (by simp [hd3, hhealthy, hholds, hunmasked]) rfl

theorem execCellMemoryError_next {s : State} {k : Nat} (hd3 : s.dom.d3 = true) (hhealthy : (cell s k).healthy = true) :
    execCellMemoryError k s = .next (failCell k s) :=
  next_of_whenever (by rw [hd3, hhealthy, Bool.and_self]) rfl

theorem execCrossCheck_agrees_next {s : State} {a b : Nat} (c w : Nat) (hd3 : s.dom.d3 = true)
    (hdue : s.kiln.xLast + param s 0x0108 ≤ s.clk.epoch) (hhealthy : (cell s a).healthy = true)
    (hnext : nextHealthy s a = some b) : ∃ t, execCrossCheck a b c true w s = .next t ∧
      t.kiln.xPhase = (s.kiln.xPhase + 1) % 3 ∧ t.kiln.xLast = s.clk.epoch ∧ t.kiln.cells = s.kiln.cells :=
  exists_next_of_whenever (by simp [hd3, hdue, hhealthy, hnext]) fun t ht => by
    rw [ht]
    exact ⟨rfl, rfl, rfl⟩

theorem execKilnStatus_next {s a : State} {r : Req} (htaken : Taken 0x0150 r s) (ha : a = asOf s) :
    execKilnStatus r s = .next (reply r 0x0150 stOk
      (le 2 (packBits (a.kiln.cells.map (·.healthy))) ++ le 1 ((heldSpare a).getD 0xFF) ++ le 1 (shedLevel a) ++
      a.kiln.cells.flatMap (fun c => le 2 (rateOf c)) ++ le 2 a.kiln.coreMv ++ leI 2 a.kiln.tjMax ++ le 2 a.kiln.load ++
      le 2 (capacity a) ++ le 8 a.kiln.lastMiss ++ le 8 a.kiln.lastFail ++ le 4 (semState a) ++ zeros 4) s) := by
  subst ha
  exact brixo_of_answer htaken rfl

/-! Semaphores (R253–R255). -/

/-- A semaphore that is freed has no owner; a number beyond the semaphores has none either. -/
theorem semOwner_of_freed {s t : State} {n : Nat} (hsems : t.kiln.sems = s.kiln.sems.set n {}) : semOwner t n = none := by
  rw [semOwner, hsems]
  cases hn : (s.kiln.sems.set n {})[n]? with
  | none => rfl
  | some q =>
    have hlt : n < s.kiln.sems.length := by simpa using (List.getElem?_eq_some_iff.mp hn).1
    rw [List.getElem?_set_self hlt] at hn
    cases hn
    rfl

theorem execSemaphoreRead_acquires_next {s : State} {n reader : Nat} (hd3 : s.dom.d3 = true)
    (hpermitted : semPermitted s n reader = true) (hfree : semOwner s n = none) : execSemaphoreRead n reader s =
      .next (setKiln (fun x => { x with
        sems := x.sems.set n ⟨some reader, s.clk.now⟩, semRead := 2 ^ 30 + reader * 65536 }) s) :=
  next_of_whenever hd3 (by simp [hpermitted, hfree])

theorem execSemaphoreRead_owned_next {s : State} {n reader o : Nat} (hd3 : s.dom.d3 = true)
    (hpermitted : semPermitted s n reader = true) (howner : semOwner s n = some o) : execSemaphoreRead n reader s =
      .next (setKiln (fun x => { x with semRead := (if o = reader then 3 else 2) * 2 ^ 30 + o * 65536 }) s) :=
  next_of_whenever hd3 (by simp [hpermitted, howner])

theorem execSemaphoreRelease_next {s : State} {n writer value : Nat} (hd3 : s.dom.d3 = true) (hrelease : bitN value 0 = true)
    (howner : semOwner s n = some writer) : execSemaphoreRelease n writer value s =
      .next (setKiln (fun x => { x with sems := x.sems.set n {} }) s) :=
  next_of_whenever (by simp [hd3, hrelease, howner]) rfl

/-- A release of a semaphore that nobody owns does nothing (R253, R255). -/
theorem execSemaphoreRelease_of_free {s : State} {n : Nat} (writer value : Nat) (hfree : semOwner s n = none) :
    execSemaphoreRelease n writer value s = .next s := by
  simp [execSemaphoreRelease, whenever, hfree]

/-- What a semaphore held too long by the host leaves: it is freed at its deadline and recorded. -/
def hostTimedOut (n : Nat) (s : State) : State :=
  diagTrigger 6 n (setKiln (fun x => { x with sems := x.sems.set n {} })
    (advanceTo (((s.kiln.sems[n]?).getD {}).since + Tick.ms (param s 0x0107)) s))

theorem semOwner_hostTimedOut (n : Nat) (s : State) : semOwner (hostTimedOut n s) n = none :=
  semOwner_of_freed (s := s) (by rw [hostTimedOut, diagTrigger_kiln, setKiln_kiln, advanceTo_kiln])

theorem execSemHostTimeout_next {s : State} {n : Nat} (hd3 : s.dom.d3 = true) (howner : semOwner s n = some 0x10) :
    execSemHostTimeout n s = .next (hostTimedOut n s) :=
  next_of_whenever (by simp [hd3, howner]) rfl

/-! Wedge registers (R258–R260, R266). -/

theorem execWedgeRegisterWrite_next {s : State} {n value : Nat} {writer : Sender}
    (hwritable : wedgeWritable s.mode.mode writer n = true) (hoff : n = 6 → wedgeOffOk s (value &&& 0xFFFF) = true) :
    execWedgeRegisterWrite n value writer s =
      .next (setKiln (fun x => { x with wedgeNext := x.wedgeNext ++ [(n, value &&& wedgeMask n)] }) s) := by
  have hok : (n != 6 || wedgeOffOk s (value &&& 0xFFFF)) = true := by
    by_cases hn : n = 6
    · rw [hoff hn, Bool.or_true]
    · simp [hn]
  exact next_of_whenever (by rw [hwritable, hok, Bool.and_self]) rfl

theorem execWedgeStatus_next {s : State} {r : Req} (htaken : Taken 0x0F40 r s) :
    execWedgeStatus r s = .next (reply r 0x0F40 stOk (s.snap.wedgeRegs.flatMap (le 4) ++
      le 4 (packBits ((List.range 7).map (wedgeWritable s.mode.mode .hostSpi))) ++ le 4 s.snap.wedgeSet) s) :=
  brixo_of_answer htaken rfl

/-- Settles O58: the time-out frees the semaphore, so the host's later release finds no owner. That the command stands for the
instant of the deadline is the model's choice (log entry 3). -/
theorem semaphoreTimeout : Obligations.SemaphoreTimeout := by
  unfold Obligations.SemaphoreTimeout
  intro s n q hd3 hsem howner
  have hheld : semOwner s n = some 0x10 := by rw [semOwner, hsem, Option.getD_some, howner]
  refine ⟨hostTimedOut n s, execSemHostTimeout_next hd3 hheld, ?_, rfl, semOwner_hostTimedOut n s, fun v =>
    execSemaphoreRelease_of_free 0x10 v (semOwner_hostTimedOut n s)⟩
  rw [hostTimedOut, hsem, Option.getD_some]

/-- Settles O16: each read, release and time-out of a semaphore, each Wedge write and WEDGE_STATUS answers its next state. The
instant clk.now is the model's own (log entry 3). -/
theorem semaphoreWedgeCommandsComplete : Obligations.SemaphoreWedgeCommandsComplete := by
  unfold Obligations.SemaphoreWedgeCommandsComplete
  refine ⟨?_, ?_, ?_, ?_, ?_, ?_⟩
  · exact fun _ _ _ => execSemaphoreRead_acquires_next
  · exact fun _ _ _ _ => execSemaphoreRead_owned_next
  · exact fun _ _ _ _ => execSemaphoreRelease_next
  · exact fun s n hd3 howner => ⟨_, execSemHostTimeout_next hd3 howner, semOwner_hostTimedOut n s⟩
  · exact fun _ _ _ _ => execWedgeRegisterWrite_next
  · exact fun _ _ => execWedgeStatus_next

/-- Settles O15: each event of speed, each task's release, run, theft and miss, each change of shedding, each cell failure, an
agreeing cross-check and KILN_STATUS answers its next state. The restart of the runs of misses and of clean epochs, the cell of a
class C or B task and the attempts in 100 µs are the model's choice (log entry 53). -/
theorem kilnCommandsComplete : Obligations.KilnCommandsComplete := by
  unfold Obligations.KilnCommandsComplete
  refine ⟨?_, ?_, ?_, ?_, ?_, ?_, ?_, ?_, ?_, ?_, ?_, ?_, ?_, ?_, ?_⟩
  · exact fun _ => execSpeedMonitor_next
  · exact fun _ => execSpeedRestored_next
  · exact fun _ _ _ _ _ _ => execKilnTaskRelease_periodic_next
  · exact fun _ _ _ _ _ => execKilnTaskRelease_other_next
  · exact fun _ _ _ => execKilnTaskRun_next
  · exact fun _ _ _ _ _ _ hd3 hhealthy hunmasked hempty hallowed hwake =>
      execKilnSteal_found_next hd3 hhealthy hunmasked hempty hallowed hwake
  · exact fun _ _ hround hd3 hhealthy hunmasked hempty hallowed hwake =>
      execKilnSteal_none_next hd3 hhealthy hunmasked hempty hallowed hwake hround
  · exact fun _ _ _ => execKilnDeadlineMiss_counted_next
  · exact fun _ _ => execKilnDeadlineMiss_quality_next
  · exact fun _ => execShedChanged_up_next
  · exact fun _ => execShedChanged_down_next
  · exact fun _ _ => execCellHandshakeTimeout_next
  · exact fun _ _ => execCellMemoryError_next
  · exact fun _ _ _ => execCrossCheck_agrees_next
  · exact fun _ _ _ => execKilnStatus_next

end Sys2Proof.KilnEnginePool

/-! The Brixo command interface (11): that a packet reads back as it was built, which next state each access to a mailbox, each
command of the parameters and each datagram answers, and that every command of the module answers a next state. -/

namespace Sys2Proof.CommandInterface

open Sys2Proof Sys2Proof.Machine Sys2Proof.Safety Sys2Proof.ModesPower Sys2Proof.MeasurementInputs
open Sys2Proof.KilnEnginePool

/-! Little-endian fields (00). -/

theorem ofLe_le {n v : Nat} (hv : v < 256 ^ n) : ofLe (le n v) = v := by
  induction n generalizing v with
  | zero => rw [le, ofLe]; omega
  | succ n ih =>
    have hrest : v / 256 < 256 ^ n := Nat.div_lt_of_lt_mul (by rwa [Nat.pow_succ, Nat.mul_comm] at hv)
    rw [le, ofLe, ih hrest, BitVec.toNat_ofNat]
    exact Nat.mod_add_div v 256

/-- A field behind some bytes is the field of what follows them. -/
theorem fieldAt_append {pre : List Byte} {off : Nat} (suf : List Byte) (n : Nat) (hoff : pre.length ≤ off) :
    fieldAt (pre ++ suf) off n = fieldAt suf (off - pre.length) n := by
  rw [fieldAt, fieldAt, List.drop_append, List.drop_eq_nil_of_le hoff, List.nil_append]

/-- A field reads back as the number that was written there. -/
theorem fieldAt_le {n v : Nat} (suf : List Byte) (hv : v < 256 ^ n) : fieldAt (le n v ++ suf) 0 n = v := by
  rw [fieldAt, padTo, List.drop_zero, List.append_assoc, List.take_left' (le_length n v), ofLe_le hv]

theorem crc32c_lt (l : List Byte) : crc32c l < 256 ^ 4 := BitVec.isLt _

/-! A packet of the module read back (R276). -/

/-- The header of an inline packet, the byte after SEQ zero. -/
def packetHead (c flags op q : Nat) (payload : List Byte) : List Byte :=
  le 1 (16 + flags) ++ le 1 c ++ le 2 op ++ le 2 payload.length ++ le 1 q ++ le 1 0

@[simp] theorem packetHead_length (c flags op q : Nat) (payload : List Byte) : (packetHead c flags op q payload).length = 8 := by
  simp [packetHead]

theorem inlinePacket_eq (c flags op q : Nat) (payload : List Byte) : inlinePacket c flags op q payload =
    packetHead c flags op q payload ++ (payload ++ le 4 (crc32c (packetHead c flags op q payload ++ payload))) :=
  List.append_assoc ..

section Packet

variable {c flags op q : Nat} {payload : List Byte}

theorem inlinePacket_length : (inlinePacket c flags op q payload).length = 12 + payload.length := by
  rw [inlinePacket_eq, List.length_append, List.length_append, packetHead_length, le_length]
  omega

theorem inlinePacket_payload : ((inlinePacket c flags op q payload).drop 8).take payload.length = payload := by
  rw [inlinePacket_eq, List.drop_left' (packetHead_length ..), List.take_left]

theorem crcHead_inlinePacket : crcHead (inlinePacket c flags op q payload) = packetHead c flags op q payload := by
  rw [inlinePacket_eq, crcHead, List.take_append_of_le_length (by simp), packetHead, List.take_left' (by simp)]
  rfl

/-- The CRC stands behind the payload and covers the header and the payload. -/
theorem inlinePacket_crc : fieldAt (inlinePacket c flags op q payload) (8 + payload.length) 4 =
    crc32c (packetHead c flags op q payload ++ payload) := by
  have hbehind : (packetHead c flags op q payload ++ payload).length = 8 + payload.length := by
    rw [List.length_append, packetHead_length]
  rw [inlinePacket_eq, ← List.append_assoc, fieldAt_append _ _ (Nat.le_of_eq hbehind), hbehind, Nat.sub_self, ← List.append_nil (le 4 _),
    fieldAt_le [] (crc32c_lt _)]

theorem packetOf_inlinePacket (hc : c < 256) (hflags : flags < 16) (hop : op < 65536) (hq : q < 256)
    (hlength : payload.length < 65536) :
    packetOf (inlinePacket c flags op q payload) = ⟨16 + flags, c, op, payload.length, q⟩ := by
  have hbytes : inlinePacket c flags op q payload = le 1 (16 + flags) ++ (le 1 c ++ (le 2 op ++ (le 2 payload.length ++
      (le 1 q ++ (le 1 0 ++ (payload ++ le 4 (crc32c (packetHead c flags op q payload ++ payload)))))))) := by
    simp only [inlinePacket_eq, packetHead, List.append_assoc]
  rw [hbytes, packetOf]
  congr 1
  · exact fieldAt_le _ (by omega)
  · simp [fieldAt_append, fieldAt_le, hc]
  · simp [fieldAt_append, fieldAt_le, hop]
  · simp [fieldAt_append, fieldAt_le, hlength]
  · simp [fieldAt_append, fieldAt_le, hq]

end Packet

/-- Settles O52: the fields of the header stand one after the other, each of its own width, and the payload and the CRC behind
them. -/
theorem packetRoundTrip : Obligations.PacketRoundTrip := by
  unfold Obligations.PacketRoundTrip
  intro c flags op q payload hc hflags hop hq hpayload b
  have hfields : packetOf b = ⟨16 + flags, c, op, payload.length, q⟩ :=
    packetOf_inlinePacket hc hflags hop hq (by omega)
  have hread : (b.drop 8).take (packetOf b).len = payload := by
    rw [hfields]
    exact inlinePacket_payload
  refine ⟨hfields, hread, inlinePacket_length, ?_⟩
  rw [hread, crcHead_inlinePacket]
  exact inlinePacket_crc

/-! Words, packets and registers (R271–R274, R278, R287). -/

section Words

variable {s : State} {c : Nat}

theorem execH2mDataWrite_room_next (w : Nat) (hserving : serving s = true) (hc : c < 8) (hskip : (chanOf s c).skip = 0)
    (hroom : inWords (chanOf s c) < 16) : execH2mDataWrite c w s =
      .next (setChan c (fun ch => settle { ch with part := ch.part ++ [w % 2 ^ 32] }) s) :=
  next_of_whenever (by simp [hserving, hc]) (by simp [hskip, Nat.not_le.mpr hroom])

theorem execH2mDataWrite_full_next (w : Nat) (hserving : serving s = true) (hc : c < 8) (hskip : (chanOf s c).skip = 0)
    (hfull : 16 ≤ inWords (chanOf s c)) : execH2mDataWrite c w s =
      .next (setHatch (fun h => { h with irqOverflow := true }) (setChan c (fun ch => { ch with overflow := true }) s)) :=
  next_of_whenever (by simp [hserving, hc]) (by simp [hskip, hfull])

theorem execHatchPacketTake_next {u : State} {ws : List Nat} {rest : List (List Nat)} (hinbox : (chanOf s c).inbox = ws :: rest)
    (hserving : serving s = true) (hc : c < 8) (hacks : (chanOf s c).acks.length < 8)
    (hu : u = setChan c (fun ch => { ch with inbox := rest }) s) (hform : formOk c (ofWords ws) = true)
    (hcrc : crcOk u c (ofWords ws) = true) (hfew : pendingN s .hostSpi c < 8) : execHatchPacketTake c s =
      .next (takeRequestPkt .hostSpi c (packetOf (ofWords ws)).seq (packetOf (ofWords ws)).opcode
        (payloadOf u c (ofWords ws)) (writeAck c 0 (packetOf (ofWords ws)).seq u)) := by
  have hpending : pendingN u .hostSpi c < 8 := by rwa [hu]
  unfold execHatchPacketTake
  rw [hinbox]
  refine next_of_whenever (by simp [hserving, hc, hacks]) ?_
  rw [← hu]
  simp [hform, hcrc, Nat.not_le.mpr hpending]

theorem execH2mAckRead_serving_next (hserving : serving s = true) (hc : c < 8) : execH2mAckRead c s =
    .next (readAs (((chanOf s c).acks.head?).getD 0) (setChan c (fun ch => { ch with acks := ch.acks.drop 1 }) s)) :=
  next_of_whenever (decide_eq_true hc) (if_pos hserving)

theorem execH2mAckRead_idle_next (hidle : serving s = false) (hc : c < 8) : execH2mAckRead c s = .next (readAs 0 s) :=
  next_of_whenever (decide_eq_true hc) (by simp [hidle])

theorem execM2hDataRead_empty_next (hserving : serving s = true) (hc : c < 8) (hempty : (chanOf s c).outbox = []) :
    execM2hDataRead c s = .next (readAs 0 (setChan c (fun ch => { ch with underflow := true }) s)) :=
  next_of_whenever (decide_eq_true hc) (by simp [hserving, hempty])

theorem execM2hDataRead_word_next {p : OutPacket} {w : Nat} {ws : List Nat} {rest : List OutPacket} (hserving : serving s = true)
    (hc : c < 8) (houtbox : (chanOf s c).outbox = p :: rest) (hwords : p.words = w :: ws) (hmore : ws ≠ []) :
    execM2hDataRead c s =
      .next (setChan c (fun ch => { ch with outbox := { p with words := ws } :: rest }) (readAs w s)) :=
  next_of_whenever (decide_eq_true hc) (by simp [hserving, houtbox, hwords, hmore])

/-- The host's ACK of the packet that it has read ends the wait for it. -/
theorem execM2hAckWrite_next {value : Nat} {p : OutPacket} (hawait : (chanOf s c).await = some p) (hserving : serving s = true)
    (hvalid : bitN value 31 = true) (hseq : value % 256 = p.seq) : execM2hAckWrite c value s =
      .next (if p.reply then setHatch (fun h => unpend h .hostSpi c p.seq) (setChan c (fun ch => { ch with await := none }) s)
        else setChan c (fun ch => { ch with await := none }) s) := by
  unfold execM2hAckWrite
  rw [hawait]
  exact next_of_whenever (by simp [hserving, hvalid, hseq]) rfl

theorem execRegisterWrite_bulk_next {addr : Nat} (value : Nat) (hserving : serving s = true) (hlow : 0x10000 ≤ addr)
    (hhigh : addr < 0x18000) :
    execRegisterWrite addr value s = .next (viewWrite s (bulkBase + (addr - 0x10000)) (BitVec.ofNat 8 value)) := by
  have hmask : addr ≠ 0x000C := by omega
  have hdma : ¬ addr < 0x0500 := by omega
  exact next_of_whenever hserving (by simp [hmask, hdma, hlow, hhigh])

theorem execHatchQueuePlacement_note_next {n : Note} (hserving : serving s = true) (hc : c < 8)
    (hnote : firstNote s.hatch.notes c [0] = some n) : execHatchQueuePlacement c s = .next (placeNote c n s) :=
  next_of_whenever (by simp [hserving, hc]) (by rw [hnote])

theorem execHatchQueuePlacement_reply_next {p : Reply} (hserving : serving s = true) (hc : c < 8)
    (hnone : firstNote s.hatch.notes c [0] = none) (hreply : s.hatch.replies.find? (·.chan = c) = some p) :
    execHatchQueuePlacement c s = .next (placeReply c p s) :=
  next_of_whenever (by simp [hserving, hc]) (by rw [hnone, hreply])

end Words

/-- Settles O17: each word, packet and register access answers its next state. That a word to a full queue is lost and the order of
placement are the model's choice (log entry 42). -/
theorem hatchWordCommandsComplete : Obligations.HatchWordCommandsComplete := by
  unfold Obligations.HatchWordCommandsComplete
  refine ⟨?_, ?_, ?_, ?_, ?_, ?_, ?_, ?_, ?_, ?_, ?_, ?_, ?_, ?_, ?_, ?_, ?_⟩
  · exact fun _ _ => execH2mDataWrite_room_next
  · exact fun _ _ => execH2mDataWrite_full_next
  · exact fun _ _ _ _ hinbox hserving hc hacks hform hcrc hfew =>
      execHatchPacketTake_next hinbox hserving hc hacks rfl hform hcrc hfew
  · exact fun _ _ => execH2mAckRead_serving_next
  · exact fun _ _ => execH2mAckRead_idle_next
  · exact fun _ _ hserving => next_of_whenever hserving rfl
  · exact fun _ _ hserving => next_of_whenever hserving rfl
  · exact fun _ _ => execM2hDataRead_empty_next
  · exact fun _ _ _ _ _ _ => execM2hDataRead_word_next
  · exact fun _ _ _ _ hawait hserving hvalid hseq hnotify =>
      (execM2hAckWrite_next hawait hserving hvalid hseq).trans (by simp [hnotify])
  · exact fun _ _ _ _ hawait hserving hvalid hseq hreply =>
      (execM2hAckWrite_next hawait hserving hvalid hseq).trans (by simp [hreply])
  · exact fun _ _ hserving => next_of_whenever hserving rfl
  · exact fun _ _ hserving => next_of_whenever hserving rfl
  · exact fun _ _ hserving => next_of_whenever hserving rfl
  · exact fun _ _ => execRegisterWrite_bulk_next
  · exact fun _ _ _ => execHatchQueuePlacement_note_next
  · exact fun _ _ _ => execHatchQueuePlacement_reply_next

/-! Parameters, Hatch status and the Ethernet transport (R284–R286, R290, R294). -/

section Parameters

variable {s : State} {r : Req} {id : Nat} {p : ParamRow}

theorem execParamGet_next (htaken : Taken 0x0110 r s) (hrow : paramRow id = some p)
    (henabled : enabled s.ident.variant p.fn = true) : execParamGet r id s = .next (reply r 0x0110 stOk (getBody p
      (packBits [(paramView s p).next.isSome, p.isSealed && sealSet s, p.readOnly, !(paramView s p).written])
      (if (paramView s p).written then paramView s p else { paramView s p with since := 0 })) s) :=
  brixo_of_answer htaken (by simp only [hrow, henabled]; rfl)

theorem execParamGet_disabled_next (htaken : Taken 0x0110 r s) (hrow : paramRow id = some p)
    (hdisabled : enabled s.ident.variant p.fn = false) :
    execParamGet r id s = .next (reply r 0x0110 stOk (getBody p 0x0C ⟨p.dflt, 0, none, false⟩) s) :=
  brixo_of_answer htaken (by simp only [hrow, hdisabled]; rfl)

/-- A write that passes every check of R285 is accepted. -/
theorem execParamSet_next {value : List Byte} (htaken : Taken 0x0111 r s) (hrow : paramRow id = some p)
    (henabled : enabled s.ident.variant p.fn = true) (hwritable : p.readOnly = false)
    (hmode : modeAllows s p (p.ty.read value) = true) (hseal : (p.isSealed && sealSet s) = false)
    (hshu : shuRefusal s id r.sender = none) (hstandby : standbyRefusal s id = none) (hlength : value.length = p.ty.size)
    (hvalue : valueOk s p (p.ty.read value) = true) (hfree : setBusy s p (p.ty.read value).toNat = false) :
    execParamSet r id p.ty.size value s = .next (reply r 0x0111 stOk (le 2 id ++ le 1 p.cls.code ++ zeros 1 ++
      le 8 (acceptWrite p (p.ty.read value) r.sender.code s).1) (acceptWrite p (p.ty.read value) r.sender.code s).2) :=
  brixo_of_answer htaken
    (by simp [hrow, henabled, hwritable, hmode, hseal, hshu, hstandby, hlength, hvalue, hfree])

theorem execParamEffective_next (hother : id ≠ 0x0106) : execParamEffective id s = .next (promote id s) := if_neg hother

theorem execParamEffective_commissioned_next (hserving : serving s = true) (hmode : s.mode.mode = .commission)
    (hunset : param s 0x0106 = 0) : execParamEffective 0x0106 s = .next (forceParam s 0x0106 1) :=
  (if_pos rfl).trans <| next_of_whenever (by simp [hserving, hmode, hunset]) rfl

end Parameters

section Datagrams

variable {s : State} {port peer : Nat} {data : List Byte} (hserving : serving s = true) (hport : port < 2)
  (hopen : bitN (param s 0x010A) port = true) (hipv4 : fromIpv4 peer = true → param s 0x0C09 ≠ 0)
  (hfits : (s.hatch.ipParts ++ data).length ≤ 4108)

include hserving hport hopen hipv4 in
/-- A datagram on an open port from an admitted source is taken. -/
theorem datagram_admitted :
    (serving s && decide (port < 2) && bitN (param s 0x010A) port && !(fromIpv4 peer && param s 0x0C09 == 0)) = true := by
  cases hsource : fromIpv4 peer with
  | false => simp [hserving, hport, hopen]
  | true => simp [hserving, hport, hopen, hipv4 hsource]

include hserving hport hopen hipv4 hfits

theorem execBrixoEthDatagram_last_next : execBrixoEthDatagram port peer data true s =
    .next (takeDatagram (if port = 0 then .ethE0 else .ethE1) peer (s.hatch.ipParts ++ data)
      (setHatch (fun h => { h with ipParts := [], ipSince := none }) s)) :=
  next_of_whenever (datagram_admitted hserving hport hopen hipv4) (by rw [if_neg (Nat.not_lt.mpr hfits)]; rfl)

theorem execBrixoEthDatagram_part_next : ∃ t, execBrixoEthDatagram port peer data false s = .next t ∧
    t.hatch.ipParts = s.hatch.ipParts ++ data ∧ t.hatch.ipSince = some ((s.hatch.ipSince).getD s.clk.now) :=
  exists_next_of_whenever (datagram_admitted hserving hport hopen hipv4) fun t ht => by
    rw [ht, if_neg (Nat.not_lt.mpr hfits)]
    exact ⟨rfl, rfl⟩

end Datagrams

theorem execIpReassemblyTimeout_next {s : State} {at0 : Tick} (hsince : s.hatch.ipSince = some at0) :
    execIpReassemblyTimeout s =
      .next (setHatch (fun h => { h with ipParts := [], ipSince := none }) (advanceTo (at0 + Tick.s 2) s)) := by
  rw [execIpReassemblyTimeout, hsince]

/-- Settles O18: each read, write and taking effect of a parameter, HATCH_STATUS and each datagram answers its reply and its next
state. That PARAM_EFFECTIVE sets 0x0106 in COMMISSION (log entry 67) and that SEALED is clear for a parameter of a disabled function
(log entry 87) are the model's choice, and the instant clk.now is its own (log entry 3). -/
theorem parameterCommandsComplete : Obligations.ParameterCommandsComplete := by
  unfold Obligations.ParameterCommandsComplete
  refine ⟨?_, ?_, ?_, ?_, ?_, ?_, ?_, ?_, ?_, ?_⟩
  · exact fun _ _ _ _ htaken hrow henabled hwritten =>
      (execParamGet_next htaken hrow henabled).trans (by rw [hwritten]; rfl)
  · exact fun _ _ _ _ htaken hrow henabled hdefault =>
      (execParamGet_next htaken hrow henabled).trans (by rw [hdefault]; rfl)
  · exact fun _ _ _ _ _ => execParamSet_next
  · exact fun _ _ => execParamEffective_next
  · exact fun _ => execParamEffective_commissioned_next
  · exact fun _ _ _ _ => execParamGet_disabled_next
  · exact fun _ _ htaken => brixo_of_answer htaken rfl
  · exact fun _ _ _ _ => execBrixoEthDatagram_last_next
  · exact fun _ _ _ _ => execBrixoEthDatagram_part_next
  · exact fun _ _ => execIpReassemblyTimeout_next

/-! No command faults or is refused. -/

/-- A request, taken or not, refused or not, leaves a next state (R283; log entry 7). -/
theorem exists_next_of_brixo {code : Nat} {r : Req} {s : State} {f : State → Answer} : ∃ t, brixo code r s f = .next t := by
  unfold brixo
  split
  · split <;> exact ⟨_, rfl⟩
  · exact ⟨_, rfl⟩

theorem exists_next_of_received {dst : Nat} {s : State} {f : State → State} : ∃ t, received dst s f = .next t := by
  unfold received
  split <;> exact ⟨_, rfl⟩

/-- Every command answers a next state. The commands stand in groups by the shape of their meaning: an effect under the command's
own condition, a request, a frame of the carrier, and what waits on one, two or three things that the state may not hold. -/
theorem exists_next_exec (c : Instr) (s : State) : ∃ t, exec c s = .next t := by
  cases c with
  | mainsApplied | railsGood | d1Start | d2Start | d3LeavesReset | readyRises | vholdReachesThreshold | vholdChargeTimeout
  | firstModeEntered | interimToService | watchDelayExpiry | watchWake | mainsFailDetection | mainsAbsentDecision
  | finalSignedReading | holdupDisplayDecision | holdupSequenceEnd | hrstLow | watchdogExpiry | enginePoolFault
  | timebaseFault | spyholeReset | railWarning | statusFrame | sample400k | mainPathSample | epochStateCapture
  | journalNotDurable | peWindowEval | periodicReadingDue | slewComplete | civilBoundary | km1FeedbackMismatch
  | speedMonitor | speedRestored | kilnTaskRelease | kilnSteal | kilnDeadlineMiss | cellHandshakeTimeout | cellMemoryError
  | crossCheck | semaphoreRead | semaphoreRelease | semHostTimeout | wedgeRegisterWrite | h2mDataWrite | h2mAckRead
  | h2mFlush | h2mOverflowClear | m2hDataRead | m2hUnderflowClear | irqStatusClear | registerWrite | hatchQueuePlacement
  | brixoEthDatagram | dctrlWrite | dmaChannelAbort | descriptorStagingWrite | descriptorCommit | dstatClear
  | dmaDescriptorStart | cpStateChange | ppStateChange | slacMessage | v2gMessage | canFrameReceived | canFrameSend
  | cableCheckReady | prechargeComplete | shutterEvaluationCycle | channelDisagreement | channelLinkLoss | close
  | openOrderly | openNow | pwm | limit | reclaim | rcmTest | openCoil | estopLineOpen | estopTestPulse | sresetRelease
  | sresetStuck | lswThermalOff | lswIlimTimeout | lswRetryRefill | lswOpenLoad | lswOffStateShort | vauxUndervoltage
  | vauxRecovery | vauxPowerCycle | vauxGndOpen | vauxGndRestored | loadDump | tampSample | meshBreach | dbgEnableWrite
  | spyholeDebugAccess | pollCycle | lowPowerDetectPulse | stayQuiet | select | resetToReady | getSystemInformation
  | readSingleBlock | readMultipleBlocks | writeSingleBlock | writeMultipleBlocks | lbUnsupportedCommand | lbFieldDrop
  | lbBrixoRequest | letterboxSummaryWrite | dispRailFault | supplyZeroCrossing | beacon | beaconTimer | helloTimer
  | helloReceived | routeTimer | addressConflictClear | ethernetFrame | borrowTick | tokenRequest | tokenGrant
  | tokenAccept | tokenCommit | tokenAbort | tokenRenew | tokenRenewed | tokenReturn | tokenRecall | peerClaimFrame
  | peerClaimSilence | hingeHeartbeat | hingeEpochMessage | yieldWithdraw | hingeIsolated | hingeRoleResume | hingeResync
  | hingeProofTest | trialTimeout | chainOffer | chainRequest | chainChunk | chainHave | adcConversionComplete
  | urgentAdcRequest | adcTrigEdge | rtcDiscipline | idleCheckArm | idleCurrentBlock | rs485ByteReceived | railsFall
  | vbatApplied | hspiCsFalling | v12OutOverload | vauxInReversed | hingeEpochAck => exact ⟨_, rfl⟩
  | sysModeGet | sysModeRequest | sysReset | sysHoldupInfo | metInputStatus | metInputSelftest | metSieveStatus
  | metSieveHalt | metSieveSetLoad | metEnergyRead | metDeltaRead | metMeasRead | metSumsRead | metCalMeasure
  | metCalCommit | metTempTableLoad | metTempStatus | metLrId | metPqSummary | metPqHarmRead | metPqShRead
  | metPqEventRead | ledSnapshotRead | ledSeriesRead | ledWaveCapture | ledSignReading | ledStatus | bilTimeSet
  | bilTimeGet | bilTzLoad | bilCalendarLoad | bilTariffRead | bilBillingClose | bilBillingRead | bilCreditTransfer
  | bilCreditStatus | bilEmergencyActivate | bilDisconnect | kilnStatus | wedgeStatus | paramGet | paramSet | hatchStatus
  | dmaStatus | dmaAbort | vehStatus | vehAuthorise | vehLimitsSet | vehStop | vehAvailability | vehCertLoad
  | vehRelayAnswer | shuStatus | shuReset | shuConfigOpen | shuConfigClose | shuPasswordSet | shuRcmTest | shuLogRead
  | lswStatus | lswControl | sagStatus | sagSlotInfo | sagKeyGenerate | sagKeyWrite | sagKeyImport | sagKeyDerive
  | sagKeyErase | sagPubkeyExport | sagCertAttach | sagLifecycleSet | sagTamperAck | sagUnlockChallenge | conStatus
  | conTune | conListLoad | conLbRead | conLbWrite | conLbConfig | dispStatus | dispImageWrite | dispUpdate | dispClean
  | mcStatus | mcNeighbourRead | mcTonemapRefresh | linStatus | linTokenStatus | linForward | hngStatus | hngSwitch
  | hngForce | hngProofRun | updStatus | updStageBegin | updStageWrite | updVerify | updActivate | updConfirm | auxRead
  | auxConvert | auxTrigRead | nlStatus | nlWakeAck | diagStatus | diagRead | diagFreeze | diagClear | sysRs485Send =>
    dsimp only [exec]
    exact exists_next_of_brixo
  | mcDataFrame | mcAckFrame | toneMapRequest | toneMapReply =>
    dsimp only [exec]
    exact exists_next_of_received
  | holdupCapMeasured | sysResetBegin | reclaimTimerExpiry | epochLatch | meteringStopOpen | magField | magFieldEnd
  | overrangeClose | sieveSaturationClose | selftestEnd | sieveStop | sieveRestart | delayedReadAndReset | neutralMismatch
  | reverseFlow | calMeasureSpanEnd | urmsHalfSegmentEnd | pqArm | waveCaptureCopy | timeChangeEffective
  | commandBillingClose | kilnTaskRun | hatchPacketTake | m2hAckWrite | ipReassemblyTimeout | dmaWriteBack | slacTimeout
  | authTimeout | overdraw | sessionClose | powerModuleLost | cableCheckTimeout | prechargeTimeout | dcDischargeEnd
  | orderlyStopWaitEnd | kmPullinEnd | kfbTimeout | estopDiscrep | rcmSelftestStepEnd | rcmSelftestAge | iPermHoldEnd
  | weldTest | coilSupplyLow | pendingResetLapse | cpStateAHeld | configSessionIdle | lockoutEnd | lswLatchRelease
  | lswPulseEnd | lifecycleRestart | earthLoading | dispRailsGood | dispFrameEnd | dispRailsDown | waitingUpdateCheck
  | mcFrameBegin | mcAckWindowExpiry | mcIncompleteFrameDiscard | toneMapRefreshDue | mcNeighbourLost | linkDown
  | linkRetransmitTimeout | fabricPacketReceived | fragmentReassemblyTimeout | tokenLendable | tokenAcceptTimeout
  | tokenCommitWait | leaseHalf | leaseRelease | leaseExpiry | recallReturnTimer | reissueClockExpiry | quarantineEnd
  | linForwardTimeout | hingeTakeover | verifyComplete | activationRestart | autoConfirm | iTempRaiseStep
  | wakeOutPulseEnd | freezeTimeout | rs485FrameEnd | rs485SendComplete | v12OutRestart | addressTableAgeing
  | paramEffective | reset | inventory =>
    simp -zeta only [exec, execHoldupCapMeasured, execSysResetBegin, execReclaimTimerExpiry, execEpochLatch,
      execMeteringStopOpen, execMagField, execMagFieldEnd, execOverrangeClose, execSieveSaturationClose, execSelftestEnd,
      execSieveStop, execSieveRestart, execDelayedReadAndReset, execNeutralMismatch, execReverseFlow,
      execCalMeasureSpanEnd, execUrmsHalfSegmentEnd, execPqArm, execWaveCaptureCopy, execTimeChangeEffective,
      execCommandBillingClose, execKilnTaskRun, execHatchPacketTake, execM2hAckWrite, execIpReassemblyTimeout,
      execDmaWriteBack, execSlacTimeout, execAuthTimeout, execOverdraw, execSessionClose, execPowerModuleLost,
      execCableCheckTimeout, execPrechargeTimeout, execDcDischargeEnd, execOrderlyStopWaitEnd, execKmPullinEnd,
      execKfbTimeout, execEstopDiscrep, execRcmSelftestStepEnd, execRcmSelftestAge, execIPermHoldEnd, execWeldTest,
      execCoilSupplyLow, execPendingResetLapse, execCpStateAHeld, execConfigSessionIdle, execLockoutEnd,
      execLswLatchRelease, execLswPulseEnd, execLifecycleRestart, execEarthLoading, execDispRailsGood, execDispFrameEnd,
      execDispRailsDown, execWaitingUpdateCheck, execMcFrameBegin, execMcAckWindowExpiry, execMcIncompleteFrameDiscard,
      execToneMapRefreshDue, execMcNeighbourLost, execLinkDown, execLinkRetransmitTimeout, execFabricPacketReceived,
      execFragmentReassemblyTimeout, execTokenLendable, execTokenAcceptTimeout, execTokenCommitWait, execLeaseHalf,
      execLeaseRelease, execLeaseExpiry, execRecallReturnTimer, execReissueClockExpiry, execQuarantineEnd,
      execLinForwardTimeout, execHingeTakeover, execVerifyComplete, execActivationRestart, execAutoConfirm,
      execITempRaiseStep, execWakeOutPulseEnd, execFreezeTimeout, execRs485FrameEnd, execRs485SendComplete,
      execV12OutRestart, execAddressTableAgeing, execParamEffective, execReset, execInventory]
    split <;> exact ⟨_, rfl⟩
  | cfPulseEdge | cfPulseEnd | transomRefresh =>
    simp -zeta only [exec, execCfPulseEdge, execCfPulseEnd, execTransomRefresh]
    extract_lets
    split <;> exact ⟨_, rfl⟩
  | signatureComplete =>
    simp -zeta only [exec, execSignatureComplete]
    extract_lets reading
    clear_value reading
    cases reading <;> exact ⟨_, rfl⟩
  | meteringFaultEnd | imageCopyComplete | waitingUpdateTimeout | chainFetchTimeout | watchRule | diagTokenRefill
  | modeChangeEffective =>
    simp -zeta only [exec, execMeteringFaultEnd, execImageCopyComplete, execWaitingUpdateTimeout, execChainFetchTimeout,
      execWatchRule, execDiagTokenRefill, execModeChangeEffective]
    split
    · exact ⟨_, rfl⟩
    · split <;> exact ⟨_, rfl⟩
  | gainMismatch | shedChanged =>
    simp -zeta only [exec, execGainMismatch, execShedChanged]
    extract_lets
    split
    · exact ⟨_, rfl⟩
    · split <;> exact ⟨_, rfl⟩
  | journalAppendComplete | dmaBurst =>
    simp only [exec, execJournalAppendComplete, execDmaBurst]
    split
    · exact ⟨_, rfl⟩
    · split
      · exact ⟨_, rfl⟩
      · split <;> exact ⟨_, rfl⟩
/-- Settles O45: each meaning ends in a next state on every branch. That an event whose own condition does not hold leaves the state
as it is, is the model's choice (log entry 6). -/
theorem everyCommandAnswers : Obligations.EveryCommandAnswers := exists_next_exec

end Sys2Proof.CommandInterface

/-! Frames, chapter by chapter, and the canonical form of the DMA memory: what every step keeps. -/

namespace Sys2Proof.StepKeeps

open Sys2Proof Sys2Proof.Machine Sys2Proof.Safety Sys2Proof.Laws Sys2Proof.Frames

/-! What a command changes, and what a step runs. -/

/-- Settles O53: the frame of every command of chapters 1 to 7. -/
theorem frameMeasurement : Obligations.FrameMeasurement := fun c s t _ hstep => exec_within c s t hstep

/-- Settles O54: the frame of every command of chapters 8 to 12. -/
theorem frameRecordsInterfaces : Obligations.FrameRecordsInterfaces := fun c s t _ _ hstep => exec_within c s t hstep

/-- Settles O55: the frame of every command of chapters 13 to 17. -/
theorem frameVehicleShutterKeys : Obligations.FrameVehicleShutterKeys := fun c s t _ _ hstep => exec_within c s t hstep

/-- Settles O56: the frame of every command of chapters 18 to 25. -/
theorem frameDisplayFabricUpdate : Obligations.FrameDisplayFabricUpdate := fun c s t _ hstep => exec_within c s t hstep

/-- Settles O42: a step takes the command at the front of the queue (log entry 3). -/
theorem stepRunsFrontCommand : Obligations.StepRunsFrontCommand := fun _ _ _ => rfl

theorem step_of_empty {s : State} (hempty : s.pending = []) : step s = .next s := by rw [step, hempty]

theorem step_of_cons {s : State} {c : Instr} {rest : List Instr} (hfront : s.pending = c :: rest) :
    step s = exec c { s with pending := rest } := by rw [step, hfront]

/-- Settles O43: with an empty queue the module idles, the model's own choice (log entry 3). -/
theorem stepIdlesOnEmptyQueue : Obligations.StepIdlesOnEmptyQueue := fun _ => step_of_empty

/-! Operations that leave the byte memory. -/

theorem memoryOk_of_mem {s t : State} (hmem : t.dma.mem = s.dma.mem) (hok : MemoryOk s) : MemoryOk t := by
  rwa [MemoryOk, hmem]

theorem memoryOk_of_onlyChanges {l : List Block} {s t : State} (hspared : l.all (· != .dma) = true)
    (hframe : onlyChanges l s t) (hok : MemoryOk s) : MemoryOk t :=
  memoryOk_of_mem (congrArg Dma.mem (kept_dma (forget_of_onlyChanges hspared hframe))) hok

@[simp] theorem setDma_mem (c : Nat) (d : DmaChan) (s : State) : (setDma c d s).dma.mem = s.dma.mem := rfl

@[simp] theorem diagTrigger_dma (n subject : Nat) (s : State) : (diagTrigger n subject s).dma = s.dma :=
  kept_dma (by simp (disch := decide))

@[simp] theorem dmaDone_dma (c idx status : Nat) (ws : List Nat) (done : Nat) (s : State) :
    (dmaDone c idx status ws done s).dma = s.dma :=
  kept_dma (by simp (disch := decide))

@[simp] theorem reply_dma (r : Req) (code st : Nat) (body : List Byte) (s : State) : (reply r code st body s).dma = s.dma :=
  kept_dma (by simp (disch := decide))

@[simp] theorem replyTo_dma (r : Option Req) (code st : Nat) (body : List Byte) (s : State) :
    (replyTo r code st body s).dma = s.dma :=
  kept_dma (by simp (disch := decide))

@[simp] theorem dmaBack_mem (c idx status done : Nat) (s : State) : (dmaBack c idx status done s).dma.mem = s.dma.mem := by
  simp only [dmaBack]
  split <;> split <;> simp

/-- An abort writes descriptors back, one after the other in ring order (R303). -/
@[simp] theorem dmaAbort_mem (c : Nat) (s : State) : (dmaAbort c s).1.dma.mem = s.dma.mem := by
  have hring (l : List Nat) (p : State × Nat) : (l.foldl (fun p i =>
      if dOwn (((dmaChan p.1 c).ring[i]?).getD []) then (dmaBack c i 1 0 p.1, p.2 + 1) else p) p).1.dma.mem
        = p.1.dma.mem := by
    induction l generalizing p with
    | nil => rfl
    | cons i l ih =>
      rw [List.foldl_cons, ih]
      split <;> simp
  unfold dmaAbort
  dsimp only
  rw [setDma_mem, hring]
  split
  · rfl
  · split <;> simp

@[simp] theorem abortHostDma_mem (s : State) : (abortHostDma s).dma.mem = s.dma.mem := by
  have hchans (l : List Nat) (s : State) : (l.foldl (fun s c => (dmaAbort c s).1) s).dma.mem = s.dma.mem := by
    induction l generalizing s with
    | nil => rfl
    | cons c l ih => rw [List.foldl_cons, ih, dmaAbort_mem]
  exact hchans _ s

/-! Resets and restarts (R39, R40): the channels are lost, the memory stays. -/

@[simp] theorem d3Clear_mem (s : State) : (d3Clear s).dma.mem = s.dma.mem := by
  have hbefore (u : State) : (dropRequests (loseFreeze (closeConfig u))).dma = u.dma :=
    kept_dma (by simp (disch := decide))
  have hwedge (u : State) : (wedgeZeroNext u).dma = u.dma := kept_dma (by simp (disch := decide))
  unfold d3Clear
  rw [hwedge]
  calc _ = (dropRequests (loseFreeze (closeConfig s))).dma.mem := rfl
    _ = s.dma.mem := by rw [hbefore]

@[simp] theorem coldClear_mem (s : State) : (coldClear s).dma.mem = s.dma.mem := d3Clear_mem s

@[simp] theorem restartAll_mem (cause : Nat) (s : State) : (restartAll cause s).dma.mem = s.dma.mem := coldClear_mem s

@[simp] theorem moduleRestart_mem (cause : Nat) (s : State) : (moduleRestart cause s).dma.mem = s.dma.mem :=
  (restartAll_mem cause _).trans (congrArg Dma.mem (kept_dma (by simp (disch := decide))))

@[simp] theorem loadParts_dma (s : State) : (loadParts s).dma = s.dma := kept_dma (by simp (disch := decide))

@[simp] theorem rollback_mem (cause : Nat) (s : State) : (rollback cause s).dma.mem = s.dma.mem := by
  unfold rollback
  extract_lets recorded loaded
  have hloaded : loaded.dma = s.dma := kept_dma (by simp (disch := decide) [loaded, recorded])
  split
  · rw [hloaded]
  · rw [moduleRestart_mem, hloaded]

@[simp] theorem d3Reset_mem (cause : Nat) (s : State) : (d3Reset cause s).dma.mem = s.dma.mem := by
  have hyield (u : State) : (startReclaim (yieldForReset u)).dma = u.dma := kept_dma (by simp (disch := decide))
  unfold d3Reset
  extract_lets cleared lost down
  have hdown : down.dma.mem = s.dma.mem := by
    have hlost : lost.dma = cleared.dma := kept_dma (by simp (disch := decide) [lost])
    rw [show down.dma = lost.dma from rfl, hlost, hyield, d3Clear_mem]
  split
  · rw [rollback_mem, hdown]
  · exact hdown

/-! A command's effect under its own condition, and a request's. -/

/-- An outcome leaves the canonical form: a next state has it where the state before has it. -/
def KeepsMemory (s : State) (o : Out) : Prop := ∀ t, o = .next t → MemoryOk s → MemoryOk t

theorem keepsMemory_next {s t : State} (h : MemoryOk s → MemoryOk t) : KeepsMemory s (.next t) := by
  intro _ ht
  cases ht
  exact h

theorem keepsMemory_self {s : State} : KeepsMemory s (.next s) := keepsMemory_next id

theorem keepsMemory_whenever {c : Bool} {s : State} {f : State → State} (h : MemoryOk s → MemoryOk (f s)) :
    KeepsMemory s (whenever c s f) := by
  refine keepsMemory_next fun hok => ?_
  split
  · exact h hok
  · exact hok

theorem keepsMemory_whenever_mem {c : Bool} {s : State} {f : State → State} (h : (f s).dma.mem = s.dma.mem) :
    KeepsMemory s (whenever c s f) :=
  keepsMemory_whenever (memoryOk_of_mem h)

theorem memoryOk_after {s : State} {o : Out} (h : KeepsMemory s o) (hok : MemoryOk s) : MemoryOk (after o s) := by
  unfold after
  split
  · exact h _ rfl hok
  · exact hok

theorem memoryOk_after_of_within {l : List Block} {s : State} {o : Out} (hspared : l.all (· != .dma) = true)
    (h : Within l s o) (hok : MemoryOk s) : MemoryOk (after o s) :=
  memoryOk_after (fun t ht => memoryOk_of_onlyChanges hspared (h t ht)) hok

theorem keepsMemory_brixo_mem {code : Nat} {r : Req} {s : State} {f : State → Answer} (h : (f s).state.dma.mem = s.dma.mem) :
    KeepsMemory s (brixo code r s f) := by
  unfold brixo
  split
  · split
    · exact keepsMemory_next (memoryOk_of_mem (by rw [reply_dma]))
    · dsimp only
      split
      · exact keepsMemory_next (memoryOk_of_mem (by rw [reply_dma, h]))
      · exact keepsMemory_next (memoryOk_of_mem h)
  · exact keepsMemory_self

/-! Restarts, resets and the fall of the rails. -/

theorem execD3LeavesReset_keepsMemory (cells : Nat) (rootOk : Bool) (corrected attempts worst : Nat) (hashOk : Bool)
    (badHelpers badSlots badCounts : Nat) (s : State) :
    KeepsMemory s (execD3LeavesReset cells rootOk corrected attempts worst hashOk badHelpers badSlots badCounts s) := by
  refine keepsMemory_whenever_mem ?_
  extract_lets awake erased moved up told pooled opened checked started
  have hstarted : started.dma = s.dma := by
    refine kept_dma (forget_via opened ?_ (forget_via erased ?_ ?_))
    · simp (disch := decide) [started, checked]
    · simp (disch := decide) only [opened, pooled, told, up, forget_setSag, forget_setKiln, forget_setHatch, forget_setDom]
      dsimp only [moved]
      split <;> simp (disch := decide)
    · dsimp only [erased, awake]
      split <;> simp (disch := decide)
  split
  · rw [rollback_mem, hstarted]
  · rw [setMode_dma, hstarted]

theorem execFirstModeEntered_keepsMemory (versionsOk : Bool) (s : State) :
    KeepsMemory s (execFirstModeEntered versionsOk s) := by
  refine keepsMemory_whenever_mem ?_
  split
  · exact rollback_mem 3 s
  · exact congrArg Dma.mem (kept_dma (by simp (disch := decide)))

theorem execModeChangeEffective_keepsMemory (s : State) : KeepsMemory s (execModeChangeEffective s) := by
  unfold execModeChangeEffective
  split
  · exact keepsMemory_whenever_mem (moduleRestart_mem 6 s)
  · split
    · exact keepsMemory_self
    · exact keepsMemory_whenever_mem (congrArg Dma.mem (kept_dma (by simp (disch := decide))))

theorem execSysResetBegin_keepsMemory (s : State) : KeepsMemory s (execSysResetBegin s) := by
  unfold execSysResetBegin
  split
  · exact keepsMemory_self
  · refine keepsMemory_whenever_mem ?_
    dsimp only
    split
    · rw [d3Reset_mem, advanceTo_dma, setMode_dma]
    · rw [moduleRestart_mem, advanceTo_dma, setMode_dma]

theorem execHoldupSequenceEnd_keepsMemory (s : State) : KeepsMemory s (execHoldupSequenceEnd s) := by
  unfold execHoldupSequenceEnd
  extract_lets done cut
  refine keepsMemory_whenever_mem ?_
  split
  · rw [restartAll_mem, setNl_dma]
  · rw [setDom_dma]

theorem execHrstLow_keepsMemory (us : Nat) (s : State) : KeepsMemory s (execHrstLow us s) := by
  refine keepsMemory_whenever_mem ?_
  dsimp only
  split
  · rw [setDom_dma, d3Reset_mem]
  · split
    · rw [setDom_dma, d3Reset_mem]
      rfl
    · rfl

theorem execLifecycleRestart_keepsMemory (s : State) : KeepsMemory s (execLifecycleRestart s) := by
  unfold execLifecycleRestart
  split
  · exact keepsMemory_self
  · exact keepsMemory_whenever_mem
      ((moduleRestart_mem 6 _).trans (congrArg Dma.mem (kept_dma (by simp (disch := decide)))))

theorem execActivationRestart_keepsMemory (peer : Nat) (s : State) : KeepsMemory s (execActivationRestart peer s) := by
  unfold execActivationRestart
  split
  · exact keepsMemory_whenever_mem (by rw [moduleRestart_mem, loadParts_dma, advanceTo_dma])
  · refine keepsMemory_whenever_mem ?_
    dsimp only
    split
    · split
      · exact congrArg Dma.mem (kept_dma (by simp (disch := decide)))
      · split
        · rw [moduleRestart_mem, loadParts_dma]
          exact congrArg Dma.mem (kept_dma (by simp (disch := decide)))
        · rfl
    · split
      · split
        · exact rollback_mem 5 s
        · rfl
      · split
        · exact congrArg Dma.mem (kept_dma (by simp (disch := decide)))
        · rfl

theorem execTrialTimeout_keepsMemory (s : State) : KeepsMemory s (execTrialTimeout s) :=
  keepsMemory_whenever_mem (by rw [rollback_mem, advanceTo_dma])

/-- The fall of the rails loses the regions that are not MRAM or flash (R8, log entry 20). -/
theorem execRailsFall_keepsMemory (s : State) : KeepsMemory s (execRailsFall s) := by
  refine keepsMemory_whenever fun hok => ?_
  extract_lets time timed cleared keep pwr sag dma fallen
  have hcleared : cleared.dma.mem = s.dma.mem := by
    dsimp only [cleared, timed]
    rw [coldClear_mem]
    split <;> rfl
  have hfallen : MemoryOk fallen := memFilter_wfFrom _ _ (by rw [hcleared]; exact hok)
  split
  · exact hfallen
  · exact hfallen

theorem execMainsFailDetection_keepsMemory (bulk : Nat) (s : State) : KeepsMemory s (execMainsFailDetection bulk s) := by
  refine keepsMemory_whenever_mem ?_
  extract_lets failed old entered staged noted stopped planned
  split
  · rfl
  · split
    · exact congrArg Dma.mem (kept_dma (by simp (disch := decide) [failed]))
    · have hafter : (notify 0 0x0139 (le 1 old.code ++ le 1 5 ++ le 1 4 ++ zeros 1) planned).dma =
          (abortHostDma (stopPulses (outputsOff (pqHoldup noted)))).dma :=
        kept_dma (by simp (disch := decide) [planned, stopped, holdupStops])
      have hbefore : (stopPulses (outputsOff (pqHoldup noted))).dma = s.dma :=
        kept_dma (by simp (disch := decide) [noted, staged, entered, failed])
      rw [hafter, abortHostDma_mem, hbefore]

/-! The capture buffer and the DMA engine. -/

theorem execWaveCaptureCopy_keepsMemory (s : State) : KeepsMemory s (execWaveCaptureCopy s) := by
  unfold execWaveCaptureCopy
  split
  · exact keepsMemory_self
  · refine keepsMemory_whenever fun hok => ?_
    rw [MemoryOk, replyTo_dma]
    exact memReplace_wf _ _ _ _ hok

theorem execDctrlWrite_keepsMemory (c value : Nat) (s : State) : KeepsMemory s (execDctrlWrite c value s) := by
  refine keepsMemory_whenever_mem ?_
  dsimp only
  split
  · rw [dmaAbort_mem, setDma_mem]
  · rfl

theorem execDmaChannelAbort_keepsMemory (c : Nat) (s : State) : KeepsMemory s (execDmaChannelAbort c s) :=
  keepsMemory_whenever_mem (dmaAbort_mem c s)

theorem execDescriptorStagingWrite_keepsMemory (c word value : Nat) (s : State) :
    KeepsMemory s (execDescriptorStagingWrite c word value s) := by
  refine keepsMemory_whenever_mem ?_
  dsimp only
  split <;> rfl

theorem execDescriptorCommit_keepsMemory (c value : Nat) (s : State) : KeepsMemory s (execDescriptorCommit c value s) := by
  refine keepsMemory_whenever_mem ?_
  dsimp only
  split <;> rfl

theorem execDstatClear_keepsMemory (c value : Nat) (s : State) : KeepsMemory s (execDstatClear c value s) :=
  keepsMemory_whenever_mem rfl

theorem execDmaDescriptorStart_keepsMemory (c : Nat) (words : List Nat) (s : State) :
    KeepsMemory s (execDmaDescriptorStart c words s) := by
  unfold execDmaDescriptorStart
  extract_lets d host ws
  refine keepsMemory_whenever_mem ?_
  split
  · rw [dmaBack_mem, setDma_mem]
  · split
    · rw [dmaBack_mem, setDma_mem]
    · rfl

theorem execDmaWriteBack_keepsMemory (c : Nat) (faulty : Bool) (s : State) : KeepsMemory s (execDmaWriteBack c faulty s) := by
  unfold execDmaWriteBack
  split
  · exact keepsMemory_self
  · exact keepsMemory_whenever_mem (dmaBack_mem _ _ _ _ s)

theorem execDmaAbort_keepsMemory (r : Req) (c : Nat) (s : State) : KeepsMemory s (execDmaAbort r c s) := by
  refine keepsMemory_brixo_mem ?_
  split
  · rfl
  · split
    · rfl
    · exact dmaAbort_mem c s

/-- The elements of a burst are written one after the other through the address view (R300). -/
theorem memoryOk_dMoveN (n : Nat) (r : Running) (s : State) (hok : MemoryOk s) : MemoryOk (dMoveN n r s).1 := by
  induction n generalizing r s with
  | zero => exact hok
  | succ n ih =>
    unfold dMoveN
    split
    · exact ih _ _ (viewWriteList_wf s _ _ hok)
    · exact hok

theorem execDmaBurst_keepsMemory (memError : Bool) (s : State) : KeepsMemory s (execDmaBurst memError s) := by
  have hstall : (stallOver s).dma = s.dma := kept_dma (by simp (disch := decide))
  unfold execDmaBurst
  extract_lets u
  have hu : MemoryOk s → MemoryOk u := memoryOk_of_mem (congrArg Dma.mem hstall)
  split
  · exact keepsMemory_next hu
  · split
    · exact keepsMemory_next hu
    · extract_lets lost stall aged
      split
      · exact keepsMemory_next fun hok => memoryOk_of_mem (by rw [dmaBack_mem, setDma_mem]) (hu hok)
      · exact keepsMemory_next fun hok => memoryOk_of_mem (setDma_mem _ _ _) (memoryOk_dMoveN 16 _ aged (hu hok))

/-! Registers, and the host SPI port that reaches them (R269, R271). -/

/-- Of the registers without behaviour of their own, the bulk window alone is memory of the view, and none of the engine's. -/
theorem execRegisterWrite_keepsMemory (addr value : Nat) (s : State) : KeepsMemory s (execRegisterWrite addr value s) := by
  refine keepsMemory_whenever fun hok => ?_
  split
  · exact hok
  · split
    · split
      · exact hok
      · exact hok
    · split
      · exact viewWrite_wf s _ _ hok
      · exact hok

theorem memoryOk_chanRead (c o : Nat) (s : State) (hok : MemoryOk s) : MemoryOk (chanRead c o s).2 := by
  unfold chanRead
  dsimp only
  split
  case h_2 => exact memoryOk_after_of_within (by decide) (execH2mAckRead_within c s) hok
  case h_4 => exact memoryOk_after_of_within (by decide) (execM2hDataRead_within c s) hok
  all_goals exact hok

theorem memoryOk_regRead (a : Nat) (s : State) (hok : MemoryOk s) : MemoryOk (regRead a s).2 := by
  have hchan := memoryOk_chanRead ((a - 0x0100) / 0x20) (a % 0x20) s hok
  have hsem := memoryOk_after_of_within (by decide) (execSemaphoreRead_within ((a - 0x0200) / 4) 0x10 s) hok
  unfold regRead
  simp only [apply_ite Prod.snd]
  repeat' split
  all_goals assumption

theorem memoryOk_chanWrite (c o w : Nat) (s : State) (hok : MemoryOk s) : MemoryOk (chanWrite c o w s) := by
  have hflush : MemoryOk (if bitN w 2 then after (execH2mFlush c s) s else s) := by
    split
    · exact memoryOk_after_of_within (by decide) (execH2mFlush_within c s) hok
    · exact hok
  unfold chanWrite
  split
  · exact memoryOk_after_of_within (by decide) (execH2mDataWrite_within c w s) hok
  · dsimp only
    split
    · exact memoryOk_after_of_within (by decide) (execH2mOverflowClear_within c _) hflush
    · exact hflush
  · exact memoryOk_after_of_within (by decide) (execM2hAckWrite_within c w s) hok
  · split
    · exact memoryOk_after_of_within (by decide) (execM2hUnderflowClear_within c s) hok
    · exact hok
  · exact hok

theorem memoryOk_dmaWrite (c o w : Nat) (s : State) (hok : MemoryOk s) : MemoryOk (dmaWrite c o w s) := by
  unfold dmaWrite
  split
  · exact memoryOk_after (execDctrlWrite_keepsMemory c w s) hok
  · exact memoryOk_after (execDstatClear_keepsMemory c w s) hok
  · exact memoryOk_after (execRegisterWrite_keepsMemory _ w s) hok
  · exact hok
  · exact memoryOk_after (execDescriptorCommit_keepsMemory c w s) hok
  · exact memoryOk_after (execDescriptorStagingWrite_keepsMemory c _ w s) hok

theorem memoryOk_regWrite (a w : Nat) (s : State) (hok : MemoryOk s) : MemoryOk (regWrite a w s) := by
  have hirq := memoryOk_after_of_within (by decide) (execIrqStatusClear_within w s) hok
  have hreg := memoryOk_after (execRegisterWrite_keepsMemory a w s) hok
  have hchan := memoryOk_chanWrite ((a - 0x0100) / 0x20) (a % 0x20) w s hok
  have hsem := memoryOk_after_of_within (by decide) (execSemaphoreRelease_within ((a - 0x0200) / 4) 0x10 w s) hok
  have hdma := memoryOk_dmaWrite ((a - 0x0400) / 0x40) (a % 0x40) w s hok
  have hwedge := memoryOk_after_of_within (by decide) (execWedgeRegisterWrite_within ((a - 0x0800) / 4) w .hostSpi s) hok
  unfold regWrite
  repeat' split
  all_goals assumption

theorem memoryOk_spiRead (fuel a n : Nat) (s : State) (hok : MemoryOk s) : MemoryOk (spiRead fuel a n s).2 := by
  induction fuel generalizing a n s with
  | zero => exact hok
  | succ fuel ih =>
    unfold spiRead
    split
    · exact hok
    · split
      · exact ih _ _ _ (memoryOk_regRead a s hok)
      · exact ih _ _ _ hok

theorem memoryOk_spiWrite (fuel a : Nat) (bs : List Byte) (s : State) (hok : MemoryOk s) :
    MemoryOk (spiWrite fuel a bs s) := by
  induction fuel generalizing a bs s with
  | zero => exact hok
  | succ fuel ih =>
    unfold spiWrite
    split
    · split
      · exact hok
      · exact ih _ _ _ (memoryOk_regWrite a _ s hok)
    · split
      · exact hok
      · exact ih _ _ _ (memoryOk_after (execRegisterWrite_keepsMemory a _ s) hok)

theorem memoryOk_spiTransaction (wire : List Byte) (clocks : Nat) (s : State) (hok : MemoryOk s) :
    MemoryOk (spiTransaction wire clocks s) := by
  unfold spiTransaction
  split
  · dsimp only
    split
    · exact hok
    · split
      · exact hok
      · split
        · exact memoryOk_spiWrite _ _ _ s hok
        · exact memoryOk_spiRead _ _ _ s hok
  · exact hok

theorem execHspiCsFalling_keepsMemory (wire : List Byte) (clocks : Nat) (s : State) :
    KeepsMemory s (execHspiCsFalling wire clocks s) := by
  have hwoken : (lowerWakeOut (wakeSeen 2 s)).dma = s.dma := kept_dma (by simp (disch := decide))
  exact keepsMemory_whenever fun hok =>
    memoryOk_spiTransaction wire clocks _ (memoryOk_of_mem (congrArg Dma.mem hwoken) hok)

/-! Every command. -/

/-- A command that does not list the DMA block keeps the memory by its frame; those that list it are taken one by one. -/
theorem exec_keepsMemory (c : Instr) (s : State) : KeepsMemory s (exec c s) := by
  by_cases hspared : (touches c).all (· != .dma) = true
  case pos => exact fun t ht => memoryOk_of_onlyChanges hspared (exec_within c s t ht)
  case neg =>
    cases c with
    | d3LeavesReset => exact execD3LeavesReset_keepsMemory _ _ _ _ _ _ _ _ _ s
    | firstModeEntered => exact execFirstModeEntered_keepsMemory _ s
    | modeChangeEffective => exact execModeChangeEffective_keepsMemory s
    | sysResetBegin => exact execSysResetBegin_keepsMemory s
    | mainsFailDetection => exact execMainsFailDetection_keepsMemory _ s
    | holdupSequenceEnd => exact execHoldupSequenceEnd_keepsMemory s
    | hrstLow => exact execHrstLow_keepsMemory _ s
    | watchdogExpiry => exact keepsMemory_whenever_mem (d3Reset_mem 3 s)
    | enginePoolFault => exact keepsMemory_whenever_mem (d3Reset_mem 4 s)
    | spyholeReset => exact keepsMemory_whenever_mem (d3Reset_mem 8 s)
    | waveCaptureCopy => exact execWaveCaptureCopy_keepsMemory s
    | registerWrite => exact execRegisterWrite_keepsMemory _ _ s
    | dctrlWrite => exact execDctrlWrite_keepsMemory _ _ s
    | dmaChannelAbort => exact execDmaChannelAbort_keepsMemory _ s
    | descriptorStagingWrite => exact execDescriptorStagingWrite_keepsMemory _ _ _ s
    | descriptorCommit => exact execDescriptorCommit_keepsMemory _ _ s
    | dstatClear => exact execDstatClear_keepsMemory _ _ s
    | dmaDescriptorStart => exact execDmaDescriptorStart_keepsMemory _ _ s
    | dmaBurst => exact execDmaBurst_keepsMemory _ s
    | dmaWriteBack => exact execDmaWriteBack_keepsMemory _ _ s
    | dmaAbort => exact execDmaAbort_keepsMemory _ _ s
    | lifecycleRestart => exact execLifecycleRestart_keepsMemory s
    | activationRestart => exact execActivationRestart_keepsMemory _ s
    | trialTimeout => exact execTrialTimeout_keepsMemory s
    | railsFall => exact execRailsFall_keepsMemory s
    | hspiCsFalling => exact execHspiCsFalling_keepsMemory _ _ s
    | _ => exact absurd rfl hspared

/-- Settles O47: a step runs a command or idles, and every command keeps the canonical form of the memory, which is the model's own
(log entry 20). -/
theorem stepKeepsMemoryOk : Obligations.StepKeepsMemoryOk := by
  unfold Obligations.StepKeepsMemoryOk
  intro s t hok hstep
  cases hqueue : s.pending with
  | nil =>
    rw [step_of_empty hqueue] at hstep
    cases hstep
    exact hok
  | cons c rest =>
    rw [step_of_cons hqueue] at hstep
    exact exec_keepsMemory c { s with pending := rest } t hstep hok

end Sys2Proof.StepKeeps

/-! The DMA engine (12): which reply and which next state each of its commands answers, which bytes a burst writes, and how a Wedge
stall holds off a channel. -/

namespace Sys2Proof.DmaEngine

open Sys2Proof Sys2Proof.Machine Sys2Proof.Safety Sys2Proof.Laws Sys2Proof.Frames Sys2Proof.ModesPower
  Sys2Proof.KilnEnginePool Sys2Proof.StepKeeps

/-! One channel. -/

theorem dmaChan_setDma_same {c : Nat} {s : State} (d : DmaChan) (hc : c < s.dma.chans.length) :
    dmaChan (setDma c d s) c = d := by
  simp [dmaChan, setDma, List.getElem?_set_self hc]

theorem dmaChan_setDma_other {c e : Nat} (d : DmaChan) (s : State) (hce : c ≠ e) :
    dmaChan (setDma c d s) e = dmaChan s e := by
  simp [dmaChan, setDma, List.getElem?_set_ne hce]

theorem dmaChan_of_dma {s t : State} (hdma : t.dma = s.dma) (c : Nat) : dmaChan t c = dmaChan s c := by
  rw [dmaChan, hdma, dmaChan]

/-- A channel as a write-back leaves it (R301, R302). -/
def writtenBack (d : DmaChan) (idx status done : Nat) : DmaChan :=
  { d with
    ring := d.ring.set idx (dWritten ((d.ring[idx]?).getD []) status done), head := (idx + 1) % 16, lastStatus := status
    run := none, doneEvt := d.doneEvt || dIrq ((d.ring[idx]?).getD [])
    error := d.error || decide (status ≠ 0 ∧ status ≠ 1), enable := d.enable && !decide (status ≠ 0 ∧ status ≠ 1) }

/-- What is recorded and sent of a write-back leaves the engine. -/
theorem dmaBack_dma (c idx status done : Nat) (s : State) :
    (dmaBack c idx status done s).dma = (setDma c (writtenBack (dmaChan s c) idx status done) s).dma := by
  simp only [dmaBack]
  split
  · rw [diagTrigger_dma]
    split
    · rw [dmaDone_dma]
      rfl
    · rfl
  · split
    · rw [dmaDone_dma]
      rfl
    · rfl

/-! Elements of a burst (R300, R304). -/

theorem viewWrite_chans (s : State) (a : Nat) (b : Byte) : (viewWrite s a b).dma.chans = s.dma.chans := by
  unfold viewWrite
  split <;> rfl

theorem viewWriteList_chans (s : State) (a : Nat) (bs : List Byte) : (viewWriteList s a bs).dma.chans = s.dma.chans := by
  induction bs generalizing s a with
  | nil => rfl
  | cons b bs ih => rw [viewWriteList, ih, viewWrite_chans]

/-- An element that is moved, and those after it. -/
theorem dMoveN_succ {n : Nat} {r : Running} {s : State} (hmore : r.moved < dTotal r.words) :
    dMoveN (n + 1) r s = dMoveN n { r with
      moved := r.moved + 1, lastAddr := (dMove r.words r.moved s).2.1, lastBytes := (dMove r.words r.moved s).2.2 }
      (dMove r.words r.moved s).1 :=
  if_pos hmore

theorem dMoveN_of_done (n : Nat) {r : Running} {s : State} (hdone : dTotal r.words ≤ r.moved) : dMoveN n r s = (s, r) := by
  cases n with
  | zero => rfl
  | succ n => exact if_neg (Nat.not_lt.mpr hdone)

/-- A burst's elements are moved into the memory and the bulk window alone, and the descriptor that runs stays. -/
theorem dMoveN_keeps (n : Nat) (r : Running) (s : State) : (dMoveN n r s).1.dma.chans = s.dma.chans ∧
    (dMoveN n r s).2.words = r.words ∧ (dMoveN n r s).2.index = r.index ∧ r.moved ≤ (dMoveN n r s).2.moved := by
  induction n generalizing r s with
  | zero => exact ⟨rfl, rfl, rfl, Nat.le_refl _⟩
  | succ n ih =>
    by_cases hmore : r.moved < dTotal r.words
    · rw [dMoveN_succ hmore]
      obtain ⟨hchans, hwords, hindex, hmoved⟩ := ih { r with
        moved := r.moved + 1, lastAddr := (dMove r.words r.moved s).2.1, lastBytes := (dMove r.words r.moved s).2.2 }
        (dMove r.words r.moved s).1
      exact ⟨hchans.trans (viewWriteList_chans s _ _), hwords, hindex, (Nat.le_succ _).trans hmoved⟩
    · rw [dMoveN_of_done _ (Nat.not_lt.mp hmore)]
      exact ⟨rfl, rfl, rfl, Nat.le_refl _⟩

/-- Of the channels that are ready, those that lose the grant grow older (R304). -/
def agedOthers (s : State) (c : Nat) : State := { s with dma := { s.dma with
  chans := s.dma.chans.mapIdx fun i d => if i ≠ c && dmaReady s i then { d with age := d.age + 1 } else d } }

theorem agedOthers_length (s : State) (c : Nat) : (agedOthers s c).dma.chans.length = s.dma.chans.length := by
  simp [agedOthers]

/-- The state after a burst of the channel granted, and the burst's elements. -/
def burstState (s : State) (c : Nat) (r : Running) : State :=
  setDma c { dmaChan (dMoveN 16 r (agedOthers s c)).1 c with
    run := some (dMoveN 16 r (agedOthers s c)).2, age := 0, stallEnd := s.clk.now + wedgeStall s c }
    (dMoveN 16 r (agedOthers s c)).1

theorem stallOver_of_grant {s : State} {c : Nat} (hgrant : dmaGrant s = some c) : stallOver s = s := by
  rw [stallOver, hgrant]
  rfl

theorem stallOver_dma (s : State) : (stallOver s).dma = s.dma := kept_dma (by simp (disch := decide))

theorem execDmaBurst_stall_next {s : State} {c : Nat} {r : Running} (hgrant : dmaGrant (stallOver s) = some c)
    (hrun : (dmaChan (stallOver s) c).run = some r) : execDmaBurst false s = .next (burstState (stallOver s) c r) := by
  simp only [execDmaBurst, hgrant, hrun]
  rfl

theorem execDmaBurst_next {s : State} {c : Nat} {r : Running} (hgrant : dmaGrant s = some c)
    (hrun : (dmaChan s c).run = some r) : execDmaBurst false s = .next (burstState s c r) := by
  have hstall := stallOver_of_grant hgrant
  rw [execDmaBurst_stall_next (by rw [hstall]; exact hgrant) (by rw [hstall]; exact hrun), hstall]

theorem dmaChan_burstState {s : State} {c : Nat} (r : Running) (hc : c < s.dma.chans.length) :
    dmaChan (burstState s c r) c = { dmaChan (dMoveN 16 r (agedOthers s c)).1 c with
      run := some (dMoveN 16 r (agedOthers s c)).2, age := 0, stallEnd := s.clk.now + wedgeStall s c } := by
  obtain ⟨hchans, -, -, -⟩ := dMoveN_keeps 16 r (agedOthers s c)
  exact dmaChan_setDma_same _ (by rw [hchans, agedOthers_length]; exact hc)

/-! Commands of the engine (R297–R311). -/

section Registers

variable {s : State} {c : Nat} (hopen : dmaOpen s = true) (hc : c < 4)
include hopen hc

theorem execDctrlWrite_next {value : Nat} (hgoes : bitN value 8 = false) : execDctrlWrite c value s =
    .next (setDma c { dmaChan s c with enable := bitN value 0, prio := value / 16 % 4 } s) :=
  next_of_whenever (by simp [hopen, hc]) (by simp [hgoes])

theorem execDmaChannelAbort_next : execDmaChannelAbort c s = .next (dmaAbort c s).1 :=
  next_of_whenever (by simp [hopen, hc]) rfl

theorem execDescriptorStagingWrite_next {word : Nat} (value : Nat) (hlow : 1 ≤ word) (hhigh : word ≤ 11)
    (hfree : dOwn (((dmaChan s c).ring[(dmaChan s c).dsel]?).getD []) = false) :
    execDescriptorStagingWrite c word value s = .next (setDma c { dmaChan s c with
      staging := (dmaChan s c).staging.set (word - 1) (value % 2 ^ 32) } s) :=
  next_of_whenever (by simp [hopen, hc, hlow, hhigh]) (by simp [hfree])

theorem execDescriptorCommit_next (value : Nat)
    (hfree : dOwn (((dmaChan s c).ring[(dmaChan s c).dsel]?).getD []) = false) (hidle : (dmaChan s c).run = none) :
    execDescriptorCommit c value s = .next (setDma c { dmaChan s c with
      ring := (dmaChan s c).ring.set (dmaChan s c).dsel
        (dCommitted (((dmaChan s c).ring[(dmaChan s c).dsel]?).getD []) value (dmaChan s c).staging) } s) :=
  next_of_whenever (by simp [hopen, hc]) (by simp [hfree, hidle])

theorem execDstatClear_next (value : Nat) : execDstatClear c value s = .next (setDma c { dmaChan s c with
    writeOwned := (dmaChan s c).writeOwned && !bitN value 10, error := (dmaChan s c).error && !bitN value 9,
    doneEvt := (dmaChan s c).doneEvt && !bitN value 8 } s) :=
  next_of_whenever (by simp [hopen, hc]) rfl

end Registers

theorem execDmaDescriptorStart_next {s : State} {c : Nat} {ws : List Nat} (hd3 : s.dom.d3 = true) (hfirmware : 4 ≤ c)
    (hin : c < s.dma.chans.length) (hc : c < 8) (hidle : (dmaChan s c).run = none) (howned : dOwn ws = true)
    (hfields : dFieldsOk ws = true) (hregions : dRegionsOk false ws = true) :
    ∃ t, execDmaDescriptorStart c ws s = .next t ∧ (dmaChan t c).run = some ⟨(dmaChan s c).head, ws, 0, 0, []⟩ := by
  have hhost : decide (c < 4) = false := decide_eq_false (Nat.not_lt.mpr hfirmware)
  unfold execDmaDescriptorStart
  simp only [hhost]
  refine exists_next_of_whenever (by simp [hd3, hc, hidle, howned]) fun t ht => ?_
  simp only [hfields, hregions, Bool.not_true, Bool.false_eq_true, if_false] at ht
  rw [ht, dmaChan_setDma_same _ hin]

theorem execDmaBurst_granted_next {s u : State} {c : Nat} {r : Running} (hu : u = stallOver s) (hgrant : dmaGrant u = some c)
    (hrun : (dmaChan u c).run = some r) (hin : c < s.dma.chans.length) : ∃ t r', execDmaBurst false s = .next t ∧
      (dmaChan t c).run = some r' ∧ r'.words = r.words ∧ r'.index = r.index ∧ r.moved ≤ r'.moved ∧ (dmaChan t c).age = 0 := by
  subst hu
  obtain ⟨-, hwords, hindex, hmoved⟩ := dMoveN_keeps 16 r (agedOthers (stallOver s) c)
  have hchan := dmaChan_burstState (s := stallOver s) r (by rw [stallOver_dma]; exact hin)
  exact ⟨_, _, execDmaBurst_stall_next hgrant hrun, by rw [hchan], hwords, hindex, hmoved, by rw [hchan]⟩

theorem execDmaWriteBack_next {s : State} {c : Nat} {r : Running} (faulty : Bool) (hrun : (dmaChan s c).run = some r)
    (hc : c < 8) (hdone : r.moved = dTotal r.words) (hin : c < s.dma.chans.length) : ∃ t,
      execDmaWriteBack c faulty s = .next t ∧ (dmaChan t c).run = none ∧ (dmaChan t c).head = (r.index + 1) % 16 := by
  unfold execDmaWriteBack
  rw [hrun]
  refine exists_next_of_whenever (by simp [hc, hdone]) fun t ht => ?_
  rw [ht, dmaChan_of_dma (dmaBack_dma c r.index _ r.moved s), dmaChan_setDma_same _ hin]
  exact ⟨rfl, rfl⟩

theorem execDmaAbort_next {s : State} {r : Req} {c : Nat} (htaken : Taken 0x1101 r s) (hc : c < 4)
    (hfree : semOwner s (1 + c) = none) : execDmaAbort r c s =
      .next (reply r 0x1101 stOk (le 1 (dmaAbort c s).2 ++ zeros 3) (dmaAbort c s).1) := by
  unfold semOwner at hfree
  exact brixo_of_answer htaken (by simp [Nat.not_le.mpr hc, hfree])

/-- Settles O19: each command of the DMA engine answers its reply and its next state. -/
theorem dmaCommandsComplete : Obligations.DmaCommandsComplete := by
  unfold Obligations.DmaCommandsComplete
  refine ⟨?_, ?_, ?_, ?_, ?_, ?_, ?_, ?_, ?_, ?_⟩
  · exact fun _ _ _ hopen hc => execDctrlWrite_next hopen hc
  · exact fun _ _ => execDmaChannelAbort_next
  · exact fun _ _ _ value hopen hc => execDescriptorStagingWrite_next hopen hc value
  · exact fun _ _ value hopen hc => execDescriptorCommit_next hopen hc value
  · exact fun _ _ value hopen hc => execDstatClear_next hopen hc value
  · exact fun _ _ _ => execDmaDescriptorStart_next
  · exact fun _ _ _ _ => execDmaBurst_granted_next
  · exact fun _ _ _ faulty => execDmaWriteBack_next faulty
  · exact fun _ _ htaken => brixo_of_answer htaken rfl
  · exact fun _ _ _ => execDmaAbort_next

/-! What the address view shows after a write (R296, R300). -/

/-- The records that the MRAM view shows are of six blocks. -/
theorem viewRecord_congr {s t : State} (hident : t.ident = s.ident) (hled : t.led = s.led) (hpq : t.pq = s.pq)
    (hshu : t.shu = s.shu) (hdiag : t.diag = s.diag) (hbil : t.bil = s.bil) (a : Nat) : viewRecord t a = viewRecord s a := by
  have hread : ∀ r ∈ mramRings, r.read t = r.read s := by
    intro r hr
    simp only [mramRings, List.mem_cons, List.not_mem_nil, or_false] at hr
    rcases hr with rfl | rfl | rfl | rfl | rfl | rfl | rfl | rfl | rfl | rfl | rfl | rfl <;>
      simp only [hident, hled, hpq, hshu, hdiag, hbil]
  have hrings (o : Nat) (l : List MramRing) (hl : ∀ r ∈ l, r.read t = r.read s) :
      l.findSome? (MramRing.byteAt t o) = l.findSome? (MramRing.byteAt s o) := by
    induction l with
    | nil => rfl
    | cons r l ih =>
      obtain ⟨hr, hrest⟩ := List.forall_mem_cons.mp hl
      rw [List.findSome?_cons, List.findSome?_cons, ih hrest, MramRing.byteAt, MramRing.byteAt, hr]
  unfold viewRecord mramByte lsByte
  rw [hrings _ mramRings hread, hled]

/-- A write through the view changes no block that holds a record. -/
theorem viewRecord_viewWrite (s : State) (b : Nat) (x : Byte) (a : Nat) :
    viewRecord (viewWrite s b x) a = viewRecord s a := by
  unfold viewWrite
  split
  · exact viewRecord_congr (by rfl) (by rfl) (by rfl) (by rfl) (by rfl) (by rfl) a
  · exact viewRecord_mem s a _

/-- Outside the bulk window the view shows the records and the memory; in it, a bulk slot (R271). -/
theorem viewRead_congr {s t : State} (hrecord : ∀ a, viewRecord t a = viewRecord s a) (hmem : t.dma.mem = s.dma.mem)
    (hhatch : t.hatch = s.hatch) (a : Nat) : viewRead t a = viewRead s a := by
  unfold viewRead
  rw [hrecord, hmem, hhatch]

/-- The channel registers are no memory. -/
theorem viewRead_chans (s : State) (l : List DmaChan) (a : Nat) :
    viewRead { s with dma := { s.dma with chans := l } } a = viewRead s a :=
  viewRead_congr (viewRecord_congr (by rfl) (by rfl) (by rfl) (by rfl) (by rfl) (by rfl)) (by rfl) (by rfl) a

theorem viewReadList_congr {s t : State} (h : ∀ a, viewRead t a = viewRead s a) (a n : Nat) :
    viewReadList t a n = viewReadList s a n := by
  induction n generalizing a with
  | zero => rfl
  | succ n ih => rw [viewReadList, viewReadList, h, ih]

/-- A slot shorter than its length reads as padded with zeros. -/
theorem getElem?_padTo' {n o : Nat} (l : List Byte) (ho : o < n) :
    ((slotWrite.padTo' n l)[o]?).getD 0 = (l[o]?).getD 0 := by
  rw [slotWrite.padTo', List.getElem?_take_of_lt ho]
  by_cases hin : o < l.length
  · rw [List.getElem?_append_left hin]
  · have hlast : o - l.length < n := by omega
    rw [List.getElem?_append_right (Nat.not_lt.mp hin), List.getElem?_replicate_of_lt hlast,
      List.getElem?_eq_none (Nat.not_lt.mp hin)]
    rfl

theorem length_padTo' (n : Nat) (l : List Byte) : (slotWrite.padTo' n l).length = n := by
  simp [slotWrite.padTo']

/-- A slot's byte reads as written, the others as before (R271). -/
theorem getElem?_slotWrite_same (l : List Byte) {o : Nat} (ho : o < 4096) (b : Byte) :
    ((slotWrite l o b)[o]?).getD 0 = b := by
  rw [slotWrite, List.getElem?_set_self (by rwa [length_padTo']), Option.getD_some]

theorem getElem?_slotWrite_other (l : List Byte) {o p : Nat} (hp : p < 4096) (hne : o ≠ p) (b : Byte) :
    ((slotWrite l o b)[p]?).getD 0 = (l[p]?).getD 0 := by
  rw [slotWrite, List.getElem?_set_ne hne, getElem?_padTo' l hp]

/-- Two bulk addresses of one channel and one direction differ in their byte of the slot. -/
theorem bulk_byte_ne {a b : Nat} (ha : inBulk a = true) (hb : inBulk b = true) (hne : a ≠ b)
    (hchan : (a - bulkBase) % 0x8000 / 4096 = (b - bulkBase) % 0x8000 / 4096)
    (hdir : a - bulkBase < 0x8000 ↔ b - bulkBase < 0x8000) : (a - bulkBase) % 4096 ≠ (b - bulkBase) % 4096 := by
  simp only [inBulk, Bool.and_eq_true, decide_eq_true_eq] at ha hb
  omega

/-- A byte of a bulk slot as the view reads it (R271): the channel at the slot's number, in the direction of its half. -/
def bulkByte (l : List HatchChan) (o : Nat) : Byte :=
  match l[o % 0x8000 / 4096]? with
  | some c => ((if o < 0x8000 then c.bulkIn else c.bulkOut)[o % 4096]?).getD 0
  | none => 0

theorem viewRead_bulk (s : State) {a : Nat} (ha : inBulk a = true) :
    viewRead s a = bulkByte s.hatch.chans (a - bulkBase) := by
  rw [viewRead, if_pos ha]
  rfl

/-- A byte written to a bulk slot, channel by channel. -/
def bulkWrite (l : List HatchChan) (o : Nat) (x : Byte) : List HatchChan :=
  l.mapIdx fun i c => if i = o % 0x8000 / 4096 then
    (if o < 0x8000 then { c with bulkIn := slotWrite c.bulkIn (o % 4096) x }
      else { c with bulkOut := slotWrite c.bulkOut (o % 4096) x }) else c

theorem viewWrite_bulk (s : State) {b : Nat} (x : Byte) (hb : inBulk b = true) :
    viewWrite s b x = { s with hatch := { s.hatch with chans := bulkWrite s.hatch.chans (b - bulkBase) x } } := by
  rw [viewWrite, if_pos hb]
  rfl

theorem bulkByte_bulkWrite_other (l : List HatchChan) {o p : Nat} (x : Byte)
    (hne : o % 0x8000 / 4096 = p % 0x8000 / 4096 → (o < 0x8000 ↔ p < 0x8000) → p % 4096 ≠ o % 4096) :
    bulkByte (bulkWrite l p x) o = bulkByte l o := by
  have hlow : o % 4096 < 4096 := Nat.mod_lt _ (Nat.succ_pos _)
  cases hc : l[o % 0x8000 / 4096]? with
  | none => simp only [bulkByte, bulkWrite, List.getElem?_mapIdx, hc, Option.map_none]
  | some c =>
    simp only [bulkByte, bulkWrite, List.getElem?_mapIdx, hc, Option.map_some]
    by_cases hchan : o % 0x8000 / 4096 = p % 0x8000 / 4096
    case neg => simp only [hchan, if_false]
    case pos =>
      simp only [hchan, if_true]
      by_cases ho : o < 0x8000 <;> by_cases hp : p < 0x8000 <;> simp only [ho, hp, if_true, if_false]
      · exact getElem?_slotWrite_other _ hlow (hne hchan (iff_of_true ho hp)) x
      · exact getElem?_slotWrite_other _ hlow (hne hchan (iff_of_false ho hp)) x

theorem bulkByte_bulkWrite_same {l : List HatchChan} (hl : l.length = 8) (o : Nat) (x : Byte) :
    bulkByte (bulkWrite l o x) o = x := by
  have hlow : o % 4096 < 4096 := Nat.mod_lt _ (Nat.succ_pos _)
  obtain ⟨c, hc⟩ : ∃ c, l[o % 0x8000 / 4096]? = some c := ⟨_, List.getElem?_eq_getElem (by omega)⟩
  simp only [bulkByte, bulkWrite, List.getElem?_mapIdx, hc, Option.map_some, if_true]
  split
  · exact getElem?_slotWrite_same _ hlow x
  · exact getElem?_slotWrite_same _ hlow x

/-- A byte written through the view leaves every other byte as it reads. -/
theorem viewRead_viewWrite_other (s : State) {a b : Nat} (x : Byte) (hne : a ≠ b) :
    viewRead (viewWrite s b x) a = viewRead s a := by
  cases hb : inBulk b with
  | false =>
    simp only [viewRead, viewWrite, hb, Bool.false_eq_true, if_false, viewRecord_mem,
      memRead_memWrite_other _ b a x hne]
  | true =>
    cases ha : inBulk a with
    | false =>
      rw [viewRead, viewRead, viewRecord_viewWrite, viewWrite_bulk s x hb, ha]
      rfl
    | true =>
      rw [viewRead_bulk _ ha, viewRead_bulk _ ha, viewWrite_bulk s x hb]
      exact bulkByte_bulkWrite_other _ x fun hchan hdir => Ne.symm (bulk_byte_ne ha hb hne hchan hdir)

/-- A byte written through the view reads back, where no record stands and the eight channels of Hatch are there. -/
theorem viewRead_viewWrite (s : State) (a : Nat) (x : Byte) (hrecord : viewRecord s a = none) (hok : MemoryOk s)
    (hchans : s.hatch.chans.length = 8) : viewRead (viewWrite s a x) a = x := by
  cases ha : inBulk a with
  | false => exact viewRead_viewWrite_same s a x ha hrecord hok
  | true =>
    rw [viewRead_bulk _ ha, viewWrite_bulk s x ha]
    exact bulkByte_bulkWrite_same hchans _ x

theorem viewWrite_hatch_length (s : State) (a : Nat) (x : Byte) :
    (viewWrite s a x).hatch.chans.length = s.hatch.chans.length := by
  unfold viewWrite
  split
  · exact List.length_mapIdx
  · rfl

/-- Bytes written at rising addresses leave every address outside as it reads. -/
theorem viewRead_viewWriteList_other (s : State) {a b : Nat} (bs : List Byte) (hout : ¬ (b ≤ a ∧ a < b + bs.length)) :
    viewRead (viewWriteList s b bs) a = viewRead s a := by
  induction bs generalizing s b with
  | nil => rfl
  | cons x bs ih =>
    rw [List.length_cons] at hout
    rw [viewWriteList, ih _ (by omega), viewRead_viewWrite_other s x (by omega)]

theorem viewReadList_viewWriteList (s : State) (a : Nat) (bs : List Byte)
    (hrecord : ∀ k, k < bs.length → viewRecord s (a + k) = none) (hok : MemoryOk s) (hchans : s.hatch.chans.length = 8) :
    viewReadList (viewWriteList s a bs) a bs.length = bs := by
  induction bs generalizing s a with
  | nil => rfl
  | cons x bs ih =>
    have hfirst : viewRead (viewWriteList (viewWrite s a x) (a + 1) bs) a = x := by
      rw [viewRead_viewWriteList_other _ bs (by omega)]
      exact viewRead_viewWrite s a x (hrecord 0 (Nat.succ_pos _)) hok hchans
    have hrest := ih (viewWrite s a x) (a + 1)
      (fun k hk => by
        rw [viewRecord_viewWrite, Nat.add_right_comm, Nat.add_assoc]
        exact hrecord (k + 1) (Nat.succ_lt_succ hk))
      (viewWrite_wf s a x hok) (by rw [viewWrite_hatch_length, hchans])
    rw [viewWriteList, List.length_cons, viewReadList, hfirst, hrest]

/-! The bytes of a burst (R299, R300). -/

theorem viewReadList_length (s : State) (a n : Nat) : (viewReadList s a n).length = n := by
  induction n generalizing a with
  | zero => rfl
  | succ n ih => rw [viewReadList, List.length_cons, ih]

/-- SWAP moves the bytes of an element among themselves. -/
theorem dSwapBytes_length (k : Nat) (l : List Byte) : (dSwapBytes k l).length = l.length := by
  unfold dSwapBytes
  split <;> rfl

theorem element_length (ws : List Nat) (e : Nat) (s : State) :
    (dSwapBytes (dSwap ws) (viewReadList s (dAddr ws false e) (dSize ws))).length = dSize ws := by
  rw [dSwapBytes_length, viewReadList_length]

/-- A burst leaves every address outside its elements' destinations as it reads. -/
theorem viewRead_dMoveN_other (n : Nat) (r : Running) (s : State) (a : Nat)
    (hout : ∀ k, k < n → r.moved + k < dTotal r.words →
      ¬ (dAddr r.words true (r.moved + k) ≤ a ∧ a < dAddr r.words true (r.moved + k) + dSize r.words)) :
    viewRead (dMoveN n r s).1 a = viewRead s a := by
  induction n generalizing r s with
  | zero => rfl
  | succ n ih =>
    by_cases hmore : r.moved < dTotal r.words
    · rw [dMoveN_succ hmore, ih]
      · refine viewRead_viewWriteList_other s _ ?_
        rw [element_length]
        exact hout 0 (Nat.succ_pos n) hmore
      · intro k hk hlt
        have hnext : r.moved + 1 + k = r.moved + (k + 1) := by omega
        dsimp only at hlt ⊢
        rw [hnext] at hlt ⊢
        exact hout (k + 1) (Nat.succ_lt_succ hk) hlt
    · rw [dMoveN_of_done _ (Nat.not_lt.mp hmore)]

/-- After a burst the view shows what the burst's elements left. -/
theorem viewRead_burstState (s : State) (c : Nat) (r : Running) (a : Nat) :
    viewRead (burstState s c r) a = viewRead (dMoveN 16 r (agedOthers s c)).1 a := viewRead_chans _ _ a

theorem viewRead_agedOthers (s : State) (c a : Nat) : viewRead (agedOthers s c) a = viewRead s a := viewRead_chans s _ a

/-- The last element of a descriptor holds the source's bytes after SWAP. -/
theorem viewReadList_burstState_last {s : State} (c : Nat) {r : Running} (hlast : r.moved + 1 = dTotal r.words)
    (hok : MemoryOk s) (hchans : s.hatch.chans.length = 8)
    (hrecord : ∀ k, k < dSize r.words → viewRecord s (dAddr r.words true r.moved + k) = none) :
    viewReadList (burstState s c r) (dAddr r.words true r.moved) (dSize r.words) =
      dSwapBytes (dSwap r.words) (viewReadList s (dAddr r.words false r.moved) (dSize r.words)) := by
  have hmoved : (dMoveN 16 r (agedOthers s c)).1 = (dMove r.words r.moved (agedOthers s c)).1 := by
    rw [dMoveN_succ (by omega), dMoveN_of_done 15 (by dsimp only; omega)]
  have hwritten := viewReadList_viewWriteList (agedOthers s c) (dAddr r.words true r.moved)
    (dSwapBytes (dSwap r.words) (viewReadList (agedOthers s c) (dAddr r.words false r.moved) (dSize r.words)))
    (fun k hk => (viewRecord_congr (by rfl) (by rfl) (by rfl) (by rfl) (by rfl) (by rfl) _).trans
      (hrecord k (by rwa [element_length] at hk)))
    hok hchans
  rw [element_length] at hwritten
  rw [viewReadList_congr (viewRead_burstState s c r), hmoved, ← viewReadList_congr (viewRead_agedOthers s c)]
  exact hwritten

/-- Settles O51: a burst's elements go to their addresses alone, and the last element reads as the source's bytes after SWAP. That a
destination is no record that the MRAM view shows is a premise (log entry 20). -/
theorem dmaBurstStores : Obligations.DmaBurstStores := by
  unfold Obligations.DmaBurstStores
  refine ⟨?_, ?_⟩
  · intro s t c r a hgrant hrun hstep hout
    cases (execDmaBurst_next hgrant hrun).symm.trans hstep
    rw [viewRead_burstState, viewRead_dMoveN_other 16 r _ a hout, viewRead_agedOthers]
  · intro s t c r hgrant hrun hlast hok hshape hrecord hstep
    obtain ⟨-, hchans, -, -⟩ := hshape
    cases (execDmaBurst_next hgrant hrun).symm.trans hstep
    exact viewReadList_burstState_last c hlast hok hchans hrecord

/-! Arbitration and Wedge stalls (R304, R305). -/

/-- Arbitration grants one of the channels that are ready, or the best of those judged before. -/
theorem foldl_pick_mem {step : Option Nat → Nat → Option Nat}
    (hstep : ∀ best c, step best c = some c ∨ (step best c = best ∧ best.isSome = true)) (l : List Nat) (best : Option Nat) :
    (∃ c ∈ l, l.foldl step best = some c) ∨ (l.foldl step best = best ∧ (best.isSome = true ∨ l = [])) := by
  induction l generalizing best with
  | nil => exact .inr ⟨rfl, .inr rfl⟩
  | cons d l ih =>
    rw [List.foldl_cons]
    rcases ih (step best d) with ⟨c, hc, hpick⟩ | ⟨hkept, -⟩
    · exact .inl ⟨c, List.mem_cons_of_mem _ hc, hpick⟩
    · rcases hstep best d with htaken | ⟨hbest, hsome⟩
      · exact .inl ⟨d, List.mem_cons_self, hkept.trans htaken⟩
      · exact .inr ⟨hkept.trans hbest, .inl hsome⟩

/-- The channel granted is one that is ready, and one is granted where one is ready. -/
theorem dmaGrant_ready (s : State) : (∃ c ∈ (List.range 8).filter (dmaReady s), dmaGrant s = some c) ∨
    (dmaGrant s = none ∧ (List.range 8).filter (dmaReady s) = []) := by
  have hpick := foldl_pick_mem (step := fun best c =>
    match best with
    | none => some c
    | some b =>
      let x := dmaChan s c; let y := dmaChan s b
      if dmaPrio y < dmaPrio x ∨ (dmaPrio y = dmaPrio x ∧ y.age < x.age) then some c else some b)
    (fun best c => by
      cases best with
      | none => exact .inl rfl
      | some b =>
        dsimp only
        split
        · exact .inl rfl
        · exact .inr ⟨rfl, rfl⟩)
    ((List.range 8).filter (dmaReady s)) none
  rcases hpick with hgranted | ⟨hnone, hsome | hempty⟩
  · exact .inl hgranted
  · cases hsome
  · exact .inr ⟨hnone, hempty⟩

theorem dmaReady_of_grant {s : State} {c : Nat} (hgrant : dmaGrant s = some c) : dmaReady s c = true := by
  rcases dmaGrant_ready s with ⟨d, hd, hgranted⟩ | ⟨hnone, -⟩
  · cases hgrant.symm.trans hgranted
    exact (List.mem_filter.mp hd).2
  · rw [hnone] at hgrant
    cases hgrant

theorem dmaGrant_of_ready {s : State} {d : Nat} (hd : d < 8) (hready : dmaReady s d = true) : dmaGrant s ≠ none := by
  have hmem : d ∈ (List.range 8).filter (dmaReady s) := List.mem_filter.mpr ⟨List.mem_range.mpr hd, hready⟩
  rcases dmaGrant_ready s with ⟨c, -, hgranted⟩ | ⟨-, hempty⟩
  · rw [hgranted]
    exact Option.some_ne_none c
  · rw [hempty] at hmem
    cases hmem

/-- A channel in a stall is not ready for its next burst. -/
theorem dmaReady_of_stalled {s : State} {c : Nat} (hstalled : s.clk.now < (dmaChan s c).stallEnd) :
    dmaReady s c = false := by
  unfold dmaReady
  split
  · rfl
  · simp [Nat.not_le.mpr hstalled]

theorem dmaGrant_ne_of_stalled {s : State} {c : Nat} (hstalled : s.clk.now < (dmaChan s c).stallEnd) :
    dmaGrant s ≠ some c := by
  intro hgrant
  have hready := dmaReady_of_grant hgrant
  rw [dmaReady_of_stalled hstalled] at hready
  cases hready

/-- A channel that is not ready does not grow older. -/
theorem dmaChan_agedOthers_of_unready {s : State} {c : Nat} (d : Nat) (hunready : dmaReady s c = false) :
    dmaChan (agedOthers s d) c = dmaChan s c := by
  unfold dmaChan agedOthers
  cases hc : s.dma.chans[c]? with
  | none => simp [List.getElem?_mapIdx, hc]
  | some x => simp [List.getElem?_mapIdx, hc, hunready]

theorem execDmaBurst_error_next {s : State} {d : Nat} {r : Running} (hgrant : dmaGrant s = some d)
    (hrun : (dmaChan s d).run = some r) : execDmaBurst true s = .next (dmaBack d r.index 5 r.moved
      (setDma d { dmaChan (agedOthers s d) d with age := 0 } (agedOthers s d))) := by
  have hstall := stallOver_of_grant hgrant
  simp only [execDmaBurst, hstall, hgrant, hrun]
  rfl

/-- A burst of another channel, whether it meets a memory error or not, leaves a channel that is not ready as it is. -/
theorem dmaChan_execDmaBurst_of_unready {s t : State} {c d : Nat} {e : Bool} (hgrant : dmaGrant s = some d)
    (hunready : dmaReady s c = false) (hstep : execDmaBurst e s = .next t) : dmaChan t c = dmaChan s c := by
  have hdc : d ≠ c := by
    rintro rfl
    rw [dmaReady_of_grant hgrant] at hunready
    cases hunready
  have hready := dmaReady_of_grant hgrant
  obtain ⟨r, hrun⟩ : ∃ r, (dmaChan s d).run = some r := by
    unfold dmaReady at hready
    split at hready
    · cases hready
    · exact ⟨_, ‹_›⟩
  rw [← dmaChan_agedOthers_of_unready d hunready]
  cases e with
  | true =>
    cases (execDmaBurst_error_next hgrant hrun).symm.trans hstep
    rw [dmaChan_of_dma (dmaBack_dma _ _ _ _ _), dmaChan_setDma_other _ _ hdc, dmaChan_setDma_other _ _ hdc]
  | false =>
    cases (execDmaBurst_next hgrant hrun).symm.trans hstep
    obtain ⟨hchans, -, -, -⟩ := dMoveN_keeps 16 r (agedOthers s d)
    rw [burstState, dmaChan_setDma_other _ _ hdc, dmaChan, hchans, dmaChan]

theorem wedgeStall_of_masked {s : State} {c : Nat} (hholdup : inHoldup s = false)
    (hmasked : bitN ((s.kiln.wedge[if c < 4 then 3 else 4]?).getD 0) (c % 4) = true) :
    wedgeStall s c = ((s.kiln.wedge[if c < 4 then 3 else 4]?).getD 0) / 65536 * 2048 / 1000 :=
  if_pos (by rw [hmasked, hholdup]; rfl)

theorem wedgeStall_of_unmasked {s : State} {c : Nat}
    (hunmasked : bitN ((s.kiln.wedge[if c < 4 then 3 else 4]?).getD 0) (c % 4) = false) : wedgeStall s c = 0 :=
  if_neg (by rw [hunmasked]; exact Bool.false_ne_true)

/-- Settles O59: a burst sets the end of its channel's stall (R305, R258), which stands on the model's own instant (log entry 3);
until then the channel is not ready, keeps its AGE through the bursts of others, and any channel that is ready is served. -/
theorem wedgeStallHoldsChannel : Obligations.WedgeStallHoldsChannel := by
  unfold Obligations.WedgeStallHoldsChannel
  refine ⟨?_, ?_, ?_, ?_, ?_, ?_⟩
  · exact fun s c r hgrant hrun hin => ⟨_, execDmaBurst_next hgrant hrun, by rw [dmaChan_burstState r hin]⟩
  · exact fun _ _ => wedgeStall_of_masked
  · exact fun _ _ => wedgeStall_of_unmasked
  · exact fun _ _ => dmaGrant_ne_of_stalled
  · exact fun _ _ _ _ _ hstalled hgrant hstep =>
      congrArg DmaChan.age (dmaChan_execDmaBurst_of_unready hgrant (dmaReady_of_stalled hstalled) hstep)
  · exact fun _ _ => dmaGrant_of_ready

end Sys2Proof.DmaEngine

/-! The vehicle interface (13): which next state each event of the pilot, the proximity contact, SLAC, a session and the DC supply
answers, and each command's reply. What Kiln's reactions leave in the blocks of the vehicle and of Shutter is said once here. -/

namespace Sys2Proof.VehicleInterface

open Sys2Proof Sys2Proof.Machine Sys2Proof.Safety Sys2Proof.Laws Sys2Proof.Frames Sys2Proof.ModesPower
  Sys2Proof.KilnEnginePool

/-! Operations that leave the vehicle's block or Shutter's. -/

@[simp] theorem vehEvent_veh (event endCause : Nat) (s : State) : (vehEvent event endCause s).veh = s.veh :=
  kept_veh (by simp (disch := decide))

@[simp] theorem vehEvent_shu (event endCause : Nat) (s : State) : (vehEvent event endCause s).shu = s.shu :=
  kept_shu (by simp (disch := decide))

@[simp] theorem askShutter_veh (q : ShuReq) (s : State) : (askShutter q s).veh = s.veh :=
  kept_veh (by simp (disch := decide))

@[simp] theorem shareCheck_veh (s : State) : (shareCheck s).veh = s.veh := kept_veh (by simp (disch := decide))

@[simp] theorem shareCheck_shu (s : State) : (shareCheck s).shu = s.shu := kept_shu (by simp (disch := decide))

@[simp] theorem openSession_veh (kind : Nat) (ident : List Byte) (s : State) : (openSession kind ident s).veh = s.veh :=
  kept_veh (by simp (disch := decide))

@[simp] theorem openSession_shu (kind : Nat) (ident : List Byte) (s : State) : (openSession kind ident s).shu = s.shu :=
  kept_shu (by simp (disch := decide))

@[simp] theorem endSession_shu (cause : Nat) (s : State) : (endSession cause s).shu = s.shu :=
  kept_shu (by simp (disch := decide))

@[simp] theorem pmStop_shu (s : State) : (pmStop s).shu = s.shu := kept_shu (by simp (disch := decide))

@[simp] theorem watchPlug_shu (s : State) : (watchPlug s).shu = s.shu := kept_shu (by simp (disch := decide))

@[simp] theorem unplug_shu (s : State) : (unplug s).shu = s.shu := kept_shu (by simp (disch := decide))

@[simp] theorem wakeSeen_shu (n : Nat) (s : State) : (wakeSeen n s).shu = s.shu := kept_shu (by simp (disch := decide))

@[simp] theorem authNotify_veh (q : AuthReq) (s : State) : (authNotify q s).veh = s.veh :=
  kept_veh (by simp (disch := decide))

@[simp] theorem askPilot_clk (s : State) : (askPilot s).clk = s.clk := kept_clk (by simp (disch := decide))

@[simp] theorem vehEvent_clk (event endCause : Nat) (s : State) : (vehEvent event endCause s).clk = s.clk :=
  kept_clk (by simp (disch := decide))

/-! Requests to Shutter (R313, R342): Kiln places them behind those that wait, and Shutter's block holds nothing else of them but a
refusal. -/

/-- Between two states Kiln has placed requests, or had one refused; Shutter's block is otherwise the same. -/
def Asks (s t : State) : Prop := ∃ l f, t.shu = { s.shu with requests := s.shu.requests ++ l, refusal := f }

theorem asks_of_shu {s t : State} (hshu : t.shu = s.shu) : Asks s t := ⟨[], s.shu.refusal, by rw [hshu, List.append_nil]⟩

theorem Asks.trans {s t u : State} (htu : Asks t u) (hst : Asks s t) : Asks s u := by
  obtain ⟨l, f, ht⟩ := hst
  obtain ⟨m, g, hu⟩ := htu
  exact ⟨l ++ m, g, by rw [hu, ht]; simp only [List.append_assoc]⟩

theorem Asks.mem_requests {s t : State} (h : Asks s t) {q : ShuReq} (hq : q ∈ s.shu.requests) : q ∈ t.shu.requests := by
  obtain ⟨l, f, ht⟩ := h
  rw [ht]
  exact List.mem_append_left l hq

theorem Asks.cpState {s t : State} (h : Asks s t) : t.shu.cpState = s.shu.cpState := by
  obtain ⟨l, f, ht⟩ := h
  rw [ht]

theorem Asks.diodeMissing {s t : State} (h : Asks s t) : t.shu.diodeMissing = s.shu.diodeMissing := by
  obtain ⟨l, f, ht⟩ := h
  rw [ht]

theorem refusalNote_shu (q : ShuReq) (st : Nat) (s : State) : (refusalNote q st s).shu = s.shu :=
  kept_shu (by simp (disch := decide))

theorem asks_refuseReq (q : ShuReq) (st : Nat) (s : State) : Asks s (refuseReq q st s) := by
  unfold refuseReq
  split
  · exact asks_of_shu rfl
  · exact ⟨[], _, by rw [refusalNote_shu, List.append_nil]⟩

theorem asks_askShutter (q : ShuReq) (s : State) : Asks s (askShutter q s) := by
  unfold askShutter
  split
  · exact asks_refuseReq q _ s
  · exact ⟨[q], s.shu.refusal, rfl⟩

/-- Only a closing is refused when it is placed (R29). -/
theorem askShutter_requests_of_opening {q : ShuReq} (s : State) (hq : isClose q = false) :
    (askShutter q s).shu.requests = s.shu.requests ++ [q] := by
  rw [askShutter, hq]
  rfl

theorem asks_ite {c : Prop} [Decidable c] {s t u : State} (ht : c → Asks s t) (hu : ¬ c → Asks s u) :
    Asks s (if c then t else u) := by
  split
  · exact ht ‹_›
  · exact hu ‹_›

theorem asks_askPilot (s : State) : Asks s (askPilot s) := by
  unfold askPilot
  split
  · exact asks_of_shu rfl
  · extract_lets d clamp starts placed timed
    have hplaced : Asks s placed := asks_ite (fun _ => asks_of_shu rfl) fun _ => asks_askShutter _ s
    have htimed : Asks s timed := asks_ite (fun _ => hplaced) fun _ => hplaced
    exact asks_ite (fun _ => (asks_askShutter _ timed).trans htimed) fun _ => htimed

/-- The limits of now, with what they mean for the tokens (R322). -/
def limitsTaken (s : State) : State :=
  shareCheck (setVeh (fun x => { x with
    iLim := (limitNow s).1, limitSrc := (limitNow s).2
    lastFall := if (limitNow s).1 < s.veh.iLim then some s.clk.now else x.lastFall }) s)

/-- A changed limit is told in an open session and asked of Shutter. -/
theorem updateLimits_eq (s : State) : updateLimits s =
    if (limitNow s).1 = s.veh.iLim then limitsTaken s
    else
      let told := if sessionOpen (limitsTaken s) then vehEvent 12 0 (limitsTaken s) else limitsTaken s
      if told.dom.d1 then askShutter (.limit (limitNow s).1 told.veh.dcService) told else told := rfl

theorem limitsTaken_shu (s : State) : (limitsTaken s).shu = s.shu := shareCheck_shu _

theorem asks_updateLimits (s : State) : Asks s (updateLimits s) := by
  rw [updateLimits_eq]
  refine asks_ite (fun _ => asks_of_shu (limitsTaken_shu s)) fun _ => ?_
  extract_lets told
  have htold : told.shu = s.shu := by
    dsimp only [told]
    split
    · exact (vehEvent_shu _ _ _).trans (limitsTaken_shu s)
    · exact limitsTaken_shu s
  exact asks_ite (fun _ => (asks_askShutter _ told).trans (asks_of_shu htold)) fun _ => asks_of_shu htold

theorem asks_beginSession (kind : Nat) (ident : List Byte) (bpt : Bool) (s : State) :
    Asks s (beginSession kind ident bpt s) := by
  unfold beginSession
  extract_lets opened started
  exact (asks_askPilot _).trans (asks_of_shu (by rw [vehEvent_shu, setVeh_shu, openSession_shu]))

theorem asks_freeVend (s : State) : Asks s (freeVend s) := by
  unfold freeVend
  exact asks_ite (fun _ => (asks_beginSession _ _ _ _).trans (asks_of_shu rfl)) fun _ => asks_of_shu rfl

/-! What Kiln's reactions leave of the vehicle's block. -/

/-- Kiln's requests for the pilot may start the time of SLAC, and change nothing else of the vehicle's block (R313, R319). -/
theorem askPilot_veh (s : State) : ∃ at0, (askPilot s).veh = { s.veh with slacStart := at0 } := by
  unfold askPilot
  split
  · exact ⟨s.veh.slacStart, rfl⟩
  · extract_lets d clamp starts placed timed
    have hplaced : placed.veh = s.veh := by
      dsimp only [placed]
      split
      · rfl
      · exact askShutter_veh _ s
    have htimed : ∃ at0, timed.veh = { s.veh with slacStart := at0 } := by
      dsimp only [timed]
      split
      · exact ⟨_, by rw [setVeh_veh, hplaced]⟩
      · exact ⟨s.veh.slacStart, hplaced⟩
    split
    · rw [askShutter_veh]
      exact htimed
    · exact htimed

/-- What the proximity contact reads (R317). -/
def proximity (v : Vehicle) : Nat × Nat × Nat := (v.ppState, v.ppRating, v.ppOhm)

@[simp] theorem proximity_askPilot (s : State) : proximity (askPilot s).veh = proximity s.veh := by
  obtain ⟨at0, hveh⟩ := askPilot_veh s
  rw [hveh]
  rfl

@[simp] theorem proximity_beginSession (kind : Nat) (ident : List Byte) (bpt : Bool) (s : State) :
    proximity (beginSession kind ident bpt s).veh = proximity s.veh := by
  unfold beginSession
  extract_lets opened started
  rw [proximity_askPilot, vehEvent_veh, setVeh_veh]
  calc _ = proximity (openSession kind ident s).veh := rfl
    _ = proximity s.veh := by rw [openSession_veh]

@[simp] theorem proximity_freeVend (s : State) : proximity (freeVend s).veh = proximity s.veh := by
  unfold freeVend
  split
  · rw [proximity_beginSession]
    rfl
  · rfl

/-- New limits change three fields of the vehicle's block (R322). -/
theorem updateLimits_veh (s : State) : (updateLimits s).veh = { s.veh with
    iLim := (limitNow s).1, limitSrc := (limitNow s).2
    lastFall := if (limitNow s).1 < s.veh.iLim then some s.clk.now else s.veh.lastFall } := by
  have htaken : (limitsTaken s).veh = { s.veh with
      iLim := (limitNow s).1, limitSrc := (limitNow s).2
      lastFall := if (limitNow s).1 < s.veh.iLim then some s.clk.now else s.veh.lastFall } := shareCheck_veh _
  rw [updateLimits_eq]
  split
  · exact htaken
  · extract_lets told
    have htold : told.veh = (limitsTaken s).veh := by
      dsimp only [told]
      split
      · exact vehEvent_veh _ _ _
      · rfl
    split
    · rw [askShutter_veh, htold, htaken]
    · rw [htold, htaken]

@[simp] theorem proximity_updateLimits (s : State) : proximity (updateLimits s).veh = proximity s.veh := by
  rw [updateLimits_veh]
  rfl

@[simp] theorem proximity_watchPlug (s : State) : proximity (watchPlug s).veh = proximity s.veh := by
  unfold watchPlug
  split
  · rw [vehEvent_veh]
    rfl
  · rfl

@[simp] theorem proximity_endSession (cause : Nat) (s : State) : proximity (endSession cause s).veh = proximity s.veh := by
  unfold endSession
  split <;> rfl

/-! Events of the pilot and the proximity contact (R314, R315, R317). -/

/-- Kiln reacts to a new pilot state by events and requests alone, as far as Shutter's block goes (R315). -/
theorem asks_kilnCp (old new : Nat) (s : State) : Asks s (kilnCp old new s) := by
  unfold kilnCp
  extract_lets was seen diode plugged vented gone
  have hdiode : diode.shu = s.shu := by
    dsimp only [diode]
    split
    · exact vehEvent_shu _ _ _
    · rfl
  have hplugged : plugged.shu = s.shu := (watchPlug_shu diode).trans hdiode
  have hvented : vented.shu = s.shu := by
    dsimp only [vented]
    split
    · exact (vehEvent_shu _ _ _).trans hplugged
    · exact hplugged
  have hgone : Asks s gone := by
    refine asks_ite (fun _ => asks_of_shu ((unplug_shu vented).trans hvented)) fun _ =>
      asks_ite (fun _ => ?_) fun _ => asks_of_shu hvented
    exact (asks_askShutter _ _).trans (asks_of_shu ((vehEvent_shu _ _ _).trans hvented))
  exact (((asks_askPilot _).trans (asks_freeVend _)).trans (asks_updateLimits _)).trans hgone

/-- The start of a self-test leaves the pilot (R347). -/
theorem startRcm_pilot (cause : Nat) (dest : Option Req) (s : State) :
    (startRcm cause dest s).shu.cpState = s.shu.cpState ∧ (startRcm cause dest s).shu.diodeMissing = s.shu.diodeMissing := by
  unfold startRcm
  split
  · exact ⟨rfl, rfl⟩
  · split <;> exact ⟨rfl, rfl⟩

theorem execCpStateChange_next {s : State} (hi lo : Int) (hd1 : s.dom.d1 = true) : ∃ t, execCpStateChange hi lo s = .next t ∧
    t.shu.cpState = (classifyCp s.shu.cpDrive s.shu.cpState hi lo).1 ∧
    t.shu.diodeMissing = (classifyCp s.shu.cpDrive s.shu.cpState hi lo).2 := by
  refine exists_next_of_whenever hd1 fun t ht => ?_
  extract_lets old at ht
  rcases hclass : classifyCp s.shu.cpDrive old hi lo with ⟨new, diode⟩
  simp -zeta only [hclass] at ht
  extract_lets read tested woken mode timed at ht
  have hwoken : woken.shu = tested.shu := by
    dsimp only [woken]
    split
    · exact wakeSeen_shu 0 tested
    · rfl
  have htimed : timed.shu = tested.shu := by
    dsimp only [timed]
    split <;> exact hwoken
  have htested : tested.shu.cpState = new ∧ tested.shu.diodeMissing = diode := by
    dsimp only [tested]
    split
    · exact startRcm_pilot 2 none read
    · exact ⟨rfl, rfl⟩
  have hasks : Asks timed t := by
    rw [ht]
    exact asks_ite (fun _ => asks_kilnCp _ _ timed) fun _ => asks_of_shu rfl
  rw [hasks.cpState, hasks.diodeMissing, htimed]
  exact htested

theorem execPpStateChange_next {s : State} (ohm : Nat) (hserving : serving s = true) (hholdup : inHoldup s = false)
    (hactive : isStandby s = false) (hcoding : param s 0x0502 ≠ 0) : ∃ t, execPpStateChange ohm s = .next t ∧
      t.veh.ppState = (classifyPp (param s 0x0502) ohm).1 ∧ t.veh.ppRating = (classifyPp (param s 0x0502) ohm).2 ∧
      t.veh.ppOhm = (if 4500 < ohm then 0xFFFF else ohm) := by
  unfold execPpStateChange
  extract_lets coding
  refine exists_next_of_whenever (by simp [coding, hserving, hholdup, hactive, hcoding]) fun t ht => ?_
  extract_lets old moving at ht
  rcases hclass : classifyPp coding ohm with ⟨new, rating⟩
  simp -zeta only [hclass] at ht
  extract_lets read asked ended reacted at ht
  have hreacted : proximity reacted.veh = proximity read.veh := by
    have hasked : proximity asked.veh = proximity read.veh := by
      dsimp only [asked]
      split
      · rw [askShutter_veh]
      · rfl
    have hended : proximity ended.veh = proximity read.veh := (proximity_endSession 1 asked).trans hasked
    dsimp only [reacted]
    split
    · rfl
    · split
      · split
        · rw [vehEvent_veh]
          exact hended
        · exact hended
      · split
        · rw [askShutter_veh]
          exact proximity_endSession 3 read
        · split
          · rw [askShutter_veh]
          · rfl
  have hprox : proximity t.veh = proximity read.veh := by
    rw [ht, proximity_askPilot, proximity_freeVend, proximity_updateLimits, proximity_watchPlug, hreacted]
  simp only [proximity, Prod.mk.injEq] at hprox
  exact hprox

/-! SLAC and the message protocols (R319, R320). -/

/-- After a fallback SLAC restarts in state B alone (R319). -/
theorem slacOpen {s : State} (hmodem : modemOn s = true) (hpilot : s.veh.fallback = true → s.shu.cpState = 2) :
    (modemOn s && (!s.veh.fallback || s.shu.cpState == 2)) = true := by
  cases hfallback : s.veh.fallback with
  | false => simp [hmodem]
  | true => simp [hmodem, hpilot hfallback]

theorem execSlacMessage_next {s : State} (m : SlacMsg) (hmodem : modemOn s = true)
    (hpilot : s.veh.fallback = true → s.shu.cpState = 2) : execSlacMessage m s = .next (slacStep m s) :=
  next_of_whenever (slacOpen hmodem hpilot) rfl

theorem execSlacMessage_match_next {s : State} {a : Nat} (hmodem : modemOn s = true)
    (hpilot : s.veh.fallback = true → s.shu.cpState = 2) (hatten : s.veh.atten = some a) (hnear : a ≤ param s 0x0509) :
    ∃ t, execSlacMessage .matchReq s = .next t ∧ t.veh.slacMatched = true ∧ t.veh.fallback = false := by
  refine ⟨_, execSlacMessage_next .matchReq hmodem hpilot, ?_⟩
  simp only [slacStep, hatten, if_pos hnear]
  obtain ⟨at0, hveh⟩ := askPilot_veh (answered .matchReq (setVeh (fun x => { x with
    slacMatched := true, fallback := false, slacStart := none }) s))
  rw [hveh]
  exact ⟨rfl, rfl⟩

theorem execSlacTimeout_next {s : State} {at0 : Tick} (hstart : s.veh.slacStart = some at0) (hmodem : modemOn s = true)
    (hunmatched : s.veh.slacMatched = false) : ∃ t, execSlacTimeout s = .next t ∧ t.veh.fallback = true ∧
      t.clk.now = max s.clk.now (at0 + Tick.s 40) := by
  unfold execSlacTimeout
  rw [hstart]
  refine exists_next_of_whenever (by rw [hmodem, hunmatched]; rfl) fun t ht => ?_
  obtain ⟨at1, hveh⟩ := askPilot_veh (vehEvent 8 0 (setVeh (fun x => { x with fallback := true, slacStart := none })
    (advanceTo (at0 + Tick.s 40) s)))
  rw [ht, hveh, askPilot_clk, vehEvent_clk, vehEvent_veh]
  exact ⟨rfl, rfl⟩

theorem execV2gMessage_next {s : State} (m : V2GMsg) (hmodem : modemOn s = true) (hmatched : s.veh.slacMatched = true) :
    execV2gMessage m s = .next (v2gStep m s) :=
  next_of_whenever (by rw [hmodem, hmatched]; rfl) rfl

/-! Sessions (R323, R325, R327). -/

/-- With no other identifier kept, the vehicle is told that its authorisation failed (R325). -/
theorem dropAuth_of_none {s : State} (hkept : s.veh.kept = []) :
    dropAuth s = setVeh (fun x => { x with req := none, authFailed := true }) s := by
  unfold dropAuth
  dsimp only
  rw [setVeh_veh, hkept]
  rfl

theorem execAuthTimeout_next {s : State} {q : AuthReq} (hreq : s.veh.req = some q) (hserving : serving s = true)
    (hkept : s.veh.kept = []) : ∃ t, execAuthTimeout s = .next t ∧ t.veh.req = none ∧ t.veh.authFailed = true ∧
      t.clk.now = max s.clk.now q.deadline := by
  unfold execAuthTimeout
  rw [hreq]
  refine exists_next_of_whenever hserving fun t ht => ?_
  rw [ht, dropAuth_of_none (by rw [advanceTo_veh, hkept])]
  exact ⟨rfl, rfl, rfl⟩

theorem execOverdraw_next {s : State} {at0 : Tick} (hover : s.veh.overSince = some at0) (hserving : serving s = true)
    (hfall : s.veh.lastFall = none) (htransfer : s.veh.transfer = true) (hsession : sessionOpen s = true) : ∃ t,
      execOverdraw s = .next t ∧ t.veh.overSince = none ∧ t.shu.requests = s.shu.requests ++ [.openOrderly 0] := by
  unfold execOverdraw
  rw [hover]
  simp only [hfall]
  refine exists_next_of_whenever (by simp [hserving, htransfer, hsession]) fun t ht => ?_
  rw [ht, askShutter_requests_of_opening _ rfl, askShutter_veh, vehEvent_shu, vehEvent_veh, endSession_shu]
  refine ⟨?_, rfl⟩
  unfold endSession
  split <;> rfl

theorem execSessionClose_next {s : State} {cause e : Nat} (hcause : s.veh.endCause = some cause)
    (hclosing : closingEpoch s = some e) (hserving : serving s = true) (hsession : sessionOpen s = true)
    (hdone : lDone e s = true) (hstands : closeStands s e = false) :
    execSessionClose s = .next (endOfSession cause e s) := by
  unfold execSessionClose
  rw [hcause, hclosing]
  exact next_of_whenever (by simp [hserving, hsession, hdone, hstands]) rfl

/-- Settles O20: each event of the pilot, the proximity contact, SLAC, a session and its close answers its next state. The instant
clk.now is the model's own (log entry 3). -/
theorem vehicleEventsComplete : Obligations.VehicleEventsComplete := by
  unfold Obligations.VehicleEventsComplete
  refine ⟨?_, ?_, ?_, ?_, ?_, ?_, ?_, ?_, ?_⟩
  · exact fun _ hi lo => execCpStateChange_next hi lo
  · exact fun _ ohm => execPpStateChange_next ohm
  · exact fun _ m => execSlacMessage_next m
  · exact fun _ _ => execSlacMessage_match_next
  · exact fun _ _ => execSlacTimeout_next
  · exact fun _ m => execV2gMessage_next m
  · exact fun _ _ => execAuthTimeout_next
  · exact fun _ _ => execOverdraw_next
  · exact fun _ _ _ => execSessionClose_next

/-! Commands on Brixo (R334–R336). -/

theorem asOf_snap (s : State) : (asOf s).snap = s.snap := kept_snap (by simp (disch := decide))

theorem asOf_par (s : State) : (asOf s).par = s.par := kept_par (by simp (disch := decide))

theorem asOf_ident (s : State) : (asOf s).ident = s.ident := kept_ident (by simp (disch := decide))

theorem vehBody_take (s : State) : (vehBody (asOf s)).take 8 =
    le 1 (s.snap.state.cp % 8) ++ le 1 (if param s 0x0502 = 0 then 1 else (asOf s).veh.ppState) ++
      leI 2 (asOf s).veh.cpHi ++ leI 2 (asOf s).veh.cpLo ++ le 2 (asOf s).veh.ppOhm := by
  have hparam : param (asOf s) 0x0502 = param s 0x0502 := by simp only [param, paramI, paramCell, asOf_par]
  unfold vehBody
  rw [asOf_snap, hparam]
  simp [List.take_append, List.take_of_length_le]

theorem execVehStatus_next {s a : State} {r : Req} (htaken : Taken 0x0500 r s) (ha : a = asOf s) :
    ∃ body, execVehStatus r s = .next (reply r 0x0500 stOk body s) ∧
      body.take 8 = le 1 (s.snap.state.cp % 8) ++ le 1 (if param s 0x0502 = 0 then 1 else a.veh.ppState) ++
        leI 2 a.veh.cpHi ++ leI 2 a.veh.cpLo ++ le 2 a.veh.ppOhm := by
  subst ha
  exact ⟨_, brixo_of_answer htaken rfl, vehBody_take s⟩

section Gated

variable {s : State} {r : Req}

theorem execVehAuthorise_refused_next {id bpt : Nat} {q : AuthReq} (htaken : Taken 0x0501 r s) (hbpt : bpt ≤ 1)
    (hgate : vehGate s = none) (hreq : s.veh.req = some q) (hid : q.id = id) (hsome : id ≠ 0) :
    execVehAuthorise r id 0 bpt s = .next (reply r 0x0501 stOk (le 8 0) (dropAuth s)) :=
  brixo_of_answer htaken (by simp [Nat.not_lt.mpr hbpt, hgate, hreq, hid, hsome])

theorem execVehAuthorise_begun_next {bpt : Nat} (htaken : Taken 0x0501 r s) (hbpt : bpt ≤ 1) (hgate : vehGate s = none)
    (hmode : s.mode.mode = .service) (hconnected : connected s = true) (hpp : ppValid s = true)
    (hallowed : authRefusal s bpt = none) : ∃ t, execVehAuthorise r 0 1 bpt s =
      .next (reply r 0x0501 stOk (le 8 ((t.bil.session.map (·.startEpoch)).getD 0)) t) ∧
      t = beginSession 3 [] (bpt == 1) s := by
  refine ⟨_, brixo_of_answer htaken ?_, rfl⟩
  simp [Nat.not_lt.mpr hbpt, hgate, hmode, hconnected, hpp, hallowed]

theorem execVehLimitsSet_schedule_next {entries : List (Nat × Nat)} (htaken : Taken 0x0502 r s) (hgate : vehGate s = none)
    (hfew : entries.length ≤ 24) (hlow : entries.any (fun e => decide (param s 0x0510 < e.2)) = false) : ∃ t,
      execVehLimitsSet r 0xFFFFFFFF 0xFFFFFFFF entries.length entries s =
        .next (reply r 0x0502 stOk (le 8 (s.clk.epoch + 1)) t) ∧ t.veh.hostI = none ∧ t.veh.hostP = none ∧
      t.veh.schedule = entries ∧ t.veh.scheduleFrom = s.clk.epoch := by
  refine ⟨setVeh (fun x => { x with hostI := none, hostP := none, schedule := entries, scheduleFrom := s.clk.epoch }) s,
    brixo_of_answer htaken ?_, rfl, rfl, rfl, rfl⟩
  simp [hgate, Nat.not_lt.mpr hfew, hlow]

theorem execVehLimitsSet_current_next {iMax : Nat} (htaken : Taken 0x0502 r s) (hgate : vehGate s = none)
    (hset : iMax ≠ 0xFFFFFFFF) (hlow : aboveStatic s iMax = false) : ∃ t,
      execVehLimitsSet r iMax 0xFFFFFFFF 0 [] s = .next (reply r 0x0502 stOk (le 8 (s.clk.epoch + 1)) t) ∧
      t.veh.hostI = some iMax ∧ t.veh.schedule = [] := by
  refine ⟨setVeh (fun x => { x with hostI := some iMax, hostP := none, schedule := [], scheduleFrom := s.clk.epoch }) s,
    brixo_of_answer htaken ?_, rfl, rfl⟩
  simp [hgate, hset, hlow]

/-- A stop by command is an orderly opening behind the requests that wait (R336). -/
theorem execVehStop_next {reason : Nat} (htaken : Taken 0x0503 r s) (hgate : vehGate s = none)
    (hreason : reason = 1 ∨ reason = 2) (hconnected : connected s = true) (hsession : sessionOpen s = true) :
    ∃ t, execVehStop r reason s = .next (reply r 0x0503 stOk [] t) ∧ ShuReq.openOrderly 0 ∈ t.shu.requests := by
  have hnamed : (reason != 1 && reason != 2) = false := by
    rcases hreason with rfl | rfl <;> rfl
  refine ⟨_, brixo_of_answer htaken
    (by simp only [hgate, hnamed, hconnected, hsession, Bool.not_true, Bool.false_and, Bool.false_eq_true, if_true, if_false]
        rfl), ?_⟩
  refine (asks_askPilot _).mem_requests ?_
  rw [askShutter_requests_of_opening _ rfl]
  exact List.mem_append_right _ List.mem_cons_self

theorem execVehAvailability_next {state : Nat} (htaken : Taken 0x0504 r s) (hgate : vehGate s = none) (hstate : state ≤ 1) :
    ∃ t, execVehAvailability r state s = .next (reply r 0x0504 stOk (le 1 (b2n (state == 1 && sessionOpen s))) t) ∧
      t.veh.unavailable = (state == 1) := by
  refine ⟨askPilot (setVeh (fun x => { x with unavailable := state == 1 }) s), brixo_of_answer htaken ?_, ?_⟩
  · simp only [hgate, if_neg (Nat.not_lt.mpr hstate)]
  · obtain ⟨at0, hveh⟩ := askPilot_veh (setVeh (fun x => { x with unavailable := state == 1 }) s)
    rw [hveh]
    rfl

theorem execVehCertLoad_next {what : Nat} (certs : List (List Byte)) (htaken : Taken 0x0505 r s) (hgate : vehGate s = none)
    (hwhat : what ≠ 0) (hfour : what ≤ 4) : execVehCertLoad r what certs s =
      .next (if !Config.certsValid what certs then reply r 0x0505 stCertInvalid [] s
        else if !Config.certsFit s.veh.certs certs then reply r 0x0505 stExhausted [] s
        else reply r 0x0505 stOk (le 1 certs.length)
          (setVeh (fun x => { x with certs := x.certs.set (what - 1) certs }) s)) := by
  have hnamed : ¬ (what = 0 || 4 < what) = true := by
    simp only [Bool.or_eq_true, decide_eq_true_eq]
    omega
  cases hvalid : Config.certsValid what certs with
  | false => exact brixo_of_answer htaken (by simp only [hgate, if_neg hnamed, hvalid]; rfl)
  | true =>
    cases hfit : Config.certsFit s.veh.certs certs with
    | false => exact brixo_of_answer htaken (by simp only [hgate, if_neg hnamed, hvalid, hfit]; rfl)
    | true => exact brixo_of_answer htaken (by simp only [hgate, if_neg hnamed, hvalid, hfit]; rfl)

theorem execVehRelayAnswer_next {id : Nat} (body : List Byte) (htaken : Taken 0x0506 r s) (hgate : vehGate s = none)
    (hrelay : s.veh.relay = some id) : execVehRelayAnswer r id body s = .next (reply r 0x0506 stOk []
      (setVeh (fun x => { x with relay := none, relayBody := body, answer := .ok }) s)) :=
  brixo_of_answer htaken (by simp only [hgate, if_pos hrelay])

end Gated

/-- Settles O21: each command of the vehicle interface answers its reply and its next state. That VEH_STOP opens at once for both
reasons is the model's choice (log entry 41). -/
theorem vehicleCommandsComplete : Obligations.VehicleCommandsComplete := by
  unfold Obligations.VehicleCommandsComplete
  refine ⟨?_, ?_, ?_, ?_, ?_, ?_, ?_, ?_, ?_⟩
  · exact fun _ _ _ => execVehStatus_next
  · exact fun _ _ _ _ _ => execVehAuthorise_refused_next
  · exact fun _ _ _ => execVehAuthorise_begun_next
  · exact fun _ _ _ => execVehLimitsSet_schedule_next
  · exact fun _ _ _ => execVehLimitsSet_current_next
  · exact fun _ _ _ => execVehStop_next
  · exact fun _ _ _ => execVehAvailability_next
  · exact fun _ _ _ certs => execVehCertLoad_next certs
  · exact fun _ _ _ body => execVehRelayAnswer_next body

/-! The DC supply (R328–R330). -/

theorem execCanFrameReceived_monitor_next {s : State} (f : CanFrame) (hdc : dcOn s = true) (hid : f.id = 0x0C0)
    (hlength : f.data.length = 8) : execCanFrameReceived f s =
      .next (setVeh (fun x => { x with rIso := fieldAt f.data 0 4, monitor := fieldAt f.data 4 1 }) s) :=
  next_of_whenever hdc (by simp [hid, hlength])

theorem execCanFrameReceived_module_next {s : State} (f : CanFrame) {p : PowerModule} (hdc : dcOn s = true)
    (hlow : 0x180 ≤ f.id) (hhigh : f.id < 0x180 + param s 0x0511) (hlength : f.data.length = 16)
    (hfault : fieldAt f.data 2 2 = 0) (hp : s.veh.pm[f.id - 0x180]? = some p) (halive : p.alive ≠ some (fieldAt f.data 1 1)) :
    ∃ t, execCanFrameReceived f s = .next t ∧
      ((t.veh.pm[f.id - 0x180]?).map fun x => (x.online, x.seen, x.vOut, x.iOut)) =
        some (true, s.clk.now, fieldAt f.data 4 4, toI 4 (fieldAt f.data 8 4)) := by
  have hmodule : ¬ (f.id = 0x0C0 && f.data.length = 8) = true := by simp [hlength]
  have hframe : (0x180 ≤ f.id && f.id < 0x180 + param s 0x0511 && f.data.length = 16) = true := by
    simp [hlow, hhigh, hlength]
  refine exists_next_of_whenever hdc fun t ht => ?_
  rw [if_neg hmodule, if_pos hframe] at ht
  rw [ht]
  simp only [setPm, setVeh_veh]
  rw [getElem?_modAt_same, hp]
  simp [hfault, halive]

theorem execCanFrameSend_next {s : State} (hdc : dcOn s = true) (hactive : isStandby s = false) : ∃ t,
    execCanFrameSend s = .next t ∧ t.veh.canSent = (List.range (param s 0x0511)).map (controlFrame s) :=
  exists_next_of_whenever (by simp [hdc, hactive]) fun t ht => by rw [ht]; rfl

theorem updateLimits_clk (s : State) : (updateLimits s).clk = s.clk := kept_clk (by simp (disch := decide))

theorem execPowerModuleLost_next {s : State} {n : Nat} {p : PowerModule} (hp : s.veh.pm[n]? = some p) (hdc : dcOn s = true)
    (honline : p.online = true) : ∃ t, execPowerModuleLost n s = .next t ∧ ((t.veh.pm[n]?).map (·.online)) = some false ∧
      t.clk.now = max s.clk.now (p.seen + Tick.ms 50) := by
  unfold execPowerModuleLost
  rw [hp]
  refine exists_next_of_whenever (by simp [hdc, honline]) fun t ht => ?_
  rw [ht, updateLimits_veh, updateLimits_clk]
  refine ⟨?_, rfl⟩
  simp only [setPm, setVeh_veh, advanceTo_veh]
  rw [getElem?_modAt_same, hp]
  rfl

/-- A failed cable check or precharge leaves the power stage at no current (R329, R330). -/
theorem dcFail_veh (s : State) : (dcFail s).veh.dcEnd = none ∧ (dcFail s).veh.pmI = 0 ∧ (dcFail s).veh.pmNeg = 0 ∧
    (dcFail s).veh.isolation = s.veh.isolation := by
  unfold dcFail
  rw [askShutter_veh]
  unfold endSession
  split <;> exact ⟨rfl, rfl, rfl, rfl⟩

theorem dcFail_clk (s : State) : (dcFail s).clk = s.clk := kept_clk (by simp (disch := decide))

theorem execCableCheckReady_next {s : State} {at0 : Tick} (hdc : dcOn s = true) (hphase : s.veh.dcPhase = 1)
    (hend : s.veh.dcEnd = some at0) (hmonitor : s.veh.monitor = 1) (hvoltage : atTestVoltage s = true) : ∃ t,
      execCableCheckReady s = .next t ∧ t.veh.dcEnd = none ∧ t.veh.isolation =
        (if 500 * s.veh.pmV ≤ s.veh.rIso * 1000 then 1 else if 100 * s.veh.pmV ≤ s.veh.rIso * 1000 then 2 else 3) := by
  refine exists_next_of_whenever (by simp [hdc, hphase, hend, hmonitor, hvoltage]) fun t ht => ?_
  extract_lets r v at ht
  rw [ht]
  change _ ∧ _ = if 500 * v ≤ r then 1 else if 100 * v ≤ r then 2 else 3
  by_cases hvalid : 500 * v ≤ r
  · rw [if_pos hvalid, if_pos hvalid]
    exact ⟨rfl, rfl⟩
  · rw [if_neg hvalid, if_neg hvalid]
    by_cases hwarning : 100 * v ≤ r
    · rw [if_pos hwarning, if_pos hwarning]
      exact ⟨rfl, rfl⟩
    · rw [if_neg hwarning, if_neg hwarning]
      obtain ⟨hnone, -, -, hisolation⟩ := dcFail_veh (setVeh (fun x => { x with isolation := 3 }) s)
      exact ⟨hnone, hisolation⟩

theorem execCableCheckTimeout_next {s : State} {at0 : Tick} (hend : s.veh.dcEnd = some at0) (hdc : dcOn s = true)
    (hphase : s.veh.dcPhase = 1) : ∃ t, execCableCheckTimeout s = .next t ∧ t.veh.isolation = 3 ∧ t.veh.dcEnd = none ∧
      t.veh.pmI = 0 ∧ t.clk.now = max s.clk.now at0 := by
  unfold execCableCheckTimeout
  rw [hend]
  refine exists_next_of_whenever (by simp [hdc, hphase]) fun t ht => ?_
  obtain ⟨hnone, hi, -, hisolation⟩ := dcFail_veh (setVeh (fun x => { x with isolation := 3 }) (advanceTo at0 s))
  rw [ht, dcFail_clk]
  exact ⟨hisolation, hnone, hi, rfl⟩

theorem execPrechargeComplete_next {s : State} {at0 : Tick} (hdc : dcOn s = true) (hphase : s.veh.dcPhase = 2)
    (hend : s.veh.dcEnd = some at0) (hnear : ((s.shu.mod1 : Int) - s.veh.vTarget).natAbs ≤ 20000) :
    execPrechargeComplete s = .next (setVeh (fun x => { x with dcEnd := none, answer := .ok }) s) :=
  next_of_whenever (by simp [hdc, hphase, hend, hnear]) rfl

theorem execPrechargeTimeout_next {s : State} {at0 : Tick} (hend : s.veh.dcEnd = some at0) (hdc : dcOn s = true)
    (hphase : s.veh.dcPhase = 2) : ∃ t, execPrechargeTimeout s = .next t ∧ t.veh.dcEnd = none ∧ t.veh.pmI = 0 ∧
      t.veh.pmNeg = 0 ∧ t.clk.now = max s.clk.now at0 := by
  unfold execPrechargeTimeout
  rw [hend]
  refine exists_next_of_whenever (by simp [hdc, hphase]) fun t ht => ?_
  obtain ⟨hnone, hi, hneg, -⟩ := dcFail_veh (advanceTo at0 s)
  rw [ht, dcFail_clk]
  exact ⟨hnone, hi, hneg, rfl⟩

theorem execDcDischargeEnd_next {s : State} {at0 : Tick} (hend : s.veh.dcEnd = some at0) (hdc : dcOn s = true)
    (hphase : s.veh.dcPhase = 4) (hlow : s.shu.mod1 < 60000) :
    execDcDischargeEnd s = .next (setVeh (fun x => { x with pmMode := 0, dcEnd := none }) s) := by
  unfold execDcDischargeEnd
  rw [hend]
  exact next_of_whenever (by simp [hdc, hphase]) (if_pos hlow)

/-- Settles O22: each event of the power modules, the cable check, the precharge and the discharge answers its next state. The
instant clk.now is the model's own (log entry 3). -/
theorem dcSupplyEventsComplete : Obligations.DcSupplyEventsComplete := by
  unfold Obligations.DcSupplyEventsComplete
  refine ⟨?_, ?_, ?_, ?_, ?_, ?_, ?_, ?_, ?_⟩
  · exact fun _ f => execCanFrameReceived_monitor_next f
  · exact fun _ f _ => execCanFrameReceived_module_next f
  · exact fun _ => execCanFrameSend_next
  · exact fun _ _ _ => execPowerModuleLost_next
  · exact fun _ _ => execCableCheckReady_next
  · exact fun _ _ => execCableCheckTimeout_next
  · exact fun _ _ => execPrechargeComplete_next
  · exact fun _ _ => execPrechargeTimeout_next
  · exact fun _ _ => execDcDischargeEnd_next

end Sys2Proof.VehicleInterface

/-! Shutter (14): which next state each request of Kiln, each trip, each timer and each command answers. What the shared operations
(requests taken and refused, coils off, latches, the trip) leave of Shutter's block is said once, in the first part. -/

namespace Sys2Proof.ShutterSafety

open Sys2Proof Sys2Proof.Machine Sys2Proof.Safety Sys2Proof.Laws Sys2Proof.Frames Sys2Proof.ModesPower
  Sys2Proof.MeasurementInputs Sys2Proof.KilnEnginePool Sys2Proof.VehicleInterface

/-! Parameters and the timebase. -/

/-- A parameter's value depends on the parameter store alone. -/
theorem param_of_par {s t : State} (hpar : t.par = s.par) (id : Nat) : param t id = param s id := by
  simp only [param, paramI, paramCell, hpar]

/-- The timebase with the count of free values set aside. -/
def timebase (c : Clock) : Clock := { c with free := 0 }

theorem timebase_of_clk {s t : State} (hclk : t.clk = s.clk) : timebase t.clk = timebase s.clk := by rw [hclk]

theorem now_of_timebase {s t : State} (h : timebase t.clk = timebase s.clk) : t.clk.now = s.clk.now :=
  (congrArg Clock.now h :)

theorem epoch_of_timebase {s t : State} (h : timebase t.clk = timebase s.clk) : t.clk.epoch = s.clk.epoch :=
  (congrArg Clock.epoch h :)

/-- The end of a rapid voltage change takes at most a free value (log entry 29). -/
theorem timebase_endRvc (o : PqRvc) (a : Nat) (dss : Option Nat) (flags : Nat) (s : State) :
    timebase (endRvc o a dss flags s).clk = timebase s.clk := by
  have hadd (e : PqEvent) (u : State) : (pqAdd e u).clk = u.clk := kept_clk (by simp (disch := decide))
  unfold endRvc
  cases dss with
  | some d => exact timebase_of_clk (hadd _ _)
  | none => exact timebase_of_clk (s := (takeFree s).2) (hadd _ _)

theorem pqReplace_clk (e : PqEvent) (s : State) : (pqReplace e s).clk = s.clk := kept_clk (by simp (disch := decide))

theorem timebase_pqEndOthers (a flags : Nat) (s : State) : timebase (pqEndOthers a flags s).clk = timebase s.clk := by
  unfold pqEndOthers
  extract_lets dipped swelled ended
  have hdipped : dipped.clk = s.clk := by
    dsimp only [dipped]
    split
    · exact pqReplace_clk _ _
    · rfl
  have hswelled : swelled.clk = s.clk := by
    dsimp only [swelled]
    split
    · exact (pqReplace_clk _ _).trans hdipped
    · exact hdipped
  have hended : timebase ended.clk = timebase swelled.clk := by
    dsimp only [ended]
    split
    · exact timebase_endRvc _ _ _ _ _
    · rfl
  rw [← hswelled]
  exact hended

theorem timebase_pqDisarm (s : State) : timebase (pqDisarm s).clk = timebase s.clk := by
  unfold pqDisarm
  split
  · extract_lets a others ended
    have hended : ended.clk = others.clk := by
      dsimp only [ended]
      split
      · exact pqReplace_clk _ _
      · rfl
    exact (timebase_of_clk hended).trans (timebase_pqEndOthers a 4 s)
  · rfl

/-! Coils (R338, R339, R351). -/

theorem pqDisarm_shu (s : State) : (pqDisarm s).shu = s.shu := kept_shu (by simp (disch := decide))

/-- Shutter's block with the sides of a channel mask off and a weld test due. -/
def sidesOff (chan : Nat) (weld : Option Tick) (x : Shutter) : Shutter := { x with
  driveA1 := x.driveA1 && !bitN chan 0, driveA2 := x.driveA2 && !bitN chan 0
  driveB1 := x.driveB1 && !bitN chan 1, driveB2 := x.driveB2 && !bitN chan 1
  pullInEnd := none, kfbBy := none, weldAt := weld }

theorem coilsOff_shu (chan : Nat) (s : State) : ∃ weld, (coilsOff chan s).shu = sidesOff chan weld s.shu := by
  unfold coilsOff
  extract_lets a b was disarmed
  have hshu : disarmed.shu = s.shu := by
    dsimp only [disarmed]
    split
    · exact pqDisarm_shu s
    · rfl
  refine ⟨if was then some (disarmed.clk.now + Tick.ms 200) else disarmed.shu.weldAt, ?_⟩
  calc _ = sidesOff chan (if was then some (disarmed.clk.now + Tick.ms 200) else disarmed.shu.weldAt) disarmed.shu := rfl
    _ = _ := by rw [hshu]

theorem timebase_coilsOff (chan : Nat) (s : State) : timebase (coilsOff chan s).clk = timebase s.clk := by
  unfold coilsOff
  extract_lets a b was disarmed
  change timebase disarmed.clk = _
  dsimp only [disarmed]
  split
  · exact timebase_pqDisarm s
  · rfl

/-- Either side switched off de-energises the coil. -/
theorem coilOn_coilsOff {chan : Nat} (s : State) (hside : bitN chan 0 = true ∨ bitN chan 1 = true) :
    coilOn (coilsOff chan s) = false := by
  obtain ⟨weld, hshu⟩ := coilsOff_shu chan s
  rw [coilOn, coil1, coil2, hshu]
  rcases hside with hside | hside <;> simp [sidesOff, hside]

theorem coilOn_of_shu {s t : State} (hshu : t.shu = s.shu) : coilOn t = coilOn s := by
  rw [coilOn, coil1, coil2, hshu, coilOn, coil1, coil2]

theorem coilOn_deenergise (s : State) : coilOn (deenergise s) = false := by
  unfold deenergise
  split
  · exact coilOn_coilsOff s (.inl (by decide))
  next hdriven =>
    simp only [Bool.or_eq_true, not_or, Bool.not_eq_true] at hdriven
    obtain ⟨⟨⟨ha1, ha2⟩, -⟩, -⟩ := hdriven
    simp [coilOn, coil1, coil2, ha1, ha2]

theorem deenergise_requests (s : State) : (deenergise s).shu.requests = s.shu.requests := by
  unfold deenergise
  split
  · obtain ⟨weld, hshu⟩ := coilsOff_shu 3 s
    rw [hshu]
    rfl
  · rfl

/-! What Shutter's decisions leave alone: its block with the outputs, the latches, the stop, the self-test and Kiln's requests set
aside. -/

/-- Shutter's block without what a decision of Shutter sets. -/
def measured (x : Shutter) : Shutter := { x with
  driveA1 := false, driveA2 := false, driveB1 := false, driveB2 := false, pullInEnd := none, kfbBy := none, weldAt := none
  cpDrive := .steady, duty := 0, latches := 0, stop := none, lastTrip := 0, rcmTest := none, rcmWant := none
  requests := [], refusal := none }

/-- Shutter's block without Kiln's requests and the refusal of one. -/
def apart (x : Shutter) : Shutter := { x with requests := [], refusal := none }

theorem measured_of_shu {s t : State} (hshu : t.shu = s.shu) : measured t.shu = measured s.shu := by rw [hshu]

theorem measured_coilsOff (chan : Nat) (s : State) : measured (coilsOff chan s).shu = measured s.shu := by
  obtain ⟨weld, hshu⟩ := coilsOff_shu chan s
  rw [hshu]
  rfl

theorem measured_deenergise (s : State) : measured (deenergise s).shu = measured s.shu := by
  unfold deenergise
  split
  · exact measured_coilsOff 3 s
  · rfl

theorem apart_refuseReq (q : ShuReq) (st : Nat) (s : State) : apart (refuseReq q st s).shu = apart s.shu := by
  unfold refuseReq
  split
  · rfl
  · rw [refusalNote_shu]
    rfl

theorem apart_foldl_refuseReq (l : List ShuReq) (st : Nat) (s : State) :
    apart (l.foldl (fun s q => refuseReq q st s) s).shu = apart s.shu := by
  induction l generalizing s with
  | nil => rfl
  | cons q l ih => rw [List.foldl_cons, ih, apart_refuseReq]

theorem apart_refuseWaiting (p : ShuReq → Bool) (st : Nat) (s : State) : apart (refuseWaiting p st s).shu = apart s.shu := by
  unfold refuseWaiting
  rw [apart_foldl_refuseReq]
  rfl

theorem setSynced_shu (v : Bool) (s : State) : (setSynced v s).shu = s.shu := kept_shu (by simp (disch := decide))

theorem apart_setLatch (mask : Nat) (s : State) :
    apart (setLatch mask s).shu = apart { s.shu with latches := s.shu.latches ||| mask } := by
  unfold setLatch
  extract_lets faulted
  rw [apart_refuseWaiting]
  split
  · rw [setSynced_shu]
    rfl
  · rfl

theorem setLatch_clk (mask : Nat) (s : State) : (setLatch mask s).clk = s.clk := kept_clk (by simp (disch := decide))

theorem latches_setLatch (mask : Nat) (s : State) : (setLatch mask s).shu.latches = s.shu.latches ||| mask :=
  (congrArg Shutter.latches (apart_setLatch mask s) :)

/-- What a set latch leaves of the coils' drive. -/
theorem coilOn_setLatch (mask : Nat) (s : State) : coilOn (setLatch mask s) = coilOn s := by
  have h := apart_setLatch mask s
  have ha1 := congrArg Shutter.driveA1 h
  have ha2 := congrArg Shutter.driveA2 h
  have hb1 := congrArg Shutter.driveB1 h
  have hb2 := congrArg Shutter.driveB2 h
  simp only [apart] at ha1 ha2 hb1 hb2
  rw [coilOn, coil1, coil2, ha1, ha2, hb1, hb2, coilOn, coil1, coil2]

theorem measured_of_apart {x y : Shutter} (h : apart x = apart y) : measured x = measured y :=
  (congrArg measured h :)

theorem measured_setLatch (mask : Nat) (s : State) : measured (setLatch mask s).shu = measured s.shu :=
  (measured_of_apart (apart_setLatch mask s) :)

/-! The immediate trip (R344–R350, R354). -/

/-- A trip up to its record: PWM stopped, the deciding channels' sides off, the new latches set. -/
def tripTaken (mask chan : Nat) (s : State) : State :=
  let fresh := maskWithout mask s.shu.latches
  let s := if shuSession s then endSession 3 s else s
  setLatch fresh (coilsOff (if chan = 0 then 3 else chan) (stopPwm (if fresh &&& lChannel != 0 then yieldRole s else s)))

theorem logStop_shu (p : OrderlyStop) (big : Nat) (s : State) : (logStop p big s).shu = s.shu :=
  kept_shu (by simp (disch := decide))

theorem logStop_clk (p : OrderlyStop) (big : Nat) (s : State) : (logStop p big s).clk = s.clk :=
  kept_clk (by simp (disch := decide))

theorem shuEvent_shu (event mask : Nat) (s : State) : (shuEvent event mask s).shu = s.shu :=
  kept_shu (by simp (disch := decide))

theorem shuEvent_clk (event mask : Nat) (s : State) : (shuEvent event mask s).clk = s.clk :=
  kept_clk (by simp (disch := decide))

/-- A trip ends a stop in progress, and its epoch is the last trip's. -/
def tripEnded (mask chan : Nat) (s : State) : State :=
  setShu (fun x => { x with stop := none, lastTrip := (tripTaken mask chan s).clk.epoch }) (tripTaken mask chan s)

/-- A fresh trip ends with its records (R354, R362). -/
theorem trip_of_fresh {mask chan : Nat} {s : State} (value : Int) (hfresh : maskWithout mask s.shu.latches ≠ 0) :
    ∃ data told, told = shuEvent 1 (maskWithout mask s.shu.latches) (raise 0x0601 data (tripEnded mask chan s)) ∧
      trip mask chan value s = s.shu.stop.elim told fun p => logStop p (largestMa s) told := by
  refine ⟨le 4 (maskWithout mask s.shu.latches) ++ le 1 chan ++ le 1 (kmByte s) ++ zeros 2 ++ leI 4 value, _, rfl, ?_⟩
  rw [trip, if_neg hfresh]
  cases s.shu.stop <;> rfl

theorem trip_shu {mask chan : Nat} {s : State} (value : Int) (hfresh : maskWithout mask s.shu.latches ≠ 0) :
    (trip mask chan value s).shu = (tripEnded mask chan s).shu := by
  obtain ⟨data, told, htold, htrip⟩ := trip_of_fresh (chan := chan) value hfresh
  have hshu : told.shu = (tripEnded mask chan s).shu := by
    rw [htold, shuEvent_shu]
    rfl
  rw [htrip]
  cases s.shu.stop with
  | none => exact hshu
  | some p => exact (logStop_shu p _ told).trans hshu

theorem trip_clk {mask chan : Nat} {s : State} (value : Int) (hfresh : maskWithout mask s.shu.latches ≠ 0) :
    (trip mask chan value s).clk = (tripTaken mask chan s).clk := by
  obtain ⟨data, told, htold, htrip⟩ := trip_of_fresh (chan := chan) value hfresh
  have hclk : told.clk = (tripTaken mask chan s).clk := by
    rw [htold, shuEvent_clk]
    rfl
  rw [htrip]
  cases s.shu.stop with
  | none => exact hclk
  | some p => exact (logStop_clk p _ told).trans hclk

theorem yieldRole_shu (s : State) : (yieldRole s).shu = s.shu := kept_shu (by simp (disch := decide))

theorem yieldRole_clk (s : State) : (yieldRole s).clk = s.clk := kept_clk (by simp (disch := decide))

/-- The state that a trip's PWM stop meets. -/
def tripBegun (mask : Nat) (s : State) : State :=
  let fresh := maskWithout mask s.shu.latches
  let s := if shuSession s then endSession 3 s else s
  if fresh &&& lChannel != 0 then yieldRole s else s

theorem tripBegun_shu (mask : Nat) (s : State) : (tripBegun mask s).shu = s.shu := by
  unfold tripBegun
  extract_lets fresh ended
  have hended : ended.shu = s.shu := by
    dsimp only [ended]
    split
    · exact endSession_shu 3 s
    · rfl
  split
  · exact (yieldRole_shu ended).trans hended
  · exact hended

theorem tripBegun_clk (mask : Nat) (s : State) : (tripBegun mask s).clk = s.clk := by
  unfold tripBegun
  extract_lets fresh ended
  have hended : ended.clk = s.clk := by
    dsimp only [ended]
    split
    · exact endSession_clk 3 s
    · rfl
  split
  · exact (yieldRole_clk ended).trans hended
  · exact hended

theorem tripTaken_eq (mask chan : Nat) (s : State) : tripTaken mask chan s =
    setLatch (maskWithout mask s.shu.latches)
      (coilsOff (if chan = 0 then 3 else chan) (stopPwm (tripBegun mask s))) := rfl

theorem measured_trip (mask chan : Nat) (value : Int) (s : State) : measured (trip mask chan value s).shu = measured s.shu := by
  by_cases hfresh : maskWithout mask s.shu.latches = 0
  · rw [trip, if_pos hfresh]
  · rw [trip_shu value hfresh]
    calc _ = measured (tripTaken mask chan s).shu := rfl
      _ = measured (stopPwm (tripBegun mask s)).shu := by rw [tripTaken_eq, measured_setLatch, measured_coilsOff]
      _ = measured (tripBegun mask s).shu := rfl
      _ = measured s.shu := by rw [tripBegun_shu]

theorem latches_coilsOff (chan : Nat) (s : State) : (coilsOff chan s).shu.latches = s.shu.latches := by
  obtain ⟨weld, hshu⟩ := coilsOff_shu chan s
  rw [hshu]
  rfl

theorem timebase_trip (mask chan : Nat) (value : Int) (s : State) :
    timebase (trip mask chan value s).clk = timebase s.clk := by
  by_cases hfresh : maskWithout mask s.shu.latches = 0
  · rw [trip, if_pos hfresh]
  · rw [trip_clk value hfresh, tripTaken_eq, setLatch_clk, timebase_coilsOff]
    calc _ = timebase (tripBegun mask s).clk := rfl
      _ = timebase s.clk := by rw [tripBegun_clk]

/-- Channel 0 of a trip stands for both; every channel's side de-energises the coils. -/
theorem side_of_le_three {chan : Nat} (hchan : chan ≤ 3) :
    bitN (if chan = 0 then 3 else chan) 0 = true ∨ bitN (if chan = 0 then 3 else chan) 1 = true := by
  have hcases : chan = 0 ∨ chan = 1 ∨ chan = 2 ∨ chan = 3 := by omega
  rcases hcases with rfl | rfl | rfl | rfl <;> decide

/-- What a trip whose latches are all new leaves (R344–R350, R354). -/
theorem trip_of_new {mask chan : Nat} {s : State} (value : Int) (hmask : mask ≠ 0) (hchan : chan ≤ 3)
    (hnew : maskWithout mask s.shu.latches = mask) :
    (trip mask chan value s).shu.latches = s.shu.latches ||| mask ∧ coilOn (trip mask chan value s) = false ∧
      (trip mask chan value s).shu.lastTrip = s.clk.epoch := by
  have hfresh : maskWithout mask s.shu.latches ≠ 0 := by rwa [hnew]
  have htimebase := timebase_trip mask chan value s
  have hepoch : (tripTaken mask chan s).clk.epoch = s.clk.epoch := by
    rw [← epoch_of_timebase htimebase, trip_clk value hfresh]
  refine ⟨?_, ?_, ?_⟩
  · rw [trip_shu value hfresh]
    calc _ = (tripTaken mask chan s).shu.latches := rfl
      _ = (stopPwm (tripBegun mask s)).shu.latches ||| mask := by
        rw [tripTaken_eq, latches_setLatch, latches_coilsOff, hnew]
      _ = (tripBegun mask s).shu.latches ||| mask := rfl
      _ = s.shu.latches ||| mask := by rw [tripBegun_shu]
  · calc _ = coilOn (tripTaken mask chan s) := by
          rw [coilOn, coil1, coil2, trip_shu value hfresh]
          rfl
      _ = false := by
        rw [tripTaken_eq, coilOn_setLatch]
        exact coilOn_coilsOff _ (side_of_le_three hchan)
  · rw [trip_shu value hfresh]
    exact hepoch

/-- A trip without a value takes a free one for its record. -/
theorem tripPlain_of_new {mask chan : Nat} {s : State} (hmask : mask ≠ 0) (hchan : chan ≤ 3)
    (hnew : maskWithout mask s.shu.latches = mask) :
    (tripPlain mask chan s).shu.latches = s.shu.latches ||| mask ∧ coilOn (tripPlain mask chan s) = false ∧
      (tripPlain mask chan s).shu.lastTrip = s.clk.epoch :=
  trip_of_new (s := (takeFree s).2) (toI 4 (Config.freeNat (takeFree s).1)) hmask hchan hnew

theorem measured_tripPlain (mask chan : Nat) (s : State) : measured (tripPlain mask chan s).shu = measured s.shu :=
  measured_trip mask chan (toI 4 (Config.freeNat (takeFree s).1)) (takeFree s).2

theorem timebase_tripPlain (mask chan : Nat) (s : State) : timebase (tripPlain mask chan s).clk = timebase s.clk :=
  timebase_trip mask chan (toI 4 (Config.freeNat (takeFree s).1)) (takeFree s).2

/-- A trip at an instant, as the timers' clauses state it. -/
theorem tripPlain_advanceTo_of_new {mask chan : Nat} {s : State} (at0 : Tick) (hmask : mask ≠ 0) (hchan : chan ≤ 3)
    (hnew : maskWithout mask s.shu.latches = mask) :
    (tripPlain mask chan (advanceTo at0 s)).clk.now = max s.clk.now at0 ∧
      (tripPlain mask chan (advanceTo at0 s)).shu.latches = s.shu.latches ||| mask ∧
      coilOn (tripPlain mask chan (advanceTo at0 s)) = false := by
  obtain ⟨hlatches, hcoil, -⟩ := tripPlain_of_new (s := advanceTo at0 s) hmask hchan hnew
  exact ⟨now_of_timebase (timebase_tripPlain mask chan (advanceTo at0 s)), hlatches, hcoil⟩

/-! Requests of Kiln (R342): one is taken from the registers, and executed or refused. -/

/-- A request that Shutter may take is served. -/
theorem next_of_served {p : ShuReq → Bool} {s : State} {f : State → State} (hd1 : s.dom.d1 = true) (hmay : mayTake p s = true) :
    serveRequest p s f = .next (f (takeRequest p s)) :=
  next_of_whenever (by rw [hd1, hmay]; rfl) rfl

/-- Of Shutter's block a taken request changes the registers alone. -/
theorem takeRequest_shu (p : ShuReq → Bool) (s : State) : (takeRequest p s).shu =
    { s.shu with requests := s.shu.requests.eraseP p, tookAt := some (takeRequest p s).clk.now } := by
  unfold takeRequest
  split <;> rfl

theorem takeRequest_recl (p : ShuReq → Bool) (s : State) : (takeRequest p s).recl = s.recl := kept_recl (by simp (disch := decide))

theorem takeRequest_par (p : ShuReq → Bool) (s : State) : (takeRequest p s).par = s.par := kept_par (by simp (disch := decide))

theorem param_takeRequest (p : ShuReq → Bool) (s : State) (id : Nat) : param (takeRequest p s) id = param s id :=
  param_of_par (takeRequest_par p s) id

theorem kmEnabled_takeRequest (p : ShuReq → Bool) (s : State) (k : Nat) :
    kmEnabled (takeRequest p s) k = kmEnabled s k := by
  rw [kmEnabled, param_takeRequest, kmEnabled]

theorem coilOn_takeRequest (p : ShuReq → Bool) (s : State) : coilOn (takeRequest p s) = coilOn s := by
  rw [coilOn, coil1, coil2, takeRequest_shu, coilOn, coil1, coil2]

theorem kmOpen_takeRequest (p : ShuReq → Bool) (s : State) : kmOpen (takeRequest p s) = kmOpen s := by
  rw [kmOpen, coilOn_takeRequest, takeRequest_shu, kmOpen]

theorem execClose_next {s u : State} (hu : u = takeRequest (· == .close) s) (hd1 : s.dom.d1 = true)
    (hmay : mayTake (· == .close) s = true) (hlinked : u.hng.isolated = false) (hdrive : stagesDrive u = true)
    (hblock : closeBlock u = 0) : ∃ t, execClose s = .next t ∧ t.shu.driveA1 = kmEnabled s 0 ∧
      t.shu.driveB1 = kmEnabled s 0 ∧ t.shu.driveA2 = kmEnabled s 1 ∧ t.shu.driveB2 = kmEnabled s 1 ∧
      t.shu.pullInEnd = some (u.clk.now + Tick.ms (param s 0x060E)) ∧
      t.shu.kfbBy = some (u.clk.now + Tick.ms (param s 0x060D)) := by
  have hgate : ¬ (u.hng.isolated || !stagesDrive u) = true := by simp [hlinked, hdrive]
  have hparam (id : Nat) : param u id = param s id := by rw [hu, param_takeRequest]
  have hkm (k : Nat) : kmEnabled u k = kmEnabled s k := by rw [hu, kmEnabled_takeRequest]
  refine ⟨energise (acceptReq u), ?_, ?_⟩
  · unfold execClose
    rw [next_of_served hd1 hmay, ← hu]
    dsimp only
    rw [if_neg hgate, if_pos hblock]
  · rw [← hkm 0, ← hkm 1, ← hparam, ← hparam]
    exact ⟨rfl, rfl, rfl, rfl, rfl, rfl⟩

/-- Whatever began it, a stop runs after its first step (R343). -/
theorem beginStop_stop (kind : StopKind) (bound : Tick) (s : State) : (beginStop kind bound s).shu.stop.isSome = true := by
  unfold beginStop
  split
  next hruns =>
    split
    · simp only [setShu_shu, Option.isSome_map, hruns]
    · exact hruns
  · extract_lets dc begun reclaim timed waiting vehicle idle
    have htold : (shuEvent 8 0 idle).shu.stop = idle.shu.stop := by rw [shuEvent_shu]
    have hidle : idle.shu = waiting.shu := by
      dsimp only [idle]
      split <;> rfl
    have hwaiting : waiting.shu.stop = timed.shu.stop :=
      (congrArg Shutter.stop (apart_refuseWaiting (fun q => isClose q || isPwmValue q) stStopInProgress timed) :)
    rw [htold, hidle, hwaiting]
    rfl

theorem execOpenOrderly_next {s : State} {cause : Nat} (hd1 : s.dom.d1 = true) (hmay : mayTake (isOrderly cause) s = true)
    (hclosed : kmOpen s = false) : ∃ t, execOpenOrderly cause s = .next t ∧ t.shu.stop.isSome = true := by
  refine ⟨_, next_of_served hd1 hmay, ?_⟩
  rw [kmOpen_takeRequest, hclosed, if_neg (by decide)]
  exact beginStop_stop .kiln (Tick.s 3) _

theorem execOpenOrderly_open_next {s : State} {cause : Nat} (hd1 : s.dom.d1 = true)
    (hmay : mayTake (isOrderly cause) s = true) (hopen : kmOpen s = true) :
    execOpenOrderly cause s = .next (takeRequest (isOrderly cause) s) := by
  rw [execOpenOrderly, next_of_served hd1 hmay, kmOpen_takeRequest, if_pos hopen]

theorem execOpenNow_next {s : State} {cause : Nat} (hd1 : s.dom.d1 = true) (hmay : mayTake (isOpenNow cause) s = true) :
    ∃ t, execOpenNow cause s = .next t ∧ coilOn t = false ∧ t.shu.requests = s.shu.requests.eraseP (isOpenNow cause) :=
  ⟨_, next_of_served hd1 hmay, coilOn_deenergise _, by rw [deenergise_requests, takeRequest_shu]⟩

section Pilot

variable {s : State} {duty mA : Nat}

theorem execPwm_duty_next (hd1 : s.dom.d1 = true) (hmay : mayTake (· == .pwm duty) s = true)
    (hreclaim : s.recl.required = false) (hsome : duty ≠ 0) (hpwm : duty ≠ 0xFFFF) (hstop : s.shu.stop = none)
    (hlatches : s.shu.latches = 0) : ∃ t, execPwm duty s = .next t ∧ t.shu.cpDrive = .pwm ∧
      t.shu.duty = min duty (dutyOf (param s 0x0601)) ∧ t.shu.requests = s.shu.requests.eraseP (· == .pwm duty) := by
  refine ⟨_, next_of_served hd1 hmay, ?_⟩
  have hshu := takeRequest_shu (· == .pwm duty) s
  simp [takeRequest_recl, hreclaim, hsome, hpwm, hshu, hstop, hlatches, param_takeRequest, acceptReq, setShu]

theorem execPwm_steady_next (hd1 : s.dom.d1 = true) (hmay : mayTake (· == .pwm 0) s = true)
    (hreclaim : s.recl.required = false) :
    ∃ t, execPwm 0 s = .next t ∧ t.shu.cpDrive = .steady ∧ t.shu.duty = 0 := by
  refine ⟨_, next_of_served hd1 hmay, ?_⟩
  simp [takeRequest_recl, hreclaim]

theorem execPwm_stateF_next (hd1 : s.dom.d1 = true) (hmay : mayTake (· == .pwm 0xFFFF) s = true)
    (hreclaim : s.recl.required = false) (hstop : s.shu.stop = none) :
    ∃ t, execPwm 0xFFFF s = .next t ∧ t.shu.cpDrive = .stateF ∧ t.shu.duty = 0 := by
  refine ⟨_, next_of_served hd1 hmay, ?_⟩
  have hshu := takeRequest_shu (· == .pwm 0xFFFF) s
  simp [takeRequest_recl, hreclaim, hshu, hstop]

theorem execLimit_ac_next (hd1 : s.dom.d1 = true) (hmay : mayTake (· == .limit mA false) s = true)
    (hreclaim : s.recl.required = false) : ∃ t, execLimit mA false s = .next t ∧
      t.shu.limitAc = some (min mA (param s 0x0601)) ∧ t.shu.limitIsDc = false := by
  refine ⟨_, next_of_served hd1 hmay, ?_⟩
  simp [takeRequest_recl, hreclaim, param_takeRequest]

theorem execLimit_dc_next (hd1 : s.dom.d1 = true) (hmay : mayTake (· == .limit mA true) s = true)
    (hreclaim : s.recl.required = false) : ∃ t, execLimit mA true s = .next t ∧
      t.shu.limitDc = some (min mA (param s 0x0602)) ∧ t.shu.limitIsDc = true := by
  refine ⟨_, next_of_served hd1 hmay, ?_⟩
  simp [takeRequest_recl, hreclaim, param_takeRequest]

end Pilot

theorem execReset_next {s : State} {mask : Nat} (hd3 : s.dom.d3 = true) (hd1 : s.dom.d1 = true)
    (hmay : mayTake (isReset mask) s = true) (hfree : bitN s.shu.latches 13 = false)
    (hcleared : (resetEdge mask 0 (takeRequest (isReset mask) s)).cleared ≠ 0) : execReset mask s =
      .next (acceptReq (resetEdge mask 0 (takeRequest (isReset mask) s)).state) := by
  have hstuck : bitN (takeRequest (isReset mask) s).shu.latches 13 = false := by rw [takeRequest_shu]; exact hfree
  rw [execReset, hd3, if_neg (by decide), next_of_served hd1 hmay]
  simp [hstuck, hcleared]

theorem execRcmTest_next {s : State} (hd1 : s.dom.d1 = true) (hmay : mayTake (· == .rcmTest) s = true)
    (hopen : coilOn s = false) (hidle : s.shu.rcmTest = none) : ∃ t, execRcmTest s = .next t ∧
      t.shu.rcmTest = some ⟨1, 5, 0, none⟩ ∧ t.shu.rcmWant = none := by
  refine ⟨_, next_of_served hd1 hmay, ?_⟩
  have hcoil : coilOn (acceptReq (takeRequest (· == .rcmTest) s)) = false := by
    rw [← hopen, ← coilOn_takeRequest (· == .rcmTest) s]
    rfl
  have hnone : (takeRequest (· == .rcmTest) s).shu.rcmTest = none := by rw [takeRequest_shu]; exact hidle
  have hnone' : (acceptReq (takeRequest (· == .rcmTest) s)).shu.rcmTest = none := hnone
  simp [coilOn_takeRequest, hopen, hnone, startRcm, hcoil, hnone']

/-- Steps 3 and 4 of a stop that runs open the coils (R343). -/
theorem coilOn_finishStop {s : State} (hruns : s.shu.stop.isSome = true) : coilOn (finishStop s) = false := by
  obtain ⟨p, hp⟩ := Option.isSome_iff_exists.mp hruns
  unfold finishStop
  rw [hp]
  exact (coilOn_of_shu (logStop_shu p _ _)).trans (coilOn_deenergise _)

theorem execOrderlyStopWaitEnd_next {s : State} {p : OrderlyStop} (hp : s.shu.stop = some p) (hd1 : s.dom.d1 = true)
    (hkind : p.kind ≠ .metering) : ∃ t, execOrderlyStopWaitEnd s = .next t ∧ t.shu.stop = none ∧ coilOn t = false := by
  unfold execOrderlyStopWaitEnd
  rw [hp]
  refine exists_next_of_whenever (by simp [hd1, hkind]) fun t ht => ?_
  have hruns : (if below1A s then s else advanceTo p.bound s).shu.stop.isSome = true := by
    split <;> simp [hp]
  rw [ht]
  exact ⟨finishStop_shu_stop _, coilOn_finishStop hruns⟩

theorem execKmPullinEnd_next {s : State} {at0 : Tick} (hend : s.shu.pullInEnd = some at0) : execKmPullinEnd s =
    .next (setShu (fun x => { x with pullInEnd := none }) (advanceTo at0 s)) := by
  rw [execKmPullinEnd, hend]

/-- Settles O23: each request of Kiln is taken and answers its next state. A request is taken where none waits or it is the oldest
(log entry 14), and the instant clk.now is the model's own (log entry 3). -/
theorem shutterRequestsComplete : Obligations.ShutterRequestsComplete := by
  unfold Obligations.ShutterRequestsComplete
  refine ⟨?_, ?_, ?_, ?_, ?_, ?_, ?_, ?_, ?_, ?_, ?_, ?_, ?_⟩
  · exact fun _ _ => execClose_next
  · exact fun _ _ => execOpenOrderly_next
  · exact fun _ _ => execOpenOrderly_open_next
  · exact fun _ _ => execOpenNow_next
  · exact fun _ _ => execPwm_duty_next
  · exact fun _ => execPwm_steady_next
  · exact fun _ => execPwm_stateF_next
  · exact fun _ _ => execLimit_ac_next
  · exact fun _ _ => execLimit_dc_next
  · exact fun _ _ => execReset_next
  · exact fun _ => execRcmTest_next
  · exact fun _ _ => execOrderlyStopWaitEnd_next
  · exact fun _ _ => execKmPullinEnd_next

/-! Trips (R338, R339, R341, R344, R353). -/

theorem lChannel_ne : lChannel ≠ 0 := by decide

theorem measured_followOff (s : State) : measured (followOff s).shu = measured s.shu := by
  unfold followOff
  split
  · rfl
  · exact measured_deenergise s

theorem timebase_followOff (s : State) : timebase (followOff s).clk = timebase s.clk := by
  unfold followOff deenergise
  split
  · rfl
  · split
    · exact timebase_coilsOff 3 s
    · rfl

theorem measured_cycleTrips (i : CycleIn) (s : State) : measured (cycleTrips i s).shu = measured s.shu := by
  unfold cycleTrips
  extract_lets a b oc other mask chan
  split
  · rfl
  · split
    · exact measured_trip _ _ _ _
    · exact measured_trip _ _ _ _
    · exact measured_tripPlain _ _ _

theorem measured_startRcm (cause : Nat) (dest : Option Req) (s : State) :
    measured (startRcm cause dest s).shu = measured s.shu := by
  unfold startRcm
  split
  · rfl
  · split <;> rfl

/-- The readings that a cycle brings (R338, R340, R351, R367), with the instant of the cycle. -/
def cycleReadings (x : Shutter) : Nat × Nat × Int × Tick := (x.vaux, x.mod1, x.oscB, x.cycleAt)

theorem cycleReadings_of_measured {x y : Shutter} (h : measured x = measured y) : cycleReadings x = cycleReadings y :=
  (congrArg cycleReadings h :)

theorem cycleReadings_cycleInputs (i : CycleIn) (s : State) :
    cycleReadings (cycleInputs i s).shu = (i.vaux, i.mod1, i.oscB, s.shu.cycleAt) := by
  unfold cycleInputs
  extract_lets closed k1 k2 agree taken watched listed
  split <;> rfl

theorem execShutterEvaluationCycle_next {s : State} (i : CycleIn) (hd1 : s.dom.d1 = true) : ∃ t,
    execShutterEvaluationCycle i s = .next t ∧ t.shu.vaux = i.vaux ∧ t.shu.mod1 = i.mod1 ∧ t.shu.oscB = i.oscB ∧
      t.shu.cycleAt = max s.clk.now (s.shu.cycleAt + Tick.us 250) := by
  refine exists_next_of_whenever hd1 fun t ht => ?_
  extract_lets due begun judged opened at ht
  have hopened : measured opened.shu = measured judged.shu := by
    dsimp only [opened]
    split
    · exact measured_deenergise judged
    · rfl
  have hlast : measured t.shu = measured opened.shu := by
    rw [ht]
    split
    · split
      · rfl
      · exact measured_startRcm _ none opened
    · rfl
  have hcycle : (followOff begun).shu.cycleAt = due.clk.now :=
    (congrArg Shutter.cycleAt (measured_followOff begun) :)
  have hread : cycleReadings t.shu = (i.vaux, i.mod1, i.oscB, due.clk.now) := by
    rw [cycleReadings_of_measured (hlast.trans (hopened.trans (measured_cycleTrips i _))), cycleReadings_cycleInputs, hcycle]
  simp only [cycleReadings, Prod.mk.injEq] at hread
  exact hread

theorem execChannelDisagreement_next {s : State} (hd1 : s.dom.d1 = true)
    (hnew : maskWithout lChannel s.shu.latches = lChannel) : ∃ t, execChannelDisagreement s = .next t ∧
      t.shu.latches = s.shu.latches ||| lChannel ∧ t.shu.agree = false ∧ t.shu.lastTrip = s.clk.epoch ∧ coilOn t = false := by
  refine exists_next_of_whenever hd1 fun t ht => ?_
  extract_lets due at ht
  have hdue : due.shu = s.shu ∧ due.clk.epoch = s.clk.epoch := by
    dsimp only [due]
    split <;> exact ⟨rfl, rfl⟩
  obtain ⟨hshu, hepoch⟩ := hdue
  obtain ⟨hlatches, hcoil, hlast⟩ := tripPlain_of_new (s := setShu (fun x => { x with agree := false }) due)
    lChannel_ne (by decide : 3 ≤ 3) (by rw [setShu_shu, hshu]; exact hnew)
  rw [ht]
  refine ⟨?_, (congrArg Shutter.agree (measured_tripPlain _ _ _) :), ?_, hcoil⟩
  · rw [hlatches, setShu_shu, hshu]
  · rw [hlast, setShu_clk, hepoch]

theorem execChannelLinkLoss_next {s : State} (hd1 : s.dom.d1 = true) (hbad : 3 ≤ s.shu.linkBad)
    (hnew : maskWithout lChannel s.shu.latches = lChannel) : ∃ t, execChannelLinkLoss s = .next t ∧
      t.shu.latches = s.shu.latches ||| lChannel ∧ coilOn t = false := by
  obtain ⟨hlatches, hcoil, -⟩ := tripPlain_of_new lChannel_ne (by decide : 2 ≤ 3) hnew
  exact ⟨_, next_of_whenever (by simp [hd1, hbad]) rfl, hlatches, hcoil⟩

theorem execOpenCoil_next {s : State} {chan : Nat} (hchan : chan ≤ 3) (hd1 : s.dom.d1 = true) (hon : coilOn s = true)
    (hpull : s.shu.pullInEnd.isSome = true) (hnew : maskWithout lKmFeedback s.shu.latches = lKmFeedback) : ∃ t,
      execOpenCoil chan s = .next t ∧ t.shu.latches = s.shu.latches ||| lKmFeedback ∧ coilOn t = false := by
  obtain ⟨hlatches, hcoil, -⟩ := tripPlain_of_new (by decide : lKmFeedback ≠ 0) hchan hnew
  exact ⟨_, next_of_whenever (by simp [hd1, hon, hpull]) rfl, hlatches, hcoil⟩

theorem execKfbTimeout_next {s : State} {at0 : Tick} (hby : s.shu.kfbBy = some at0) (hd1 : s.dom.d1 = true)
    (hon : coilOn s = true) (hnew : maskWithout lKmFeedback s.shu.latches = lKmFeedback) : ∃ t,
      execKfbTimeout s = .next t ∧ t.shu.latches = s.shu.latches ||| lKmFeedback ∧ coilOn t = false := by
  unfold execKfbTimeout
  rw [hby]
  obtain ⟨-, htrip⟩ := tripPlain_advanceTo_of_new at0 (by decide : lKmFeedback ≠ 0) (by decide : 3 ≤ 3) hnew
  exact ⟨_, next_of_whenever (by simp [hd1, hon]) rfl, htrip⟩

theorem execEstopLineOpen_next {s : State} {chan : Nat} (line : Bool) (hchan : chan ≤ 3) (hd1 : s.dom.d1 = true)
    (hnew : maskWithout lEstop s.shu.latches = lEstop) : ∃ t, execEstopLineOpen line chan s = .next t ∧
      t.shu.latches = s.shu.latches ||| lEstop ∧ coilOn t = false ∧
      (if line then t.shu.estopB = true else t.shu.estopA = true) := by
  refine exists_next_of_whenever hd1 fun t ht => ?_
  cases line with
  | false =>
    obtain ⟨hlatches, hcoil, -⟩ := tripPlain_of_new (s := discrepWatch (setShu (fun x => { x with estopA := true }) s))
      (by decide : lEstop ≠ 0) hchan hnew
    rw [ht]
    exact ⟨hlatches, hcoil, (congrArg Shutter.estopA (measured_tripPlain lEstop chan
      (discrepWatch (setShu (fun x => { x with estopA := true }) s))) :)⟩
  | true =>
    obtain ⟨hlatches, hcoil, -⟩ := tripPlain_of_new (s := discrepWatch (setShu (fun x => { x with estopB := true }) s))
      (by decide : lEstop ≠ 0) hchan hnew
    rw [ht]
    exact ⟨hlatches, hcoil, (congrArg Shutter.estopB (measured_tripPlain lEstop chan
      (discrepWatch (setShu (fun x => { x with estopB := true }) s))) :)⟩

theorem execEstopDiscrep_next {s : State} {chan : Nat} {at0 : Tick} (hchan : chan ≤ 3) (hd1 : s.dom.d1 = true)
    (hsince : s.shu.discrepSince = some at0) (hnew : maskWithout lDiscrep s.shu.latches = lDiscrep) : ∃ t,
      execEstopDiscrep chan s = .next t ∧ t.clk.now = max s.clk.now (at0 + Tick.ms (param s 0x060B)) ∧
      t.shu.latches = s.shu.latches ||| lDiscrep ∧ coilOn t = false := by
  unfold execEstopDiscrep
  rw [hsince]
  exact ⟨_, next_of_whenever hd1 rfl, tripPlain_advanceTo_of_new _ (by decide : lDiscrep ≠ 0) hchan hnew⟩

theorem execEstopTestPulse_next {s : State} {chan : Nat} (hchan : chan ≤ 3) (hd1 : s.dom.d1 = true)
    (hnew : maskWithout lDiscrep s.shu.latches = lDiscrep) : ∃ t, execEstopTestPulse true chan s = .next t ∧
      t.shu.latches = s.shu.latches ||| lDiscrep ∧ coilOn t = false := by
  obtain ⟨hlatches, hcoil, -⟩ := tripPlain_of_new (by decide : lDiscrep ≠ 0) hchan hnew
  exact ⟨_, next_of_whenever (by simp [hd1]) rfl, hlatches, hcoil⟩

theorem execCoilSupplyLow_next {s : State} {chan : Nat} {at0 : Tick} (hchan : chan ≤ 3) (hd1 : s.dom.d1 = true)
    (hon : coilOn s = true) (hlow : s.shu.supplyLow = some at0)
    (hnew : maskWithout lCoilSupply s.shu.latches = lCoilSupply) : ∃ t, execCoilSupplyLow chan s = .next t ∧
      t.clk.now = max s.clk.now (at0 + Tick.ms 10) ∧ t.shu.latches = s.shu.latches ||| lCoilSupply ∧ coilOn t = false := by
  unfold execCoilSupplyLow
  rw [hlow]
  exact ⟨_, next_of_whenever (by simp [hd1, hon]) rfl, tripPlain_advanceTo_of_new _ (by decide : lCoilSupply ≠ 0) hchan hnew⟩

/-- Settles O24: each event of the safety channels answers its next state. The instant clk.now is the model's own (log entry 3). -/
theorem shutterTripsComplete : Obligations.ShutterTripsComplete := by
  unfold Obligations.ShutterTripsComplete
  refine ⟨?_, ?_, ?_, ?_, ?_, ?_, ?_, ?_, ?_⟩
  · exact fun _ i => execShutterEvaluationCycle_next i
  · exact fun _ => execChannelDisagreement_next
  · exact fun _ => execChannelLinkLoss_next
  · exact fun _ _ => execOpenCoil_next
  · exact fun _ _ => execKfbTimeout_next
  · exact fun _ line _ => execEstopLineOpen_next line
  · exact fun _ _ _ => execEstopDiscrep_next
  · exact fun _ _ => execEstopTestPulse_next
  · exact fun _ _ _ => execCoilSupplyLow_next

/-! The residual-current self-test (R347). -/

theorem rcmStepOk_advanceTo (at0 : Tick) (s : State) (step : Nat) (dc : Int) (ac : Nat) :
    rcmStepOk (advanceTo at0 s) step dc ac = rcmStepOk s step dc ac := rfl

theorem execRcmSelftestStepEnd_offset_next {s : State} {test : RcmTest} (m : RcmReading) (htest : s.shu.rcmTest = some test)
    (hd1 : s.dom.d1 = true) (hexcited : m.excitationOk = true) (hstep : test.step = 1)
    (ha : rcmStepOk s 1 m.dcA m.acA = true) (hb : rcmStepOk s 1 m.dcB m.acB = true) : ∃ t,
      execRcmSelftestStepEnd m s = .next t ∧ t.shu.rcmTest = some { test with step := 2 } ∧
      t.clk.now = s.clk.now + Tick.ms 50 := by
  unfold execRcmSelftestStepEnd
  rw [htest]
  refine exists_next_of_whenever hd1 fun t ht => ?_
  rw [ht]
  simp only [hstep, rcmStepOk_advanceTo, ha, hb, hexcited]
  exact ⟨rfl, Nat.max_eq_right (Nat.le_add_right _ _)⟩

theorem replyTo_shu (dest : Option Req) (code st : Nat) (body : List Byte) (s : State) :
    (replyTo dest code st body s).shu = s.shu := kept_shu (by simp (disch := decide))

/-- A passing test is kept with its instant and its epoch, and latches nothing. -/
theorem endRcm_pass_shu (test : RcmTest) (dc ac : Nat) (s : State) : (endRcm test 0 dc ac s).shu =
    { s.shu with rcmTest := none, rcmPass := some s.clk.now, rcmPassEpoch := s.clk.epoch } := by
  unfold endRcm
  extract_lets pass ended recorded judged told
  rw [replyTo_shu, shuEvent_shu]
  rfl

theorem execRcmSelftestStepEnd_pass_next {s : State} {test : RcmTest} (m : RcmReading) (htest : s.shu.rcmTest = some test)
    (hd1 : s.dom.d1 = true) (hexcited : m.excitationOk = true) (hstep : test.step = 3)
    (ha : rcmStepOk s 3 m.dcA m.acA = true) (hb : rcmStepOk s 3 m.dcB m.acB = true) : ∃ t,
      execRcmSelftestStepEnd m s = .next t ∧ t.shu.rcmTest = none ∧ t.shu.rcmPass = some (s.clk.now + Tick.ms 60) ∧
      t.shu.rcmPassEpoch = s.clk.epoch ∧ t.shu.latches = s.shu.latches := by
  unfold execRcmSelftestStepEnd
  rw [htest]
  refine exists_next_of_whenever hd1 fun t ht => ?_
  simp only [hstep, rcmStepOk_advanceTo, ha, hb, hexcited] at ht
  rw [ht]
  refine ⟨?_, ?_, ?_, ?_⟩ <;> simp [endRcm_pass_shu]

theorem execRcmSelftestAge_next {s : State} {at0 : Tick} (hpass : s.shu.rcmPass = some at0) (hd1 : s.dom.d1 = true)
    (hidle : s.shu.rcmTest = none) : ∃ t, execRcmSelftestAge s = .next t ∧ t.shu.rcmPass = none ∧ t.shu.rcmPassEpoch = 0 ∧
      (coilOn s = true → t.shu.rcmWant = some 3) ∧ (coilOn s = false → t.shu.rcmTest = some ⟨1, 3, 0, none⟩) := by
  unfold execRcmSelftestAge
  rw [hpass]
  refine exists_next_of_whenever (by simp [hd1, hidle]) fun t ht => ?_
  have hstart (u : State) (hu : u.shu = { s.shu with rcmPass := none, rcmPassEpoch := 0 }) :
      startRcm 3 none u = if coilOn s then setShu (fun x => { x with rcmWant := some 3 }) u
        else setShu (fun x => { x with rcmTest := some ⟨1, 3, 0, none⟩, rcmWant := none }) u := by
    have hcoil : coilOn u = coilOn s := by
      rw [coilOn, coil1, coil2, hu, coilOn, coil1, coil2]
    simp [startRcm, hcoil, hu, hidle]
  rw [ht, hstart _ rfl]
  cases coilOn s with
  | true => exact ⟨rfl, rfl, fun _ => rfl, nofun⟩
  | false => exact ⟨rfl, rfl, nofun, fun _ => rfl⟩

/-! Timers and releases (R348, R351, R355, R356, R359, R360). -/

theorem execIPermHoldEnd_next {s : State} {v : Nat} {at0 : Tick} (hhold : s.shu.permHold = some (v, at0)) :
    execIPermHoldEnd s = .next (setShu (fun x => { x with permHold := none }) (advanceTo at0 s)) := by
  rw [execIPermHoldEnd, hhold]

theorem execWeldTest_next {s : State} {at0 : Tick} (hat : s.shu.weldAt = some at0) (hd1 : s.dom.d1 = true)
    (hopen : coilOn s = false) :
    execWeldTest s = .next (weldTest (setShu (fun x => { x with weldAt := none }) (advanceTo at0 s))) := by
  unfold execWeldTest
  rw [hat]
  have hcoil : ¬ coilOn (setShu (fun x => { x with weldAt := none }) (advanceTo at0 s)) = true := by
    change ¬ coilOn s = true
    rw [hopen]
    decide
  exact next_of_whenever hd1 (if_neg hcoil)

theorem measured_clearLatches (mask edge sender : Nat) (s : State) :
    measured (clearLatches mask edge sender s).shu = measured s.shu := by
  unfold clearLatches
  split
  · rfl
  · extract_lets cleared recorded told
    have htold : measured told.shu = measured s.shu := by
      rw [show told.shu = recorded.shu from shuEvent_shu _ _ recorded]
      rfl
    split
    · exact (measured_startRcm 4 none told).trans htold
    · exact htold

theorem execSresetRelease_next {s : State} {lowMs : Nat} (hd1 : s.dom.d1 = true) (hfree : bitN s.shu.latches 13 = false)
    (hmin : 50 ≤ lowMs) (hmax : lowMs ≤ 5000) : ∃ t, execSresetRelease lowMs s = .next t ∧
      t.shu.lastRelease = some s.clk.now ∧ t.shu.sresetLow = none := by
  refine exists_next_of_whenever hd1 fun t ht => ?_
  extract_lets risen stuck released told free p snd two left kept at ht
  rw [if_neg (by rw [show risen.shu.latches = s.shu.latches from rfl, hfree]; decide), if_pos (by simp [hmin, hmax])] at ht
  have hkept : measured kept.shu = measured { released.shu with pendingReset := kept.shu.pendingReset } := by
    dsimp only [kept]
    rw [setShu_shu, show told.shu = released.shu from shuEvent_shu _ _ released]
  have hlast : measured t.shu = measured kept.shu := by
    rw [ht, measured_clearLatches, measured_clearLatches]
  exact ⟨(congrArg Shutter.lastRelease (hlast.trans hkept) :), (congrArg Shutter.sresetLow (hlast.trans hkept) :)⟩

theorem shuEvent_led (event mask : Nat) (s : State) : (shuEvent event mask s).led = s.led :=
  kept_led (by simp (disch := decide))

theorem setLatch_led (mask : Nat) (s : State) : (setLatch mask s).led = s.led := kept_led (by simp (disch := decide))

theorem execSresetStuck_next {s : State} (hd1 : s.dom.d1 = true) (hfree : bitN s.shu.latches 13 = false) : ∃ t,
    execSresetStuck s = .next t ∧ t.shu.latches = s.shu.latches ||| lStuck ∧ Waits 0x0606 s t := by
  refine exists_next_of_whenever (by simp [hd1, hfree]) fun t ht => ?_
  rw [ht]
  refine ⟨?_, waits_of_raiseF (shuEvent_led 5 lStuck _) (setLatch_led lStuck _)⟩
  rw [shuEvent_shu]
  exact latches_setLatch lStuck _

theorem shuEventSt_shu (st event mask : Nat) (s : State) : (shuEventSt st event mask s).shu = s.shu :=
  kept_shu (by simp (disch := decide))

theorem shuEventSt_clk (st event mask : Nat) (s : State) : (shuEventSt st event mask s).clk = s.clk :=
  kept_clk (by simp (disch := decide))

theorem execPendingResetLapse_next {s : State} {p : PendingReset} (hpending : s.shu.pendingReset = some p) : ∃ t,
    execPendingResetLapse s = .next t ∧ t.shu.pendingReset = none ∧ t.shu.latches = s.shu.latches ∧
      t.clk.now = max s.clk.now p.deadline := by
  unfold execPendingResetLapse
  rw [hpending]
  refine ⟨_, rfl, ?_⟩
  rw [shuEventSt_shu, shuEventSt_clk]
  exact ⟨rfl, rfl, rfl⟩

theorem execCpStateAHeld_next {s : State} {at0 : Tick} (hsince : s.shu.stateASince = some at0) (hd1 : s.dom.d1 = true)
    (hstate : s.shu.cpState = 1) : execCpStateAHeld s =
      .next (clearLatches (s.shu.latches &&& (lCpError + lDiode)) 4 0xFF (advanceTo (at0 + Tick.s 1) s)) := by
  unfold execCpStateAHeld
  rw [hsince]
  exact next_of_whenever (by simp [hd1, hstate]) rfl

/-- The closing of a session is a change-log entry (R361). -/
theorem closeConfig_of_open {s : State} {snd : Sender} {at0 : Tick} (hsession : s.shu.session = some (snd, at0)) :
    (closeConfig s).shu.session = none ∧ (closeConfig s).shu.nextChange = satInc 0xFFFFFFFF s.shu.nextChange ∧
      (closeConfig s).clk = s.clk := by
  unfold closeConfig
  rw [hsession]
  exact ⟨rfl, rfl, rfl⟩

theorem execConfigSessionIdle_next {s : State} {snd : Sender} {at0 : Tick} (hsession : s.shu.session = some (snd, at0)) :
    ∃ t, execConfigSessionIdle s = .next t ∧ t.shu.session = none ∧
      t.shu.nextChange = satInc 0xFFFFFFFF s.shu.nextChange ∧ t.clk.now = max s.clk.now (at0 + Tick.s 600) := by
  unfold execConfigSessionIdle
  rw [hsession]
  obtain ⟨hclosed, hnext, hclk⟩ := closeConfig_of_open (s := advanceTo (at0 + Tick.s 600) s) hsession
  exact ⟨_, rfl, hclosed, hnext, congrArg Clock.now hclk⟩

theorem execLockoutEnd_next {s : State} {at0 : Tick} (hend : s.shu.lockoutEnd = some at0) :
    execLockoutEnd s = .next (setShu (fun x => { x with lockoutEnd := none }) (advanceTo at0 s)) := by
  rw [execLockoutEnd, hend]

/-- Settles O25: each timer, each step of the self-test and each release answers its next state. That a due self-test waits for the
coils is the model's choice (log entry 40), and the instant clk.now is the model's own (log entry 3). -/
theorem shutterTimersComplete : Obligations.ShutterTimersComplete := by
  unfold Obligations.ShutterTimersComplete
  refine ⟨?_, ?_, ?_, ?_, ?_, ?_, ?_, ?_, ?_, ?_, ?_⟩
  · exact fun _ _ m => execRcmSelftestStepEnd_offset_next m
  · exact fun _ _ m => execRcmSelftestStepEnd_pass_next m
  · exact fun _ _ => execRcmSelftestAge_next
  · exact fun _ _ _ => execIPermHoldEnd_next
  · exact fun _ _ => execWeldTest_next
  · exact fun _ _ => execSresetRelease_next
  · exact fun _ => execSresetStuck_next
  · exact fun _ _ => execPendingResetLapse_next
  · exact fun _ _ => execCpStateAHeld_next
  · exact fun _ _ _ => execConfigSessionIdle_next
  · exact fun _ _ => execLockoutEnd_next

/-! Commands on Brixo (R355, R359, R360, R367, R368). -/

theorem shuBody_take (s : State) : (shuBody (asOf s)).take 16 =
    le 4 s.snap.state.shuFaults ++ le 4 (presentMask (asOf s)) ++ le 4 (((asOf s).shu.pendingReset.map (·.mask)).getD 0) ++
      le 1 s.snap.state.km ++ le 1 s.snap.state.cp ++ le 2 s.snap.state.cpDuty := by
  unfold shuBody
  extract_lets x st
  have hst : st = s.snap.state := by
    dsimp only [st]
    rw [asOf_snap]
  rw [hst]
  simp [List.take_append, List.take_of_length_le, x]

section Commands

variable {s : State} {r : Req}

theorem execShuStatus_next {a : State} (htaken : Taken 0x0600 r s) (ha : a = asOf s) :
    ∃ body, execShuStatus r s = .next (reply r 0x0600 stOk body s) ∧
      body.take 16 = le 4 s.snap.state.shuFaults ++ le 4 (presentMask a) ++
        le 4 ((a.shu.pendingReset.map (·.mask)).getD 0) ++ le 1 s.snap.state.km ++ le 1 s.snap.state.cp ++
        le 2 s.snap.state.cpDuty := by
  subst ha
  exact ⟨_, brixo_of_answer htaken rfl, shuBody_take s⟩

theorem execShuReset_next {mask : Nat} (htaken : Taken 0x0601 r s) (hmask : mask < 0x10000)
    (hfree : bitN s.shu.latches 13 = false) (hwaiting : (resetEdge mask r.sender.code s).waiting = 0)
    (hcleared : (resetEdge mask r.sender.code s).cleared ≠ 0) : execShuReset r mask s =
      .next (reply r 0x0601 stOk (le 4 (resetEdge mask r.sender.code s).cleared ++ le 4 0 ++
        le 4 (resetEdge mask r.sender.code s).remaining) (resetEdge mask r.sender.code s).state) :=
  brixo_of_answer htaken (by simp [Nat.not_le.mpr hmask, hfree, hwaiting, hcleared])

theorem execShuConfigOpen_next {len : Nat} {pw salt digest : List Byte} (htaken : Taken 0x0602 r s)
    (hmode : configMode s = true) (hsession : s.shu.session = none) (hset : s.shu.password = some (salt, digest))
    (hpw : passwordOk len pw = true) (hlockout : s.shu.lockoutEnd = none) (hdigest : digestOf salt len pw = digest) :
    ∃ t, execShuConfigOpen r len pw s = .next (reply r 0x0602 stOk (openBody t) t) ∧
      t.shu.session = some (r.sender, s.clk.now) ∧ t.shu.fails = 0 ∧ t.shu.lockouts = 0 ∧
      t.shu.nextChange = satInc 0xFFFFFFFF s.shu.nextChange := by
  refine ⟨changeLog 3 r.sender.code 0 [] [] (setShu (fun x => { x with
    session := some (r.sender, s.clk.now), fails := 0, lockouts := 0 }) s), brixo_of_answer htaken ?_, rfl, rfl, rfl, rfl⟩
  simp [hmode, hsession, hset, hpw, hlockout, hdigest]

theorem execShuConfigClose_next {at0 : Tick} (htaken : Taken 0x0603 r s) (hsession : s.shu.session = some (r.sender, at0)) :
    ∃ t, execShuConfigClose r s = .next (reply r 0x0603 stOk [] t) ∧ t.shu.session = none ∧
      t.shu.nextChange = satInc 0xFFFFFFFF s.shu.nextChange := by
  obtain ⟨hclosed, hnext, -⟩ := closeConfig_of_open hsession
  exact ⟨_, brixo_of_answer htaken (by simp only [sessionCheck, hsession, if_true]), hclosed, hnext⟩

/-- The password set, with a salt from the next free value, and its change-log entry (R360, R361). -/
def passwordSet (r : Req) (len : Nat) (pw : List Byte) (s : State) : State :=
  let salt := Config.random s.clk.free 16
  let d := digestOf salt len pw
  changeLog 2 r.sender.code 0 (((s.shu.password.map (·.2)).getD []).take 16) (d.take 16)
    (touchConfig (setShu (fun x => { x with password := some (salt, d), copyA := true, copyB := true, copiesEqual := true })
      { s with clk := { s.clk with free := s.clk.free + 1 } }))

theorem execShuPasswordSet_next {len : Nat} {pw : List Byte} {at0 : Tick} (htaken : Taken 0x0604 r s)
    (hsession : s.shu.session = some (r.sender, at0)) (hpw : passwordOk len pw = true) : ∃ t,
      execShuPasswordSet r len pw s = .next (reply r 0x0604 stOk (le 4 s.shu.nextChange) t) ∧
      t.shu.password = some (Config.random s.clk.free 16, digestOf (Config.random s.clk.free 16) len pw) ∧
      t.shu.nextChange = satInc 0xFFFFFFFF s.shu.nextChange := by
  have hcheck (first : Bool) : (if first then none else sessionCheck s r.sender) = none := by
    simp [sessionCheck, hsession]
  refine ⟨passwordSet r len pw s, brixo_of_answer htaken ?_, rfl, rfl⟩
  dsimp only
  rw [hcheck]
  simp only [hpw, Bool.not_true, Bool.false_eq_true, if_false]
  rfl

theorem execShuRcmTest_next (htaken : Taken 0x0605 r s) (hserving : inHoldup s = false) (hopen : coilOn s = false)
    (hidle : s.shu.rcmTest = none) : ∃ t, execShuRcmTest r s = .next t ∧ t.shu.rcmTest = some ⟨1, 5, 0, some r⟩ := by
  refine ⟨startRcm 5 (some r) s, brixo_of_later htaken ?_, ?_⟩
  · simp [hserving, hopen, hidle]
  · simp [startRcm, hidle, hopen]

theorem execShuLogRead_next {first n : Nat} {e : ChangeEntry} (htaken : Taken 0x0606 r s) (hsome : n ≠ 0) (hfew : n ≤ 60)
    (hfirst : ((s.shu.changeLog.filter fun e => decide (first ≤ e.index)).take n).head? = some e) :
    execShuLogRead r first n s = .next (reply r 0x0606 stOk (le 4 e.index ++
      le 1 ((s.shu.changeLog.filter fun e => decide (first ≤ e.index)).take n).length ++ zeros 3 ++
      ((s.shu.changeLog.filter fun e => decide (first ≤ e.index)).take n).flatMap ChangeEntry.bytes) s) := by
  have hcount : ¬ (decide (n = 0) || decide (60 < n)) = true := by simp [hsome, hfew]
  refine brixo_of_answer htaken ?_
  rw [if_neg hcount]
  dsimp only
  rw [hfirst]
  rfl

end Commands

/-- Settles O26: each command of Shutter answers its reply and its next state. The instant clk.now is the model's own (log
entry 3). -/
theorem shutterCommandsComplete : Obligations.ShutterCommandsComplete := by
  unfold Obligations.ShutterCommandsComplete
  refine ⟨?_, ?_, ?_, ?_, ?_, ?_, ?_⟩
  · exact fun _ _ _ => execShuStatus_next
  · exact fun _ _ _ => execShuReset_next
  · exact fun _ _ _ _ _ _ => execShuConfigOpen_next
  · exact fun _ _ _ => execShuConfigClose_next
  · exact fun _ _ _ _ _ => execShuPasswordSet_next
  · exact fun _ _ => execShuRcmTest_next
  · exact fun _ _ _ _ _ => execShuLogRead_next

end Sys2Proof.ShutterSafety

/-! The load switches (15): which next state each command and each event of the die answers. -/

namespace Sys2Proof.LoadSwitches

open Sys2Proof Sys2Proof.Machine Sys2Proof.Safety Sys2Proof.Laws Sys2Proof.Frames Sys2Proof.ModesPower
  Sys2Proof.KilnEnginePool Sys2Proof.ShutterSafety

/-! One channel of the die. -/

@[simp] theorem setOut_clk (n : Nat) (f : LswChan → LswChan) (s : State) : (setOut n f s).clk = s.clk := rfl

/-- Of a channel that the die has, a change is read back. -/
theorem lswChan_setOut_same {n : Nat} {s : State} (f : LswChan → LswChan) (hn : n < s.lsw.chans.length) :
    lswChan (setOut n f s) n = f (lswChan s n) := by
  unfold lswChan setOut setLsw
  rw [getElem?_modAt_same, List.getElem?_eq_getElem hn]
  rfl

theorem length_setOut (n : Nat) (f : LswChan → LswChan) (s : State) :
    (setOut n f s).lsw.chans.length = s.lsw.chans.length :=
  List.length_mapIdx

/-- A channel's reading depends on the die alone. -/
theorem lswChan_of_lsw {s t : State} (hlsw : t.lsw = s.lsw) (n : Nat) : lswChan t n = lswChan s n := by
  rw [lswChan, hlsw, lswChan]

theorem lswEvent_lsw (event n : Nat) (s : State) : (lswEvent event n s).lsw = s.lsw := kept_lsw (by simp (disch := decide))

theorem dieEvent_lsw (event cause : Nat) (s : State) : (dieEvent event cause s).lsw = s.lsw :=
  kept_lsw (by simp (disch := decide))

theorem diagTrigger_lsw (n subject : Nat) (s : State) : (diagTrigger n subject s).lsw = s.lsw :=
  kept_lsw (by simp (disch := decide))

/-- A latch that is set switches its channel off (R374). -/
theorem latchOut_chan {n : Nat} {s : State} (cause : Nat) (hn : n < s.lsw.chans.length) :
    lswChan (latchOut cause n s) n = { switchOff (lswChan s n) with latch := some s.clk.now, cause := cause } := by
  unfold latchOut
  extract_lets latched
  rw [lswChan_of_lsw ((diagTrigger_lsw _ _ _).trans (lswEvent_lsw _ _ _)), lswChan_setOut_same _ hn]

theorem latchOut_clk (cause n : Nat) (s : State) : (latchOut cause n s).clk = s.clk := kept_clk (by simp (disch := decide))

/-- A restart leaves the latch and the junction's temperature (R375). -/
theorem restart_chan {n : Nat} {s : State} (hn : n < s.lsw.chans.length) :
    (lswChan (restart n s) n).latch = (lswChan s n).latch ∧ (lswChan (restart n s) n).tj = (lswChan s n).tj := by
  unfold restart
  extract_lets c
  split
  · rw [lswChan_of_lsw (lswEvent_lsw _ _ _), lswChan_setOut_same _ hn]
    exact ⟨rfl, rfl⟩
  · split
    · rw [lswChan_of_lsw (lswEvent_lsw _ _ _), lswChan_setOut_same _ hn]
      exact ⟨rfl, rfl⟩
    · exact ⟨rfl, rfl⟩

/-! Commands (R371, R375, R380, R383). -/

theorem lswBody_take (s : State) : (lswBody s).take 8 = le 1 (demandMask s) ++ le 1 (onMask s) ++ le 1 (outFault s) ++
    le 1 (packBits [s.lsw.under, s.lsw.gndOpen, s.lsw.loadDump]) ++ le 2 s.lsw.vaux ++ zeros 2 := by
  unfold lswBody
  simp [List.take_append, List.take_of_length_le, zeros]

theorem execLswStatus_next {s a : State} {r : Req} (htaken : Taken 0x0700 r s) (ha : a = asOf s) : ∃ body,
    execLswStatus r s = .next (reply r 0x0700 stOk body s) ∧
      body.take 8 = le 1 (demandMask a) ++ le 1 (onMask a) ++ le 1 (outFault a) ++
        le 1 (packBits [a.lsw.under, a.lsw.gndOpen, a.lsw.loadDump]) ++ le 2 a.lsw.vaux ++ zeros 2 := by
  subst ha
  exact ⟨_, brixo_of_answer htaken rfl, lswBody_take (asOf s)⟩

section Control

variable {s : State} {r : Req} {mask : Nat}

theorem execLswControl_off_next (htaken : Taken 0x0701 r s) (hholdup : inHoldup s = false) (hactive : isStandby s = false)
    (hlinked : s.hng.isolated = false) (hmask : mask % 256 ≠ 0) (hlock : lockHeld s = false) : ∃ t,
      execLswControl r mask 0 0 s = .next (reply r 0x0701 stOk (controlBody 0 t) t) ∧
      t = (maskIdx 8 mask).foldl (fun s n => control 0 0 n s) s :=
  ⟨_, brixo_of_answer htaken (by simp [hholdup, hactive, hlinked, hmask, hlock]), rfl⟩

theorem execLswControl_on_next (htaken : Taken 0x0701 r s) (hholdup : inHoldup s = false) (hactive : isStandby s = false)
    (hlinked : s.hng.isolated = false) (hmask : mask % 256 ≠ 0) (hlock : lockHeld s = false)
    (hexclusive : exclusiveMask s mask = 0) : ∃ t,
      execLswControl r mask 1 0 s = .next (reply r 0x0701 stOk (controlBody 0 t) t) ∧
      t = (maskIdx 8 mask).foldl (fun s n => control 1 0 n s) s :=
  ⟨_, brixo_of_answer htaken (by simp [hholdup, hactive, hlinked, hmask, hlock, hexclusive]), rfl⟩

end Control

/-! Events of one channel (R374–R376, R381, R383). -/

section Channel

variable {s : State} {n : Nat}

theorem execLswThermalOff_next {tj : Int} (hpad : n < 8) (hon : (lswChan s n).on = true) (hhot : 175 ≤ tj)
    (hn : n < s.lsw.chans.length) : ∃ t, execLswThermalOff n tj s = .next t ∧ (lswChan t n).on = false ∧
      (lswChan t n).latch = some s.clk.now ∧ (lswChan t n).cause = 1 ∧ (lswChan t n).tj = tj := by
  refine ⟨_, next_of_whenever (by simp [hpad, hon, hhot]) rfl, ?_⟩
  rw [latchOut_chan 1 (by rw [length_setOut]; exact hn), lswChan_setOut_same _ hn]
  exact ⟨rfl, rfl, rfl, rfl⟩

theorem execLswIlimTimeout_next {at0 : Tick} (hpad : n < 8) (hon : (lswChan s n).on = true)
    (hlimit : (lswChan s n).ilim = some at0) (hn : n < s.lsw.chans.length) : ∃ t, execLswIlimTimeout n s = .next t ∧
      (lswChan t n).on = false ∧ (lswChan t n).cause = 2 ∧
      t.clk.now = max s.clk.now (at0 + Tick.ms (param s 0x0704)) := by
  refine exists_next_of_whenever (by simp [hpad, hon]) fun t ht => ?_
  rw [hlimit] at ht
  dsimp only at ht
  rw [ht, latchOut_chan 2 (by exact hn), latchOut_clk]
  exact ⟨rfl, rfl, rfl⟩

theorem execLswLatchRelease_next {tj : Int} {at0 : Tick} (hlatch : (lswChan s n).latch = some at0) (hpad : n < 8)
    (hcool : tj < 145) (hn : n < s.lsw.chans.length) : ∃ t, execLswLatchRelease n tj s = .next t ∧
      (lswChan t n).latch = none ∧ (lswChan t n).tj = tj := by
  unfold execLswLatchRelease
  rw [hlatch]
  refine exists_next_of_whenever (by simp [hpad, hcool]) fun t ht => ?_
  extract_lets due at ht
  obtain ⟨hrestarted, htj⟩ := restart_chan (n := n) (s := setOut n (fun c => { c with latch := none, tj := tj }) due)
    (by rw [length_setOut]; exact hn)
  rw [ht, hrestarted, htj, lswChan_setOut_same _ (by exact hn)]
  exact ⟨rfl, rfl⟩

theorem execLswRetryRefill_next (hpad : n < 8) (hon : (lswChan s n).on = true) (hfree : (lswChan s n).latch = none)
    (hn : n < s.lsw.chans.length) : ∃ t, execLswRetryRefill n s = .next t ∧ (lswChan t n).retries = retryMax s n ∧
      (lswChan t n).on = true := by
  refine exists_next_of_whenever (by simp [hpad, hon, hfree]) fun t ht => ?_
  extract_lets due at ht
  rw [ht, lswChan_setOut_same _ (by exact hn)]
  exact ⟨rfl, hon⟩

theorem execLswPulseEnd_next {at0 : Tick} (hpulse : (lswChan s n).pulseEnd = some at0) (hn : n < s.lsw.chans.length) :
    ∃ t, execLswPulseEnd n s = .next t ∧ (lswChan t n).on = false ∧ (lswChan t n).demand = false ∧
      (lswChan t n).pulseEnd = none := by
  unfold execLswPulseEnd
  rw [hpulse]
  refine ⟨_, rfl, ?_⟩
  rw [lswChan_setOut_same _ (by exact hn)]
  exact ⟨rfl, rfl, rfl⟩

theorem execLswOpenLoad_next {i : Nat} (hpad : n < 8) (hon : (lswChan s n).on = true) (hlow : i < param s 0x0705)
    (hn : n < s.lsw.chans.length) : ∃ t, execLswOpenLoad n i s = .next t ∧ (lswChan t n).openLoad = true ∧
      (lswChan t n).i = i := by
  refine exists_next_of_whenever (by simp [hpad, hon, hlow]) fun t ht => ?_
  extract_lets due at ht
  rw [ht, lswChan_of_lsw (lswEvent_lsw _ _ _), lswChan_setOut_same _ (by exact hn)]
  exact ⟨rfl, rfl⟩

theorem execLswOffStateShort_next (hpad : n < 8) (hd4 : s.dom.d4 = true) (hoff : (lswChan s n).on = false)
    (hn : n < s.lsw.chans.length) : ∃ t, execLswOffStateShort n s = .next t ∧ (lswChan t n).offShort = true ∧
      (lswChan t n).cause = 5 := by
  refine ⟨_, next_of_whenever (by simp [hpad, hd4, hoff]) rfl, ?_⟩
  rw [lswChan_of_lsw (lswEvent_lsw _ _ _), lswChan_setOut_same _ hn]
  exact ⟨rfl, rfl⟩

end Channel

/-! Events of the supply and the ground (R370, R376, R378). -/

theorem any_mapIdx_eq_false {f : Nat → LswChan → LswChan} {p : LswChan → Bool} (l : List LswChan)
    (hnone : ∀ n c, p (f n c) = false) : (l.mapIdx f).any p = false := by
  rw [List.any_eq_false]
  intro c hc
  obtain ⟨n, hn, rfl⟩ := List.mem_mapIdx.mp hc
  simp [hnone]

section Supply

variable {s : State} {mV : Nat}

theorem execVauxUndervoltage_next (hlow : mV < 10000) : ∃ t, execVauxUndervoltage mV s = .next t ∧ t.lsw.under = true ∧
    t.lsw.vaux = mV ∧ t.lsw.chans.any (·.on) = false := by
  refine ⟨_, next_of_whenever (decide_eq_true hlow) rfl, rfl, rfl, ?_⟩
  simp [setLsw, allOff, switchOff]

theorem execVauxRecovery_next (hunder : s.lsw.under = true) (hback : 11000 ≤ mV) : ∃ t,
    execVauxRecovery mV s = .next t ∧ t.lsw.under = false ∧ t.lsw.reversed = false ∧ t.lsw.vaux = mV ∧
      t.lsw.loadDump = decide (36000 < mV) :=
  exists_next_of_whenever (by simp [hunder, hback]) fun _ ht => by rw [ht]; exact ⟨rfl, rfl, rfl, rfl⟩

theorem execVauxPowerCycle_next (hlow : mV < 4000) : ∃ t, execVauxPowerCycle mV s = .next t ∧ t.lsw.under = true ∧
    t.lsw.chans.any (·.latch.isSome) = false ∧ t.lsw.chans.any (·.on) = false := by
  refine ⟨_, next_of_whenever (decide_eq_true hlow) rfl, rfl,
    any_mapIdx_eq_false s.lsw.chans fun _ _ => rfl, any_mapIdx_eq_false s.lsw.chans fun _ _ => rfl⟩

theorem execVauxGndOpen_next (hd4 : s.dom.d4 = true) (hgrounded : s.lsw.gndOpen = false) : ∃ t,
    execVauxGndOpen s = .next t ∧ t.lsw.gndOpen = true ∧ t.lsw.chans.any (·.on) = false := by
  refine ⟨_, next_of_whenever (by simp [hd4, hgrounded]) rfl, ?_⟩
  rw [dieEvent_lsw]
  refine ⟨rfl, ?_⟩
  simp [setLsw, allOff, switchOff]

theorem execVauxGndRestored_next (hopen : s.lsw.gndOpen = true) : ∃ t, execVauxGndRestored s = .next t ∧
    t.lsw.gndOpen = false := by
  refine ⟨_, next_of_whenever hopen rfl, ?_⟩
  dsimp only
  rw [dieEvent_lsw]
  rfl

theorem execLoadDump_next (hd4 : s.dom.d4 = true) (hhigh : 36000 < mV) : ∃ t, execLoadDump mV s = .next t ∧
    t.lsw.loadDump = true ∧ t.lsw.vaux = mV := by
  refine ⟨_, next_of_whenever (by simp [hd4, hhigh]) rfl, ?_⟩
  rw [dieEvent_lsw]
  exact ⟨rfl, rfl⟩

theorem deenergise_lsw (s : State) : (deenergise s).lsw = s.lsw := kept_lsw (by simp (disch := decide))

theorem execVauxInReversed_next (s : State) : ∃ t, execVauxInReversed s = .next t ∧ t.lsw.reversed = true ∧
    t.lsw.under = true ∧ coilOn t = false ∧ t.lsw.chans.all (·.on) = true := by
  refine ⟨_, rfl, ?_, ?_, coilOn_deenergise _, ?_⟩
  · rw [deenergise_lsw]
    rfl
  · rw [deenergise_lsw]
    rfl
  · rw [deenergise_lsw]
    simp [setLsw]

end Supply

/-- Settles O27: each command and each event of the load switches answers its next state. That a reversed supply counts as under
10 V is the model's choice (log entry 43), and the instant clk.now is the model's own (log entry 3). -/
theorem loadSwitchCommandsComplete : Obligations.LoadSwitchCommandsComplete := by
  unfold Obligations.LoadSwitchCommandsComplete
  refine ⟨?_, ?_, ?_, ?_, ?_, ?_, ?_, ?_, ?_, ?_, ?_, ?_, ?_, ?_, ?_, ?_, ?_⟩
  · exact fun _ _ _ => execLswStatus_next
  · exact fun _ _ _ => execLswControl_off_next
  · exact fun _ _ _ => execLswControl_on_next
  · exact fun _ _ _ => execLswThermalOff_next
  · exact fun _ _ _ => execLswIlimTimeout_next
  · exact fun _ _ _ _ => execLswLatchRelease_next
  · exact fun _ _ => execLswRetryRefill_next
  · exact fun _ _ _ => execLswPulseEnd_next
  · exact fun _ _ _ => execLswOpenLoad_next
  · exact fun _ _ => execLswOffStateShort_next
  · exact fun _ _ => execVauxUndervoltage_next
  · exact fun _ _ => execVauxRecovery_next
  · exact fun _ _ => execVauxPowerCycle_next
  · exact fun _ => execVauxGndOpen_next
  · exact fun _ => execVauxGndRestored_next
  · exact fun _ _ => execLoadDump_next
  · exact execVauxInReversed_next

end Sys2Proof.LoadSwitches

/-! Sagger (16): which reply and next state each key command answers, and which next state the life-cycle, tamper and debug commands
answer. -/

namespace Sys2Proof.SaggerSecurity

open Sys2Proof Sys2Proof.Machine Sys2Proof.Safety Sys2Proof.Laws Sys2Proof.Frames Sys2Proof.ModesPower
  Sys2Proof.MeasurementInputs Sys2Proof.KilnEnginePool

/-! Keys entering and leaving slots (R392–R395). -/

/-- The slot of a key that has entered as generation 0. -/
def enteredSlot (slot ty attr uses : Nat) (key : List Byte) (s : State) : Slot :=
  ⟨slot, ty, s.sag.root, attr, 0, uses, uses, s.clk.epoch, key, true⟩

/-- A key enters an empty slot at once, as generation 0 (R393). -/
theorem putKey_of_empty {s : State} {path slot ty attr uses snd : Nat} {key : List Byte} (hempty : slotOf s slot = none) :
    ∃ t, putKey path slot ty attr uses key snd s = answer t stOk (le 2 0 ++ zeros 2 ++ le 8 s.clk.epoch) ∧
      t.sag.slots = s.sag.slots.filter (·.slot != slot) ++ [enteredSlot slot ty attr uses key s] := by
  unfold putKey
  rw [hempty]
  exact ⟨_, rfl, rfl⟩

/-- A use counted off a slot leaves empty slots empty. -/
theorem slotOf_consume_of_none {s : State} (k : Nat) {slot : Nat} (hempty : slotOf s slot = none) :
    slotOf (consume k s) slot = none := by
  unfold slotOf consume setSag at *
  simp only [List.find?_eq_none, List.mem_map, beq_iff_eq, forall_exists_index, and_imp, forall_apply_eq_imp_iff₂] at *
  intro p hp
  split
  · exact hempty p hp
  · exact hempty p hp

/-- Whatever its chapter answers, a request has a next state. -/
theorem exists_next_brixo (code : Nat) (r : Req) (s : State) (f : State → Answer) : ∃ t, brixo code r s f = .next t := by
  unfold brixo
  split
  · split
    · exact ⟨_, rfl⟩
    · exact ⟨_, rfl⟩
  · exact ⟨s, rfl⟩

/-! Status and slots (R409). -/

section Keys

variable {s : State} {r : Req}

theorem execSagStatus_letterbox_next (htaken : Taken 0x0800 r s) (hsender : r.sender = .letterbox) : execSagStatus r s =
    .next (reply r 0x0800 stOk (padTo 32 (le 1 s.sag.lifecycle.code ++ le 1 s.sag.root ++
      le 1 (packBits [s.sag.debugOpen, s.sag.lcPending.isSome, tamperBlocks s, s.sag.erasePending]))) s) :=
  brixo_of_answer htaken (by simp [hsender])

theorem execSagStatus_next (htaken : Taken 0x0800 r s) (hsender : r.sender ≠ .letterbox) : ∃ t body,
    execSagStatus r s = .next (reply r 0x0800 stOk body t) ∧ t.sag.tamperSeen = 0 ∧
      t.sag.tamperActive = s.sag.tamperActive ∧
      body.take 4 = le 1 s.sag.lifecycle.code ++ le 1 s.sag.root ++
        le 1 (packBits [s.sag.debugOpen, s.sag.lcPending.isSome, tamperBlocks s, s.sag.erasePending]) ++
        le 1 s.sag.tamperActive := by
  refine ⟨_, _, brixo_of_answer htaken (if_neg (by simp [hsender])), rfl, rfl, ?_⟩
  simp [List.take_append, List.take_of_length_le]

theorem execSagSlotInfo_occupied_next {slot : Nat} {p : Slot} (htaken : Taken 0x0801 r s) (hslot : slot < 64)
    (hp : slotOf s slot = some p) : execSagSlotInfo r slot s =
      .next (reply r 0x0801 stOk (keyHeader slot p.type p.attr p.usesMax ++ le 1 (slotState s slot) ++ le 1 p.root ++
        le 2 p.gen ++ le 4 (if bitN p.attr aCounted then p.usesLeft else 0xFFFFFFFF)) (noteBad slot s)) :=
  brixo_of_answer htaken (by simp only [if_neg (Nat.not_le.mpr hslot), hp])

theorem execSagSlotInfo_empty_next {slot : Nat} (htaken : Taken 0x0801 r s) (hslot : slot < 64)
    (hempty : slotOf s slot = none) : execSagSlotInfo r slot s =
      .next (reply r 0x0801 stOk (keyHeader slot 0 0 0 ++ zeros 4 ++ le 4 0xFFFFFFFF) s) := by
  have hzeros : zeros 1 ++ (zeros 1 ++ (zeros 2 ++ le 4 0xFFFFFFFF)) = zeros 4 ++ le 4 0xFFFFFFFF := rfl
  refine brixo_of_answer htaken ?_
  simp only [if_neg (Nat.not_le.mpr hslot), hempty, List.append_assoc, hzeros]

/-! Keys generated, written, imported and derived (R393, R394). -/

theorem execSagKeyGenerate_next {slot ty attr uses : Nat} (htaken : Taken 0x0802 r s) (hroot : s.sag.root ≠ 0)
    (hheader : headerOk slot ty attr = true) (hty : ty < 8) (hempty : slotOf s slot = none) : ∃ t p,
      execSagKeyGenerate r slot ty attr uses s = .next (reply r 0x0802 stOk (le 2 0 ++ zeros 2 ++ le 8 s.clk.epoch) t) ∧
      t.sag.slots = s.sag.slots.filter (·.slot != slot) ++ [p] ∧ p.slot = slot ∧ p.type = ty ∧ p.attr = attr ∧
      p.root = s.sag.root ∧ p.usesLeft = uses := by
  obtain ⟨t, hput, hslots⟩ := putKey_of_empty (s := (takeFree s).2) (path := 1) (ty := ty) (attr := attr) (uses := uses)
    (key := padTo ((keyLen ty).getD 0) (Config.random (takeFree s).1 ((keyLen ty).getD 0))) (snd := r.sender.code) hempty
  refine ⟨t, _, brixo_of_answer htaken ?_, hslots, rfl, rfl, rfl, rfl, rfl⟩
  rw [if_neg hroot, if_neg (by simp [hheader, hty])]
  exact hput

theorem execSagKeyWrite_next {slot ty attr uses : Nat} {key : List Byte} (htaken : Taken 0x0803 r s)
    (hfactory : inFactory s = true) (hsender : r.sender = .hostSpi) (hroot : s.sag.root ≠ 0)
    (hheader : headerOk slot ty attr = true) (hlen : keyLen ty = some key.length) (hempty : slotOf s slot = none) :
    ∃ t p, execSagKeyWrite r slot ty attr uses key s =
        .next (reply r 0x0803 stOk (le 2 0 ++ zeros 2 ++ le 8 s.clk.epoch) t) ∧
      t.sag.slots = s.sag.slots.filter (·.slot != slot) ++ [p] ∧ p.slot = slot ∧ p.key = key := by
  obtain ⟨t, hput, hslots⟩ := putKey_of_empty (path := 2) (ty := ty) (attr := attr) (uses := uses) (key := key)
    (snd := r.sender.code) hempty
  refine ⟨t, _, brixo_of_answer htaken ?_, hslots, rfl, rfl⟩
  rw [if_neg (by simp [hsender, hfactory]), if_neg hroot, if_neg (by simp [hheader, hlen])]
  exact hput

theorem keyHeader_length (slot ty attr uses : Nat) : (keyHeader slot ty attr uses).length = 16 := by
  simp [keyHeader, zeros]

theorem execSagKeyImport_next {slot ty attr uses u : Nat} {wrapped : List Byte} (htaken : Taken 0x0804 r s)
    (hlife : fieldOrFactory s = true) (hroot : s.sag.root ≠ 0) (hheader : headerOk slot ty attr = true)
    (husable : slotRefusal (noteBad u s) u aUnwrap = none) : ∃ t,
      execSagKeyImport r slot ty attr uses u wrapped s = .next t ∧
      (Config.unwrap (keyOf s u) wrapped = none → t = reply r 0x0804 stIntegrity [] (consume u s)) ∧
      (∀ key, Config.unwrap (keyOf s u) wrapped = some (keyHeader slot ty attr uses ++ key) →
        keyLen ty = some key.length → slotOf s slot = none → ∃ p, p ∈ t.sag.slots ∧ p.slot = slot ∧ p.key = key) := by
  obtain ⟨t, ht⟩ := exists_next_brixo 0x0804 r s _
  refine ⟨t, ht, fun hwrong => ?_, fun key hkey hlen hempty => ?_⟩
  · refine Host.Outcome.next.inj (ht.symm.trans (brixo_of_answer htaken ?_))
    simp only [hlife, if_neg hroot, hheader, husable, hwrong]
    rfl
  · obtain ⟨v, hput, hslots⟩ := putKey_of_empty (path := 3) (ty := ty) (attr := attr) (uses := uses) (key := key)
      (snd := r.sender.code) (slotOf_consume_of_none u hempty)
    have htake : (keyHeader slot ty attr uses ++ key).take 16 = keyHeader slot ty attr uses := by
      rw [← keyHeader_length slot ty attr uses, List.take_left]
    have hdrop : (keyHeader slot ty attr uses ++ key).drop 16 = key := by
      rw [← keyHeader_length slot ty attr uses, List.drop_left]
    have hrest : (keyHeader slot ty attr uses ++ key).length - 16 = key.length := by
      rw [List.length_append, keyHeader_length, Nat.add_sub_cancel_left]
    have hanswer : t = reply r 0x0804 stOk (le 2 0 ++ zeros 2 ++ le 8 (consume u s).clk.epoch) v := by
      refine Host.Outcome.next.inj (ht.symm.trans (brixo_of_answer htaken ?_))
      simp only [hlife, if_neg hroot, hheader, husable, hkey, htake, hdrop, hrest, hlen]
      simpa using hput
    have hsag : t.sag = v.sag := by
      rw [hanswer]
      exact kept_sag (by simp (disch := decide))
    refine ⟨enteredSlot slot ty attr uses key (consume u s), ?_, rfl, rfl⟩
    rw [hsag, hslots]
    exact List.mem_append_right _ List.mem_cons_self

theorem execSagKeyDerive_next {src slot ty attr uses : Nat} {info : List Byte} (htaken : Taken 0x0805 r s)
    (hlife : fieldOrFactory s = true) (hroot : s.sag.root ≠ 0) (hheader : headerOk slot ty attr = true) (hty : ty ≤ 3)
    (hinfo : info.length ≤ 64) (husable : slotRefusal (noteBad src s) src aDerive = none)
    (hattr : attr &&& maskWithout (((slotOf s src).map (·.attr)).getD 0) (2 ^ aDerive) = attr)
    (hempty : slotOf s slot = none) : ∃ t p, execSagKeyDerive r src slot ty attr uses info s =
        .next (reply r 0x0805 stOk (le 2 0 ++ zeros 2 ++ le 8 s.clk.epoch) t) ∧ p ∈ t.sag.slots ∧ p.slot = slot ∧
      p.key = padTo ((keyLen ty).getD 0) (Config.hkdf (keyOf s src) (le 8 s.ident.moduleId) info ((keyLen ty).getD 0)) := by
  obtain ⟨t, hput, hslots⟩ := putKey_of_empty (path := 4) (ty := ty) (attr := attr) (uses := uses)
    (key := padTo ((keyLen ty).getD 0) (Config.hkdf (keyOf s src) (le 8 s.ident.moduleId) info ((keyLen ty).getD 0)))
    (snd := r.sender.code) (slotOf_consume_of_none src hempty)
  refine ⟨t, _, brixo_of_answer htaken ?_, by rw [hslots]; exact List.mem_append_right _ List.mem_cons_self, rfl, rfl⟩
  simp only [hlife, if_neg hroot, hheader, husable, hattr, Bool.not_true, Bool.false_or, bne_self_eq_false,
    decide_eq_false (Nat.not_lt.mpr hty), decide_eq_false (Nat.not_lt.mpr hinfo), Bool.false_eq_true, if_false]
  exact hput

theorem execSagKeyErase_next {slot : Nat} {p : Slot} (htaken : Taken 0x0806 r s) (hroot : s.sag.root ≠ 0)
    (hp : slotOf s slot = some p) (hmutable : bitN p.attr aImmutable = false) : execSagKeyErase r slot s =
      .next (reply r 0x0806 stOk [] (setSag (fun g => { g with
        slots := g.slots.filter (·.slot != slot), pubs := g.pubs.filter (·.slot != slot) }) s)) :=
  brixo_of_answer htaken (by simp [hroot, hp, hmutable])

/-! Public keys and certificates (R395). -/

theorem genOf_of_slot {slot : Nat} {p : Slot} (hp : slotOf s slot = some p) : genOf s slot = p.gen := by
  rw [genOf, hp]
  rfl

theorem execSagPubkeyExport_next {slot which gen : Nat} {p : Slot} {k : PubKey} {cert : List Byte}
    (htaken : Taken 0x0807 r s) (hslot : slot < 64) (hwhich : which ≤ 1) (hp : slotOf s slot = some p)
    (husable : slotBar (noteBad slot s) slot aExportPub = none)
    (hk : (s.sag.pubs.find? fun k => k.slot == slot && k.gen == (if which = 0 then p.gen else gen)) = some k)
    (hcert : cert = (if r.sender = .letterbox then [] else k.cert)) : execSagPubkeyExport r slot which gen s =
      .next (reply r 0x0807 stOk (le 1 k.type ++ zeros 1 ++ le 2 k.gen ++ le 2 k.pub.length ++ le 2 cert.length ++ k.pub ++
        cert) s) := by
  refine brixo_of_answer htaken ?_
  rw [if_neg (by simp [hslot, hwhich])]
  simp only [husable, genOf_of_slot hp, hk, ← hcert]

theorem execSagCertAttach_next {slot : Nat} {p : Slot} {k : PubKey} {cert : List Byte} (htaken : Taken 0x0808 r s)
    (hlen : cert.length ≤ 2048) (hp : slotOf s slot = some p) (husable : slotBar (noteBad slot s) slot aExportPub = none)
    (hk : (s.sag.pubs.find? fun k => k.slot == slot && k.gen == p.gen) = some k) (hsubject : Config.certSubject cert = k.pub) :
    ∃ t, execSagCertAttach r slot cert s = .next (reply r 0x0808 stOk [] t) ∧
      t.sag.pubs = s.sag.pubs.map (fun k => if k.slot == slot && k.gen == p.gen then { k with cert := cert } else k) := by
  refine ⟨setSag (fun g => { g with pubs := g.pubs.map fun k =>
    if k.slot == slot && k.gen == p.gen then { k with cert := cert } else k }) s, brixo_of_answer htaken ?_, rfl⟩
  simp only [if_neg (Nat.not_lt.mpr hlen), husable, genOf_of_slot hp, hk, hsubject, bne_self_eq_false,
    Bool.false_eq_true, if_false]

end Keys

/-- Settles O28: each key command answers its reply and its next state. -/
theorem keyCommandsComplete : Obligations.KeyCommandsComplete := by
  unfold Obligations.KeyCommandsComplete
  refine ⟨?_, ?_, ?_, ?_, ?_, ?_, ?_, ?_, ?_, ?_, ?_⟩
  · exact fun _ _ => execSagStatus_letterbox_next
  · exact fun _ _ => execSagStatus_next
  · exact fun _ _ _ _ => execSagSlotInfo_occupied_next
  · exact fun _ _ _ => execSagSlotInfo_empty_next
  · exact fun _ _ _ _ _ _ => execSagKeyGenerate_next
  · exact fun _ _ _ _ _ _ _ => execSagKeyWrite_next
  · exact fun _ _ _ _ _ _ _ _ => execSagKeyImport_next
  · exact fun _ _ _ _ _ _ _ _ => execSagKeyDerive_next
  · exact fun _ _ _ _ => execSagKeyErase_next
  · exact fun _ _ _ _ _ _ _ _ => execSagPubkeyExport_next
  · exact fun _ _ _ _ _ _ => execSagCertAttach_next

/-! Life cycle (R400–R402). -/

section Lifecycle

variable {s : State} {r : Req}

theorem execSagLifecycleSet_next {code : Nat} {target : Lifecycle} {unlock : List Byte} (htaken : Taken 0x0809 r s)
    (htarget : lifecycleOf code = some target) (hidle : s.sag.lcPending = none)
    (hallowed : lcRefusal s target r.sender unlock = none) : ∃ t,
      execSagLifecycleSet r code unlock s = .next (reply r 0x0809 stOk (le 8 (s.clk.epoch + 1)) t) ∧
      t.sag.lcPending = some target ∧ t.sag.lifecycle = s.sag.lifecycle := by
  refine ⟨setSag (fun g => { g with
    lcPending := some target
    usedChallenges := g.usedChallenges ++ (g.challenge.toList.filter fun _ => g.lifecycle == .returned)
    challenge := if g.lifecycle == .returned then none else g.challenge }) s, brixo_of_answer htaken ?_, rfl, rfl⟩
  simp [htarget, hidle, hallowed]

theorem sagEvent_sag (event subject : Nat) (s : State) : (sagEvent event subject s).sag = s.sag :=
  kept_sag (by simp (disch := decide))

theorem logNow_sag (code : Nat) (data : List Byte) (s : State) : (logNow code data s).sag = s.sag :=
  kept_sag (by simp (disch := decide))

/-- A finished transition is the target's life-cycle state, with none pending (R401). -/
theorem finishTransition_sag (target : Lifecycle) (atStart : Bool) (s : State) :
    (finishTransition target atStart s).sag.lifecycle = target ∧ (finishTransition target atStart s).sag.lcPending = none := by
  unfold finishTransition
  extract_lets old carried n erased moved done
  rw [sagEvent_sag, logNow_sag]
  dsimp only [done]
  split
  next hended =>
    have hzeroised : (zeroiseFlash 8 atStart (zeroiseRam moved)).sag.lifecycle = .ended ∧
        (zeroiseFlash 8 atStart (zeroiseRam moved)).sag.lcPending = none := by
      unfold zeroiseFlash
      rw [sagEvent_sag, logNow_sag]
      exact ⟨rfl, rfl⟩
    rw [eq_of_beq hended]
    exact hzeroised
  · exact ⟨rfl, rfl⟩

/-- A module restart leaves the life-cycle record (R401). -/
theorem moduleRestart_sag (cause : Nat) (s : State) : (moduleRestart cause s).sag.lifecycle = s.sag.lifecycle ∧
    (moduleRestart cause s).sag.lcPending = s.sag.lcPending := by
  have hclosed : (closeRun s).sag = s.sag := kept_sag (by simp (disch := decide))
  have hdropped : (dropRequests (loseFreeze (closeConfig (closeRun s)))).sag = (closeRun s).sag :=
    kept_sag (by simp (disch := decide))
  rw [← hclosed, ← hdropped]
  exact ⟨rfl, rfl⟩

theorem execLifecycleRestart_next {target : Lifecycle} (hpending : s.sag.lcPending = some target) (hd3 : s.dom.d3 = true) :
    ∃ t, execLifecycleRestart s = .next t ∧ t.sag.lcPending = none ∧ t.sag.lifecycle = target ∧ t.dom.cause = 6 ∧
      t.dom.d3 = false := by
  unfold execLifecycleRestart
  rw [hpending]
  refine exists_next_of_whenever hd3 fun t ht => ?_
  obtain ⟨hlifecycle, hnone⟩ := finishTransition_sag target false (advanceTo (s.clk.now + Tick.ms 10) s)
  obtain ⟨hkept, hkept'⟩ := moduleRestart_sag 6 (finishTransition target false (advanceTo (s.clk.now + Tick.ms 10) s))
  rw [ht]
  exact ⟨hkept'.trans hnone, hkept.trans hlifecycle, rfl, rfl⟩

/-! Tamper and debug (R396–R399, R402–R404). -/

theorem execSagTamperAck_next {mask : Nat} (htaken : Taken 0x080A r s)
    (hgone : mask &&& s.sag.blocking &&& s.sag.tamperActive = 0) : execSagTamperAck r mask s =
      .next (reply r 0x080A stOk (le 1 (maskWithout s.sag.blocking mask))
        (setSag (fun g => { g with blocking := maskWithout g.blocking mask }) s)) :=
  brixo_of_answer htaken (by simp [hgone])

theorem execSagUnlockChallenge_next (htaken : Taken 0x080B r s) (hreturned : s.sag.lifecycle = .returned) :
    ∃ t challenge, execSagUnlockChallenge r s = .next (reply r 0x080B stOk challenge t) ∧
      t.sag.challenge = some challenge ∧ t.sag.challengeNo = s.sag.challengeNo + 1 ∧ challenge.length = 32 := by
  refine ⟨_, _, brixo_of_answer htaken (if_neg (by simp [hreturned])), rfl, rfl, ?_⟩
  simp [padTo, zeros]

/-- What the TAMP inputs gave at the newest sample. -/
def tampInputs (g : Sagger) : Nat × Nat := (g.tamp, g.tampPrev)

theorem tampInputs_tamperBegin (src : Nat) (s : State) : tampInputs (tamperBegin src s).sag = tampInputs s.sag := by
  unfold tamperBegin
  extract_lets g marked told src' blocked
  have htold : told.sag = marked.sag := sagEvent_sag _ _ _
  have hblocked : tampInputs blocked.sag = tampInputs s.sag := (congrArg tampInputs htold :)
  split
  · split
    · have hasked : (askShutter (.openOrderly 0) (endSessionOpen blocked)).sag = blocked.sag :=
        kept_sag (by simp (disch := decide))
      rw [hasked]
      exact hblocked
    · exact hblocked
  · rw [htold]
    rfl

theorem tampInputs_coverFollow (s : State) : tampInputs (coverFollow s).sag = tampInputs s.sag := by
  unfold coverFollow
  split
  · unfold tamperOn
    rw [tampInputs_tamperBegin, logNow_sag]
  · split
    · have hlogged (data : List Byte) : (logNowF 0x0805 1 0xFF data s).sag = s.sag := kept_sag (by simp (disch := decide))
      unfold tamperOff tamperEnd
      extract_lets t
      rw [sagEvent_sag]
      calc _ = tampInputs (logNowF 0x0805 1 0xFF (le 1 5 ++ le 1 s.sag.tamp ++ le 1 (tamperResponse s 5) ++ zeros 1 ++
              le 4 ((s.clk.now - t) / Tick.s 1)) s).sag := rfl
        _ = tampInputs s.sag := by rw [hlogged]
    · rfl

theorem storeTamp_sag (old new : Nat) (s : State) : (storeTamp old new s).sag = s.sag := kept_sag (by simp (disch := decide))

theorem wakeSeen_sag (n : Nat) (s : State) : (wakeSeen n s).sag = s.sag := kept_sag (by simp (disch := decide))

theorem execTampSample_next (levels : Nat) (hd0 : s.dom.d0 = true) : ∃ t, execTampSample levels s = .next t ∧
    t.sag.tamp = tampNext (param s 0x0801) s.sag.tamp s.sag.tampPrev ((levels ^^^ param s 0x0802) &&& param s 0x0801) ∧
    t.sag.tampPrev = (levels ^^^ param s 0x0802) &&& param s 0x0801 := by
  refine exists_next_of_whenever hd0 fun t ht => ?_
  extract_lets act old new sampled at ht
  have hinputs : tampInputs t.sag = (new, act) := by
    rw [ht]
    split
    · rw [tampInputs_coverFollow]
      split
      · rfl
      · rw [wakeSeen_sag]
        rfl
    · rw [storeTamp_sag]
      rfl
  exact Prod.mk.inj hinputs

theorem execEarthLoading_next {at0 : Tick} (hsince : s.inp.npeSince = some at0) (hd2 : s.dom.d2 = true)
    (hnew : bitN s.sag.tamperActive 4 = false) : ∃ t, execEarthLoading s = .next t ∧ bitN t.sag.tamperActive 4 = true ∧
      t.clk.now = max s.clk.now (at0 + Tick.s 10) := by
  unfold execEarthLoading
  rw [hsince]
  refine exists_next_of_whenever (by simp [hd2, hnew]) fun t ht => ?_
  have hlogged (data : List Byte) : (logNow 0x0805 data (advanceTo (at0 + Tick.s 10) s)).clk =
      (advanceTo (at0 + Tick.s 10) s).clk := kept_clk (by simp (disch := decide))
  rw [ht, tamperOn, tamperBegin_now, hlogged]
  exact ⟨tamperBegin_active _ _, rfl⟩

/-- Steps 2 and 3 of a zeroisation leave nothing of the keys, and the last life-cycle state (R399). -/
theorem zeroiseFlash_sag (src : Nat) (atStart : Bool) (s : State) : (zeroiseFlash src atStart s).sag = { s.sag with
    helperA := false, helperB := false, slots := [], pubs := [], lifecycle := .ended, lcPending := none
    erasePending := false, dbgEnable := false } := by
  unfold zeroiseFlash
  rw [sagEvent_sag, logNow_sag]
  rfl

theorem execMeshBreach_off_next (potting : Bool) (hd0 : s.dom.d0 = true) (hoff : (s.pwr.d0OnRails && !inHoldup s) = false) :
    ∃ t, execMeshBreach potting s = .next t ∧ t.sag.root = 0 ∧ t.sag.erasePending = true ∧
      t.sag.slots = s.sag.slots.filter (fun p => !bitN p.attr aExpire) ∧ t.sag.lifecycle = s.sag.lifecycle := by
  refine exists_next_of_whenever hd0 fun t ht => ?_
  extract_lets src latched zeroised at ht
  have hrails : ¬ (zeroised.pwr.d0OnRails && !inHoldup zeroised) = true := Bool.not_eq_true _ ▸ hoff
  rw [if_neg hrails] at ht
  rw [ht]
  exact ⟨rfl, rfl, rfl, rfl⟩

theorem execMeshBreach_on_next (potting : Bool) (hd0 : s.dom.d0 = true) (hrails : s.pwr.d0OnRails = true)
    (hholdup : inHoldup s = false) : ∃ t, execMeshBreach potting s = .next t ∧ t.sag.root = 0 ∧
      t.sag.erasePending = false ∧ t.sag.slots = [] ∧ t.sag.pubs = [] ∧ t.sag.lifecycle = .ended := by
  refine exists_next_of_whenever hd0 fun t ht => ?_
  extract_lets src latched zeroised at ht
  have hon : (zeroised.pwr.d0OnRails && !inHoldup zeroised) = true := by
    calc _ = (s.pwr.d0OnRails && !inHoldup s) := rfl
      _ = true := by rw [hrails, hholdup]; rfl
  rw [if_pos hon] at ht
  rw [ht, zeroiseFlash_sag, sagEvent_sag]
  exact ⟨rfl, rfl, rfl, rfl, rfl⟩

theorem execDbgEnableWrite_next (value : Nat) (hdebug : debugAllowed s = true) :
    execDbgEnableWrite value s = .next (setSag (fun g => { g with dbgEnable := bitN value 0 }) s) :=
  next_of_whenever hdebug rfl

theorem execSpyholeDebugAccess_open_next (read : Bool) (a d : Nat) (hd3 : s.dom.d3 = true) (hdebug : debugAllowed s = true)
    (hopen : s.sag.debugOpen = true) : ∃ t, execSpyholeDebugAccess read a d s = .next t ∧ t.sag.spyAck = 1 := by
  refine exists_next_of_whenever hd3 fun t ht => ?_
  rw [if_pos (by rw [hdebug, hopen]; rfl)] at ht
  rw [ht]
  rfl

theorem execSpyholeDebugAccess_closed_next (read : Bool) (a d : Nat) (hd3 : s.dom.d3 = true)
    (hclosed : (debugAllowed s && s.sag.debugOpen) = false) :
    execSpyholeDebugAccess read a d s = .next (setSag (fun g => { g with spyAck := 4 }) s) :=
  next_of_whenever hd3 (if_neg (by rw [hclosed]; decide))

end Lifecycle

/-- Settles O29: each life-cycle, tamper and debug command answers its next state. The EFFECTIVE_EPOCH of a transition and the
acknowledgement of a closed Spyhole are the model's choices (log entry 32), the free data of an open one too (log entry 33), and
the instant clk.now is the model's own (log entry 3). -/
theorem lifecycleTamperCommandsComplete : Obligations.LifecycleTamperCommandsComplete := by
  unfold Obligations.LifecycleTamperCommandsComplete
  refine ⟨?_, ?_, ?_, ?_, ?_, ?_, ?_, ?_, ?_, ?_, ?_⟩
  · exact fun _ _ _ _ _ => execSagLifecycleSet_next
  · exact fun _ _ => execLifecycleRestart_next
  · exact fun _ _ _ => execSagTamperAck_next
  · exact fun _ _ => execSagUnlockChallenge_next
  · exact fun _ levels => execTampSample_next levels
  · exact fun _ _ => execEarthLoading_next
  · exact fun _ potting => execMeshBreach_off_next potting
  · exact fun _ potting => execMeshBreach_on_next potting
  · exact fun _ value => execDbgEnableWrite_next value
  · exact fun _ read a d => execSpyholeDebugAccess_open_next read a d
  · exact fun _ read a d => execSpyholeDebugAccess_closed_next read a d

end Sys2Proof.SaggerSecurity

/-! The card reader and the Letterbox (17): which reply and next state each command of the module answers, and which response each
field command of the tag has. -/

namespace Sys2Proof.ReaderLetterbox

open Sys2Proof Sys2Proof.Machine Sys2Proof.Safety Sys2Proof.Laws Sys2Proof.Frames Sys2Proof.ModesPower
  Sys2Proof.MeasurementInputs Sys2Proof.KilnEnginePool

/-! What a step leaves of the reader's block. -/

theorem cardEvent_con (event : Nat) (i : List Byte) (s : State) : (cardEvent event i s).con = s.con :=
  kept_con (by simp (disch := decide))

theorem forwardAuth_con (kind : Nat) (ident : List Byte) (s : State) : (forwardAuth kind ident s).con = s.con :=
  kept_con (by simp (disch := decide))

theorem lbEvent_con (event page : Nat) (s : State) : (lbEvent event page s).con = s.con :=
  kept_con (by simp (disch := decide))

theorem foldl_cardEvent_con {α : Type} (event : Nat) (f : α → List Byte) (l : List α) (s : State) :
    (l.foldl (fun s a => cardEvent event (f a) s) s).con = s.con := by
  induction l generalizing s with
  | nil => rfl
  | cons a l ih => rw [List.foldl_cons, ih, cardEvent_con]

/-- The cards seen, by their identifiers, and the mark of too many. -/
def cardsSeen (c : Contactless) : List (List Byte) × Bool := (c.cards.map (·.ident), c.tooMany)

/-- Forwarding marks a card, and changes nothing else of the cards seen (R414). -/
theorem cardsSeen_forwardCard (s : State) : cardsSeen (forwardCard s).con = cardsSeen s.con := by
  have hmarked (l : List Card) (i : List Byte) :
      (l.map fun k => if k.ident = i then { k with forwarded := true } else k).map (·.ident) = l.map (·.ident) := by
    rw [List.map_map]
    refine List.map_congr_left fun k _ => ?_
    rw [Function.comp_apply]
    split <;> rfl
  unfold forwardCard
  split
  · extract_lets unblocked marked
    split
    · rfl
    · rw [forwardAuth_con]
      simp only [marked, unblocked, cardsSeen, setCon, cardEvent_con, hmarked]
  · split
    · rfl
    · rw [cardEvent_con]
      rfl
  · rfl

/-! The reader (R410, R412, R414, R415). -/

theorem execPollCycle_next {s : State} (inField : List (List Byte)) (hpolling : readerState s = 1) : ∃ t,
    execPollCycle inField s = .next t ∧ t.con.tooMany = decide (8 ≤ (selected s inField).length) ∧
      (∀ i, i ∈ selected s inField → t.con.cards.any (·.ident == i) = true) := by
  refine exists_next_of_whenever (by rw [hpolling]; rfl) fun t ht => ?_
  extract_lets polled seen old gone fresh taken entered left at ht
  have hcon : left.con = taken.con := by
    dsimp only [left, entered]
    rw [foldl_cardEvent_con 2 (fun c : Card => c.ident), foldl_cardEvent_con 1 (fun i => i)]
  have hseen : cardsSeen t.con = cardsSeen taken.con := by rw [ht, cardsSeen_forwardCard, hcon]
  obtain ⟨hcards, htooMany⟩ := Prod.mk.inj hseen
  refine ⟨htooMany, fun i hi => ?_⟩
  have hmem : i ∈ taken.con.cards.map (·.ident) := by
    have hi' : i ∈ seen := hi
    by_cases hknown : s.con.cards.any (·.ident == i) = true
    · obtain ⟨c, hc, hident⟩ := List.any_eq_true.mp hknown
      rw [eq_of_beq hident |>.symm] at hi' ⊢
      refine List.mem_map.mpr ⟨{ c with missed := 0 }, List.mem_append_left _ (List.mem_filter.mpr ⟨?_, rfl⟩), rfl⟩
      exact List.mem_map.mpr ⟨c, hc, if_pos (by rw [List.contains_iff_mem]; exact hi')⟩
    · refine List.mem_map.mpr ⟨⟨i, 0, false⟩, List.mem_append_right _ (List.mem_map.mpr ⟨i, ?_, rfl⟩), rfl⟩
      exact List.mem_filter.mpr ⟨hi', by rw [Bool.not_eq_true'] ; exact Bool.not_eq_true _ ▸ hknown⟩
  rw [← hcards] at hmem
  obtain ⟨c, hc, hident⟩ := List.mem_map.mp hmem
  exact List.any_eq_true.mpr ⟨c, hc, beq_iff_eq.mpr hident⟩

theorem bitN_eq_testBit (x i : Nat) : bitN x i = x.testBit i := by
  rw [Nat.testBit_eq_decide_div_mod_eq, bitN, beq_eq_decide]

theorem bitN_or_two_pow (x i : Nat) : bitN (x ||| 2 ^ i) i = true := by
  rw [bitN_eq_testBit, Nat.testBit_or, Nat.testBit_two_pow_self, Bool.or_true]

/-- The reader detects at low power in WATCH alone (R412). -/
theorem watch_of_readerState {s : State} (hlow : readerState s = 2) : s.mode.mode = .watch := by
  unfold readerState at hlow
  split at hlow
  · contradiction
  · split at hlow
    case h_3 hmode => exact hmode
    all_goals contradiction

theorem execLowPowerDetectPulse_next {s : State} {change : Nat} (hlow : readerState s = 2) (hchange : 30 < change)
    (hwake : bitN (param s 0x0102) 1 = true) : ∃ t, execLowPowerDetectPulse change s = .next t ∧
      bitN t.nl.wakeDue 1 = true := by
  refine exists_next_of_whenever (by rw [hlow]; rfl) fun t ht => ?_
  extract_lets polled at ht
  have hwatch : (polled.mode.mode == .watch && bitN (param polled 0x0102) 1) = true := by
    calc _ = (s.mode.mode == .watch && bitN (param s 0x0102) 1) := rfl
      _ = true := by rw [watch_of_readerState hlow, hwake]; rfl
  rw [ht, if_pos hchange, wakeSeen, if_pos hwatch]
  exact bitN_or_two_pow _ 1

section Reader

variable {s : State} {r : Req}

theorem execConStatus_letterbox_next (htaken : Taken 0x0900 r s) (hsender : r.sender = .letterbox) : execConStatus r s =
    .next (reply r 0x0900 stOk (le 1 s.con.config.state ++ le 1 s.con.config.attempts ++ le 1 (b2n s.con.field) ++
      le 1 (readerState s) ++ zeros 140) s) :=
  brixo_of_answer htaken (by simp only [hsender, if_true])

theorem execConTune_next (iAnt : Nat) (phase : Int) (htaken : Taken 0x0901 r s) (hon : readerState s ≠ 0) : ∃ t,
    execConTune r iAnt phase s = .next (reply r 0x0901 stOk (le 2 iAnt ++ leI 2 phase) t) ∧ t.con.iAnt = iAnt ∧
      t.con.phase = phase :=
  ⟨_, brixo_of_answer htaken (if_neg hon), rfl, rfl⟩

theorem execConListLoad_next {o : List Byte} (htaken : Taken 0x0902 r s) (hlength : o.length = 8 + 8 * fieldAt o 2 2)
    (hcrc : crcAt o (4 + 8 * fieldAt o 2 2) = true) (hfew : fieldAt o 2 2 ≤ 500)
    (hsorted : ascending ((List.range (fieldAt o 2 2)).map fun k => padTo 8 (o.drop (4 + 8 * k))) = true) : ∃ t,
      execConListLoad r o s = .next (reply r 0x0902 stOk [] t) ∧
      t.con.list = some ⟨fieldAt o 0 2, (List.range (fieldAt o 2 2)).map fun k => padTo 8 (o.drop (4 + 8 * k))⟩ := by
  refine ⟨setCon (fun x => { x with list := some ⟨fieldAt o 0 2,
    (List.range (fieldAt o 2 2)).map fun k => padTo 8 (o.drop (4 + 8 * k))⟩ }) s, brixo_of_answer htaken ?_, rfl⟩
  simp only [if_neg (not_not.mpr hlength), hcrc, hsorted, decide_eq_false (Nat.not_lt.mpr hfew), Bool.not_true, Bool.or_false,
    Bool.false_eq_true, if_false]

/-! The wired side of the Letterbox (R417, R419, R421, R423, R427). -/

theorem execConLbRead_next {page : Nat} (htaken : Taken 0x0903 r s) (hpage : page ≤ 14) : execConLbRead r page true s =
    .next (reply r 0x0903 stOk (le 1 page ++ zeros 1 ++ le 2 (pageGen s page) ++ pageData s page) s) :=
  brixo_of_answer htaken (by simp [Nat.not_lt.mpr hpage])

theorem execConLbWrite_next {page : Nat} (data : List Byte) (htaken : Taken 0x0904 r s) (hgate : conGate s = false)
    (hlow : 6 ≤ page) (hhigh : page ≤ 11) : execConLbWrite r page data true s =
      .next (reply r 0x0904 stOk (le 2 (pageGen (pageWrite page data s) page)) (pageWrite page data s)) :=
  brixo_of_answer htaken (by simp [hgate, Nat.not_lt.mpr hlow, Nat.not_lt.mpr hhigh])

theorem execConLbConfig_next {a b : Nat} (htaken : Taken 0x0905 r s) (hgate : conGate s = false) (ha : a ≠ 0) (hb : b ≠ 0) :
    ∃ t, execConLbConfig r 1 a b true s = .next (reply r 0x0905 stOk (le 1 1 ++ le 1 (param s 0x0904)) t) ∧
      t.con.config = ⟨1, a, b, param s 0x0904⟩ :=
  ⟨setCon (fun x => { x with config := ⟨1, a, b, param s 0x0904⟩ }) s,
    brixo_of_answer htaken (by simp [hgate, ha, hb]), rfl⟩

end Reader

/-- Pages written leave the snapshot and the hold-up alone. -/
theorem foldl_pageWrite_kept (f : Nat → List Byte) (l : List Nat) (s : State) :
    (l.foldl (fun s p => pageWrite p (f p) s) s).snap = s.snap ∧
      (l.foldl (fun s p => pageWrite p (f p) s) s).hold = s.hold := by
  induction l generalizing s with
  | nil => exact ⟨rfl, rfl⟩
  | cons p l ih => exact ih (pageWrite p (f p) s)

theorem lbEvent_hold (event page : Nat) (s : State) : (lbEvent event page s).hold = s.hold :=
  kept_hold (by simp (disch := decide))

theorem execLetterboxSummaryWrite_next {s : State} {n : Nat} (hd3 : s.dom.d3 = true) (hpublished : s.snap.published = true)
    (hcalled : summaryCalled s = true) (hall : 6 ≤ n) : ∃ t, execLetterboxSummaryWrite n s = .next t ∧
      t.con.summaryEpoch = s.snap.epoch ∧ t.con.summaryUnclean = false ∧
      (s.hold.stage = .letterbox → t.hold.stage = .display) := by
  refine exists_next_of_whenever (by simp [hd3, hpublished, hcalled]) fun t ht => ?_
  extract_lets all written noted hold staged at ht
  obtain ⟨hsnap, hhold⟩ := foldl_pageWrite_kept (fun p => (all.drop (240 * p)).take 240) (List.range (min n 6)) s
  have hcon : staged.con = noted.con := by
    dsimp only [staged]
    split <;> rfl
  rw [ht, if_pos hall, lbEvent_con, lbEvent_hold, hcon]
  refine ⟨congrArg (·.epoch) hsnap, rfl, fun hstage => ?_⟩
  have hnoted : noted.hold.stage = .letterbox := (congrArg Holdup.stage hhold).trans hstage
  dsimp only [staged]
  rw [if_pos (by rw [hnoted]; rfl)]

/-! A request over the tag (R423). -/

theorem pageWrite_baseline (p : Nat) (data : List Byte) (s : State) :
    (pageWrite p data s).con.baseline = s.con.baseline := rfl

/-- A reply on the tag changes its pages alone of the reader's block. -/
theorem baseline_leave (snd : Sender) (packet : List Byte) (c q : Nat) (s : State) :
    (leave snd packet c q s).con.baseline = s.con.baseline := by
  unfold leave
  split
  · rw [lbReply, lbEvent_con]
    rfl
  · split
    next a _ =>
      have hsent : (fabricSend 1 1 a packet s).con = s.con := kept_con (by simp (disch := decide))
      rw [hsent]
    · rfl
  · rfl

theorem baseline_extraReply (snd : Sender) (c q op : Nat) (payload : List Byte) (again : Bool) (s : State) :
    (extraReply snd c q op payload again s).con.baseline = s.con.baseline := by
  unfold extraReply
  split
  · rfl
  · rw [baseline_leave]
    rfl

theorem baseline_reply (r : Req) (code st : Nat) (body : List Byte) (s : State) :
    (reply r code st body s).con.baseline = s.con.baseline := by
  unfold reply sendReply
  split
  · rfl
  · rw [baseline_leave]

theorem baseline_takeRequestPkt (snd : Sender) (c q op : Nat) (payload : List Byte) (s : State) :
    (takeRequestPkt snd c q op payload s).con.baseline = s.con.baseline := by
  unfold takeRequestPkt
  split
  · extract_lets accepted r
    split
    · rw [baseline_reply]
      rfl
    · rfl
  · rfl
  · exact baseline_extraReply _ _ _ _ _ _ _
  · exact baseline_extraReply _ _ _ _ _ _ _
  · exact baseline_extraReply _ _ _ _ _ _ _

theorem execLbBrixoRequest_next {s : State} (hserving : serving s = true)
    (hnewer : serialNewer 16 (pageGen s 14) s.con.baseline = true) : ∃ t, execLbBrixoRequest s = .next t ∧
      t.con.baseline = pageGen s 14 := by
  refine exists_next_of_whenever (by rw [hserving, hnewer]; rfl) fun t ht => ?_
  extract_lets based b p payload at ht
  rw [ht]
  split
  · rfl
  · split
    · exact baseline_extraReply _ _ _ _ _ _ _
    · split
      · exact baseline_extraReply _ _ _ _ _ _ _
      · exact baseline_takeRequestPkt _ _ _ _ _ _

/-- Settles O30: each command of the card reader and of the Letterbox's wired side answers its reply and its next state. -/
theorem readerCommandsComplete : Obligations.ReaderCommandsComplete := by
  unfold Obligations.ReaderCommandsComplete
  refine ⟨?_, ?_, ?_, ?_, ?_, ?_, ?_, ?_, ?_, ?_⟩
  · exact fun _ cards => execPollCycle_next cards
  · exact fun _ _ => execLowPowerDetectPulse_next
  · exact fun _ _ => execConStatus_letterbox_next
  · exact fun _ _ iAnt phase => execConTune_next iAnt phase
  · exact fun _ _ _ => execConListLoad_next
  · exact fun _ _ _ => execConLbRead_next
  · exact fun _ _ _ data => execConLbWrite_next data
  · exact fun _ _ _ _ => execConLbConfig_next
  · exact fun _ _ => execLetterboxSummaryWrite_next
  · exact fun _ => execLbBrixoRequest_next

/-! The field side (R416, R417, R419, R422). -/

/-- A command that reaches the tag has its effect. -/
theorem next_of_reached {dest : Nat} {s t : State} {f : State → State} (hreached : reaches s dest = true) (hf : f s = t) :
    fieldCmd dest s f = .next t := by
  rw [fieldCmd, if_pos hreached, hf]

section Field

variable {s : State} {dest block : Nat}

theorem execInventory_next {n mask : Nat} (hawake : s.con.rf ≠ 1) (hmask : s.con.uid % 2 ^ n = mask) : ∃ t b,
    execInventory n mask s = .next t ∧ t.con.answer = .ok (b :: le 8 s.con.uid) ∧ t.con.rf = s.con.rf ∧
      t.con.field = true := by
  refine ⟨rfAnswer (.ok (Config.freeByte s.clk.free :: le 8 s.con.uid)) (takeFree s).2, Config.freeByte s.clk.free, ?_,
    rfl, rfl, rfl⟩
  rw [execInventory, if_pos ⟨hawake, hmask⟩]
  rfl

theorem execResetToReady_next (hreached : reaches s (if dest = 0 then 1 else dest) = true) :
    execResetToReady dest s = .next (rfAnswer (.ok []) (setCon (fun x => { x with rf := 0 }) s)) :=
  next_of_reached hreached rfl

theorem readBlocks_of_readable {first n : Nat} (hsome : n ≠ 0) (hend : first + n ≤ 960)
    (hopen : ((List.range n).any fun k => !fieldReads s ((first + k) / 60)) = false) :
    readBlocks first n s = rfAnswer (.ok ((List.range n).flatMap fun k => blockData s (first + k))) s := by
  have hblocks : ¬ (960 < first + n ∨ n = 0) := by omega
  rw [readBlocks, if_neg hblocks, hopen, if_neg (by decide)]

theorem execReadSingleBlock_next (hreached : reaches s dest = true) (hblock : block < 960)
    (hopen : fieldReads s (block / 60) = true) :
    execReadSingleBlock dest block s = .next (rfAnswer (.ok (blockData s block)) s) := by
  refine next_of_reached hreached ?_
  rw [readBlocks_of_readable (by decide) hblock (by simp [hopen])]
  simp

theorem execReadMultipleBlocks_next {n : Nat} (hreached : reaches s dest = true) (hsome : n ≠ 0) (hend : block + n ≤ 960)
    (hopen : ((List.range n).any fun k => !fieldReads s ((block + k) / 60)) = false) :
    execReadMultipleBlocks dest block n s =
      .next (rfAnswer (.ok ((List.range n).flatMap fun k => blockData s (block + k))) s) :=
  next_of_reached hreached (readBlocks_of_readable hsome hend hopen)

/-- A whole write within one page that the field may write (R422). -/
theorem writeBlocks_of_writable {data : List Byte} (hsome : data.length / 4 ≠ 0)
    (hpage : block / 60 = (block + data.length / 4 - 1) / 60)
    (hplain : ¬ (data.length / 4 = 1 ∧ (block = 957 ∨ block = 958))) (hopen : fieldWrites s (block / 60) = true) :
    writeBlocks block data 0 s = rfAnswer (.ok []) (lbEvent 1 (block / 60) (pageWrite (block / 60)
      ((pageData s (block / 60)).take (4 * (block % 60)) ++ data.take (4 * (data.length / 4)) ++
        (pageData s (block / 60)).drop (4 * (block % 60) + 4 * (data.length / 4))) s)) := by
  have hgate : ¬ (data.length / 4 = 0 ∨ block / 60 ≠ (block + data.length / 4 - 1) / 60 ∨
      (!fieldWrites s (block / 60)) = true) := by
    simp [hsome, ← hpage, hopen]
  unfold writeBlocks
  extract_lets n p o old written
  rw [if_neg hplain, if_neg hgate, if_neg (by decide), if_neg (by decide), if_neg (by decide), if_neg (by decide)]

theorem execWriteSingleBlock_next (data : List Byte) (hreached : reaches s dest = true) (hread : block ≠ 957)
    (hwrite : block ≠ 958) (hopen : fieldWrites s (block / 60) = true) : execWriteSingleBlock dest block data 0 s =
      .next (rfAnswer (.ok []) (lbEvent 1 (block / 60) (pageWrite (block / 60)
        ((pageData s (block / 60)).take (4 * (block % 60)) ++ padTo 4 data ++
          (pageData s (block / 60)).drop (4 * (block % 60) + 4)) s))) := by
  have hlength : (padTo 4 data).length = 4 := by simp [padTo, zeros]
  have hwhole : (padTo 4 data).take 4 = padTo 4 data := by rw [List.take_of_length_le hlength.le]
  refine next_of_reached hreached ?_
  rw [writeBlocks_of_writable (by simp [hlength]) (by simp [hlength]) (by simp [hread, hwrite]) hopen, hlength]
  simp only [Nat.reduceDiv, Nat.mul_one, hwhole]

theorem execWriteMultipleBlocks_next {data : List Byte} (hreached : reaches s dest = true) (hsome : 2 ≤ data.length / 4)
    (hpage : block / 60 = (block + data.length / 4 - 1) / 60) (hopen : fieldWrites s (block / 60) = true) :
    execWriteMultipleBlocks dest block data 0 s = .next (rfAnswer (.ok [])
      (lbEvent 1 (block / 60) (pageWrite (block / 60) ((pageData s (block / 60)).take (4 * (block % 60)) ++
        data.take (4 * (data.length / 4)) ++
        (pageData s (block / 60)).drop (4 * (block % 60) + 4 * (data.length / 4))) s))) :=
  next_of_reached hreached (writeBlocks_of_writable (by omega) hpage (by omega) hopen)

end Field

/-- Settles O31: each field command that reaches the tag has its response and its next state. The forms of INVENTORY and of the
system information, and the quiet and selected states, are presumed (log entry 44). -/
theorem letterboxFieldCommandsComplete : Obligations.LetterboxFieldCommandsComplete := by
  unfold Obligations.LetterboxFieldCommandsComplete
  refine ⟨?_, ?_, ?_, ?_, ?_, ?_, ?_, ?_, ?_, ?_, ?_⟩
  · exact fun _ _ _ => execInventory_next
  · exact fun _ => rfl
  · exact fun _ => rfl
  · exact fun _ _ => execResetToReady_next
  · exact fun _ _ hreached => next_of_reached hreached rfl
  · exact fun _ _ _ => execReadSingleBlock_next
  · exact fun _ _ _ _ => execReadMultipleBlocks_next
  · exact fun _ _ _ data => execWriteSingleBlock_next data
  · exact fun _ _ _ _ => execWriteMultipleBlocks_next
  · exact fun _ _ hreached => next_of_reached hreached rfl
  · exact fun _ => rfl

end Sys2Proof.ReaderLetterbox

/-! The window display (18): which reply and next state each command and each event of the drive answers. -/

namespace Sys2Proof.WindowDisplay

open Sys2Proof Sys2Proof.Machine Sys2Proof.Safety Sys2Proof.Laws Sys2Proof.Frames Sys2Proof.ModesPower
  Sys2Proof.KilnEnginePool

/-! What the shared operations leave of the display's block. -/

theorem dispDone_disp (result gen band frames mode start : Nat) (s : State) :
    (dispDone result gen band frames mode start s).disp = s.disp := kept_disp (by simp (disch := decide))

theorem wakeSeen_disp (n : Nat) (s : State) : (wakeSeen n s).disp = s.disp := kept_disp (by simp (disch := decide))

/-- A dropped update gives back its image slot at most. -/
theorem dropReq_waiting (result : Nat) (q : DispReq) (s : State) : (dropReq result q s).disp.waiting = s.disp.waiting := by
  unfold dropReq
  extract_lets freed
  rw [dispDone_disp]
  dsimp only [freed]
  split <;> rfl

theorem dropReq_clk (result : Nat) (q : DispReq) (s : State) : (dropReq result q s).clk = s.clk :=
  kept_clk (by simp (disch := decide))

/-- The generation last accepted and the recovery still to run. -/
def queued (d : Display) : Nat × Nat := (d.gen, d.recovery)

theorem queued_tryWaiting (s : State) : queued (tryWaiting s).disp = queued s.disp := by
  unfold tryWaiting
  split
  · split
    · extract_lets band n
      split <;> rfl
    · rfl
  · rfl

theorem queued_startRecovery (tab : WaveTable) (s : State) : queued (startRecovery tab s).disp = queued s.disp := by
  unfold startRecovery
  dsimp only
  split <;> rfl

/-- What starts next leaves the generation and the recovery (R441). -/
theorem queued_driveNext (s : State) : queued (driveNext s).disp = queued s.disp := by
  unfold driveNext
  split
  · rfl
  · split
    · exact queued_tryWaiting s
    · exact queued_startRecovery _ s
    · rfl

/-! Commands (R432, R433, R444, R445). -/

section Commands

variable {s : State} {r : Req}

theorem execDispStatus_next (htaken : Taken 0x0A00 r s) : ∃ body, execDispStatus r s = .next (reply r 0x0A00 stOk body s) ∧
    body.take 6 = le 1 (dispState s) ++ le 1 (b2n (s.disp.waiting.isSome || s.disp.copying.isSome)) ++ le 2 s.disp.gen ++
      le 2 s.disp.shownGen := by
  refine ⟨_, brixo_of_answer htaken rfl, ?_⟩
  simp [List.take_append, List.take_of_length_le]

theorem execDispImageWrite_next {offset len : Nat} (data : List Byte) (htaken : Taken 0x0A01 r s) (hsome : len ≠ 0)
    (hfew : len ≤ 4088) (hfits : offset + len ≤ imageBytes s) (hidle : s.disp.copying = none) : ∃ t,
      execDispImageWrite r offset len data s = .next (reply r 0x0A01 stOk [] t) ∧ t.disp.staging =
        (padTo (imageBytes s) s.disp.staging).take offset ++ padTo len data ++
          (padTo (imageBytes s) s.disp.staging).drop (offset + len) := by
  refine ⟨setDisp (fun x => { x with staging := (padTo (imageBytes s) s.disp.staging).take offset ++ padTo len data ++
    (padTo (imageBytes s) s.disp.staging).drop (offset + len) }) s, brixo_of_answer htaken ?_, rfl⟩
  simp only [decide_eq_false hsome, decide_eq_false (Nat.not_lt.mpr hfew), decide_eq_false (Nat.not_lt.mpr hfits), hidle,
    Option.isSome_none, Bool.or_self, Bool.false_eq_true, if_false]

theorem execDispUpdate_next {mode x y w h crc : Nat} {tab : WaveTable} {band : Nat} (htaken : Taken 0x0A02 r s)
    (hserving : dispMode s = true) (hmode : mode ≠ 0) (hmodes : mode ≤ 3) (hw : w ≠ 0) (hh : h ≠ 0)
    (hx : x + w ≤ panelW s) (hy : y + h ≤ panelH s) (hcrc : crc32c (padTo (imageBytes s) s.disp.staging) = crc)
    (htab : s.disp.table = some tab) (hband : bandOf tab (dispTemp s) = some band)
    (hfits : fits s (framesOf s tab band mode ⟨x, y, w, h⟩) = true) (hwaiting : s.disp.waiting = none)
    (hcopying : s.disp.copying = none) : ∃ t, execDispUpdate r mode x y w h crc s =
      .next (reply r 0x0A02 stAccepted (dispBody ((s.disp.gen + 1) % 65536) (framesOf s tab band mode ⟨x, y, w, h⟩)
        (setDisp (fun d => { d with
          gen := (s.disp.gen + 1) % 65536,
          copying := some ⟨(s.disp.gen + 1) % 65536, mode, ⟨x, y, w, h⟩, framesOf s tab band mode ⟨x, y, w, h⟩, none, crc, none,
            0⟩ }) s)) t) ∧ t.disp.gen = (s.disp.gen + 1) % 65536 ∧ t.disp.copying.isSome = true := by
  refine ⟨wakeSeen 2 (setDisp (fun d => { d with
    gen := (s.disp.gen + 1) % 65536,
    copying := some ⟨(s.disp.gen + 1) % 65536, mode, ⟨x, y, w, h⟩, framesOf s tab band mode ⟨x, y, w, h⟩, none, crc, none,
      0⟩ }) s), brixo_of_answer htaken ?_, ?_, ?_⟩
  · simp only [hserving, hcrc, htab, hband, hfits, hwaiting, hcopying, decide_eq_false hmode,
      decide_eq_false (Nat.not_lt.mpr hmodes), decide_eq_false hw, decide_eq_false hh, decide_eq_false (Nat.not_lt.mpr hx),
      decide_eq_false (Nat.not_lt.mpr hy), Bool.or_self, Bool.not_true, ne_eq, not_true_eq_false, Bool.false_eq_true, if_false]
  · rw [wakeSeen_disp]
    rfl
  · rw [wakeSeen_disp]
    rfl

theorem execDispClean_next {tab : WaveTable} (htaken : Taken 0x0A03 r s) (hserving : dispMode s = true)
    (htab : s.disp.table = some tab) : ∃ t body, execDispClean r s = .next (reply r 0x0A03 stAccepted body t) ∧
      t.disp.gen = (s.disp.gen + 1) % 65536 ∧ t.disp.recovery = 4 := by
  refine ⟨driveNext (setDisp (fun d => { d with gen := (s.disp.gen + 1) % 65536, recovery := 4 }) s),
    dispBody ((s.disp.gen + 1) % 65536) (framesOf s tab (bandNear tab (dispTemp s)) 0 ⟨0, 0, panelW s, panelH s⟩) s,
    brixo_of_answer htaken ?_, ?_⟩
  · simp only [hserving, htab, Bool.not_true, Bool.false_eq_true, if_false]
  · exact Prod.mk.inj (queued_driveNext _)

end Commands

/-! The drive (R431, R433, R437, R439, R441). -/

section Drives

variable {s : State}

theorem execImageCopyComplete_next {q : DispReq} {k : Nat} (hcopying : s.disp.copying = some q) (hfree : freeSlot s = some k)
    (hd3 : s.dom.d3 = true) (hholdup : inHoldup s = false) : execImageCopyComplete s =
      .next (tryWaiting (setDisp (fun d => { d with
        copying := none, waiting := some { q with slot := some k },
        slots := d.slots.set k (some (padTo (imageBytes s) d.staging)) }) s)) := by
  simp only [execImageCopyComplete, hcopying, hfree]
  exact next_of_whenever (by rw [hd3, hholdup]; rfl) rfl

theorem execDispRailsGood_next {d : Drive} (hdrive : s.disp.drive = some d) (hrising : d.rising = true)
    (hstep : ¬ (1 ≤ d.step ∧ d.step ≤ 3)) : ∃ t, execDispRailsGood s = .next t ∧
      (t.disp.drive.map (·.rising)) = some false ∧ t.disp.dirty.state = 1 ∧ t.disp.dirty.frameDone = 0 ∧
      t.disp.dirty.nTotal = d.req.frames ∧ t.disp.dirty.gen = d.req.gen := by
  unfold execDispRailsGood
  rw [hdrive]
  refine exists_next_of_whenever hrising fun t ht => ?_
  extract_lets good at ht
  rw [ht, openDirty, if_neg hstep]
  exact ⟨rfl, rfl, rfl, rfl, rfl⟩

theorem execDispRailsGood_recovery_next {d : Drive} (hdrive : s.disp.drive = some d) (hrising : d.rising = true)
    (hlow : 1 ≤ d.step) (hhigh : d.step ≤ 3) : ∃ t, execDispRailsGood s = .next t ∧
      (t.disp.drive.map (·.rising)) = some false ∧
      t.disp.dirty = { s.disp.dirty with frameDone := 0, nTotal := d.req.frames } := by
  unfold execDispRailsGood
  rw [hdrive]
  refine exists_next_of_whenever hrising fun t ht => ?_
  extract_lets good at ht
  rw [ht, openDirty, if_pos ⟨hlow, hhigh⟩]
  exact ⟨rfl, rfl⟩

theorem execDispFrameEnd_next {d : Drive} (hdrive : s.disp.drive = some d) (hrising : d.rising = false)
    (hruns : s.disp.paused = false) (hleft : s.disp.dirty.frameDone + 1 < s.disp.dirty.nTotal) : ∃ t,
      execDispFrameEnd s = .next t ∧ t.disp.dirty.frameDone = s.disp.dirty.frameDone + 1 ∧ t.disp.drive = some d := by
  unfold execDispFrameEnd
  rw [hdrive]
  refine exists_next_of_whenever (by rw [hrising, hruns]; rfl) fun t ht => ?_
  extract_lets n ended counted at ht
  rw [ht, if_neg (by exact Nat.not_le.mpr hleft)]
  exact ⟨rfl, hdrive⟩

/-- The end of a drive's last frame: no drive, and the rails fall 10 ms later (R431). -/
def drivenDown (d : Display) : Option Drive × Option Tick := (d.drive, d.railsDown)

theorem drivenDown_finishDrive (d : Drive) (s : State) :
    drivenDown (finishDrive d s).disp = (none, some (s.clk.now + Tick.ms 10)) := by
  unfold finishDrive
  extract_lets ps rec_ stress driven clean drawn redrawn old shown
  have hdrawn : drivenDown drawn.disp = (none, some (s.clk.now + Tick.ms 10)) := by
    dsimp only [drawn]
    split <;> rfl
  have hredrawn : drivenDown redrawn.disp = (none, some (s.clk.now + Tick.ms 10)) := by
    dsimp only [redrawn]
    split <;> exact hdrawn
  split
  · split
    · rw [dispDone_disp]
      exact hredrawn
    · exact hredrawn
  · split
    · rw [dispDone_disp]
      exact hdrawn
    · exact hdrawn

theorem execDispFrameEnd_last_next {d : Drive} (hdrive : s.disp.drive = some d) (hrising : d.rising = false)
    (hruns : s.disp.paused = false) (hlast : s.disp.dirty.nTotal ≤ s.disp.dirty.frameDone + 1) : ∃ t,
      execDispFrameEnd s = .next t ∧ t.disp.drive = none ∧
      t.disp.railsDown = some (max s.clk.now (s.disp.frameAt + frameTime s) + Tick.ms 10) := by
  unfold execDispFrameEnd
  rw [hdrive]
  refine exists_next_of_whenever (by rw [hrising, hruns]; rfl) fun t ht => ?_
  extract_lets n ended counted at ht
  rw [ht, if_pos (by exact hlast)]
  exact Prod.mk.inj (drivenDown_finishDrive d counted)

theorem execDispRailsDown_next {at0 : Tick} (hdown : s.disp.railsDown = some at0) : execDispRailsDown s =
    .next (driveNext (setDisp (fun x => { x with railsUp := false, railsDown := none }) (advanceTo at0 s))) := by
  rw [execDispRailsDown, hdown]

theorem execDispRailFault_next {d : Drive} (hup : s.disp.railsUp = true) (hdrive : s.disp.drive = some d) : ∃ t,
    execDispRailFault s = .next t ∧ t.disp.railsUp = false ∧ t.disp.drive = none ∧ t.disp.dirty.state = 3 ∧
      t.disp.recovery = 0 := by
  refine exists_next_of_whenever hup fun t ht => ?_
  simp -zeta only [hdrive] at ht
  extract_lets was cut fallen at ht
  have ht' : t.disp = fallen.disp := by
    rw [ht]
    dsimp only [was]
    split
    · rfl
    · exact dispDone_disp _ _ _ _ _ _ _
  rw [ht']
  exact ⟨rfl, rfl, rfl, rfl⟩

theorem execWaitingUpdateCheck_next {q : DispReq} (hwaiting : s.disp.waiting = some q)
    (hdue : ∀ at0, q.failedAt = some at0 → q.checked < s.clk.epoch) : execWaitingUpdateCheck s = .next (tryWaiting s) := by
  unfold execWaitingUpdateCheck
  rw [hwaiting]
  refine next_of_whenever ?_ rfl
  cases hfailed : q.failedAt with
  | none => rfl
  | some at0 => simp [hdue at0 hfailed]

theorem execWaitingUpdateTimeout_next {q : DispReq} {at0 : Tick} (hwaiting : s.disp.waiting = some q)
    (hfailed : q.failedAt = some at0) : ∃ t, execWaitingUpdateTimeout s = .next t ∧ t.disp.waiting = none ∧
      t.clk.now = max s.clk.now (at0 + Tick.s 10) := by
  simp only [execWaitingUpdateTimeout, hwaiting, hfailed]
  refine ⟨_, rfl, ?_⟩
  rw [dropReq_waiting, dropReq_clk]
  exact ⟨rfl, rfl⟩

theorem execTransomRefresh_next {tab : WaveTable} (htab : s.disp.table = some tab) (hstart : s.disp.transomAt = none)
    (hd3 : s.dom.d3 = true) (hholdup : inHoldup s = false) (hfree : driveFree s = true) (hrecovery : s.disp.recovery = 0)
    (hfits : fits s (framesOf s tab (bandNear tab (dispTemp s)) 2 (transomRect s)) = true) : ∃ t,
      execTransomRefresh s = .next t ∧ t.disp.drawing = transomRows s ∧
      (t.disp.drive.map fun d => (d.kind, d.rising)) = some (.transom, true) := by
  unfold execTransomRefresh
  simp only [htab, hstart]
  exact exists_next_of_whenever (by simp [hd3, hholdup, hfree, hrecovery, hfits]) fun t ht => by rw [ht]; exact ⟨rfl, rfl⟩

end Drives

/-- Settles O32: each command of the display and each event of its drive answers its next state. What a recovery keeps of the dirty
record, and that an accepted update is always reported as such, are the model's choices (log entry 45); the instant clk.now is the
model's own (log entry 3). -/
theorem displayCommandsComplete : Obligations.DisplayCommandsComplete := by
  unfold Obligations.DisplayCommandsComplete
  refine ⟨?_, ?_, ?_, ?_, ?_, ?_, ?_, ?_, ?_, ?_, ?_, ?_, ?_, ?_⟩
  · exact fun _ _ => execDispStatus_next
  · exact fun _ _ _ _ data => execDispImageWrite_next data
  · exact fun _ _ _ _ _ _ _ _ _ _ => execDispUpdate_next
  · exact fun _ _ _ => execDispClean_next
  · exact fun _ _ _ => execImageCopyComplete_next
  · exact fun _ _ => execDispRailsGood_next
  · exact fun _ _ => execDispRailsGood_recovery_next
  · exact fun _ _ => execDispFrameEnd_next
  · exact fun _ _ => execDispFrameEnd_last_next
  · exact fun _ _ => execDispRailsDown_next
  · exact fun _ _ => execDispRailFault_next
  · exact fun _ _ => execWaitingUpdateCheck_next
  · exact fun _ _ _ => execWaitingUpdateTimeout_next
  · exact fun _ _ => execTransomRefresh_next

end Sys2Proof.WindowDisplay

/-! The mains carrier (19): which next state each window, each frame, each timer and each command of the modem answers. What the
fabric leaves of the modem is said once, in the first part. -/

namespace Sys2Proof.MainsCarrier

open Sys2Proof Sys2Proof.Machine Sys2Proof.Safety Sys2Proof.Laws Sys2Proof.Frames Sys2Proof.ModesPower
  Sys2Proof.KilnEnginePool

/-! The fabric sends over the modem's queue alone (R452, R461). -/

/-- The modem with its queue set aside. -/
def modem (c : Carrier) : Carrier := { c with queue := [] }

theorem modem_of_mc {s t : State} (hmc : t.mc = s.mc) : modem t.mc = modem s.mc := by rw [hmc]

theorem modem_foldl {α : Type} {f : State → α → State} (hf : ∀ s a, modem (f s a).mc = modem s.mc) (l : List α) (s : State) :
    modem (l.foldl f s).mc = modem s.mc := by
  induction l generalizing s with
  | nil => rfl
  | cons a l ih => rw [List.foldl_cons, ih, hf]

theorem modem_emit (n : Neighbour) (p : FabricPacket) (s : State) : modem (emit n p s).mc = modem s.mc := by
  unfold emit
  extract_lets id q leaves placed kept
  split <;> rfl

theorem modem_pumpLink (k link id : Nat) (s : State) : modem (pumpLink k link id s).mc = modem s.mc := by
  induction k generalizing s with
  | zero => rfl
  | succ k ih =>
    unfold pumpLink
    split
    · rfl
    · split
      · rfl
      · rw [ih, modem_emit]
        rfl

theorem modem_transmit (n : Neighbour) (p : FabricPacket) (s : State) : modem (transmit n p s).mc = modem s.mc :=
  modem_pumpLink _ _ _ _

theorem modem_acknowledge (link id : Nat) (keep : Nat × FabricPacket → Bool) (s : State) :
    modem (acknowledge link id keep s).mc = modem s.mc :=
  modem_pumpLink _ _ _ _

theorem modem_toParent (p : FabricPacket) (s : State) : modem (toParent p s).mc = modem s.mc := by
  unfold toParent
  split
  · exact modem_transmit _ p s
  · rfl

theorem modem_routePacket (came : Option (Nat × Nat)) (p : FabricPacket) (s : State) :
    modem (routePacket came p s).mc = modem s.mc := by
  unfold routePacket
  split
  · rfl
  · extract_lets hop kids
    split
    · split
      · exact modem_toParent hop s
      · exact modem_foldl (fun _ _ => modem_transmit _ _ _) kids s
    · split
      · exact modem_transmit _ _ s
      · split
        · rfl
        · exact modem_toParent hop s

theorem modem_fabricSend (type prio dst : Nat) (payload : List Byte) (s : State) :
    modem (fabricSend type prio dst payload s).mc = modem s.mc := by
  unfold fabricSend
  split
  · rfl
  · extract_lets p parts m numbered
    split
    · exact modem_routePacket none p s
    · exact modem_foldl (fun _ _ => modem_routePacket _ _ _) parts.zipIdx numbered

theorem modem_sendRoute (s : State) : modem (sendRoute s).mc = modem s.mc := by
  unfold sendRoute
  split
  · rfl
  · exact modem_transmit _ _ s

theorem linEvent_mc (event link peer : Nat) (s : State) : (linEvent event link peer s).mc = s.mc :=
  kept_mc (by simp (disch := decide))

theorem modem_rebuildTree (lost : Bool) (s : State) : modem (rebuildTree lost s).mc = modem s.mc := by
  unfold rebuildTree
  extract_lets oldRoot oldParent root rooted told
  have hrooted : rooted.mc = s.mc := by
    dsimp only [rooted]
    split
    · rfl
    · split <;> rfl
  have htold : told.mc = s.mc := by
    dsimp only [told]
    split
    · exact hrooted
    · exact (linEvent_mc _ _ _ rooted).trans hrooted
  split
  · exact modem_of_mc htold
  · split
    · rw [modem_sendRoute, linEvent_mc, htold]
    · rw [linEvent_mc, htold]

theorem diagTrigger_mc (n subject : Nat) (s : State) : (diagTrigger n subject s).mc = s.mc :=
  kept_mc (by simp (disch := decide))

theorem modem_dropNeighbour (link id : Nat) (s : State) : modem (dropNeighbour link id s).mc = modem s.mc := by
  unfold dropNeighbour
  extract_lets child t
  have ht : modem t.mc = modem s.mc := by
    dsimp only [t]
    rw [modem_rebuildTree, diagTrigger_mc]
    rfl
  split
  · rw [modem_sendRoute, ht]
  · exact ht

theorem modem_conflictCheck (link : Nat) (h : HelloBlock) (s : State) : modem (conflictCheck link h s).mc = modem s.mc := by
  unfold conflictCheck
  split
  · extract_lets first had noted told
    have htold : modem told.mc = modem s.mc := by
      dsimp only [told]
      split
      · rfl
      · exact modem_sendRoute noted
    split
    · rw [linEvent_mc]
      exact htold
    · exact htold
  · rfl

theorem modem_offerTo (dst : Nat) (s : State) : modem (offerTo dst s).mc = modem s.mc := by
  unfold offerTo
  split
  · split
    · exact modem_fabricSend _ _ _ _ _
    · rfl
  · rfl

theorem putHello_mc (link : Nat) (h : HelloBlock) (s : State) : (putHello link h s).mc = s.mc := by
  unfold putHello
  split <;> rfl

theorem modem_takeHello (link : Nat) (h : HelloBlock) (s : State) : modem (takeHello link h s).mc = modem s.mc := by
  unfold takeHello
  split
  · rfl
  · extract_lets seen fresh put offered told
    have hput : modem put.mc = modem s.mc := by
      dsimp only [put]
      rw [putHello_mc, modem_conflictCheck]
    have hoffered : modem offered.mc = modem s.mc := by
      dsimp only [offered]
      split
      · exact (modem_offerTo _ put).trans hput
      · exact hput
    have htold : modem told.mc = modem s.mc := by
      dsimp only [told]
      split
      · rw [linEvent_mc]
        exact hoffered
      · exact hoffered
    rw [modem_rebuildTree, htold]

/-! Windows (R449, R452). -/

/-- What a zero crossing notes (R449, R455). -/
def crossings (c : Carrier) : Option Tick × Option Tick := (c.lastZc, c.lastRising)

theorem crossings_of_modem {x y : Carrier} (h : modem x = modem y) : crossings x = crossings y :=
  (congrArg crossings h :)

/-- A released frame leaves the modem without one; of the rest only the queue may grow (R469). -/
theorem modem_mcRelease (f : McFrame) (s : State) :
    modem (mcRelease f s).mc = modem { s.mc with current := none, symbols := 0, awaiting := false } := by
  unfold mcRelease
  extract_lets released
  split
  · split
    · exact modem_acknowledge _ _ _ released
    · rfl
  · rfl

theorem crossings_endExchange (f : McFrame) (s : State) : crossings (endExchange f s).mc = crossings s.mc := by
  have hreleased : crossings (mcRelease f s).mc = crossings s.mc := (crossings_of_modem (modem_mcRelease f s) :)
  unfold endExchange
  extract_lets released q
  split <;> exact hreleased

theorem crossings_burstSent (s : State) : crossings (burstSent s).mc = crossings s.mc := rfl

theorem crossings_ackWindow (s : State) : crossings (ackWindow s).mc = crossings s.mc := by
  unfold ackWindow
  extract_lets n fits left wins sent
  change crossings sent.mc = crossings s.mc
  dsimp only [sent]
  split <;> rfl

theorem crossings_roundWindow (f : McFrame) (s : State) : crossings (roundWindow f s).mc = crossings s.mc := by
  unfold roundWindow
  extract_lets n sent counted
  have hcounted : crossings counted.mc = crossings s.mc := by
    dsimp only [counted]
    split <;> rfl
  split
  · rfl
  · split
    · exact hcounted
    · split
      · exact (crossings_endExchange f counted).trans hcounted
      · exact hcounted

theorem crossings_idleWindow (preamble : Bool) (s : State) : crossings (idleWindow preamble s).mc = crossings s.mc := by
  unfold idleWindow
  extract_lets quiet marked
  split
  · rfl
  · split <;> rfl

theorem execSupplyZeroCrossing_next {s : State} (rising preamble : Bool) (hserving : serving s = true)
    (hholdup : inHoldup s = false) : ∃ t, execSupplyZeroCrossing rising preamble s = .next t ∧
      t.mc.lastZc = some s.clk.now ∧ (rising = true → t.mc.lastRising = some s.clk.now) := by
  refine exists_next_of_whenever (by rw [hserving, hholdup]; rfl) fun t ht => ?_
  extract_lets now noted silent at ht
  have ht' : crossings t.mc = crossings noted.mc := by
    rw [ht]
    split
    · split
      · exact (crossings_of_modem (modem_mcRelease _ silent) :)
      · rfl
    · split
      · exact crossings_ackWindow noted
      · split
        · rfl
        · split
          · split
            · rfl
            · exact crossings_roundWindow _ noted
          · exact crossings_idleWindow preamble noted
  obtain ⟨hzc, hrising⟩ := Prod.mk.inj ht'
  exact ⟨hzc, fun hup => by rw [hrising]; exact if_pos hup⟩

theorem execMcFrameBegin_next {s : State} {f : McFrame} (hnext : nextFrame s = some f) (htx : mcTx s = true)
    (hidle : s.mc.current = none) (hack : s.mc.ackDue = none) (hquiet : s.mc.quiet = 2) (hbackoff : s.mc.backoff = some 0)
    (hreserved : s.mc.reserved = 0) : ∃ t, execMcFrameBegin s = .next t ∧ t.mc.current = some f ∧
      t.mc.queue = s.mc.queue.erase f ∧ t.mc.backoff = none ∧ t.mc.quiet = 0 ∧ t.mc.awaiting = false := by
  unfold execMcFrameBegin
  rw [hnext]
  exact exists_next_of_whenever (by simp [htx, hidle, hack, hquiet, hbackoff, hreserved]) fun t ht => by
    rw [ht]
    exact ⟨rfl, rfl, rfl, rfl, rfl⟩

/-! Frames received (R451–R456). -/

theorem mcEventOf_mc (event : Nat) (n : McNeighbour) (s : State) : (mcEventOf event n s).mc = s.mc :=
  kept_mc (by simp (disch := decide))

theorem mcEvent_mc (event short : Nat) (s : State) : (mcEvent event short s).mc = s.mc := kept_mc (by simp (disch := decide))

/-- The own short address as the fabric block and the parameters give it. -/
theorem ownShort_heardFrame (short : Nat) (z : Bool) (c : Tick) (s : State) : ownShort (heardFrame short z c s) = ownShort s := by
  have hlin : (heardFrame short z c s).lin = s.lin := kept_lin (by simp (disch := decide))
  have hpar : (heardFrame short z c s).par = s.par := kept_par (by simp (disch := decide))
  have haddr : ownAddr (heardFrame short z c s) = ownAddr s := by
    rw [ownAddr, hlin, ShutterSafety.param_of_par hpar, ownAddr]
  rw [ownShort, haddr, ownShort]

/-- The modem receives in none of its modes in WATCH (R457). -/
theorem mode_ne_watch {s : State} (hrx : mcRx s = true) : s.mode.mode ≠ .watch := by
  intro hwatch
  rw [mcRx, mcMode, hwatch] at hrx
  simp at hrx

/-- While the modem runs a frame is received whole. -/
theorem next_of_received {s : State} {dst : Nat} {f : State → State} (hrx : mcRx s = true) :
    received dst s f = .next (f s) := by
  have hmode : ¬ (s.mode.mode == .watch) = true := by simpa using mode_ne_watch hrx
  rw [received, if_neg hmode]
  exact next_of_whenever hrx rfl

section Received

variable {s : State} {h : McHeader}

theorem execMcDataFrame_other_next (segs : List (Nat × List Byte)) (snr : Nat) (z : Bool) (c : Tick) (hrx : mcRx s = true)
    (hother : h.dst ≠ ownShort s) (hsingle : h.dst ≠ 0xFFFF) : ∃ t, execMcDataFrame h segs snr z c s = .next t ∧
      t.mc.reserved = 3 := by
  refine ⟨_, next_of_received hrx, ?_⟩
  dsimp only
  rw [ownShort_heardFrame, if_pos ⟨hother, hsingle⟩]
  rfl

theorem execMcDataFrame_own_next (segs : List (Nat × List Byte)) (snr : Nat) (z : Bool) (c : Tick) (hrx : mcRx s = true)
    (hown : h.dst = ownShort s) : execMcDataFrame h segs snr z c s =
      .next (mcCollect h segs snr (heardFrame h.src z c s)) := by
  rw [execMcDataFrame, next_of_received hrx]
  dsimp only
  rw [ownShort_heardFrame, if_neg fun hother => hother.1 hown]

theorem execMcAckFrame_next {f : McFrame} {bitmap : Nat} (snr : Nat) {z : Bool} {c : Tick} (hrx : mcRx s = true)
    (hcurrent : (heardFrame f.dst z c s).mc.current = some f) (hawaiting : (heardFrame f.dst z c s).mc.awaiting = true)
    (hlost : ((List.range (divCeil f.payload.length 32)).filter fun n => !bitN bitmap n) = [])
    (hmap : f.downgraded = false) : ∃ t,
      execMcAckFrame f.dst (ownShort s) f.seq bitmap snr z c s = .next t ∧ t.mc.current = none ∧ t.mc.awaiting = false ∧
      t.mc.k = 2 := by
  refine ⟨_, next_of_received hrx, ?_⟩
  simp only [hcurrent, hawaiting, ownShort_heardFrame, hlost, and_self, if_true, List.isEmpty_nil, endExchange, hmap,
    Bool.false_and, Bool.false_eq_true, if_false]
  exact ⟨(congrArg Carrier.current (modem_mcRelease f _) :), (congrArg Carrier.awaiting (modem_mcRelease f _) :),
    (congrArg Carrier.k (modem_mcRelease f _) :)⟩

theorem execToneMapRequest_next (snrs : List Nat) {z : Bool} {c : Tick} (hrx : mcRx s = true)
    (hown : h.dst = ownShort (heardFrame h.src z c s)) : ∃ t, execToneMapRequest h snrs z c s = .next t ∧
      t.mc.ackDue = some (h.src, h.seq, 0, divRoundN (sumN (snrs.take 30)) 30) := by
  refine ⟨_, next_of_received hrx, ?_⟩
  dsimp only
  rw [if_neg fun hother => hother hown]
  rfl

theorem execToneMapReply_next (tmi map snr : Nat) {z : Bool} {c : Tick} (hrx : mcRx s = true)
    (hown : h.dst = ownShort (heardFrame h.src z c s)) : ∃ t, execToneMapReply h tmi map snr z c s = .next t ∧
      t.mc.ackDue = some (h.src, h.seq, 1, snr) := by
  refine ⟨_, next_of_received hrx, ?_⟩
  dsimp only
  rw [if_neg fun hother => hother hown]
  split
  · rfl
  · split
    · rw [mcEvent_mc]
      rfl
    · rfl

end Received

/-! Neighbours (R456, R460, R464). -/

/-- A new module enters a table that has room (R456). -/
theorem mcLearn_any {h : HelloBlock} {s : State} (hroom : s.mc.neighbours.length < 64) :
    (mcLearn h s).mc.neighbours.any (·.moduleId == h.moduleId) = true := by
  unfold mcLearn
  split
  next hknown =>
    obtain ⟨n, hn, hid⟩ := List.any_eq_true.mp hknown
    refine List.any_eq_true.mpr ⟨_, List.mem_map_of_mem hn, ?_⟩
    split
    · exact hid
    · exact hid
  · rw [if_neg (Nat.not_le.mpr hroom)]
    extract_lets n
    rw [mcEventOf_mc]
    simp [setMc, n]

/-- A module heard stays in the table. -/
theorem heardBy_any {id : Nat} (z : Bool) (c : Tick) {s : State} (hknown : s.mc.neighbours.any (·.moduleId == id) = true) :
    (heardBy (·.moduleId == id) z c s).mc.neighbours.any (·.moduleId == id) = true := by
  unfold heardBy
  extract_lets counted cl
  split
  · exact hknown
  next n hfound =>
    have hn : (n.moduleId == id) = true := List.find?_some (p := fun x : McNeighbour => x.moduleId == id) hfound
    extract_lets ps new heard placed
    have hplaced : placed.mc.neighbours.any (·.moduleId == id) = true := by
      obtain ⟨x, hx, hid⟩ := List.any_eq_true.mp hknown
      refine List.any_eq_true.mpr ⟨heard, List.mem_map.mpr ⟨x, hx, if_pos hid⟩, hn⟩
    split
    · rw [mcEventOf_mc]
      exact hplaced
    · exact hplaced

theorem execBeacon_next {s : State} {h : HelloBlock} (z : Bool) (c : Tick) (hrx : mcRx s = true)
    (hother : h.moduleId ≠ s.ident.moduleId) (hroom : s.mc.neighbours.length < 64) : ∃ t, execBeacon h z c s = .next t ∧
      t.mc.neighbours.any (·.moduleId == h.moduleId) = true := by
  refine exists_next_of_whenever (by simp [hrx, hother]) fun t ht => ?_
  extract_lets heard at ht
  have hneighbours : t.mc.neighbours = heard.mc.neighbours := by
    rw [ht]
    split
    · exact (congrArg Carrier.neighbours (modem_takeHello 6 h heard) :)
    · rfl
  rw [hneighbours]
  exact heardBy_any z c (mcLearn_any hroom)

/-- While retries are left the next round sends the segments still lacking (R452). -/
theorem nextRound_of_retries {f : McFrame} {lost : List Nat} {s : State} (hleft : ¬ param s 0x0B04 ≤ f.retry) :
    nextRound f lost false s =
      startRound { f with downgraded := f.downgraded || false, retry := f.retry + 1, todo := lost } (setMc (fun m => { m with
        segRetx := min 0xFFFFFFFF (m.segRetx + lost.length) }) s) :=
  if_neg hleft

theorem execMcAckWindowExpiry_next {s : State} {f : McFrame} (hcurrent : s.mc.current = some f) (htx : mcTx s = true)
    (hawaiting : s.mc.awaiting = true) (hreserved : s.mc.reserved = 0) (hretry : f.retry < param s 0x0B04)
    (hsilent : f.silent + 1 ≠ 3) : ∃ t, execMcAckWindowExpiry s = .next t ∧ t.mc.k = min 6 (s.mc.k + 1) ∧
      (t.mc.current.map fun x => (x.retry, x.silent)) = some (f.retry + 1, f.silent + 1) ∧ t.mc.awaiting = false := by
  unfold execMcAckWindowExpiry
  rw [hcurrent]
  refine exists_next_of_whenever (by simp [htx, hawaiting, hreserved]) fun t ht => ?_
  extract_lets waited silent at ht
  have hlevel : (silent.silent == 3) = false := beq_eq_false_iff_ne.mpr hsilent
  rw [ht, hlevel, nextRound_of_retries (f := silent) (s := waited) (Nat.not_le.mpr hretry)]
  exact ⟨rfl, rfl, rfl⟩

theorem execMcIncompleteFrameDiscard_next {s : State} {src seq : Nat} {p : McPartial}
    (hp : (s.mc.rx.find? fun p => p.src == src && p.seq == seq) = some p) (hserving : serving s = true) :
    execMcIncompleteFrameDiscard src seq s =
      .next (setMc (fun m => { m with rx := m.rx.erase p }) (advanceTo (p.last + Tick.s 2) s)) := by
  rw [execMcIncompleteFrameDiscard, hp]
  exact next_of_whenever hserving rfl

theorem execToneMapRefreshDue_next {s : State} {short : Nat} {n : McNeighbour} (hn : mcFind s short = some n)
    (hrx : mcRx s = true) : ∃ t, execToneMapRefreshDue short s = .next t ∧
      t.clk.now = max s.clk.now (n.refreshed + Tick.s (param s 0x0B02)) := by
  unfold execToneMapRefreshDue
  rw [hn]
  refine exists_next_of_whenever hrx fun t ht => ?_
  extract_lets due marked at ht
  rw [ht]
  split <;> rfl

theorem execMcNeighbourLost_next {s : State} {id k : Nat} {n : McNeighbour}
    (hn : s.mc.neighbours.zipIdx.find? (·.1.moduleId == id) = some (n, k)) (hrx : mcRx s = true) : ∃ t,
      execMcNeighbourLost id s = .next t ∧ t.mc.neighbours = s.mc.neighbours.filter (·.moduleId != id) := by
  unfold execMcNeighbourLost
  rw [hn]
  refine exists_next_of_whenever hrx fun t ht => ?_
  extract_lets due told at ht
  have hdue : due.mc = s.mc := by
    dsimp only [due]
    split <;> rfl
  have htold : told.mc.neighbours = s.mc.neighbours.filter (·.moduleId != id) := by
    dsimp only [told]
    rw [mcEventOf_mc, diagTrigger_mc, ← hdue]
    rfl
  rw [ht, ← htold]
  split
  · exact (congrArg Carrier.neighbours (modem_dropNeighbour 6 id told) :)
  · rfl

/-- The beacon timer's next instant: a period and a random offset of up to a quarter of it (R456). -/
def beaconTimed (s : State) : State :=
  let p := Tick.s (param s 0x0B05)
  let u := (takeFree (advanceTo s.mc.beaconAt s)).2
  setMc (fun m => { m with beaconAt := u.clk.now + p + Config.freeNat s.clk.free % (p / 4 + 1) }) u

theorem execBeaconTimer_next {s : State} (htx : mcTx s = true) : ∃ u, execBeaconTimer s =
      .next (mcOwnFrame 5 0xFFFF 0 (helloBytes (helloBlock 0 u)) u) ∧ u.clk.now = max s.clk.now s.mc.beaconAt ∧
      u.clk.now + Tick.s (param s 0x0B05) ≤ u.mc.beaconAt ∧
      u.mc.beaconAt ≤ u.clk.now + Tick.s (param s 0x0B05) + Tick.s (param s 0x0B05) / 4 := by
  refine ⟨beaconTimed s, next_of_whenever htx rfl, rfl, Nat.le_add_right _ _, Nat.add_le_add_left ?_ _⟩
  exact Nat.le_of_lt_succ (Nat.mod_lt _ (Nat.succ_pos _))

/-! Commands (R460). -/

section Commands

variable {s : State} {r : Req}

theorem execMcStatus_next (htaken : Taken 0x0B00 r s) : ∃ body, execMcStatus r s = .next (reply r 0x0B00 stOk body s) ∧
    (body.drop 8).take 20 = le 4 s.mc.framesTx ++ le 4 s.mc.framesRx ++ le 4 s.mc.framesFailed ++ le 4 s.mc.segRetx ++
      le 4 s.mc.downgrades := by
  refine ⟨_, brixo_of_answer htaken rfl, ?_⟩
  simp [List.drop_append, List.take_append, List.take_of_length_le, List.drop_of_length_le, zeros]

theorem execMcNeighbourRead_next {first n : Nat} (htaken : Taken 0x0B01 r s) (hfirst : first < 64) (hsome : n ≠ 0)
    (hfew : n ≤ 32) : execMcNeighbourRead r first n s =
      .next (reply r 0x0B01 stOk (le 1 first ++ le 1 ((s.mc.neighbours.drop first).take n).length ++ zeros 2 ++
        ((s.mc.neighbours.drop first).take n).flatMap mcEntry) s) :=
  brixo_of_answer htaken (if_neg (by omega))

/-- A change of an entry is read back under its short address. -/
theorem mcFind_setMcN {short : Nat} {f : McNeighbour → McNeighbour} (hf : ∀ n, (f n).short = n.short) (s : State) :
    mcFind (setMcN short f s) short = (mcFind s short).map f := by
  have hshort (n : McNeighbour) : ((if n.short = short then f n else n).short == short) = (n.short == short) := by
    split
    · rw [hf]
    · rfl
  unfold mcFind setMcN setMc
  rw [List.find?_map]
  have hsame : ((fun x : McNeighbour => x.short == short) ∘ fun n => if n.short = short then f n else n) =
      fun n => n.short == short := funext hshort
  rw [hsame]
  cases hn : s.mc.neighbours.find? (·.short == short) with
  | none => rfl
  | some n => rw [Option.map_some, Option.map_some, if_pos (eq_of_beq (List.find?_some (p := fun x : McNeighbour => x.short == short) hn))]

theorem execMcTonemapRefresh_next {short : Nat} {n : McNeighbour} (htaken : Taken 0x0B02 r s) (hn : mcFind s short = some n)
    (htx : mcTx s = true) : ∃ t, execMcTonemapRefresh r short s = .next (reply r 0x0B02 stAccepted [] t) ∧
      ((mcFind t short).map (·.wanted)) = some true := by
  have hwanted : ((mcFind (setMcN short (fun n => { n with wanted := true }) s) short).map (·.wanted)) = some true := by
    rw [mcFind_setMcN (f := fun n => { n with wanted := true }) fun _ => rfl, hn]
    rfl
  refine ⟨if requestDue (setMcN short (fun n => { n with wanted := true }) s) short then
      setMcN short (fun n => { n with wanted := true }) s
    else mcOwnFrame 3 short 0 [] (setMcN short (fun n => { n with wanted := true }) s), brixo_of_answer htaken ?_, ?_⟩
  · simp [hn, htx]
  · split <;> exact hwanted

end Commands

/-- Settles O33: each window, each frame, each timer and each command of the mains carrier answers its next state. That a whole
acknowledgement sets the backoff's k to 2 is the model's choice (log entry 58), and the instant clk.now is the model's own (log
entry 3). -/
theorem carrierCommandsComplete : Obligations.CarrierCommandsComplete := by
  unfold Obligations.CarrierCommandsComplete
  refine ⟨?_, ?_, ?_, ?_, ?_, ?_, ?_, ?_, ?_, ?_, ?_, ?_, ?_, ?_, ?_, ?_⟩
  · exact fun _ rising preamble => execSupplyZeroCrossing_next rising preamble
  · exact fun _ _ => execMcFrameBegin_next
  · exact fun _ _ segs snr z c _ => execMcDataFrame_other_next segs snr z c
  · exact fun _ _ segs snr z c _ => execMcDataFrame_own_next segs snr z c
  · exact fun _ _ _ snr _ _ hrx hcurrent hawaiting hlost hmap _ =>
      execMcAckFrame_next snr hrx hcurrent hawaiting hlost hmap
  · exact fun _ _ snrs _ _ => execToneMapRequest_next snrs
  · exact fun _ _ tmi map snr _ _ => execToneMapReply_next tmi map snr
  · exact fun _ _ z c => execBeacon_next z c
  · exact fun _ _ => execMcAckWindowExpiry_next
  · exact fun _ _ _ _ => execMcIncompleteFrameDiscard_next
  · exact fun _ _ _ => execToneMapRefreshDue_next
  · exact fun _ _ _ _ => execMcNeighbourLost_next
  · exact fun _ => execBeaconTimer_next
  · exact fun _ _ => execMcStatus_next
  · exact fun _ _ _ _ => execMcNeighbourRead_next
  · exact fun _ _ _ _ => execMcTonemapRefresh_next

end Sys2Proof.MainsCarrier

/-! The Lintel fabric (20): the statement about its commands fails, for a retransmission timeout says nothing of which link it
is for, and link 6 — the carrier, whose packets are not retransmitted by this timer — is one of those it covers. -/

namespace Sys2Proof.Lintel

open Sys2Proof Sys2Proof.Machine

/-- A module whose one neighbour is on the carrier's link, with a packet not yet acknowledged. -/
def unackedOnCarrier : State :=
  setLin (fun l => { l with neighbours := [{ Tests.node0 with link := 6, unacked := [(0, Tests.fabric0)] }] }) Tests.running

theorem execLinkRetransmitTimeout_unackedOnCarrier :
    exec (.linkRetransmitTimeout 6 9) unackedOnCarrier = .next unackedOnCarrier :=
  (rfl : exec (.linkRetransmitTimeout 6 9) unackedOnCarrier = execLinkRetransmitTimeout 6 9 unackedOnCarrier).trans rfl

/-- Refutes O34: LINK_RETRANSMIT_TIMEOUT acts on the links 0 to 5 only (R461, R464), and its clause does not ask for one of them.
With a packet unacknowledged on link 6 the state stays as it is, and the packets retransmitted stay 0 where the clause asks for
1. -/
theorem not_lintelCommandsComplete : ¬ Obligations.LintelCommandsComplete := by
  unfold Obligations.LintelCommandsComplete
  rintro ⟨-, -, -, hretransmit, -⟩
  obtain ⟨t, ht, hcount, -⟩ := hretransmit unackedOnCarrier 6 9 _ rfl rfl (List.cons_ne_nil _ _)
  rw [execLinkRetransmitTimeout_unackedOnCarrier] at ht
  obtain rfl : unackedOnCarrier = t := Host.Outcome.next.inj ht
  exact absurd hcount (by decide)

end Sys2Proof.Lintel

/-! Current tokens (20): the statement about the messages and clocks of lending fails. The end of the quarantine takes all home
tokens back (R476), and in the same step the own offer gives up those that it does not use (R472). -/

namespace Sys2Proof.CurrentTokens

open Sys2Proof Sys2Proof.Machine

/-- A post at the end of its quarantine, with two home tokens, no floor and no vehicle. -/
def quarantined : State :=
  setLin (fun l => { l with plan := (100, 0, 2, 0, 0, 30), quarantine := some 5 }) Tests.running

/-- The step takes both tokens back and, with no vehicle to offer them to, leaves neither in the own offer. -/
def released : State :=
  tokensMoved 0 0 (setLin (fun l => { l with quarantine := none, home := [(0, .offer), (1, .offer)] }) quarantined)

theorem exec_quarantineEnd_quarantined : exec .quarantineEnd quarantined = .next released :=
  (rfl : exec .quarantineEnd quarantined = execQuarantineEnd quarantined).trans rfl

theorem released_home : released.lin.home = [(0, .out 10000000000), (1, .out 10000000000)] := by
  decide +kernel

/-- Refutes O35: where the plan gives the post more home tokens than its offer uses, QUARANTINE_END leaves the others out of the
offer since that instant (R472), while its clause wants every home token in the offer. -/
theorem not_tokenCommandsComplete : ¬ Obligations.TokenCommandsComplete := by
  unfold Obligations.TokenCommandsComplete
  rintro ⟨-, -, -, -, -, -, -, -, -, -, -, -, -, -, -, -, -, -, hquarantine⟩
  obtain ⟨t, ht, -, hhome, -⟩ := hquarantine quarantined 5 rfl rfl
  rw [exec_quarantineEnd_quarantined] at ht
  obtain rfl : released = t := Host.Outcome.next.inj ht
  rw [released_home] at hhome
  exact absurd hhome (by decide)

end Sys2Proof.CurrentTokens

/-! Hinge redundancy (21): which next state each claim, each message of the peer, each step of the takeover and each command of a
pair answers. -/

namespace Sys2Proof.HingeRedundancy

open Sys2Proof Sys2Proof.Machine Sys2Proof.Safety Sys2Proof.Laws Sys2Proof.Frames Sys2Proof.ModesPower
  Sys2Proof.KilnEnginePool

/-! What the events and the state of the peer leave of the Hinge block. -/

@[simp] theorem hngEvent_hng (event cause : Nat) (s : State) : (hngEvent event cause s).hng = s.hng :=
  kept_hng (by simp (disch := decide))

@[simp] theorem hngEvent_clk (event cause : Nat) (s : State) : (hngEvent event cause s).clk = s.clk :=
  kept_clk (by simp (disch := decide))

@[simp] theorem hngEvent_led (event cause : Nat) (s : State) : (hngEvent event cause s).led = s.led :=
  kept_led (by simp (disch := decide))

/-- SYNCED changes alone, but for a switch that was asked. -/
theorem setSynced_hng (v : Bool) (s : State) : ∃ a, (setSynced v s).hng = { s.hng with synced := v, asked := a } := by
  unfold setSynced
  split
  case isTrue hsame =>
    obtain rfl : s.hng.synced = v := beq_iff_eq.mp hsame
    exact ⟨s.hng.asked, rfl⟩
  · exact ⟨_, hngEvent_hng _ _ _⟩

@[simp] theorem setSynced_clk (v : Bool) (s : State) : (setSynced v s).clk = s.clk := kept_clk (by simp (disch := decide))

theorem losePeer_hng (s : State) : ∃ v a, (losePeer s).hng = { s.hng with peerLost := true, synced := v, asked := a } := by
  unfold losePeer
  split
  case isTrue hlost => exact ⟨s.hng.synced, s.hng.asked, by rw [← hlost]⟩
  · obtain ⟨a, ha⟩ := setSynced_hng false (hngEvent 2 0 (setHng (fun h => { h with peerLost := true }) s))
    exact ⟨false, a, by rw [ha, hngEvent_hng]; rfl⟩

@[simp] theorem losePeer_clk (s : State) : (losePeer s).clk = s.clk := kept_clk (by simp (disch := decide))

@[simp] theorem findPeer_hng (s : State) : (findPeer s).hng = { s.hng with peerLost := false, isolated := false } := by
  unfold findPeer
  extract_lets was found
  split
  · exact hngEvent_hng _ _ _
  · rfl

@[simp] theorem findPeer_clk (s : State) : (findPeer s).clk = s.clk := kept_clk (by simp (disch := decide))

theorem judgeClaims_of_not_active {s : State} (hrole : s.hng.role ≠ .active) :
    judgeClaims s = setHng (fun h => { h with driving := false, conflict := false }) s :=
  if_pos (bne_iff_ne.mpr hrole)

theorem ownClaim_of_not_active {s : State} (hrole : s.hng.role ≠ .active) : ownClaim s = 0 :=
  if_neg (by rw [beq_iff_eq]; exact hrole)

theorem isStandby_of_role {s : State} (hrole : s.hng.role = .standby) : isStandby s = true := by
  rw [isStandby, hrole]
  rfl

theorem isStandby_of_active {s : State} (hrole : s.hng.role = .active) : isStandby s = false := by
  rw [isStandby, hrole]
  rfl

/-! Claims and heartbeats (R482, R484, R485). -/

theorem execPeerClaimFrame_next {s : State} {claim : Nat} (yields : Bool) (hhinge : hingeOn s = true) (hd4 : s.dom.d4 = true)
    (hrole : s.hng.role ≠ .active) (hclaim : claim ≠ 0) : ∃ t,
    execPeerClaimFrame true claim yields true s = .next t ∧ t.hng.lineHeard = some s.clk.now ∧ t.hng.peerClaim = claim ∧
      t.hng.yieldSeen = (if yields = true then min 2 (s.hng.yieldSeen + 1) else 0) ∧ t.hng.driving = false ∧
      t.hng.peerLost = false := by
  unfold execPeerClaimFrame
  refine exists_next_of_whenever (by rw [hhinge, hd4]; rfl) fun t ht => ?_
  extract_lets heard found at ht
  have hfound : found.hng = { s.hng with
      yieldSeen := if yields = true then min 2 (s.hng.yieldSeen + 1) else 0, lineHeard := some s.clk.now
      starts := param heard 0x0D01 == 0, peerLost := false, isolated := false } :=
    findPeer_hng _
  have hrole' : found.hng.role ≠ .active := by
    rw [hfound]
    exact hrole
  have hheard : (claim != 0 && claim != ownClaim found) = true := by
    rw [ownClaim_of_not_active hrole', bne_iff_ne.mpr hclaim]
    rfl
  rw [if_pos hheard, judgeClaims_of_not_active (by exact hrole')] at ht
  have hhng : t.hng = { found.hng with
      peerClaim := claim, claims := t.hng.claims, driving := false, conflict := false } := by
    rw [ht]
    rfl
  rw [hhng, hfound]
  exact ⟨rfl, rfl, rfl, rfl, rfl⟩

theorem execPeerClaimSilence_next {s : State} {at0 : Tick} (hhinge : hingeOn s = true) (hd4 : s.dom.d4 = true)
    (hrole : s.hng.role ≠ .active) (hheard : s.hng.lineHeard = some at0) : ∃ t,
    execPeerClaimSilence s = .next t ∧ t.hng.starts = true ∧ t.hng.yieldSeen = 0 ∧ t.hng.driving = false ∧
      t.clk.now = max s.clk.now (at0 + Tick.ms 3) := by
  unfold execPeerClaimSilence
  refine exists_next_of_whenever (by rw [hhinge, hd4]; rfl) fun t ht => ?_
  rw [hheard] at ht
  extract_lets waited starting at ht
  have hjudged : ∃ judged, t = judgeClaims judged ∧ judged.clk = (advanceTo (at0 + Tick.ms 3) s).clk ∧
      ∃ p v a, judged.hng = { starting.hng with peerLost := p, synced := v, asked := a } := by
    refine ⟨_, ht, ?_⟩
    split
    · exact ⟨rfl, _, _, _, rfl⟩
    · exact ⟨losePeer_clk starting, true, losePeer_hng starting⟩
  obtain ⟨judged, hjudged, hclk, p, v, a, hhng⟩ := hjudged
  rw [judgeClaims_of_not_active (by rw [hhng]; exact hrole)] at hjudged
  rw [hjudged]
  refine ⟨?_, ?_, rfl, congrArg Clock.now hclk⟩
  · exact (congrArg Hinge.starts hhng :)
  · exact (congrArg Hinge.yieldSeen hhng :)

theorem execHingeHeartbeat_next {s : State} (id role claim : Nat) (syncs yields : Bool) (hhinge : hingeOn s = true)
    (hd4 : s.dom.d4 = true) (hrole : s.hng.role ≠ .active) : ∃ t,
    execHingeHeartbeat id role claim syncs yields s = .next t ∧ t.hng.linkHeard = some s.clk.now ∧ t.hng.peerId = id ∧
      t.hng.peerClaim = (if role = 1 ∨ claim ≠ 0 then claim else s.hng.peerClaim) ∧ t.hng.linkYield = yields ∧
      t.hng.peerLost = false ∧ t.hng.role = s.hng.role := by
  unfold execHingeHeartbeat
  refine exists_next_of_whenever (by rw [hhinge, hd4]; rfl) fun t ht => ?_
  extract_lets heard found judged at ht
  have hfound : found.hng = { s.hng with
      linkHeard := some s.clk.now, peerId := id, linkYield := yields, peerLost := false, isolated := false } :=
    findPeer_hng heard
  obtain ⟨claimed, hclaimed, hhng⟩ : ∃ u, judged = judgeClaims u ∧ ∃ c, u.hng = { found.hng with
      peerClaim := if role = 1 ∨ claim ≠ 0 then claim else s.hng.peerClaim, claims := c } := by
    refine ⟨_, rfl, ?_⟩
    by_cases h : role = 1 ∨ claim ≠ 0
    · rw [if_pos (by simpa using h), if_pos h]
      exact ⟨_, rfl⟩
    · rw [if_neg (by simpa using h), if_neg h]
      exact ⟨_, by rw [hfound]⟩
  obtain ⟨c, hhng⟩ := hhng
  have hrole' : claimed.hng.role = s.hng.role := by rw [hhng, hfound]
  have hjudged : judged.hng = { claimed.hng with driving := false, conflict := false } := by
    rw [hclaimed, judgeClaims_of_not_active (by rw [hrole']; exact hrole)]
    rfl
  have hidle : ¬ (judged.hng.role == .active) = true := by
    rw [hjudged, beq_iff_eq]
    exact hrole' ▸ hrole
  rw [if_neg hidle] at ht
  rw [ht, hjudged, hhng, hfound]
  exact ⟨rfl, rfl, rfl, rfl, rfl, rfl⟩

theorem execHingeIsolated_next {s : State} (hhinge : hingeOn s = true) (hrole : s.hng.role = .active)
    (hisolated : s.hng.isolated = false) : ∃ t, execHingeIsolated s = .next t ∧ t.hng.isolated = true ∧
      t.hng.peerLost = true ∧
      t.clk.now = max s.clk.now (max (s.hng.linkHeard.getD 0) (s.hng.lineHeard.getD 0) + Tick.s 1) := by
  unfold execHingeIsolated
  refine exists_next_of_whenever (by rw [hhinge, hrole, hisolated]; rfl) fun t ht => ?_
  extract_lets last at ht
  obtain ⟨v, a, hhng⟩ := losePeer_hng (advanceTo (last + Tick.s 1) s)
  rw [ht]
  exact ⟨rfl, (congrArg Hinge.peerLost hhng :), congrArg Clock.now (losePeer_clk (advanceTo (last + Tick.s 1) s))⟩

/-! Replication (R484). -/

theorem execHingeEpochMessage_next {s : State} (m : HingeMsg) (hhinge : hingeOn s = true) (hrole : s.hng.role = .standby)
    (hd2 : s.dom.d2 = true) (hholdup : inHoldup s = false) :
    execHingeEpochMessage m s = .next (
      if s.hng.resync = true ∨ m.entry.epoch ≤ s.hng.replEpoch then
        setHng (fun h => { h with peerEpoch := max h.peerEpoch m.entry.epoch }) s
      else if m.entry.epoch = s.hng.replEpoch + 1 ∨ bitN m.entry.flags 9 = true then
        setSynced (standbySynced (applyMsg m s)) (applyMsg m s)
      else setSynced false (setHng (fun h => { h with resync := true, peerEpoch := m.entry.epoch }) s)) := by
  refine next_of_whenever (by rw [hhinge, isStandby_of_role hrole, hd2, hholdup]; rfl) ?_
  simp only [Bool.or_eq_true, decide_eq_true_eq]

theorem execHingeEpochAck_next {s : State} {e : Nat} (hhinge : hingeOn s = true) (hrole : s.hng.role = .active)
    (he : e ≤ s.hng.sentEpoch) : execHingeEpochAck e s =
      .next (setHng (fun h => if h.acked < e then { h with replEpoch := e, acked := e } else h) s) :=
  next_of_whenever (by rw [hhinge, hrole, decide_eq_true he]; rfl) rfl

/-! The takeover, and the role at a start (R485–R487, R489). -/

theorem lsWrite_hingeSwitched (s : State) : (lsWrite s).led.hingeSwitched = s.led.hingeSwitched := by
  unfold lsWrite
  extract_lets seq c
  dsimp only [setLed]
  split <;> rfl

theorem execHingeTakeover_next {s : State} {trig : Nat} (htrig : takeoverTrigger s = some trig) (hhinge : hingeOn s = true)
    (hrole : s.hng.role = .standby) (hd1 : s.dom.d1 = true) (hholdup : inHoldup s = false) : ∃ t,
    execHingeTakeover s = .next t ∧ t.hng.role = .active ∧ t.hng.synced = false ∧
      t.hng.count = max s.hng.count (s.hng.peerClaim / 2) + 1 ∧ t.hng.asked = 0 ∧ t.hng.own = List.replicate 36 0 ∧
      t.led.hingeSwitched = true := by
  unfold execHingeTakeover
  rw [htrig]
  refine exists_next_of_whenever (by rw [hhinge, isStandby_of_role hrole, hd1, hholdup]; rfl) fun t ht => ?_
  extract_lets r peer written active raised at ht
  have hhng : t.hng = active.hng := by
    rw [ht]
    exact hngEvent_hng 1 trig raised
  have hswitched : t.led.hingeSwitched = true := by
    rw [ht, hngEvent_led]
    exact lsWrite_hingeSwitched (continueLedger s)
  rw [hhng]
  exact ⟨rfl, rfl, rfl, rfl, rfl, hswitched⟩

theorem execYieldWithdraw_next {s : State} (hyielding : s.hng.yielding = true) : execYieldWithdraw s =
    .next (setHng (fun h => { h with yielding := false }) (advanceTo (s.hng.yieldSince + Tick.ms 200) s)) :=
  next_of_whenever hyielding rfl

theorem execHingeRoleResume_next {s : State} (hhinge : hingeOn s = true) (hrole : s.hng.role = .none)
    (hd2 : s.dom.d2 = true) (hholdup : inHoldup s = false) (hwas : s.hng.wasActive = false) : ∃ t,
    execHingeRoleResume s = .next t ∧ t.hng.role = .standby ∧ t.hng.resync = true ∧
      t.hng.count = (if s.hng.peerClaim = 0 then s.hng.count else s.hng.peerClaim / 2) ∧
      t.hng.own = List.replicate 36 0 := by
  unfold execHingeRoleResume
  refine exists_next_of_whenever (by rw [hhinge, hrole, hd2, hholdup]; rfl) fun t ht => ?_
  extract_lets started heard last standing at ht
  have hwas' : ¬ (started.hng.wasActive && !(heard && decide (unitClaim started < started.hng.peerClaim))) = true := by
    rw [show started.hng.wasActive = false from hwas]
    exact Bool.false_ne_true
  rw [if_neg hwas'] at ht
  have hhng : ∃ p v a, t.hng = { standing.hng with peerLost := p, synced := v, asked := a } := by
    rw [ht]
    split
    · exact ⟨_, _, _, rfl⟩
    · exact ⟨true, losePeer_hng standing⟩
  obtain ⟨p, v, a, hhng⟩ := hhng
  rw [hhng]
  exact ⟨rfl, rfl, rfl, rfl⟩

/-- Settles O36: the clauses are one lemma each, said of what a unit that is not ACTIVE hears, of the replica, and of the change of
role. The standby role of a resuming unit and the gap that calls for resynchronisation are the model's choice (log entry 47), and
the instant clk.now is its own (log entry 3). -/
theorem hingeMessagesComplete : Obligations.HingeMessagesComplete := by
  unfold Obligations.HingeMessagesComplete
  refine ⟨?_, ?_, ?_, ?_, ?_, ?_, ?_, ?_, ?_⟩
  · exact fun _ _ yields hhinge hd4 hrole hclaim _ => execPeerClaimFrame_next yields hhinge hd4 hrole hclaim
  · exact fun _ _ hhinge hd4 hrole hheard => execPeerClaimSilence_next hhinge hd4 hrole hheard
  · exact fun _ id role claim syncs yields hhinge hd4 hrole =>
      execHingeHeartbeat_next id role claim syncs yields hhinge hd4 hrole
  · exact fun _ m hhinge hrole hd2 hholdup => execHingeEpochMessage_next m hhinge hrole hd2 hholdup
  · exact fun _ _ htrig hhinge hrole hd1 hholdup => execHingeTakeover_next htrig hhinge hrole hd1 hholdup
  · exact fun _ hyielding => execYieldWithdraw_next hyielding
  · exact fun _ hhinge hrole hisolated => execHingeIsolated_next hhinge hrole hisolated
  · exact fun _ hhinge hrole hd2 hholdup hwas => execHingeRoleResume_next hhinge hrole hd2 hholdup hwas
  · exact fun _ _ hhinge hrole he => execHingeEpochAck_next hhinge hrole he

/-! Resynchronisation and the proof test (R489, R490). -/

theorem execHingeResync_next {s : State} (msgs : List HingeMsg) (image : Option HingeImage) (blocks : Nat)
    (hhinge : hingeOn s = true) (hrole : s.hng.role = .standby) (hresync : s.hng.resync = true) (hd2 : s.dom.d2 = true)
    (hholdup : inHoldup s = false) : ∃ t, execHingeResync msgs image blocks s = .next t ∧ t.hng.resync = false ∧
      t.hng.peerLost = false ∧ t.hng.peerEpoch = t.hng.replEpoch := by
  unfold execHingeResync
  refine exists_next_of_whenever (by rw [hhinge, isStandby_of_role hrole, hresync, hd2, hholdup]; rfl) fun t ht => ?_
  extract_lets copied applied first adopted raised at ht
  obtain ⟨a, hhng⟩ := setSynced_hng (standbySynced raised) raised
  rw [ht, hhng]
  exact ⟨rfl, rfl, rfl⟩

/-- Every item of the proof test passes on the ACTIVE unit. -/
theorem proofResults_of_pass {s : State} {diff : Int} (hrole : s.hng.role = .active)
    (hdiff : diff.natAbs ≤ 10 * param s 0x0D03) :
    (proofResults true true diff true true true false s).hng = { s.hng with
      pathFault := false, meterDiff := diff, meterDiffFlag := false
      proofDay := some (localOf s.bil (civilSec (civilNow s)) / 86400), proofAsked := false, proofEpoch := s.clk.epoch } := by
  unfold proofResults
  extract_lets bad noted crossed sensed replicated checked
  have hbad : bad = false := decide_eq_false (Nat.not_lt.mpr hdiff)
  have hchecked : checked = noted := by
    dsimp only [checked]
    exact if_neg (ne_true_of_eq_false (isStandby_of_active (s := noted) hrole))
  have hpass : (true && true && !bad && true && true && true && !false) = true := by
    rw [hbad]
    rfl
  rw [hchecked, if_pos hpass, hngEvent_hng]
  dsimp only [noted, setHng]
  rw [hbad]
  rfl

theorem execHingeProofTest_next {s : State} {diff : Int} (hhinge : hingeOn s = true) (hrole : s.hng.role = .active)
    (hd3 : s.dom.d3 = true) (hholdup : inHoldup s = false) (hdue : s.hng.proofAsked = true ∨ proofDue s = true)
    (hdiff : diff.natAbs ≤ 10 * param s 0x0D03) : ∃ t,
    execHingeProofTest true true diff true true true false s = .next t ∧ t.hng.pathFault = false ∧
      t.hng.meterDiff = diff ∧ t.hng.meterDiffFlag = false ∧ t.hng.switchShort = false ∧ t.hng.proofAsked = false ∧
      t.hng.proofEpoch = s.clk.epoch := by
  unfold execHingeProofTest
  refine exists_next_of_whenever (by rw [hhinge, hrole, hd3, hholdup]; rfl) fun t ht => ?_
  have hshort : stageShort false s = setHng (fun h => { h with switchShort := false }) s :=
    if_neg (by rw [Bool.and_false]; exact Bool.false_ne_true)
  rw [hshort] at ht
  rw [if_pos (Bool.or_eq_true _ _ ▸ hdue)] at ht
  rw [ht, proofResults_of_pass (by exact hrole) (by exact hdiff)]
  exact ⟨rfl, rfl, rfl, rfl, rfl, rfl⟩

/-! The commands of a pair (R494, R495). -/

section Commands
variable {s : State} {r : Req}

theorem execHngStatus_next (htaken : Taken 0x0D00 r s) : ∃ body, execHngStatus r s = .next (reply r 0x0D00 stOk body s) ∧
    ∀ h, h = (asOf s).hng → body.take 2 = le 1 h.role.code ++ le 1 (packBits [h.synced, h.peerLost, h.isolated, h.conflict,
      h.resync, h.pathFault, h.switchShort, h.meterDiffFlag]) ∧
    (body.drop 4).take 8 = le 4 (unitClaim (asOf s)) ++ le 4 h.peerClaim ∧
    (body.drop 12).take 24 = le 8 h.peerId ++ le 8 h.replEpoch ++ le 8 h.proofEpoch := by
  refine ⟨hngBody (asOf s), brixo_of_answer htaken rfl, ?_⟩
  rintro h rfl
  unfold hngBody
  refine ⟨?_, ?_, ?_⟩ <;>
    simp [List.take_append, List.take_of_length_le, List.drop_append, List.drop_of_length_le, zeros]

theorem execHngSwitch_next (htaken : Taken 0x0D01 r s) (hhinge : hingeOn s = true) (hrole : s.hng.role ≠ .none)
    (hholdup : inHoldup s = false) (hsynced : s.hng.synced = true) :
    execHngSwitch r s = .next (reply r 0x0D01 stOk [] (setHng (fun h => { h with asked := 2 }) s)) :=
  brixo_of_answer htaken (by simp [hhinge, hrole, hholdup, hsynced])

theorem execHngForce_next (htaken : Taken 0x0D02 r s) (hhinge : hingeOn s = true) (hrole : s.hng.role = .standby)
    (hsilent : max (s.hng.linkHeard.getD 0) (s.hng.lineHeard.getD 0) + Tick.s 1 ≤ s.clk.now) :
    execHngForce r false s = .next (reply r 0x0D02 stOk [] (setHng (fun h => { h with asked := 3 }) s)) :=
  brixo_of_answer htaken (by simp [hhinge, isStandby_of_role hrole, Nat.not_lt.mpr hsilent])

theorem execHngProofRun_next (htaken : Taken 0x0D03 r s) (hhinge : hingeOn s = true) (hsynced : s.hng.synced = true) :
    execHngProofRun r s = .next (reply r 0x0D03 stOk [] (setHng (fun h => { h with proofAsked := true }) s)) :=
  brixo_of_answer htaken (by simp [hhinge, hsynced])

end Commands

/-- Settles O37: the clauses are one lemma each; the resynchronisation ends with the replica's own epoch whatever was copied, and a
proof test that passes is said once of its results. -/
theorem hingeCommandsComplete : Obligations.HingeCommandsComplete := by
  unfold Obligations.HingeCommandsComplete
  refine ⟨?_, ?_, ?_, ?_, ?_, ?_⟩
  · exact fun _ msgs image blocks hhinge hrole hresync hd2 hholdup =>
      execHingeResync_next msgs image blocks hhinge hrole hresync hd2 hholdup
  · exact fun _ _ hhinge hrole hd3 hholdup hdue hdiff => execHingeProofTest_next hhinge hrole hd3 hholdup hdue hdiff
  · exact fun _ _ htaken => execHngStatus_next htaken
  · exact fun _ _ htaken hhinge hrole hholdup hsynced => execHngSwitch_next htaken hhinge hrole hholdup hsynced
  · exact fun _ _ htaken hhinge hrole hsilent => execHngForce_next htaken hhinge hrole hsilent
  · exact fun _ _ htaken hhinge hsynced => execHngProofRun_next htaken hhinge hsynced

end Sys2Proof.HingeRedundancy

/-! Firmware update (22): the statement about its commands fails. A trial that confirms itself leaves nothing of the confirmation
but its record. -/

namespace Sys2Proof.FirmwareUpdate

open Sys2Proof Sys2Proof.Machine Sys2Proof.Safety Sys2Proof.Laws Sys2Proof.Frames

theorem updEvent_upd (event id : Nat) (s : State) : (updEvent event id s).upd = s.upd := kept_upd (by simp (disch := decide))

theorem lrChanged_upd (s : State) : (lrChanged s).upd = s.upd := kept_upd (by simp (disch := decide))

theorem logNow_upd (code : Nat) (data : List Byte) (s : State) : (logNow code data s).upd = s.upd :=
  kept_upd (by simp (disch := decide))

/-- A confirmation that had arrived is used up where the trial succeeds (R504). -/
theorem confirmTrial_confirmed (s : State) : (confirmTrial s).upd.confirmed = false := by
  unfold confirmTrial
  extract_lets m recorded moded logged
  rw [updEvent_upd, lrChanged_upd, logNow_upd]
  rfl

/-- A trial that has run without fault, in a module that confirms it by itself. -/
def trying : State :=
  { Tests.withParam 0x0E03 1 Tests.running with upd.trialSince := some 5, upd.record.state := 1 }

theorem exec_autoConfirm_trying : exec .autoConfirm trying = .next (confirmTrial (advanceTo (5 + Tick.s 30) trying)) :=
  (rfl : exec .autoConfirm trying = execAutoConfirm trying).trans rfl

/-- Refutes O38: AUTO_CONFIRM clears the confirmation with the trial that it ends (R504), in every state, while its clause wants it
set. -/
theorem not_updateCommandsComplete : ¬ Obligations.UpdateCommandsComplete := by
  unfold Obligations.UpdateCommandsComplete
  rintro ⟨-, -, -, -, -, -, -, -, -, -, hauto, -⟩
  obtain ⟨t, ht, -, -, hconfirmed, -⟩ := hauto trying 5 rfl rfl rfl rfl rfl rfl
  rw [exec_autoConfirm_trying] at ht
  rw [← Host.Outcome.next.inj ht, confirmTrial_confirmed] at hconfirmed
  exact Bool.false_ne_true hconfirmed

end Sys2Proof.FirmwareUpdate

/-! The auxiliary converter and Nightlatch (23): which next state each conversion, each trigger, each timer and each command
answers. -/

namespace Sys2Proof.AuxiliarySensing

open Sys2Proof Sys2Proof.Machine Sys2Proof.Safety Sys2Proof.Laws Sys2Proof.Frames Sys2Proof.ModesPower
  Sys2Proof.KilnEnginePool

/-! Conversions and triggers (R515–R517). -/

theorem execAdcConversionComplete_idle_next {s : State} (ch code : Nat) (ovr under : Bool) (hd3 : s.dom.d3 = true)
    (hidle : s.adc.running = none) : execAdcConversionComplete ch false code ovr under s =
      .next (deliver ⟨ch, .schedule, false⟩ code ovr under s) :=
  next_of_whenever hd3 (by rw [hidle]; rfl)

theorem execAdcConversionComplete_running_next {s : State} {c : Conversion} (ch : Nat) (conv : Bool) (code : Nat)
    (ovr under : Bool) (hd3 : s.dom.d3 = true) (hrunning : s.adc.running = some c) :
    execAdcConversionComplete ch conv code ovr under s = .next (nextConversion (deliver c code ovr under s)) :=
  next_of_whenever hd3 (by rw [hrunning])

/-- An urgent request of an idle converter begins. -/
theorem urgentRequest_of_idle {s : State} (c : Conversion) (busy : Nat) (conv : Bool) (hidle : s.adc.running = none) :
    urgentRequest c busy conv s = setAdc (fun a => { a with
      running := some (begun s c)
      aborted := if busy < 24 then some ⟨busy, if conv then .convert else .schedule, true⟩ else a.aborted }) s := by
  rw [urgentRequest, hidle]

theorem execUrgentAdcRequest_next {s : State} (conv : Bool) (hd3 : s.dom.d3 = true) (hidle : s.adc.running = none) :
    execUrgentAdcRequest 0 24 conv s =
      .next (setAdc (fun a => { a with running := some (begun s ⟨13, .cpHigh, false⟩) }) s) :=
  next_of_whenever hd3 (urgentRequest_of_idle _ 24 conv hidle)

theorem begun_ch (s : State) (c : Conversion) : (begun s c).ch = c.ch := by
  unfold begun
  split <;> rfl

theorem execAdcTrigEdge_next {s : State} (busy : Nat) (conv : Bool) {ch : Nat} (hd3 : s.dom.d3 = true)
    (hrising : bitN (param s 0x1007) 0 = true) (htrig : s.adc.trig = none) (hch : trigChannel s 0 = some ch)
    (hidle : s.adc.running = none) : ∃ t, execAdcTrigEdge true busy conv s = .next t ∧ t.adc.trig = some 0 ∧
      (t.adc.running.map (·.ch)) = some ch := by
  unfold execAdcTrigEdge
  refine exists_next_of_whenever (by rw [hd3, if_pos rfl, hrising]; rfl) fun t ht => ?_
  rw [if_neg (by rw [htrig]; exact Bool.false_ne_true), hch] at ht
  rw [ht]
  dsimp only
  rw [urgentRequest_of_idle _ busy conv (by exact hidle)]
  exact ⟨rfl, congrArg some (begun_ch _ _)⟩

/-! The temperature limit (R519). -/

theorem limitsChanged_adc (s : State) : (limitsChanged s).adc = s.adc := kept_adc (by simp (disch := decide))

theorem execITempRaiseStep_next {s : State} {a i : Nat} (htarget : tempTarget s = some a) (hi : s.adc.iTemp = some i)
    (hserving : serving s = true) (hbelow : i < a) : ∃ t, execITempRaiseStep s = .next t ∧
      t.adc.iTemp = some (min a (i + 1000)) ∧ t.adc.iTempAt = max s.clk.now (s.adc.iTempAt + Tick.s 10) := by
  unfold execITempRaiseStep
  rw [htarget, hi]
  refine exists_next_of_whenever (by rw [hserving, decide_eq_true hbelow]; rfl) fun t ht => ?_
  rw [ht, limitsChanged_adc]
  exact ⟨rfl, rfl⟩

/-! The commands of the converter (R530). -/

section Commands
variable {s : State} {r : Req}

theorem execAuxRead_next {mask : Nat} (htaken : Taken 0x1000 r s) (hmask : mask ≠ 0) (hmask24 : mask < 2 ^ 24) : ∃ body,
    execAuxRead r mask s = .next (reply r 0x1000 stOk (le 4 mask ++ body) s) ∧ body = (maskIdx 24 mask).flatMap fun n =>
      le 2 ((s.adc.results[n]?).getD 0) ++ le 1 (packBits [decide (n < 6) && bitN s.adc.sensorFault n, s.adc.vrefFault])
        ++ zeros 1 ++ leI 4 ((s.adc.values[n]?).getD 0) :=
  ⟨_, brixo_of_answer htaken (if_neg (not_or.mpr ⟨hmask, Nat.not_le.mpr hmask24⟩)), rfl⟩

theorem execAuxConvert_next {ch n : Nat} (htaken : Taken 0x1001 r s) (hch : ch < 24) (hn : n ≠ 0) (hn64 : n ≤ 64)
    (hfree : s.adc.converts.length < 4) : execAuxConvert r ch n s =
      .next (setAdc (fun a => { a with converts := a.converts ++ [⟨r, ch, n, 0, 0, 0⟩] }) s) := by
  refine MeasurementInputs.brixo_of_later htaken ?_
  rw [if_neg (by omega), if_neg (Nat.not_le.mpr hfree)]

theorem execAuxTrigRead_next {n : Nat} (htaken : Taken 0x1002 r s) (hn : n ≠ 0) (hn64 : n ≤ 64) : ∃ body,
    execAuxTrigRead r n s = .next (reply r 0x1002 stOk body
      (setAdc (fun a => { a with fifo := a.fifo.drop n, missed := 0 }) s)) ∧
    body.take 4 = le 1 (s.adc.fifo.take n).length ++ zeros 1 ++ le 2 s.adc.missed := by
  refine ⟨_, brixo_of_answer htaken (if_neg (by omega)), ?_⟩
  rw [List.take_append_of_le_length (by simp [zeros])]
  exact List.take_of_length_le (by simp [zeros])

end Commands

/-- Settles O39: the clauses are one lemma each; an urgent request of an idle converter is said once for both sources of it. The
instant clk.now is the model's own (log entry 3). -/
theorem auxSensingCommandsComplete : Obligations.AuxSensingCommandsComplete := by
  unfold Obligations.AuxSensingCommandsComplete
  refine ⟨?_, ?_, ?_, ?_, ?_, ?_, ?_, ?_⟩
  · exact fun _ ch code ovr under hd3 hidle => execAdcConversionComplete_idle_next ch code ovr under hd3 hidle
  · exact fun _ ch conv code ovr under _ hd3 hrunning =>
      execAdcConversionComplete_running_next ch conv code ovr under hd3 hrunning
  · exact fun _ conv hd3 hidle => execUrgentAdcRequest_next conv hd3 hidle
  · exact fun _ busy conv _ hd3 hrising htrig hch hidle => execAdcTrigEdge_next busy conv hd3 hrising htrig hch hidle
  · exact fun _ _ _ htarget hi hserving hbelow => execITempRaiseStep_next htarget hi hserving hbelow
  · exact fun _ _ _ htaken hmask hmask24 => execAuxRead_next htaken hmask hmask24
  · exact fun _ _ _ _ htaken hch hn hn64 hfree => execAuxConvert_next htaken hch hn hn64 hfree
  · exact fun _ _ _ htaken hn hn64 => execAuxTrigRead_next htaken hn hn64

/-! Nightlatch: the clock, the idle current and the wakes (R521–R526). -/

theorem nlEvent_nl (event subject value : Nat) (s : State) : (nlEvent event subject value s).nl = s.nl :=
  kept_nl (by simp (disch := decide))

theorem tamperOn_nl (src : Nat) (s : State) : (tamperOn src s).nl = s.nl := kept_nl (by simp (disch := decide))

theorem tamperOff_nl (src : Nat) (s : State) : (tamperOff src s).nl = s.nl := kept_nl (by simp (disch := decide))

/-- A wake seen enters the wakes due alone. -/
theorem wakeSeen_nl (n : Nat) (s : State) : ∃ w, (wakeSeen n s).nl = { s.nl with wakeDue := w } := by
  unfold wakeSeen
  split
  · exact ⟨_, rfl⟩
  · exact ⟨s.nl.wakeDue, rfl⟩

theorem execRtcDiscipline_next {s : State} (ppb : Int) (hrails : s.pwr.rails = true) (hd2 : s.dom.d2 = true) : ∃ t,
    execRtcDiscipline ppb s = .next t ∧ t.nl.offsets = (ppb :: s.nl.offsets).take 1000 ∧
      t.nl.ppb = divRound (sumI t.nl.offsets) t.nl.offsets.length ∧
      t.nl.rtc = (if s.nl.rtcValid = true then civilNow s else s.nl.rtc) := by
  unfold execRtcDiscipline
  refine exists_next_of_whenever (by rw [hrails, hd2]; rfl) fun t ht => ?_
  rw [ht]
  exact ⟨rfl, rfl, rfl⟩

theorem execIdleCheckArm_next {s : State} (hd0 : s.dom.d0 = true) (hd2 : s.dom.d2 = true) (hmode : idleMode s = true)
    (hcoil : coilOn s = false) (harmed : s.nl.armed = false) : ∃ t, execIdleCheckArm s = .next t ∧ t.nl.armed = true ∧
      t.nl.above = [0, 0, 0, 0] ∧ t.nl.below = 0 ∧
      t.clk.now = max s.clk.now (s.nl.openSince.getD s.mode.startAt + Tick.ms 500) := by
  unfold execIdleCheckArm
  refine exists_next_of_whenever (by rw [hd0, hd2, hmode, hcoil, harmed]; rfl) fun t ht => ?_
  rw [ht]
  exact ⟨rfl, rfl, rfl, rfl⟩

/-- The block of samples: its RMS values and how far it has come. -/
def idleBlock (n : Nightlatch) : List Nat × Nat := (n.idleRms, n.accN)

/-- The start of an idle current is reported over the block that found it. -/
theorem idleBlock_begin (x value : Nat) (s : State) :
    idleBlock (wakeSeen 5 (nlEvent 1 x value (tamperOn 3 (setNl (fun n => { n with idle := true }) s)))).nl = idleBlock s.nl := by
  obtain ⟨w, hw⟩ := wakeSeen_nl 5 (nlEvent 1 x value (tamperOn 3 (setNl (fun n => { n with idle := true }) s)))
  rw [hw, nlEvent_nl, tamperOn_nl]
  rfl

/-- The end of an idle current is reported over the block that found it. -/
theorem idleBlock_end (value : Nat) (s : State) :
    idleBlock (nlEvent 2 0 value (tamperOff 3 (setNl (fun n => { n with idle := false }) s))).nl = idleBlock s.nl := by
  rw [nlEvent_nl, tamperOff_nl]
  rfl

theorem execIdleCurrentBlock_next {s : State} (harmed : idleArmed s = true) (hd2 : s.dom.d2 = true) (hfull : 100 ≤ s.nl.accN) :
    ∃ t, execIdleCurrentBlock s = .next t ∧ t.nl.idleRms = (List.range 4).map (fun x => min 0xFFFF (blockRms s x)) ∧
      t.nl.accN = 0 := by
  unfold execIdleCurrentBlock
  refine exists_next_of_whenever (by rw [harmed, hd2, decide_eq_true hfull]; rfl) fun t ht => ?_
  extract_lets ok level rms lim above quiet measured at ht
  have hblock : idleBlock t.nl = idleBlock measured.nl := by
    rw [ht]
    split
    · split
      · rfl
      · exact idleBlock_begin _ _ measured
    · split
      · exact idleBlock_end _ measured
      · rfl
  exact ⟨congrArg Prod.fst hblock, congrArg Prod.snd hblock⟩

theorem execWatchRule_next {s : State} {i : Nat} {r : RuleState} {at0 : Tick} (hr : s.nl.rules[i]? = some r)
    (hsince : r.since = some at0) (hd3 : s.dom.d3 = true) (haction : ruleAction s i ≠ 0) : ∃ t,
    execWatchRule i s = .next t ∧ t.nl.rules = s.nl.rules.set i { active := !r.active, since := none } ∧
      t.clk.now = max s.clk.now (at0 + Tick.ms (100 * ruleTime s i)) := by
  unfold execWatchRule
  rw [hr]
  dsimp -zeta only
  rw [hsince]
  refine exists_next_of_whenever (by rw [hd3, bne_iff_ne.mpr haction]; rfl) fun t ht => ?_
  extract_lets waited code rules turned told at ht
  have htold : told.nl = turned.nl := nlEvent_nl _ _ _ turned
  have hclk : t.clk = waited.clk := by
    rw [ht]
    split
    · exact kept_clk (by simp (disch := decide) [told, turned, rules])
    · exact kept_clk (by simp (disch := decide) [told, turned, rules])
  have hrules : t.nl.rules = told.nl.rules := by
    rw [ht]
    split
    · obtain ⟨w, hw⟩ := wakeSeen_nl 5 told
      rw [hw]
    · rfl
  exact ⟨by rw [hrules, htold]; rfl, congrArg Clock.now hclk⟩

theorem execWakeOutPulseEnd_next {s : State} {at0 : Tick} (hpulse : s.nl.wakePulse = some at0) : execWakeOutPulseEnd s =
    .next (setNl (fun n => { n with wakeOut := false, wakePulse := none }) (advanceTo at0 s)) := by
  rw [execWakeOutPulseEnd, hpulse]

theorem execNlStatus_next {s : State} {r : Req} (htaken : Taken 0x1003 r s) : ∃ body,
    execNlStatus r s = .next (reply r 0x1003 stOk body s) ∧ body = s.nl.idleRms.flatMap (le 2)
      ++ le 1 (packBits [idleArmed s, s.nl.idle, s.nl.wakeOut, s.nl.vbatLow, s.nl.rtcLost, s.nl.overflowed])
      ++ le 1 (packBits (s.nl.rules.mapIdx fun i r => r.active && ruleAction s i != 0)) ++ le 2 ((s.adc.values[23]?).getD 0).toNat ++ leI 4 s.nl.ppb
      ++ leI 8 s.nl.outageStart ++ leI 8 s.nl.outageEnd ++ le 1 (s.nl.wakeSrc.getD 0xFF) ++ zeros 3 :=
  ⟨_, brixo_of_answer htaken rfl, rfl⟩

theorem execNlWakeAck_next {s : State} {r : Req} (htaken : Taken 0x1004 r s) :
    execNlWakeAck r s = .next (reply r 0x1004 stOk [] (lowerWakeOut s)) :=
  brixo_of_answer htaken rfl

theorem execHspiCsFalling_next {s : State} (wire : List Byte) (clocks : Nat) (hrails : s.pwr.rails = true) :
    execHspiCsFalling wire clocks s = .next (spiTransaction wire clocks (lowerWakeOut (wakeSeen 2 s))) :=
  next_of_whenever hrails rfl

/-- Settles O40: the clauses are one lemma each; what an idle current reports leaves the block that found it. That WAKE_OUT falls
with the acknowledgement and with HSPI_CS is the model's choice (log entry 56), and the instant clk.now is its own (log
entry 3). -/
theorem nightlatchCommandsComplete : Obligations.NightlatchCommandsComplete := by
  unfold Obligations.NightlatchCommandsComplete
  refine ⟨?_, ?_, ?_, ?_, ?_, ?_, ?_, ?_⟩
  · exact fun _ ppb hrails hd2 => execRtcDiscipline_next ppb hrails hd2
  · exact fun _ hd0 hd2 hmode hcoil harmed => execIdleCheckArm_next hd0 hd2 hmode hcoil harmed
  · exact fun _ harmed hd2 hfull => execIdleCurrentBlock_next harmed hd2 hfull
  · exact fun _ _ _ _ hr hsince hd3 haction => execWatchRule_next hr hsince hd3 haction
  · exact fun _ _ hpulse => execWakeOutPulseEnd_next hpulse
  · exact fun _ _ htaken => execNlStatus_next htaken
  · exact fun _ _ htaken => execNlWakeAck_next htaken
  · exact fun _ wire clocks hrails => execHspiCsFalling_next wire clocks hrails

end Sys2Proof.AuxiliarySensing

/-! The event recorder and the service port (24, 25): which next state each clock and each command of the recorder, of the RS-485
port, of the battery and of the 12 V output answers. -/

namespace Sys2Proof.RecorderPort

open Sys2Proof Sys2Proof.Machine Sys2Proof.Safety Sys2Proof.Laws Sys2Proof.Frames Sys2Proof.ModesPower
  Sys2Proof.KilnEnginePool Sys2Proof.MeasurementInputs

/-! The recorder (R535–R537, R541). -/

theorem execDiagTokenRefill_next {s : State} {n : Nat} {b : Bucket} {at0 : Tick} (hb : s.diag.buckets[n]? = some b)
    (hsince : b.since = some at0) (hd3 : s.dom.d3 = true) : ∃ t, execDiagTokenRefill n s = .next t ∧
      t.diag.buckets = s.diag.buckets.set n (refill t b) ∧
      t.clk.now = max s.clk.now (at0 + divCeil ((b.given + 1) * Tick.s 60) (max 1 (param s 0x0F01))) := by
  unfold execDiagTokenRefill
  rw [hb]
  dsimp -zeta only
  rw [hsince]
  refine exists_next_of_whenever hd3 fun t ht => ?_
  rw [ht]
  exact ⟨rfl, rfl⟩

/-- With no freeze and nothing queued, the end of the freeze leaves the recorder as it is. -/
theorem endFreeze_of_empty {s : State} (hqueue : s.diag.queue = []) :
    endFreeze s = { s with diag := { s.diag with freeze := none, queue := [] } } := by
  rw [endFreeze, hqueue]
  rfl

/-- A record that no notification tells of (R534, R540). -/
theorem diagWrite_of_silent {d : DiagRec} {s : State} (hsilent : param s 0x0F04 ≠ 1) :
    diagWrite d s = { s with diag := { s.diag with ring := pushRing 1024 s.diag.ring d } } := by
  have hput : diagPut d s = ({ s with diag := { s.diag with ring := pushRing 1024 s.diag.ring d } }, none) := by
    unfold diagPut
    exact if_neg (by rw [ShutterSafety.param_of_par (s := s) (by rfl)]; exact hsilent)
  rw [diagWrite, hput]
  rfl

/-- The recorder that DIAG_CLEAR leaves, but for its own record (R537). -/
def emptied (s : State) : State := { s with diag := { s.diag with
  freeze := none, queue := [], ring := [], lost := 0, buckets := List.replicate 18 { tokens := param s 0x0F02 } } }

section Commands
variable {s : State} {r : Req}

theorem execDiagStatus_next (htaken : Taken 0x0F00 r s) : ∃ body, execDiagStatus r s = .next (reply r 0x0F00 stOk body s) ∧
    body = le 2 s.diag.ring.length ++ le 1 (b2n s.diag.freeze.isSome) ++ le 1 ((s.diag.freeze.map (·.1.code)).getD 0xFF)
      ++ le 2 s.diag.lost ++ zeros 2 ++ s.diag.buckets.flatMap fun b => le 2 b.supp :=
  ⟨_, brixo_of_answer htaken rfl, rfl⟩

theorem execDiagRead_next {first n : Nat} {es : List DiagRec} (htaken : Taken 0x0F01 r s) (hn : n ≠ 0) (hn63 : n ≤ 63)
    (hes : es = (s.diag.ring.drop first).take (if r.sender = .letterbox then min 3 n else n)) : execDiagRead r first n s =
      .next (reply r 0x0F01 stOk (le 2 first ++ le 1 es.length ++ le 1 (b2n s.diag.freeze.isSome) ++
        le 2 s.diag.ring.length ++ zeros 2 ++ es.flatMap diagBytes) s) := by
  rw [hes]
  exact brixo_of_answer htaken (if_neg (by omega))

theorem execDiagFreeze_next (htaken : Taken 0x0F02 r s) (hfreeze : s.diag.freeze = none) (hholdup : inHoldup s = false) :
    ∃ body, execDiagFreeze r 1 s =
      .next (reply r 0x0F02 stOk body { s with diag := { s.diag with freeze := some (r.sender, s.clk.now) } }) ∧
    body.take 2 = le 2 s.diag.ring.length := by
  refine ⟨freezeBody { s with diag := { s.diag with freeze := some (r.sender, s.clk.now) } }, brixo_of_answer htaken ?_, ?_⟩
  · simp [hfreeze, hholdup]
  · simp [freezeBody]

theorem execDiagClear_next (htaken : Taken 0x0F03 r s) (hholdup : inHoldup s = false) (hqueue : s.diag.queue = [])
    (hsilent : param s 0x0F04 ≠ 1) : ∃ t,
    execDiagClear r s = .next (reply r 0x0F03 stOk (le 2 s.diag.ring.length) t) ∧ t.diag.freeze = none ∧
      t.diag.ring.length = 1 ∧ t.diag.lost = 0 := by
  refine ⟨diagWrite (diagRecord (emptied s) 0x0F80 r.sender.code 0) (emptied s), brixo_of_answer htaken ?_, ?_⟩
  · rw [if_neg (ne_true_of_eq_false hholdup), endFreeze_of_empty hqueue]
    rfl
  · have hparam : param (emptied s) 0x0F04 = param s 0x0F04 := ShutterSafety.param_of_par rfl _
    rw [diagWrite_of_silent (by rw [hparam]; exact hsilent)]
    refine ⟨rfl, ?_, rfl⟩
    rw [BillingTariffs.pushRing_length]
    rfl

end Commands

theorem execFreezeTimeout_next {s : State} {f : Sender × Tick} (hfreeze : s.diag.freeze = some f) (hd3 : s.dom.d3 = true) :
    execFreezeTimeout s = .next (endFreeze (advanceTo (f.2 + Tick.s (param s 0x0F03)) s)) := by
  rw [execFreezeTimeout, hfreeze]
  exact next_of_whenever hd3 rfl

/-! The RS-485 port (R557). -/

theorem execRs485ByteReceived_next {s : State} (b : Nat) (parity framing : Bool) (hport : portRuns s = true)
    (hdriver : s.rs.driver = false) (hroom : s.rs.rx.length < 256) : execRs485ByteReceived b parity framing s =
      .next (setRs (fun r => { r with
        rx := r.rx ++ [BitVec.ofNat 8 b], flags := r.flags ||| packBits [parity, framing], last := some s.clk.now }) s) :=
  next_of_whenever (by rw [hport, hdriver]; rfl) (by rw [setRs, if_neg (Nat.not_le.mpr hroom)]; rfl)

theorem notify_rs (cls code : Nat) (body : List Byte) (s : State) : (notify cls code body s).rs = s.rs :=
  kept_rs (by simp (disch := decide))

theorem notify_clk (cls code : Nat) (body : List Byte) (s : State) : (notify cls code body s).clk = s.clk :=
  kept_clk (by simp (disch := decide))

theorem execRs485FrameEnd_next {s : State} {at0 : Tick} (hlast : s.rs.last = some at0) (hport : portRuns s = true) : ∃ t,
    execRs485FrameEnd s = .next t ∧ t.rs.rx = [] ∧ t.rs.flags = 0 ∧ t.rs.last = none ∧
      t.clk.now = max s.clk.now (at0 + tEnd s) := by
  unfold execRs485FrameEnd
  rw [hlast]
  refine exists_next_of_whenever hport fun t ht => ?_
  extract_lets waited r taken at ht
  have hrs : t.rs = taken.rs := by
    rw [ht]
    split
    · rfl
    · exact notify_rs _ _ _ taken
  have hclk : t.clk = taken.clk := by
    rw [ht]
    split
    · rfl
    · exact notify_clk _ _ _ taken
  rw [hrs, hclk]
  exact ⟨rfl, rfl, rfl, rfl⟩

theorem execSysRs485Send_next {s : State} {r : Req} {data : List Byte} (htaken : Taken 0x0160 r s) (hdata : data ≠ [])
    (hlen : data.length ≤ 256) (hport : portRuns s = true) (hsend : s.rs.send = none) :
    execSysRs485Send r data.length data s = .next (setRs (fun x => { x with
      send := some (r, data), driver := x.last.isNone, driverAt := s.clk.now }) s) :=
  brixo_of_later htaken (by simp [hdata, Nat.not_lt.mpr hlen, hport, hsend])

theorem execRs485SendComplete_next {s : State} {r : Req} {d : List Byte} (hsend : s.rs.send = some (r, d))
    (hport : portRuns s = true) (hdriver : s.rs.driver = true) : execRs485SendComplete s =
      .next (replyTo (some r) 0x0160 stOk (le 2 d.length ++ zeros 2) (setRs (fun y => { y with
          send := none, driver := false
          last := some (max s.clk.now (s.rs.driverAt + divCeil ((d.length * charBits s + 2) * Tick.s 1)
            (max 1 (param s 0x010C)))) })
        (advanceTo (s.rs.driverAt + divCeil ((d.length * charBits s + 2) * Tick.s 1) (max 1 (param s 0x010C))) s))) := by
  rw [execRs485SendComplete, hsend]
  exact next_of_whenever (by rw [hport, hdriver]; rfl) rfl

/-! The battery and the 12 V output (R546, R547). -/

theorem execVbatApplied_next {s : State} (hvbat : s.pwr.vbat = false) (hrails : s.pwr.rails = false) : ∃ t,
    execVbatApplied s = .next t ∧ t.pwr.vbat = true ∧ t.dom.d0 = true ∧ t.nl.rtcValid = false := by
  unfold execVbatApplied
  refine exists_next_of_whenever (by rw [hvbat]; rfl) fun t ht => ?_
  extract_lets applied at ht
  rw [if_neg (by exact ne_true_of_eq_false hrails)] at ht
  rw [ht]
  exact ⟨rfl, rfl, rfl⟩

theorem execV12OutOverload_next {s : State} (hout : s.pwr.v12Out = true) : ∃ t, execV12OutOverload s = .next t ∧
    t.pwr.v12Out = false ∧ t.pwr.v12Tripped = some s.clk.now := by
  unfold execV12OutOverload
  refine exists_next_of_whenever hout fun t ht => ?_
  rw [ht]
  exact ⟨rfl, rfl⟩

theorem execV12OutRestart_next {s : State} {at0 : Tick} (htripped : s.pwr.v12Tripped = some at0)
    (hrails : s.pwr.rails = true) : ∃ t, execV12OutRestart s = .next t ∧ t.pwr.v12Out = true ∧
      t.pwr.v12Tripped = none ∧ t.clk.now = max s.clk.now (at0 + Tick.s 1) := by
  unfold execV12OutRestart
  rw [htripped]
  refine exists_next_of_whenever hrails fun t ht => ?_
  rw [ht]
  exact ⟨rfl, rfl, rfl⟩

/-- Settles O41: the clauses are one lemma each; a record that no notification tells of drops none. That the battery starts the RTC
without a time is the model's choice (log entry 56), and the instant clk.now is its own (log entry 3). -/
theorem recorderPortCommandsComplete : Obligations.RecorderPortCommandsComplete := by
  unfold Obligations.RecorderPortCommandsComplete
  refine ⟨?_, ?_, ?_, ?_, ?_, ?_, ?_, ?_, ?_, ?_, ?_, ?_, ?_⟩
  · exact fun _ _ _ _ hb hsince hd3 => execDiagTokenRefill_next hb hsince hd3
  · exact fun _ _ htaken => execDiagStatus_next htaken
  · exact fun _ _ _ _ _ htaken hn hn63 hes => execDiagRead_next htaken hn hn63 hes
  · exact fun _ _ htaken hfreeze hholdup => execDiagFreeze_next htaken hfreeze hholdup
  · exact fun _ _ htaken hholdup _ hqueue hsilent => execDiagClear_next htaken hholdup hqueue hsilent
  · exact fun _ _ hfreeze hd3 => execFreezeTimeout_next hfreeze hd3
  · exact fun _ b parity framing hport hdriver hroom => execRs485ByteReceived_next b parity framing hport hdriver hroom
  · exact fun _ _ hlast hport => execRs485FrameEnd_next hlast hport
  · exact fun _ _ _ htaken hdata hlen hport hsend => execSysRs485Send_next htaken hdata hlen hport hsend
  · exact fun _ _ _ hsend hport hdriver => execRs485SendComplete_next hsend hport hdriver
  · exact fun _ hvbat hrails => execVbatApplied_next hvbat hrails
  · exact fun _ hout => execV12OutOverload_next hout
  · exact fun _ _ htripped hrails => execV12OutRestart_next htripped hrails

end Sys2Proof.RecorderPort

/-! The invariants of a step (95), one property of the next state at a time: the numbers of channels, semaphores and THROUGH
values, the timebase, and the byte memory. -/

namespace Sys2Proof.Invariants

open Sys2Proof Sys2Proof.Machine Sys2Proof.Safety Sys2Proof.Laws

/-- Whatever next state an outcome answers has a property. -/
def Answers (P : State → Prop) (o : Out) : Prop := ∀ t, o = .next t → P t

section Shapes

variable {P : State → Prop} {s : State}

theorem answers_next {t : State} (h : P t) : Answers P (.next t) := by
  rintro _ ⟨⟩
  exact h

theorem answers_whenever {c : Bool} {f : State → State} (hs : P s) (hf : P (f s)) : Answers P (whenever c s f) := by
  refine answers_next ?_
  split
  · exact hf
  · exact hs

theorem answers_fieldCmd {dest : Nat} {f : State → State} (hnone : P (rfAnswer .none s)) (hf : P (f s)) :
    Answers P (fieldCmd dest s f) := by
  refine answers_next ?_
  split
  · exact hf
  · exact hnone

theorem answers_received {dst : Nat} {f : State → State} (hs : P s) (hwatch : P (mcWatch dst s)) (hf : P (f s)) :
    Answers P (received dst s f) := by
  unfold received
  split
  · refine answers_next ?_
    split
    · exact hwatch
    · exact hs
  · exact answers_whenever hs hf

/-- A request is not taken, is refused with a status, or does its work and is answered (R283; log entry 7). -/
theorem answers_brixo {code : Nat} {r : Req} {f : State → Answer} (hs : P s)
    (hreply : ∀ st body u, P u → P (reply r code st body u)) (hf : P (f s).state) : Answers P (brixo code r s f) := by
  unfold brixo
  split
  · split
    · exact answers_next (hreply _ _ s hs)
    · refine answers_next ?_
      split
      · exact hreply _ _ _ hf
      · exact hf
  · exact answers_next hs

/-- A command run for its effect alone leaves what it answers, or the state as it is. -/
theorem after_of_answers {o : Out} (hs : P s) (h : Answers P o) : P (after o s) := by
  unfold after
  split
  · exact h _ rfl
  · exact hs

end Shapes

/-! The host SPI port (R269, R271): what the register commands keep, a whole transaction keeps. -/

/-- The commands that a word of the register window, or a byte of the bulk window, stands for. -/
def isRegister : Instr → Bool
  | .h2mDataWrite _ _ | .h2mAckRead _ | .h2mFlush _ | .h2mOverflowClear _ | .m2hDataRead _ | .m2hAckWrite _ _
  | .m2hUnderflowClear _ | .irqStatusClear _ | .registerWrite _ _ | .dctrlWrite _ _ | .dstatClear _ _
  | .descriptorCommit _ _ | .descriptorStagingWrite _ _ _ | .semaphoreRead _ _ | .semaphoreRelease _ _ _
  | .wedgeRegisterWrite _ _ _ => true
  | _ => false

/-- A property that every register command keeps, and a word read that is open (log entry 83). -/
structure RegisterClosed (P : State → Prop) : Prop where
  command : ∀ c s, isRegister c = true → P s → Answers P (exec c s)
  openWord : ∀ s, P s → P (takeFree s).2
  driven : ∀ bytes s, P s → P (setHatch (fun h => { h with spiOut := bytes }) s)

namespace RegisterClosed

variable {P : State → Prop} (hP : RegisterClosed P)

include hP

theorem after_command (c : Instr) {s : State} (hc : isRegister c = true) (hs : P s) : P (after (exec c s) s) :=
  after_of_answers hs (hP.command c s hc hs)

theorem chanRead (c o : Nat) {s : State} (hs : P s) : P (chanRead c o s).2 := by
  unfold Machine.chanRead
  dsimp only
  split
  case h_2 => exact hP.after_command (.h2mAckRead c) rfl hs
  case h_4 => exact hP.after_command (.m2hDataRead c) rfl hs
  case h_7 => exact hP.openWord s hs
  all_goals exact hs

theorem regRead (a : Nat) {s : State} (hs : P s) : P (regRead a s).2 := by
  have hchan := hP.chanRead ((a - 0x0100) / 0x20) (a % 0x20) hs
  have hsem := hP.after_command (.semaphoreRead ((a - 0x0200) / 4) 0x10) rfl hs
  unfold Machine.regRead
  simp only [apply_ite Prod.snd]
  repeat' split
  all_goals assumption

theorem chanWrite (c o w : Nat) {s : State} (hs : P s) : P (chanWrite c o w s) := by
  have hflush : P (if bitN w 2 then after (execH2mFlush c s) s else s) := by
    split
    · exact hP.after_command (.h2mFlush c) rfl hs
    · exact hs
  unfold Machine.chanWrite
  split
  · exact hP.after_command (.h2mDataWrite c w) rfl hs
  · dsimp only
    split
    · exact hP.after_command (.h2mOverflowClear c) rfl hflush
    · exact hflush
  · exact hP.after_command (.m2hAckWrite c w) rfl hs
  · split
    · exact hP.after_command (.m2hUnderflowClear c) rfl hs
    · exact hs
  · exact hs

theorem dmaWrite (c o w : Nat) {s : State} (hs : P s) : P (dmaWrite c o w s) := by
  unfold Machine.dmaWrite
  split
  · exact hP.after_command (.dctrlWrite c w) rfl hs
  · exact hP.after_command (.dstatClear c w) rfl hs
  · exact hP.after_command (.registerWrite _ w) rfl hs
  · exact hs
  · exact hP.after_command (.descriptorCommit c w) rfl hs
  · exact hP.after_command (.descriptorStagingWrite c _ w) rfl hs

theorem regWrite (a w : Nat) {s : State} (hs : P s) : P (regWrite a w s) := by
  have hirq := hP.after_command (.irqStatusClear w) rfl hs
  have hreg := hP.after_command (.registerWrite a w) rfl hs
  have hchan := hP.chanWrite ((a - 0x0100) / 0x20) (a % 0x20) w hs
  have hsem := hP.after_command (.semaphoreRelease ((a - 0x0200) / 4) 0x10 w) rfl hs
  have hdma := hP.dmaWrite ((a - 0x0400) / 0x40) (a % 0x40) w hs
  have hwedge := hP.after_command (.wedgeRegisterWrite ((a - 0x0800) / 4) w .hostSpi) rfl hs
  unfold Machine.regWrite
  repeat' split
  all_goals assumption

theorem spiRead (fuel a n : Nat) {s : State} (hs : P s) : P (spiRead fuel a n s).2 := by
  induction fuel generalizing a n s with
  | zero => exact hs
  | succ fuel ih =>
    unfold Machine.spiRead
    split
    · exact hs
    · split
      · exact ih _ _ (hP.regRead a hs)
      · exact ih _ _ hs

theorem spiWrite (fuel a : Nat) (bs : List Byte) {s : State} (hs : P s) : P (spiWrite fuel a bs s) := by
  induction fuel generalizing a bs s with
  | zero => exact hs
  | succ fuel ih =>
    unfold Machine.spiWrite
    split
    · split
      · exact hs
      · exact ih _ _ (hP.regWrite a _ hs)
    · split
      · exact hs
      · exact ih _ _ (hP.after_command (.registerWrite a _) rfl hs)

theorem spiTransaction (wire : List Byte) (clocks : Nat) {s : State} (hs : P s) : P (spiTransaction wire clocks s) := by
  unfold Machine.spiTransaction
  split
  · dsimp only
    split
    · exact hs
    · split
      · exact hs
      · split
        · exact hP.spiWrite _ _ _ hs
        · exact hP.driven _ _ (hP.spiRead _ _ _ hs)
  · exact hs

end RegisterClosed

/-- A step idles or runs a command on the machine with the rest of the queue. -/
theorem step_cases {s t : State} (hstep : step s = .next t) :
    t = s ∨ ∃ c rest, exec c { s with pending := rest } = .next t := by
  cases hqueue : s.pending with
  | nil =>
    rw [StepKeeps.step_of_empty hqueue] at hstep
    cases hstep
    exact .inl rfl
  | cons c rest =>
    rw [StepKeeps.step_of_cons hqueue] at hstep
    exact .inr ⟨c, rest, hstep⟩

end Sys2Proof.Invariants

/-! The number of Hatch channels (R276). Only queue placement, the ends of a queue, the bulk slots and the resets write the
channels; the other operations reach Hatch through the notification store, the replies or the sequence states. Each keeps the
number; the restarts make the eight channels anew. -/

namespace Sys2Proof.HatchChannels

open Sys2Proof Sys2Proof.Machine Sys2Proof.Safety Sys2Proof.Laws Sys2Proof.Frames Sys2Proof.Invariants

/-- Every block but Hatch: what an operation does to these blocks its frame takes away (Laws.Frame). -/
abbrev butHatch : Block → Bool := fun b => b != .hatch

/-- The number of Hatch channels. -/
def chanCount (s : State) : Nat := s.hatch.chans.length

section Rules

variable {s : State}

@[simp] theorem chanCount_setHatch {f : Hatch → Hatch} (hf : ∀ h, (f h).chans.length = h.chans.length) :
    chanCount (forget butHatch (setHatch f s)) = chanCount (forget butHatch s) := hf _

@[simp] theorem chanCount_ite_iff {c : Prop} {_ : Decidable c} {a b : State} {n : Nat} :
    chanCount (forget butHatch (if c then a else b)) = n ↔
      (c → chanCount (forget butHatch a) = n) ∧ (¬ c → chanCount (forget butHatch b) = n) := by
  split <;> simp_all

@[simp] theorem chanCount_foldl {α : Type} (f : State → α → State) (l : List α)
    (hf : ∀ t a, chanCount (forget butHatch (f t a)) = chanCount (forget butHatch t)) :
    chanCount (forget butHatch (l.foldl f s)) = chanCount (forget butHatch s) := by
  induction l generalizing s with
  | nil => rfl
  | cons a l ih => rw [List.foldl_cons, ih, hf]

@[simp] theorem chanCount_atEpoch (e : Nat) {f : State → State}
    (hf : ∀ t, chanCount (forget butHatch (f t)) = chanCount (forget butHatch t)) :
    chanCount (forget butHatch (atEpoch e f s)) = chanCount (forget butHatch s) := by
  unfold atEpoch
  exact hf _

end Rules

theorem storeNote_chans (h : Hatch) (n : Note) : (storeNote h n).1.chans = h.chans := by
  unfold storeNote
  dsimp only
  (repeat' split) <;> rfl

/-! The operations, in the order of their frames. -/

@[simp] theorem chanCount_queueNote (st cls code : Nat) (body : List Byte) (s : State) :
    chanCount (forget butHatch (queueNote st cls code body s).1) = chanCount (forget butHatch s) := by
  unfold queueNote
  split
  · exact congrArg List.length (storeNote_chans _ _)
  · rfl

@[simp] theorem chanCount_diagPut (d : DiagRec) (s : State) :
    chanCount (forget butHatch (diagPut d s).1) = chanCount (forget butHatch s) := by
  unfold diagPut
  dsimp only
  (repeat' split) <;> simp

@[simp] theorem chanCount_diagOnce (n subject : Nat) (s : State) :
    chanCount (forget butHatch (diagOnce n subject s).1) = chanCount (forget butHatch s) := by
  unfold diagOnce
  dsimp only
  (repeat' split) <;> simp

@[simp] theorem chanCount_dropTrigger (n : Nat) (p : State × Option Nat) :
    chanCount (forget butHatch (dropTrigger n p)) = chanCount (forget butHatch p.1) := by
  induction n generalizing p with
  | zero => obtain ⟨s, d⟩ := p; cases d <;> rfl
  | succ k ih =>
    obtain ⟨s, d⟩ := p
    cases d with
    | none => rfl
    | some c => exact (ih _).trans (chanCount_diagOnce 7 c s)

@[simp] theorem chanCount_diagTrigger (n subject : Nat) (s : State) :
    chanCount (forget butHatch (diagTrigger n subject s)) = chanCount (forget butHatch s) := by
  simp [diagTrigger]

@[simp] theorem chanCount_notifySt (st cls code : Nat) (body : List Byte) (s : State) :
    chanCount (forget butHatch (notifySt st cls code body s)) = chanCount (forget butHatch s) := by
  simp [notifySt]

@[simp] theorem chanCount_notify (cls code : Nat) (body : List Byte) (s : State) :
    chanCount (forget butHatch (notify cls code body s)) = chanCount (forget butHatch s) := by
  simp [notify]

@[simp] theorem chanCount_dmaDone (c idx status : Nat) (ws : List Nat) (done : Nat) (s : State) :
    chanCount (forget butHatch (dmaDone c idx status ws done s)) = chanCount (forget butHatch s) := by
  simp [dmaDone]

@[simp] theorem chanCount_dmaBack (c idx status done : Nat) (s : State) :
    chanCount (forget butHatch (dmaBack c idx status done s)) = chanCount (forget butHatch s) := by
  unfold dmaBack
  dsimp only
  (repeat' split) <;> simp

@[simp] theorem chanCount_dmaAbort (c : Nat) (s : State) :
    chanCount (forget butHatch (dmaAbort c s).1) = chanCount (forget butHatch s) := by
  have hring (l : List Nat) (p : State × Nat) : chanCount (forget butHatch (l.foldl (fun p i =>
      if dOwn (((dmaChan p.1 c).ring[i]?).getD []) then (dmaBack c i 1 0 p.1, p.2 + 1) else p) p).1) =
        chanCount (forget butHatch p.1) := by
    induction l generalizing p with
    | nil => rfl
    | cons i l ih =>
      rw [List.foldl_cons, ih]
      split <;> simp
  unfold dmaAbort
  dsimp only
  rw [forget_setDma _ _ _ rfl, hring]
  split
  · rfl
  · split <;> simp

@[simp] theorem chanCount_abortHostDma (s : State) :
    chanCount (forget butHatch (abortHostDma s)) = chanCount (forget butHatch s) := by
  simp [abortHostDma]

@[simp] theorem chanCount_acceptSeq (snd : Sender) (c q op : Nat) (payload : List Byte) (s : State) :
    chanCount (forget butHatch (acceptSeq snd c q op payload s)) = chanCount (forget butHatch s) := rfl

@[simp] theorem chanCount_readAs (w : Nat) (s : State) :
    chanCount (forget butHatch (readAs w s)) = chanCount (forget butHatch s) := rfl

@[simp] theorem chanCount_ledEvent (e : Event) (s : State) :
    chanCount (forget butHatch (ledEvent e s)) = chanCount (forget butHatch s) := by
  unfold ledEvent
  split <;> simp

@[simp] theorem chanCount_storeEvent (e : Event) (s : State) :
    chanCount (forget butHatch (storeEvent e s)) = chanCount (forget butHatch s) := by
  simp [storeEvent]

@[simp] theorem chanCount_logNowF (code flags sender : Nat) (data : List Byte) (s : State) :
    chanCount (forget butHatch (logNowF code flags sender data s)) = chanCount (forget butHatch s) := by
  simp [logNowF]

@[simp] theorem chanCount_signConfig (id snd : Nat) (s : State) :
    chanCount (forget butHatch (signConfig id snd s)) = chanCount (forget butHatch s) := by
  unfold signConfig
  split <;> simp

@[simp] theorem chanCount_linEvent (event link peer : Nat) (s : State) :
    chanCount (forget butHatch (linEvent event link peer s)) = chanCount (forget butHatch s) := by
  simp [linEvent]

@[simp] theorem chanCount_rebuildTree (lost : Bool) (s : State) :
    chanCount (forget butHatch (rebuildTree lost s)) = chanCount (forget butHatch s) := by
  unfold rebuildTree
  dsimp only
  (repeat' split) <;> simp

@[simp] theorem chanCount_lbEvent (event page : Nat) (s : State) :
    chanCount (forget butHatch (lbEvent event page s)) = chanCount (forget butHatch s) := by
  simp [lbEvent]

@[simp] theorem chanCount_lbReply (packet : List Byte) (s : State) :
    chanCount (forget butHatch (lbReply packet s)) = chanCount (forget butHatch s) := by
  simp [lbReply]

@[simp] theorem chanCount_leave (snd : Sender) (packet : List Byte) (c q : Nat) (s : State) :
    chanCount (forget butHatch (leave snd packet c q s)) = chanCount (forget butHatch s) := by
  unfold leave
  (repeat' split) <;> simp

@[simp] theorem chanCount_sendReply (r : Req) (code : Nat) (payload : List Byte) (again : Bool) (s : State) :
    chanCount (forget butHatch (sendReply r code payload again s)) = chanCount (forget butHatch s) := by
  unfold sendReply
  dsimp only
  split
  · rfl
  · exact chanCount_leave _ _ _ _ _

@[simp] theorem chanCount_reply (r : Req) (code st : Nat) (body : List Byte) (s : State) :
    chanCount (forget butHatch (reply r code st body s)) = chanCount (forget butHatch s) := by
  simp [reply]

@[simp] theorem chanCount_replyTo (r : Option Req) (code st : Nat) (body : List Byte) (s : State) :
    chanCount (forget butHatch (replyTo r code st body s)) = chanCount (forget butHatch s) := by
  unfold replyTo
  (repeat' split) <;> simp

@[simp] theorem chanCount_stopPort (s : State) :
    chanCount (forget butHatch (stopPort s)) = chanCount (forget butHatch s) := by
  unfold stopPort
  dsimp only
  (repeat' split) <;> simp

@[simp] theorem chanCount_onEffect (id : Nat) (old new : Int) (eff snd : Nat) (s : State) :
    chanCount (forget butHatch (onEffect id old new eff snd s)) = chanCount (forget butHatch s) := by
  unfold onEffect
  (repeat' split) <;> simp

@[simp] theorem chanCount_putInForce (id : Nat) (v : Int) (eff snd : Nat) (s : State) :
    chanCount (forget butHatch (putInForce id v eff snd s)) = chanCount (forget butHatch s) := by
  simp [putInForce]

@[simp] theorem chanCount_promote (id : Nat) (s : State) :
    chanCount (forget butHatch (promote id s)) = chanCount (forget butHatch s) := by
  unfold promote
  (repeat' split) <;> simp

@[simp] theorem chanCount_recordWrite (p : ParamRow) (snd : Nat) (old new : Int) (s : State) :
    chanCount (forget butHatch (recordWrite p snd old new s)) = chanCount (forget butHatch s) := by
  unfold recordWrite
  dsimp only
  (repeat' split) <;> simp

@[simp] theorem chanCount_acceptWrite (p : ParamRow) (v : Int) (snd : Nat) (s : State) :
    chanCount (forget butHatch (acceptWrite p v snd s).2) = chanCount (forget butHatch s) := by
  unfold acceptWrite
  (repeat' split) <;> simp

@[simp] theorem chanCount_logNow (code : Nat) (data : List Byte) (s : State) :
    chanCount (forget butHatch (logNow code data s)) = chanCount (forget butHatch s) := by
  simp [logNow]

@[simp] theorem chanCount_activateCalendar (t : Int) (s : State) :
    chanCount (forget butHatch (activateCalendar t s)) = chanCount (forget butHatch s) := by
  unfold activateCalendar
  (repeat' split) <;> simp

@[simp] theorem chanCount_vehEventSt (st event endCause : Nat) (s : State) :
    chanCount (forget butHatch (vehEventSt st event endCause s)) = chanCount (forget butHatch s) := by
  simp [vehEventSt]

@[simp] theorem chanCount_shuEventSt (st event mask : Nat) (s : State) :
    chanCount (forget butHatch (shuEventSt st event mask s)) = chanCount (forget butHatch s) := by
  simp [shuEventSt]

@[simp] theorem chanCount_refusalNote (q : ShuReq) (st : Nat) (s : State) :
    chanCount (forget butHatch (refusalNote q st s)) = chanCount (forget butHatch s) := by
  unfold refusalNote
  split <;> simp

@[simp] theorem chanCount_refuseReq (q : ShuReq) (st : Nat) (s : State) :
    chanCount (forget butHatch (refuseReq q st s)) = chanCount (forget butHatch s) := by
  unfold refuseReq
  split <;> simp

@[simp] theorem chanCount_askShutter (q : ShuReq) (s : State) :
    chanCount (forget butHatch (askShutter q s)) = chanCount (forget butHatch s) := by
  unfold askShutter
  split <;> simp

@[simp] theorem chanCount_askPilot (s : State) :
    chanCount (forget butHatch (askPilot s)) = chanCount (forget butHatch s) := by
  unfold askPilot
  dsimp only
  (repeat' split) <;> simp

@[simp] theorem chanCount_putCredit (v : Int) (s : State) :
    chanCount (forget butHatch (putCredit v s)) = chanCount (forget butHatch s) := by
  unfold putCredit
  dsimp only
  (repeat' split) <;> simp

@[simp] theorem chanCount_creditPart (imp exp : Nat) (s : State) :
    chanCount (forget butHatch (creditPart imp exp s)) = chanCount (forget butHatch s) := by
  unfold creditPart
  split <;> simp

@[simp] theorem chanCount_attributeEpoch (e : Nat) (inc : List Nat) (s : State) :
    chanCount (forget butHatch (attributeEpoch e inc s)) = chanCount (forget butHatch s) := by
  simp [attributeEpoch]

@[simp] theorem chanCount_vehEvent (event endCause : Nat) (s : State) :
    chanCount (forget butHatch (vehEvent event endCause s)) = chanCount (forget butHatch s) := by
  simp [vehEvent]

@[simp] theorem chanCount_stopBegun (s : State) :
    chanCount (forget butHatch (stopBegun s)) = chanCount (forget butHatch s) := by
  unfold stopBegun
  split <;> simp

@[simp] theorem chanCount_creditWatch (s : State) :
    chanCount (forget butHatch (creditWatch s)) = chanCount (forget butHatch s) := by
  unfold creditWatch
  split <;> simp

@[simp] theorem chanCount_disconnectEvent (state cause : Nat) (s : State) :
    chanCount (forget butHatch (disconnectEvent state cause s)) = chanCount (forget butHatch s) := by
  simp [disconnectEvent]

@[simp] theorem chanCount_creditRestore (s : State) :
    chanCount (forget butHatch (creditRestore s)) = chanCount (forget butHatch s) := by
  unfold creditRestore
  dsimp only
  (repeat' split) <;> simp

@[simp] theorem chanCount_reached (e : Nat) (s : State) :
    chanCount (forget butHatch (reached e s)) = chanCount (forget butHatch s) := by
  unfold reached
  dsimp only
  (repeat' split) <;> simp

@[simp] theorem chanCount_attribGap (e : Nat) (s : State) :
    chanCount (forget butHatch (attribGap e s)) = chanCount (forget butHatch s) := by
  unfold attribGap
  split <;> simp

@[simp] theorem chanCount_attributeWhole (e : Nat) (x : EpochInc) (s : State) :
    chanCount (forget butHatch (attributeWhole e x s)) = chanCount (forget butHatch s) := by
  unfold attributeWhole
  dsimp only
  (repeat' split) <;> simp

@[simp] theorem chanCount_authNotify (q : AuthReq) (s : State) :
    chanCount (forget butHatch (authNotify q s)) = chanCount (forget butHatch s) := by
  simp [authNotify]

@[simp] theorem chanCount_beginSession (kind : Nat) (ident : List Byte) (bpt : Bool) (s : State) :
    chanCount (forget butHatch (beginSession kind ident bpt s)) = chanCount (forget butHatch s) := by
  simp [beginSession]

@[simp] theorem chanCount_refuseWaiting (p : ShuReq → Bool) (st : Nat) (s : State) :
    chanCount (forget butHatch (refuseWaiting p st s)) = chanCount (forget butHatch s) := by
  simp [refuseWaiting]

@[simp] theorem chanCount_shuEvent (event mask : Nat) (s : State) :
    chanCount (forget butHatch (shuEvent event mask s)) = chanCount (forget butHatch s) := by
  simp [shuEvent]

@[simp] theorem chanCount_beginStop (kind : StopKind) (bound : Tick) (s : State) :
    chanCount (forget butHatch (beginStop kind bound s)) = chanCount (forget butHatch s) := by
  unfold beginStop
  dsimp only
  (repeat' split) <;> simp

@[simp] theorem chanCount_closeBilling (endCivil : Int) (cause e : Nat) (s : State) :
    chanCount (forget butHatch (closeBilling endCivil cause e s)) = chanCount (forget butHatch s) := by
  simp [closeBilling]

@[simp] theorem chanCount_tariffSwitch (anyway : Bool) (t : Int) (s : State) :
    chanCount (forget butHatch (tariffSwitch anyway t s)) = chanCount (forget butHatch s) := by
  simp [tariffSwitch]

@[simp] theorem chanCount_closeAt (t : Int) (flags e own : Nat) (s : State) :
    chanCount (forget butHatch (closeAt t flags e own s)) = chanCount (forget butHatch s) := by
  unfold closeAt
  dsimp only
  (repeat' split) <;> simp

@[simp] theorem chanCount_boundaryWork (e : Nat) (t : Int) (x : EpochInc) (s : State) :
    chanCount (forget butHatch (boundaryWork e t x s)) = chanCount (forget butHatch s) := by
  unfold boundaryWork
  dsimp only
  (repeat' split) <;> simp

@[simp] theorem chanCount_cardEvent (event : Nat) (i : List Byte) (s : State) :
    chanCount (forget butHatch (cardEvent event i s)) = chanCount (forget butHatch s) := by
  simp [cardEvent]

@[simp] theorem chanCount_sagEvent (event subject : Nat) (s : State) :
    chanCount (forget butHatch (sagEvent event subject s)) = chanCount (forget butHatch s) := by
  simp [sagEvent]

@[simp] theorem chanCount_noteBad (k : Nat) (s : State) :
    chanCount (forget butHatch (noteBad k s)) = chanCount (forget butHatch s) := by
  unfold noteBad
  (repeat' split) <;> simp

@[simp] theorem chanCount_checkSlots (badSlots badCounts : Nat) (s : State) :
    chanCount (forget butHatch (checkSlots badSlots badCounts s)) = chanCount (forget butHatch s) := by
  unfold checkSlots
  split <;> simp

@[simp] theorem chanCount_chooseRoot (ok : Bool) (corrected attempts worst : Nat) (s : State) :
    chanCount (forget butHatch (chooseRoot ok corrected attempts worst s)) = chanCount (forget butHatch s) := by
  unfold chooseRoot
  dsimp only
  (repeat' split) <;> simp

@[simp] theorem chanCount_clearLatches (mask edge sender : Nat) (s : State) :
    chanCount (forget butHatch (clearLatches mask edge sender s)) = chanCount (forget butHatch s) := by
  unfold clearLatches
  (repeat' split) <;> simp

@[simp] theorem chanCount_logReplay (code : Nat) (data : List Byte) (s : State) :
    chanCount (forget butHatch (logReplay code data s)) = chanCount (forget butHatch s) := by
  simp [logReplay]

@[simp] theorem chanCount_closeCheck (newest : Option JournalEntry) (s : State) :
    chanCount (forget butHatch (closeCheck newest s)) = chanCount (forget butHatch s) := by
  unfold closeCheck
  (repeat' split) <;> simp

@[simp] theorem chanCount_closeGap (close : Bool) (new : Int) (e own : Nat) (s : State) :
    chanCount (forget butHatch (closeGap close new e own s)) = chanCount (forget butHatch s) := by
  unfold closeGap
  dsimp only
  (repeat' split) <;> simp

@[simp] theorem chanCount_pqNotify (e : PqEvent) (s : State) :
    chanCount (forget butHatch (pqNotify e s)) = chanCount (forget butHatch s) := by
  simp [pqNotify]

@[simp] theorem chanCount_pqReplace (e : PqEvent) (s : State) :
    chanCount (forget butHatch (pqReplace e s)) = chanCount (forget butHatch s) := by
  simp [pqReplace]

@[simp] theorem chanCount_closeOutage (s : State) :
    chanCount (forget butHatch (closeOutage s)) = chanCount (forget butHatch s) := by
  unfold closeOutage
  split <;> simp

@[simp] theorem chanCount_processBoundary (s : State) :
    chanCount (forget butHatch (processBoundary s)) = chanCount (forget butHatch s) := by
  unfold processBoundary
  (repeat' split) <;> simp

@[simp] theorem chanCount_commandClose (c : Option Req × Nat) (s : State) :
    chanCount (forget butHatch (commandClose c s)) = chanCount (forget butHatch s) := by
  simp [commandClose]

@[simp] theorem chanCount_doConfig (which e : Nat) (t : Int) (s : State) :
    chanCount (forget butHatch (doConfig which e t s)) = chanCount (forget butHatch s) := by
  unfold doConfig
  split <;> simp

@[simp] theorem chanCount_stepTariff (d : StepDue) (fl : Nat) (s : State) :
    chanCount (forget butHatch (stepTariff d fl s)) = chanCount (forget butHatch s) := by
  unfold stepTariff
  dsimp only
  (repeat' split) <;> simp

@[simp] theorem chanCount_doStep (d : StepDue) (s : State) :
    chanCount (forget butHatch (doStep d s)) = chanCount (forget butHatch s) := by
  unfold doStep
  (repeat' split) <;> simp

@[simp] theorem chanCount_ledgerEpoch (e : Nat) (s : State) :
    chanCount (forget butHatch (ledgerEpoch e s)) = chanCount (forget butHatch s) := by
  unfold ledgerEpoch
  (repeat' split) <;> simp

@[simp] theorem chanCount_lStep (s : State) :
    chanCount (forget butHatch (lStep s)) = chanCount (forget butHatch s) := by
  unfold lStep
  (repeat' split) <;> simp

@[simp] theorem chanCount_lRun (e n : Nat) (s : State) :
    chanCount (forget butHatch (lRun e n s)) = chanCount (forget butHatch s) := by
  induction n generalizing s with
  | zero => rfl
  | succ n ih =>
    unfold lRun
    split
    · rfl
    · exact (ih _).trans (chanCount_lStep s)

@[simp] theorem chanCount_lComplete (e : Nat) (s : State) :
    chanCount (forget butHatch (lComplete e s)) = chanCount (forget butHatch s) := by
  unfold lComplete
  dsimp only
  (repeat' split) <;> simp

@[simp] theorem chanCount_flushEvents (p : Nat → Bool) (s : State) :
    chanCount (forget butHatch (flushEvents p s)) = chanCount (forget butHatch s) := by
  simp [flushEvents]

@[simp] theorem chanCount_flushRecords (j : JournalEntry) (s : State) :
    chanCount (forget butHatch (flushRecords j s)) = chanCount (forget butHatch s) := by
  simp [flushRecords]

@[simp] theorem chanCount_standbyEnd (j : JournalEntry) (s : State) :
    chanCount (forget butHatch (standbyEnd j s)) = chanCount (forget butHatch s) := by
  simp [standbyEnd]

@[simp] theorem chanCount_entryDurable (j : JournalEntry) (s : State) :
    chanCount (forget butHatch (entryDurable j s)) = chanCount (forget butHatch s) := by
  unfold entryDurable
  split <;> simp

@[simp] theorem chanCount_kilnFinalEntry (s : State) :
    chanCount (forget butHatch (kilnFinalEntry s)) = chanCount (forget butHatch s) := by
  simp [kilnFinalEntry]

@[simp] theorem chanCount_kilnCloses (s : State) :
    chanCount (forget butHatch (kilnCloses s)) = chanCount (forget butHatch s) := by
  unfold kilnCloses
  dsimp only
  (repeat' split) <;> simp

@[simp] theorem chanCount_hngEvent (event cause : Nat) (s : State) :
    chanCount (forget butHatch (hngEvent event cause s)) = chanCount (forget butHatch s) := by
  simp [hngEvent]

@[simp] theorem chanCount_setSynced (v : Bool) (s : State) :
    chanCount (forget butHatch (setSynced v s)) = chanCount (forget butHatch s) := by
  unfold setSynced
  split <;> simp

@[simp] theorem chanCount_replicate (j : JournalEntry) (s : State) :
    chanCount (forget butHatch (replicate j s)) = chanCount (forget butHatch s) := by
  unfold replicate
  dsimp only
  (repeat' split) <;> simp

@[simp] theorem chanCount_commitDurable (j : JournalEntry) (c : Captured) (s : State) :
    chanCount (forget butHatch (commitDurable j c s)) = chanCount (forget butHatch s) := by
  unfold commitDurable
  dsimp only
  (repeat' split) <;> simp

@[simp] theorem chanCount_finalEntry (kind : Nat) (s : State) :
    chanCount (forget butHatch (finalEntry kind s)) = chanCount (forget butHatch s) := by
  unfold finalEntry
  split <;> simp

@[simp] theorem chanCount_closeSession (endCause e : Nat) (s : State) :
    chanCount (forget butHatch (closeSession endCause e s)) = chanCount (forget butHatch s) := by
  unfold closeSession
  dsimp only
  (repeat' split) <;> simp

@[simp] theorem chanCount_pqAdd (e : PqEvent) (s : State) :
    chanCount (forget butHatch (pqAdd e s)) = chanCount (forget butHatch s) := by
  simp [pqAdd]

@[simp] theorem chanCount_endRvc (o : PqRvc) (a : Nat) (dss : Option Nat) (flags : Nat) (s : State) :
    chanCount (forget butHatch (endRvc o a dss flags s)) = chanCount (forget butHatch s) := by
  unfold endRvc
  dsimp only
  (repeat' split) <;> simp

@[simp] theorem chanCount_pqEndOthers (a flags : Nat) (s : State) :
    chanCount (forget butHatch (pqEndOthers a flags s)) = chanCount (forget butHatch s) := by
  unfold pqEndOthers
  dsimp only
  (repeat' split) <;> simp

@[simp] theorem chanCount_pqDisarm (s : State) :
    chanCount (forget butHatch (pqDisarm s)) = chanCount (forget butHatch s) := by
  unfold pqDisarm
  dsimp only
  (repeat' split) <;> simp

@[simp] theorem chanCount_coilsOff (chan : Nat) (s : State) :
    chanCount (forget butHatch (coilsOff chan s)) = chanCount (forget butHatch s) := by
  unfold coilsOff
  dsimp only
  (repeat' split) <;> simp

@[simp] theorem chanCount_completeReading (p : Reading) (s : State) :
    chanCount (forget butHatch (completeReading p s)) = chanCount (forget butHatch s) := by
  have hsign : chanCount (forget butHatch (signReading p s).2) = chanCount (forget butHatch s) :=
    congrArg chanCount (forget_signReading p s rfl)
  unfold completeReading
  generalize signReading p s = x at hsign
  obtain ⟨q, t⟩ := x
  dsimp only at hsign ⊢
  rw [← hsign, chanCount_replyTo]
  split
  · rfl
  · split
    · exact chanCount_notify _ _ _ _
    · rfl

@[simp] theorem chanCount_updEvent (event id : Nat) (s : State) :
    chanCount (forget butHatch (updEvent event id s)) = chanCount (forget butHatch s) := by
  simp [updEvent]

@[simp] theorem chanCount_lrChanged (s : State) :
    chanCount (forget butHatch (lrChanged s)) = chanCount (forget butHatch s) := by
  unfold lrChanged
  dsimp only
  (repeat' split) <;> simp

@[simp] theorem chanCount_confirmTrial (s : State) :
    chanCount (forget butHatch (confirmTrial s)) = chanCount (forget butHatch s) := by
  simp [confirmTrial]

@[simp] theorem chanCount_conflictCheck (link : Nat) (h : HelloBlock) (s : State) :
    chanCount (forget butHatch (conflictCheck link h s)) = chanCount (forget butHatch s) := by
  unfold conflictCheck
  dsimp only
  (repeat' split) <;> simp

@[simp] theorem chanCount_lswEvent (event n : Nat) (s : State) :
    chanCount (forget butHatch (lswEvent event n s)) = chanCount (forget butHatch s) := by
  simp [lswEvent]

@[simp] theorem chanCount_restart (n : Nat) (s : State) :
    chanCount (forget butHatch (restart n s)) = chanCount (forget butHatch s) := by
  unfold restart
  dsimp only
  (repeat' split) <;> simp

@[simp] theorem chanCount_control (action ms n : Nat) (s : State) :
    chanCount (forget butHatch (Machine.control action ms n s)) = chanCount (forget butHatch s) := by
  unfold Machine.control
  dsimp only
  (repeat' split) <;> simp

@[simp] theorem chanCount_tamperEnd (src : Nat) (s : State) :
    chanCount (forget butHatch (tamperEnd src s)) = chanCount (forget butHatch s) := by
  simp [tamperEnd]

@[simp] theorem chanCount_tamperOff (src : Nat) (s : State) :
    chanCount (forget butHatch (tamperOff src s)) = chanCount (forget butHatch s) := by
  simp [tamperOff]

@[simp] theorem chanCount_tamperBegin (src : Nat) (s : State) :
    chanCount (forget butHatch (tamperBegin src s)) = chanCount (forget butHatch s) := by
  unfold tamperBegin
  dsimp only
  (repeat' split) <;> simp

@[simp] theorem chanCount_tamperOn (src : Nat) (s : State) :
    chanCount (forget butHatch (tamperOn src s)) = chanCount (forget butHatch s) := by
  simp [tamperOn]

@[simp] theorem chanCount_coverFollow (s : State) :
    chanCount (forget butHatch (coverFollow s)) = chanCount (forget butHatch s) := by
  unfold coverFollow
  (repeat' split) <;> simp

@[simp] theorem chanCount_setLatch (mask : Nat) (s : State) :
    chanCount (forget butHatch (setLatch mask s)) = chanCount (forget butHatch s) := by
  unfold setLatch
  dsimp only
  (repeat' split) <;> simp

@[simp] theorem chanCount_logStop (p : OrderlyStop) (big : Nat) (s : State) :
    chanCount (forget butHatch (logStop p big s)) = chanCount (forget butHatch s) := by
  unfold logStop
  (repeat' split) <;> simp

@[simp] theorem chanCount_trip (mask chan : Nat) (value : Int) (s : State) :
    chanCount (forget butHatch (trip mask chan value s)) = chanCount (forget butHatch s) := by
  unfold trip
  dsimp only
  (repeat' split) <;> simp

@[simp] theorem chanCount_tripPlain (mask chan : Nat) (s : State) :
    chanCount (forget butHatch (tripPlain mask chan s)) = chanCount (forget butHatch s) := by
  simp [tripPlain]

@[simp] theorem chanCount_cycleTrips (i : CycleIn) (s : State) :
    chanCount (forget butHatch (cycleTrips i s)) = chanCount (forget butHatch s) := by
  unfold cycleTrips
  dsimp only
  (repeat' split) <;> simp

@[simp] theorem chanCount_dcFail (s : State) :
    chanCount (forget butHatch (dcFail s)) = chanCount (forget butHatch s) := by
  simp [dcFail]

@[simp] theorem chanCount_deenergise (s : State) :
    chanCount (forget butHatch (deenergise s)) = chanCount (forget butHatch s) := by
  unfold deenergise
  split <;> simp

@[simp] theorem chanCount_degrade (s : State) :
    chanCount (forget butHatch (degrade s)) = chanCount (forget butHatch s) := by
  unfold degrade
  split <;> simp

@[simp] theorem chanCount_takeConvert (c : Conversion) (w : Nat) (s : State) :
    chanCount (forget butHatch (takeConvert c w s)) = chanCount (forget butHatch s) := by
  unfold takeConvert
  dsimp only
  (repeat' split) <;> simp

@[simp] theorem chanCount_judgeVref (inBand : Bool) (s : State) :
    chanCount (forget butHatch (judgeVref inBand s)) = chanCount (forget butHatch s) := by
  unfold judgeVref
  dsimp only
  (repeat' split) <;> simp

@[simp] theorem chanCount_updateLimits (s : State) :
    chanCount (forget butHatch (updateLimits s)) = chanCount (forget butHatch s) := by
  unfold updateLimits
  dsimp only
  (repeat' split) <;> simp

@[simp] theorem chanCount_freeVend (s : State) :
    chanCount (forget butHatch (freeVend s)) = chanCount (forget butHatch s) := by
  unfold freeVend
  split <;> simp

@[simp] theorem chanCount_limitsChanged (s : State) :
    chanCount (forget butHatch (limitsChanged s)) = chanCount (forget butHatch s) := by
  unfold limitsChanged
  split <;> simp

@[simp] theorem chanCount_followTemp (was : Bool) (s : State) :
    chanCount (forget butHatch (followTemp was s)) = chanCount (forget butHatch s) := by
  unfold followTemp
  dsimp only
  (repeat' split) <;> simp

@[simp] theorem chanCount_takeAn (n : Nat) (t : Int) (bad : Bool) (s : State) :
    chanCount (forget butHatch (takeAn n t bad s)) = chanCount (forget butHatch s) := by
  unfold takeAn
  dsimp only
  (repeat' split) <;> simp

@[simp] theorem chanCount_nlEvent (event subject value : Nat) (s : State) :
    chanCount (forget butHatch (nlEvent event subject value s)) = chanCount (forget butHatch s) := by
  simp [nlEvent]

@[simp] theorem chanCount_takeVbat (mV : Int) (s : State) :
    chanCount (forget butHatch (takeVbat mV s)) = chanCount (forget butHatch s) := by
  unfold takeVbat
  dsimp only
  (repeat' split) <;> simp

@[simp] theorem chanCount_routeReading (c : Conversion) (code : Nat) (ovr under valid : Bool) (v : Int) (s : State) :
    chanCount (forget butHatch (routeReading c code ovr under valid v s)) = chanCount (forget butHatch s) := by
  unfold routeReading
  (repeat' split) <;> simp

@[simp] theorem chanCount_deliver (c : Conversion) (code : Nat) (ovr under : Bool) (s : State) :
    chanCount (forget butHatch (deliver c code ovr under s)) = chanCount (forget butHatch s) := by
  unfold deliver
  dsimp only
  (repeat' split) <;> simp

@[simp] theorem chanCount_traded (m : TokenMsg) (s : State) (f : State → State)
    (h : ∀ t, chanCount (forget butHatch (f t)) = chanCount (forget butHatch t)) :
    chanCount (forget butHatch (traded m s f)) = chanCount (forget butHatch s) := by
  unfold traded
  split
  · exact h s
  · split
    · rfl
    · exact chanCount_linEvent _ _ _ s

@[simp] theorem chanCount_tokensMoved (peer old : Nat) (s : State) :
    chanCount (forget butHatch (tokensMoved peer old s)) = chanCount (forget butHatch s) := by
  unfold tokensMoved
  dsimp only
  (repeat' split) <;> simp

@[simp] theorem chanCount_takeTokenRequest (m : TokenMsg) (s : State) :
    chanCount (forget butHatch (takeTokenRequest m s)) = chanCount (forget butHatch s) := by
  unfold takeTokenRequest
  dsimp only
  (repeat' split) <;> simp

@[simp] theorem chanCount_endLending (xfer peer : Nat) (tokens : List Nat) (s : State) :
    chanCount (forget butHatch (endLending xfer peer tokens s)) = chanCount (forget butHatch s) := by
  simp [endLending]

@[simp] theorem chanCount_takeTokenReturn (m : TokenMsg) (s : State) :
    chanCount (forget butHatch (takeTokenReturn m s)) = chanCount (forget butHatch s) := by
  simp [takeTokenReturn]

@[simp] theorem chanCount_dropBorrowed (xfer : Nat) (home : Nat) (tokens : List Nat) (s : State) :
    chanCount (forget butHatch (dropBorrowed xfer home tokens s)) = chanCount (forget butHatch s) := by
  simp [dropBorrowed]

@[simp] theorem chanCount_takeTokenRecall (m : TokenMsg) (s : State) :
    chanCount (forget butHatch (takeTokenRecall m s)) = chanCount (forget butHatch s) := by
  simp [takeTokenRecall]

@[simp] theorem chanCount_takeTokenCommit (m : TokenMsg) (s : State) :
    chanCount (forget butHatch (takeTokenCommit m s)) = chanCount (forget butHatch s) := by
  simp [takeTokenCommit]

@[simp] theorem chanCount_takeTokenGrant (m : TokenMsg) (s : State) :
    chanCount (forget butHatch (takeTokenGrant m s)) = chanCount (forget butHatch s) := by
  unfold takeTokenGrant
  dsimp only
  (repeat' split) <;> simp

@[simp] theorem chanCount_takeTokenAccept (m : TokenMsg) (s : State) :
    chanCount (forget butHatch (takeTokenAccept m s)) = chanCount (forget butHatch s) := by
  unfold takeTokenAccept
  dsimp only
  (repeat' split) <;> simp

@[simp] theorem chanCount_takeTokenMsg (op : Nat) (m : TokenMsg) (s : State) :
    chanCount (forget butHatch (takeTokenMsg op m s)) = chanCount (forget butHatch s) := by
  refine chanCount_traded m s _ fun t => ?_
  split <;> simp

@[simp] theorem chanCount_takeOffer (src id : Nat) (s : State) :
    chanCount (forget butHatch (takeOffer src id s)) = chanCount (forget butHatch s) := by
  unfold takeOffer
  split
  · rfl
  · split
    · rfl
    · exact (congrArg chanCount (forget_askChunk _ _ _ rfl rfl rfl)).trans (chanCount_updEvent _ _ _)

@[simp] theorem chanCount_verifyFailed (st id : Nat) (s : State) :
    chanCount (forget butHatch (verifyFailed st id s)) = chanCount (forget butHatch s) := by
  simp [verifyFailed]

@[simp] theorem chanCount_takeChunk (src id off : Nat) (data : List Byte) (s : State) :
    chanCount (forget butHatch (takeChunk src id off data s)) = chanCount (forget butHatch s) := by
  unfold takeChunk
  dsimp only
  (repeat' split) <;> simp

@[simp] theorem chanCount_takeChainMsg (op src id off len : Nat) (data : List Byte) (s : State) :
    chanCount (forget butHatch (takeChainMsg op src id off len data s)) = chanCount (forget butHatch s) := by
  unfold takeChainMsg
  (repeat' split) <;> simp

@[simp] theorem chanCount_takeRemoteReply (src : Nat) (b : List Byte) (s : State) :
    chanCount (forget butHatch (takeRemoteReply src b s)) = chanCount (forget butHatch s) := by
  unfold takeRemoteReply
  dsimp only
  (repeat' split) <;> simp

@[simp] theorem chanCount_extraReply (snd : Sender) (c q op : Nat) (payload : List Byte) (again : Bool) (s : State) :
    chanCount (forget butHatch (extraReply snd c q op payload again s)) = chanCount (forget butHatch s) := by
  unfold extraReply
  split <;> simp

@[simp] theorem chanCount_takeRequestPkt (snd : Sender) (c q op : Nat) (payload : List Byte) (s : State) :
    chanCount (forget butHatch (takeRequestPkt snd c q op payload s)) = chanCount (forget butHatch s) := by
  unfold takeRequestPkt
  dsimp only
  (repeat' split) <;> simp

@[simp] theorem chanCount_takeDatagram (snd : Sender) (peer : Nat) (b : List Byte) (s : State) :
    chanCount (forget butHatch (takeDatagram snd peer b s)) = chanCount (forget butHatch s) := by
  unfold takeDatagram
  dsimp only
  (repeat' split) <;> simp

@[simp] theorem chanCount_takeBrixo (src : Nat) (b : List Byte) (s : State) :
    chanCount (forget butHatch (takeBrixo src b s)) = chanCount (forget butHatch s) := by
  unfold takeBrixo
  dsimp only
  (repeat' split) <;> simp

@[simp] theorem chanCount_takeMessage (type src : Nat) (b : List Byte) (s : State) :
    chanCount (forget butHatch (takeMessage type src b s)) = chanCount (forget butHatch s) := by
  unfold takeMessage
  (repeat' split) <;> simp

@[simp] theorem chanCount_takeFragment (p : FabricPacket) (s : State) :
    chanCount (forget butHatch (takeFragment p s)) = chanCount (forget butHatch s) := by
  unfold takeFragment
  dsimp only
  (repeat' split) <;> simp

@[simp] theorem chanCount_deliverHere (full : Bool) (p : FabricPacket) (s : State) :
    chanCount (forget butHatch (deliverHere full p s)) = chanCount (forget butHatch s) := by
  unfold deliverHere
  (repeat' split) <;> simp

@[simp] theorem chanCount_diagWrite (d : DiagRec) (s : State) :
    chanCount (forget butHatch (diagWrite d s)) = chanCount (forget butHatch s) := by
  simp [diagWrite]

@[simp] theorem chanCount_dieEvent (event cause : Nat) (s : State) :
    chanCount (forget butHatch (dieEvent event cause s)) = chanCount (forget butHatch s) := by
  simp [dieEvent]

@[simp] theorem chanCount_dispDone (result gen band frames mode start : Nat) (s : State) :
    chanCount (forget butHatch (dispDone result gen band frames mode start s)) = chanCount (forget butHatch s) := by
  simp [dispDone]

@[simp] theorem chanCount_dispReport (s : State) :
    chanCount (forget butHatch (dispReport s)) = chanCount (forget butHatch s) := by
  unfold dispReport
  dsimp only
  (repeat' split) <;> simp

@[simp] theorem chanCount_mcEventOf (event : Nat) (n : McNeighbour) (s : State) :
    chanCount (forget butHatch (mcEventOf event n s)) = chanCount (forget butHatch s) := by
  simp [mcEventOf]

@[simp] theorem chanCount_mcEvent (event short : Nat) (s : State) :
    chanCount (forget butHatch (mcEvent event short s)) = chanCount (forget butHatch s) := by
  unfold mcEvent
  split <;> simp

@[simp] theorem chanCount_downgrade (f : McFrame) (s : State) :
    chanCount (forget butHatch (downgrade f s)) = chanCount (forget butHatch s) := by
  simp [downgrade]

@[simp] theorem chanCount_pendAuth (kind : Nat) (ident : List Byte) (s : State) :
    chanCount (forget butHatch (pendAuth kind ident s)) = chanCount (forget butHatch s) := by
  simp [pendAuth]

@[simp] theorem chanCount_dropAuth (s : State) :
    chanCount (forget butHatch (dropAuth s)) = chanCount (forget butHatch s) := by
  unfold dropAuth
  dsimp only
  (repeat' split) <;> simp

@[simp] theorem chanCount_dropNeighbour (link id : Nat) (s : State) :
    chanCount (forget butHatch (dropNeighbour link id s)) = chanCount (forget butHatch s) := by
  unfold dropNeighbour
  dsimp only
  (repeat' split) <;> simp

@[simp] theorem chanCount_dropReq (result : Nat) (q : DispReq) (s : State) :
    chanCount (forget butHatch (dropReq result q s)) = chanCount (forget butHatch s) := by
  unfold dropReq
  split <;> simp

@[simp] theorem chanCount_earthWatch (s : State) :
    chanCount (forget butHatch (earthWatch s)) = chanCount (forget butHatch s) := by
  unfold earthWatch
  dsimp only
  (repeat' split) <;> simp

@[simp] theorem chanCount_endFreeze (s : State) :
    chanCount (forget butHatch (endFreeze s)) = chanCount (forget butHatch s) := by
  simp [endFreeze]

@[simp] theorem chanCount_endOfSession (cause e : Nat) (s : State) :
    chanCount (forget butHatch (endOfSession cause e s)) = chanCount (forget butHatch s) := by
  simp [endOfSession]

@[simp] theorem chanCount_endRcm (t : RcmTest) (result dc ac : Nat) (s : State) :
    chanCount (forget butHatch (endRcm t result dc ac s)) = chanCount (forget butHatch s) := by
  unfold endRcm
  dsimp only
  (repeat' split) <;> simp

@[simp] theorem chanCount_modeChanged (old new : Mode) (cause : Nat) (s : State) :
    chanCount (forget butHatch (modeChanged old new cause s)) = chanCount (forget butHatch s) := by
  simp [modeChanged]

@[simp] theorem chanCount_enterMode (m : Mode) (cause : Nat) (s : State) :
    chanCount (forget butHatch (enterMode m cause s)) = chanCount (forget butHatch s) := by
  unfold enterMode
  (repeat' split) <;> simp

@[simp] theorem chanCount_kilnEvent (event cell : Nat) (s : State) :
    chanCount (forget butHatch (kilnEvent event cell s)) = chanCount (forget butHatch s) := by
  simp [kilnEvent]

@[simp] theorem chanCount_failCell (k : Nat) (s : State) :
    chanCount (forget butHatch (failCell k s)) = chanCount (forget butHatch s) := by
  unfold failCell
  dsimp only
  (repeat' split) <;> simp

@[simp] theorem chanCount_failFrame (f : McFrame) (s : State) :
    chanCount (forget butHatch (failFrame f s)) = chanCount (forget butHatch s) := by
  unfold failFrame
  split <;> simp

@[simp] theorem chanCount_finalIfReached (s : State) :
    chanCount (forget butHatch (finalIfReached s)) = chanCount (forget butHatch s) := by
  unfold finalIfReached
  split <;> simp

@[simp] theorem chanCount_findPeer (s : State) :
    chanCount (forget butHatch (findPeer s)) = chanCount (forget butHatch s) := by
  unfold findPeer
  dsimp only
  (repeat' split) <;> simp

@[simp] theorem chanCount_finishDrive (d : Drive) (s : State) :
    chanCount (forget butHatch (finishDrive d s)) = chanCount (forget butHatch s) := by
  unfold finishDrive
  (repeat' split) <;> simp

@[simp] theorem chanCount_finishStop (s : State) :
    chanCount (forget butHatch (finishStop s)) = chanCount (forget butHatch s) := by
  unfold finishStop
  split <;> simp

@[simp] theorem chanCount_zeroiseFlash (src : Nat) (atStart : Bool) (s : State) :
    chanCount (forget butHatch (zeroiseFlash src atStart s)) = chanCount (forget butHatch s) := by
  simp [zeroiseFlash]

@[simp] theorem chanCount_finishTransition (t : Lifecycle) (atStart : Bool) (s : State) :
    chanCount (forget butHatch (finishTransition t atStart s)) = chanCount (forget butHatch s) := by
  unfold finishTransition
  split <;> simp

@[simp] theorem chanCount_followEvent (o : PqOpen) (phases : Nat) (low ends : Bool) (ext : Nat × Nat) (r : Refresh)
    (s : State) :
    chanCount (forget butHatch (followEvent o phases low ends ext r s).2) = chanCount (forget butHatch s) := by
  unfold followEvent
  dsimp only
  (repeat' split) <;> simp

@[simp] theorem chanCount_followOff (s : State) :
    chanCount (forget butHatch (followOff s)) = chanCount (forget butHatch s) := by
  unfold followOff
  split <;> simp

@[simp] theorem chanCount_forwardAuth (kind : Nat) (ident : List Byte) (s : State) :
    chanCount (forget butHatch (forwardAuth kind ident s)) = chanCount (forget butHatch s) := by
  unfold forwardAuth
  (repeat' split) <;> simp

@[simp] theorem chanCount_forwardCard (s : State) :
    chanCount (forget butHatch (forwardCard s)) = chanCount (forget butHatch s) := by
  unfold forwardCard
  dsimp only
  (repeat' split) <;> simp

@[simp] theorem chanCount_handshake (v13 : Bool) (s : State) :
    chanCount (forget butHatch (handshake v13 s)) = chanCount (forget butHatch s) := by
  unfold handshake
  dsimp only
  (repeat' split) <;> simp

@[simp] theorem chanCount_heardBy (is : McNeighbour → Bool) (zcPol : Bool) (centre : Tick) (s : State) :
    chanCount (forget butHatch (heardBy is zcPol centre s)) = chanCount (forget butHatch s) := by
  unfold heardBy
  dsimp only
  (repeat' split) <;> simp

@[simp] theorem chanCount_heardFrame (short : Nat) (zcPol : Bool) (centre : Tick) (s : State) :
    chanCount (forget butHatch (heardFrame short zcPol centre s)) = chanCount (forget butHatch s) := by
  simp [heardFrame]

@[simp] theorem chanCount_holdupStops (s : State) :
    chanCount (forget butHatch (holdupStops s)) = chanCount (forget butHatch s) := by
  simp [holdupStops]

@[simp] theorem chanCount_inputFault (cause slot start : Nat) (s : State) :
    chanCount (forget butHatch (inputFault cause slot start s)) = chanCount (forget butHatch s) := by
  simp [inputFault]

@[simp] theorem chanCount_meteringStop (cause : Nat) (s : State) :
    chanCount (forget butHatch (meteringStop cause s)) = chanCount (forget butHatch s) := by
  unfold meteringStop
  (repeat' split) <;> simp

@[simp] theorem chanCount_metFault (cause slot : Nat) (s : State) :
    chanCount (forget butHatch (metFault cause slot s)) = chanCount (forget butHatch s) := by
  unfold metFault
  (repeat' split) <;> simp

@[simp] theorem chanCount_judge (bad : Bool) (cause : Nat) (s : State) :
    chanCount (forget butHatch (judge bad cause s)) = chanCount (forget butHatch s) := by
  unfold judge
  split <;> simp

@[simp] theorem chanCount_watchPlug (s : State) :
    chanCount (forget butHatch (watchPlug s)) = chanCount (forget butHatch s) := by
  unfold watchPlug
  split <;> simp

@[simp] theorem chanCount_unplug (s : State) :
    chanCount (forget butHatch (unplug s)) = chanCount (forget butHatch s) := by
  unfold unplug
  dsimp only
  (repeat' split) <;> simp

@[simp] theorem chanCount_kilnCp (old new : Nat) (s : State) :
    chanCount (forget butHatch (kilnCp old new s)) = chanCount (forget butHatch s) := by
  unfold kilnCp
  dsimp only
  (repeat' split) <;> simp

@[simp] theorem chanCount_outageClosings (outage : Bool) (new : Int) (s : State) :
    chanCount (forget butHatch (outageClosings outage new s)) = chanCount (forget butHatch s) := by
  unfold outageClosings
  split <;> simp

@[simp] theorem chanCount_kilnStart (s : State) :
    chanCount (forget butHatch (kilnStart s)) = chanCount (forget butHatch s) := by
  unfold kilnStart
  dsimp only
  (repeat' split) <;> simp

@[simp] theorem chanCount_lChain (n : Nat) (s : State) :
    chanCount (forget butHatch (lChain n s)) = chanCount (forget butHatch s) := by
  induction n generalizing s with
  | zero => rfl
  | succ n ih =>
    unfold lChain
    dsimp only
    split
    · split
      · exact chanCount_ledgerEpoch _ s
      · exact (ih _).trans (chanCount_ledgerEpoch _ s)
    · rfl

@[simp] theorem chanCount_latchEpoch (c : Captured) (s : State) :
    chanCount (forget butHatch (latchEpoch c s)) = chanCount (forget butHatch s) := by
  unfold latchEpoch
  dsimp only
  (repeat' split) <;> simp

@[simp] theorem chanCount_latchOut (cause n : Nat) (s : State) :
    chanCount (forget butHatch (latchOut cause n s)) = chanCount (forget butHatch s) := by
  simp [latchOut]

@[simp] theorem chanCount_latchWeld (s : State) :
    chanCount (forget butHatch (latchWeld s)) = chanCount (forget butHatch s) := by
  unfold latchWeld
  split <;> simp

@[simp] theorem chanCount_loadRecord (s : State) :
    chanCount (forget butHatch (loadRecord s)) = chanCount (forget butHatch s) := by
  unfold loadRecord
  dsimp only
  (repeat' split) <;> simp

@[simp] theorem chanCount_losePeer (s : State) :
    chanCount (forget butHatch (losePeer s)) = chanCount (forget butHatch s) := by
  unfold losePeer
  split <;> simp

@[simp] theorem chanCount_mLost (first last : Nat) (s : State) :
    chanCount (forget butHatch (mLost first last s)) = chanCount (forget butHatch s) := by
  simp [mLost]

@[simp] theorem chanCount_mNext (s : State) :
    chanCount (forget butHatch (mNext s)) = chanCount (forget butHatch s) := by
  unfold mNext
  dsimp only
  (repeat' split) <;> simp

@[simp] theorem chanCount_mChain (n : Nat) (s : State) :
    chanCount (forget butHatch (mChain n s)) = chanCount (forget butHatch s) := by
  induction n generalizing s with
  | zero => rfl
  | succ n ih =>
    unfold mChain
    dsimp only
    split
    · rfl
    · exact (ih _).trans (chanCount_mNext s)

@[simp] theorem chanCount_takePacket (came : Option (Nat × Nat)) (full : Bool) (p : FabricPacket) (s : State) :
    chanCount (forget butHatch (takePacket came full p s)) = chanCount (forget butHatch s) := by
  unfold takePacket
  (repeat' split) <;> simp

@[simp] theorem chanCount_mcUp (h : McHeader) (b : List Byte) (s : State) :
    chanCount (forget butHatch (mcUp h b s)) = chanCount (forget butHatch s) := by
  unfold mcUp
  dsimp only
  (repeat' split) <;> simp

@[simp] theorem chanCount_mcCollect (h : McHeader) (segs : List (Nat × List Byte)) (snr : Nat) (s : State) :
    chanCount (forget butHatch (mcCollect h segs snr s)) = chanCount (forget butHatch s) := by
  unfold mcCollect
  dsimp only
  (repeat' split) <;> simp

@[simp] theorem chanCount_mcLearn (h : HelloBlock) (s : State) :
    chanCount (forget butHatch (mcLearn h s)) = chanCount (forget butHatch s) := by
  unfold mcLearn
  (repeat' split) <;> simp

@[simp] theorem chanCount_nextRound (f : McFrame) (lost : List Nat) (lower : Bool) (s : State) :
    chanCount (forget butHatch (nextRound f lost lower s)) = chanCount (forget butHatch s) := by
  unfold nextRound
  dsimp only
  (repeat' split) <;> simp

@[simp] theorem chanCount_outputsOff (s : State) :
    chanCount (forget butHatch (outputsOff s)) = chanCount (forget butHatch s) := by
  simp [outputsOff]

@[simp] theorem chanCount_setChan (c : Nat) (f : HatchChan → HatchChan) (s : State) :
    chanCount (forget butHatch (setChan c f s)) = chanCount (forget butHatch s) :=
  List.length_mapIdx

@[simp] theorem chanCount_place (c flags op q : Nat) (payload : List Byte) (isReply : Bool) (s t : State)
    (h : place c flags op q payload isReply s = some t) :
    chanCount (forget butHatch t) = chanCount (forget butHatch s) := by
  unfold place at h
  dsimp only at h
  split at h
  · cases h
    simp
  · cases h

@[simp] theorem chanCount_placeNote (c : Nat) (n : Note) (s : State) :
    chanCount (forget butHatch (placeNote c n s)) = chanCount (forget butHatch s) := by
  unfold placeNote
  split
  · next t h =>
    have hplaced := chanCount_place _ _ _ _ _ _ _ _ h
    exact (chanCount_setChan _ _ _).trans hplaced
  · rfl

@[simp] theorem chanCount_placeReply (c : Nat) (r : Reply) (s : State) :
    chanCount (forget butHatch (placeReply c r s)) = chanCount (forget butHatch s) := by
  unfold placeReply
  split
  · next t h =>
    rw [← chanCount_place _ _ _ _ _ _ _ _ h]
    refine chanCount_setHatch fun _ => ?_
    split <;> rfl
  · rfl

@[simp] theorem chanCount_pqHoldup (s : State) :
    chanCount (forget butHatch (pqHoldup s)) = chanCount (forget butHatch s) := by
  unfold pqHoldup
  dsimp only
  (repeat' split) <;> simp

@[simp] theorem chanCount_present (bit value : Nat) (cut : Bool) (s : State) :
    chanCount (forget butHatch (present bit value cut s)) = chanCount (forget butHatch s) := by
  unfold present
  dsimp only
  (repeat' split) <;> simp

@[simp] theorem chanCount_proofResults (linkOk claimOk : Bool) (diff : Int) (replicaOk crossOk rcmOk shorted : Bool)
    (s : State) :
    chanCount (forget butHatch (proofResults linkOk claimOk diff replicaOk crossOk rcmOk shorted s)) =
      chanCount (forget butHatch s) := by
  unfold proofResults
  simp [forget_ite, apply_ite chanCount]

@[simp] theorem chanCount_putKey (path slot type attr usesMax : Nat) (key : List Byte) (sender : Nat) (s : State) :
    chanCount (forget butHatch (putKey path slot type attr usesMax key sender s).state) =
      chanCount (forget butHatch s) := by
  unfold putKey
  dsimp only
  (repeat' split) <;> simp

@[simp] theorem chanCount_relay (msg : Nat) (body : List Byte) (s : State) :
    chanCount (forget butHatch (relay msg body s)) = chanCount (forget butHatch s) := by
  simp [relay]

@[simp] theorem chanCount_replayJournal (s : State) :
    chanCount (forget butHatch (replayJournal s)) = chanCount (forget butHatch s) := by
  unfold replayJournal
  dsimp only
  (repeat' split) <;> simp

@[simp] theorem chanCount_resetEdge (mask sender : Nat) (s : State) :
    chanCount (forget butHatch (resetEdge mask sender s).state) = chanCount (forget butHatch s) := by
  unfold resetEdge
  dsimp only
  (repeat' split) <;> simp

@[simp] theorem chanCount_watchCp (s : State) :
    chanCount (forget butHatch (watchCp s)) = chanCount (forget butHatch s) := by
  unfold watchCp
  split <;> simp

@[simp] theorem chanCount_watchOffer (s : State) :
    chanCount (forget butHatch (watchOffer s)) = chanCount (forget butHatch s) := by
  unfold watchOffer
  split <;> simp

@[simp] theorem chanCount_watchTransfer (s : State) :
    chanCount (forget butHatch (watchTransfer s)) = chanCount (forget butHatch s) := by
  unfold watchTransfer
  split <;> simp

@[simp] theorem chanCount_vehicleEpoch (e : Nat) (s : State) :
    chanCount (forget butHatch (vehicleEpoch e s)) = chanCount (forget butHatch s) := by
  unfold vehicleEpoch
  split <;> simp

@[simp] theorem chanCount_runTask (t : Machine.Task) (s : State) :
    chanCount (forget butHatch (runTask t s)) = chanCount (forget butHatch s) := by
  unfold runTask
  dsimp only
  (repeat' split) <;> simp

@[simp] theorem chanCount_slacStep (m : SlacMsg) (s : State) :
    chanCount (forget butHatch (slacStep m s)) = chanCount (forget butHatch s) := by
  unfold slacStep
  (repeat' split) <;> simp

@[simp] theorem chanCount_stageShort (shorted : Bool) (s : State) :
    chanCount (forget butHatch (stageShort shorted s)) = chanCount (forget butHatch s) := by
  unfold stageShort
  dsimp only
  (repeat' split) <;> simp

@[simp] theorem chanCount_startCableCheck (s : State) :
    chanCount (forget butHatch (startCableCheck s)) = chanCount (forget butHatch s) := by
  simp [startCableCheck]

@[simp] theorem chanCount_startEvent (type phases : Nat) (ext : Nat × Nat) (thrEnd : Nat) (r : Refresh) (s : State) :
    chanCount (forget butHatch (startEvent type phases ext thrEnd r s).2) = chanCount (forget butHatch s) := by
  simp [startEvent]

@[simp] theorem chanCount_startupTest (codes : List Int) (s : State) :
    chanCount (forget butHatch (startupTest codes s)) = chanCount (forget butHatch s) := by
  simp [startupTest]

@[simp] theorem chanCount_stepDip (r : Refresh) (s : State) :
    chanCount (forget butHatch (stepDip r s)) = chanCount (forget butHatch s) := by
  unfold stepDip
  dsimp only
  (repeat' split) <;> simp

@[simp] theorem chanCount_stepIntr (r : Refresh) (s : State) :
    chanCount (forget butHatch (stepIntr r s)) = chanCount (forget butHatch s) := by
  unfold stepIntr
  (repeat' split) <;> simp

@[simp] theorem chanCount_stepRvc (r : Refresh) (s : State) :
    chanCount (forget butHatch (stepRvc r s)) = chanCount (forget butHatch s) := by
  unfold stepRvc
  dsimp only
  (repeat' split) <;> simp

@[simp] theorem chanCount_stepSwell (r : Refresh) (s : State) :
    chanCount (forget butHatch (stepSwell r s)) = chanCount (forget butHatch s) := by
  unfold stepSwell
  dsimp only
  (repeat' split) <;> simp

@[simp] theorem chanCount_stopTransfer (s : State) :
    chanCount (forget butHatch (stopTransfer s)) = chanCount (forget butHatch s) := by
  unfold stopTransfer
  dsimp only
  (repeat' split) <;> simp

@[simp] theorem chanCount_streamChecks (runs : List Nat) (s : State) :
    chanCount (forget butHatch (streamChecks runs s)) = chanCount (forget butHatch s) := by
  unfold streamChecks
  simp [forget_ite, apply_ite chanCount]

@[simp] theorem chanCount_takeBits (bits : List Nat) (s : State) :
    chanCount (forget butHatch (takeBits bits s)) = chanCount (forget butHatch s) := by
  simp [takeBits]

@[simp] theorem chanCount_takeHello (link : Nat) (h : HelloBlock) (s : State) :
    chanCount (forget butHatch (takeHello link h s)) = chanCount (forget butHatch s) := by
  unfold takeHello
  dsimp only
  (repeat' split) <;> simp

@[simp] theorem chanCount_tampOfOutage (x : Nat × State) (c : Nat × Bool × Int) :
    chanCount (forget butHatch (tampOfOutage x c).2) = chanCount (forget butHatch x.2) := by
  unfold tampOfOutage
  dsimp only
  (repeat' split) <;> simp

@[simp] theorem chanCount_takeOutage (s : State) :
    chanCount (forget butHatch (takeOutage s)) = chanCount (forget butHatch s) := by
  have hfold (l : List (Nat × Bool × Int)) (p : Nat × State) :
      chanCount (forget butHatch (l.foldl tampOfOutage p).2) = chanCount (forget butHatch p.2) := by
    induction l generalizing p with
    | nil => rfl
    | cons a l ih => rw [List.foldl_cons, ih, chanCount_tampOfOutage]
  unfold takeOutage
  dsimp only
  split
  · rfl
  · rw [forget_setNl _ _ rfl, hfold]

@[simp] theorem chanCount_timeAdjust (old new : Int) (action sender : Nat) (s : State) :
    chanCount (forget butHatch (timeAdjust old new action sender s)) = chanCount (forget butHatch s) := by
  simp [timeAdjust]

@[simp] theorem chanCount_trialMode (s : State) :
    chanCount (forget butHatch (trialMode s)) = chanCount (forget butHatch s) := by
  unfold trialMode
  dsimp only
  (repeat' split) <;> simp

@[simp] theorem chanCount_v2gStep (m : V2GMsg) (s : State) :
    chanCount (forget butHatch (v2gStep m s)) = chanCount (forget butHatch s) := by
  unfold v2gStep
  dsimp only
  (repeat' split) <;> simp

@[simp] theorem chanCount_viewWrite (s : State) (a : Nat) (b : Byte) :
    chanCount (forget butHatch (viewWrite s a b)) = chanCount (forget butHatch s) := by
  unfold viewWrite
  split
  · exact List.length_mapIdx
  · rfl

@[simp] theorem chanCount_viewWriteList (s : State) (a : Nat) (l : List Byte) :
    chanCount (forget butHatch (viewWriteList s a l)) = chanCount (forget butHatch s) := by
  induction l generalizing s a with
  | nil => rfl
  | cons b l ih => exact (ih _ _).trans (chanCount_viewWrite s a b)

@[simp] theorem chanCount_weldTest (s : State) :
    chanCount (forget butHatch (weldTest s)) = chanCount (forget butHatch s) := by
  unfold weldTest
  split <;> simp

@[simp] theorem chanCount_writeAck (c code q : Nat) (s : State) :
    chanCount (forget butHatch (writeAck c code q s)) = chanCount (forget butHatch s) := by
  simp [writeAck]

@[simp] theorem chanCount_writeBlocks (first : Nat) (data : List Byte) (fate : Nat) (s : State) :
    chanCount (forget butHatch (writeBlocks first data fate s)) = chanCount (forget butHatch s) := by
  unfold writeBlocks
  dsimp only
  (repeat' split) <;> simp

@[simp] theorem chanCount_wrongPassword (snd : Nat) (s : State) :
    chanCount (forget butHatch (wrongPassword snd s)) = chanCount (forget butHatch s) := by
  unfold wrongPassword
  dsimp only
  (repeat' split) <;> simp

@[simp] theorem chanCount_dMove (ws : List Nat) (e : Nat) (s : State) :
    chanCount (forget butHatch (dMove ws e s).1) = chanCount (forget butHatch s) := by
  simp [dMove]

@[simp] theorem chanCount_dMoveN (n : Nat) (r : Running) (s : State) :
    chanCount (forget butHatch (dMoveN n r s).1) = chanCount (forget butHatch s) := by
  induction n generalizing r s with
  | zero => rfl
  | succ n ih =>
    unfold dMoveN
    split
    · exact (ih _ _).trans (chanCount_dMove _ _ _)
    · rfl

/-! The commands. -/

/-- A next state has the Hatch channels of the state before. -/
def KeepsChans (s : State) (o : Out) : Prop :=
  Answers (fun t => chanCount (forget butHatch t) = chanCount (forget butHatch s)) o

section Shapes

variable {s t : State} {f : State → State}

theorem keepsChans_next (h : chanCount (forget butHatch t) = chanCount (forget butHatch s)) : KeepsChans s (.next t) :=
  answers_next h

theorem keepsChans_self : KeepsChans s (.next s) := keepsChans_next rfl

theorem keepsChans_whenever {c : Bool} (h : chanCount (forget butHatch (f s)) = chanCount (forget butHatch s)) :
    KeepsChans s (whenever c s f) := answers_whenever rfl h

theorem keepsChans_serveRequest {p : ShuReq → Bool}
    (h : chanCount (forget butHatch (f (takeRequest p s))) = chanCount (forget butHatch s)) :
    KeepsChans s (serveRequest p s f) := keepsChans_whenever h

theorem keepsChans_fieldCmd {dest : Nat} (h : chanCount (forget butHatch (f s)) = chanCount (forget butHatch s)) :
    KeepsChans s (fieldCmd dest s f) := answers_fieldCmd (by simp) h

theorem keepsChans_received {dst : Nat} (h : chanCount (forget butHatch (f s)) = chanCount (forget butHatch s)) :
    KeepsChans s (received dst s f) := answers_received rfl (by simp) h

theorem keepsChans_brixo {code : Nat} {r : Req} {f : State → Answer}
    (h : chanCount (forget butHatch (f s).state) = chanCount (forget butHatch s)) : KeepsChans s (brixo code r s f) :=
  answers_brixo rfl (fun _ _ _ hu => (chanCount_reply _ _ _ _ _).trans hu) h

theorem keepsChans_of_spared {c : Instr} (hspared : (touches c).all butHatch = true) : KeepsChans s (exec c s) :=
  fun t ht => congrArg chanCount (forget_of_onlyChanges hspared (exec_within c s t ht))

end Shapes

theorem execD2Start_keepsChans (codes : List Int) (setOk : Bool) (lost : Nat) (s : State) :
    KeepsChans s (execD2Start codes setOk lost s) := by
  refine keepsChans_whenever ?_
  extract_lets alone cold counted numbered replayed was super clock started logged lost timed loaded aligned tested
    marked trial
  have hstarted : chanCount (forget butHatch started) = chanCount (forget butHatch s) := by
    simp [started, super, replayed, numbered, counted]
  have hlogged : chanCount (forget butHatch logged) = chanCount (forget butHatch started) := by
    simp [logged]
  have htimed : chanCount (forget butHatch timed) = chanCount (forget butHatch logged) := by
    dsimp only [timed]
    split <;> simp
  have htested : chanCount (forget butHatch tested) = chanCount (forget butHatch timed) := by
    simp [tested, aligned, loaded]
  have htrial : chanCount (forget butHatch trial) = chanCount (forget butHatch tested) := by
    simp [trial, marked]
  rw [← hstarted, ← hlogged, ← htimed, ← htested, ← htrial]
  simp

theorem execJournalAppendComplete_keepsChans (firstOk retryOk : Bool) (s : State) :
    KeepsChans s (execJournalAppendComplete firstOk retryOk s) := by
  unfold execJournalAppendComplete
  (repeat' split) <;> exact keepsChans_next (by simp)

theorem execMeteringFaultEnd_keepsChans (cause slot : Nat) (codes : List Int) (s : State) :
    KeepsChans s (execMeteringFaultEnd cause slot codes s) := by
  unfold execMeteringFaultEnd
  split
  · exact keepsChans_self
  · split
    · exact keepsChans_self
    · exact keepsChans_whenever (by simp)

theorem execUrmsHalfSegmentEnd_keepsChans (s : State) : KeepsChans s (execUrmsHalfSegmentEnd s) := by
  unfold execUrmsHalfSegmentEnd
  split
  · exact keepsChans_self
  · refine keepsChans_whenever ?_
    dsimp only
    split
    · rfl
    · split
      · rw [chanCount_stepRvc, chanCount_stepIntr, chanCount_stepSwell, chanCount_stepDip]
        rfl
      · rfl

theorem execParamEffective_keepsChans (id : Nat) (s : State) : KeepsChans s (execParamEffective id s) := by
  unfold execParamEffective
  split
  · exact keepsChans_whenever (by simp)
  · exact keepsChans_next (by simp)

theorem execShedChanged_keepsChans (s : State) : KeepsChans s (execShedChanged s) := by
  unfold execShedChanged
  dsimp only
  split
  · exact keepsChans_next (by simp)
  · split
    · exact keepsChans_next (by simp)
    · exact keepsChans_self

theorem execM2hAckWrite_keepsChans (c value : Nat) (s : State) : KeepsChans s (execM2hAckWrite c value s) := by
  unfold execM2hAckWrite
  split
  · exact keepsChans_self
  · refine keepsChans_whenever ?_
    dsimp only
    split
    · exact chanCount_setChan _ _ _
    · exact chanCount_setChan _ _ _

theorem execDmaBurst_keepsChans (memError : Bool) (s : State) : KeepsChans s (execDmaBurst memError s) := by
  have hstall : chanCount (forget butHatch (stallOver s)) = chanCount (forget butHatch s) := by simp
  unfold execDmaBurst
  extract_lets u
  split
  · exact keepsChans_next hstall
  · split
    · exact keepsChans_next hstall
    · extract_lets lost stall aged
      have haged : chanCount (forget butHatch aged) = chanCount (forget butHatch s) := hstall
      split
      · exact keepsChans_next ((chanCount_dmaBack _ _ _ _ _).trans haged)
      · exact keepsChans_next ((congrArg chanCount (forget_setDma _ _ _ rfl)).trans
          ((chanCount_dMoveN 16 _ aged).trans haged))

theorem execSignatureComplete_keepsChans (s : State) : KeepsChans s (execSignatureComplete s) := by
  unfold execSignatureComplete
  dsimp only
  split
  · exact keepsChans_self
  · exact keepsChans_whenever (by simp)

theorem execDispFrameEnd_keepsChans (s : State) : KeepsChans s (execDispFrameEnd s) := by
  unfold execDispFrameEnd
  split
  · exact keepsChans_self
  · refine keepsChans_whenever ?_
    dsimp only
    split <;> simp

theorem execWaitingUpdateTimeout_keepsChans (s : State) : KeepsChans s (execWaitingUpdateTimeout s) := by
  unfold execWaitingUpdateTimeout
  split
  · exact keepsChans_self
  · split
    · exact keepsChans_self
    · exact keepsChans_next (by simp)

theorem execWatchRule_keepsChans (i : Nat) (s : State) : KeepsChans s (execWatchRule i s) := by
  unfold execWatchRule
  split
  · exact keepsChans_self
  · split
    · exact keepsChans_self
    · refine keepsChans_whenever ?_
      extract_lets advanced code nl ruled noted
      have hnoted : chanCount (forget butHatch noted) = chanCount (forget butHatch s) := by
        dsimp only [noted]
        rw [chanCount_nlEvent]
        rfl
      split
      · rw [forget_wakeSeen _ _ rfl, hnoted]
      · exact hnoted

theorem execWaveCaptureCopy_keepsChans (s : State) : KeepsChans s (execWaveCaptureCopy s) := by
  unfold execWaveCaptureCopy
  split
  · exact keepsChans_self
  · exact keepsChans_whenever ((chanCount_replyTo _ _ _ _ _).trans rfl)

theorem execLetterboxSummaryWrite_keepsChans (n : Nat) (s : State) : KeepsChans s (execLetterboxSummaryWrite n s) := by
  refine keepsChans_whenever ?_
  extract_lets all pages summed hold staged
  have hpages : chanCount (forget butHatch pages) = chanCount (forget butHatch s) := by simp [pages]
  split
  · rw [chanCount_lbEvent, ← hpages]
    dsimp only [staged]
    split <;> rfl
  · exact hpages

/-- A billing command is refused, which leaves the state, or does its work. -/
@[simp] theorem chanCount_billing {s : State} {f : State → Answer}
    (h : chanCount (forget butHatch (f s).state) = chanCount (forget butHatch s)) :
    chanCount (forget butHatch (billing s f).state) = chanCount (forget butHatch s) := by
  unfold billing
  split
  · rfl
  · exact h

@[simp] theorem chanCount_ite_state_iff {c : Prop} {_ : Decidable c} {a b : Answer} {n : Nat} :
    chanCount (forget butHatch (if c then a else b).state) = n ↔
      (c → chanCount (forget butHatch a.state) = n) ∧ (¬ c → chanCount (forget butHatch b.state) = n) := by
  split <;> simp_all

theorem execBilTimeSet_keepsChans (r : Req) (newS : Int) (newF how : Nat) (s : State) :
    KeepsChans s (execBilTimeSet r newS newF how s) :=
  keepsChans_brixo (by simp)

theorem execBilTzLoad_keepsChans (r : Req) (object : List Byte) (s : State) :
    KeepsChans s (execBilTzLoad r object s) :=
  keepsChans_brixo (by simp)

theorem execBilCalendarLoad_keepsChans (r : Req) (object : List Byte) (s : State) :
    KeepsChans s (execBilCalendarLoad r object s) :=
  keepsChans_brixo (chanCount_billing (by dsimp only; split <;> simp))

theorem execBilBillingClose_keepsChans (r : Req) (s : State) : KeepsChans s (execBilBillingClose r s) :=
  keepsChans_brixo (by simp)

theorem execBilCreditTransfer_keepsChans (r : Req) (object : List Byte) (s : State) :
    KeepsChans s (execBilCreditTransfer r object s) := by
  refine keepsChans_brixo ?_
  split
  · rfl
  · refine chanCount_billing ?_
    split
    · split <;> simp
    · extract_lets id amount used late put repaid noted restored
      have hput : chanCount (forget butHatch put) = chanCount (forget butHatch s) := by simp [put, late, used]
      have hrepaid : chanCount (forget butHatch repaid) = chanCount (forget butHatch put) := by simp [repaid]
      rw [← hput, ← hrepaid]
      simp [restored, noted]

theorem execBilEmergencyActivate_keepsChans (r : Req) (s : State) : KeepsChans s (execBilEmergencyActivate r s) :=
  keepsChans_brixo (by simp)

theorem execBilDisconnect_keepsChans (r : Req) (action : Nat) (s : State) : KeepsChans s (execBilDisconnect r action s) := by
  refine keepsChans_brixo ?_
  split
  · rfl
  · refine chanCount_billing ?_
    dsimp only
    (repeat' split) <;> simp

theorem execDmaDescriptorStart_keepsChans (c : Nat) (words : List Nat) (s : State) :
    KeepsChans s (execDmaDescriptorStart c words s) := by
  unfold execDmaDescriptorStart
  dsimp only
  exact keepsChans_whenever (by simp)

theorem execPpStateChange_keepsChans (ohm : Nat) (s : State) : KeepsChans s (execPpStateChange ohm s) := by
  unfold execPpStateChange
  dsimp only
  exact keepsChans_whenever (by simp)

/-- The commands that hold a restart of the module or a reset of D3. -/
def restarts : Instr → Bool
  | .d3LeavesReset _ _ _ _ _ _ _ _ _ | .firstModeEntered _ | .modeChangeEffective | .sysResetBegin | .holdupSequenceEnd
  | .hrstLow _ | .watchdogExpiry | .enginePoolFault | .spyholeReset | .lifecycleRestart | .activationRestart _
  | .trialTimeout | .railsFall => true
  | _ => false

theorem register_keepsChans (c : Instr) (s : State) (hc : isRegister c = true) : KeepsChans s (exec c s) := by
  by_cases hspared : (touches c).all butHatch = true
  case pos => exact keepsChans_of_spared hspared
  case neg =>
    cases c with
    | h2mDataWrite | h2mAckRead | h2mFlush | h2mOverflowClear | m2hUnderflowClear | irqStatusClear | registerWrite
    | dctrlWrite =>
      dsimp only [exec]
      exact keepsChans_whenever (by simp)
    | m2hDataRead =>
      dsimp only [exec]
      exact keepsChans_whenever (by (repeat' split) <;> simp)
    | m2hAckWrite => exact execM2hAckWrite_keepsChans _ _ s
    | dstatClear | descriptorCommit | descriptorStagingWrite | semaphoreRead | semaphoreRelease | wedgeRegisterWrite =>
      exact absurd rfl hspared
    | _ => exact Bool.noConfusion hc

theorem execHspiCsFalling_keepsChans (wire : List Byte) (clocks : Nat) (s : State) :
    KeepsChans s (execHspiCsFalling wire clocks s) := by
  have hclosed : RegisterClosed fun t => chanCount (forget butHatch t) = chanCount (forget butHatch s) :=
    { command := fun c u hc hu t ht => (register_keepsChans c u hc t ht).trans hu
      openWord := fun u hu => hu
      driven := fun _ u hu => hu }
  exact keepsChans_whenever (hclosed.spiTransaction _ _ (by simp))

/-- A command of these chapters that may change Hatch and holds no restart. -/
def writesHatch (first last : Nat) (c : Instr) : Bool :=
  decide (first ≤ chapterOf c) && decide (chapterOf c ≤ last) && !restarts c && !(touches c).all butHatch

theorem keepsChans_measurement (c : Instr) (s : State) (h : writesHatch 0 7 c = true) :
    KeepsChans s (exec c s) := by
  cases c with
  | d1Start | interimToService | watchDelayExpiry | watchWake | mainsFailDetection | mainsAbsentDecision |
  timebaseFault | statusFrame | sample400k =>
    dsimp only [exec]
    exact keepsChans_whenever (by simp)
  | mainPathSample =>
    dsimp only [exec]
    exact keepsChans_whenever (by (repeat' split) <;> simp)
  | finalSignedReading =>
    dsimp only [exec]
    exact keepsChans_whenever (by dsimp only; (repeat' split) <;> simp)
  | sysModeGet | sysHoldupInfo | metInputStatus | metSieveStatus | metEnergyRead | metMeasRead | metTempStatus |
  metLrId =>
    dsimp only [exec]
    exact keepsChans_brixo (by simp)
  | sysModeRequest | sysReset | metInputSelftest | metSieveHalt | metSumsRead | metCalMeasure | metCalCommit |
  metPqHarmRead | metPqShRead | metPqEventRead =>
    dsimp only [exec]
    exact keepsChans_brixo (by (repeat' split) <;> simp)
  | metSieveSetLoad | metTempTableLoad | metPqSummary =>
    dsimp only [exec]
    exact keepsChans_brixo (by dsimp only; (repeat' split) <;> simp)
  | reclaim =>
    dsimp only [exec]
    exact keepsChans_serveRequest (by simp)
  | reclaimTimerExpiry | magField | selftestEnd | neutralMismatch | reverseFlow | calMeasureSpanEnd =>
    simp -zeta only [exec, execReclaimTimerExpiry, execMagField, execSelftestEnd, execNeutralMismatch, execReverseFlow,
      execCalMeasureSpanEnd]
    split
    · exact keepsChans_self
    · exact keepsChans_whenever (by simp)
  | epochLatch | magFieldEnd =>
    simp -zeta only [exec, execEpochLatch, execMagFieldEnd]
    split
    · exact keepsChans_whenever (by simp)
    · exact keepsChans_self
  | meteringStopOpen =>
    simp -zeta only [exec, execMeteringStopOpen]
    split
    · exact keepsChans_self
    · exact keepsChans_next (by simp)
  | meteringFaultEnd => exact execMeteringFaultEnd_keepsChans _ _ _ s
  | urmsHalfSegmentEnd => exact execUrmsHalfSegmentEnd_keepsChans s
  | _ => exact Bool.noConfusion h

theorem keepsChans_records (c : Instr) (s : State) (h : writesHatch 8 10 c = true) :
    KeepsChans s (exec c s) := by
  cases c with
  | railWarning | journalNotDurable | civilBoundary | km1FeedbackMismatch | speedRestored | cellHandshakeTimeout
  | cellMemoryError | crossCheck | semHostTimeout =>
    dsimp only [exec]
    exact keepsChans_whenever (by simp)
  | kilnSteal =>
    dsimp only [exec]
    exact keepsChans_whenever (by (repeat' split) <;> simp)
  | speedMonitor =>
    dsimp only [exec]
    exact keepsChans_whenever (by dsimp only; (repeat' split) <;> simp)
  | ledSnapshotRead | ledStatus | bilTimeGet | bilTariffRead | kilnStatus | wedgeStatus =>
    dsimp only [exec]
    exact keepsChans_brixo (by simp)
  | metDeltaRead | ledWaveCapture | ledSignReading | bilCreditStatus =>
    dsimp only [exec]
    exact keepsChans_brixo (by (repeat' split) <;> simp)
  | ledSeriesRead | bilBillingRead =>
    dsimp only [exec]
    exact keepsChans_brixo (by dsimp only; (repeat' split) <;> simp)
  | delayedReadAndReset | timeChangeEffective | commandBillingClose | kilnTaskRun =>
    simp -zeta only [exec, execDelayedReadAndReset, execTimeChangeEffective, execCommandBillingClose, execKilnTaskRun]
    split
    · exact keepsChans_self
    · exact keepsChans_whenever (by simp)
  | d2Start => exact execD2Start_keepsChans _ _ _ s
  | journalAppendComplete => exact execJournalAppendComplete_keepsChans _ _ s
  | waveCaptureCopy => exact execWaveCaptureCopy_keepsChans s
  | signatureComplete => exact execSignatureComplete_keepsChans s
  | bilTimeSet => exact execBilTimeSet_keepsChans _ _ _ _ s
  | bilTzLoad => exact execBilTzLoad_keepsChans _ _ s
  | bilCalendarLoad => exact execBilCalendarLoad_keepsChans _ _ s
  | bilBillingClose => exact execBilBillingClose_keepsChans _ s
  | bilCreditTransfer => exact execBilCreditTransfer_keepsChans _ _ s
  | bilEmergencyActivate => exact execBilEmergencyActivate_keepsChans _ s
  | bilDisconnect => exact execBilDisconnect_keepsChans _ _ s
  | shedChanged => exact execShedChanged_keepsChans s
  | _ => exact Bool.noConfusion h

theorem keepsChans_interfaces (c : Instr) (s : State) (h : writesHatch 11 13 c = true) :
    KeepsChans s (exec c s) := by
  cases c with
  | h2mDataWrite | h2mAckRead | h2mFlush | h2mOverflowClear | m2hUnderflowClear | irqStatusClear | registerWrite
  | brixoEthDatagram | dctrlWrite | dmaChannelAbort | cpStateChange | slacMessage | v2gMessage | cableCheckReady =>
    dsimp only [exec]
    exact keepsChans_whenever (by simp)
  | m2hDataRead | hatchQueuePlacement =>
    dsimp only [exec]
    exact keepsChans_whenever (by (repeat' split) <;> simp)
  | readyRises =>
    dsimp only [exec]
    exact keepsChans_whenever (by dsimp only; (repeat' split) <;> simp)
  | hatchStatus | dmaStatus | vehStatus =>
    dsimp only [exec]
    exact keepsChans_brixo (by simp)
  | paramGet | vehLimitsSet | vehStop | vehAvailability | vehCertLoad | vehRelayAnswer =>
    dsimp only [exec]
    exact keepsChans_brixo (by (repeat' split) <;> simp)
  | paramSet | dmaAbort | vehAuthorise =>
    dsimp only [exec]
    exact keepsChans_brixo (by dsimp only; (repeat' split) <;> simp)
  | hatchPacketTake | dmaWriteBack | slacTimeout | authTimeout | overdraw | powerModuleLost | cableCheckTimeout
  | prechargeTimeout | dcDischargeEnd =>
    simp -zeta only [exec, execHatchPacketTake, execDmaWriteBack, execSlacTimeout, execAuthTimeout, execOverdraw,
      execPowerModuleLost, execCableCheckTimeout, execPrechargeTimeout, execDcDischargeEnd]
    split
    · exact keepsChans_self
    · exact keepsChans_whenever (by simp)
  | sessionClose =>
    simp -zeta only [exec, execSessionClose]
    split
    · exact keepsChans_whenever (by simp)
    · exact keepsChans_self
  | ipReassemblyTimeout =>
    simp -zeta only [exec, execIpReassemblyTimeout]
    split
    · exact keepsChans_self
    · exact keepsChans_next (by simp)
  | paramEffective => exact execParamEffective_keepsChans _ s
  | m2hAckWrite => exact execM2hAckWrite_keepsChans _ _ s
  | dmaDescriptorStart => exact execDmaDescriptorStart_keepsChans _ _ s
  | dmaBurst => exact execDmaBurst_keepsChans _ s
  | ppStateChange => exact execPpStateChange_keepsChans _ s
  | _ => exact Bool.noConfusion h

theorem keepsChans_shutter (c : Instr) (s : State) (h : writesHatch 14 15 c = true) :
    KeepsChans s (exec c s) := by
  cases c with
  | channelLinkLoss | openCoil | estopLineOpen | estopTestPulse | sresetRelease | sresetStuck | lswThermalOff |
  lswOpenLoad | lswOffStateShort | vauxGndOpen | vauxGndRestored | loadDump | vauxInReversed =>
    dsimp only [exec]
    exact keepsChans_whenever (by simp)
  | channelDisagreement | lswIlimTimeout =>
    dsimp only [exec]
    exact keepsChans_whenever (by (repeat' split) <;> simp)
  | shutterEvaluationCycle =>
    dsimp only [exec]
    exact keepsChans_whenever (by dsimp only; (repeat' split) <;> simp)
  | shuStatus | lswStatus =>
    dsimp only [exec]
    exact keepsChans_brixo (by simp)
  | shuReset | shuConfigClose | shuRcmTest | shuLogRead =>
    dsimp only [exec]
    exact keepsChans_brixo (by (repeat' split) <;> simp)
  | shuConfigOpen | shuPasswordSet | lswControl =>
    dsimp only [exec]
    exact keepsChans_brixo (by dsimp only; (repeat' split) <;> simp)
  | close | limit | openOrderly | openNow | pwm | rcmTest =>
    dsimp only [exec]
    exact keepsChans_serveRequest (by simp)
  | reset | orderlyStopWaitEnd | kfbTimeout | estopDiscrep | rcmSelftestStepEnd | weldTest | coilSupplyLow |
  cpStateAHeld | lswLatchRelease =>
    simp -zeta only [exec, execReset, execOrderlyStopWaitEnd, execKfbTimeout, execEstopDiscrep, execRcmSelftestStepEnd,
      execWeldTest, execCoilSupplyLow, execCpStateAHeld, execLswLatchRelease]
    split
    · exact keepsChans_self
    · exact keepsChans_whenever (by simp)
  | pendingResetLapse =>
    simp -zeta only [exec, execPendingResetLapse]
    split
    · exact keepsChans_self
    · exact keepsChans_next (by simp)
  | _ => exact Bool.noConfusion h

theorem keepsChans_keys (c : Instr) (s : State) (h : writesHatch 16 17 c = true) :
    KeepsChans s (exec c s) := by
  cases c with
  | tampSample | meshBreach | pollCycle | lbBrixoRequest =>
    dsimp only [exec]
    exact keepsChans_whenever (by simp)
  | conStatus =>
    dsimp only [exec]
    exact keepsChans_brixo (by simp)
  | sagStatus | sagSlotInfo | sagKeyWrite | sagKeyErase | sagLifecycleSet | sagTamperAck | conTune | conLbRead |
  conLbWrite | conLbConfig =>
    dsimp only [exec]
    exact keepsChans_brixo (by (repeat' split) <;> simp)
  | sagKeyGenerate | sagKeyImport | sagKeyDerive | sagPubkeyExport | sagCertAttach | sagUnlockChallenge |
  conListLoad =>
    dsimp only [exec]
    exact keepsChans_brixo (by dsimp only; (repeat' split) <;> simp)
  | writeSingleBlock | writeMultipleBlocks =>
    dsimp only [exec]
    exact keepsChans_fieldCmd (by simp)
  | earthLoading =>
    simp -zeta only [exec, execEarthLoading]
    split
    · exact keepsChans_self
    · exact keepsChans_whenever (by simp)
  | letterboxSummaryWrite => exact execLetterboxSummaryWrite_keepsChans _ s
  | _ => exact Bool.noConfusion h

theorem keepsChans_fabric (c : Instr) (s : State) (h : writesHatch 18 20 c = true) :
    KeepsChans s (exec c s) := by
  cases c with
  | beacon | helloReceived | tokenRequest | tokenGrant | tokenAccept | tokenCommit | tokenAbort | tokenRenew |
  tokenRenewed | tokenReturn | tokenRecall =>
    dsimp only [exec]
    exact keepsChans_whenever (by simp)
  | holdupDisplayDecision | dispRailFault =>
    dsimp only [exec]
    exact keepsChans_whenever (by dsimp only; (repeat' split) <;> simp)
  | dispStatus | mcStatus | linStatus | linTokenStatus =>
    dsimp only [exec]
    exact keepsChans_brixo (by simp)
  | dispImageWrite | dispClean | mcNeighbourRead | mcTonemapRefresh =>
    dsimp only [exec]
    exact keepsChans_brixo (by (repeat' split) <;> simp)
  | dispUpdate | linForward =>
    dsimp only [exec]
    exact keepsChans_brixo (by dsimp only; (repeat' split) <;> simp)
  | mcDataFrame | toneMapRequest =>
    dsimp only [exec]
    exact keepsChans_received (by simp)
  | mcAckFrame | toneMapReply =>
    dsimp only [exec]
    exact keepsChans_received (by dsimp only; (repeat' split) <;> simp)
  | mcAckWindowExpiry | mcNeighbourLost | linkDown | fabricPacketReceived | tokenAcceptTimeout | leaseHalf |
  leaseRelease | leaseExpiry | reissueClockExpiry | quarantineEnd | linForwardTimeout =>
    simp -zeta only [exec, execMcAckWindowExpiry, execMcNeighbourLost, execLinkDown, execFabricPacketReceived,
      execTokenAcceptTimeout, execLeaseHalf, execLeaseRelease, execLeaseExpiry, execReissueClockExpiry,
      execQuarantineEnd, execLinForwardTimeout]
    split
    · exact keepsChans_self
    · exact keepsChans_whenever (by simp)
  | dispFrameEnd => exact execDispFrameEnd_keepsChans s
  | waitingUpdateTimeout => exact execWaitingUpdateTimeout_keepsChans s
  | _ => exact Bool.noConfusion h

theorem keepsChans_update (c : Instr) (s : State) (h : writesHatch 21 25 c = true) :
    KeepsChans s (exec c s) := by
  cases c with
  | peerClaimFrame | hingeHeartbeat | hingeEpochMessage | hingeIsolated | hingeRoleResume | hingeProofTest =>
    dsimp only [exec]
    exact keepsChans_whenever (by simp)
  | peerClaimSilence | hingeResync | adcConversionComplete =>
    dsimp only [exec]
    exact keepsChans_whenever (by (repeat' split) <;> simp)
  | idleCurrentBlock =>
    dsimp only [exec]
    exact keepsChans_whenever (by dsimp only; (repeat' split) <;> simp)
  | hngStatus | updStatus | nlStatus | nlWakeAck | diagStatus =>
    dsimp only [exec]
    exact keepsChans_brixo (by simp)
  | hngSwitch | hngProofRun | updStageWrite | updActivate | updConfirm | auxRead | auxConvert | auxTrigRead |
  diagRead | diagFreeze | diagClear | sysRs485Send =>
    dsimp only [exec]
    exact keepsChans_brixo (by (repeat' split) <;> simp)
  | hngForce | updStageBegin | updVerify =>
    dsimp only [exec]
    exact keepsChans_brixo (by dsimp only; (repeat' split) <;> simp)
  | chainOffer | chainRequest | chainChunk | chainHave =>
    dsimp only [exec]
    exact keepsChans_next (by simp)
  | hingeTakeover | autoConfirm | freezeTimeout | rs485FrameEnd | rs485SendComplete =>
    simp -zeta only [exec, execHingeTakeover, execAutoConfirm, execFreezeTimeout, execRs485FrameEnd, execRs485SendComplete]
    split
    · exact keepsChans_self
    · exact keepsChans_whenever (by simp)
  | verifyComplete =>
    simp -zeta only [exec, execVerifyComplete]
    split
    · exact keepsChans_self
    · exact keepsChans_whenever (by (repeat' split) <;> simp)
  | iTempRaiseStep =>
    simp -zeta only [exec, execITempRaiseStep]
    split
    · exact keepsChans_whenever (by simp)
    · exact keepsChans_self
  | watchRule => exact execWatchRule_keepsChans _ s
  | hspiCsFalling => exact execHspiCsFalling_keepsChans _ _ s
  | _ => exact Bool.noConfusion h

/-! The restarts: the module's restart makes Hatch anew, D3's reset and a rollback end with the eight channels too. -/

/-- A next state has eight Hatch channels where the state before has them. -/
def KeepsEight (s : State) (o : Out) : Prop :=
  chanCount (forget butHatch s) = 8 → Answers (fun t => chanCount (forget butHatch t) = 8) o

section Restarts

variable {s : State}

theorem keepsEight_of_keepsChans {o : Out} (h : KeepsChans s o) : KeepsEight s o :=
  fun hs t ht => (h t ht).trans hs

theorem keepsEight_whenever {c : Bool} {f : State → State}
    (h : chanCount (forget butHatch s) = 8 → chanCount (forget butHatch (f s)) = 8) : KeepsEight s (whenever c s f) :=
  fun hs => answers_whenever hs (h hs)

theorem chanCount_d3Clear (s : State) : chanCount (forget butHatch (d3Clear s)) = 8 := by
  unfold d3Clear
  rw [forget_wedgeZeroNext _ rfl]
  rfl

@[simp] theorem chanCount_coldClear (s : State) : chanCount (forget butHatch (coldClear s)) = 8 := rfl

@[simp] theorem chanCount_restartAll (cause : Nat) (s : State) : chanCount (forget butHatch (restartAll cause s)) = 8 :=
  chanCount_coldClear s

@[simp] theorem chanCount_moduleRestart (cause : Nat) (s : State) :
    chanCount (forget butHatch (moduleRestart cause s)) = 8 :=
  chanCount_restartAll cause _

@[simp] theorem chanCount_rollback (cause : Nat) (s : State) (hs : chanCount (forget butHatch s) = 8) :
    chanCount (forget butHatch (rollback cause s)) = 8 := by
  unfold rollback
  dsimp only
  split
  · simp [hs]
  · simp

@[simp] theorem chanCount_d3Reset (cause : Nat) (s : State) : chanCount (forget butHatch (d3Reset cause s)) = 8 := by
  have hcleared := chanCount_d3Clear s
  unfold d3Reset
  extract_lets cleared lost down
  have hdown : chanCount (forget butHatch down) = 8 := by
    simp [down, lost, cleared, hcleared]
  split
  · exact chanCount_rollback 2 _ hdown
  · exact hdown

theorem execD3LeavesReset_keepsEight (cells : Nat) (rootOk : Bool) (corrected attempts worst : Nat) (hashOk : Bool)
    (badHelpers badSlots badCounts : Nat) (s : State) :
    KeepsEight s (execD3LeavesReset cells rootOk corrected attempts worst hashOk badHelpers badSlots badCounts s) := by
  refine keepsEight_whenever fun hs => ?_
  extract_lets awake erased moved up told pooled opened checked started
  have hawake : chanCount (forget butHatch awake) = 8 := hs
  have herased : chanCount (forget butHatch erased) = 8 := by simp [erased, hawake]
  have hmoved : chanCount (forget butHatch moved) = 8 := by
    dsimp only [moved]
    split <;> simp [herased]
  have hstarted : chanCount (forget butHatch started) = 8 := by
    simp [started, checked, opened, pooled, told, up, hmoved]
  split <;> simp [hstarted]

theorem execModeChangeEffective_keepsEight (s : State) : KeepsEight s (execModeChangeEffective s) := by
  unfold execModeChangeEffective
  split
  · exact keepsEight_whenever fun _ => by simp
  · split
    · exact fun hs => answers_next hs
    · refine keepsEight_whenever fun hs => ?_
      split <;> simp [hs]

theorem execHrstLow_keepsEight (us : Nat) (s : State) : KeepsEight s (execHrstLow us s) := by
  refine keepsEight_whenever fun hs => ?_
  dsimp only
  split
  · simp
  · split
    · simp
    · exact hs

theorem execActivationRestart_keepsEight (peer : Nat) (s : State) : KeepsEight s (execActivationRestart peer s) := by
  unfold execActivationRestart
  split
  · exact keepsEight_whenever fun _ => by simp
  · refine keepsEight_whenever fun hs => ?_
    dsimp only
    (repeat' split) <;> simp [hs]

theorem execRailsFall_keepsEight (s : State) : KeepsEight s (execRailsFall s) := by
  refine keepsEight_whenever fun _ => ?_
  extract_lets time timed
  split
  · exact chanCount_coldClear timed
  · exact chanCount_coldClear timed

end Restarts

theorem keepsEight_of_restarts (c : Instr) (s : State) (hc : restarts c = true) : KeepsEight s (exec c s) := by
  cases c with
  | d3LeavesReset => exact execD3LeavesReset_keepsEight _ _ _ _ _ _ _ _ _ s
  | modeChangeEffective => exact execModeChangeEffective_keepsEight s
  | hrstLow => exact execHrstLow_keepsEight _ s
  | activationRestart => exact execActivationRestart_keepsEight _ s
  | railsFall => exact execRailsFall_keepsEight s
  | watchdogExpiry | enginePoolFault | spyholeReset =>
    dsimp only [exec]
    exact keepsEight_whenever fun _ => by simp
  | trialTimeout =>
    dsimp only [exec]
    exact keepsEight_whenever fun hs => by simp [hs]
  | firstModeEntered | holdupSequenceEnd =>
    simp only [exec, execFirstModeEntered, execHoldupSequenceEnd]
    exact keepsEight_whenever fun hs => by simp [hs]
  | sysResetBegin | lifecycleRestart =>
    simp -zeta only [exec, execSysResetBegin, execLifecycleRestart]
    split
    · exact fun hs => answers_next hs
    · exact keepsEight_whenever fun _ => by simp
  | _ => exact Bool.noConfusion hc

/-- Every command keeps the eight Hatch channels: by its frame, one by one where it can change Hatch, and anew at a
restart. -/
theorem exec_keepsEight (c : Instr) (s : State) : KeepsEight s (exec c s) := by
  by_cases hspared : (touches c).all butHatch = true
  case pos => exact keepsEight_of_keepsChans (keepsChans_of_spared hspared)
  case neg =>
    by_cases hrestart : restarts c = true
    case pos => exact keepsEight_of_restarts c s hrestart
    case neg =>
      have hwrites (first last : Nat) (hfirst : first ≤ chapterOf c) (hlast : chapterOf c ≤ last) :
          writesHatch first last c = true := by
        simp [writesHatch, hfirst, hlast, hrestart, hspared]
      have hchapter : chapterOf c ≤ 25 := by cases c <;> exact Nat.le_of_ble_eq_true rfl
      refine keepsEight_of_keepsChans ?_
      rcases Nat.lt_or_ge (chapterOf c) 8 with h | h8
      · exact keepsChans_measurement c s (hwrites 0 7 (by omega) (by omega))
      rcases Nat.lt_or_ge (chapterOf c) 11 with h | h11
      · exact keepsChans_records c s (hwrites 8 10 (by omega) (by omega))
      rcases Nat.lt_or_ge (chapterOf c) 14 with h | h14
      · exact keepsChans_interfaces c s (hwrites 11 13 (by omega) (by omega))
      rcases Nat.lt_or_ge (chapterOf c) 16 with h | h16
      · exact keepsChans_shutter c s (hwrites 14 15 (by omega) (by omega))
      rcases Nat.lt_or_ge (chapterOf c) 18 with h | h18
      · exact keepsChans_keys c s (hwrites 16 17 (by omega) (by omega))
      rcases Nat.lt_or_ge (chapterOf c) 21 with h | h21
      · exact keepsChans_fabric c s (hwrites 18 20 (by omega) (by omega))
      · exact keepsChans_update c s (hwrites 21 25 (by omega) (by omega))

end Sys2Proof.HatchChannels

/-! The numbers of DMA channels (R295), semaphores (R253) and THROUGH values (R18): an operation that can change one of these
three blocks keeps them. -/

namespace Sys2Proof.BlockLengths

open Sys2Proof Sys2Proof.Machine Sys2Proof.Safety Sys2Proof.Laws Sys2Proof.Frames Sys2Proof.Invariants

/-- Every block but the DMA engine, Kiln and the snapshot. -/
abbrev butLists : Block → Bool := fun b => b != .dma && b != .kiln && b != .snap

/-- The three lengths the manual gives to these blocks. -/
def Lengths (s : State) : Prop :=
  s.dma.chans.length = 8 ∧ s.kiln.sems.length = 32 ∧ s.snap.through.length = 8

section Rules

variable {s : State}

@[simp] theorem lengths_set_kiln {k : Kiln} (hs : Lengths (forget butLists s)) (hk : k.sems.length = s.kiln.sems.length) :
    Lengths (forget butLists { s with kiln := k }) :=
  ⟨hs.1, hk.trans hs.2.1, hs.2.2⟩

@[simp] theorem lengths_setKiln {f : Kiln → Kiln} (hs : Lengths (forget butLists s))
    (hf : ∀ k, (f k).sems.length = k.sems.length) : Lengths (forget butLists (setKiln f s)) :=
  ⟨hs.1, (hf _).trans hs.2.1, hs.2.2⟩

@[simp] theorem lengths_set_snap {p : Snapshot} (hs : Lengths (forget butLists s))
    (hp : p.through.length = s.snap.through.length) : Lengths (forget butLists { s with snap := p }) :=
  ⟨hs.1, hs.2.1, hp.trans hs.2.2⟩

@[simp] theorem lengths_set_dma {d : Dma} (hs : Lengths (forget butLists s)) (hd : d.chans.length = s.dma.chans.length) :
    Lengths (forget butLists { s with dma := d }) :=
  ⟨hd.trans hs.1, hs.2⟩

@[simp] theorem lengths_setDma {c : Nat} {d : DmaChan} (hs : Lengths (forget butLists s)) :
    Lengths (forget butLists (setDma c d s)) :=
  ⟨List.length_set.trans hs.1, hs.2⟩

@[simp] theorem lengths_ite_iff {c : Prop} {_ : Decidable c} {a b : State} :
    Lengths (forget butLists (if c then a else b)) ↔
      (c → Lengths (forget butLists a)) ∧ (¬ c → Lengths (forget butLists b)) := by
  split <;> simp_all

theorem lengths_foldl {α : Type} (f : State → α → State) (l : List α) (hs : Lengths (forget butLists s))
    (hf : ∀ t a, Lengths (forget butLists t) → Lengths (forget butLists (f t a))) :
    Lengths (forget butLists (l.foldl f s)) := by
  induction l generalizing s with
  | nil => exact hs
  | cons a l ih => exact ih (hf _ _ hs)

end Rules

/-! The operations, in the order of their frames. -/

@[simp] theorem lengths_dmaBack (c idx status done : Nat) (s : State) (hs : Lengths (forget butLists s)) :
    Lengths (forget butLists (dmaBack c idx status done s)) := by
  simp [dmaBack, hs]

@[simp] theorem lengths_dmaAbort (c : Nat) (s : State) (hs : Lengths (forget butLists s)) :
    Lengths (forget butLists (dmaAbort c s).1) := by
  have hring (l : List Nat) (p : State × Nat) (hp : Lengths (forget butLists p.1)) :
      Lengths (forget butLists (l.foldl (fun p i =>
        if dOwn (((dmaChan p.1 c).ring[i]?).getD []) then (dmaBack c i 1 0 p.1, p.2 + 1) else p) p).1) := by
    induction l generalizing p with
    | nil => exact hp
    | cons i l ih =>
      refine ih _ ?_
      dsimp only
      split
      · exact lengths_dmaBack _ _ _ _ _ hp
      · exact hp
  unfold dmaAbort
  refine lengths_setDma (hring _ _ ?_)
  split
  · exact hs
  · split <;> exact lengths_dmaBack _ _ _ _ _ hs

@[simp] theorem lengths_abortHostDma (s : State) (hs : Lengths (forget butLists s)) :
    Lengths (forget butLists (abortHostDma s)) :=
  lengths_foldl _ _ hs fun t c ht => lengths_dmaAbort c t ht

@[simp] theorem lengths_acceptResult (t : Machine.Task) (s : State) (hs : Lengths (forget butLists s)) :
    Lengths (forget butLists (acceptResult t s)) := by
  simp [acceptResult, hs]

@[simp] theorem lengths_takeGroups (s : State) (hs : Lengths (forget butLists s)) :
    Lengths (forget butLists (takeGroups s)) := by
  simp [takeGroups, hs]

@[simp] theorem lengths_publish (j : JournalEntry) (c : Captured) (s : State) (hs : Lengths (forget butLists s)) :
    Lengths (forget butLists (publish j c s)) :=
  ⟨hs.1, hs.2.1, rfl⟩

@[simp] theorem lengths_commitDurable (j : JournalEntry) (c : Captured) (s : State)
    (hs : Lengths (forget butLists s)) :
    Lengths (forget butLists (commitDurable j c s)) := by
  simp [commitDurable, hs]

@[simp] theorem lengths_finalEntry (kind : Nat) (s : State) (hs : Lengths (forget butLists s)) :
    Lengths (forget butLists (finalEntry kind s)) := by
  unfold finalEntry
  extract_lets e found captured closed j taken ended
  have htaken : Lengths (forget butLists taken) := by simp [taken, closed, hs]
  have hended : Lengths (forget butLists ended) := by simp [ended, htaken]
  split <;> simp [hended]

@[simp] theorem lengths_d3Clear (s : State) (hs : Lengths (forget butLists s)) :
    Lengths (forget butLists (d3Clear s)) := by
  have hsnap : (dropRequests (loseFreeze (closeConfig s))).snap = s.snap := kept_snap (by simp (disch := decide))
  exact ⟨rfl, List.length_replicate, (congrArg (fun p : Snapshot => p.through.length) hsnap).trans hs.2.2⟩

@[simp] theorem lengths_coldClear (s : State) : Lengths (forget butLists (coldClear s)) :=
  ⟨rfl, rfl, rfl⟩

@[simp] theorem lengths_restartAll (cause : Nat) (s : State) : Lengths (forget butLists (restartAll cause s)) := by
  simp [restartAll]

@[simp] theorem lengths_moduleRestart (cause : Nat) (s : State) :
    Lengths (forget butLists (moduleRestart cause s)) := by
  simp [moduleRestart]

@[simp] theorem lengths_rollback (cause : Nat) (s : State) (hs : Lengths (forget butLists s)) :
    Lengths (forget butLists (rollback cause s)) := by
  simp [rollback, hs]

@[simp] theorem lengths_d3Reset (cause : Nat) (s : State) (hs : Lengths (forget butLists s)) :
    Lengths (forget butLists (d3Reset cause s)) := by
  simp [d3Reset, hs]

@[simp] theorem lengths_routeReading (c : Conversion) (code : Nat) (ovr under valid : Bool) (v : Int) (s : State)
    (hs : Lengths (forget butLists s)) :
    Lengths (forget butLists (routeReading c code ovr under valid v s)) := by
  unfold routeReading
  (repeat' split) <;> simp [hs]

@[simp] theorem lengths_deliver (c : Conversion) (code : Nat) (ovr under : Bool) (s : State)
    (hs : Lengths (forget butLists s)) :
    Lengths (forget butLists (deliver c code ovr under s)) := by
  simp [deliver, hs]

@[simp] theorem lengths_setCellK (k : Nat) (f : Cell → Cell) (s : State) (hs : Lengths (forget butLists s)) :
    Lengths (forget butLists (setCellK k f s)) := by
  simp [setCellK, hs]

@[simp] theorem lengths_failCell (k : Nat) (s : State) (hs : Lengths (forget butLists s)) :
    Lengths (forget butLists (failCell k s)) := by
  unfold failCell
  extract_lets tasks failed freed moved
  have hfreed : Lengths (forget butLists freed) := by
    refine lengths_setKiln (lengths_setCellK _ _ _ hs) fun k => ?_
    exact List.length_map _
  have hmoved : Lengths (forget butLists moved) := by
    dsimp only [moved]
    split <;> simp [hfreed]
  simp [hmoved]

@[simp] theorem lengths_finalIfReached (s : State) (hs : Lengths (forget butLists s)) :
    Lengths (forget butLists (finalIfReached s)) := by
  simp [finalIfReached, hs]

@[simp] theorem lengths_holdupStops (s : State) (hs : Lengths (forget butLists s)) :
    Lengths (forget butLists (holdupStops s)) := by
  simp [holdupStops, hs]

@[simp] theorem lengths_keepHome (cls : TaskClass) (part k : Nat) (s : State) (hs : Lengths (forget butLists s)) :
    Lengths (forget butLists (keepHome cls part k s)) := by
  simp [keepHome, hs]

@[simp] theorem lengths_latchEpoch (c : Captured) (s : State) (hs : Lengths (forget butLists s)) :
    Lengths (forget butLists (latchEpoch c s)) := by
  simp [latchEpoch, hs]

@[simp] theorem lengths_missBoundary (s : State) (hs : Lengths (forget butLists s)) :
    Lengths (forget butLists (missBoundary s)) := by
  refine lengths_setKiln hs fun k => ?_
  split <;> rfl

@[simp] theorem lengths_vehicleEpoch (e : Nat) (s : State) (hs : Lengths (forget butLists s)) :
    Lengths (forget butLists (vehicleEpoch e s)) := by
  simp [vehicleEpoch, hs]

@[simp] theorem lengths_runTask (t : Machine.Task) (s : State) (hs : Lengths (forget butLists s)) :
    Lengths (forget butLists (runTask t s)) := by
  unfold runTask
  (repeat' split) <;> simp [hs]

@[simp] theorem lengths_viewWrite (s : State) (a : Nat) (b : Byte) (hs : Lengths (forget butLists s)) :
    Lengths (forget butLists (viewWrite s a b)) := by
  simp [viewWrite, hs]

@[simp] theorem lengths_viewWriteList (s : State) (a : Nat) (l : List Byte) (hs : Lengths (forget butLists s)) :
    Lengths (forget butLists (viewWriteList s a l)) := by
  induction l generalizing s a with
  | nil => exact hs
  | cons b l ih => exact ih _ _ (lengths_viewWrite s a b hs)

@[simp] theorem lengths_wedgeBoundary (s : State) (hs : Lengths (forget butLists s)) :
    Lengths (forget butLists (wedgeBoundary s)) := by
  simp [wedgeBoundary, hs]

@[simp] theorem lengths_dMove (ws : List Nat) (e : Nat) (s : State) (hs : Lengths (forget butLists s)) :
    Lengths (forget butLists (dMove ws e s).1) := by
  simp [dMove, hs]

@[simp] theorem lengths_dMoveN (n : Nat) (r : Running) (s : State) (hs : Lengths (forget butLists s)) :
    Lengths (forget butLists (dMoveN n r s).1) := by
  induction n generalizing r s with
  | zero => exact hs
  | succ n ih =>
    unfold dMoveN
    split
    · exact ih _ _ (lengths_dMove _ _ _ hs)
    · exact hs

/-! The commands. -/

/-- A next state keeps the three lengths. -/
def KeepsLengths (s : State) (o : Out) : Prop :=
  Lengths (forget butLists s) → Answers (fun t => Lengths (forget butLists t)) o

section Shapes

variable {s t : State} {f : State → State}

theorem keepsLengths_next (h : Lengths (forget butLists s) → Lengths (forget butLists t)) : KeepsLengths s (.next t) :=
  fun hs => answers_next (h hs)

theorem keepsLengths_self : KeepsLengths s (.next s) := keepsLengths_next id

theorem keepsLengths_whenever {c : Bool} (h : Lengths (forget butLists s) → Lengths (forget butLists (f s))) :
    KeepsLengths s (whenever c s f) :=
  fun hs => answers_whenever hs (h hs)

theorem keepsLengths_brixo {code : Nat} {r : Req} {f : State → Answer}
    (h : Lengths (forget butLists s) → Lengths (forget butLists (f s).state)) : KeepsLengths s (brixo code r s f) :=
  fun hs => answers_brixo hs (fun _ _ _ hu => by simp [hu]) (h hs)

theorem keepsLengths_of_spared {c : Instr} (hspared : (touches c).all butLists = true) : KeepsLengths s (exec c s) :=
  fun hs t ht => (congrArg Lengths (forget_of_onlyChanges hspared (exec_within c s t ht))).mpr hs

end Shapes

theorem execD3LeavesReset_keepsLengths (cells : Nat) (rootOk : Bool) (corrected attempts worst : Nat) (hashOk : Bool)
    (badHelpers badSlots badCounts : Nat) (s : State) :
    KeepsLengths s (execD3LeavesReset cells rootOk corrected attempts worst hashOk badHelpers badSlots badCounts s) := by
  refine keepsLengths_whenever fun hs => ?_
  extract_lets awake erased moved up told pooled opened checked started
  have hawake : Lengths (forget butLists awake) := hs
  have herased : Lengths (forget butLists erased) := by simp [erased, hawake]
  have hmoved : Lengths (forget butLists moved) := by
    dsimp only [moved]
    split <;> simp [herased]
  have hpooled : Lengths (forget butLists pooled) := by simp [pooled, told, up, hmoved]
  have hstarted : Lengths (forget butLists started) := by simp [started, checked, opened, hpooled]
  split <;> simp [hstarted]

theorem execModeChangeEffective_keepsLengths (s : State) : KeepsLengths s (execModeChangeEffective s) := by
  unfold execModeChangeEffective
  split
  · exact keepsLengths_whenever fun _ => by simp
  · split
    · exact keepsLengths_self
    · refine keepsLengths_whenever fun hs => ?_
      split <;> simp [hs]

theorem execEpochStateCapture_keepsLengths (s : State) : KeepsLengths s (execEpochStateCapture s) := by
  refine keepsLengths_whenever fun hs => ?_
  extract_lets at0 timed c slew captured clk pwr dom bil snap moved corrected
  have hmoved : Lengths (forget butLists moved) := hs
  have hcorrected : Lengths (forget butLists corrected) := by
    simp [corrected, hmoved]
  simp [hcorrected]

theorem execJournalAppendComplete_keepsLengths (firstOk retryOk : Bool) (s : State) :
    KeepsLengths s (execJournalAppendComplete firstOk retryOk s) := by
  unfold execJournalAppendComplete
  split
  · exact keepsLengths_self
  · split
    · exact keepsLengths_next fun hs => by simp [hs]
    · split
      · refine keepsLengths_next fun hs => lengths_finalIfReached _ ?_
        simp [hs]
      · exact keepsLengths_next fun hs => by simp [hs]

theorem execWaveCaptureCopy_keepsLengths (s : State) : KeepsLengths s (execWaveCaptureCopy s) := by
  unfold execWaveCaptureCopy
  split
  · exact keepsLengths_self
  · refine keepsLengths_whenever fun hs => ?_
    rw [forget_replyTo _ _ _ _ _ rfl rfl rfl rfl rfl]
    exact hs

theorem execSpeedMonitor_keepsLengths (rates : List Nat) (coreMv : Nat) (tjMax : Int) (load : Nat) (s : State) :
    KeepsLengths s (execSpeedMonitor rates coreMv tjMax load s) := by
  refine keepsLengths_whenever fun hs => ?_
  extract_lets measured low
  have hmeasured : Lengths (forget butLists measured) := lengths_setKiln hs fun _ => rfl
  have hlow : Lengths (forget butLists low) := lengths_setKiln hmeasured fun _ => rfl
  split
  · exact hmeasured
  · split
    · split <;> simp [hlow]
    · simp [hmeasured]

theorem execKilnTaskRelease_keepsLengths (cls : TaskClass) (epoch part k : Nat) (s : State) :
    KeepsLengths s (execKilnTaskRelease cls epoch part k s) := by
  unfold execKilnTaskRelease
  extract_lets c
  refine keepsLengths_whenever fun hs => ?_
  extract_lets timed d clk drawn
  have htimed : Lengths (forget butLists timed) := by simp [timed, hs]
  have hdrawn : Lengths (forget butLists drawn) := htimed
  simp [hdrawn]

theorem execKilnSteal_keepsLengths (k : Nat) (s : State) : KeepsLengths s (execKilnSteal k s) := by
  refine keepsLengths_whenever fun hs => ?_
  have hscanned (n : Nat) : Lengths (forget butLists (setCellK k (fun c => { c with tries := (stealTick s, n) }) s)) := by
    simp [hs]
  split
  dsimp only
  split
  · exact hscanned _
  · split
    · exact lengths_runTask _ _ (lengths_setCellK _ _ _ (hscanned _))
    · exact lengths_setCellK _ _ _ (lengths_setCellK _ _ _ (hscanned _))

theorem execShedChanged_keepsLengths (s : State) : KeepsLengths s (execShedChanged s) := by
  unfold execShedChanged
  dsimp only
  split
  · exact keepsLengths_next fun hs => by simp [hs]
  · split
    · exact keepsLengths_next fun hs => by simp [hs]
    · exact keepsLengths_self

theorem execDmaBurst_keepsLengths (memError : Bool) (s : State) : KeepsLengths s (execDmaBurst memError s) := by
  unfold execDmaBurst
  extract_lets u
  have hu : Lengths (forget butLists s) → Lengths (forget butLists u) := fun hs => by simp [u, hs]
  split
  · exact keepsLengths_next hu
  · split
    · exact keepsLengths_next hu
    · extract_lets lost stall aged
      have haged (hs : Lengths (forget butLists s)) : Lengths (forget butLists aged) :=
        lengths_set_dma (hu hs) List.length_mapIdx
      split
      · exact keepsLengths_next fun hs => lengths_dmaBack _ _ _ _ _ (lengths_setDma (haged hs))
      · exact keepsLengths_next fun hs => lengths_setDma (lengths_dMoveN 16 _ aged (haged hs))

theorem execActivationRestart_keepsLengths (peer : Nat) (s : State) : KeepsLengths s (execActivationRestart peer s) := by
  unfold execActivationRestart
  split
  · exact keepsLengths_whenever fun _ => by simp
  · exact keepsLengths_whenever fun hs => by simp [hs]

theorem execRailsFall_keepsLengths (s : State) : KeepsLengths s (execRailsFall s) := by
  refine keepsLengths_whenever fun _ => ?_
  extract_lets time timed
  split
  · exact lengths_coldClear timed
  · exact lengths_coldClear timed

theorem register_keepsLengths (c : Instr) (s : State) (hc : isRegister c = true) : KeepsLengths s (exec c s) := by
  by_cases hspared : (touches c).all butLists = true
  case pos => exact keepsLengths_of_spared hspared
  case neg =>
    cases c with
    | registerWrite | dctrlWrite | dstatClear | descriptorCommit | descriptorStagingWrite | semaphoreRelease
    | wedgeRegisterWrite =>
      dsimp only [exec]
      exact keepsLengths_whenever fun hs => by simp [hs]
    | semaphoreRead =>
      dsimp only [exec]
      exact keepsLengths_whenever fun hs => by (repeat' split) <;> simp [hs]
    | h2mDataWrite | h2mAckRead | h2mFlush | h2mOverflowClear | m2hUnderflowClear | irqStatusClear | m2hDataRead
    | m2hAckWrite => exact absurd rfl hspared
    | _ => exact Bool.noConfusion hc

theorem execHspiCsFalling_keepsLengths (wire : List Byte) (clocks : Nat) (s : State) :
    KeepsLengths s (execHspiCsFalling wire clocks s) := by
  have hclosed : RegisterClosed fun t => Lengths (forget butLists t) :=
    { command := fun c u hc hu => register_keepsLengths c u hc hu
      openWord := fun u hu => hu
      driven := fun _ u hu => hu }
  exact keepsLengths_whenever fun hs => hclosed.spiTransaction _ _ (by simp [hs])

/-- Every command keeps the three lengths: by its frame, or one by one where it can change a block that has one. -/
theorem exec_keepsLengths (c : Instr) (s : State) : KeepsLengths s (exec c s) := by
  by_cases hspared : (touches c).all butLists = true
  case pos => exact keepsLengths_of_spared hspared
  case neg =>
    cases c with
    | sysModeGet | metInputStatus | metSieveStatus | metTempStatus | kilnStatus | vehStatus | shuStatus | lswStatus
    | hngStatus =>
      dsimp only [exec]
      exact keepsLengths_brixo id
    | dmaAbort =>
      dsimp only [exec]
      exact keepsLengths_brixo fun hs => by
        dsimp only
        (repeat' split) <;> simp [hs]
    | firstModeEntered | mainsFailDetection | mainsAbsentDecision | hrstLow | watchdogExpiry | enginePoolFault
    | spyholeReset | railWarning | speedRestored | kilnDeadlineMiss | cellHandshakeTimeout | cellMemoryError
    | crossCheck | semHostTimeout | dmaChannelAbort | trialTimeout =>
      dsimp only [exec]
      exact keepsLengths_whenever fun hs => by simp [hs]
    | mainPathSample | adcConversionComplete =>
      dsimp only [exec]
      exact keepsLengths_whenever fun hs => by (repeat' split) <;> simp [hs]
    | sysResetBegin | kilnTaskRun | dmaWriteBack | lifecycleRestart =>
      simp -zeta only [exec, execSysResetBegin, execKilnTaskRun, execDmaWriteBack, execLifecycleRestart]
      split
      · exact keepsLengths_self
      · exact keepsLengths_whenever fun hs => by simp [hs]
    | holdupSequenceEnd | dmaDescriptorStart =>
      simp only [exec, execHoldupSequenceEnd, execDmaDescriptorStart]
      exact keepsLengths_whenever fun hs => by simp [hs]
    | epochLatch =>
      simp -zeta only [exec, execEpochLatch]
      split
      · exact keepsLengths_whenever fun hs => by simp [hs]
      · exact keepsLengths_self
    | d3LeavesReset => exact execD3LeavesReset_keepsLengths _ _ _ _ _ _ _ _ _ s
    | modeChangeEffective => exact execModeChangeEffective_keepsLengths s
    | epochStateCapture => exact execEpochStateCapture_keepsLengths s
    | journalAppendComplete => exact execJournalAppendComplete_keepsLengths _ _ s
    | waveCaptureCopy => exact execWaveCaptureCopy_keepsLengths s
    | speedMonitor => exact execSpeedMonitor_keepsLengths _ _ _ _ s
    | kilnTaskRelease => exact execKilnTaskRelease_keepsLengths _ _ _ _ s
    | kilnSteal => exact execKilnSteal_keepsLengths _ s
    | shedChanged => exact execShedChanged_keepsLengths s
    | dmaBurst => exact execDmaBurst_keepsLengths _ s
    | activationRestart => exact execActivationRestart_keepsLengths _ s
    | railsFall => exact execRailsFall_keepsLengths s
    | hspiCsFalling => exact execHspiCsFalling_keepsLengths _ _ s
    | registerWrite | dctrlWrite | descriptorStagingWrite | descriptorCommit | dstatClear | semaphoreRead
    | semaphoreRelease | wedgeRegisterWrite => exact register_keepsLengths _ s rfl
    | _ => exact absurd rfl hspared

end Sys2Proof.BlockLengths

/-! What the invariants ask at reset, and what every step keeps of the numbers the manual gives. -/

namespace Sys2Proof.Invariants

open Sys2Proof Sys2Proof.Machine Sys2Proof.Safety

theorem shape_iff (s : State) : Shape s ↔
    HatchChannels.chanCount (forget HatchChannels.butHatch s) = 8 ∧
      BlockLengths.Lengths (forget BlockLengths.butLists s) := by
  simp only [Shape, HatchChannels.chanCount, BlockLengths.Lengths]
  tauto

theorem exec_keeps_shape {c : Instr} {s t : State} (hs : Shape s) (ht : exec c s = .next t) : Shape t := by
  obtain ⟨hchans, hlengths⟩ := (shape_iff s).mp hs
  exact (shape_iff t).mpr ⟨HatchChannels.exec_keepsEight c s hchans t ht, BlockLengths.exec_keepsLengths c s hlengths t ht⟩

/-- Settles O44: at reset the memory is empty and the lists have their lengths; that the queue of commands is empty is the
model's own (log 51). -/
theorem resetInvariants : Obligations.ResetInvariants :=
  ⟨rfl, ⟨rfl, rfl, rfl, rfl⟩, rfl⟩

/-- Settles O48: the eight Hatch channels and the other three lengths, command by command. -/
theorem stepKeepsShape : Obligations.StepKeepsShape := by
  intro s t hs hstep
  obtain rfl | ⟨c, rest, ht⟩ := step_cases hstep
  · exact hs
  · exact exec_keeps_shape (s := { s with pending := rest }) hs ht

end Sys2Proof.Invariants

/-! The timebase (log 3, log 4): no operation turns the instant back, and none gives a free value again that is drawn. -/

namespace Sys2Proof.Clocks

open Sys2Proof Sys2Proof.Machine Sys2Proof.Safety Sys2Proof.Laws Sys2Proof.Frames Sys2Proof.Invariants

/-- Every block but the clock. -/
abbrev butClk : Block → Bool := fun b => b != .clk

/-- The instant and the count of free values are no smaller than those of a clock. -/
def Since (clock : Clock) (s : State) : Prop := clock.now ≤ s.clk.now ∧ clock.free ≤ s.clk.free

section Rules

variable {clock : Clock} {s : State}

@[simp] theorem since_set_clk {c : Clock} (hs : Since clock (forget butClk s)) (hnow : s.clk.now ≤ c.now)
    (hfree : s.clk.free ≤ c.free) : Since clock (forget butClk { s with clk := c }) :=
  ⟨hs.1.trans hnow, hs.2.trans hfree⟩

theorem since_foldl {α : Type} (f : State → α → State) (l : List α) (s : State) (hs : Since clock (forget butClk s))
    (hf : ∀ t a, Since clock (forget butClk t) → Since clock (forget butClk (f t a))) :
    Since clock (forget butClk (l.foldl f s)) := by
  induction l generalizing s with
  | nil => exact hs
  | cons a l ih => exact ih _ (hf _ _ hs)

theorem since_congr {t : State} (hframe : forget butClk t = forget butClk s) (hs : Since clock (forget butClk s)) :
    Since clock (forget butClk t) := by
  rw [hframe]
  exact hs

@[simp] theorem since_ite_iff {c : Prop} {_ : Decidable c} {a b : State} :
    Since clock (forget butClk (if c then a else b)) ↔
      (c → Since clock (forget butClk a)) ∧ (¬ c → Since clock (forget butClk b)) := by
  split <;> simp [*]

end Rules

/-! The operations, in the order of their frames. -/

@[simp] theorem since_advanceTo {clock : Clock} (t : Tick) (s : State) (hs : Since clock (forget butClk s)) :
    Since clock (forget butClk (advanceTo t s)) := by
  simp [advanceTo, hs]

@[simp] theorem since_takeFree {clock : Clock} (s : State) (hs : Since clock (forget butClk s)) :
    Since clock (forget butClk (takeFree s).2) := by
  simp [takeFree, hs]

@[simp] theorem since_closeOutage {clock : Clock} (s : State) (hs : Since clock (forget butClk s)) :
    Since clock (forget butClk (closeOutage s)) := by
  unfold closeOutage
  split <;> simp [hs]

@[simp] theorem since_mEpoch {clock : Clock} (r : SumsRec) (s : State) (hs : Since clock (forget butClk s)) :
    Since clock (forget butClk (mEpoch r s)) := by
  simp [mEpoch, hs]

@[simp] theorem since_mComplete {clock : Clock} (e : Nat) (s : State) (hs : Since clock (forget butClk s)) :
    Since clock (forget butClk (mComplete e s)) :=
  since_foldl _ _ _ hs fun t r ht => since_mEpoch r t ht

@[simp] theorem since_kilnCloses {clock : Clock} (s : State) (hs : Since clock (forget butClk s)) :
    Since clock (forget butClk (kilnCloses s)) := by
  simp [kilnCloses, hs]

@[simp] theorem since_closeRun {clock : Clock} (s : State) (hs : Since clock (forget butClk s)) :
    Since clock (forget butClk (closeRun s)) := by
  simp [closeRun, hs]

@[simp] theorem since_endRvc {clock : Clock} (o : PqRvc) (a : Nat) (dss : Option Nat) (flags : Nat) (s : State)
    (hs : Since clock (forget butClk s)) :
    Since clock (forget butClk (endRvc o a dss flags s)) := by
  unfold endRvc
  dsimp only
  (repeat' split) <;> simp [hs]

@[simp] theorem since_pqEndOthers {clock : Clock} (a flags : Nat) (s : State) (hs : Since clock (forget butClk s)) :
    Since clock (forget butClk (pqEndOthers a flags s)) := by
  unfold pqEndOthers
  dsimp only
  (repeat' split) <;> simp [hs]

@[simp] theorem since_pqDisarm {clock : Clock} (s : State) (hs : Since clock (forget butClk s)) :
    Since clock (forget butClk (pqDisarm s)) := by
  unfold pqDisarm
  dsimp only
  (repeat' split) <;> simp [hs]

@[simp] theorem since_coilsOff {clock : Clock} (chan : Nat) (s : State) (hs : Since clock (forget butClk s)) :
    Since clock (forget butClk (coilsOff chan s)) := by
  simp [coilsOff, hs]

@[simp] theorem since_d2Clear {clock : Clock} (s : State) (hs : Since clock (forget butClk s)) :
    Since clock (forget butClk (d2Clear s)) :=
  hs

@[simp] theorem since_coldClear {clock : Clock} (s : State) (hs : Since clock (forget butClk s)) :
    Since clock (forget butClk (coldClear s)) := by
  simp [coldClear, hs]

@[simp] theorem since_continueLedger {clock : Clock} (s : State) (hs : Since clock (forget butClk s)) :
    Since clock (forget butClk (continueLedger s)) := by
  simp [continueLedger, hs]

@[simp] theorem since_endSessionOpen {clock : Clock} (s : State) (hs : Since clock (forget butClk s)) :
    Since clock (forget butClk (endSessionOpen s)) := by
  simp [endSessionOpen, hs]

@[simp] theorem since_tamperBegin {clock : Clock} (src : Nat) (s : State) (hs : Since clock (forget butClk s)) :
    Since clock (forget butClk (tamperBegin src s)) := by
  simp [tamperBegin, hs]

@[simp] theorem since_tamperOn {clock : Clock} (src : Nat) (s : State) (hs : Since clock (forget butClk s)) :
    Since clock (forget butClk (tamperOn src s)) := by
  simp [tamperOn, hs]

@[simp] theorem since_coverFollow {clock : Clock} (s : State) (hs : Since clock (forget butClk s)) :
    Since clock (forget butClk (coverFollow s)) := by
  simp [coverFollow, hs]

@[simp] theorem since_trip {clock : Clock} (mask chan : Nat) (value : Int) (s : State)
    (hs : Since clock (forget butClk s)) :
    Since clock (forget butClk (trip mask chan value s)) := by
  unfold trip
  dsimp only
  (repeat' split) <;> simp [hs]

@[simp] theorem since_tripPlain {clock : Clock} (mask chan : Nat) (s : State) (hs : Since clock (forget butClk s)) :
    Since clock (forget butClk (tripPlain mask chan s)) := by
  simp [tripPlain, hs]

@[simp] theorem since_cycleTrips {clock : Clock} (i : CycleIn) (s : State) (hs : Since clock (forget butClk s)) :
    Since clock (forget butClk (cycleTrips i s)) := by
  unfold cycleTrips
  dsimp only
  (repeat' split) <;> simp [hs]

@[simp] theorem since_restartAll {clock : Clock} (cause : Nat) (s : State) (hs : Since clock (forget butClk s)) :
    Since clock (forget butClk (restartAll cause s)) := by
  simp [restartAll, hs]

@[simp] theorem since_moduleRestart {clock : Clock} (cause : Nat) (s : State) (hs : Since clock (forget butClk s)) :
    Since clock (forget butClk (moduleRestart cause s)) := by
  simp [moduleRestart, hs]

@[simp] theorem since_rollback {clock : Clock} (cause : Nat) (s : State) (hs : Since clock (forget butClk s)) :
    Since clock (forget butClk (rollback cause s)) := by
  simp [rollback, hs]

@[simp] theorem since_d3Reset {clock : Clock} (cause : Nat) (s : State) (hs : Since clock (forget butClk s)) :
    Since clock (forget butClk (d3Reset cause s)) := by
  simp [d3Reset, hs]

@[simp] theorem since_deenergise {clock : Clock} (s : State) (hs : Since clock (forget butClk s)) :
    Since clock (forget butClk (deenergise s)) := by
  simp [deenergise, hs]

@[simp] theorem since_degrade {clock : Clock} (s : State) (hs : Since clock (forget butClk s)) :
    Since clock (forget butClk (degrade s)) := by
  simp [degrade, hs]

@[simp] theorem since_dieEvent {clock : Clock} (event cause : Nat) (s : State) (hs : Since clock (forget butClk s)) :
    Since clock (forget butClk (dieEvent event cause s)) := by
  simp [dieEvent, hs]

@[simp] theorem since_endRcm {clock : Clock} (t : RcmTest) (result dc ac : Nat) (s : State)
    (hs : Since clock (forget butClk s)) :
    Since clock (forget butClk (endRcm t result dc ac s)) := by
  simp [endRcm, hs]

@[simp] theorem since_failCell {clock : Clock} (k : Nat) (s : State) (hs : Since clock (forget butClk s)) :
    Since clock (forget butClk (failCell k s)) := by
  unfold failCell
  dsimp only
  (repeat' split) <;> simp [hs]

@[simp] theorem since_finishStop {clock : Clock} (s : State) (hs : Since clock (forget butClk s)) :
    Since clock (forget butClk (finishStop s)) := by
  unfold finishStop
  split <;> simp [hs]

@[simp] theorem since_followOff {clock : Clock} (s : State) (hs : Since clock (forget butClk s)) :
    Since clock (forget butClk (followOff s)) := by
  simp [followOff, hs]

@[simp] theorem since_pmStop {clock : Clock} (s : State) (hs : Since clock (forget butClk s)) :
    Since clock (forget butClk (pmStop s)) := by
  simp [pmStop, hs]

@[simp] theorem since_stopPowerStage {clock : Clock} (s : State) (hs : Since clock (forget butClk s)) :
    Since clock (forget butClk (stopPowerStage s)) := by
  simp [stopPowerStage, hs]

@[simp] theorem since_holdupStops {clock : Clock} (s : State) (hs : Since clock (forget butClk s)) :
    Since clock (forget butClk (holdupStops s)) := by
  simp [holdupStops, hs]

@[simp] theorem since_idleWindow {clock : Clock} (preamble : Bool) (s : State) (hs : Since clock (forget butClk s)) :
    Since clock (forget butClk (idleWindow preamble s)) := by
  unfold idleWindow
  dsimp only
  (repeat' split) <;> simp [hs]

@[simp] theorem since_unplug {clock : Clock} (s : State) (hs : Since clock (forget butClk s)) :
    Since clock (forget butClk (unplug s)) := by
  simp [unplug, hs]

@[simp] theorem since_kilnCp {clock : Clock} (old new : Nat) (s : State) (hs : Since clock (forget butClk s)) :
    Since clock (forget butClk (kilnCp old new s)) := by
  simp [kilnCp, hs]

@[simp] theorem since_mNext {clock : Clock} (s : State) (hs : Since clock (forget butClk s)) :
    Since clock (forget butClk (mNext s)) := by
  unfold mNext
  dsimp only
  (repeat' split) <;> simp [hs]

@[simp] theorem since_mChain {clock : Clock} (n : Nat) (s : State) (hs : Since clock (forget butClk s)) :
    Since clock (forget butClk (mChain n s)) := by
  induction n generalizing s with
  | zero => exact hs
  | succ n ih =>
    unfold mChain
    dsimp only
    split
    · exact hs
    · exact ih _ (since_mNext s hs)

@[simp] theorem since_outputsOff {clock : Clock} (s : State) (hs : Since clock (forget butClk s)) :
    Since clock (forget butClk (outputsOff s)) := by
  simp [outputsOff, hs]

@[simp] theorem since_pWindow {clock : Clock} (d : PqDue) (s : State) (hs : Since clock (forget butClk s)) :
    Since clock (forget butClk (pWindow d s)) := by
  unfold pWindow
  dsimp only
  split
  · exact hs
  · exact ⟨hs.1, hs.2.trans (Nat.le_add_right _ 12)⟩

@[simp] theorem since_pTask {clock : Clock} (epoch part : Nat) (s : State) (hs : Since clock (forget butClk s)) :
    Since clock (forget butClk (pTask epoch part s)) := by
  unfold pTask
  (repeat' split) <;> simp [hs]

@[simp] theorem since_pollSlot {clock : Clock} (period : Tick) (s : State) (hs : Since clock (forget butClk s)) :
    Since clock (forget butClk (pollSlot period s)) := by
  simp [pollSlot, hs]

@[simp] theorem since_pqHoldup {clock : Clock} (s : State) (hs : Since clock (forget butClk s)) :
    Since clock (forget butClk (pqHoldup s)) := by
  unfold pqHoldup
  dsimp only
  split
  · exact hs
  · split
    · simp [hs]
    · have hdrawn := since_takeFree _ (since_takeFree s hs)
      simp [hdrawn]

@[simp] theorem since_proofResults {clock : Clock} (linkOk claimOk : Bool) (diff : Int)
    (replicaOk crossOk rcmOk shorted : Bool) (s : State) (hs : Since clock (forget butClk s)) :
    Since clock (forget butClk (proofResults linkOk claimOk diff replicaOk crossOk rcmOk shorted s)) := by
  simp [proofResults, hs]

@[simp] theorem since_replayJournal {clock : Clock} (s : State) (hs : Since clock (forget butClk s)) :
    Since clock (forget butClk (replayJournal s)) := by
  unfold replayJournal
  extract_lets ck zero r0 es start before
  split
  extract_lets logged newest closed first
  have hlogged : Since clock (forget butClk logged) := since_foldl _ _ _ hs fun t g ht => by simp [ht]
  have hclosed : Since clock (forget butClk closed) := by simp [closed, hlogged]
  split
  next _ drawn htaken =>
    have hdrawn : Since clock (forget butClk drawn) := by simpa [htaken] using since_takeFree closed hclosed
    extract_lets measured marked clk timed
    have hmarked : Since clock (forget butClk marked) := by
      dsimp only [marked]
      split <;> simp [measured, hdrawn]
    have htimed : Since clock (forget butClk timed) := hmarked
    split <;> simp [htimed]

@[simp] theorem since_watchDcStop {clock : Clock} (s : State) (hs : Since clock (forget butClk s)) :
    Since clock (forget butClk (watchDcStop s)) := by
  simp [watchDcStop, hs]

@[simp] theorem since_watchCp {clock : Clock} (s : State) (hs : Since clock (forget butClk s)) :
    Since clock (forget butClk (watchCp s)) := by
  simp [watchCp, hs]

@[simp] theorem since_vehicleEpoch {clock : Clock} (e : Nat) (s : State) (hs : Since clock (forget butClk s)) :
    Since clock (forget butClk (vehicleEpoch e s)) := by
  simp [vehicleEpoch, hs]

@[simp] theorem since_runTask {clock : Clock} (t : Machine.Task) (s : State) (hs : Since clock (forget butClk s)) :
    Since clock (forget butClk (runTask t s)) := by
  unfold runTask
  (repeat' split) <;> simp [hs]

@[simp] theorem since_stallOver {clock : Clock} (s : State) (hs : Since clock (forget butClk s)) :
    Since clock (forget butClk (stallOver s)) := by
  unfold stallOver
  (repeat' split) <;> simp [hs]

@[simp] theorem since_startEvent {clock : Clock} (type phases : Nat) (ext : Nat × Nat) (thrEnd : Nat) (r : Refresh)
    (s : State) (hs : Since clock (forget butClk s)) :
    Since clock (forget butClk (startEvent type phases ext thrEnd r s).2) := by
  simp [startEvent, hs]

@[simp] theorem since_stepDip {clock : Clock} (r : Refresh) (s : State) (hs : Since clock (forget butClk s)) :
    Since clock (forget butClk (stepDip r s)) := by
  unfold stepDip
  split <;> simp [hs]

@[simp] theorem since_stepIntr {clock : Clock} (r : Refresh) (s : State) (hs : Since clock (forget butClk s)) :
    Since clock (forget butClk (stepIntr r s)) := by
  unfold stepIntr
  split <;> simp [hs]

@[simp] theorem since_stepRvc {clock : Clock} (r : Refresh) (s : State) (hs : Since clock (forget butClk s)) :
    Since clock (forget butClk (stepRvc r s)) := by
  unfold stepRvc
  dsimp only
  (repeat' split) <;> simp [hs]

@[simp] theorem since_stepSwell {clock : Clock} (r : Refresh) (s : State) (hs : Since clock (forget butClk s)) :
    Since clock (forget butClk (stepSwell r s)) := by
  unfold stepSwell
  split <;> simp [hs]

@[simp] theorem since_tampOfOutage {clock : Clock} (x : Nat × State) (c : Nat × Bool × Int)
    (hs : Since clock (forget butClk x.2)) :
    Since clock (forget butClk (tampOfOutage x c).2) := by
  simp [tampOfOutage, hs]

@[simp] theorem since_takeOutage {clock : Clock} (s : State) (hs : Since clock (forget butClk s)) :
    Since clock (forget butClk (takeOutage s)) := by
  have hkept (l : List (Nat × Bool × Int)) (x : Nat × State) (hx : Since clock (forget butClk x.2)) :
      Since clock (forget butClk (l.foldl tampOfOutage x).2) := by
    induction l generalizing x with
    | nil => exact hx
    | cons c l ih => exact ih _ (since_tampOfOutage x c hx)
  unfold takeOutage
  split
  · exact hs
  · exact hkept _ _ hs

@[simp] theorem since_takeRequest {clock : Clock} (p : ShuReq → Bool) (s : State)
    (hs : Since clock (forget butClk s)) :
    Since clock (forget butClk (takeRequest p s)) := by
  unfold takeRequest
  dsimp only
  split
  · exact since_advanceTo _ _ hs
  · exact hs

@[simp] theorem since_v2gStep {clock : Clock} (m : V2GMsg) (s : State) (hs : Since clock (forget butClk s)) :
    Since clock (forget butClk (v2gStep m s)) := by
  unfold v2gStep
  (repeat' split) <;> simp [hs]

/-! The commands. -/

/-- A next state has the instant and the count of a clock that the state before has. -/
def KeepsClock (clock : Clock) (s : State) (o : Out) : Prop :=
  Since clock (forget butClk s) → Answers (fun t => Since clock (forget butClk t)) o

section Shapes

variable {clock : Clock} {s t : State} {f : State → State}

theorem keepsClock_next (h : Since clock (forget butClk s) → Since clock (forget butClk t)) :
    KeepsClock clock s (.next t) :=
  fun hs => answers_next (h hs)

theorem keepsClock_self : KeepsClock clock s (.next s) := keepsClock_next id

theorem keepsClock_whenever {c : Bool} (h : Since clock (forget butClk s) → Since clock (forget butClk (f s))) :
    KeepsClock clock s (whenever c s f) :=
  fun hs => answers_whenever hs (h hs)

theorem keepsClock_serveRequest {p : ShuReq → Bool}
    (h : Since clock (forget butClk (takeRequest p s)) → Since clock (forget butClk (f (takeRequest p s)))) :
    KeepsClock clock s (serveRequest p s f) :=
  keepsClock_whenever fun hs => h (since_takeRequest p s hs)

theorem keepsClock_brixo {code : Nat} {r : Req} {f : State → Answer}
    (h : Since clock (forget butClk s) → Since clock (forget butClk (f s).state)) : KeepsClock clock s (brixo code r s f) :=
  fun hs => answers_brixo hs (fun _ _ _ hu => by simp [hu]) (h hs)

theorem keepsClock_of_spared {c : Instr} (hspared : (touches c).all butClk = true) : KeepsClock clock s (exec c s) :=
  fun hs t ht => (congrArg (Since clock) (forget_of_onlyChanges hspared (exec_within c s t ht))).mpr hs

end Shapes

theorem execD2Start_keepsClock (clock : Clock) (codes : List Int) (setOk : Bool) (lost : Nat) (s : State) :
    KeepsClock clock s (execD2Start codes setOk lost s) := by
  refine keepsClock_whenever fun hs => ?_
  extract_lets alone cold counted numbered replayed was super clk started logged lost timed loaded aligned tested
    marked trial
  have hreplayed : Since clock (forget butClk replayed) := by simp [replayed, numbered, counted, hs]
  have hsuper : Since clock (forget butClk super) := by simp [super, hreplayed]
  have hstarted : Since clock (forget butClk started) := by
    simp only [started]
    exact hsuper
  have hlogged : Since clock (forget butClk logged) := by simp [logged, hstarted]
  have htimed : Since clock (forget butClk timed) := by
    dsimp only [timed]
    split <;> simp [hlogged]
  have hloaded : Since clock (forget butClk loaded) := by simp [loaded, htimed]
  have htrial : Since clock (forget butClk trial) := by simp [trial, marked, tested, aligned, hloaded]
  simp [htrial]

theorem execReadyRises_keepsClock (clock : Clock) (s : State) : KeepsClock clock s (execReadyRises s) := by
  refine keepsClock_whenever fun hs => ?_
  extract_lets ready todo aborted unseen seen triggered reported shared based
  have haborted : Since clock (forget butClk aborted) := by
    dsimp only [aborted]
    split
    · exact since_foldl _ _ _ hs fun t p ht => by simp [ht]
    · exact hs
  have htriggered : Since clock (forget butClk triggered) := 
    since_foldl _ _ _ (by simp [seen, haborted]) fun t u ht => by simp [ht]
  have hbased : Since clock (forget butClk based) := by simp [based, shared, reported, htriggered]
  simp [hbased]

theorem execModeChangeEffective_keepsClock (clock : Clock) (s : State) :
    KeepsClock clock s (execModeChangeEffective s) := by
  unfold execModeChangeEffective
  split
  · exact keepsClock_whenever fun hs => by simp [hs]
  · split
    · exact keepsClock_self
    · refine keepsClock_whenever fun hs => ?_
      split <;> simp [hs]

theorem execSysResetBegin_keepsClock (clock : Clock) (s : State) : KeepsClock clock s (execSysResetBegin s) := by
  unfold execSysResetBegin
  split
  · exact keepsClock_self
  · refine keepsClock_whenever fun hs => ?_
    extract_lets waited
    have hwaited : Since clock (forget butClk waited) := by simp [waited, hs]
    split <;> simp [hwaited]

theorem execMainsFailDetection_keepsClock (clock : Clock) (bulk : Nat) (s : State) :
    KeepsClock clock s (execMainsFailDetection bulk s) := by
  refine keepsClock_whenever fun hs => ?_
  extract_lets failed old held timed logged stopped budgeted
  have hfailed : Since clock (forget butClk failed) := hs
  have hpq : Since clock (forget butClk (pqHoldup logged)) := by simp [logged, timed, held, hfailed]
  have hstopped : Since clock (forget butClk stopped) := by simp [stopped, hpq]
  split
  · exact hfailed
  · split
    · simp [hfailed]
    · simp [budgeted, hstopped]

theorem execEpochStateCapture_keepsClock (clock : Clock) (s : State) :
    KeepsClock clock s (execEpochStateCapture s) := by
  refine keepsClock_whenever fun hs => ?_
  extract_lets at0 timed c slew captured clk pwr dom bil snap moved corrected
  have htimed : Since clock (forget butClk timed) := since_advanceTo _ _ hs
  have hmoved : Since clock (forget butClk moved) := htimed
  simp [corrected, hmoved]

theorem execCfPulseEdge_keepsClock (clock : Clock) (q : Bool) (s : State) :
    KeepsClock clock s (execCfPulseEdge q s) := by
  unfold execCfPulseEdge
  extract_lets o
  split
  · exact keepsClock_self
  · exact keepsClock_whenever fun hs => by simp [hs]

theorem execCfPulseEnd_keepsClock (clock : Clock) (q : Bool) (s : State) :
    KeepsClock clock s (execCfPulseEnd q s) := by
  unfold execCfPulseEnd
  extract_lets o
  split
  · exact keepsClock_self
  · exact keepsClock_whenever fun hs => by simp [hs]

theorem execUrmsHalfSegmentEnd_keepsClock (clock : Clock) (s : State) :
    KeepsClock clock s (execUrmsHalfSegmentEnd s) := by
  unfold execUrmsHalfSegmentEnd
  split
  · exact keepsClock_self
  · refine keepsClock_whenever fun hs => ?_
    dsimp only
    split
    · exact hs
    · split
      · exact since_stepRvc _ _ (since_stepIntr _ _ (since_stepSwell _ _ (since_stepDip _ _ hs)))
      · exact hs

theorem since_dMoveN {clock : Clock} (n : Nat) (r : Running) (s : State) (hs : Since clock (forget butClk s)) :
    Since clock (forget butClk (dMoveN n r s).1) :=
  since_congr (by simp) hs

theorem execDmaBurst_keepsClock (clock : Clock) (memError : Bool) (s : State) :
    KeepsClock clock s (execDmaBurst memError s) := by
  unfold execDmaBurst
  extract_lets u
  have hu : Since clock (forget butClk s) → Since clock (forget butClk u) := since_stallOver s
  split
  · exact keepsClock_next hu
  · split
    · exact keepsClock_next hu
    · extract_lets lost stall aged
      have haged (hs : Since clock (forget butClk s)) : Since clock (forget butClk aged) := hu hs
      split
      · exact keepsClock_next fun hs => by simp [haged hs]
      · exact keepsClock_next fun hs => since_congr (forget_setDma _ _ _ rfl) (since_dMoveN 16 _ _ (haged hs))

theorem execShutterEvaluationCycle_keepsClock (clock : Clock) (i : CycleIn) (s : State) :
    KeepsClock clock s (execShutterEvaluationCycle i s) := by
  refine keepsClock_whenever fun hs => ?_
  extract_lets timed cycled tripped released
  have hfollowed : Since clock (forget butClk (followOff cycled)) := by simp [cycled, timed, hs]
  have htripped : Since clock (forget butClk tripped) := by simp [tripped, hfollowed]
  have hreleased : Since clock (forget butClk released) := by simp [released, htripped]
  split
  · split
    · exact hreleased
    · simp [hreleased]
  · exact hreleased

theorem execPollCycle_keepsClock (clock : Clock) (inField : List (List Byte)) (s : State) :
    KeepsClock clock s (execPollCycle inField s) := by
  refine keepsClock_whenever fun hs => ?_
  extract_lets polled seen old gone fresh carded came went
  have hpolled : Since clock (forget butClk polled) := by simp [polled, hs]
  have hcame : Since clock (forget butClk came) :=
    since_foldl _ _ _ (by simp [carded, hpolled]) fun t u ht => by simp [ht]
  have hwent : Since clock (forget butClk went) := since_foldl _ _ _ hcame fun t u ht => by simp [ht]
  simp [hwent]

theorem execInventory_keepsClock (clock : Clock) (maskLen mask : Nat) (s : State) :
    KeepsClock clock s (execInventory maskLen mask s) := by
  unfold execInventory
  split
  · split
    next _ drawn htaken =>
      refine keepsClock_next fun hs => ?_
      have hdrawn : Since clock (forget butClk drawn) := by simpa [htaken] using since_takeFree s hs
      simp [hdrawn]
  · exact keepsClock_next fun hs => by simp [hs]

theorem execBorrowTick_keepsClock (clock : Clock) (s : State) : KeepsClock clock s (execBorrowTick s) := by
  unfold execBorrowTick
  extract_lets lack
  refine keepsClock_whenever fun hs => ?_
  extract_lets timed kept
  have hkept : Since clock (forget butClk kept) := by simp [kept, timed, hs]
  split <;> simp [hkept]

theorem execActivationRestart_keepsClock (clock : Clock) (peer : Nat) (s : State) :
    KeepsClock clock s (execActivationRestart peer s) := by
  unfold execActivationRestart
  split
  · exact keepsClock_whenever fun hs => by simp [hs]
  · refine keepsClock_whenever fun hs => ?_
    dsimp only
    (repeat' split) <;> simp [hs]

theorem execWatchRule_keepsClock (clock : Clock) (i : Nat) (s : State) :
    KeepsClock clock s (execWatchRule i s) := by
  unfold execWatchRule
  split
  · exact keepsClock_self
  · split
    · exact keepsClock_self
    · refine keepsClock_whenever fun hs => ?_
      extract_lets timed code nl ruled noted
      have hruled : Since clock (forget butClk ruled) := since_advanceTo _ _ hs
      have hnoted : Since clock (forget butClk noted) := by simp [noted, hruled]
      split <;> simp [hnoted]

theorem execV12OutRestart_keepsClock (clock : Clock) (s : State) :
    KeepsClock clock s (execV12OutRestart s) := by
  unfold execV12OutRestart
  split
  · exact keepsClock_self
  · exact keepsClock_whenever fun hs => since_advanceTo _ _ hs

theorem register_keepsClock (clock : Clock) (c : Instr) (s : State) (hc : isRegister c = true) :
    KeepsClock clock s (exec c s) := by
  by_cases hspared : (touches c).all butClk = true
  case pos => exact keepsClock_of_spared hspared
  case neg =>
    cases c with
    | registerWrite | dctrlWrite | dstatClear | descriptorCommit | descriptorStagingWrite | semaphoreRelease
    | wedgeRegisterWrite | semaphoreRead | h2mDataWrite | h2mAckRead | h2mFlush | h2mOverflowClear | m2hUnderflowClear
    | irqStatusClear | m2hDataRead | m2hAckWrite => exact absurd rfl hspared
    | _ => exact Bool.noConfusion hc

theorem execHspiCsFalling_keepsClock (clock : Clock) (wire : List Byte) (bits : Nat) (s : State) :
    KeepsClock clock s (execHspiCsFalling wire bits s) := by
  have hclosed : RegisterClosed fun t => Since clock (forget butClk t) :=
    { command := fun c u hc hu => register_keepsClock clock c u hc hu
      openWord := since_takeFree
      driven := fun _ u hu => hu }
  exact keepsClock_whenever fun hs => hclosed.spiTransaction _ _ (by simp [hs])

/-- Every command keeps the instant and the count: by its frame, or one by one where it can write the clock. -/
theorem exec_keepsClock (clock : Clock) (c : Instr) (s : State) : KeepsClock clock s (exec c s) := by
  by_cases hspared : (touches c).all butClk = true
  case pos => exact keepsClock_of_spared hspared
  case neg =>
    cases c with
    | sysModeGet | metInputStatus | metSieveStatus | metTempStatus | kilnStatus | vehStatus | shuStatus |
    lswStatus | hngStatus =>
      dsimp only [exec]
      exact keepsClock_brixo id
    | mainsApplied | vholdChargeTimeout | firstModeEntered | watchWake | mainsAbsentDecision | hrstLow |
    watchdogExpiry | enginePoolFault | timebaseFault | spyholeReset | kilnDeadlineMiss | cellHandshakeTimeout |
    cellMemoryError | crossCheck | semHostTimeout | cpStateChange | v2gMessage | channelLinkLoss | openCoil |
    estopLineOpen | estopTestPulse | lswRetryRefill | lswOpenLoad | vauxGndOpen | vauxGndRestored | loadDump |
    tampSample | spyholeDebugAccess | lowPowerDetectPulse | beaconTimer | helloTimer | routeTimer |
    addressConflictClear | yieldWithdraw | hingeIsolated | hingeRoleResume | hingeProofTest | trialTimeout |
    idleCheckArm | railsFall =>
      dsimp only [exec]
      exact keepsClock_whenever fun hs => by simp [hs]
    | holdupSequenceEnd | kilnTaskRelease | vauxInReversed =>
      dsimp only [exec]
      exact keepsClock_next fun hs => by simp [hs]
    | close | openOrderly | openNow | pwm | limit | reclaim | rcmTest =>
      dsimp only [exec]
      exact keepsClock_serveRequest fun hs => by simp [hs]
    | kilnSteal | channelDisagreement | lswIlimTimeout | peerClaimSilence =>
      dsimp only [exec]
      exact keepsClock_whenever fun hs => by (repeat' split) <;> simp [hs]
    | d3LeavesReset | finalSignedReading | supplyZeroCrossing | idleCurrentBlock =>
      dsimp only [exec]
      exact keepsClock_whenever fun hs => by
        dsimp only
        (repeat' split) <;> simp [hs]
    | metPqSummary | ledSeriesRead | shuPasswordSet | sagKeyGenerate | sagUnlockChallenge =>
      dsimp only [exec]
      exact keepsClock_brixo fun hs => by
        dsimp only
        (repeat' split) <;> simp [hs]
    | reclaimTimerExpiry | magField | selftestEnd | neutralMismatch | reverseFlow | pqArm | kilnTaskRun |
    slacTimeout | authTimeout | overdraw | powerModuleLost | cableCheckTimeout | prechargeTimeout |
    dcDischargeEnd | reset | orderlyStopWaitEnd | kfbTimeout | estopDiscrep | rcmSelftestStepEnd |
    rcmSelftestAge | weldTest | coilSupplyLow | cpStateAHeld | lswLatchRelease | lifecycleRestart | earthLoading
    | dispRailsGood | mcIncompleteFrameDiscard | mcNeighbourLost | linkDown | linkRetransmitTimeout |
    fragmentReassemblyTimeout | tokenAcceptTimeout | tokenCommitWait | leaseHalf | leaseRelease | leaseExpiry |
    recallReturnTimer | reissueClockExpiry | quarantineEnd | linForwardTimeout | hingeTakeover | autoConfirm |
    freezeTimeout | rs485FrameEnd | rs485SendComplete | addressTableAgeing =>
      simp -zeta only [exec, execReclaimTimerExpiry, execMagField, execSelftestEnd, execNeutralMismatch, execReverseFlow,
        execPqArm, execKilnTaskRun, execSlacTimeout, execAuthTimeout, execOverdraw, execPowerModuleLost,
        execCableCheckTimeout, execPrechargeTimeout, execDcDischargeEnd, execReset,
        execOrderlyStopWaitEnd, execKfbTimeout, execEstopDiscrep, execRcmSelftestStepEnd,
        execRcmSelftestAge, execWeldTest, execCoilSupplyLow, execCpStateAHeld, execLswLatchRelease,
        execLifecycleRestart, execEarthLoading, execDispRailsGood, execMcIncompleteFrameDiscard,
        execMcNeighbourLost, execLinkDown, execLinkRetransmitTimeout, execFragmentReassemblyTimeout,
        execTokenAcceptTimeout, execTokenCommitWait, execLeaseHalf, execLeaseRelease, execLeaseExpiry,
        execRecallReturnTimer, execReissueClockExpiry, execQuarantineEnd, execLinForwardTimeout,
        execHingeTakeover, execAutoConfirm, execFreezeTimeout, execRs485FrameEnd, execRs485SendComplete,
        execAddressTableAgeing]
      split
      · exact keepsClock_self
      · exact keepsClock_whenever fun hs => by simp [hs]
    | magFieldEnd | tokenLendable | iTempRaiseStep =>
      simp -zeta only [exec, execMagFieldEnd, execTokenLendable, execITempRaiseStep]
      split
      · exact keepsClock_whenever fun hs => by simp [hs]
      · exact keepsClock_self
    | dispFrameEnd | toneMapRefreshDue =>
      simp -zeta only [exec, execDispFrameEnd, execToneMapRefreshDue]
      split
      · exact keepsClock_self
      · exact keepsClock_whenever fun hs => by
          dsimp only
          (repeat' split) <;> simp [hs]
    | holdupCapMeasured | meteringStopOpen | ipReassemblyTimeout | kmPullinEnd | iPermHoldEnd |
    pendingResetLapse | configSessionIdle | lockoutEnd | lswPulseEnd | dispRailsDown | wakeOutPulseEnd =>
      simp -zeta only [exec, execHoldupCapMeasured, execMeteringStopOpen, execIpReassemblyTimeout, execKmPullinEnd,
        execIPermHoldEnd, execPendingResetLapse, execConfigSessionIdle, execLockoutEnd, execLswPulseEnd,
        execDispRailsDown, execWakeOutPulseEnd]
      split
      · exact keepsClock_self
      · exact keepsClock_next fun hs => by simp [hs]
    | meteringFaultEnd | chainFetchTimeout | diagTokenRefill =>
      simp -zeta only [exec, execMeteringFaultEnd, execChainFetchTimeout, execDiagTokenRefill]
      split
      · exact keepsClock_self
      · split
        · exact keepsClock_self
        · exact keepsClock_whenever fun hs => by simp [hs]
    | waitingUpdateTimeout =>
      simp -zeta only [exec, execWaitingUpdateTimeout]
      split
      · exact keepsClock_self
      · split
        · exact keepsClock_self
        · exact keepsClock_next fun hs => by simp [hs]
    | d2Start => exact execD2Start_keepsClock _ _ _ _ s
    | readyRises => exact execReadyRises_keepsClock _ s
    | modeChangeEffective => exact execModeChangeEffective_keepsClock _ s
    | sysResetBegin => exact execSysResetBegin_keepsClock _ s
    | mainsFailDetection => exact execMainsFailDetection_keepsClock _ _ s
    | epochStateCapture => exact execEpochStateCapture_keepsClock _ s
    | cfPulseEdge => exact execCfPulseEdge_keepsClock _ _ s
    | cfPulseEnd => exact execCfPulseEnd_keepsClock _ _ s
    | urmsHalfSegmentEnd => exact execUrmsHalfSegmentEnd_keepsClock _ s
    | dmaBurst => exact execDmaBurst_keepsClock _ _ s
    | shutterEvaluationCycle => exact execShutterEvaluationCycle_keepsClock _ _ s
    | pollCycle => exact execPollCycle_keepsClock _ _ s
    | inventory => exact execInventory_keepsClock _ _ _ s
    | borrowTick => exact execBorrowTick_keepsClock _ s
    | activationRestart => exact execActivationRestart_keepsClock _ _ s
    | watchRule => exact execWatchRule_keepsClock _ _ s
    | hspiCsFalling => exact execHspiCsFalling_keepsClock _ _ _ s
    | v12OutRestart => exact execV12OutRestart_keepsClock _ s
    | _ => exact absurd rfl hspared

end Sys2Proof.Clocks

namespace Sys2Proof.Invariants

open Sys2Proof Sys2Proof.Machine Sys2Proof.Safety

/-- Settles O49: the instant is the later of a command's deadline and the instant before (log 3), and each free value
drawn raises the count (log 4), so neither ever goes down. -/
theorem stepNeverTurnsTimeBack : Obligations.StepNeverTurnsTimeBack := by
  intro s t hstep
  obtain rfl | ⟨c, rest, ht⟩ := step_cases hstep
  · exact ⟨le_rfl, le_rfl⟩
  · exact Clocks.exec_keepsClock s.clk c { s with pending := rest } ⟨le_rfl, le_rfl⟩ t ht

end Sys2Proof.Invariants

/-! The byte memory (R296, log 20): only a burst, the copy of a waveform capture and the fall of the rails write it. -/

namespace Sys2Proof.MemoryBytes

open Sys2Proof Sys2Proof.Machine Sys2Proof.Safety Sys2Proof.Laws Sys2Proof.Frames Sys2Proof.ModesPower
  Sys2Proof.StepKeeps Sys2Proof.Invariants

/-! What a memory reads after a region is replaced or lost. -/

theorem memRead_filter (p : Nat → Bool) (m : Memory) (x : Nat) :
    memRead (m.filter fun c => p c.1) x = if p x then memRead m x else memDefault := by
  induction m with
  | nil => simp [memRead]
  | cons c cs ih =>
    by_cases hx : c.1 = x
    · subst hx
      by_cases hp : p c.1 = true <;> simp [memRead, hp, ih]
    · by_cases hp : p c.1 = true <;> simp [memRead, hx, hp, ih]

theorem memRead_append_of_default (l : Memory) {m : Memory} {x : Nat} (hm : memRead m x = memDefault) :
    memRead (l ++ m) x = memRead l x := by
  induction l with
  | nil => exact hm
  | cons c cs ih => simp [memRead, ih]

theorem memRead_memCells_of_outside {a n x : Nat} (bs : List Byte) (hx : ¬ (a ≤ x ∧ x < a + n)) :
    ∀ c ∈ memCells a (bs.take n), c.1 ≠ x := by
  intro c hc
  have hrange := memCells_range a (bs.take n) c hc
  have hlength := List.length_take_le n bs
  omega

/-- Outside the region that is replaced, a memory reads as before. -/
theorem memRead_memReplace_outside {a n x : Nat} (m : Memory) (bs : List Byte) (hx : ¬ (a ≤ x ∧ x < a + n)) :
    memRead (memReplace m a n bs) x = memRead m x := by
  have hcells := memRead_memCells_of_outside bs hx
  have hlow := memRead_filter (fun y => decide (y < a)) m x
  have hhigh := memRead_filter (fun y => decide (a + n ≤ y)) m x
  unfold memReplace
  by_cases hbelow : x < a
  · have hnot : ¬ a + n ≤ x := by omega
    rw [memRead_append_of_default _ (by simpa [hnot] using hhigh), memRead_append_of_default, hlow]
    · simp [hbelow]
    · rw [memRead_memCells, if_neg (by omega)]
  · have habove : a + n ≤ x := by omega
    rw [memRead_append _ _ _ fun c hc => ?_, hhigh]
    · simp [habove]
    · rcases List.mem_append.mp hc with hc | hc
      · have hbound := (List.mem_filter.mp hc).2
        simp only [decide_eq_true_eq] at hbound
        omega
      · exact hcells c hc

/-- Inside it, the bytes stand in order, and past them the default. -/
theorem memRead_memReplace_inside {n i : Nat} (m : Memory) (a : Nat) (bs : List Byte) (hi : i < n) :
    memRead (memReplace m a n bs) (a + i) = (bs[i]?).getD memDefault := by
  have hlow : ∀ c ∈ m.filter (fun c => decide (c.1 < a)), c.1 ≠ a + i := by
    intro c hc
    have hbound := (List.mem_filter.mp hc).2
    simp only [decide_eq_true_eq] at hbound
    omega
  have hhigh := memRead_filter (fun y => decide (a + n ≤ y)) m (a + i)
  have hnot : ¬ n ≤ i := by omega
  unfold memReplace
  rw [memRead_append_of_default _ (by simpa [hnot] using hhigh), memRead_append _ _ _ hlow, memRead_memCells]
  simp [hi]

/-! The operations that can change the DMA engine leave its bytes. -/

/-- Every block but the DMA engine. -/
abbrev butDma : Block → Bool := fun b => b != .dma

/-- The bytes of the engine's memory. -/
def bytes (s : State) : Memory := s.dma.mem

section Rules

variable {s : State}

@[simp] theorem bytes_setDma (c : Nat) (d : DmaChan) :
    bytes (forget butDma (setDma c d s)) = bytes (forget butDma s) := rfl

@[simp] theorem bytes_dmaBack (c idx status done : Nat) :
    bytes (forget butDma (dmaBack c idx status done s)) = bytes (forget butDma s) :=
  dmaBack_mem c idx status done s

@[simp] theorem bytes_dmaAbort (c : Nat) : bytes (forget butDma (dmaAbort c s).1) = bytes (forget butDma s) :=
  dmaAbort_mem c s

@[simp] theorem bytes_abortHostDma : bytes (forget butDma (abortHostDma s)) = bytes (forget butDma s) :=
  abortHostDma_mem s

@[simp] theorem bytes_holdupStops : bytes (forget butDma (holdupStops s)) = bytes (forget butDma s) := by
  simp [holdupStops]

@[simp] theorem bytes_restartAll (cause : Nat) : bytes (forget butDma (restartAll cause s)) = bytes (forget butDma s) :=
  restartAll_mem cause s

@[simp] theorem bytes_moduleRestart (cause : Nat) :
    bytes (forget butDma (moduleRestart cause s)) = bytes (forget butDma s) :=
  moduleRestart_mem cause s

@[simp] theorem bytes_rollback (cause : Nat) : bytes (forget butDma (rollback cause s)) = bytes (forget butDma s) :=
  rollback_mem cause s

@[simp] theorem bytes_d3Reset (cause : Nat) : bytes (forget butDma (d3Reset cause s)) = bytes (forget butDma s) :=
  d3Reset_mem cause s

@[simp] theorem bytes_ite_iff {c : Prop} {_ : Decidable c} {a b : State} {m : Memory} :
    bytes (forget butDma (if c then a else b)) = m ↔
      (c → bytes (forget butDma a) = m) ∧ (¬ c → bytes (forget butDma b) = m) := by
  split <;> simp_all

end Rules

/-! The commands. -/

/-- A next state has the bytes of the state before. -/
def KeepsBytes (s : State) (o : Out) : Prop := Answers (fun t => bytes (forget butDma t) = bytes (forget butDma s)) o

section Shapes

variable {s t : State} {f : State → State}

theorem keepsBytes_next (h : bytes (forget butDma t) = bytes (forget butDma s)) : KeepsBytes s (.next t) := answers_next h

theorem keepsBytes_self : KeepsBytes s (.next s) := keepsBytes_next rfl

theorem keepsBytes_whenever {c : Bool} (h : bytes (forget butDma (f s)) = bytes (forget butDma s)) :
    KeepsBytes s (whenever c s f) := answers_whenever rfl h

theorem keepsBytes_brixo {code : Nat} {r : Req} {f : State → Answer}
    (h : bytes (forget butDma (f s).state) = bytes (forget butDma s)) : KeepsBytes s (brixo code r s f) :=
  answers_brixo rfl (fun _ _ _ hu => (congrArg Dma.mem (reply_dma _ _ _ _ _)).trans hu) h

theorem keepsBytes_of_spared {c : Instr} (hspared : (touches c).all butDma = true) : KeepsBytes s (exec c s) :=
  fun t ht => congrArg bytes (forget_of_onlyChanges hspared (exec_within c s t ht))

end Shapes

/-- The commands that write the memory, or lose it. -/
def writesBytes : Instr → Bool
  | .dmaBurst _ | .railsFall | .waveCaptureCopy => true
  | _ => false

theorem execD3LeavesReset_keepsBytes (cells : Nat) (rootOk : Bool) (corrected attempts worst : Nat) (hashOk : Bool)
    (badHelpers badSlots badCounts : Nat) (s : State) :
    KeepsBytes s (execD3LeavesReset cells rootOk corrected attempts worst hashOk badHelpers badSlots badCounts s) := by
  refine keepsBytes_whenever ?_
  extract_lets awake erased moved up told pooled opened checked started
  have herased : bytes (forget butDma erased) = bytes (forget butDma s) := by
    dsimp only [erased, awake]
    split <;> simp
  have hmoved : bytes (forget butDma moved) = bytes (forget butDma erased) := by
    dsimp only [moved]
    split <;> simp
  have hstarted : bytes (forget butDma started) = bytes (forget butDma moved) := by
    simp [started, checked, opened, pooled, told, up]
  rw [← herased, ← hmoved, ← hstarted]
  simp

theorem execModeChangeEffective_keepsBytes (s : State) : KeepsBytes s (execModeChangeEffective s) := by
  unfold execModeChangeEffective
  split
  · exact keepsBytes_whenever (by simp)
  · split
    · exact keepsBytes_self
    · exact keepsBytes_whenever (by simp)

theorem execActivationRestart_keepsBytes (peer : Nat) (s : State) : KeepsBytes s (execActivationRestart peer s) := by
  unfold execActivationRestart
  split
  · exact keepsBytes_whenever (by simp)
  · refine keepsBytes_whenever ?_
    dsimp only
    (repeat' split) <;> simp

/-- Of the registers without behaviour of their own, the bulk window alone is memory of the view, and none of the engine's
own. -/
theorem execRegisterWrite_keepsBytes (addr value : Nat) (s : State) : KeepsBytes s (execRegisterWrite addr value s) := by
  refine keepsBytes_whenever ?_
  split
  · rfl
  · split
    · split <;> rfl
    · split
      next hwindow =>
        have hbulk : inBulk (bulkBase + (addr - 0x10000)) = true := by
          simp only [Bool.and_eq_true, decide_eq_true_eq] at hwindow
          simp only [inBulk, Bool.and_eq_true, decide_eq_true_eq]
          omega
        unfold viewWrite
        rw [if_pos hbulk]
        rfl
      · rfl

theorem register_keepsBytes (c : Instr) (s : State) (hc : isRegister c = true) : KeepsBytes s (exec c s) := by
  by_cases hspared : (touches c).all butDma = true
  case pos => exact keepsBytes_of_spared hspared
  case neg =>
    cases c with
    | registerWrite => exact execRegisterWrite_keepsBytes _ _ s
    | dctrlWrite | dstatClear | descriptorCommit | descriptorStagingWrite =>
      dsimp only [exec]
      exact keepsBytes_whenever (by simp)
    | semaphoreRelease | wedgeRegisterWrite | semaphoreRead | h2mDataWrite | h2mAckRead | h2mFlush | h2mOverflowClear
    | m2hUnderflowClear | irqStatusClear | m2hDataRead | m2hAckWrite => exact absurd rfl hspared
    | _ => exact Bool.noConfusion hc

theorem execHspiCsFalling_keepsBytes (wire : List Byte) (clocks : Nat) (s : State) :
    KeepsBytes s (execHspiCsFalling wire clocks s) := by
  have hclosed : RegisterClosed fun t => bytes (forget butDma t) = bytes (forget butDma s) :=
    { command := fun c u hc hu t ht => (register_keepsBytes c u hc t ht).trans hu
      openWord := fun u hu => hu
      driven := fun _ u hu => hu }
  exact keepsBytes_whenever (hclosed.spiTransaction _ _ (by simp))

/-- Every command that does not write the memory keeps its bytes: by its frame, or one by one where it can change the
engine. -/
theorem exec_keepsBytes (c : Instr) (s : State) (hc : writesBytes c = false) : KeepsBytes s (exec c s) := by
  by_cases hspared : (touches c).all butDma = true
  case pos => exact keepsBytes_of_spared hspared
  case neg =>
    cases c with
    | firstModeEntered | hrstLow | watchdogExpiry | enginePoolFault | spyholeReset | dmaChannelAbort | trialTimeout
    | mainsFailDetection =>
      dsimp only [exec]
      exact keepsBytes_whenever (by simp)
    | holdupSequenceEnd | dmaDescriptorStart =>
      simp only [exec, execHoldupSequenceEnd, execDmaDescriptorStart]
      exact keepsBytes_whenever (by simp)
    | sysResetBegin | dmaWriteBack | lifecycleRestart =>
      simp -zeta only [exec, execSysResetBegin, execDmaWriteBack, execLifecycleRestart]
      split
      · exact keepsBytes_self
      · exact keepsBytes_whenever (by simp)
    | dmaAbort =>
      dsimp only [exec]
      exact keepsBytes_brixo (by
        dsimp only
        (repeat' split) <;> simp)
    | d3LeavesReset => exact execD3LeavesReset_keepsBytes _ _ _ _ _ _ _ _ _ s
    | modeChangeEffective => exact execModeChangeEffective_keepsBytes s
    | activationRestart => exact execActivationRestart_keepsBytes _ s
    | hspiCsFalling => exact execHspiCsFalling_keepsBytes _ _ s
    | registerWrite | dctrlWrite | dstatClear | descriptorCommit | descriptorStagingWrite =>
      exact register_keepsBytes _ s rfl
    | dmaBurst | railsFall | waveCaptureCopy => exact Bool.noConfusion hc
    | _ => exact absurd rfl hspared

/-- A burst that meets an uncorrectable source error writes its descriptor back and no element (R302). -/
theorem execDmaBurst_error_keepsBytes (s : State) : KeepsBytes s (execDmaBurst true s) := by
  have hstall : bytes (forget butDma (stallOver s)) = bytes (forget butDma s) := by simp
  unfold execDmaBurst
  extract_lets u
  split
  · exact keepsBytes_next hstall
  · split
    · exact keepsBytes_next hstall
    · extract_lets lost stall aged
      have haged : bytes (forget butDma aged) = bytes (forget butDma s) := hstall
      rw [if_pos rfl]
      exact keepsBytes_next (by simp [haged])

/-! The copy of a waveform capture (R194) and the fall of the rails (R8). -/

theorem execWaveCaptureCopy_outside {a : Nat} (s : State) (ha : ¬ (captureBase ≤ a ∧ a < captureBase + captureSize)) :
    Answers (fun t => memRead t.dma.mem a = memRead s.dma.mem a) (execWaveCaptureCopy s) := by
  unfold execWaveCaptureCopy
  split
  · exact answers_next rfl
  · refine answers_whenever rfl ?_
    rw [replyTo_dma]
    exact memRead_memReplace_outside _ _ ha

theorem execWaveCaptureCopy_inside {s : State} {q : Option Req × Nat × Nat} {rest : List (Option Req × Nat × Nat)}
    (a : Nat) (hwait : s.led.captureWait = q :: rest) (hd3 : s.dom.d3 = true) (hsem : semOwner s 0 = none) :
    ∃ t, execWaveCaptureCopy s = .next t ∧ ∃ c, t.led.capture = some c ∧ c.mask = q.2.1 ∧
      (a < captureSize → memRead t.dma.mem (captureBase + a) = ((captureBytes c)[a]?).getD memDefault) := by
  unfold execWaveCaptureCopy
  rw [hwait]
  refine exists_next_of_whenever (by rw [hd3, hsem]; rfl) fun t ht => ?_
  rw [ht, LedgerConsistency.replyTo_led, replyTo_dma]
  exact ⟨_, rfl, rfl, fun ha => memRead_memReplace_inside _ _ _ ha⟩

/-- The regions that are not MRAM or flash are lost with the rails. -/
theorem execRailsFall_bytes (s : State) (hrails : s.pwr.rails = true) :
    Answers (fun t => t.dma.mem = s.dma.mem.filter fun c => 0x20000000 ≤ c.1 && c.1 < 0x40000000) (execRailsFall s) := by
  unfold execRailsFall whenever
  rw [if_pos hrails]
  refine answers_next ?_
  beta_reduce
  extract_lets time timed
  have htimed : (coldClear timed).dma.mem = s.dma.mem := by
    rw [coldClear_mem]
    dsimp only [timed]
    split <;> rfl
  rw [← htimed]
  split <;> rfl

theorem memRead_of_kept (m : Memory) (a : Nat) :
    memRead (m.filter fun c => 0x20000000 ≤ c.1 && c.1 < 0x40000000) a =
      if 0x20000000 ≤ a ∧ a < 0x40000000 then memRead m a else memDefault := by
  rw [memRead_filter fun x => decide (0x20000000 ≤ x) && decide (x < 0x40000000)]
  simp

/-- Settles O50, clause by clause: the frame of the commands that do not write, a burst that meets an error, the copy of a
capture, and the fall of the rails, whose kept regions are the model's own (log 20). -/
theorem memoryFrame : Obligations.MemoryFrame := by
  refine ⟨fun c s t hnext hburst hrails hcopy => ?_, fun s t hnext => ?_, fun s t a hnext => ?_,
    fun s q rest a => ?_, fun s t a hnext => ?_⟩
  · refine exec_keepsBytes c s ?_ t hnext
    cases c with
    | dmaBurst b => exact absurd rfl (hburst b)
    | railsFall => exact absurd rfl hrails
    | waveCaptureCopy => exact absurd rfl hcopy
    | _ => rfl
  · exact execDmaBurst_error_keepsBytes s t hnext
  · exact fun ha => execWaveCaptureCopy_outside s ha t hnext
  · intro hwait hd3 hsem
    obtain ⟨t, hnext, c, hcopied⟩ := execWaveCaptureCopy_inside a hwait hd3 hsem
    exact ⟨t, c, hnext, hcopied⟩
  · exact fun hrails => by rw [execRailsFall_bytes s hrails t hnext, memRead_of_kept]

end Sys2Proof.MemoryBytes

/-! The commit cycle (R15, R16, R175): the epoch boundary, the latch and the completion of the journal write. -/

namespace Sys2Proof.CommitCycle

open Sys2Proof Sys2Proof.Machine Sys2Proof.Safety Sys2Proof.Laws Sys2Proof.Frames Sys2Proof.ModesPower
  Sys2Proof.MeasurementInputs

/-! What becomes durable with an entry leaves the write under way, and the samples of the epoch in progress. -/

theorem storeEvent_writing (e : Event) (s : State) : (storeEvent e s).led.writing = s.led.writing := by
  have hnotified (n : Event) (u : State) : (ledEvent n u).led = u.led := kept_led (by simp (disch := decide))
  simp only [storeEvent, hnotified]

theorem flushEvents_writing (p : Nat → Bool) (s : State) : (flushEvents p s).led.writing = s.led.writing := by
  have hstored (l : List Event) (u : State) : (l.foldl (fun s e => storeEvent e s) u).led.writing = u.led.writing := by
    induction l generalizing u with
    | nil => rfl
    | cons e l ih => rw [List.foldl_cons, ih, storeEvent_writing]
  exact hstored _ _

theorem flushRecords_writing (j : JournalEntry) (s : State) : (flushRecords j s).led.writing = s.led.writing :=
  flushEvents_writing _ _

theorem flushRecords_met (j : JournalEntry) (s : State) : (flushRecords j s).met = s.met :=
  kept_met (by simp (disch := decide))

/-- The entry that becomes durable ends the write that was under way (R174). -/
theorem entryDurable_writing (j : JournalEntry) (s : State) : (entryDurable j s).led.writing = none := by
  unfold entryDurable standbyEnd
  split
  · rw [flushRecords_writing]
    rfl
  · dsimp only
    rw [flushRecords_writing]
    rfl

/-- It closes the accumulators of the epochs it covers, and the epoch in progress keeps its samples. -/
theorem entryDurable_sampleNow (j : JournalEntry) (s : State) : sampleNow (entryDurable j s) = sampleNow s := by
  unfold entryDurable standbyEnd
  split
  · rw [sampleNow, flushRecords_met]
    rfl
  · dsimp only
    rw [sampleNow, flushRecords_met]
    rfl

/-- The publication and what follows it leave the write and the accumulators (R16 steps 3 and 4). -/
theorem commitDurable_writing (j : JournalEntry) (c : Captured) (s : State) :
    (commitDurable j c s).led.writing = none := by
  have hckpt (u : State) : (dueCkpt j.epoch j.bal u).led.writing = u.led.writing := by
    unfold dueCkpt writeCkpt
    dsimp only
    (repeat' split) <;> rfl
  have hmsg (u : State) : (replicate j u).led = u.led := kept_led (by simp (disch := decide))
  unfold commitDurable
  extract_lets held published
  have hpublished : published.led.writing = none := entryDurable_writing j held
  split
  · exact hpublished
  · rw [hmsg, hckpt, hpublished]

theorem commitDurable_sampleNow (j : JournalEntry) (c : Captured) (s : State) :
    sampleNow (commitDurable j c s) = sampleNow s := by
  have hafter (u : State) : (replicate j (dueCkpt j.epoch j.bal u)).met = u.met := kept_met (by simp (disch := decide))
  unfold commitDurable
  extract_lets held published
  have hpublished : sampleNow published = sampleNow s := entryDurable_sampleNow j held
  split
  · exact hpublished
  · rw [sampleNow, hafter, ← sampleNow, hpublished]

theorem commitDurable_hold (j : JournalEntry) (c : Captured) (s : State) : (commitDurable j c s).hold = s.hold :=
  kept_hold (by simp (disch := decide))

/-- The snapshot of an entry that is durable (R16 step 4, R18). -/
theorem commitDurable_snap (j : JournalEntry) (c : Captured) (s : State) : (commitDurable j c s).snap.published = true ∧
    (commitDurable j c s).snap.epoch = j.epoch ∧ (commitDurable j c s).snap.civilS = c.civilS ∧
    (commitDurable j c s).snap.state = j.state := by
  have hafter (u : State) : (replicate j (dueCkpt j.epoch j.bal u)).snap = u.snap := kept_snap (by simp (disch := decide))
  unfold commitDurable
  extract_lets held published
  split
  · exact ⟨rfl, rfl, rfl, rfl⟩
  · rw [hafter]
    exact ⟨rfl, rfl, rfl, rfl⟩

/-! The commands. -/

theorem execEpochStateCapture_next {s : State} (hd2 : s.dom.d2 = true) : ∃ t, execEpochStateCapture s = .next t ∧
    t.clk.epoch = satInc max64 s.clk.epoch ∧ t.clk.epochStart = s.clk.epochStart + 2048000 ∧
    t.bil.civil = s.bil.civil + 2048000 + slewStep s.bil := by
  refine exists_next_of_whenever hd2 fun t ht => ?_
  revert ht
  extract_lets at0 timed c slew captured clk pwr dom bil snap moved corrected
  intro ht
  have hclk : t.clk = moved.clk := kept_clk (by simp (disch := decide) [ht, corrected])
  have hbil : t.bil = moved.bil := kept_bil (by simp (disch := decide) [ht, corrected])
  rw [hclk, hbil]
  exact ⟨rfl, rfl, rfl⟩

/-- The latched epoch's entry is under way, with the samples' overload taken into it. -/
theorem latchEpoch_led (c : Captured) (s : State) :
    (latchEpoch c s).led.writing.isSome = true ∧ (latchEpoch c s).led.overload = false := ⟨rfl, rfl⟩

theorem execEpochLatch_next {s : State} {c : Captured}
    (hcaptured : s.led.captured.find? (·.epoch == s.met.epoch) = some c) (hd2 : s.dom.d2 = true)
    (hfree : s.led.writing = none) (hfull : s.met.samples.length = 320) :
    ∃ t, execEpochLatch s = .next t ∧ t.led.writing.isSome = true ∧ t.led.overload = false := by
  unfold execEpochLatch
  rw [hcaptured]
  refine exists_next_of_whenever (by simp [hd2, hfree, hfull]) fun t ht => ?_
  rw [ht]
  exact latchEpoch_led c s

theorem execJournalAppendComplete_verified {s : State} {j : JournalEntry} {c : Captured} (retryOk : Bool)
    (hwriting : s.led.writing = some (j, c)) :
    execJournalAppendComplete true retryOk s = .next (finalIfReached (commitDurable j c s)) := by
  unfold execJournalAppendComplete
  rw [hwriting]
  rfl

theorem execJournalAppendComplete_publishes {s : State} {j : JournalEntry} {c : Captured} (retryOk : Bool)
    (hwriting : s.led.writing = some (j, c)) (hbefore : s.hold.stage = .finalCommit → sampleNow s ≤ s.hold.tdSample) :
    ∃ t, execJournalAppendComplete true retryOk s = .next t ∧ t.snap.published = true ∧ t.snap.epoch = j.epoch ∧
      t.snap.civilS = c.civilS ∧ t.snap.state = j.state := by
  have hnot : finalIfReached (commitDurable j c s) = commitDurable j c s := by
    apply finalIfReached_of_not_reached
    rwa [commitDurable_hold, commitDurable_sampleNow]
  exact ⟨_, by rw [execJournalAppendComplete_verified retryOk hwriting, hnot], commitDurable_snap j c s⟩

theorem execJournalAppendComplete_closes {s : State} {j : JournalEntry} {c : Captured} (retryOk : Bool)
    (hwriting : s.led.writing = some (j, c)) (hstage : s.hold.stage = .finalCommit)
    (hpast : s.hold.tdSample < sampleNow s) :
    ∃ t, execJournalAppendComplete true retryOk s = .next t ∧ t.hold.stage = .signedReading := by
  refine ⟨_, execJournalAppendComplete_verified retryOk hwriting, finalIfReached_stage_of_reached ?_ ?_ ?_⟩
  · rw [commitDurable_hold, hstage]
  · rwa [commitDurable_hold, commitDurable_sampleNow]
  · exact commitDurable_writing j c s

/-- Settles O1: the boundary, the latch, and the two ends of a write that verified, clause by clause. -/
theorem commitCycleCompletes : Obligations.CommitCycleCompletes := by
  refine ⟨?_, ?_, ?_, ?_⟩
  · exact fun _ hd2 => execEpochStateCapture_next hd2
  · exact fun _ _ hcaptured hd2 hfree hfull => execEpochLatch_next hcaptured hd2 hfree hfull
  · exact fun _ _ _ retry hwriting hbefore => execJournalAppendComplete_publishes retry hwriting hbefore
  · exact fun _ _ _ retry hwriting hstage hpast => execJournalAppendComplete_closes retry hwriting hstage hpast

end Sys2Proof.CommitCycle

/-! Resets, reclaim and the fall of the rails (R8, R9, R39–R42): the domains that each reset stops, and where the reclaim
timer ends. -/

namespace Sys2Proof.ResetsReclaim

open Sys2Proof Sys2Proof.Machine Sys2Proof.Safety Sys2Proof.Laws Sys2Proof.Frames Sys2Proof.ModesPower
  Sys2Proof.KilnEnginePool Sys2Proof.ShutterSafety

/-! The reset of D3 (R39, R40). -/

theorem d3Clear_dom (s : State) : (d3Clear s).dom = s.dom := by
  have hbefore : (dropRequests (loseFreeze (closeConfig s))).dom = s.dom := kept_dom (by simp (disch := decide))
  have hwedge (u : State) : (wedgeZeroNext u).dom = u.dom := kept_dom (by simp (disch := decide))
  unfold d3Clear
  rw [hwedge, ← hbefore]
  rfl

theorem d3Clear_record (s : State) : (d3Clear s).upd.record = s.upd.record := by
  have hbefore : (dropRequests (loseFreeze (closeConfig s))).upd = s.upd := kept_upd (by simp (disch := decide))
  have hwedge (u : State) : (wedgeZeroNext u).upd = u.upd := kept_upd (by simp (disch := decide))
  unfold d3Clear
  rw [hwedge, ← hbefore]
  rfl

/-- The rollback of a trial ends with D3 in reset: in HOLDUP the state stays, else the module restarts (R504). -/
theorem rollback_d3 (cause : Nat) {s : State} (hd3 : s.dom.d3 = false) (hready : s.dom.ready = false) :
    (rollback cause s).dom.d3 = false ∧ (rollback cause s).dom.ready = false := by
  unfold rollback
  extract_lets recorded loaded
  have hloaded : loaded.dom = s.dom := kept_dom (by simp (disch := decide) [loaded, recorded])
  split
  · rw [hloaded]
    exact ⟨hd3, hready⟩
  · exact ⟨rfl, rfl⟩

/-- Whatever its cause, a D3 reset ends with D3 in reset and READY low (R39, R272). -/
theorem d3Reset_d3 (cause : Nat) (s : State) :
    (d3Reset cause s).dom.d3 = false ∧ (d3Reset cause s).dom.ready = false := by
  unfold d3Reset
  extract_lets cleared lost down
  split
  · exact rollback_d3 2 rfl rfl
  · exact ⟨rfl, rfl⟩

/-- Where no trial is rolled back, a D3 reset keeps D1, D2 and D4 (R9, R40), with its cause. -/
theorem d3Reset_dom {cause : Nat} {s : State} (hkept : ¬ (s.upd.record.state = 1 ∧ 2 ≤ cause ∧ cause ≤ 4)) :
    (d3Reset cause s).dom.cause = cause ∧ (d3Reset cause s).dom.d2 = s.dom.d2 := by
  unfold d3Reset
  extract_lets cleared lost down
  have hcleared : cleared.dom = s.dom :=
    (kept_dom (by simp (disch := decide) [cleared])).trans (d3Clear_dom s)
  have hlost : lost.dom = cleared.dom := kept_dom (by simp (disch := decide) [lost])
  have hrecord : down.upd.record = s.upd.record := by
    have hdown : down.upd = (d3Clear s).upd := kept_upd (by simp (disch := decide) [down, lost, cleared])
    rw [hdown, d3Clear_record]
  rw [if_neg (by simpa [hrecord, and_assoc] using hkept)]
  exact ⟨rfl, (congrArg Domains.d2 (hlost.trans hcleared) : lost.dom.d2 = s.dom.d2)⟩

/-- A D3 reset by the host, the watchdog or the engine pool (causes 2 to 4): a trial may be rolled back. -/
theorem d3Reset_completes (cause : Nat) (s : State) :
    (d3Reset cause s).dom.d3 = false ∧ (d3Reset cause s).dom.ready = false ∧
      (s.upd.record.state ≠ 1 → (d3Reset cause s).dom.cause = cause ∧ (d3Reset cause s).dom.d2 = s.dom.d2) := by
  obtain ⟨hd3, hready⟩ := d3Reset_d3 cause s
  exact ⟨hd3, hready, fun htrial => d3Reset_dom fun h => htrial h.1⟩

theorem execHrstLow_next {s : State} {us : Nat} (hd4 : s.dom.d4 = true) (hlong : 10 ≤ us) :
    ∃ t, execHrstLow us s = .next t ∧ t.dom.d3 = false ∧ t.dom.ready = false ∧
      (s.upd.record.state ≠ 1 → t.dom.cause = 2 ∧ t.dom.d2 = s.dom.d2) := by
  have hresets : (s.dom.d4 && decide (2 ≤ us)) = true := by
    simp only [hd4, Bool.true_and, decide_eq_true_eq]
    omega
  refine exists_next_of_whenever hresets fun t ht => ?_
  rw [ht]
  dsimp only
  rw [if_pos hlong]
  exact d3Reset_completes 2 s

theorem execWatchdogExpiry_next {s : State} (hd3 : s.dom.d3 = true) :
    ∃ t, execWatchdogExpiry s = .next t ∧ t.dom.d3 = false ∧ t.dom.ready = false ∧
      (s.upd.record.state ≠ 1 → t.dom.cause = 3 ∧ t.dom.d2 = s.dom.d2) :=
  ⟨_, next_of_whenever hd3 rfl, d3Reset_completes 3 s⟩

theorem execEnginePoolFault_next {s : State} (hd3 : s.dom.d3 = true) :
    ∃ t, execEnginePoolFault s = .next t ∧ t.dom.d3 = false ∧ t.dom.ready = false ∧
      (s.upd.record.state ≠ 1 → t.dom.cause = 4 ∧ t.dom.d2 = s.dom.d2) :=
  ⟨_, next_of_whenever hd3 rfl, d3Reset_completes 4 s⟩

/-- Cause 8 rolls no trial back (R504). -/
theorem execSpyholeReset_next {s : State} (hd4 : s.dom.d4 = true) (hfactory : inFactory s = true) :
    ∃ t, execSpyholeReset s = .next t ∧ t.dom.d3 = false ∧ t.dom.cause = 8 ∧ t.dom.d2 = s.dom.d2 :=
  ⟨_, next_of_whenever (by rw [hd4, hfactory]; rfl) rfl, (d3Reset_d3 8 s).1, d3Reset_dom (by omega)⟩

/-- D2's own reset stops D2 and unlocks its PLL; the other domains stay (R9, R39). -/
theorem d2Clear_dom (s : State) : (d2Clear s).dom = { s.dom with d2 := false } := rfl

theorem d2Clear_clk (s : State) : (d2Clear s).clk = { s.clk with pllLocked := false } := rfl

theorem execTimebaseFault_next {s : State} (hd2 : s.dom.d2 = true) :
    ∃ t, execTimebaseFault s = .next t ∧ t.dom.d2 = false ∧ t.dom.cause = 9 ∧ t.dom.d3 = s.dom.d3 ∧
      t.dom.d1 = s.dom.d1 ∧ t.clk.pllLocked = false := by
  refine exists_next_of_whenever hd2 fun t ht => ?_
  revert ht
  extract_lets stopped faulted lost noted
  intro ht
  have hnoted : noted.dom = s.dom := kept_dom (by simp (disch := decide) [noted, faulted, stopped])
  rw [ht, setDom_dom, setDom_clk, d2Clear_dom, d2Clear_clk, hnoted]
  exact ⟨rfl, rfl, rfl, rfl, rfl⟩

/-! Reclaim (R41, R42). -/

/-- A stop notes its steps, and leaves the reclaim timer. -/
theorem beginStop_deadline (kind : StopKind) (bound : Tick) (s : State) :
    (beginStop kind bound s).recl.deadline = s.recl.deadline := by
  unfold beginStop
  split
  · split <;> rfl
  · extract_lets dc begun reclaim timed waiting vehicle idle
    have hidle : (shuEvent 8 0 idle).recl = timed.recl := by
      refine kept_recl ?_
      dsimp only [idle, waiting]
      split <;> simp (disch := decide)
    rw [hidle]
    rfl

/-- Step 1 of the reclaim at its instant (log 3). -/
theorem execReclaimTimerExpiry_next {s : State} {at0 : Tick} (hdue : s.recl.deadline = some at0) (hd1 : s.dom.d1 = true) :
    ∃ t, execReclaimTimerExpiry s = .next t ∧ t.recl.deadline = none ∧ t.clk.now = max s.clk.now at0 ∧
      t.shu.stop.isSome = true := by
  unfold execReclaimTimerExpiry
  rw [hdue]
  refine exists_next_of_whenever hd1 fun t ht => ?_
  revert ht
  extract_lets recl timed
  intro ht
  have hrecl : (endSession 5 timed).recl = timed.recl := kept_recl (by simp (disch := decide))
  have hclk : t.clk = timed.clk := kept_clk (by simp (disch := decide) [ht])
  refine ⟨?_, by rw [hclk]; rfl, by rw [ht]; exact beginStop_stop _ _ _⟩
  rw [ht, beginStop_deadline, hrecl]
  rfl

/-- A request that waits in front, or finds none waiting (R342, log 14), ends the reclaim. -/
theorem execReclaim_next {s : State} (hd1 : s.dom.d1 = true) (hmay : mayTake isReclaim s = true) :
    ∃ t, execReclaim s = .next t ∧ t.recl.deadline = none ∧ t.recl.required = false := by
  refine ⟨_, next_of_served hd1 hmay, ?_⟩
  extract_lets recl taken
  have hasked (u : State) : (askShutter (.openOrderly 0) (endSession 5 u)).recl = u.recl :=
    kept_recl (by simp (disch := decide))
  have hstopped : (stopTransfer taken).recl = taken.recl := kept_recl (by simp (disch := decide))
  split
  · rw [hasked]
    split
    · rw [hstopped]
      exact ⟨rfl, rfl⟩
    · exact ⟨rfl, rfl⟩
  · exact ⟨rfl, rfl⟩

/-- With the rails every domain but D0 falls (R8). -/
theorem execRailsFall_next {s : State} (hrails : s.pwr.rails = true) :
    ∃ t, execRailsFall s = .next t ∧ t.pwr.rails = false ∧ t.pwr.vhold = 0 ∧ t.pwr.charging = false ∧
      t.dom.d4 = false ∧ t.dom.d1 = false ∧ t.dom.d2 = false ∧ t.dom.d3 = false := by
  refine exists_next_of_whenever hrails fun t ht => ?_
  revert ht
  extract_lets time timed
  intro ht
  rw [ht]
  split <;> exact ⟨rfl, rfl, rfl, rfl, rfl, rfl, rfl⟩

/-- Settles O5, clause by clause. A reclaim request is taken where none waits before it (log 14), and the instant of the
timer is the model's own (log 3). -/
theorem resetsComplete : Obligations.ResetsComplete := by
  refine ⟨?_, ?_, ?_, ?_, ?_, ?_, ?_, ?_⟩
  · exact fun _ _ hd4 hlong => execHrstLow_next hd4 hlong
  · exact fun _ hd3 => execWatchdogExpiry_next hd3
  · exact fun _ hd3 => execEnginePoolFault_next hd3
  · exact fun _ hd2 => execTimebaseFault_next hd2
  · exact fun _ hd4 hfactory => execSpyholeReset_next hd4 hfactory
  · exact fun _ _ hdue hd1 => execReclaimTimerExpiry_next hdue hd1
  · exact fun _ hd1 hmay => execReclaim_next hd1 hmay
  · exact fun _ hrails => execRailsFall_next hrails

end Sys2Proof.ResetsReclaim
